-- ==== Sys2Proof/Word.lean ====
section
/-! DEFINITION. The word types of the module and the plainest arithmetic over them (R4: every register is a 32-bit
word; 00_scope.md "Notation": bit 0 is the least significant bit). -/
namespace Sys2Proof

/-- A register word (R4). -/
abbrev Word := BitVec 32
/-- Half of a register word. -/
abbrev W16 := BitVec 16
/-- One byte. -/
abbrev Byte := BitVec 8
/-- A string of bytes, the byte at the lowest offset first. -/
abbrev Bytes := List Byte

/-- Bits `hi` to `lo` of a number, both ends included (00_scope.md "Notation"). -/
def bitsOf (n hi lo : Nat) : Nat := n / 2 ^ lo % 2 ^ (hi + 1 - lo)
/-- Bit `i` of a number. -/
def bitOf (n i : Nat) : Bool := n.testBit i
/-- `n` with bits `hi` to `lo` replaced by the low bits of `v`. -/
def putBits (n hi lo v : Nat) : Nat :=
  n - bitsOf n hi lo * 2 ^ lo + v % 2 ^ (hi + 1 - lo) * 2 ^ lo
/-- 0 or 1. -/
def b2n (b : Bool) : Nat := if b then 1 else 0
/-- `2^32`. -/
def two32 : Nat := 4294967296
/-- The signed reading of the low 32 bits. -/
def sgn32 (n : Nat) : Int := (BitVec.ofNat 32 n).toInt
/-- A signed number as a 32-bit pattern. -/
def u32 (i : Int) : Nat := (BitVec.ofInt 32 i).toNat
/-- The signed reading of the low `w` bits. -/
def sgnW (w n : Nat) : Int := (BitVec.ofNat w n).toInt
/-- A signed number as a `w`-bit pattern. -/
def unsgnW (w : Nat) (i : Int) : Nat := (BitVec.ofInt w i).toNat
/-- A signed number held inside `lo .. hi`. -/
def clampI (lo hi i : Int) : Int := max lo (min hi i)
/-- R13: sample index `a` is later than sample index `b`. -/
def idxLater (a b : Nat) : Bool :=
  let d := (a + two32 - b % two32) % two32
  decide (1 ≤ d) && decide (d ≤ 2147483647)
/-- R13: later or equal. -/
def idxGe (a b : Nat) : Bool := (a % two32 == b % two32) || idxLater a b
/-- The next sample index; the count wraps (R13). -/
def idxAdd (k n : Nat) : Nat := (k + n) % two32
/-- The sample index `n` before `k`. -/
def idxSub (k n : Nat) : Nat := (k + two32 - n % two32) % two32
/-- Little-endian words of a byte string (R4). -/
def leNat : Bytes → Nat
  | [] => 0
  | b :: t => b.toNat + 256 * leNat t
/-- Big-endian number of a byte string (network order). -/
def beNat (l : Bytes) : Nat := l.foldl (fun a b => a * 256 + b.toNat) 0
/-- The `n` little-endian bytes of a number. -/
def leBytes : Nat → Nat → Bytes
  | 0, _ => []
  | n + 1, v => BitVec.ofNat 8 v :: leBytes n (v / 256)
/-- The `n` big-endian bytes of a number. -/
def beBytes (n v : Nat) : Bytes := (leBytes n v).reverse
/-- `n` bytes of `l` from offset `o`. -/
def sliceB (l : Bytes) (o n : Nat) : Bytes := (l.drop o).take n
/-- The element at an index, or a default. -/
def nth {α : Type} (l : List α) (i : Nat) (d : α) : α := l.getD i d
/-- `l` with the element at index `i` changed. -/
def modAt {α : Type} : List α → Nat → (α → α) → List α
  | [], _, _ => []
  | a :: t, 0, f => f a :: t
  | a :: t, i + 1, f => a :: modAt t i f
/-- The numbers `a, a+1, …` of a run of length `n`. -/
def span (a n : Nat) : List Nat := (List.range n).map (a + ·)

end Sys2Proof
end

