-- ==== Sys2Proof/Types.lean ====
section
/-! DEFINITION. The operand types of the commands. The fabric operations (R219 and its neighbours) carry the field values of one operation word of
a segment and the tile pair that executes it. -/
namespace Sys2Proof

/-- The two lane dies (R14, R15). -/
inductive Lane where | a | b
deriving DecidableEq, Repr, Inhabited
/-- Supply inputs (R41, R50). -/
inductive Supply where | vmain | vbkp | vrtc
deriving DecidableEq, Repr, Inhabited
/-- The four dies of Table 01-1. -/
inductive Die where | laneA | laneB | io | sup
deriving DecidableEq, Repr, Inhabited
/-- The access paths of R5: PF0, a virtual function's VI page, the I2C target and the UART. -/
inductive Path where | pf0 | vf (k : Fin 1025) | i2c | uart
deriving DecidableEq, Repr, Inhabited
/-- The windows of PF0 (Table 04-6): the register blocks (BAR0) or the VI pages (BAR2). A VF path always uses its own page. -/
inductive Bar where | bar0 | bar2
deriving DecidableEq, Repr, Inhabited
/-- One 32-bit word of a PCIe access (R4): path, window, byte offset and byte enables. -/
structure Access where
  path : Path
  bar  : Bar
  off  : Word
  be   : BitVec 4
  /-- the access falls in the clock of the command before it (R8, R427); the word names the W1C bits of the register that this
  command sets although they stood -/
  same : Option Word
deriving DecidableEq, Repr

abbrev Vi := Fin 4096
abbrev Polder := Fin 64
/-- A virtual function, 1 to 1024; 0 names none. -/
abbrev Vf := Fin 1025
abbrev Port := Fin 48
/-- A crossbar port: P0-P47, P48 (lanes and sluice), P49 (host), P50 (mate link). -/
abbrev Xport := Fin 51
abbrev Tb := Fin 4
abbrev Cv := Fin 8
abbrev Mc := Fin 24
abbrev Slot := Fin 1024
abbrev Task := Fin 32
abbrev RecUnit := Fin 16
abbrev Tpl := Fin 4096
abbrev Warden := Fin 3
abbrev Pair := Fin 128
/-- A temperature in 1/16 degree C (Table 02-16), two's complement. -/
abbrev Temp := BitVec 16
/-- An interrupt vector: of PF0, or of a VI (R109). -/
inductive Vec where | pf0 (v : Fin 256) | vi (n : Vi) (v : Fin 64)
deriving DecidableEq, Repr, Inhabited
/-- The bank a CFG_CMD names (Table 03-11). -/
inductive Bank where | a | b
deriving DecidableEq, Repr, Inhabited
/-- A frame received at a port (R120): its bytes from the destination address to the FCS, and whether a code error was
found in it. -/
structure RxFrame where
  bytes : Bytes
  codeErr : Bool
deriving DecidableEq, Repr
/-- A transmit descriptor as it stands in host memory (Table 04-10) with the bytes of its buffer; `ok` is false where the
read of the buffer completes with an error. -/
structure HostTxDesc where
  addr : BitVec 64
  len : W16
  flags : W16
  data : Bytes
  ok : Bool
deriving DecidableEq, Repr
/-- How many tide records have reached the MRAM when the last-tide save ends (R333); 2048 or more: all of them, and the
valid mark. -/
abbrev TideReport := Nat
/-- What a power-on measures: the hold-up time at 68 W in us (R44). -/
structure BootInput where
  holdup : W16
deriving DecidableEq, Repr
/-- The outcome of the start-up self-tests (Table 02-8 step 4, R360): whether each lane passed. -/
structure DiagResult where
  laneA : Bool
  laneB : Bool
deriving DecidableEq, Repr
/-- The fields of the mate's fingerprint beacon that the loader reads (Table 03-8, R86): FLAGS, FINGERPRINT, EXCHANGE_INDEX. -/
structure Beacon where
  flags : Byte
  fp : Bytes
  index : Word
deriving DecidableEq, Repr
/-- The security extension of IEC 62351-6 on a frame (R181): the algorithm, the key ID, the initialisation vector and the
authentication value. -/
structure AuthExt where
  gmac : Bool
  keyId : Word
  iv : Bytes
  tag : Bytes
deriving DecidableEq, Repr
/-- An SV or GOOSE frame that reaches ingest: its bytes without frame check sequence and extension, and the extension. -/
structure ProcFrame where
  bytes : Bytes
  ext : Option AuthExt
deriving DecidableEq, Repr
abbrev SvFrame := ProcFrame
abbrev GooseFrame := ProcFrame
/-- Where a word with an uncorrectable error was read (R208): the local store of a pair, or LPDDR on behalf of a pair. -/
inductive EccSrc where | store (t : Pair) | lpddr (t : Pair)
deriving DecidableEq, Repr
/-- A datapath of a lane that is duplicated as leader and shadow (R205, R281, R331), with what its mismatch record names: a tile
pair, and whether in state write-back; a slot of the loop engine with the step of Table 12-2; a pair of the optimiser; a metering point. -/
inductive Dual where
  | tile (t : Pair) (wb : Bool)
  | loop (slot : Slot) (step : Fin 8)
  | optimiser (pair : Fin 16)
  | energy (point : Fin 2048)
deriving DecidableEq, Repr
/-- The fields of a mate status frame (Table 16-7). -/
structure MateStatus where
  flags : Byte
  seq : W16
  serial : BitVec 64
  breach : Word
  index : Word
deriving DecidableEq, Repr
/-- What a write of a function's PCIe configuration space sets (R99, R113, R115): the SR-IOV control word of PF0, NumVFs,
a function's MSI-X enable and function mask, with whether it arrives in the clock in which the function's last message left (R113), its power state. -/
inductive CfgWrite where
  | sriov (ari vfEnable : Bool)
  | numVfs (n : Fin 1025)
  | msix (f : Vf) (enable mask same : Bool)
  | power (f : Vf) (d3hot : Bool)
deriving DecidableEq, Repr
/-- A receiver of decision words (R370): the arbiter, the reset controller of a lane, the resynchronisation engine. -/
inductive Voter where | arbiter | reset (l : Lane) | rsync
deriving DecidableEq, Repr
/-- An operation that a tile issues (R216): the lane and pair, and the fields D, A, B, K, M and payload of its word. -/
structure OpIssue where
  lane : Lane
  pair : Pair
  d : Fin 64
  a : Fin 64
  b : Fin 64
  k : Fin 8
  m : Fin 8
  pay : Word
  /-- words that it read from the local store with a single-bit error, which each half corrects (R208) -/
  ecc : Byte
deriving DecidableEq, Repr

end Sys2Proof
end

