-- ==== Sys2Proof/Syntax.lean ====
section
/-! DEFINITION. The commands of the module. -/
namespace Sys2Proof
/-- The commands of the module, one constructor for each row of spec/opcode_table.json. Those with operands stand first,
since compiled code numbers no more than 245 of them; each group is in the order of the table. -/
inductive Instr where
  /-- REGISTER_WRITE, R7. -/
  | registerWrite (a : Access) (v : Word)
  /-- LOW_WORD_WRITE, R5. -/
  | lowWordWrite (a : Access) (v : Word)
  /-- HIGH_WORD_WRITE, R5. -/
  | highWordWrite (a : Access) (v : Word)
  /-- LOW_WORD_READ, R5. -/
  | lowWordRead (a : Access)
  /-- RC_READ, R7. -/
  | rcRead (a : Access)
  /-- SUPPLY_VALID, R41. -/
  | supplyValid (x : Supply)
  /-- SUPPLY_INVALID, R41. -/
  | supplyInvalid (x : Supply)
  /-- OVER_VOLTAGE_DISCONNECT, R41. -/
  | overVoltageDisconnect (x : Supply)
  /-- OVER_VOLTAGE_RECOVERY, R41. -/
  | overVoltageRecovery (x : Supply)
  /-- POWER_LOSS, R43. -/
  | powerLoss (reached : Fin 8) (tide : TideReport)
  /-- POWER_ON, R46. -/
  | powerOn (b : BootInput)
  /-- IMAGE_COMMIT, R66. -/
  | imageCommit (diag : DiagResult)
  /-- OTW, R58. -/
  | otw (d : Die) (t : Temp)
  /-- THERMAL_TRIP, R58. -/
  | thermalTrip (d : Die) (t : Temp) (reached : Fin 8) (tide : TideReport)
  /-- THERM_RELEASE, R58. -/
  | thermRelease (b : BootInput)
  /-- I2C_WRITE, R59. -/
  | i2cWrite (a : Word) (v : Word) (pec : Byte)
  /-- I2C_READ, R59. -/
  | i2cRead (a : Word) (pec : Byte)
  /-- UART_READ, R60. -/
  | uartRead (a : Word) (crc : W16)
  /-- UART_WRITE, R60. -/
  | uartWrite (a : Word) (v : Word) (crc : W16)
  /-- UART_UNKNOWN_COMMAND, R60. -/
  | uartUnknownCommand (c : Byte)
  /-- KEY_SWITCH_CHANGE, R51. -/
  | keySwitchChange (k1 : Bool) (k0 : Bool)
  /-- WAKE, R32. -/
  | wake (p : Path)
  /-- ERASE, R77. -/
  | erase (b : Bank)
  /-- CFG_WRITE, R77. -/
  | cfgWrite (b : Bank)
  /-- CFG_WRITE_DONE, R77. -/
  | cfgWriteDone (data : Bytes) (ok : Bool)
  /-- VERIFY, R77. -/
  | verify (b : Bank)
  /-- CFG_INVALIDATE, R87. -/
  | cfgInvalidate (b : Bank)
  /-- SLICE_RECHECK, R80. -/
  | sliceRecheck (bad : List (Nat × Lane))
  /-- MATE_BEACON_RX, R86. -/
  | mateBeaconRx (f : Beacon)
  /-- TAG_WRITE, R90. -/
  | tagWrite (p : Path) (i : Fin 64) (v : Word)
  /-- VI_RESET_REQ, R96. -/
  | viResetReq (vi : Vi)
  /-- POLDER_RESET_REQ, R96. -/
  | polderResetReq (p : Fin 4096)
  /-- RESET_CANCEL, R96. -/
  | resetCancel (polder : Bool) (n : Vi)
  /-- VI_CTRL_RESET, R96. -/
  | viCtrlReset (vi : Vi)
  /-- VI_CTRL_CANCEL, R96. -/
  | viCtrlCancel (vi : Vi)
  /-- VF_FLR, R100. -/
  | vfFlr (k : Vf)
  /-- VI_RESET_DONE, R97. -/
  | viResetDone (vi : Vi)
  /-- TX_TAIL_WRITE, R104. -/
  | txTailWrite (vi : Vi) (tail : W16) (descs : List HostTxDesc)
  /-- TX_FETCH_DONE, R105. -/
  | txFetchDone (vi : Vi)
  /-- TX_WRITEBACK, R104. -/
  | txWriteback (vi : Vi)
  /-- TX_ABORT, R105. -/
  | txAbort (vi : Vi)
  /-- RX_TAIL_WRITE, R106. -/
  | rxTailWrite (vi : Vi) (tail : W16) (bufs : List (BitVec 64))
  /-- RX_FRAME_DELIVER, R106. -/
  | rxFrameDeliver (vi : Vi)
  /-- DIRTY_SWAP, R103. -/
  | dirtySwap (f : Vf)
  /-- DIRTY_SWAP_DONE, R103. -/
  | dirtySwapDone (f : Vf)
  /-- VECTOR_EVENT, R111. -/
  | vectorEvent (v : Vec)
  /-- INTERRUPT_ARBITRATION, R112. -/
  | interruptArbitration (e : Vf)
  /-- VEC_EOI, R114. -/
  | vecEoi (v : Vec)
  /-- PORT_RESET, R134. -/
  | portReset (p : Port)
  /-- LINK_UP, R118. -/
  | linkUp (p : Port) (speed : Fin 8)
  /-- LINK_DOWN, R118. -/
  | linkDown (p : Port) (half : Bool)
  /-- RX_FRAME, R124. -/
  | rxFrame (p : Xport) (f : RxFrame)
  /-- CUT_THROUGH_START, R122. -/
  | cutThroughStart (x : Xport)
  /-- EGRESS_START, R146. -/
  | egressStart (x : Xport)
  /-- COPY_TX_END, R135. -/
  | copyTxEnd (x : Xport)
  /-- TB_INCR_WRITE, R159. -/
  | tbIncrWrite (p : Path) (b : Tb) (v : Word)
  /-- SLEW_START, R160. -/
  | slewStart (b : Tb) (v : Word)
  /-- SLEW_DONE, R160. -/
  | slewDone (b : Tb)
  /-- HOLD_TIMEOUT, R165. -/
  | holdTimeout (b : Tb)
  /-- FORCE_HOLD, R165. -/
  | forceHold (b : Tb)
  /-- VALID_LIMIT, R166. -/
  | validLimit (c : Cv)
  /-- OFFSET_WRITE, R163. -/
  | offsetWrite (c : Cv) (v : Word)
  /-- VIEW_STEP, R163. -/
  | viewStep (c : Cv) (v : Word)
  /-- SET_VIEW, R164. -/
  | setView (c : Cv)
  /-- VIEW_SECOND, R173. -/
  | viewSecond (c : Cv)
  /-- PACE_PERIOD_WRITE, R178. -/
  | pacePeriodWrite (p : Path) (v : Word)
  /-- PACE_SHIFT_WRITE, R178. -/
  | paceShiftWrite (v : Word)
  /-- SV_FRAME, R180. -/
  | svFrame (f : SvFrame)
  /-- STREAM_LOST, R183. -/
  | streamLost (i : Fin 1024)
  /-- GOOSE_FRAME, R189. -/
  | gooseFrame (f : GooseFrame)
  /-- GOOSE_TAL_EXPIRE, R190. -/
  | gooseTalExpire (g : Fin 4096)
  /-- MOD_MESSAGE, R191. -/
  | modMessage (m : Mc) (bits : List Bool)
  /-- INGEST_LINK_HOLD, R201. -/
  | ingestLinkHold (l : Lane)
  /-- LANE_BOUNDARY, R227. -/
  | laneBoundary (l : Lane) (ok : Bool)
  /-- LOOP_SLOT_DUE, R270. -/
  | loopSlotDue (l : Lane) (k : Slot)
  /-- CYCLE_DUE, R300. -/
  | cycleDue (l : Lane) (t : Task)
  /-- INPUT_LATCH, R310. -/
  | inputLatch (l : Lane) (t : Task)
  /-- SOLVE_TIMER_DUE, R286. -/
  | solveTimerDue (l : Lane)
  /-- LANE_PREDICTION, R234. -/
  | lanePrediction (l : Lane) (ok : Bool)
  /-- LANE_SAMPLE, R237. -/
  | laneSample (l : Lane) (ok : Bool)
  /-- LANE_MOD, R258. -/
  | laneMod (l : Lane) (ok : Bool)
  /-- LANE_GOOSE, R240. -/
  | laneGoose (l : Lane) (ok : Bool)
  /-- LANE_GOOSE_SUP, R240. -/
  | laneGooseSup (l : Lane) (ok : Bool)
  /-- LANE_GAP, R237. -/
  | laneGap (l : Lane) (ok : Bool)
  /-- LANE_FRAME, R309. -/
  | laneFrame (l : Lane) (ok : Bool)
  /-- DISPATCH_DECISION, R261. -/
  | dispatchDecision (l : Lane)
  /-- HELD_CREATE, R264. -/
  | heldCreate (l : Lane)
  /-- DESC_SELECT, R257. -/
  | descSelect (l : Lane) (v : Word)
  /-- FRAME_FILL_DONE, R210. -/
  | frameFillDone (l : Lane) (t : Pair) (slot : Bool)
  /-- LOCKSTEP_MISMATCH, R207. -/
  | lockstepMismatch (l : Lane) (d : Dual)
  /-- ECC_UNCORRECTABLE, R208. -/
  | eccUncorrectable (l : Lane) (src : EccSrc)
  /-- NOP, R219. -/
  | opNop (i : OpIssue)
  /-- END, R210. -/
  | opEnd (i : OpIssue)
  /-- BRA, R219. -/
  | opBra (i : OpIssue)
  /-- LOOP, R219. -/
  | opLoop (i : OpIssue)
  /-- CALL, R219. -/
  | opCall (i : OpIssue)
  /-- RET, R219. -/
  | opRet (i : OpIssue)
  /-- TBL, R219. -/
  | opTbl (i : OpIssue)
  /-- CLR, R219. -/
  | opClr (i : OpIssue)
  /-- LDV, R219. -/
  | opLdv (i : OpIssue)
  /-- STV, R219. -/
  | opStv (i : OpIssue)
  /-- LDS, R219. -/
  | opLds (i : OpIssue)
  /-- STS, R219. -/
  | opSts (i : OpIssue)
  /-- MOVI, R219. -/
  | opMovi (i : OpIssue)
  /-- MOV, R219. -/
  | opMov (i : OpIssue)
  /-- PERM, R219. -/
  | opPerm (i : OpIssue)
  /-- SEL, R219. -/
  | opSel (i : OpIssue)
  /-- FADD, R219. -/
  | opFadd (i : OpIssue)
  /-- FSUB, R219. -/
  | opFsub (i : OpIssue)
  /-- FMUL, R219. -/
  | opFmul (i : OpIssue)
  /-- FMA, R219. -/
  | opFma (i : OpIssue)
  /-- FMS, R219. -/
  | opFms (i : OpIssue)
  /-- FDIV, R219. -/
  | opFdiv (i : OpIssue)
  /-- FSQRT, R219. -/
  | opFsqrt (i : OpIssue)
  /-- FABS, R219. -/
  | opFabs (i : OpIssue)
  /-- FNEG, R219. -/
  | opFneg (i : OpIssue)
  /-- FMIN, R219. -/
  | opFmin (i : OpIssue)
  /-- FMAX, R219. -/
  | opFmax (i : OpIssue)
  /-- FHSUM, R219. -/
  | opFhsum (i : OpIssue)
  /-- FCVTI, R219. -/
  | opFcvti (i : OpIssue)
  /-- ICVTF, R219. -/
  | opIcvtf (i : OpIssue)
  /-- FATAN2, R219. -/
  | opFatan2 (i : OpIssue)
  /-- FSINCOS, R219. -/
  | opFsincos (i : OpIssue)
  /-- IADD, R219. -/
  | opIadd (i : OpIssue)
  /-- ISUB, R219. -/
  | opIsub (i : OpIssue)
  /-- IMUL, R219. -/
  | opImul (i : OpIssue)
  /-- IMULH, R219. -/
  | opImulh (i : OpIssue)
  /-- IADDI, R219. -/
  | opIaddi (i : OpIssue)
  /-- ISHL, R219. -/
  | opIshl (i : OpIssue)
  /-- ISHR, R219. -/
  | opIshr (i : OpIssue)
  /-- ILSR, R219. -/
  | opIlsr (i : OpIssue)
  /-- IAND, R219. -/
  | opIand (i : OpIssue)
  /-- IOR, R219. -/
  | opIor (i : OpIssue)
  /-- IXOR, R219. -/
  | opIxor (i : OpIssue)
  /-- INOT, R219. -/
  | opInot (i : OpIssue)
  /-- IMIN, R219. -/
  | opImin (i : OpIssue)
  /-- IMAX, R219. -/
  | opImax (i : OpIssue)
  /-- IABS, R219. -/
  | opIabs (i : OpIssue)
  /-- IBITS, R219. -/
  | opIbits (i : OpIssue)
  /-- FCMP, R219. -/
  | opFcmp (i : OpIssue)
  /-- ICMP, R219. -/
  | opIcmp (i : OpIssue)
  /-- KAND, R219. -/
  | opKand (i : OpIssue)
  /-- KOR, R219. -/
  | opKor (i : OpIssue)
  /-- KXOR, R219. -/
  | opKxor (i : OpIssue)
  /-- KNOT, R219. -/
  | opKnot (i : OpIssue)
  /-- KMOV, R219. -/
  | opKmov (i : OpIssue)
  /-- HYST, R220. -/
  | opHyst (i : OpIssue)
  /-- SMP, R219. -/
  | opSmp (i : OpIssue)
  /-- SMPQ, R219. -/
  | opSmpq (i : OpIssue)
  /-- SMPV, R219. -/
  | opSmpv (i : OpIssue)
  /-- MODS, R219. -/
  | opMods (i : OpIssue)
  /-- GOIN, R219. -/
  | opGoin (i : OpIssue)
  /-- GOST, R219. -/
  | opGost (i : OpIssue)
  /-- FRIN, R219. -/
  | opFrin (i : OpIssue)
  /-- IDX, R219. -/
  | opIdx (i : OpIssue)
  /-- FIR, R220. -/
  | opFir (i : OpIssue)
  /-- PHASOR, R220. -/
  | opPhasor (i : OpIssue)
  /-- RMS, R220. -/
  | opRms (i : OpIssue)
  /-- PEAK, R219. -/
  | opPeak (i : OpIssue)
  /-- DIFF, R219. -/
  | opDiff (i : OpIssue)
  /-- PMAG, R219. -/
  | opPmag (i : OpIssue)
  /-- CMUL, R221. -/
  | opCmul (i : OpIssue)
  /-- CDIV, R221. -/
  | opCdiv (i : OpIssue)
  /-- SEQ, R221. -/
  | opSeq (i : OpIssue)
  /-- HIST, R220. -/
  | opHist (i : OpIssue)
  /-- BIQUAD, R220. -/
  | opBiquad (i : OpIssue)
  /-- RAMP, R219. -/
  | opRamp (i : OpIssue)
  /-- POLY, R219. -/
  | opPoly (i : OpIssue)
  /-- LUT, R220. -/
  | opLut (i : OpIssue)
  /-- QUAD, R221. -/
  | opQuad (i : OpIssue)
  /-- MHO, R221. -/
  | opMho (i : OpIssue)
  /-- TON, R222. -/
  | opTon (i : OpIssue)
  /-- TOF, R222. -/
  | opTof (i : OpIssue)
  /-- PULSE, R222. -/
  | opPulse (i : OpIssue)
  /-- IDMT, R223. -/
  | opIdmt (i : OpIssue)
  /-- EDGE, R222. -/
  | opEdge (i : OpIssue)
  /-- LATCH, R222. -/
  | opLatch (i : OpIssue)
  /-- CNT, R222. -/
  | opCnt (i : OpIssue)
  /-- TVAL, R219. -/
  | opTval (i : OpIssue)
  /-- PUBW, R224. -/
  | opPubw (i : OpIssue)
  /-- PUBB, R224. -/
  | opPubb (i : OpIssue)
  /-- PUBQ, R224. -/
  | opPubq (i : OpIssue)
  /-- PUB, R224. -/
  | opPub (i : OpIssue)
  /-- DOUT, R224. -/
  | opDout (i : OpIssue)
  /-- XOUT, R224. -/
  | opXout (i : OpIssue)
  /-- RECW, R224. -/
  | opRecw (i : OpIssue)
  /-- SIG, R224. -/
  | opSig (i : OpIssue)
  /-- STEP_EXCHANGE_RX, R362. -/
  | stepExchangeRx (ok : Bool)
  /-- STEP_ACK_RX, R362. -/
  | stepAckRx (ok : Bool)
  /-- LOOP_STEP, R275. -/
  | loopStep (l : Lane) (k : Slot)
  /-- SOLVE_END, R288. -/
  | solveEnd (l : Lane)
  /-- FINISH_REPORT_RX, R291. -/
  | finishReportRx (l : Lane) (ok : Bool)
  /-- CPE_EVENT, R312. -/
  | cpeEvent (n : Fin 64)
  /-- CPE_RESTART, R300. -/
  | cpeRestart (t : Task)
  /-- PW_DATA_WRITE, R306. -/
  | pwDataWrite (v : Word)
  /-- MODE_CHANGE, R306. -/
  | modeChange (l : Lane)
  /-- RETAINED_SAVE, R313. -/
  | retainedSave (t : Task)
  /-- REC_ARM, R345. -/
  | recArm (u : RecUnit)
  /-- REC_STOP, R346. -/
  | recStop (u : RecUnit)
  /-- REC_DISCARD, R348. -/
  | recDiscard (u : RecUnit) (b : Fin 8)
  /-- REC_RELEASE, R348. -/
  | recRelease (u : RecUnit) (b : Fin 8)
  /-- REC_EXPORT, R348. -/
  | recExport (u : RecUnit) (b : Fin 8)
  /-- ACQ_FRAME_WRITE, R341. -/
  | acqFrameWrite (l : Lane) (u : RecUnit)
  /-- RECORD_COMMIT, R348. -/
  | recordCommit (l : Lane) (u : RecUnit)
  /-- HOLDOFF_DONE, R346. -/
  | holdoffDone (l : Lane) (u : RecUnit)
  /-- SLU_PROV_RX, R245. -/
  | sluProvRx (l : Lane) (ok : Bool)
  /-- SLU_FINAL_RX, R246. -/
  | sluFinalRx (l : Lane) (ok : Bool)
  /-- SLU_CONFIRM_RX, R246. -/
  | sluConfirmRx (l : Lane) (ok : Bool)
  /-- SLU_SQUASH_RX, R239. -/
  | sluSquashRx (l : Lane) (ok : Bool)
  /-- SLU_NONE_RX, R252. -/
  | sluNoneRx (l : Lane) (ok : Bool)
  /-- SLU_DONE_RX, R243. -/
  | sluDoneRx (l : Lane) (ok : Bool)
  /-- SLU_LANE_STOP_RX, R251. -/
  | sluLaneStopRx (l : Lane) (ok : Bool)
  /-- SLU_TRIG_RX, R349. -/
  | sluTrigRx (l : Lane) (ok : Bool)
  /-- GOOSE_RETRANSMIT, R247. -/
  | gooseRetransmit (t : Tpl)
  /-- DOUT_MIN_ON_END, R248. -/
  | doutMinOnEnd (n : Fin 16)
  /-- CMP_WINDOW_EXPIRE, R252. -/
  | cmpWindowExpire (l : Lane) (v : Vi) (k : Word)
  /-- WARDEN_DECISION, R369. -/
  | wardenDecision (w : Warden) (island : Option (Warden × Bool))
  /-- VOTE_APPLY, R370. -/
  | voteApply (v : Voter)
  /-- HEALTH_FAULT, R366. -/
  | healthFault (l : Lane) (b : Fin 12)
  /-- WDN_REPAIR, R367. -/
  | wdnRepair (l : Lane)
  /-- WARDEN_RESTART, R371. -/
  | wardenRestart (w : Warden)
  /-- WARDEN_RESTART_DONE, R371. -/
  | wardenRestartDone (w : Warden)
  /-- RETIRE, R367. -/
  | retire (l : Lane)
  /-- RSYNC_PHASE_END, R374. -/
  | rsyncPhaseEnd (ok : Bool) (failed : List Pair)
  /-- MATE_STATUS_RX, R382. -/
  | mateStatusRx (f : MateStatus)
  /-- PROGRAM, R401. -/
  | program (slot : Byte)
  /-- REVOKE, R404. -/
  | revoke (slot : Byte)
  /-- GENERATE, R402. -/
  | generate (slot : Byte)
  /-- LOAD, R405. -/
  | load (slot : Byte)
  /-- LOAD_WRAPPED, R400. -/
  | loadWrapped (slot : Byte)
  /-- INVALIDATE, R405. -/
  | invalidate (slot : Byte)
  /-- SIGN, R400. -/
  | sign (slot : Byte)
  /-- ATTEST, R403. -/
  | attest (slot : Byte)
  /-- PUBKEY, R400. -/
  | pubkey (slot : Byte)
  /-- KEY_ABORT, R401. -/
  | keyAbort (late : Bool)
  /-- TAMPER_ALARM, R407. -/
  | tamperAlarm (n : Fin 4) (late : Bool)
  /-- EVT_SW_CMD, R359. -/
  | evtSwCmd (v : Word)
  /-- CURSOR_WRITE, R358. -/
  | cursorWrite (p : Path) (v : Word)
  /-- CURSOR_NEXT, R358. -/
  | cursorNext (p : Path)
  /-- CURSOR_PREV, R358. -/
  | cursorPrev (p : Path)
  /-- WINDOW_LATCH, R358. -/
  | windowLatch (p : Path)
  /-- ALARM_TARGET_WRITE, R424. -/
  | alarmTargetWrite (n : Fin 2) (t : BitVec 48)
  /-- ALARM_CTRL_WRITE, R424. -/
  | alarmCtrlWrite (n : Fin 2) (v : Word)
  /-- TRIG_IN_EDGE, R343. -/
  | trigInEdge (n : Fin 4) (rising : Bool)
  /-- PCIE_CONFIG_WRITE, R99. -/
  | pcieConfigWrite (w : CfgWrite)
  /-- TX_ABORT_DONE, R105. -/
  | txAbortDone (vi : Vi)
  /-- RX_WAIT_EXPIRE, R107. -/
  | rxWaitExpire (vi : Vi)
  /-- COAL_TIMEOUT, R111. -/
  | coalTimeout (v : Vec)
  /-- VECTOR_MASK, R113. -/
  | vectorMask (v : Vec) (same : Bool)
  /-- TX_UNDERRUN, R126. -/
  | txUnderrun (p : Port) (sent : Fin 9216)
  /-- LPI_ENTER, R127. -/
  | lpiEnter (p : Port)
  /-- LPI_WAKE_END, R128. -/
  | lpiWakeEnd (p : Port)
  /-- PORT_SNAP_THIS, R131. -/
  | portSnapThis (p : Port)
  /-- MDIO_ADDRESS, R132. -/
  | mdioAddress (v : Word)
  /-- MDIO_WRITE, R132. -/
  | mdioWrite (v : Word)
  /-- MDIO_READ, R132. -/
  | mdioRead (v : Word)
  /-- MDIO_DONE, R132. -/
  | mdioDone (data : W16)
  /-- CAGE_READ, R132. -/
  | cageRead (v : Word)
  /-- CAGE_WRITE, R132. -/
  | cageWrite (v : Word)
  /-- CAGE_DONE, R132. -/
  | cageDone (data : Byte) (ack : Bool)
  /-- FDB_AGE_OUT, R143. -/
  | fdbAgeOut (i : Fin 32768)
  /-- RED_ENTRY_FORGET, R151. -/
  | redEntryForget (n : Fin 4) (src : BitVec 48) (seq : W16)
  /-- RED_SUPERVISION_SEND, R152. -/
  | redSupervisionSend (n : Fin 4)
  /-- TC_FOLLOWUP_TIMEOUT, R153. -/
  | tcFollowupTimeout (p : Port) (seq : W16)
  /-- MC_FAULT, R194. -/
  | mcFault (m : Mc)
  /-- MC_LEVEL_CHANGE, R194. -/
  | mcLevelChange (m : Mc)
  /-- MC_SETTLED, R194. -/
  | mcSettled (m : Mc)
  /-- COEF_SEL_WRITE, R195. -/
  | coefSelWrite (m : Mc) (v : Word)
  /-- HARM_WINDOW_DONE, R330. -/
  | harmWindowDone (l : Lane) (an : Fin 64)
  /-- REC_DISARM, R345. -/
  | recDisarm (u : RecUnit)
  /-- TRIG_OUT_PULSE_END, R349. -/
  | trigOutPulseEnd (n : Fin 4)
  /-- PATROL_SET_DONE, R368. -/
  | patrolSetDone (l : Lane) (t : Pair) (ok : Bool)
  /-- PATROL_LATE, R368. -/
  | patrolLate (l : Lane) (t : Pair)
  /-- SCRUB_PASS_DONE, R368. -/
  | scrubPassDone (l : Lane) (errs bad : W16) (used : Bool)
  /-- COMP_SELF_CHECK, R368. -/
  | compSelfCheck (l : Lane) (ok : Bool)
  /-- TAMPER_RETURN, R407. -/
  | tamperReturn (n : Fin 4)
  /-- RTC_TEMP_SAMPLE, R414. -/
  | rtcTempSample (t : Temp)
  /-- LPI_RECEIVED, R128. -/
  | lpiReceived (p : Port)
  /-- TRANSFER_TO_MAIN, R42. -/
  | transferToMain
  /-- NRESET, R47. -/
  | nreset
  /-- OP_HOURS_COMMIT, R62. -/
  | opHoursCommit
  /-- UART_BYTE_GAP, R60. -/
  | uartByteGap
  /-- ENTER_LOW_TIDE, R31. -/
  | enterLowTide
  /-- LOW_TIDE_ENTERED, R31. -/
  | lowTideEntered
  /-- LOW_TIDE_EXIT_DONE, R26. -/
  | lowTideExitDone
  /-- PCIE_PERST_RELEASE, R69. -/
  | pciePerstRelease
  /-- PCIE_LINK_UP, R69. -/
  | pcieLinkUp
  /-- ERASE_DONE, R77. -/
  | eraseDone
  /-- VERIFY_DONE, R77. -/
  | verifyDone
  /-- STAGE, R81. -/
  | stage
  /-- STAGE_DONE, R81. -/
  | stageDone
  /-- EXCHANGE, R82. -/
  | exchange
  /-- EXCHANGE_COMMIT, R82. -/
  | exchangeCommit
  /-- CFG_ABORT, R84. -/
  | cfgAbort (late : Bool)
  /-- WARM, R71. -/
  | warm
  /-- RELEASE, R70. -/
  | release
  /-- BEACON_SEND, R85. -/
  | beaconSend
  /-- MATE_BEACON_LOSS, R86. -/
  | mateBeaconLoss
  /-- TAG_STORE_DONE, R90. -/
  | tagStoreDone
  /-- TAG_LOCK, R90. -/
  | tagLock
  /-- PF0_FLR, R100. -/
  | pf0Flr
  /-- INGEST_WINDOW, R93. -/
  | ingestWindow
  /-- IRQ_TOKEN_REFILL, R93. -/
  | irqTokenRefill
  /-- PORT_SNAP_ALL, R131. -/
  | portSnapAll
  /-- PHY_INT, R132. -/
  | phyInt
  /-- CROSSBAR_CELL_TIME, R139. -/
  | crossbarCellTime
  /-- AGE_SWEEP, R147. -/
  | ageSweep
  /-- CANCEL_SET, R164. -/
  | cancelSet
  /-- PPS_IN_EDGE, R172. -/
  | ppsInEdge
  /-- PPS_OUT_END, R173. -/
  | ppsOutEnd
  /-- REF_LOST, R158. -/
  | refLost
  /-- REF_BACK, R158. -/
  | refBack
  /-- SAMPLE_BOUNDARY, R177. -/
  | sampleBoundary
  /-- SAMPLE_DEADLINE, R184. -/
  | sampleDeadline
  /-- INGEST_FRAME, R197. -/
  | ingestFrame
  /-- MC_START, R194. -/
  | mcStart
  /-- MC_STOP, R194. -/
  | mcStop
  /-- ING_SYNC, R196. -/
  | ingSync
  /-- SYNC_IN_EDGE, R196. -/
  | syncInEdge
  /-- ENERGY_SAVE_DUE, R331. -/
  | energySaveDue
  /-- STEP_EXCHANGE_TIMEOUT, R363. -/
  | stepExchangeTimeout
  /-- TRACE_TRIG, R282. -/
  | traceTrig
  /-- TRACE_ARM, R282. -/
  | traceArm
  /-- SOLVE, R286. -/
  | solve
  /-- PUBLISH, R285. -/
  | publish
  /-- OPT_ABORT, R292. -/
  | optAbort
  /-- COLD, R289. -/
  | cold
  /-- CPE_RUN, R305. -/
  | cpeRun
  /-- CPE_HALT, R305. -/
  | cpeHalt
  /-- NRG_SAVE, R331. -/
  | nrgSave
  /-- DEM_END, R326. -/
  | demEnd
  /-- MAXDEM_CLEAR, R327. -/
  | maxdemClear
  /-- ENERGY_SAVE_COMMIT, R331. -/
  | energySaveCommit
  /-- ENERGY_SAVE_FAIL, R331. -/
  | energySaveFail
  /-- REC_TRIGGER, R343. -/
  | recTrigger
  /-- EXPORT_DONE, R348. -/
  | exportDone
  /-- DIV_REARM, R252. -/
  | divRearm
  /-- SPLIT_END, R371. -/
  | splitEnd
  /-- WDN_SWITCH, R372. -/
  | wdnSwitch
  /-- ABORT_RSYNC, R377. -/
  | abortRsync
  /-- DIV_CLEAR, R364. -/
  | divClear
  /-- IO_FAULT, R379. -/
  | ioFault
  /-- MATE_STATUS_SEND, R381. -/
  | mateStatusSend
  /-- MATE_STATUS_LOSS, R382. -/
  | mateStatusLoss
  /-- SEEPAGE_TICK, R389. -/
  | seepageTick
  /-- SEEPAGE_EVALUATE, R391. -/
  | seepageEvaluate
  /-- UNFREEZE, R392. -/
  | unfreeze
  /-- SEP_CLEAR, R392. -/
  | sepClear
  /-- KEY_OP_DONE, R400. -/
  | keyOpDone (burned : Bool)
  /-- EVENT_RECORD_WRITE, R353. -/
  | eventRecordWrite
  /-- RTC_DOMAIN_START, R413. -/
  | rtcDomainStart
  /-- RTC_SECOND, R416. -/
  | rtcSecond
  /-- TRIM_PERIOD, R418. -/
  | trimPeriod
  /-- OSC_STOP, R415. -/
  | oscStop
  /-- OSC_RESUME, R415. -/
  | oscResume
  /-- RTC_SET, R421. -/
  | rtcSet
  /-- RTC_SET_APPLY, R421. -/
  | rtcSetApply
  /-- RTC_SYNC, R422. -/
  | rtcSync
  /-- CANCEL_SYNC, R422. -/
  | cancelSync
  /-- VRTC_LOW, R50. -/
  | vrtcLow
deriving DecidableEq, Repr

end Sys2Proof
end

