-- ==== Sys2Proof/Machine/Crypto.lean ====
section
/-! DEFINITION. The published functions the spec names: CRC-8 (R59), CRC-16/CCITT (R353), CRC-32 (R64, the FCS),
CRC-32C (R197), SHA-256 (R72), ECDSA over NIST P-256 (R72, R402), AES, GMAC and AES key wrap (18_keys_tamper.md). -/
namespace Sys2Proof.Machine

/-! ### Cyclic redundancy checks -/

/-- One bit of a CRC that shifts left, of width `w`. -/
def crcLStep (w poly c : Nat) : Nat :=
  if c.testBit (w - 1) then (2 * c % 2 ^ w).xor poly else 2 * c % 2 ^ w
/-- A function applied `n` times. -/
def iter {α : Type} (f : α → α) : Nat → α → α
  | 0, a => a
  | n + 1, a => iter f n (f a)
/-- A CRC that shifts left, of width `w` at least 8, from an initial value. -/
def crcL (w poly init : Nat) (l : Bytes) : Nat :=
  l.foldl (fun c b => iter (crcLStep w poly) 8 (c.xor (b.toNat * 2 ^ (w - 8)))) init
/-- The SMBus PEC: polynomial 0x07, initial value 0 (R59). -/
def crc8 (l : Bytes) : Nat := crcL 8 7 0 l
/-- CRC-16/CCITT: polynomial 0x1021, initial value 0xFFFF (R353). -/
def crc16 (l : Bytes) : Nat := crcL 16 0x1021 0xFFFF l
/-- One bit of a CRC that shifts right. -/
def crcRStep (poly c : Nat) : Nat := if c % 2 = 1 then (c / 2).xor poly else c / 2
/-- A 32-bit CRC that shifts right, initial value and final complement all ones. -/
def crcR (poly : Nat) (l : Bytes) : Nat :=
  (l.foldl (fun c b => iter (crcRStep poly) 8 (c.xor b.toNat)) 4294967295).xor 4294967295
/-- CRC-32 of IEEE 802.3, the frame check sequence. -/
def crc32 (l : Bytes) : Nat := crcR 0xEDB88320 l
/-- CRC-32C. -/
def crc32c (l : Bytes) : Nat := crcR 0x82F63B78 l

/-! ### SHA-256 -/

/-- The first primes, from which the constants of SHA-256 come. -/
def primes64 : List Nat :=
  [2, 3, 5, 7, 11, 13, 17, 19, 23, 29, 31, 37, 41, 43, 47, 53, 59, 61, 67, 71, 73, 79, 83, 89, 97, 101, 103, 107, 109,
   113, 127, 131] ++
  [137, 139, 149, 151, 157, 163, 167, 173, 179, 181, 191, 193, 197, 199, 211, 223, 227, 229, 233, 239, 241, 251, 257, 263,
   269, 271, 277, 281, 283, 293, 307, 311]
/-- The largest `x` below `2^bits` with `x^k ≤ n`. -/
def rootFloor (k n bits : Nat) : Nat :=
  (List.range bits).foldl (fun x i => let y := x + 2 ^ (bits - 1 - i); if y ^ k ≤ n then y else x) 0
/-- The first 32 bits of the fractional part of the k-th root of a prime. -/
def shaConst (k p : Nat) : Nat := rootFloor k (p * 2 ^ (32 * k)) 37 % 4294967296
def shaK : List Nat := primes64.map (shaConst 3)
def shaH : List Nat := (primes64.take 8).map (shaConst 2)
/-- Rotation right of a 32-bit word. -/
def rotr (n x : Nat) : Nat := (x / 2 ^ n) ||| (x * 2 ^ (32 - n) % 4294967296)
def shaSmall (a b c x : Nat) : Nat := ((rotr a x).xor (rotr b x)).xor (x / 2 ^ c)
def shaBig (a b c x : Nat) : Nat := ((rotr a x).xor (rotr b x)).xor (rotr c x)
/-- The message schedule, newest word first. -/
def shaExpand : Nat → List Nat → List Nat
  | 0, w => w
  | n + 1, w =>
    let x := shaSmall 17 19 10 (nth w 1 0) + nth w 6 0 + shaSmall 7 18 3 (nth w 14 0) + nth w 15 0
    shaExpand n (x % 4294967296 :: w)
/-- One round. -/
def shaRound (h : List Nat) (kw : Nat) : List Nat :=
  match h with
  | [a, b, c, d, e, f, g, hh] =>
    let t1 := hh + shaBig 6 11 25 e + ((e.land f).xor ((4294967295 - e).land g)) + kw
    let t2 := shaBig 2 13 22 a + (((a.land b).xor (a.land c)).xor (b.land c))
    [(t1 + t2) % 4294967296, a, b, c, (d + t1) % 4294967296, e, f, g]
  | x => x
/-- One block of 16 words. -/
def shaBlock (h blk : List Nat) : List Nat :=
  let w := (shaExpand 48 blk.reverse).reverse
  let r := (List.zipWith (· + ·) shaK w).foldl shaRound h
  List.zipWith (fun a b => (a + b) % 4294967296) h r
/-- The big-endian words of a byte string. -/
def beWords : Bytes → List Nat
  | a :: b :: c :: d :: t => beNat [a, b, c, d] :: beWords t
  | _ => []
/-- The blocks of a padded message. -/
def shaBlocks : Nat → List Nat → List Nat → List Nat
  | 0, h, _ => h
  | n + 1, h, w => shaBlocks n (shaBlock h (w.take 16)) (w.drop 16)
/-- SHA-256 (FIPS 180-4). -/
def sha256 (m : Bytes) : Bytes :=
  let len := m.length
  let z := (119 - len % 64) % 64
  let p := m ++ [128#8] ++ List.replicate z 0#8 ++ beBytes 8 (8 * len)
  (shaBlocks (p.length / 64) shaH (beWords p)).flatMap (beBytes 4)

/-! ### ECDSA over P-256 -/

def p256P : Nat := 2 ^ 256 - 2 ^ 224 + 2 ^ 192 + 2 ^ 96 - 1
def p256N : Nat := 0xFFFFFFFF00000000FFFFFFFFFFFFFFFFBCE6FAADA7179E84F3B9CAC2FC632551
def p256B : Nat := 0x5AC635D8AA3A93E7B3EBBD55769886BC651D06B0CC53B0F63BCE3C3E27D2604B
def p256Gx : Nat := 0x6B17D1F2E12C4247F8BCE6E563A440F277037D812DEB33A0F4A13945D898C296
def p256Gy : Nat := 0x4FE342E2FE1A7F9B8EE7EB4A7C0F9E162BCE33576B315ECECBB6406837BF51F5
/-- `b ^ e mod m` for an exponent of at most `n` bits. -/
def powMod (m : Nat) : Nat → Nat → Nat → Nat
  | 0, _, _ => 1 % m
  | n + 1, b, e =>
    let r := powMod m n (b * b % m) (e / 2)
    if e % 2 = 1 then b * r % m else r
/-- The inverse modulo a prime. -/
def invMod (m a : Nat) : Nat := powMod m 257 (a % m) (m - 2)
/-- A point of the curve; none is the point at infinity. -/
abbrev EcPoint := Option (Nat × Nat)
/-- The sum of two points. -/
def ecAdd : EcPoint → EcPoint → EcPoint
  | none, q => q
  | p, none => p
  | some (x1, y1), some (x2, y2) =>
    let P := p256P
    if x1 = x2 ∧ (y1 + y2) % P = 0 then none
    else
      let lam := if x1 = x2 then (3 * x1 * x1 + P - 3) * invMod P (2 * y1) % P
        else (y2 + P - y1) * invMod P (x2 + P - x1) % P
      let x3 := (lam * lam + 2 * P - x1 - x2) % P
      some (x3, (lam * (x1 + P - x3) + P - y1) % P)
/-- `k` times a point, for `k` of at most `n` bits. -/
def ecMul : Nat → Nat → EcPoint → EcPoint
  | 0, _, _ => none
  | n + 1, k, p =>
    let r := ecMul n (k / 2) (ecAdd p p)
    if k % 2 = 1 then ecAdd p r else r
def ecG : EcPoint := some (p256Gx, p256Gy)
/-- The point lies on the curve. -/
def ecOn (x y : Nat) : Bool :=
  decide (x < p256P) && decide (y < p256P) && decide (y * y % p256P = (x * x * x + (p256P - 3) * x + p256B) % p256P)
/-- A signature (r, s) of a digest verifies with the public key (x, y). -/
def ecdsaVerify (x y : Nat) (digest sig : Bytes) : Bool :=
  let r := beNat (sig.take 32)
  let s := beNat ((sig.drop 32).take 32)
  let e := beNat digest
  if !ecOn x y || r == 0 || s == 0 || decide (p256N ≤ r) || decide (p256N ≤ s) then false
  else
    let w := invMod p256N s
    match ecAdd (ecMul 256 (e * w % p256N) ecG) (ecMul 256 (r * w % p256N) (some (x, y))) with
    | some (vx, _) => vx % p256N == r
    | none => false
/-- The public key of a private key, x then y. -/
def ecdsaPub (d : Nat) : Bytes :=
  match ecMul 256 d ecG with
  | some (x, y) => beBytes 32 x ++ beBytes 32 y
  | none => List.replicate 64 0#8
/-- The signature of a digest with a private key and a secret number k. -/
def ecdsaSign (d k : Nat) (digest : Bytes) : Bytes :=
  match ecMul 256 k ecG with
  | some (x, _) =>
    let r := x % p256N
    beBytes 32 r ++ beBytes 32 (invMod p256N k * ((beNat digest + r * d) % p256N) % p256N)
  | none => List.replicate 64 0#8

/-! ### AES, GMAC, key wrap -/

/-- Multiplication in GF(2^8) modulo x^8 + x^4 + x^3 + x + 1. -/
def gfMul : Nat → Nat → Nat → Nat
  | 0, _, _ => 0
  | n + 1, a, b =>
    let r := gfMul n (if a.testBit 7 then (2 * a % 256).xor 0x1B else 2 * a) (b / 2)
    if b % 2 = 1 then a.xor r else r
def gmul (a b : Nat) : Nat := gfMul 8 a b
/-- `a^254`, the inverse in GF(2^8). -/
def gfInv (a : Nat) : Nat :=
  let a2 := gmul a a; let a4 := gmul a2 a2; let a8 := gmul a4 a4; let a16 := gmul a8 a8
  let a32 := gmul a16 a16; let a64 := gmul a32 a32; let a128 := gmul a64 a64
  gmul (gmul (gmul a2 a4) (gmul a8 a16)) (gmul (gmul a32 a64) a128)
def rotl8 (n x : Nat) : Nat := (x * 2 ^ n % 256) ||| (x / 2 ^ (8 - n))
/-- The S-box of AES. -/
def sboxOf (a : Nat) : Nat :=
  let b := gfInv a
  ((((b.xor (rotl8 1 b)).xor (rotl8 2 b)).xor (rotl8 3 b)).xor (rotl8 4 b)).xor 0x63
def sboxTab : List Nat := (List.range 256).map sboxOf
def sbox (a : Nat) : Nat := nth sboxTab a 0
/-- The inverse S-box. -/
def invSboxTab : List Nat := (List.range 256).map (fun v => sboxTab.findIdx (· == v))
def xorL (a b : List Nat) : List Nat := List.zipWith Nat.xor a b
/-- The key schedule: the words of the expanded key, newest first. -/
def aesExpand (nk : Nat) : Nat → Nat → Nat → List (List Nat) → List (List Nat)
  | 0, _, _, w => w
  | n + 1, i, rcon, w =>
    let t := nth w 0 []
    let t' := if i % nk = 0 then
        match (t.rotateLeft 1).map sbox with
        | a :: r => a.xor rcon :: r
        | [] => []
      else if 6 < nk ∧ i % nk = 4 then t.map sbox else t
    let rc := if i % nk = 0 then gmul rcon 2 else rcon
    aesExpand nk n (i + 1) rc (xorL (nth w (nk - 1) []) t' :: w)
/-- Lists of `n` consecutive elements. -/
def chunks {α : Type} (n : Nat) : Nat → List α → List (List α)
  | 0, _ => []
  | c + 1, l => l.take n :: chunks n c (l.drop n)
/-- The round keys of AES, each of 16 bytes. -/
def aesKeys (key : List Nat) : List (List Nat) :=
  let nk := key.length / 4
  let w := (aesExpand nk (4 * (nk + 7) - nk) nk 1 (chunks 4 nk key).reverse).reverse
  (chunks 4 (nk + 7) w).map (fun l => l.flatMap id)
def shiftRows (s : List Nat) : List Nat := (List.range 16).map (fun i => nth s ((i + 4 * (i % 4)) % 16) 0)
def invShiftRows (s : List Nat) : List Nat := (List.range 16).map (fun i => nth s ((i + 12 * (i % 4)) % 16) 0)
/-- One column times a circulant matrix. -/
def mixCol (m c : List Nat) : List Nat :=
  (List.range 4).map (fun r => (List.range 4).foldl (fun a j => a.xor (gmul (nth m ((j + 4 - r) % 4) 0) (nth c j 0))) 0)
def mixCols (m s : List Nat) : List Nat := (chunks 4 4 s).flatMap (mixCol m)
/-- AES encryption of one block (FIPS 197). -/
def aesEnc (key blk : List Nat) : List Nat :=
  let ks := aesKeys key
  let nr := ks.length - 1
  let s0 := xorL blk (nth ks 0 [])
  let s1 := (span 1 (nr - 1)).foldl
    (fun s r => xorL (mixCols [2, 3, 1, 1] (shiftRows (s.map sbox))) (nth ks r [])) s0
  xorL (shiftRows (s1.map sbox)) (nth ks nr [])
/-- AES decryption of one block. -/
def aesDec (key blk : List Nat) : List Nat :=
  let ks := aesKeys key
  let nr := ks.length - 1
  let inv := fun (s : List Nat) => (invShiftRows s).map (fun a => nth invSboxTab a 0)
  let s1 := (span 1 (nr - 1)).foldl
    (fun s r => mixCols [14, 11, 13, 9] (xorL (inv s) (nth ks (nr - r) []))) (xorL blk (nth ks nr []))
  xorL (inv s1) (nth ks 0 [])
/-- Multiplication in GF(2^128) as GHASH defines it. -/
def ghMul : Nat → Nat → Nat → Nat
  | 0, _, _ => 0
  | n + 1, x, v =>
    let v' := if v % 2 = 1 then (v / 2).xor (0xE1 * 2 ^ 120) else v / 2
    let r := ghMul n (2 * x) v'
    if x.testBit 127 then v.xor r else r
/-- GHASH over 16-byte blocks. -/
def ghash (h : Nat) (blks : List Nat) : Nat := blks.foldl (fun y b => ghMul 128 (y.xor b) h) 0
/-- GMAC (AES-GCM with an empty plaintext): the 16-byte tag of `aad` under a 12-byte IV. -/
def gmac (key : List Nat) (iv aad : Bytes) : Bytes :=
  let nat16 := fun (l : List Nat) => l.foldl (fun a b => a * 256 + b) 0
  let h := nat16 (aesEnc key (List.replicate 16 0))
  let n := (aad.length + 15) / 16
  let pad := aad ++ List.replicate (16 * n - aad.length) 0#8
  let blks := (chunks 16 n pad).map beNat ++ [8 * aad.length * 2 ^ 64]
  let j0 := nat16 (aesEnc key (iv.map (·.toNat) ++ [0, 0, 0, 1]))
  beBytes 16 ((ghash h blks).xor j0)
/-- One unwrapping pass of AES key wrap over the registers, t counting down. -/
def kwStep (kek : List Nat) (n : Nat) (st : List Nat × List (List Nat)) (t : Nat) : List Nat × List (List Nat) :=
  let i := (t - 1) % n
  let a := beNat ((st.1).map (BitVec.ofNat 8)) |>.xor t
  let b := aesDec kek (((beBytes 8 a).map (·.toNat)) ++ nth st.2 i [])
  (b.take 8, modAt st.2 i (fun _ => b.drop 8))
/-- AES key unwrap (RFC 3394): the key, or none where the integrity check fails. -/
def kwUnwrap (kek : List Nat) (c : List Nat) : Option (List Nat) :=
  let n := c.length / 8 - 1
  let st := ((List.range (6 * n)).map (fun i => 6 * n - i)).foldl (kwStep kek n) (c.take 8, chunks 8 n (c.drop 8))
  if st.1 == List.replicate 8 0xA6 then some (st.2.flatMap id) else none

end Sys2Proof.Machine
end

