-- ==== Sys2Proof/Machine/RegMap.lean ====
section
/-! DEFINITION. The register map of the module: the offset of every register in BAR0 (Table 00-4 and the register
tables of every block; VI pages are keyed at 0x0800_0000 + 0x1000 n, the model's own keys for BAR2), the fields of every
register with their access codes (Table 00-3), reset values and reset kinds, and the value an unwritten register holds. -/
namespace Sys2Proof.Machine

/-- The lane B view of a lane-resident block lies 0x0020_0000 above its lane A base (R10). -/
def laneOff : Lane → Nat | .a => 0 | .b => 0x200000

namespace R

def IDN_PARTNUM : Nat := 0x0
def IDN_REVISION : Nat := 0x4
def IDN_SERIAL_LO : Nat := 0x8
def IDN_SERIAL_HI : Nat := 0xC
def IDN_MFG_DATE : Nat := 0x10
def IDN_MAC_BASE_LO : Nat := 0x14
def IDN_MAC_BASE_HI : Nat := 0x18
def IDN_MAC_COUNT : Nat := 0x1C
def IDN_TAG_CTRL : Nat := 0x20
def IDN_TAG_WRITES : Nat := 0x24
def IDN_TAG (i : Nat) : Nat := 0x100 + i * 4
def PCM_STATUS : Nat := 0x100000
def PCM_EVENTS : Nat := 0x100004
def PCM_EVENT_EN : Nat := 0x100008
def PCM_CMD : Nat := 0x10000C
def PCM_REFUSE : Nat := 0x100010
def PCM_RESET_CAUSE : Nat := 0x100014
def PCM_POWER_CYCLES : Nat := 0x100018
def PCM_OP_HOURS_LO : Nat := 0x100020
def PCM_OP_HOURS_HI : Nat := 0x100024
def PCM_WAKE_EN : Nat := 0x100028
def PCM_WAKE_CAUSE : Nat := 0x10002C
def PCM_VMAIN : Nat := 0x100030
def PCM_VBKP : Nat := 0x100034
def PCM_VRTC : Nat := 0x100038
def PCM_INPUT_POWER : Nat := 0x10003C
def PCM_TEMP_A : Nat := 0x100040
def PCM_TEMP_B : Nat := 0x100044
def PCM_TEMP_IO : Nat := 0x100048
def PCM_TEMP_SUP : Nat := 0x10004C
def PCM_OTW_LIMIT : Nat := 0x100060
def PCM_HOLDUP : Nat := 0x100064
def PCM_UART_CFG : Nat := 0x100068
def PCM_MGMT_STATUS : Nat := 0x10006C
def PCM_PINS : Nat := 0x100070
def RTC_STATUS : Nat := 0x200000
def RTC_EVENTS : Nat := 0x200004
def RTC_EVENT_EN : Nat := 0x200008
def RTC_CMD : Nat := 0x20000C
def RTC_CFG : Nat := 0x200010
def RTC_OFFSET : Nat := 0x200014
def RTC_TEMP : Nat := 0x200018
def RTC_CORR : Nat := 0x20001C
def RTC_SUB : Nat := 0x200020
def RTC_SEC_LO : Nat := 0x200024
def RTC_SEC_HI : Nat := 0x200028
def RTC_CAL0 : Nat := 0x20002C
def RTC_CAL1 : Nat := 0x200030
def RTC_SET_SEC_LO : Nat := 0x200040
def RTC_SET_SEC_HI : Nat := 0x200044
def RTC_SET_CTRL : Nat := 0x200048
def RTC_SYNC_OFF : Nat := 0x200050
def RTC_SYNC_DIFF : Nat := 0x200054
def RTC_ALM_CTRL (i : Nat) : Nat := 0x200060 + i * 16
def RTC_ALM_T_LO (i : Nat) : Nat := 0x200064 + i * 16
def RTC_ALM_T_HI (i : Nat) : Nat := 0x200068 + i * 16
def RTC_CURVE (i : Nat) : Nat := 0x200100 + i * 4
def WDN_STATUS : Nat := 0x300000
def WDN_EVENTS : Nat := 0x300004
def WDN_EVENT_EN : Nat := 0x300008
def WDN_CMD : Nat := 0x30000C
def WDN_CFG : Nat := 0x300010
def WDN_BREACH : Nat := 0x300014
def WDN_HEALTH (i : Nat) : Nat := 0x300018 + i * 4
def WDN_REFUSED : Nat := 0x300020
def WDN_SKEW : Nat := 0x300024
def WDN_SKEW_CREST : Nat := 0x300028
def WDN_SWITCHES : Nat := 0x30002C
def WDN_LAST_INDEX : Nat := 0x300030
def WDN_TEST_CFG : Nat := 0x300034
def WDN_WARDEN (i : Nat) : Nat := 0x300040 + i * 4
def WDN_TEST_SETS (i : Nat) : Nat := 0x300060 + i * 32
def WDN_TEST_RETIRED (i : Nat) : Nat := 0x300064 + i * 32
def WDN_TEST_SCRUBS (i : Nat) : Nat := 0x300068 + i * 32
def WDN_TEST_SCRUB_ERR (i : Nat) : Nat := 0x30006C + i * 32
def WDN_TEST_COMP (i : Nat) : Nat := 0x300070 + i * 32
def WDN_RSYNC_STATUS : Nat := 0x300100
def WDN_RSYNC_CFG : Nat := 0x300104
def WDN_RSYNC_PROGRESS : Nat := 0x300108
def WDN_RSYNC_JOIN : Nat := 0x30010C
def WDN_RSYNC_RESULT : Nat := 0x300110
def WDN_RSYNC_ATTEMPTS : Nat := 0x300114
def WDN_MATE_CFG : Nat := 0x300200
def WDN_MATE_STATUS : Nat := 0x300204
def WDN_MATE_BREACH : Nat := 0x300208
def ICU_STATUS : Nat := 0x400000
def ICU_DELIVERED : Nat := 0x400004
def ICU_ROUTE (i : Nat) : Nat := 0x400100 + i * 4
def ICU_SRC_LEVEL (i : Nat) : Nat := 0x400400 + i * 4
def ICU_MSIX_ADDR_LO (i : Nat) : Nat := 0x410000 + i * 16
def ICU_MSIX_ADDR_HI (i : Nat) : Nat := 0x410004 + i * 16
def ICU_MSIX_DATA (i : Nat) : Nat := 0x410008 + i * 16
def ICU_MSIX_CTRL (i : Nat) : Nat := 0x41000C + i * 16
def ICU_PBA (i : Nat) : Nat := 0x411000 + i * 4
def ICU_VEC_CFG (i : Nat) : Nat := 0x412000 + i * 16
def ICU_VEC_COUNT (i : Nat) : Nat := 0x412004 + i * 16
def ICU_VEC_EOI (i : Nat) : Nat := 0x412008 + i * 16
def ICU_VEC_STATE (i : Nat) : Nat := 0x41200C + i * 16
def VIR_STATUS : Nat := 0x500000
def VIR_EVENTS : Nat := 0x500004
def VIR_EVENT_EN : Nat := 0x500008
def VIR_RESET_REQ : Nat := 0x50000C
def VIR_RESET_CANCELS : Nat := 0x500010
def VIR_GEN_DISCARDS : Nat := 0x500014
def VIR_CTRL : Nat := 0x500018
def VIR_FAULT_ADDR_LO : Nat := 0x500020
def VIR_FAULT_ADDR_HI : Nat := 0x500024
def VIR_FAULT_INFO : Nat := 0x500028
def VIR_VI (i : Nat) : Nat := 0x510000 + i * 4
def PLD_TILES (i : Nat) : Nat := 0x520000 + i * 64
def PLD_CELLS (i : Nat) : Nat := 0x520004 + i * 64
def PLD_INGEST (i : Nat) : Nat := 0x520008 + i * 64
def PLD_ACQ (i : Nat) : Nat := 0x52000C + i * 64
def PLD_IRQ (i : Nat) : Nat := 0x520010 + i * 64
def PLD_TILE_OVER (i : Nat) : Nat := 0x520020 + i * 64
def PLD_CELL_DROP (i : Nat) : Nat := 0x520024 + i * 64
def PLD_INGEST_DROP (i : Nat) : Nat := 0x520028 + i * 64
def PLD_ACQ_REFUSED (i : Nat) : Nat := 0x52002C + i * 64
def PLD_IRQ_DEFER (i : Nat) : Nat := 0x520030 + i * 64
def PLD_RESETS (i : Nat) : Nat := 0x520034 + i * 64
def VIR_WIN_CTRL (i : Nat) (j : Nat) : Nat := 0x580000 + i * 256 + j * 32
def VIR_WIN_BASE_HI (i : Nat) (j : Nat) : Nat := 0x580004 + i * 256 + j * 32
def VIR_WIN_TRANS_LO (i : Nat) (j : Nat) : Nat := 0x580008 + i * 256 + j * 32
def VIR_WIN_TRANS_HI (i : Nat) (j : Nat) : Nat := 0x58000C + i * 256 + j * 32
def VIR_WIN_SIZE (i : Nat) (j : Nat) : Nat := 0x580010 + i * 256 + j * 32
def DIRTY_CTRL (i : Nat) : Nat := 0x5D0000 + i * 32
def DIRTY_STATUS (i : Nat) : Nat := 0x5D0004 + i * 32
def DIRTY_A_LO (i : Nat) : Nat := 0x5D0008 + i * 32
def DIRTY_A_HI (i : Nat) : Nat := 0x5D000C + i * 32
def DIRTY_B_LO (i : Nat) : Nat := 0x5D0010 + i * 32
def DIRTY_B_HI (i : Nat) : Nat := 0x5D0014 + i * 32
def DIRTY_SPAN (i : Nat) : Nat := 0x5D0018 + i * 32
def CFG_STATUS : Nat := 0x600000
def CFG_EVENTS : Nat := 0x600004
def CFG_EVENT_EN : Nat := 0x600008
def CFG_CMD : Nat := 0x60000C
def CFG_ERROR : Nat := 0x600010
def CFG_CTRL : Nat := 0x600014
def CFG_XCHG_INDEX : Nat := 0x600018
def CFG_PROGRESS : Nat := 0x60001C
def CFG_DMA_ADDR_LO : Nat := 0x600020
def CFG_DMA_ADDR_HI : Nat := 0x600024
def CFG_DMA_LEN : Nat := 0x600028
def CFG_BANK_OFFSET : Nat := 0x60002C
def CFG_SLICE_FAULT : Nat := 0x600030
def CFG_IMAGE_SERIAL : Nat := 0x600034
def CFG_XCHG_COUNT : Nat := 0x600038
def CFG_MATE_STATUS : Nat := 0x60003C
def CFG_FINGERPRINT (i : Nat) : Nat := 0x600040 + i * 4
def CFG_STAGED_FP (i : Nat) : Nat := 0x600060 + i * 4
def CFG_MATE_FP (i : Nat) : Nat := 0x600080 + i * 4
def CFG_BEACON_CFG : Nat := 0x6000A0
def CFG_BEACON_ETYPE : Nat := 0x6000A4
def CFG_BEACON_PORTS_LO : Nat := 0x6000A8
def CFG_BEACON_PORTS_HI : Nat := 0x6000AC
def CFG_BEACON_SEQ : Nat := 0x6000B0
def KEY_STATUS : Nat := 0x700000
def KEY_EVENTS : Nat := 0x700004
def KEY_EVENT_EN : Nat := 0x700008
def KEY_CMD : Nat := 0x70000C
def KEY_RESULT : Nat := 0x700010
def KEY_ATTR : Nat := 0x700014
def KEY_ID : Nat := 0x700018
def KEY_USES : Nat := 0x70001C
def KEY_POLICY : Nat := 0x700020
def KEY_IN (i : Nat) : Nat := 0x700040 + i * 4
def KEY_OUT (i : Nat) : Nat := 0x700080 + i * 4
def KEY_TAMPER_CFG : Nat := 0x700200
def KEY_TAMPER_STATUS : Nat := 0x700204
def KEY_TAMPER_COUNT : Nat := 0x700208
def KEY_SLOT_ATTR (i : Nat) : Nat := 0x701000 + i * 16
def KEY_SLOT_ID (i : Nat) : Nat := 0x701004 + i * 16
def KEY_SLOT_USES (i : Nat) : Nat := 0x701008 + i * 16
def PRT_STATUS (i : Nat) : Nat := 0x1000000 + i * 65536
def PRT_EVENTS (i : Nat) : Nat := 0x1000004 + i * 65536
def PRT_EVENT_EN (i : Nat) : Nat := 0x1000008 + i * 65536
def PRT_CTRL (i : Nat) : Nat := 0x100000C + i * 65536
def PRT_MODE (i : Nat) : Nat := 0x1000010 + i * 65536
def PRT_MAXLEN (i : Nat) : Nat := 0x1000014 + i * 65536
def PRT_FWD (i : Nat) : Nat := 0x1000018 + i * 65536
def PRT_CT_THRESH (i : Nat) : Nat := 0x100001C + i * 65536
def PRT_EEE_CTRL (i : Nat) : Nat := 0x1000020 + i * 65536
def PRT_EEE_TW (i : Nat) : Nat := 0x1000024 + i * 65536
def PRT_SERDES_TX (i : Nat) : Nat := 0x1000028 + i * 65536
def PRT_SERDES_RX (i : Nat) : Nat := 0x100002C + i * 65536
def PRT_CNT_HALF_LO (i : Nat) : Nat := 0x1000040 + i * 65536
def PRT_CNT_HALF_HI (i : Nat) : Nat := 0x1000044 + i * 65536
def PRT_HALF_EN_LO (i : Nat) : Nat := 0x1000048 + i * 65536
def PRT_HALF_EN_HI (i : Nat) : Nat := 0x100004C + i * 65536
def PRT_SNAP (i : Nat) : Nat := 0x1000050 + i * 65536
def PRT_SNAP_SEQ (i : Nat) : Nat := 0x1000054 + i * 65536
def PRT_TS_CFG (i : Nat) : Nat := 0x1000400 + i * 65536
def PRT_TS_ILAT (i : Nat) : Nat := 0x1000404 + i * 65536
def PRT_TS_ELAT (i : Nat) : Nat := 0x1000408 + i * 65536
def PRT_TS_ASYM (i : Nat) : Nat := 0x100040C + i * 65536
def PRT_TC_LINKDELAY (i : Nat) : Nat := 0x1000410 + i * 65536
def PRT_CNT (i : Nat) (j : Nat) : Nat := 0x1000800 + i * 65536 + j * 4
def PRT_SNAPWIN (i : Nat) (j : Nat) : Nat := 0x1000C00 + i * 65536 + j * 4
def PRT_MDIO_CMD : Nat := 0x1000F00
def PRT_MDIO_STATUS : Nat := 0x1000F04
def PRT_MDC_DIV : Nat := 0x1000F08
def PRT_PHY_CTRL : Nat := 0x1000F0C
def PRT_CAGE_CMD : Nat := 0x1000F10
def PRT_CAGE_STATUS : Nat := 0x1000F14
def SWC_STATUS : Nat := 0x1400000
def SWC_EVENTS : Nat := 0x1400004
def SWC_EVENT_EN : Nat := 0x1400008
def SWC_FREE : Nat := 0x1400010
def SWC_USED_CREST : Nat := 0x1400014
def SWC_LWM : Nat := 0x1400018
def SWC_HASH_CFG : Nat := 0x140001C
def SWC_PCP_MAP : Nat := 0x1400020
def SWC_TRAP_VI : Nat := 0x1400024
def SWC_FDB_AGE : Nat := 0x1400028
def SWC_NOBUF_TRUNC : Nat := 0x1400030
def SWC_FDB_COUNT : Nat := 0x1400034
def SWC_LEARN_FAIL : Nat := 0x1400038
def SWC_AGE_LIMIT (i : Nat) : Nat := 0x1400040 + i * 4
def SWC_MIR_BASE_LO : Nat := 0x1400100
def SWC_MIR_BASE_HI : Nat := 0x1400104
def SWC_MIR_SIZE : Nat := 0x1400108
def SWC_MIR_HEAD : Nat := 0x140010C
def SWC_MIR_TAIL : Nat := 0x1400110
def SWC_MIR_CTRL : Nat := 0x1400114
def SWC_MIR_DROPS : Nat := 0x1400118
def SWC_RED_CFG (i : Nat) : Nat := 0x1400200 + i * 32
def SWC_RED_TIMES (i : Nat) : Nat := 0x1400204 + i * 32
def SWC_RED_SEQ (i : Nat) : Nat := 0x1400208 + i * 32
def SWC_RED_DUP (i : Nat) : Nat := 0x140020C + i * 32
def SWC_RED_WRONG_LAN (i : Nat) : Nat := 0x1400210 + i * 32
def SWC_RED_EVICT (i : Nat) : Nat := 0x1400214 + i * 32
def SWC_RED_OWN (i : Nat) : Nat := 0x1400218 + i * 32
def SWC_LAG_MEMBERS_LO (i : Nat) : Nat := 0x1400400 + i * 128
def SWC_LAG_MEMBERS_HI (i : Nat) : Nat := 0x1400404 + i * 128
def SWC_LAG_UP_LO (i : Nat) : Nat := 0x1400408 + i * 128
def SWC_LAG_UP_HI (i : Nat) : Nat := 0x140040C + i * 128
def SWC_LAG_BUCKET (i : Nat) (j : Nat) : Nat := 0x1400410 + i * 128 + j * 4
def SWC_P_CFG (i : Nat) : Nat := 0x1410000 + i * 256
def SWC_P_SCHED (i : Nat) : Nat := 0x1410004 + i * 256
def SWC_P_WRR (i : Nat) (j : Nat) : Nat := 0x1410008 + i * 256 + j * 4
def SWC_P_QLIMIT (i : Nat) (j : Nat) : Nat := 0x1410020 + i * 256 + j * 4
def SWC_P_QDEPTH (i : Nat) (j : Nat) : Nat := 0x1410040 + i * 256 + j * 4
def SWC_P_QCREST (i : Nat) (j : Nat) : Nat := 0x1410060 + i * 256 + j * 4
def SWC_P_QDROP (i : Nat) (j : Nat) : Nat := 0x1410080 + i * 256 + j * 4
def SWC_P_AGEDROP (i : Nat) (j : Nat) : Nat := 0x14100A0 + i * 256 + j * 4
def SWC_P_CREDITS (i : Nat) : Nat := 0x14100C0 + i * 256
def SWC_P_MIRROR (i : Nat) : Nat := 0x14100C4 + i * 256
def SWC_P_VLAN_DROP (i : Nat) : Nat := 0x14100C8 + i * 256
def SWC_P_TC_MISS (i : Nat) : Nat := 0x14100CC + i * 256
def SWC_VLAN_MEMBER_LO (i : Nat) : Nat := 0x1420000 + i * 16
def SWC_VLAN_MEMBER_HI (i : Nat) : Nat := 0x1420004 + i * 16
def SWC_VLAN_UNTAG_LO (i : Nat) : Nat := 0x1420008 + i * 16
def SWC_VLAN_UNTAG_HI (i : Nat) : Nat := 0x142000C + i * 16
def SWC_GROUP_LO (i : Nat) : Nat := 0x1440000 + i * 16
def SWC_GROUP_HI (i : Nat) : Nat := 0x1440004 + i * 16
def SWC_GROUP_VI (i : Nat) : Nat := 0x1440008 + i * 16
def SWC_FDB0 (i : Nat) : Nat := 0x1480000 + i * 16
def SWC_FDB1 (i : Nat) : Nat := 0x1480004 + i * 16
def SWC_FDB2 (i : Nat) : Nat := 0x1480008 + i * 16
def SWC_FDB3 (i : Nat) : Nat := 0x148000C + i * 16
def TMU_STATUS : Nat := 0x1800000
def TMU_EVENTS : Nat := 0x1800004
def TMU_EVENT_EN : Nat := 0x1800008
def TMU_CLK_CFG : Nat := 0x180000C
def TMU_CMD : Nat := 0x1800010
def TMU_TC_CFG : Nat := 0x1800014
def TMU_SYS_CFG : Nat := 0x1800018
def TMU_PPS_OUT_CFG : Nat := 0x180001C
def TMU_PPS_IN_CFG : Nat := 0x1800020
def TMU_PPSIN_NS : Nat := 0x1800024
def TMU_PPSIN_SEC_LO : Nat := 0x1800028
def TMU_PPSIN_SEC_HI : Nat := 0x180002C
def TMU_PPSIN_INFO : Nat := 0x1800030
def TMU_SET_NS : Nat := 0x1800034
def TMU_SET_SEC_LO : Nat := 0x1800038
def TMU_SET_SEC_HI : Nat := 0x180003C
def TMU_SET_CFG : Nat := 0x1800040
def TB_INCR_LO (i : Nat) : Nat := 0x1800100 + i * 64
def TB_INCR_HI (i : Nat) : Nat := 0x1800104 + i * 64
def TB_SLEW_INCR_LO (i : Nat) : Nat := 0x1800108 + i * 64
def TB_SLEW_INCR_HI (i : Nat) : Nat := 0x180010C + i * 64
def TB_SLEW_COUNT (i : Nat) : Nat := 0x1800110 + i * 64
def TB_HOLD_CFG (i : Nat) : Nat := 0x1800114 + i * 64
def TB_HOLD_TIME (i : Nat) : Nat := 0x1800118 + i * 64
def TB_STATUS (i : Nat) : Nat := 0x180011C + i * 64
def TB_RAW0 (i : Nat) : Nat := 0x1800120 + i * 64
def TB_RAW1 (i : Nat) : Nat := 0x1800124 + i * 64
def TB_RAW2 (i : Nat) : Nat := 0x1800128 + i * 64
def CV_BIND (i : Nat) : Nat := 0x1800400 + i * 64
def CV_CTRL (i : Nat) : Nat := 0x1800404 + i * 64
def CV_OFF_NS (i : Nat) : Nat := 0x1800408 + i * 64
def CV_OFF_SEC_LO (i : Nat) : Nat := 0x180040C + i * 64
def CV_OFF_SEC_HI (i : Nat) : Nat := 0x1800410 + i * 64
def CV_STEP_NS (i : Nat) : Nat := 0x1800414 + i * 64
def CV_STEP_FRAC (i : Nat) : Nat := 0x1800418 + i * 64
def CV_TIME_NS (i : Nat) : Nat := 0x1800420 + i * 64
def CV_TIME_SEC_LO (i : Nat) : Nat := 0x1800424 + i * 64
def CV_TIME_SEC_HI (i : Nat) : Nat := 0x1800428 + i * 64
def CV_STEPS (i : Nat) : Nat := 0x180042C + i * 64
def ING_STATUS : Nat := 0x1C00000
def ING_EVENTS : Nat := 0x1C00004
def ING_EVENT_EN : Nat := 0x1C00008
def ING_CMD : Nat := 0x1C0000C
def ING_PACE_CFG : Nat := 0x1C00010
def ING_PACE_REF : Nat := 0x1C00014
def ING_PACE_PERIOD_LO : Nat := 0x1C00018
def ING_PACE_PERIOD_HI : Nat := 0x1C0001C
def ING_PACE_SHIFT : Nat := 0x1C00020
def ING_PACE_LAG : Nat := 0x1C00024
def ING_INDEX : Nat := 0x1C00028
def ING_LOAD : Nat := 0x1C0002C
def ING_QMASK : Nat := 0x1C00030
def ING_BP_CFG : Nat := 0x1C00034
def ING_UNDECODED : Nat := 0x1C00038
def ING_GAP_COUNT : Nat := 0x1C00040
def ING_Q_CREST (i : Nat) : Nat := 0x1C00044 + i * 4
def ING_LINK_SEQ : Nat := 0x1C0004C
def ING_MC_MASK : Nat := 0x1C00050
def ING_SYNC_CFG : Nat := 0x1C00060
def ING_MCLK_CFG (i : Nat) : Nat := 0x1C00080 + i * 4
def MC_CFG (i : Nat) : Nat := 0x1C00100 + i * 64
def MC_SHIFT (i : Nat) : Nat := 0x1C00104 + i * 64
def MC_GAIN (i : Nat) : Nat := 0x1C00108 + i * 64
def MC_FRZ_LEVEL (i : Nat) : Nat := 0x1C0010C + i * 64
def MC_FRZ_HOLD (i : Nat) : Nat := 0x1C00110 + i * 64
def MC_CTRL (i : Nat) : Nat := 0x1C00114 + i * 64
def MC_STATUS (i : Nat) : Nat := 0x1C00118 + i * 64
def MC_DC (i : Nat) : Nat := 0x1C0011C + i * 64
def MC_COUNTS (i : Nat) : Nat := 0x1C00120 + i * 64
def ING_MC_COEF (i : Nat) (j : Nat) : Nat := 0x1C01000 + i * 256 + j * 4
def ING_SV0 (i : Nat) : Nat := 0x1C10000 + i * 32
def ING_SV1 (i : Nat) : Nat := 0x1C10004 + i * 32
def ING_SV2 (i : Nat) : Nat := 0x1C10008 + i * 32
def ING_SV3 (i : Nat) : Nat := 0x1C1000C + i * 32
def ING_SV4 (i : Nat) : Nat := 0x1C10010 + i * 32
def ING_SV5 (i : Nat) : Nat := 0x1C10014 + i * 32
def ING_SV6 (i : Nat) : Nat := 0x1C10018 + i * 32
def ING_SV_STAT0 (i : Nat) : Nat := 0x1C18000 + i * 16
def ING_SV_STAT1 (i : Nat) : Nat := 0x1C18004 + i * 16
def ING_SV_STAT2 (i : Nat) : Nat := 0x1C18008 + i * 16
def ING_SV_STAT3 (i : Nat) : Nat := 0x1C1800C + i * 16
def ING_CH_SCALE (i : Nat) : Nat := 0x1C20000 + i * 16
def ING_CH_FB_ABS (i : Nat) : Nat := 0x1C20004 + i * 16
def ING_CH_FB_REL (i : Nat) : Nat := 0x1C20008 + i * 16
def ING_CH_FB_EN (i : Nat) : Nat := 0x1C2000C + i * 16
def ING_RS_COEF (i : Nat) : Nat := 0x1C60000 + i * 4
def ING_GO0 (i : Nat) : Nat := 0x1C80000 + i * 32
def ING_GO1 (i : Nat) : Nat := 0x1C80004 + i * 32
def ING_GO2 (i : Nat) : Nat := 0x1C80008 + i * 32
def ING_GO3 (i : Nat) : Nat := 0x1C8000C + i * 32
def ING_GO_STAT0 (i : Nat) : Nat := 0x1CA0000 + i * 16
def ING_GO_STAT1 (i : Nat) : Nat := 0x1CA0004 + i * 16
def ING_GO_STAT2 (i : Nat) : Nat := 0x1CA0008 + i * 16
def ING_GO_STAT3 (i : Nat) : Nat := 0x1CA000C + i * 16
def FAB_STATUS (l : Lane) : Nat := 0x2000000 + laneOff l
def FAB_EVENTS (l : Lane) : Nat := 0x2000004 + laneOff l
def FAB_EVENT_EN (l : Lane) : Nat := 0x2000008 + laneOff l
def FAB_PAIR_FAIL (l : Lane) (i : Nat) : Nat := 0x2000010 + laneOff l + i * 4
def FAB_LS_TILE (l : Lane) : Nat := 0x2000020 + laneOff l
def FAB_LS_INDEX (l : Lane) : Nat := 0x2000024 + laneOff l
def FAB_LS_POS (l : Lane) : Nat := 0x2000028 + laneOff l
def FAB_STOP_INDEX (l : Lane) : Nat := 0x200002C + laneOff l
def FAB_LOAD (l : Lane) : Nat := 0x2000030 + laneOff l
def FAB_LOAD_CREST (l : Lane) : Nat := 0x2000034 + laneOff l
def FAB_CAPACITY (l : Lane) : Nat := 0x2000038 + laneOff l
def FAB_BUDGET_STOPS (l : Lane) : Nat := 0x2000040 + laneOff l
def FAB_SKIPS (l : Lane) : Nat := 0x2000044 + laneOff l
def FAB_LATE (l : Lane) : Nat := 0x2000048 + laneOff l
def FAB_LAST_OVR (l : Lane) : Nat := 0x200004C + laneOff l
def FAB_LAST_OVR_INDEX (l : Lane) : Nat := 0x2000050 + laneOff l
def FAB_ECC_COUNT (l : Lane) : Nat := 0x2000054 + laneOff l
def FAB_DONE_INDEX (l : Lane) : Nat := 0x2000058 + laneOff l
def FAB_VI_CFG0 (l : Lane) (i : Nat) : Nat := 0x2010000 + laneOff l + i * 16
def FAB_VI_CFG1 (l : Lane) (i : Nat) : Nat := 0x2010004 + laneOff l + i * 16
def FAB_VI_CFG2 (l : Lane) (i : Nat) : Nat := 0x2010008 + laneOff l + i * 16
def FAB_VI_CFG3 (l : Lane) (i : Nat) : Nat := 0x201000C + laneOff l + i * 16
def FAB_VI_STAT0 (l : Lane) (i : Nat) : Nat := 0x2020000 + laneOff l + i * 16
def FAB_VI_STAT1 (l : Lane) (i : Nat) : Nat := 0x2020004 + laneOff l + i * 16
def FAB_VI_STAT2 (l : Lane) (i : Nat) : Nat := 0x2020008 + laneOff l + i * 16
def FAB_VI_STAT3 (l : Lane) (i : Nat) : Nat := 0x202000C + laneOff l + i * 16
def FAB_VI_WCET (l : Lane) (i : Nat) : Nat := 0x2030000 + laneOff l + i * 4
def FAB_RESIDENT (l : Lane) (i : Nat) : Nat := 0x2040000 + laneOff l + i * 4
def SLU_STATUS : Nat := 0x2400000
def SLU_EVENTS : Nat := 0x2400004
def SLU_EVENT_EN : Nat := 0x2400008
def SLU_CMD : Nat := 0x240000C
def SLU_SPEC_CFG : Nat := 0x2400010
def SLU_CMP_WINDOW : Nat := 0x2400014
def SLU_STOP_INDEX : Nat := 0x2400018
def SLU_SWITCH_INDEX : Nat := 0x240001C
def SLU_TAKEOVERS : Nat := 0x2400020
def SLU_DIV_COUNT : Nat := 0x2400024
def SLU_DIV_INFO : Nat := 0x2400028
def SLU_DIV_INDEX : Nat := 0x240002C
def SLU_LATE : Nat := 0x2400030
def SLU_NO_TPL : Nat := 0x2400034
def SLU_STALE : Nat := 0x2400038
def SLU_LINK_ERR : Nat := 0x240003C
def SLU_DONE (i : Nat) : Nat := 0x2400040 + i * 4
def SLU_DOUT_STATE : Nat := 0x2400048
def SLU_SPEC_RUNS : Nat := 0x2400050
def SLU_SPEC_CONFIRMS : Nat := 0x2400054
def SLU_SPEC_SQUASHES : Nat := 0x2400058
def SLU_SQUASH_CYCLES : Nat := 0x240005C
def SLU_DOUT_CFG (i : Nat) : Nat := 0x2400080 + i * 4
def SLU_TPL0 (i : Nat) : Nat := 0x2410000 + i * 32
def SLU_TPL1 (i : Nat) : Nat := 0x2410004 + i * 32
def SLU_TPL2 (i : Nat) : Nat := 0x2410008 + i * 32
def SLU_TPL3 (i : Nat) : Nat := 0x241000C + i * 32
def SLU_TPL4 (i : Nat) : Nat := 0x2410010 + i * 32
def SLU_TPL5 (i : Nat) : Nat := 0x2410014 + i * 32
def SLU_TPL6 (i : Nat) : Nat := 0x2410018 + i * 32
def SLU_TPL7 (i : Nat) : Nat := 0x241001C + i * 32
def SLU_TPL_STAT0 (i : Nat) : Nat := 0x2430000 + i * 16
def SLU_TPL_STAT1 (i : Nat) : Nat := 0x2430004 + i * 16
def SLU_TPL_STAT2 (i : Nat) : Nat := 0x2430008 + i * 16
def SLU_TPL_STAT3 (i : Nat) : Nat := 0x243000C + i * 16
def SLU_VI_SPEC0 (i : Nat) : Nat := 0x2440000 + i * 32
def SLU_VI_SPEC1 (i : Nat) : Nat := 0x2440004 + i * 32
def SLU_VI_SPEC2 (i : Nat) : Nat := 0x2440008 + i * 32
def SLU_VI_SPEC3 (i : Nat) : Nat := 0x244000C + i * 32
def SLU_VI_SPEC4 (i : Nat) : Nat := 0x2440010 + i * 32
def SLU_VI_SPEC5 (i : Nat) : Nat := 0x2440014 + i * 32
def SLU_VI_SPEC6 (i : Nat) : Nat := 0x2440018 + i * 32
def SLU_VI_SPEC7 (i : Nat) : Nat := 0x244001C + i * 32
def SLU_TPL_MEM (i : Nat) : Nat := 0x2500000 + i * 4
def SCH_STATUS (l : Lane) : Nat := 0x2800000 + laneOff l
def SCH_EVENTS (l : Lane) : Nat := 0x2800004 + laneOff l
def SCH_EVENT_EN (l : Lane) : Nat := 0x2800008 + laneOff l
def SCH_CFG (l : Lane) : Nat := 0x2800010 + laneOff l
def SCH_READY_CFG (l : Lane) : Nat := 0x2800014 + laneOff l
def SCH_TOK_FREE (l : Lane) : Nat := 0x2800020 + laneOff l
def SCH_TOK_WAIT (l : Lane) : Nat := 0x2800024 + laneOff l
def SCH_TOK_READY (l : Lane) : Nat := 0x2800028 + laneOff l
def SCH_TOK_SLOT (l : Lane) : Nat := 0x280002C + laneOff l
def SCH_TOK_RUN (l : Lane) : Nat := 0x2800030 + laneOff l
def SCH_TOK_DONE (l : Lane) : Nat := 0x2800034 + laneOff l
def SCH_TOK_CREST (l : Lane) : Nat := 0x2800038 + laneOff l
def SCH_READY_CREST (l : Lane) : Nat := 0x280003C + laneOff l
def SCH_HELD (l : Lane) : Nat := 0x2800040 + laneOff l
def SCH_HELD_TOTAL (l : Lane) : Nat := 0x2800044 + laneOff l
def SCH_DISPATCHED (l : Lane) : Nat := 0x2800048 + laneOff l
def SCH_DEP_ERR (l : Lane) : Nat := 0x280004C + laneOff l
def SCH_BP_PERIODS (l : Lane) : Nat := 0x2800050 + laneOff l
def SCH_IDLE_PAIRS (l : Lane) : Nat := 0x2800054 + laneOff l
def SCH_DESC_SEL (l : Lane) : Nat := 0x2800058 + laneOff l
def SCH_DESC (l : Lane) (i : Nat) : Nat := 0x2800060 + laneOff l + i * 4
def SCH_PLD_CHARGE (l : Lane) (i : Nat) : Nat := 0x2801000 + laneOff l + i * 16
def SCH_PLD_LAST (l : Lane) (i : Nat) : Nat := 0x2801004 + laneOff l + i * 16
def SCH_PLD_READY (l : Lane) (i : Nat) : Nat := 0x2801008 + laneOff l + i * 16
def SCH_PLD_DEFERRED (l : Lane) (i : Nat) : Nat := 0x280100C + laneOff l + i * 16
def LPE_STATUS (l : Lane) : Nat := 0x3000000 + laneOff l
def LPE_EVENTS (l : Lane) : Nat := 0x3000004 + laneOff l
def LPE_EVENT_EN (l : Lane) : Nat := 0x3000008 + laneOff l
def LPE_CMD (l : Lane) : Nat := 0x300000C + laneOff l
def LPE_LOAD (l : Lane) : Nat := 0x3000010 + laneOff l
def LPE_LOAD_CREST (l : Lane) : Nat := 0x3000014 + laneOff l
def LPE_SKIPS (l : Lane) : Nat := 0x3000018 + laneOff l
def LPE_LATE (l : Lane) : Nat := 0x300001C + laneOff l
def LPE_LAST_OVR (l : Lane) : Nat := 0x3000020 + laneOff l
def LPE_LAST_OVR_INDEX (l : Lane) : Nat := 0x3000024 + laneOff l
def LPE_LS_INFO (l : Lane) : Nat := 0x3000028 + laneOff l
def LPE_LS_INDEX (l : Lane) : Nat := 0x300002C + laneOff l
def LPE_TR_SEL (l : Lane) : Nat := 0x3000030 + laneOff l
def LPE_GROUP (l : Lane) (i : Nat) : Nat := 0x3000040 + laneOff l + i * 4
def LPE_GROUP_STAT (l : Lane) (i : Nat) : Nat := 0x3000400 + laneOff l + i * 4
def LPE_TR0 (l : Lane) (i : Nat) : Nat := 0x3000800 + laneOff l + i * 16
def LPE_TR1 (l : Lane) (i : Nat) : Nat := 0x3000804 + laneOff l + i * 16
def LPE_TR2 (l : Lane) (i : Nat) : Nat := 0x3000808 + laneOff l + i * 16
def LPE_TR3 (l : Lane) (i : Nat) : Nat := 0x300080C + laneOff l + i * 16
def LPE_SLOT0 (l : Lane) (i : Nat) : Nat := 0x3010000 + laneOff l + i * 256
def LPE_SLOT_PERIOD (l : Lane) (i : Nat) : Nat := 0x3010004 + laneOff l + i * 256
def LPE_SLOT_PHASE (l : Lane) (i : Nat) : Nat := 0x3010008 + laneOff l + i * 256
def LPE_SLOT_PV (l : Lane) (i : Nat) : Nat := 0x301000C + laneOff l + i * 256
def LPE_SLOT_PV_SCALE (l : Lane) (i : Nat) : Nat := 0x3010010 + laneOff l + i * 256
def LPE_SLOT_PV_OFFSET (l : Lane) (i : Nat) : Nat := 0x3010014 + laneOff l + i * 256
def LPE_SLOT_K (l : Lane) (i : Nat) (j : Nat) : Nat := 0x3010018 + laneOff l + i * 256 + j * 4
def LPE_SLOT_DF (l : Lane) (i : Nat) : Nat := 0x3010024 + laneOff l + i * 256
def LPE_SLOT_OUT_LIM (l : Lane) (i : Nat) : Nat := 0x3010028 + laneOff l + i * 256
def LPE_SLOT_OUT_SAFE (l : Lane) (i : Nat) : Nat := 0x301002C + laneOff l + i * 256
def LPE_SLOT_DST (l : Lane) (i : Nat) : Nat := 0x3010030 + laneOff l + i * 256
def LPE_SLOT_DSTVI (l : Lane) (i : Nat) : Nat := 0x3010034 + laneOff l + i * 256
def LPE_SLOT_OUT_SCALE (l : Lane) (i : Nat) : Nat := 0x3010038 + laneOff l + i * 256
def LPE_SLOT_OUT_OFFSET (l : Lane) (i : Nat) : Nat := 0x301003C + laneOff l + i * 256
def LPE_SLOT_TGT (l : Lane) (i : Nat) : Nat := 0x3010040 + laneOff l + i * 256
def LPE_SLOT_PROF (l : Lane) (i : Nat) (j : Nat) : Nat := 0x3010044 + laneOff l + i * 256 + j * 4
def LPE_SLOT_NOTCH (l : Lane) (i : Nat) (j : Nat) : Nat := 0x301005C + laneOff l + i * 256 + j * 4
def LPE_SLOT_NA2 (l : Lane) (i : Nat) : Nat := 0x3010064 + laneOff l + i * 256
def LPE_SLOT_MODE (l : Lane) (i : Nat) : Nat := 0x3010068 + laneOff l + i * 256
def LPE_SLOT_MAN_OUT (l : Lane) (i : Nat) : Nat := 0x301006C + laneOff l + i * 256
def LPE_SLOT_SP_TARGET (l : Lane) (i : Nat) : Nat := 0x3010070 + laneOff l + i * 256
def LPE_SLOT_SP_INIT (l : Lane) (i : Nat) : Nat := 0x3010074 + laneOff l + i * 256
def LPE_SLOT_SPPV (l : Lane) (i : Nat) : Nat := 0x3010080 + laneOff l + i * 256
def LPE_SLOT_OUTREL (l : Lane) (i : Nat) : Nat := 0x3010084 + laneOff l + i * 256
def LPE_SLOT_I_LO (l : Lane) (i : Nat) : Nat := 0x3010088 + laneOff l + i * 256
def LPE_SLOT_I_HI (l : Lane) (i : Nat) : Nat := 0x301008C + laneOff l + i * 256
def LPE_SLOT_SVA (l : Lane) (i : Nat) (j : Nat) : Nat := 0x3010090 + laneOff l + i * 256 + j * 4
def LPE_SLOT_STATUS (l : Lane) (i : Nat) : Nat := 0x30100A8 + laneOff l + i * 256
def LPE_SLOT_LAST (l : Lane) (i : Nat) : Nat := 0x30100AC + laneOff l + i * 256
def LPE_SLOT_COUNTS (l : Lane) (i : Nat) : Nat := 0x30100B0 + laneOff l + i * 256
def LPE_TRACE (l : Lane) (i : Nat) (j : Nat) : Nat := 0x3100000 + laneOff l + i * 65536 + j * 4
def OPT_STATUS (l : Lane) : Nat := 0x3400000 + laneOff l
def OPT_EVENTS (l : Lane) : Nat := 0x3400004 + laneOff l
def OPT_EVENT_EN (l : Lane) : Nat := 0x3400008 + laneOff l
def OPT_CMD (l : Lane) : Nat := 0x340000C + laneOff l
def OPT_CFG (l : Lane) : Nat := 0x3400010 + laneOff l
def OPT_MAXITER (l : Lane) : Nat := 0x3400014 + laneOff l
def OPT_DIM (l : Lane) : Nat := 0x3400018 + laneOff l
def OPT_NNZ_P (l : Lane) : Nat := 0x340001C + laneOff l
def OPT_NNZ_A (l : Lane) : Nat := 0x3400020 + laneOff l
def OPT_NNZ_L (l : Lane) : Nat := 0x3400024 + laneOff l
def OPT_PARAM (l : Lane) (i : Nat) : Nat := 0x3400028 + laneOff l + i * 4
def OPT_TIMER (l : Lane) : Nat := 0x3400040 + laneOff l
def OPT_PTR (l : Lane) (i : Nat) : Nat := 0x3400080 + laneOff l + i * 4
def OPT_ITER (l : Lane) : Nat := 0x3400100 + laneOff l
def OPT_START_INDEX (l : Lane) : Nat := 0x3400104 + laneOff l
def OPT_XFER_INDEX (l : Lane) : Nat := 0x3400108 + laneOff l
def OPT_PRES (l : Lane) : Nat := 0x340010C + laneOff l
def OPT_DRES (l : Lane) : Nat := 0x3400110 + laneOff l
def OPT_OBJ (l : Lane) : Nat := 0x3400114 + laneOff l
def OPT_SOLVES (l : Lane) : Nat := 0x3400118 + laneOff l
def OPT_FAILS (l : Lane) : Nat := 0x340011C + laneOff l
def OPT_OVERRUNS (l : Lane) : Nat := 0x3400120 + laneOff l
def OPT_ITER_NS (l : Lane) : Nat := 0x3400124 + laneOff l
def OPT_CHK_NS (l : Lane) : Nat := 0x3400128 + laneOff l
def OPT_SOLVE_NS (l : Lane) : Nat := 0x340012C + laneOff l
def OPT_LS_INFO (l : Lane) : Nat := 0x3400130 + laneOff l
def OPT_LS_INDEX (l : Lane) : Nat := 0x3400134 + laneOff l
def OPT_Q_STAGE (l : Lane) (i : Nat) : Nat := 0x3410000 + laneOff l + i * 4
def OPT_L_STAGE (l : Lane) (i : Nat) : Nat := 0x3420000 + laneOff l + i * 4
def OPT_U_STAGE (l : Lane) (i : Nat) : Nat := 0x3440000 + laneOff l + i * 4
def OPT_X (l : Lane) (i : Nat) : Nat := 0x3460000 + laneOff l + i * 4
def OPT_Y (l : Lane) (i : Nat) : Nat := 0x3480000 + laneOff l + i * 4
def CPE_STATUS (l : Lane) : Nat := 0x3800000 + laneOff l
def CPE_EVENTS (l : Lane) : Nat := 0x3800004 + laneOff l
def CPE_EVENT_EN (l : Lane) : Nat := 0x3800008 + laneOff l
def CPE_CMD (l : Lane) : Nat := 0x380000C + laneOff l
def CPE_CFG (l : Lane) : Nat := 0x3800010 + laneOff l
def CPE_MODE_INDEX (l : Lane) : Nat := 0x3800014 + laneOff l
def CPE_PW_ADDR (l : Lane) : Nat := 0x3800018 + laneOff l
def CPE_PW_DATA (l : Lane) : Nat := 0x380001C + laneOff l
def CPE_REFUSED (l : Lane) : Nat := 0x3800020 + laneOff l
def CPE_TASK0 (l : Lane) (i : Nat) : Nat := 0x3801000 + laneOff l + i * 32
def CPE_TASK_PERIOD (l : Lane) (i : Nat) : Nat := 0x3801004 + laneOff l + i * 32
def CPE_TASK_PHASE (l : Lane) (i : Nat) : Nat := 0x3801008 + laneOff l + i * 32
def CPE_TASK3 (l : Lane) (i : Nat) : Nat := 0x380100C + laneOff l + i * 32
def CPE_TASK4 (l : Lane) (i : Nat) : Nat := 0x3801010 + laneOff l + i * 32
def CPE_TASK5 (l : Lane) (i : Nat) : Nat := 0x3801014 + laneOff l + i * 32
def CPE_TASK6 (l : Lane) (i : Nat) : Nat := 0x3801018 + laneOff l + i * 32
def CPE_TSTAT0 (l : Lane) (i : Nat) : Nat := 0x3801400 + laneOff l + i * 32
def CPE_TSTAT_CYCLE (l : Lane) (i : Nat) : Nat := 0x3801404 + laneOff l + i * 32
def CPE_TSTAT_KC (l : Lane) (i : Nat) : Nat := 0x3801408 + laneOff l + i * 32
def CPE_TSTAT_CNT (l : Lane) (i : Nat) : Nat := 0x380140C + laneOff l + i * 32
def CPE_EV0 (l : Lane) (i : Nat) : Nat := 0x3801800 + laneOff l + i * 16
def CPE_EV1 (l : Lane) (i : Nat) : Nat := 0x3801804 + laneOff l + i * 16
def CPE_EV2 (l : Lane) (i : Nat) : Nat := 0x3801808 + laneOff l + i * 16
def CPE_ESTAT0 (l : Lane) (i : Nat) : Nat := 0x3801C00 + laneOff l + i * 16
def CPE_ESTAT1 (l : Lane) (i : Nat) : Nat := 0x3801C04 + laneOff l + i * 16
def CPE_STA0 (l : Lane) (i : Nat) : Nat := 0x3804000 + laneOff l + i * 16
def CPE_STA1 (l : Lane) (i : Nat) : Nat := 0x3804004 + laneOff l + i * 16
def CPE_STA2 (l : Lane) (i : Nat) : Nat := 0x3804008 + laneOff l + i * 16
def CPE_STA3 (l : Lane) (i : Nat) : Nat := 0x380400C + laneOff l + i * 16
def CPE_SSTAT0 (l : Lane) (i : Nat) : Nat := 0x3808000 + laneOff l + i * 16
def CPE_SSTAT1 (l : Lane) (i : Nat) : Nat := 0x3808004 + laneOff l + i * 16
def CPE_SSTAT2 (l : Lane) (i : Nat) : Nat := 0x3808008 + laneOff l + i * 16
def CPE_SSTAT3 (l : Lane) (i : Nat) : Nat := 0x380800C + laneOff l + i * 16
def NRG_STATUS (l : Lane) : Nat := 0x4000000 + laneOff l
def NRG_EVENTS (l : Lane) : Nat := 0x4000004 + laneOff l
def NRG_EVENT_EN (l : Lane) : Nat := 0x4000008 + laneOff l
def NRG_CMD (l : Lane) : Nat := 0x400000C + laneOff l
def NRG_CFG (l : Lane) : Nat := 0x4000010 + laneOff l
def NRG_SAVE_INT (l : Lane) : Nat := 0x4000014 + laneOff l
def NRG_SAVE_STATUS (l : Lane) : Nat := 0x4000018 + laneOff l
def NRG_SAVE_INDEX (l : Lane) : Nat := 0x400001C + laneOff l
def NRG_SAVE_COUNT (l : Lane) : Nat := 0x4000020 + laneOff l
def NRG_DEM_INDEX (l : Lane) : Nat := 0x4000024 + laneOff l
def NRG_DEM_COUNT (l : Lane) : Nat := 0x4000028 + laneOff l
def NRG_START_INFO (l : Lane) : Nat := 0x400002C + laneOff l
def NRG_GAP_POINTS (l : Lane) : Nat := 0x4000030 + laneOff l
def NRG_CMP_DIFFS (l : Lane) : Nat := 0x4000034 + laneOff l
def NRG_LS_INFO (l : Lane) : Nat := 0x4000038 + laneOff l
def NRG_LS_INDEX (l : Lane) : Nat := 0x400003C + laneOff l
def NRG_AN_SEL (l : Lane) : Nat := 0x4000040 + laneOff l
def NRG_PT0 (l : Lane) (i : Nat) : Nat := 0x4010000 + laneOff l + i * 256
def NRG_PT_SRC (l : Lane) (i : Nat) (j : Nat) : Nat := 0x4010004 + laneOff l + i * 256 + j * 4
def NRG_PT_SMAX (l : Lane) (i : Nat) : Nat := 0x4010010 + laneOff l + i * 256
def NRG_PT5 (l : Lane) (i : Nat) : Nat := 0x4010014 + laneOff l + i * 256
def NRG_PT_IL (l : Lane) (i : Nat) : Nat := 0x4010018 + laneOff l + i * 256
def NRG_PT_LIVE (l : Lane) (i : Nat) (j : Nat) : Nat := 0x4010020 + laneOff l + i * 256 + j * 4
def NRG_PT_STATE (l : Lane) (i : Nat) : Nat := 0x4010090 + laneOff l + i * 256
def NRG_PT_QUAL_IDX (l : Lane) (i : Nat) : Nat := 0x4010094 + laneOff l + i * 256
def NRG_PT_OVER_IDX (l : Lane) (i : Nat) : Nat := 0x4010098 + laneOff l + i * 256
def NRG_PT_FILL_IDX (l : Lane) (i : Nat) : Nat := 0x401009C + laneOff l + i * 256
def NRG_PT_DEM (l : Lane) (i : Nat) (j : Nat) : Nat := 0x40100A0 + laneOff l + i * 256 + j * 4
def NRG_PT_DEM_END (l : Lane) (i : Nat) : Nat := 0x40100E0 + laneOff l + i * 256
def NRG_PT_DEM_FLAGS (l : Lane) (i : Nat) : Nat := 0x40100E4 + laneOff l + i * 256
def NRG_PT_DEM_INDICES (l : Lane) (i : Nat) : Nat := 0x40100E8 + laneOff l + i * 256
def NRG_PT_MAXDEM (l : Lane) (i : Nat) : Nat := 0x40100EC + laneOff l + i * 256
def NRG_PT_MAXDEM_INDEX (l : Lane) (i : Nat) : Nat := 0x40100F0 + laneOff l + i * 256
def NRG_QUANT (l : Lane) (i : Nat) (j : Nat) : Nat := 0x40A0000 + laneOff l + i * 128 + j * 4
def NRG_AN_WIN (l : Lane) (i : Nat) : Nat := 0x41C0000 + laneOff l + i * 4
def REC_STATUS (l : Lane) : Nat := 0x4800000 + laneOff l
def REC_EVENTS (l : Lane) : Nat := 0x4800004 + laneOff l
def REC_EVENT_EN (l : Lane) : Nat := 0x4800008 + laneOff l
def REC_CMD (l : Lane) : Nat := 0x480000C + laneOff l
def REC_TRIG_SEL (l : Lane) : Nat := 0x4800010 + laneOff l
def REC_BLK_FREE (l : Lane) : Nat := 0x4800014 + laneOff l
def REC_BLK_USED (l : Lane) : Nat := 0x4800018 + laneOff l
def REC_BLK_CREST (l : Lane) : Nat := 0x480001C + laneOff l
def REC_CMP_DIFFS (l : Lane) : Nat := 0x4800020 + laneOff l
def REC_EXP_ADDR_LO (l : Lane) : Nat := 0x4800024 + laneOff l
def REC_EXP_ADDR_HI (l : Lane) : Nat := 0x4800028 + laneOff l
def REC_EXP_DONE (l : Lane) : Nat := 0x480002C + laneOff l
def REC_TOUT_CFG (l : Lane) : Nat := 0x4800030 + laneOff l
def REC_UNIT0 (l : Lane) (i : Nat) : Nat := 0x4801000 + laneOff l + i * 64
def REC_UNIT_LEN (l : Lane) (i : Nat) (j : Nat) : Nat := 0x4801004 + laneOff l + i * 64 + j * 4
def REC_UNIT_TRIG_EN (l : Lane) (i : Nat) : Nat := 0x4801010 + laneOff l + i * 64
def REC_UNIT_HOLD (l : Lane) (i : Nat) : Nat := 0x4801014 + laneOff l + i * 64
def REC_UNIT_A (l : Lane) (i : Nat) : Nat := 0x4801018 + laneOff l + i * 64
def REC_UNIT_B (l : Lane) (i : Nat) : Nat := 0x480101C + laneOff l + i * 64
def REC_UNIT_M (l : Lane) (i : Nat) : Nat := 0x4801020 + laneOff l + i * 64
def REC_UNIT_CV (l : Lane) (i : Nat) : Nat := 0x4801024 + laneOff l + i * 64
def REC_USTAT_STATE (l : Lane) (i : Nat) : Nat := 0x4801028 + laneOff l + i * 64
def REC_USTAT_TRIG (l : Lane) (i : Nat) : Nat := 0x480102C + laneOff l + i * 64
def REC_USTAT_END (l : Lane) (i : Nat) : Nat := 0x4801030 + laneOff l + i * 64
def REC_USTAT_CNT (l : Lane) (i : Nat) : Nat := 0x4801034 + laneOff l + i * 64
def REC_USTAT_VIOL (l : Lane) (i : Nat) : Nat := 0x4801038 + laneOff l + i * 64
def REC_USTAT_HOLD (l : Lane) (i : Nat) : Nat := 0x480103C + laneOff l + i * 64
def REC_ACH0 (l : Lane) (i : Nat) : Nat := 0x4820000 + laneOff l + i * 8
def REC_ACH1 (l : Lane) (i : Nat) : Nat := 0x4820004 + laneOff l + i * 8
def REC_BCH (l : Lane) (i : Nat) : Nat := 0x4840000 + laneOff l + i * 4
def REC_MASK0 (l : Lane) (i : Nat) : Nat := 0x4880000 + laneOff l + i * 16
def REC_MASK_LO (l : Lane) (i : Nat) : Nat := 0x4880004 + laneOff l + i * 16
def REC_MASK_HI (l : Lane) (i : Nat) : Nat := 0x4880008 + laneOff l + i * 16
def REC_MASK3 (l : Lane) (i : Nat) : Nat := 0x488000C + laneOff l + i * 16
def REC_ENV (l : Lane) (i : Nat) : Nat := 0x48A0000 + laneOff l + i * 4
def REC_RECORD (l : Lane) (i : Nat) (j : Nat) : Nat := 0x48C0000 + laneOff l + i * 64 + j * 4
def EVT_STATUS : Nat := 0x4C00000
def EVT_EVENTS : Nat := 0x4C00004
def EVT_EVENT_EN : Nat := 0x4C00008
def EVT_HEAD : Nat := 0x4C0000C
def EVT_OLDEST : Nat := 0x4C00010
def EVT_LOST : Nat := 0x4C00014
def EVT_SW_DATA (i : Nat) : Nat := 0x4C00020 + i * 4
def EVT_SW_CMD : Nat := 0x4C00030
def EVT_CURSOR : Nat := 0x4C00040
def EVT_CUR_STATUS : Nat := 0x4C00044
def EVT_CUR_STEP : Nat := 0x4C00048
def EVT_WIN (i : Nat) : Nat := 0x4C00080 + i * 4
def EVT_SNAP (i : Nat) : Nat := 0x4C00100 + i * 64
def EVT_SNAP_REG (i : Nat) (j : Nat) : Nat := 0x4C00104 + i * 64 + j * 4
def SEP_STATUS : Nat := 0x5000000
def SEP_EVENTS : Nat := 0x5000004
def SEP_EVENT_EN : Nat := 0x5000008
def SEP_CMD : Nat := 0x500000C
def SEP_DISABLE : Nat := 0x5000010
def SEP_CHECKS : Nat := 0x5000014
def SEP_FIRST : Nat := 0x5000018
def SEP_FIRST_CHECK : Nat := 0x500001C
def SEP_LANE_SKIP : Nat := 0x5000020
def SEP_VIOL (i : Nat) : Nat := 0x5000030 + i * 4
def SEP_CELLS : Nat := 0x5000060
def SEP_CELLS_FREE : Nat := 0x5000064
def SEP_CRED (i : Nat) : Nat := 0x5000080 + i * 4
def SEP_TOK (i : Nat) (j : Nat) : Nat := 0x5000200 + i * 32 + j * 4
def SEP_ACQ (i : Nat) (j : Nat) : Nat := 0x5000300 + i * 16 + j * 4
def SEP_NRG_FAIL : Nat := 0x5000400
def SEP_NRG_VAL (i : Nat) : Nat := 0x5000404 + i * 4
def SEP_NRG_DIS (i : Nat) : Nat := 0x5001000 + i * 4
def SEP_DESC (i : Nat) (j : Nat) : Nat := 0x5020000 + i * 32 + j * 4
def SEP_Q (i : Nat) (j : Nat) (k : Nat) : Nat := 0x5040000 + i * 128 + j * 16 + k * 4
def VI_ID (i : Nat) : Nat := 0x8000000 + i * 4096
def VI_GEN (i : Nat) : Nat := 0x8000004 + i * 4096
def VI_STATUS (i : Nat) : Nat := 0x8000008 + i * 4096
def VI_CTRL (i : Nat) : Nat := 0x800000C + i * 4096
def VI_EVENTS (i : Nat) : Nat := 0x8000010 + i * 4096
def VI_EVENT_EN (i : Nat) : Nat := 0x8000014 + i * 4096
def VI_TX_BASE_LO (i : Nat) : Nat := 0x8000100 + i * 4096
def VI_TX_BASE_HI (i : Nat) : Nat := 0x8000104 + i * 4096
def VI_TX_SIZE (i : Nat) : Nat := 0x8000108 + i * 4096
def VI_TX_HEAD (i : Nat) : Nat := 0x800010C + i * 4096
def VI_TX_TAIL (i : Nat) : Nat := 0x8000110 + i * 4096
def VI_TX_CTRL (i : Nat) : Nat := 0x8000114 + i * 4096
def VI_RX_BASE_LO (i : Nat) : Nat := 0x8000120 + i * 4096
def VI_RX_BASE_HI (i : Nat) : Nat := 0x8000124 + i * 4096
def VI_RX_SIZE (i : Nat) : Nat := 0x8000128 + i * 4096
def VI_RX_HEAD (i : Nat) : Nat := 0x800012C + i * 4096
def VI_RX_TAIL (i : Nat) : Nat := 0x8000130 + i * 4096
def VI_RX_CTRL (i : Nat) : Nat := 0x8000134 + i * 4096
def VI_RX_FRAMES (i : Nat) : Nat := 0x8000140 + i * 4096
def VI_RX_TRUNC (i : Nat) : Nat := 0x8000144 + i * 4096
def VI_TX_FRAMES (i : Nat) : Nat := 0x8000148 + i * 4096
def VI_TX_DISCARDS (i : Nat) : Nat := 0x800014C + i * 4096
def VI_VEC_CFG (i : Nat) (j : Nat) : Nat := 0x8000400 + i * 4096 + j * 16
def VI_VEC_COUNT (i : Nat) (j : Nat) : Nat := 0x8000404 + i * 4096 + j * 16
def VI_VEC_EOI (i : Nat) (j : Nat) : Nat := 0x8000408 + i * 4096 + j * 16
def VI_VEC_STATE (i : Nat) (j : Nat) : Nat := 0x800040C + i * 4096 + j * 16
def VI_MSIX_ADDR_LO (i : Nat) (j : Nat) : Nat := 0x8000800 + i * 4096 + j * 16
def VI_MSIX_ADDR_HI (i : Nat) (j : Nat) : Nat := 0x8000804 + i * 4096 + j * 16
def VI_MSIX_DATA (i : Nat) (j : Nat) : Nat := 0x8000808 + i * 4096 + j * 16
def VI_MSIX_CTRL (i : Nat) (j : Nat) : Nat := 0x800080C + i * 4096 + j * 16
def VI_PBA (i : Nat) (j : Nat) : Nat := 0x8000C00 + i * 4096 + j * 4

end R

/-- The access codes of Table 00-3. -/
inductive Acc where | ro | rw | wo | w1c | w1s | rc | rwl | img
deriving DecidableEq, Repr

/-- The smallest reset that restores a field (R11): power-on, nRESET, warm image reset, lane reset, polder reset, VI reset,
port reset, nRESET and FLR of the function (`f`), nRESET and FLR of PF0 (`g`), FLR of PF0 (`e`), none (`x`), measured (`m`). -/
inductive RKind where | p | n | w | l | d | v | t | f | g | e | x | m
deriving DecidableEq, Repr

/-- A field of a register. -/
structure Fld where
  hi : Nat
  lo : Nat
  acc : Acc
  rst : Nat
  kind : RKind
deriving DecidableEq, Repr

/-- A row of a register table: first offset, (stride, count) pairs of an array of registers, fields. -/
structure Row where
  base : Nat
  dims : List (Nat × Nat)
  flds : List Fld
deriving DecidableEq, Repr

/-- Registers of block IDN (R88). PRESUMED: the fused IDN_SERIAL, IDN_MFG_DATE and IDN_MAC_BASE, whose values are each module's own and
which the spec does not give, are 0 here (log entry 14). -/
def rowsIDN : List Row := [
  ⟨0x0, [], [⟨31,0,.ro,18582,.x⟩]⟩,
  ⟨0x4, [], [⟨31,0,.ro,131073,.x⟩]⟩,
  ⟨0x8, [], [⟨31,0,.ro,0,.x⟩]⟩,
  ⟨0xC, [], [⟨31,0,.ro,0,.x⟩]⟩,
  ⟨0x10, [], [⟨15,0,.ro,0,.x⟩]⟩,
  ⟨0x14, [], [⟨31,0,.ro,0,.x⟩]⟩,
  ⟨0x18, [], [⟨15,0,.ro,0,.x⟩]⟩,
  ⟨0x1C, [], [⟨31,0,.ro,64,.x⟩]⟩,
  ⟨0x20, [], [⟨0,0,.w1s,0,.n⟩, ⟨1,1,.ro,0,.n⟩]⟩,
  ⟨0x24, [], [⟨31,0,.ro,0,.x⟩]⟩,
  ⟨0x100, [(4, 64)], [⟨31,0,.rw,0,.x⟩]⟩]
/-- Registers of block PCM (R62). -/
def rowsPCM : List Row := [
  ⟨0x100000, [], [⟨2,0,.ro,1,.n⟩, ⟨4,4,.ro,1,.m⟩, ⟨5,5,.ro,0,.m⟩, ⟨6,6,.ro,0,.m⟩, ⟨7,7,.ro,1,.m⟩, ⟨8,8,.ro,0,.m⟩, ⟨9,9,.ro,0,.p⟩]⟩,
  ⟨0x100004, [], [⟨9,0,.w1c,0,.n⟩]⟩,
  ⟨0x100008, [], [⟨9,0,.rw,0,.n⟩]⟩,
  ⟨0x10000C, [], [⟨31,0,.wo,0,.x⟩]⟩,
  ⟨0x100010, [], [⟨3,0,.ro,0,.n⟩]⟩,
  ⟨0x100014, [], [⟨5,0,.ro,2,.x⟩]⟩,
  ⟨0x100018, [], [⟨31,0,.ro,0,.x⟩]⟩,
  ⟨0x100020, [], [⟨31,0,.ro,0,.x⟩]⟩,
  ⟨0x100024, [], [⟨31,0,.ro,0,.x⟩]⟩,
  ⟨0x100028, [], [⟨4,0,.rw,0,.n⟩]⟩,
  ⟨0x10002C, [], [⟨9,0,.rc,0,.n⟩]⟩,
  ⟨0x100030, [], [⟨15,0,.ro,0,.m⟩]⟩,
  ⟨0x100034, [], [⟨15,0,.ro,0,.m⟩]⟩,
  ⟨0x100038, [], [⟨15,0,.ro,0,.m⟩]⟩,
  ⟨0x10003C, [], [⟨19,0,.ro,0,.m⟩]⟩,
  ⟨0x100040, [], [⟨15,0,.ro,0,.m⟩]⟩,
  ⟨0x100044, [], [⟨15,0,.ro,0,.m⟩]⟩,
  ⟨0x100048, [], [⟨15,0,.ro,0,.m⟩]⟩,
  ⟨0x10004C, [], [⟨15,0,.ro,0,.m⟩]⟩,
  ⟨0x100060, [], [⟨15,0,.rw,1680,.n⟩]⟩,
  ⟨0x100064, [], [⟨15,0,.ro,0,.p⟩]⟩,
  ⟨0x100068, [], [⟨0,0,.rw,0,.n⟩]⟩,
  ⟨0x10006C, [], [⟨6,0,.w1c,0,.n⟩]⟩,
  ⟨0x100070, [], [⟨12,0,.ro,4159,.m⟩]⟩]
/-- Registers of block RTC (R426). -/
def rowsRTC : List Row := [
  ⟨0x200000, [], [⟨0,0,.w1c,1,.x⟩, ⟨1,1,.ro,1,.x⟩, ⟨2,2,.ro,0,.n⟩, ⟨3,3,.w1c,0,.n⟩, ⟨4,4,.ro,0,.n⟩]⟩,
  ⟨0x200004, [], [⟨3,0,.w1c,0,.x⟩, ⟨4,4,.w1c,1,.x⟩, ⟨6,5,.w1c,0,.n⟩]⟩,
  ⟨0x200008, [], [⟨6,0,.rw,0,.n⟩]⟩,
  ⟨0x20000C, [], [⟨31,0,.wo,0,.x⟩]⟩,
  ⟨0x200010, [], [⟨0,0,.rw,0,.x⟩, ⟨4,1,.rw,9,.x⟩, ⟨8,8,.rw,0,.x⟩]⟩,
  ⟨0x200014, [], [⟨12,0,.rw,0,.x⟩]⟩,
  ⟨0x200018, [], [⟨15,0,.ro,0,.m⟩]⟩,
  ⟨0x20001C, [], [⟨12,0,.ro,0,.x⟩]⟩,
  ⟨0x200020, [], [⟨14,0,.ro,0,.x⟩]⟩,
  ⟨0x200024, [], [⟨31,0,.ro,0,.x⟩]⟩,
  ⟨0x200028, [], [⟨15,0,.ro,0,.x⟩]⟩,
  ⟨0x20002C, [], [⟨5,0,.ro,0,.x⟩, ⟨13,8,.ro,0,.x⟩, ⟨20,16,.ro,0,.x⟩, ⟨26,24,.ro,0,.x⟩]⟩,
  ⟨0x200030, [], [⟨4,0,.ro,1,.x⟩, ⟨11,8,.ro,1,.x⟩, ⟨23,16,.ro,0,.x⟩]⟩,
  ⟨0x200040, [], [⟨31,0,.rw,0,.n⟩]⟩,
  ⟨0x200044, [], [⟨15,0,.rw,0,.n⟩]⟩,
  ⟨0x200048, [], [⟨0,0,.rw,1,.n⟩, ⟨6,4,.rw,0,.n⟩]⟩,
  ⟨0x200050, [], [⟨31,0,.rw,0,.x⟩]⟩,
  ⟨0x200054, [], [⟨31,0,.ro,0,.x⟩]⟩,
  ⟨0x200060, [(16, 2)], [⟨0,0,.rw,0,.x⟩, ⟨3,1,.rw,0,.x⟩, ⟨15,8,.ro,0,.x⟩]⟩,
  ⟨0x200064, [(16, 2)], [⟨31,0,.rw,0,.x⟩]⟩,
  ⟨0x200068, [(16, 2)], [⟨15,0,.rw,0,.x⟩]⟩,
  ⟨0x200100, [(4, 16)], [⟨12,0,.rw,0,.x⟩]⟩]
/-- Registers of block WDN (R385). -/
def rowsWDN : List Row := [
  ⟨0x300000, [], [⟨0,0,.ro,0,.n⟩, ⟨1,1,.ro,0,.n⟩, ⟨2,2,.ro,0,.n⟩, ⟨3,3,.ro,0,.n⟩, ⟨4,4,.ro,0,.n⟩, ⟨5,5,.ro,0,.n⟩, ⟨10,8,.ro,0,.n⟩, ⟨14,12,.ro,1,.n⟩, ⟨18,16,.ro,7,.n⟩, ⟨24,24,.w1c,0,.n⟩]⟩,
  ⟨0x300004, [], [⟨13,0,.w1c,0,.n⟩]⟩,
  ⟨0x300008, [], [⟨13,0,.rw,0,.n⟩]⟩,
  ⟨0x30000C, [], [⟨31,0,.wo,0,.x⟩]⟩,
  ⟨0x300010, [], [⟨0,0,.img,1,.w⟩, ⟨1,1,.img,1,.w⟩, ⟨2,2,.img,1,.w⟩, ⟨3,3,.img,0,.w⟩, ⟨4,4,.img,1,.w⟩, ⟨15,8,.img,8,.w⟩, ⟨23,16,.img,3,.w⟩]⟩,
  ⟨0x300014, [], [⟨6,0,.ro,0,.n⟩]⟩,
  ⟨0x300018, [(4, 2)], [⟨11,0,.ro,0,.n⟩, ⟨16,16,.ro,0,.n⟩, ⟨17,17,.ro,0,.n⟩, ⟨26,24,.w1c,0,.n⟩]⟩,
  ⟨0x300020, [], [⟨31,0,.ro,0,.n⟩]⟩,
  ⟨0x300024, [], [⟨15,0,.ro,0,.n⟩]⟩,
  ⟨0x300028, [], [⟨15,0,.rc,0,.n⟩]⟩,
  ⟨0x30002C, [], [⟨31,0,.ro,0,.n⟩]⟩,
  ⟨0x300030, [], [⟨31,0,.ro,0,.n⟩]⟩,
  ⟨0x300034, [], [⟨7,0,.img,10,.w⟩, ⟨15,8,.img,60,.w⟩, ⟨23,16,.img,10,.w⟩]⟩,
  ⟨0x300040, [(4, 3)], [⟨0,0,.ro,1,.n⟩, ⟨3,1,.ro,0,.n⟩, ⟨15,8,.ro,0,.n⟩, ⟨31,16,.ro,0,.n⟩]⟩,
  ⟨0x300060, [(32, 2)], [⟨31,0,.ro,0,.n⟩]⟩,
  ⟨0x300064, [(32, 2)], [⟨31,0,.rc,0,.n⟩]⟩,
  ⟨0x300068, [(32, 2)], [⟨31,0,.ro,0,.n⟩]⟩,
  ⟨0x30006C, [(32, 2)], [⟨15,0,.rc,0,.n⟩, ⟨31,16,.rc,0,.n⟩]⟩,
  ⟨0x300070, [(32, 2)], [⟨15,0,.rc,0,.n⟩, ⟨31,16,.rc,0,.n⟩]⟩,
  ⟨0x300100, [], [⟨0,0,.ro,0,.n⟩, ⟨1,1,.ro,0,.n⟩, ⟨6,4,.ro,0,.n⟩, ⟨15,8,.ro,0,.n⟩]⟩,
  ⟨0x300104, [], [⟨15,0,.img,64,.w⟩, ⟨23,16,.img,8,.w⟩, ⟨31,24,.img,5,.w⟩]⟩,
  ⟨0x300108, [], [⟨31,0,.ro,0,.n⟩]⟩,
  ⟨0x30010C, [], [⟨31,0,.ro,0,.n⟩]⟩,
  ⟨0x300110, [], [⟨3,0,.ro,0,.n⟩]⟩,
  ⟨0x300114, [], [⟨31,0,.ro,0,.n⟩]⟩,
  ⟨0x300200, [], [⟨0,0,.img,0,.w⟩, ⟨1,1,.img,0,.w⟩, ⟨15,4,.img,100,.w⟩]⟩,
  ⟨0x300204, [], [⟨2,0,.ro,0,.n⟩, ⟨15,8,.ro,0,.n⟩]⟩,
  ⟨0x300208, [], [⟨31,0,.ro,0,.n⟩]⟩]
/-- Registers of block ICU (R116). -/
def rowsICU : List Row := [
  ⟨0x400000, [], [⟨0,0,.w1c,0,.n⟩]⟩,
  ⟨0x400004, [], [⟨31,0,.ro,0,.n⟩]⟩,
  ⟨0x400100, [(4, 128)], [⟨7,0,.rw,0,.g⟩, ⟨31,31,.rw,0,.g⟩]⟩,
  ⟨0x400400, [(4, 4)], [⟨31,0,.ro,0,.m⟩]⟩,
  ⟨0x410000, [(16, 256)], [⟨31,0,.rw,0,.g⟩]⟩,
  ⟨0x410004, [(16, 256)], [⟨31,0,.rw,0,.g⟩]⟩,
  ⟨0x410008, [(16, 256)], [⟨31,0,.rw,0,.g⟩]⟩,
  ⟨0x41000C, [(16, 256)], [⟨0,0,.rw,1,.g⟩]⟩,
  ⟨0x411000, [(4, 8)], [⟨31,0,.ro,0,.e⟩]⟩,
  ⟨0x412000, [(16, 256)], [⟨2,0,.rw,0,.g⟩, ⟨3,3,.rw,0,.g⟩, ⟨15,8,.rw,0,.g⟩, ⟨31,16,.rw,0,.g⟩]⟩,
  ⟨0x412004, [(16, 256)], [⟨15,0,.rc,0,.e⟩]⟩,
  ⟨0x412008, [(16, 256)], [⟨0,0,.wo,0,.x⟩]⟩,
  ⟨0x41200C, [(16, 256)], [⟨0,0,.ro,0,.e⟩, ⟨1,1,.ro,0,.e⟩, ⟨2,2,.ro,0,.e⟩, ⟨15,8,.ro,0,.e⟩]⟩]
/-- Registers of block VIR (R116). -/
def rowsVIR : List Row := [
  ⟨0x500000, [], [⟨0,0,.w1c,0,.n⟩, ⟨1,1,.ro,0,.n⟩, ⟨14,8,.ro,0,.n⟩]⟩,
  ⟨0x500004, [], [⟨3,0,.w1c,0,.n⟩]⟩,
  ⟨0x500008, [], [⟨3,0,.rw,0,.n⟩]⟩,
  ⟨0x50000C, [], [⟨31,0,.wo,0,.x⟩]⟩,
  ⟨0x500010, [], [⟨31,0,.ro,0,.n⟩]⟩,
  ⟨0x500014, [], [⟨31,0,.ro,0,.n⟩]⟩,
  ⟨0x500018, [], [⟨0,0,.rw,1,.n⟩]⟩,
  ⟨0x500020, [], [⟨31,0,.ro,0,.n⟩]⟩,
  ⟨0x500024, [], [⟨31,0,.ro,0,.n⟩]⟩,
  ⟨0x500028, [], [⟨10,0,.ro,0,.n⟩, ⟨12,12,.ro,0,.n⟩]⟩,
  ⟨0x510000, [(4, 4096)], [⟨2,0,.img,0,.w⟩, ⟨9,4,.img,0,.w⟩, ⟨26,16,.ro,0,.w⟩]⟩,
  ⟨0x520000, [(64, 64)], [⟨31,0,.img,0,.w⟩]⟩,
  ⟨0x520004, [(64, 64)], [⟨19,0,.img,0,.w⟩]⟩,
  ⟨0x520008, [(64, 64)], [⟨15,0,.img,0,.w⟩]⟩,
  ⟨0x52000C, [(64, 64)], [⟨11,0,.img,0,.w⟩]⟩,
  ⟨0x520010, [(64, 64)], [⟨15,0,.img,0,.w⟩, ⟨31,16,.img,0,.w⟩]⟩,
  ⟨0x520020, [(64, 64)], [⟨31,0,.rc,0,.d⟩]⟩,
  ⟨0x520024, [(64, 64)], [⟨31,0,.rc,0,.d⟩]⟩,
  ⟨0x520028, [(64, 64)], [⟨31,0,.rc,0,.d⟩]⟩,
  ⟨0x52002C, [(64, 64)], [⟨31,0,.rc,0,.d⟩]⟩,
  ⟨0x520030, [(64, 64)], [⟨31,0,.rc,0,.d⟩]⟩,
  ⟨0x520034, [(64, 64)], [⟨31,0,.ro,0,.w⟩]⟩,
  ⟨0x580000, [(256, 1025), (32, 8)], [⟨0,0,.rw,0,.f⟩, ⟨1,1,.rw,0,.f⟩, ⟨2,2,.rw,0,.f⟩, ⟨31,12,.rw,0,.f⟩]⟩,
  ⟨0x580004, [(256, 1025), (32, 8)], [⟨31,0,.rw,0,.f⟩]⟩,
  ⟨0x580008, [(256, 1025), (32, 8)], [⟨31,12,.rw,0,.f⟩]⟩,
  ⟨0x58000C, [(256, 1025), (32, 8)], [⟨31,0,.rw,0,.f⟩]⟩,
  ⟨0x580010, [(256, 1025), (32, 8)], [⟨31,0,.rw,0,.f⟩]⟩,
  ⟨0x5D0000, [(32, 1024)], [⟨0,0,.rw,0,.f⟩, ⟨1,1,.wo,0,.x⟩]⟩,
  ⟨0x5D0004, [(32, 1024)], [⟨0,0,.ro,0,.f⟩, ⟨1,1,.ro,0,.f⟩, ⟨2,2,.w1c,0,.f⟩]⟩,
  ⟨0x5D0008, [(32, 1024)], [⟨31,6,.rw,0,.f⟩]⟩,
  ⟨0x5D000C, [(32, 1024)], [⟨31,0,.rw,0,.f⟩]⟩,
  ⟨0x5D0010, [(32, 1024)], [⟨31,6,.rw,0,.f⟩]⟩,
  ⟨0x5D0014, [(32, 1024)], [⟨31,0,.rw,0,.f⟩]⟩,
  ⟨0x5D0018, [(32, 1024)], [⟨23,0,.rw,0,.f⟩]⟩]
/-- Registers of block CFG (R87). -/
def rowsCFG : List Row := [
  ⟨0x600000, [], [⟨3,0,.ro,7,.n⟩, ⟨4,4,.ro,0,.n⟩, ⟨5,5,.ro,0,.n⟩, ⟨6,6,.ro,0,.n⟩, ⟨7,7,.ro,0,.n⟩, ⟨8,8,.ro,0,.n⟩, ⟨9,9,.ro,0,.n⟩, ⟨10,10,.ro,0,.n⟩, ⟨11,11,.w1c,0,.n⟩]⟩,
  ⟨0x600004, [], [⟨8,0,.w1c,0,.n⟩]⟩,
  ⟨0x600008, [], [⟨8,0,.rw,0,.n⟩]⟩,
  ⟨0x60000C, [], [⟨31,0,.wo,0,.x⟩]⟩,
  ⟨0x600010, [], [⟨7,0,.ro,0,.n⟩, ⟨12,8,.ro,0,.n⟩, ⟨19,16,.ro,0,.n⟩]⟩,
  ⟨0x600014, [], [⟨0,0,.rw,0,.x⟩, ⟨1,1,.rw,1,.n⟩]⟩,
  ⟨0x600018, [], [⟨31,0,.rw,0,.n⟩]⟩,
  ⟨0x60001C, [], [⟨31,0,.ro,0,.n⟩]⟩,
  ⟨0x600020, [], [⟨31,0,.rw,0,.n⟩]⟩,
  ⟨0x600024, [], [⟨31,0,.rw,0,.n⟩]⟩,
  ⟨0x600028, [], [⟨31,0,.rw,0,.n⟩]⟩,
  ⟨0x60002C, [], [⟨31,0,.rw,0,.n⟩]⟩,
  ⟨0x600030, [], [⟨31,0,.ro,0,.n⟩]⟩,
  ⟨0x600034, [], [⟨31,0,.ro,0,.n⟩]⟩,
  ⟨0x600038, [], [⟨31,0,.ro,0,.p⟩]⟩,
  ⟨0x60003C, [], [⟨3,0,.ro,0,.n⟩, ⟨15,8,.ro,0,.n⟩]⟩,
  ⟨0x600040, [(4, 8)], [⟨31,0,.ro,0,.n⟩]⟩,
  ⟨0x600060, [(4, 8)], [⟨31,0,.ro,0,.n⟩]⟩,
  ⟨0x600080, [(4, 8)], [⟨31,0,.ro,0,.n⟩]⟩,
  ⟨0x6000A0, [], [⟨0,0,.img,0,.w⟩, ⟨3,1,.img,0,.w⟩, ⟨8,8,.img,0,.w⟩, ⟨11,9,.img,0,.w⟩, ⟨27,16,.img,0,.w⟩]⟩,
  ⟨0x6000A4, [], [⟨15,0,.img,34997,.w⟩]⟩,
  ⟨0x6000A8, [], [⟨31,0,.img,0,.w⟩]⟩,
  ⟨0x6000AC, [], [⟨15,0,.img,0,.w⟩, ⟨18,18,.img,0,.w⟩]⟩,
  ⟨0x6000B0, [], [⟨15,0,.ro,0,.n⟩]⟩]
/-- Registers of block KEY (R411). -/
def rowsKEY : List Row := [
  ⟨0x700000, [], [⟨0,0,.ro,0,.n⟩, ⟨1,1,.ro,0,.n⟩, ⟨2,2,.w1c,0,.n⟩, ⟨3,3,.ro,0,.n⟩]⟩,
  ⟨0x700004, [], [⟨4,0,.w1c,0,.n⟩]⟩,
  ⟨0x700008, [], [⟨4,0,.rw,0,.n⟩]⟩,
  ⟨0x70000C, [], [⟨31,0,.wo,0,.x⟩]⟩,
  ⟨0x700010, [], [⟨7,0,.ro,0,.n⟩]⟩,
  ⟨0x700014, [], [⟨3,0,.rw,0,.n⟩, ⟨4,4,.rw,0,.n⟩, ⟨15,8,.rw,0,.n⟩]⟩,
  ⟨0x700018, [], [⟨31,0,.rw,0,.n⟩]⟩,
  ⟨0x70001C, [], [⟨31,0,.rw,0,.n⟩]⟩,
  ⟨0x700020, [], [⟨2,0,.img,0,.w⟩]⟩,
  ⟨0x700040, [(4, 16)], [⟨31,0,.rw,0,.n⟩]⟩,
  ⟨0x700080, [(4, 44)], [⟨31,0,.ro,0,.n⟩]⟩,
  ⟨0x700200, [], [⟨15,0,.img,0,.w⟩]⟩,
  ⟨0x700204, [], [⟨3,0,.ro,0,.p⟩, ⟨11,8,.w1c,0,.p⟩]⟩,
  ⟨0x700208, [], [⟨31,0,.ro,0,.p⟩]⟩,
  ⟨0x701000, [(16, 144)], [⟨3,0,.ro,0,.x⟩, ⟨4,4,.ro,0,.x⟩, ⟨5,5,.ro,0,.x⟩, ⟨6,6,.ro,0,.x⟩, ⟨7,7,.ro,0,.x⟩, ⟨8,8,.ro,0,.n⟩]⟩,
  ⟨0x701004, [(16, 144)], [⟨31,0,.ro,0,.x⟩]⟩,
  ⟨0x701008, [(16, 144)], [⟨31,0,.ro,0,.n⟩]⟩]
/-- Registers of block PRT (R133). -/
def rowsPRT : List Row := [
  ⟨0x1000000, [(65536, 48)], [⟨0,0,.ro,0,.t⟩, ⟨3,1,.ro,7,.t⟩, ⟨4,4,.ro,0,.t⟩, ⟨5,5,.ro,0,.t⟩, ⟨6,6,.ro,0,.t⟩, ⟨7,7,.ro,0,.t⟩, ⟨8,8,.ro,0,.t⟩, ⟨9,9,.ro,0,.t⟩, ⟨10,10,.ro,0,.t⟩, ⟨11,11,.ro,0,.t⟩, ⟨17,16,.ro,0,.t⟩]⟩,
  ⟨0x1000004, [(65536, 48)], [⟨10,0,.w1c,0,.n⟩]⟩,
  ⟨0x1000008, [(65536, 48)], [⟨10,0,.rw,0,.n⟩]⟩,
  ⟨0x100000C, [(65536, 48)], [⟨1,0,.rw,0,.t⟩, ⟨8,8,.wo,0,.x⟩, ⟨31,16,.wo,0,.x⟩]⟩,
  ⟨0x1000010, [(65536, 48)], [⟨3,0,.img,0,.w⟩, ⟨5,4,.img,0,.w⟩, ⟨6,6,.img,0,.w⟩, ⟨9,8,.img,0,.w⟩]⟩,
  ⟨0x1000014, [(65536, 48)], [⟨13,0,.img,1536,.w⟩]⟩,
  ⟨0x1000018, [(65536, 48)], [⟨7,0,.img,0,.w⟩, ⟨10,8,.img,0,.w⟩]⟩,
  ⟨0x100001C, [(65536, 48)], [⟨2,0,.rw,0,.t⟩]⟩,
  ⟨0x1000020, [(65536, 48)], [⟨0,0,.rw,0,.n⟩, ⟨31,16,.rw,0,.n⟩]⟩,
  ⟨0x1000024, [(65536, 48)], [⟨15,0,.rw,0,.t⟩]⟩,
  ⟨0x1000028, [(65536, 48)], [⟨4,0,.img,0,.w⟩, ⟨13,8,.img,40,.w⟩, ⟨20,16,.img,0,.w⟩, ⟨24,24,.img,0,.w⟩]⟩,
  ⟨0x100002C, [(65536, 48)], [⟨4,0,.img,0,.w⟩, ⟨8,8,.img,1,.w⟩, ⟨9,9,.img,0,.w⟩]⟩,
  ⟨0x1000040, [(65536, 48)], [⟨31,0,.w1c,0,.t⟩]⟩,
  ⟨0x1000044, [(65536, 48)], [⟨31,0,.w1c,0,.t⟩]⟩,
  ⟨0x1000048, [(65536, 48)], [⟨31,0,.rw,0,.n⟩]⟩,
  ⟨0x100004C, [(65536, 48)], [⟨31,0,.rw,0,.n⟩]⟩,
  ⟨0x1000050, [(65536, 48)], [⟨1,0,.wo,0,.x⟩]⟩,
  ⟨0x1000054, [(65536, 48)], [⟨15,0,.ro,0,.t⟩]⟩,
  ⟨0x1000400, [(65536, 48)], [⟨2,0,.rw,0,.n⟩]⟩,
  ⟨0x1000404, [(65536, 48)], [⟨31,0,.img,0,.w⟩]⟩,
  ⟨0x1000408, [(65536, 48)], [⟨31,0,.img,0,.w⟩]⟩,
  ⟨0x100040C, [(65536, 48)], [⟨31,0,.rw,0,.n⟩]⟩,
  ⟨0x1000410, [(65536, 48)], [⟨31,0,.rw,0,.t⟩]⟩,
  ⟨0x1000800, [(65536, 48), (4, 64)], [⟨31,0,.ro,0,.t⟩]⟩,
  ⟨0x1000C00, [(65536, 48), (4, 24)], [⟨31,0,.ro,0,.t⟩]⟩,
  ⟨0x1000F00, [], [⟨31,0,.wo,0,.x⟩]⟩,
  ⟨0x1000F04, [], [⟨16,0,.ro,0,.n⟩]⟩,
  ⟨0x1000F08, [], [⟨7,0,.rw,39,.n⟩]⟩,
  ⟨0x1000F0C, [], [⟨0,0,.rw,0,.w⟩, ⟨1,1,.img,0,.w⟩, ⟨8,8,.ro,0,.w⟩]⟩,
  ⟨0x1000F10, [], [⟨31,0,.wo,0,.x⟩]⟩,
  ⟨0x1000F14, [], [⟨9,0,.ro,0,.n⟩]⟩]
/-- Registers of block SWC (R155). -/
def rowsSWC0 : List Row := [
  ⟨0x1400000, [], [⟨2,0,.ro,0,.w⟩]⟩,
  ⟨0x1400004, [], [⟨5,0,.w1c,0,.n⟩]⟩,
  ⟨0x1400008, [], [⟨5,0,.rw,0,.n⟩]⟩,
  ⟨0x1400010, [], [⟨19,0,.ro,524288,.w⟩]⟩,
  ⟨0x1400014, [], [⟨19,0,.rc,0,.w⟩]⟩,
  ⟨0x1400018, [], [⟨19,0,.img,8192,.w⟩, ⟨26,24,.img,6,.w⟩]⟩,
  ⟨0x140001C, [], [⟨6,0,.img,31,.w⟩]⟩,
  ⟨0x1400020, [], [⟨23,0,.img,16434824,.w⟩]⟩,
  ⟨0x1400024, [], [⟨11,0,.img,0,.w⟩, ⟨31,31,.img,0,.w⟩]⟩,
  ⟨0x1400028, [], [⟨15,0,.img,300,.w⟩]⟩,
  ⟨0x1400030, [], [⟨31,0,.rc,0,.w⟩]⟩,
  ⟨0x1400034, [], [⟨15,0,.ro,0,.w⟩]⟩,
  ⟨0x1400038, [], [⟨31,0,.rc,0,.w⟩]⟩,
  ⟨0x1400040, [(4, 8)], [⟨19,0,.img,0,.w⟩]⟩,
  ⟨0x1400100, [], [⟨31,12,.rw,0,.n⟩]⟩,
  ⟨0x1400104, [], [⟨31,0,.rw,0,.n⟩]⟩,
  ⟨0x1400108, [], [⟨3,0,.rw,4,.n⟩]⟩,
  ⟨0x140010C, [], [⟨14,0,.ro,0,.n⟩]⟩,
  ⟨0x1400110, [], [⟨14,0,.rw,0,.n⟩]⟩,
  ⟨0x1400114, [], [⟨0,0,.rw,0,.n⟩, ⟨3,1,.rw,0,.n⟩, ⟨8,8,.ro,0,.n⟩]⟩,
  ⟨0x1400118, [], [⟨31,0,.rc,0,.n⟩]⟩,
  ⟨0x1400200, [(32, 4)], [⟨2,0,.img,0,.w⟩, ⟨13,8,.img,0,.w⟩, ⟨21,16,.img,0,.w⟩, ⟨29,24,.img,0,.w⟩]⟩,
  ⟨0x1400204, [(32, 4)], [⟨15,0,.img,400,.w⟩, ⟨31,16,.img,2000,.w⟩]⟩,
  ⟨0x1400208, [(32, 4)], [⟨15,0,.ro,0,.w⟩]⟩,
  ⟨0x140020C, [(32, 4)], [⟨31,0,.rc,0,.w⟩]⟩,
  ⟨0x1400210, [(32, 4)], [⟨31,0,.rc,0,.w⟩]⟩,
  ⟨0x1400214, [(32, 4)], [⟨31,0,.rc,0,.w⟩]⟩,
  ⟨0x1400218, [(32, 4)], [⟨31,0,.rc,0,.w⟩]⟩,
  ⟨0x1400400, [(128, 16)], [⟨31,0,.img,0,.w⟩]⟩,
  ⟨0x1400404, [(128, 16)], [⟨15,0,.img,0,.w⟩]⟩,
  ⟨0x1400408, [(128, 16)], [⟨31,0,.rw,4294967295,.w⟩]⟩,
  ⟨0x140040C, [(128, 16)], [⟨15,0,.rw,65535,.w⟩]⟩,
  ⟨0x1400410, [(128, 16), (4, 16)], [⟨5,0,.img,0,.w⟩, ⟨13,8,.img,0,.w⟩, ⟨21,16,.img,0,.w⟩, ⟨29,24,.img,0,.w⟩]⟩,
  ⟨0x1410000, [(256, 51)], [⟨11,0,.img,1,.w⟩, ⟨14,12,.img,0,.w⟩, ⟨16,16,.img,0,.w⟩, ⟨17,17,.img,0,.w⟩]⟩,
  ⟨0x1410004, [(256, 51)], [⟨2,0,.img,6,.w⟩]⟩,
  ⟨0x1410008, [(256, 51), (4, 2)], [⟨31,0,.img,16843009,.w⟩]⟩,
  ⟨0x1410020, [(256, 51), (4, 8)], [⟨19,0,.img,16384,.w⟩]⟩,
  ⟨0x1410040, [(256, 51), (4, 8)], [⟨19,0,.ro,0,.w⟩]⟩,
  ⟨0x1410060, [(256, 51), (4, 8)], [⟨19,0,.rc,0,.w⟩]⟩,
  ⟨0x1410080, [(256, 51), (4, 8)], [⟨31,0,.rc,0,.w⟩]⟩]
/-- Registers of block SWC (R155). -/
def rowsSWC1 : List Row := [
  ⟨0x14100A0, [(256, 51), (4, 8)], [⟨31,0,.rc,0,.w⟩]⟩,
  ⟨0x14100C0, [(256, 51)], [⟨5,0,.ro,32,.t⟩, ⟨13,8,.ro,0,.t⟩]⟩,
  ⟨0x14100C4, [(256, 51)], [⟨0,0,.rw,0,.n⟩, ⟨1,1,.rw,0,.n⟩, ⟨15,8,.rw,0,.n⟩]⟩,
  ⟨0x14100C8, [(256, 51)], [⟨31,0,.rc,0,.w⟩]⟩,
  ⟨0x14100CC, [(256, 51)], [⟨31,0,.rc,0,.w⟩]⟩,
  ⟨0x1420000, [(16, 4096)], [⟨31,0,.img,0,.w⟩]⟩,
  ⟨0x1420004, [(16, 4096)], [⟨18,0,.img,0,.w⟩]⟩,
  ⟨0x1420008, [(16, 4096)], [⟨31,0,.img,0,.w⟩]⟩,
  ⟨0x142000C, [(16, 4096)], [⟨18,0,.img,0,.w⟩, ⟨27,24,.img,0,.w⟩]⟩,
  ⟨0x1440000, [(16, 4096)], [⟨31,0,.img,0,.w⟩]⟩,
  ⟨0x1440004, [(16, 4096)], [⟨18,0,.img,0,.w⟩]⟩,
  ⟨0x1440008, [(16, 4096)], [⟨11,0,.img,0,.w⟩, ⟨27,16,.img,0,.w⟩]⟩,
  ⟨0x1480000, [(16, 32768)], [⟨31,0,.img,0,.w⟩]⟩,
  ⟨0x1480004, [(16, 32768)], [⟨30,0,.img,0,.w⟩]⟩,
  ⟨0x1480008, [(16, 32768)], [⟨11,0,.img,0,.w⟩, ⟨27,16,.img,0,.w⟩]⟩,
  ⟨0x148000C, [(16, 32768)], [⟨15,0,.ro,0,.w⟩]⟩]
/-- The registers of block SWC (R155). -/
def rowsSWC : List Row := rowsSWC0 ++ rowsSWC1
/-- Registers of block TMU (R174). -/
def rowsTMU : List Row := [
  ⟨0x1800000, [], [⟨3,0,.ro,0,.n⟩, ⟨11,4,.ro,0,.n⟩, ⟨16,16,.ro,0,.n⟩, ⟨17,17,.ro,0,.n⟩, ⟨18,18,.w1c,0,.n⟩]⟩,
  ⟨0x1800004, [], [⟨28,0,.w1c,0,.n⟩]⟩,
  ⟨0x1800008, [], [⟨28,0,.rw,0,.n⟩]⟩,
  ⟨0x180000C, [], [⟨0,0,.rw,0,.n⟩]⟩,
  ⟨0x1800010, [], [⟨31,0,.wo,0,.x⟩]⟩,
  ⟨0x1800014, [], [⟨1,0,.img,0,.w⟩, ⟨5,4,.img,0,.w⟩]⟩,
  ⟨0x1800018, [], [⟨2,0,.img,0,.w⟩]⟩,
  ⟨0x180001C, [], [⟨0,0,.rw,0,.n⟩, ⟨3,1,.rw,0,.n⟩, ⟨4,4,.rw,0,.n⟩, ⟨31,8,.rw,100000,.n⟩]⟩,
  ⟨0x1800020, [], [⟨0,0,.rw,0,.n⟩, ⟨3,1,.rw,0,.n⟩]⟩,
  ⟨0x1800024, [], [⟨31,0,.ro,0,.n⟩]⟩,
  ⟨0x1800028, [], [⟨31,0,.ro,0,.n⟩]⟩,
  ⟨0x180002C, [], [⟨15,0,.ro,0,.n⟩]⟩,
  ⟨0x1800030, [], [⟨15,0,.ro,0,.n⟩, ⟨31,16,.ro,0,.n⟩]⟩,
  ⟨0x1800034, [], [⟨29,0,.rw,0,.n⟩]⟩,
  ⟨0x1800038, [], [⟨31,0,.rw,0,.n⟩]⟩,
  ⟨0x180003C, [], [⟨15,0,.rw,0,.n⟩, ⟨31,16,.rw,0,.n⟩]⟩,
  ⟨0x1800040, [], [⟨1,0,.rw,0,.n⟩, ⟨6,4,.rw,0,.n⟩, ⟨31,31,.ro,0,.n⟩]⟩,
  ⟨0x1800100, [(64, 4)], [⟨31,0,.rw,0,.n⟩]⟩,
  ⟨0x1800104, [(64, 4)], [⟨7,0,.rw,1,.n⟩]⟩,
  ⟨0x1800108, [(64, 4)], [⟨31,0,.rw,0,.n⟩]⟩,
  ⟨0x180010C, [(64, 4)], [⟨7,0,.rw,1,.n⟩]⟩,
  ⟨0x1800110, [(64, 4)], [⟨31,0,.rw,0,.n⟩]⟩,
  ⟨0x1800114, [(64, 4)], [⟨15,0,.rw,1000,.n⟩]⟩,
  ⟨0x1800118, [(64, 4)], [⟨31,0,.ro,0,.n⟩]⟩,
  ⟨0x180011C, [(64, 4)], [⟨1,0,.ro,0,.n⟩]⟩,
  ⟨0x1800120, [(64, 4)], [⟨31,0,.ro,0,.n⟩]⟩,
  ⟨0x1800124, [(64, 4)], [⟨31,0,.ro,0,.n⟩]⟩,
  ⟨0x1800128, [(64, 4)], [⟨31,0,.ro,0,.n⟩]⟩,
  ⟨0x1800400, [(64, 8)], [⟨1,0,.img,0,.w⟩, ⟨4,4,.img,0,.w⟩]⟩,
  ⟨0x1800404, [(64, 8)], [⟨0,0,.rw,0,.n⟩, ⟨31,16,.rw,0,.n⟩]⟩,
  ⟨0x1800408, [(64, 8)], [⟨29,0,.rw,0,.n⟩]⟩,
  ⟨0x180040C, [(64, 8)], [⟨31,0,.rw,0,.n⟩]⟩,
  ⟨0x1800410, [(64, 8)], [⟨15,0,.rw,0,.n⟩, ⟨31,16,.rw,0,.n⟩]⟩,
  ⟨0x1800414, [(64, 8)], [⟨31,0,.wo,0,.x⟩]⟩,
  ⟨0x1800418, [(64, 8)], [⟨15,0,.rw,0,.n⟩]⟩,
  ⟨0x1800420, [(64, 8)], [⟨31,0,.ro,0,.n⟩]⟩,
  ⟨0x1800424, [(64, 8)], [⟨31,0,.ro,0,.n⟩]⟩,
  ⟨0x1800428, [(64, 8)], [⟨15,0,.ro,0,.n⟩, ⟨31,16,.ro,0,.n⟩]⟩,
  ⟨0x180042C, [(64, 8)], [⟨31,0,.ro,0,.n⟩]⟩]
/-- Registers of block ING (R204). -/
def rowsING0 : List Row := [
  ⟨0x1C00000, [], [⟨4,0,.ro,0,.n⟩]⟩,
  ⟨0x1C00004, [], [⟨8,0,.w1c,0,.n⟩]⟩,
  ⟨0x1C00008, [], [⟨8,0,.rw,0,.n⟩]⟩,
  ⟨0x1C0000C, [], [⟨31,0,.wo,0,.x⟩]⟩,
  ⟨0x1C00010, [], [⟨0,0,.img,0,.w⟩, ⟨25,16,.img,300,.w⟩]⟩,
  ⟨0x1C00014, [], [⟨9,0,.img,0,.w⟩, ⟨31,31,.img,0,.w⟩]⟩,
  ⟨0x1C00018, [], [⟨31,0,.rw,1431655765,.n⟩]⟩,
  ⟨0x1C0001C, [], [⟨19,0,.rw,208333,.n⟩]⟩,
  ⟨0x1C00020, [], [⟨31,0,.rw,0,.n⟩]⟩,
  ⟨0x1C00024, [], [⟨31,0,.ro,0,.n⟩]⟩,
  ⟨0x1C00028, [], [⟨31,0,.ro,0,.w⟩]⟩,
  ⟨0x1C0002C, [], [⟨17,0,.ro,0,.w⟩]⟩,
  ⟨0x1C00030, [], [⟨31,0,.img,459260,.w⟩]⟩,
  ⟨0x1C00034, [], [⟨7,0,.img,192,.w⟩]⟩,
  ⟨0x1C00038, [], [⟨31,0,.rc,0,.w⟩]⟩,
  ⟨0x1C00040, [], [⟨31,0,.rc,0,.w⟩]⟩,
  ⟨0x1C00044, [(4, 2)], [⟨19,0,.rc,0,.w⟩]⟩,
  ⟨0x1C0004C, [], [⟨31,0,.ro,0,.w⟩]⟩,
  ⟨0x1C00050, [], [⟨23,0,.rw,0,.n⟩]⟩,
  ⟨0x1C00060, [], [⟨0,0,.rw,0,.n⟩]⟩,
  ⟨0x1C00080, [(4, 6)], [⟨11,0,.img,0,.w⟩, ⟨21,16,.img,0,.w⟩, ⟨31,31,.img,0,.w⟩]⟩,
  ⟨0x1C00100, [(64, 24)], [⟨1,0,.img,0,.w⟩, ⟨11,2,.img,0,.w⟩, ⟨13,12,.img,0,.w⟩, ⟨19,14,.img,0,.w⟩, ⟨21,20,.img,0,.w⟩, ⟨26,22,.img,0,.w⟩, ⟨31,31,.img,0,.w⟩]⟩,
  ⟨0x1C00104, [(64, 24)], [⟨15,0,.img,0,.w⟩]⟩,
  ⟨0x1C00108, [(64, 24)], [⟨31,0,.img,1065353216,.w⟩]⟩,
  ⟨0x1C0010C, [(64, 24)], [⟨30,0,.img,0,.w⟩]⟩,
  ⟨0x1C00110, [(64, 24)], [⟨15,0,.img,0,.w⟩]⟩,
  ⟨0x1C00114, [(64, 24)], [⟨1,0,.rw,0,.n⟩, ⟨8,8,.rw,0,.n⟩]⟩,
  ⟨0x1C00118, [(64, 24)], [⟨2,0,.ro,0,.w⟩, ⟨8,8,.ro,0,.w⟩, ⟨23,16,.ro,0,.w⟩]⟩,
  ⟨0x1C0011C, [(64, 24)], [⟨31,0,.ro,0,.w⟩]⟩,
  ⟨0x1C00120, [(64, 24)], [⟨15,0,.rc,0,.w⟩, ⟨31,16,.rc,0,.w⟩]⟩,
  ⟨0x1C01000, [(256, 4), (4, 64)], [⟨23,0,.img,0,.w⟩]⟩,
  ⟨0x1C10000, [(32, 1024)], [⟨29,0,.img,0,.w⟩, ⟨31,31,.img,0,.w⟩]⟩,
  ⟨0x1C10004, [(32, 1024)], [⟨31,0,.img,0,.w⟩]⟩,
  ⟨0x1C10008, [(32, 1024)], [⟨5,0,.img,0,.w⟩, ⟨15,8,.img,0,.w⟩, ⟨23,16,.img,0,.w⟩]⟩,
  ⟨0x1C1000C, [(32, 1024)], [⟨31,0,.img,0,.w⟩]⟩,
  ⟨0x1C10010, [(32, 1024)], [⟨13,0,.img,0,.w⟩, ⟨17,16,.img,0,.w⟩, ⟨22,18,.img,0,.w⟩, ⟨28,23,.img,0,.w⟩]⟩,
  ⟨0x1C10014, [(32, 1024)], [⟨14,0,.img,0,.w⟩, ⟨27,16,.img,0,.w⟩]⟩,
  ⟨0x1C10018, [(32, 1024)], [⟨15,0,.img,0,.w⟩]⟩,
  ⟨0x1C18000, [(16, 1024)], [⟨1,0,.ro,0,.w⟩, ⟨31,16,.ro,0,.w⟩]⟩,
  ⟨0x1C18004, [(16, 1024)], [⟨15,0,.rc,0,.w⟩, ⟨31,16,.rc,0,.w⟩]⟩]
/-- Registers of block ING (R204). -/
def rowsING1 : List Row := [
  ⟨0x1C18008, [(16, 1024)], [⟨15,0,.rc,0,.w⟩, ⟨31,16,.rc,0,.w⟩]⟩,
  ⟨0x1C1800C, [(16, 1024)], [⟨15,0,.rc,0,.w⟩, ⟨31,16,.rc,0,.w⟩]⟩,
  ⟨0x1C20000, [(16, 16384)], [⟨31,0,.img,0,.w⟩]⟩,
  ⟨0x1C20004, [(16, 16384)], [⟨31,0,.img,0,.w⟩]⟩,
  ⟨0x1C20008, [(16, 16384)], [⟨31,0,.img,0,.w⟩]⟩,
  ⟨0x1C2000C, [(16, 16384)], [⟨0,0,.img,0,.w⟩]⟩,
  ⟨0x1C60000, [(4, 32768)], [⟨31,0,.img,0,.w⟩]⟩,
  ⟨0x1C80000, [(32, 4096)], [⟨18,0,.img,0,.w⟩, ⟨26,19,.img,0,.w⟩, ⟨31,31,.img,0,.w⟩]⟩,
  ⟨0x1C80004, [(32, 4096)], [⟨31,0,.img,0,.w⟩]⟩,
  ⟨0x1C80008, [(32, 4096)], [⟨7,0,.img,0,.w⟩, ⟨27,16,.img,0,.w⟩]⟩,
  ⟨0x1C8000C, [(32, 4096)], [⟨31,0,.img,0,.w⟩]⟩,
  ⟨0x1CA0000, [(16, 4096)], [⟨0,0,.ro,0,.w⟩]⟩,
  ⟨0x1CA0004, [(16, 4096)], [⟨31,0,.ro,0,.w⟩]⟩,
  ⟨0x1CA0008, [(16, 4096)], [⟨31,0,.ro,0,.w⟩]⟩,
  ⟨0x1CA000C, [(16, 4096)], [⟨15,0,.rc,0,.w⟩, ⟨31,16,.rc,0,.w⟩]⟩]
/-- The registers of block ING (R204). -/
def rowsING : List Row := rowsING0 ++ rowsING1
/-- Registers of block FAB (R229). -/
def rowsFAB : List Row := [
  ⟨0x2000000, [], [⟨0,0,.ro,0,.l⟩, ⟨15,8,.ro,0,.l⟩, ⟨16,16,.ro,0,.l⟩]⟩,
  ⟨0x2000004, [], [⟨5,0,.w1c,0,.n⟩]⟩,
  ⟨0x2000008, [], [⟨5,0,.rw,0,.n⟩]⟩,
  ⟨0x2000010, [(4, 4)], [⟨31,0,.ro,0,.l⟩]⟩,
  ⟨0x2000020, [], [⟨6,0,.ro,0,.l⟩, ⟨8,8,.ro,0,.l⟩, ⟨27,16,.ro,0,.l⟩]⟩,
  ⟨0x2000024, [], [⟨31,0,.ro,0,.l⟩]⟩,
  ⟨0x2000028, [], [⟨8,0,.ro,0,.l⟩, ⟨19,16,.ro,0,.l⟩]⟩,
  ⟨0x200002C, [], [⟨31,0,.ro,0,.l⟩]⟩,
  ⟨0x2000030, [], [⟨31,0,.ro,0,.l⟩]⟩,
  ⟨0x2000034, [], [⟨31,0,.rc,0,.l⟩]⟩,
  ⟨0x2000038, [], [⟨31,0,.ro,0,.l⟩]⟩,
  ⟨0x2000040, [], [⟨31,0,.rc,0,.l⟩]⟩,
  ⟨0x2000044, [], [⟨31,0,.rc,0,.l⟩]⟩,
  ⟨0x2000048, [], [⟨31,0,.rc,0,.l⟩]⟩,
  ⟨0x200004C, [], [⟨11,0,.ro,0,.l⟩, ⟨13,12,.ro,0,.l⟩]⟩,
  ⟨0x2000050, [], [⟨31,0,.ro,0,.l⟩]⟩,
  ⟨0x2000054, [], [⟨15,0,.rc,0,.l⟩, ⟨31,16,.rc,0,.l⟩]⟩,
  ⟨0x2000058, [], [⟨31,0,.ro,0,.l⟩]⟩,
  ⟨0x2010000, [(16, 4096)], [⟨14,13,.ro,0,.x⟩, ⟨12,0,.img,0,.w⟩, ⟨31,16,.img,0,.w⟩]⟩,
  ⟨0x2010004, [(16, 4096)], [⟨23,0,.img,0,.w⟩]⟩,
  ⟨0x2010008, [(16, 4096)], [⟨23,0,.img,0,.w⟩]⟩,
  ⟨0x201000C, [(16, 4096)], [⟨23,0,.img,0,.w⟩]⟩,
  ⟨0x2020000, [(16, 4096)], [⟨23,0,.ro,0,.v⟩, ⟨29,28,.ro,0,.v⟩]⟩,
  ⟨0x2020004, [(16, 4096)], [⟨23,0,.rc,0,.v⟩]⟩,
  ⟨0x2020008, [(16, 4096)], [⟨15,0,.rc,0,.v⟩, ⟨31,16,.rc,0,.v⟩]⟩,
  ⟨0x202000C, [(16, 4096)], [⟨31,0,.ro,0,.v⟩]⟩,
  ⟨0x2030000, [(4, 4096)], [⟨23,0,.ro,0,.w⟩]⟩,
  ⟨0x2040000, [(4, 4096)], [⟨31,0,.img,0,.w⟩]⟩]
/-- Registers of block SLU (R253). -/
def rowsSLU0 : List Row := [
  ⟨0x2400000, [], [⟨5,0,.ro,0,.n⟩, ⟨8,8,.w1c,0,.n⟩]⟩,
  ⟨0x2400004, [], [⟨7,0,.w1c,0,.n⟩]⟩,
  ⟨0x2400008, [], [⟨7,0,.rw,0,.n⟩]⟩,
  ⟨0x240000C, [], [⟨31,0,.wo,0,.x⟩]⟩,
  ⟨0x2400010, [], [⟨0,0,.img,0,.w⟩]⟩,
  ⟨0x2400014, [], [⟨15,0,.img,500,.w⟩]⟩,
  ⟨0x2400018, [], [⟨31,0,.ro,0,.n⟩]⟩,
  ⟨0x240001C, [], [⟨31,0,.ro,0,.n⟩]⟩,
  ⟨0x2400020, [], [⟨31,0,.ro,0,.n⟩]⟩,
  ⟨0x2400024, [], [⟨31,0,.rc,0,.n⟩]⟩,
  ⟨0x2400028, [], [⟨22,0,.ro,0,.n⟩]⟩,
  ⟨0x240002C, [], [⟨31,0,.ro,0,.n⟩]⟩,
  ⟨0x2400030, [], [⟨31,0,.rc,0,.n⟩]⟩,
  ⟨0x2400034, [], [⟨31,0,.rc,0,.n⟩]⟩,
  ⟨0x2400038, [], [⟨31,0,.rc,0,.n⟩]⟩,
  ⟨0x240003C, [], [⟨15,0,.rc,0,.n⟩, ⟨31,16,.rc,0,.n⟩]⟩,
  ⟨0x2400040, [(4, 2)], [⟨31,0,.ro,0,.n⟩]⟩,
  ⟨0x2400048, [], [⟨15,0,.ro,0,.n⟩]⟩,
  ⟨0x2400050, [], [⟨31,0,.ro,0,.n⟩]⟩,
  ⟨0x2400054, [], [⟨31,0,.ro,0,.n⟩]⟩,
  ⟨0x2400058, [], [⟨31,0,.ro,0,.n⟩]⟩,
  ⟨0x240005C, [], [⟨31,0,.ro,0,.n⟩]⟩,
  ⟨0x2400080, [(4, 16)], [⟨0,0,.img,0,.w⟩, ⟨15,8,.img,0,.w⟩]⟩,
  ⟨0x2410000, [(32, 4096)], [⟨22,0,.img,0,.w⟩, ⟨26,24,.img,0,.w⟩, ⟨31,27,.img,0,.w⟩]⟩,
  ⟨0x2410004, [(32, 4096)], [⟨17,0,.img,0,.w⟩]⟩,
  ⟨0x2410008, [(32, 4096)], [⟨10,0,.img,0,.w⟩]⟩,
  ⟨0x241000C, [(32, 4096)], [⟨17,0,.img,0,.w⟩, ⟨31,20,.img,0,.w⟩]⟩,
  ⟨0x2410010, [(32, 4096)], [⟨31,0,.img,0,.w⟩]⟩,
  ⟨0x2410014, [(32, 4096)], [⟨31,0,.img,0,.w⟩]⟩,
  ⟨0x2410018, [(32, 4096)], [⟨31,0,.img,0,.w⟩]⟩,
  ⟨0x241001C, [(32, 4096)], [⟨31,0,.img,0,.w⟩]⟩,
  ⟨0x2430000, [(16, 4096)], [⟨31,0,.ro,0,.w⟩]⟩,
  ⟨0x2430004, [(16, 4096)], [⟨31,0,.ro,0,.w⟩]⟩,
  ⟨0x2430008, [(16, 4096)], [⟨31,0,.ro,0,.w⟩]⟩,
  ⟨0x243000C, [(16, 4096)], [⟨0,0,.ro,0,.w⟩]⟩,
  ⟨0x2440000, [(32, 4096)], [⟨31,0,.ro,0,.v⟩]⟩,
  ⟨0x2440004, [(32, 4096)], [⟨31,0,.ro,0,.v⟩]⟩,
  ⟨0x2440008, [(32, 4096)], [⟨15,0,.rc,0,.v⟩, ⟨31,16,.rc,0,.v⟩]⟩,
  ⟨0x244000C, [(32, 4096)], [⟨15,0,.rc,0,.v⟩, ⟨31,16,.rc,0,.v⟩]⟩,
  ⟨0x2440010, [(32, 4096)], [⟨15,0,.rc,0,.v⟩, ⟨31,16,.rc,0,.v⟩]⟩]
/-- Registers of block SLU (R253). -/
def rowsSLU1 : List Row := [
  ⟨0x2440014, [(32, 4096)], [⟨31,0,.ro,0,.v⟩]⟩,
  ⟨0x2440018, [(32, 4096)], [⟨31,0,.ro,0,.v⟩]⟩,
  ⟨0x244001C, [(32, 4096)], [⟨18,0,.ro,0,.v⟩]⟩,
  ⟨0x2500000, [(4, 262144)], [⟨31,0,.img,0,.w⟩]⟩]
/-- The registers of block SLU (R253). -/
def rowsSLU : List Row := rowsSLU0 ++ rowsSLU1
/-- Registers of block SCH (R266). -/
def rowsSCH : List Row := [
  ⟨0x2800000, [], [⟨2,0,.ro,0,.l⟩]⟩,
  ⟨0x2800004, [], [⟨2,0,.w1c,0,.n⟩]⟩,
  ⟨0x2800008, [], [⟨2,0,.rw,0,.n⟩]⟩,
  ⟨0x2800010, [], [⟨2,0,.img,6,.w⟩, ⟨31,16,.img,1024,.w⟩]⟩,
  ⟨0x2800014, [], [⟨11,0,.img,2048,.w⟩, ⟨27,16,.img,512,.w⟩]⟩,
  ⟨0x2800020, [], [⟨16,0,.ro,65536,.l⟩]⟩,
  ⟨0x2800024, [], [⟨16,0,.ro,0,.l⟩]⟩,
  ⟨0x2800028, [], [⟨16,0,.ro,0,.l⟩]⟩,
  ⟨0x280002C, [], [⟨16,0,.ro,0,.l⟩]⟩,
  ⟨0x2800030, [], [⟨16,0,.ro,0,.l⟩]⟩,
  ⟨0x2800034, [], [⟨16,0,.ro,0,.l⟩]⟩,
  ⟨0x2800038, [], [⟨16,0,.rc,0,.l⟩]⟩,
  ⟨0x280003C, [], [⟨16,0,.rc,0,.l⟩]⟩,
  ⟨0x2800040, [], [⟨15,0,.ro,0,.l⟩]⟩,
  ⟨0x2800044, [], [⟨31,0,.rc,0,.l⟩]⟩,
  ⟨0x2800048, [], [⟨31,0,.ro,0,.l⟩]⟩,
  ⟨0x280004C, [], [⟨31,0,.rc,0,.l⟩]⟩,
  ⟨0x2800050, [], [⟨31,0,.rc,0,.l⟩]⟩,
  ⟨0x2800054, [], [⟨7,0,.ro,0,.l⟩]⟩,
  ⟨0x2800058, [], [⟨15,0,.rw,0,.l⟩]⟩,
  ⟨0x2800060, [(4, 4)], [⟨31,0,.ro,0,.l⟩]⟩,
  ⟨0x2801000, [(16, 64)], [⟨31,0,.ro,0,.d⟩]⟩,
  ⟨0x2801004, [(16, 64)], [⟨31,0,.ro,0,.d⟩]⟩,
  ⟨0x2801008, [(16, 64)], [⟨16,0,.ro,0,.d⟩]⟩,
  ⟨0x280100C, [(16, 64)], [⟨31,0,.rc,0,.d⟩]⟩]
/-- Registers of block LPE (R294). -/
def rowsLPE0 : List Row := [
  ⟨0x3000000, [], [⟨0,0,.ro,0,.l⟩, ⟨16,16,.ro,0,.l⟩]⟩,
  ⟨0x3000004, [], [⟨6,0,.w1c,0,.n⟩]⟩,
  ⟨0x3000008, [], [⟨6,0,.rw,0,.n⟩]⟩,
  ⟨0x300000C, [], [⟨31,0,.wo,0,.x⟩]⟩,
  ⟨0x3000010, [], [⟨23,0,.ro,0,.l⟩]⟩,
  ⟨0x3000014, [], [⟨31,0,.rc,0,.l⟩]⟩,
  ⟨0x3000018, [], [⟨31,0,.rc,0,.l⟩]⟩,
  ⟨0x300001C, [], [⟨31,0,.rc,0,.l⟩]⟩,
  ⟨0x3000020, [], [⟨9,0,.ro,0,.l⟩, ⟨13,12,.ro,0,.l⟩]⟩,
  ⟨0x3000024, [], [⟨31,0,.ro,0,.l⟩]⟩,
  ⟨0x3000028, [], [⟨9,0,.ro,0,.l⟩, ⟨18,16,.ro,0,.l⟩]⟩,
  ⟨0x300002C, [], [⟨31,0,.ro,0,.l⟩]⟩,
  ⟨0x3000030, [], [⟨15,0,.rw,0,.n⟩]⟩,
  ⟨0x3000040, [(4, 128)], [⟨0,0,.img,0,.w⟩, ⟨10,1,.img,0,.w⟩]⟩,
  ⟨0x3000400, [(4, 128)], [⟨15,0,.ro,0,.l⟩, ⟨25,16,.ro,0,.l⟩, ⟨31,31,.ro,0,.l⟩]⟩,
  ⟨0x3000800, [(16, 16)], [⟨21,0,.img,0,.w⟩]⟩,
  ⟨0x3000804, [(16, 16)], [⟨11,0,.img,0,.w⟩, ⟨29,16,.img,0,.w⟩]⟩,
  ⟨0x3000808, [(16, 16)], [⟨13,0,.ro,0,.l⟩, ⟨31,16,.ro,0,.l⟩]⟩,
  ⟨0x300080C, [(16, 16)], [⟨31,0,.ro,0,.l⟩]⟩,
  ⟨0x3010000, [(256, 1024)], [⟨0,0,.img,0,.w⟩, ⟨30,4,.img,0,.w⟩]⟩,
  ⟨0x3010004, [(256, 1024)], [⟨22,0,.img,0,.w⟩]⟩,
  ⟨0x3010008, [(256, 1024)], [⟨19,0,.img,0,.w⟩]⟩,
  ⟨0x301000C, [(256, 1024)], [⟨31,0,.img,0,.w⟩]⟩,
  ⟨0x3010010, [(256, 1024)], [⟨31,0,.img,0,.w⟩]⟩,
  ⟨0x3010014, [(256, 1024)], [⟨31,0,.img,0,.w⟩]⟩,
  ⟨0x3010018, [(256, 1024), (4, 3)], [⟨19,0,.img,0,.w⟩]⟩,
  ⟨0x3010024, [(256, 1024)], [⟨15,0,.img,0,.w⟩]⟩,
  ⟨0x3010028, [(256, 1024)], [⟨31,0,.img,0,.w⟩]⟩,
  ⟨0x301002C, [(256, 1024)], [⟨31,0,.img,0,.w⟩]⟩,
  ⟨0x3010030, [(256, 1024)], [⟨17,0,.img,0,.w⟩]⟩,
  ⟨0x3010034, [(256, 1024)], [⟨11,0,.img,0,.w⟩, ⟨31,16,.img,0,.w⟩]⟩,
  ⟨0x3010038, [(256, 1024)], [⟨31,0,.img,0,.w⟩]⟩,
  ⟨0x301003C, [(256, 1024)], [⟨31,0,.img,0,.w⟩]⟩,
  ⟨0x3010040, [(256, 1024)], [⟨12,0,.img,0,.w⟩]⟩,
  ⟨0x3010044, [(256, 1024), (4, 6)], [⟨31,0,.img,0,.w⟩]⟩,
  ⟨0x301005C, [(256, 1024), (4, 2)], [⟨31,0,.img,0,.w⟩]⟩,
  ⟨0x3010064, [(256, 1024)], [⟨15,0,.img,0,.w⟩]⟩,
  ⟨0x3010068, [(256, 1024)], [⟨0,0,.rw,1,.w⟩]⟩,
  ⟨0x301006C, [(256, 1024)], [⟨15,0,.rw,0,.w⟩]⟩,
  ⟨0x3010070, [(256, 1024)], [⟨31,0,.rw,0,.w⟩]⟩]
/-- Registers of block LPE (R294). -/
def rowsLPE1 : List Row := [
  ⟨0x3010074, [(256, 1024)], [⟨31,0,.img,0,.w⟩]⟩,
  ⟨0x3010080, [(256, 1024)], [⟨15,0,.ro,0,.l⟩, ⟨31,16,.ro,0,.l⟩]⟩,
  ⟨0x3010084, [(256, 1024)], [⟨15,0,.ro,0,.l⟩, ⟨31,16,.ro,0,.l⟩]⟩,
  ⟨0x3010088, [(256, 1024)], [⟨31,0,.ro,0,.l⟩]⟩,
  ⟨0x301008C, [(256, 1024)], [⟨7,0,.ro,0,.l⟩]⟩,
  ⟨0x3010090, [(256, 1024), (4, 6)], [⟨31,0,.ro,0,.l⟩]⟩,
  ⟨0x30100A8, [(256, 1024)], [⟨4,0,.ro,0,.l⟩]⟩,
  ⟨0x30100AC, [(256, 1024)], [⟨31,0,.ro,0,.l⟩]⟩,
  ⟨0x30100B0, [(256, 1024)], [⟨15,0,.rc,0,.v⟩, ⟨31,16,.rc,0,.v⟩]⟩,
  ⟨0x3100000, [(65536, 16), (4, 16384)], [⟨31,0,.ro,0,.l⟩]⟩]
/-- The registers of block LPE (R294). -/
def rowsLPE : List Row := rowsLPE0 ++ rowsLPE1
/-- Registers of block OPT (R296). -/
def rowsOPT : List Row := [
  ⟨0x3400000, [], [⟨3,0,.ro,0,.l⟩, ⟨7,4,.ro,0,.l⟩, ⟨8,8,.ro,0,.l⟩, ⟨9,9,.ro,0,.l⟩, ⟨10,10,.ro,0,.l⟩, ⟨12,12,.w1c,0,.l⟩]⟩,
  ⟨0x3400004, [], [⟨6,0,.w1c,0,.n⟩]⟩,
  ⟨0x3400008, [], [⟨6,0,.rw,0,.n⟩]⟩,
  ⟨0x340000C, [], [⟨31,0,.wo,0,.x⟩]⟩,
  ⟨0x3400010, [], [⟨0,0,.img,1,.w⟩, ⟨2,1,.img,0,.w⟩, ⟨15,8,.img,25,.w⟩]⟩,
  ⟨0x3400014, [], [⟨11,0,.img,4000,.w⟩]⟩,
  ⟨0x3400018, [], [⟨13,0,.img,0,.w⟩, ⟨30,16,.img,0,.w⟩]⟩,
  ⟨0x340001C, [], [⟨18,0,.img,0,.w⟩]⟩,
  ⟨0x3400020, [], [⟨18,0,.img,0,.w⟩]⟩,
  ⟨0x3400024, [], [⟨19,0,.img,0,.w⟩]⟩,
  ⟨0x3400028, [(4, 6)], [⟨31,0,.img,0,.w⟩]⟩,
  ⟨0x3400040, [], [⟨27,0,.img,0,.w⟩]⟩,
  ⟨0x3400080, [(4, 16)], [⟨31,0,.img,0,.w⟩]⟩,
  ⟨0x3400100, [], [⟨31,0,.ro,0,.l⟩]⟩,
  ⟨0x3400104, [], [⟨31,0,.ro,0,.l⟩]⟩,
  ⟨0x3400108, [], [⟨31,0,.ro,0,.l⟩]⟩,
  ⟨0x340010C, [], [⟨31,0,.ro,0,.l⟩]⟩,
  ⟨0x3400110, [], [⟨31,0,.ro,0,.l⟩]⟩,
  ⟨0x3400114, [], [⟨31,0,.ro,0,.l⟩]⟩,
  ⟨0x3400118, [], [⟨31,0,.ro,0,.l⟩]⟩,
  ⟨0x340011C, [], [⟨31,0,.rc,0,.l⟩]⟩,
  ⟨0x3400120, [], [⟨31,0,.rc,0,.l⟩]⟩,
  ⟨0x3400124, [], [⟨31,0,.ro,0,.l⟩]⟩,
  ⟨0x3400128, [], [⟨31,0,.ro,0,.l⟩]⟩,
  ⟨0x340012C, [], [⟨31,0,.ro,0,.l⟩]⟩,
  ⟨0x3400130, [], [⟨3,0,.ro,0,.l⟩, ⟨31,16,.ro,0,.l⟩]⟩,
  ⟨0x3400134, [], [⟨31,0,.ro,0,.l⟩]⟩,
  ⟨0x3410000, [(4, 8192)], [⟨31,0,.rw,0,.w⟩]⟩,
  ⟨0x3420000, [(4, 16384)], [⟨31,0,.rw,0,.w⟩]⟩,
  ⟨0x3440000, [(4, 16384)], [⟨31,0,.rw,0,.w⟩]⟩,
  ⟨0x3460000, [(4, 8192)], [⟨31,0,.ro,0,.l⟩]⟩,
  ⟨0x3480000, [(4, 16384)], [⟨31,0,.ro,0,.l⟩]⟩]
/-- Registers of block CPE (R316). -/
def rowsCPE : List Row := [
  ⟨0x3800000, [], [⟨1,0,.ro,0,.l⟩, ⟨2,2,.ro,0,.l⟩, ⟨3,3,.ro,0,.l⟩, ⟨16,16,.ro,0,.l⟩]⟩,
  ⟨0x3800004, [], [⟨7,0,.w1c,0,.n⟩]⟩,
  ⟨0x3800008, [], [⟨7,0,.rw,0,.n⟩]⟩,
  ⟨0x380000C, [], [⟨31,0,.wo,0,.x⟩]⟩,
  ⟨0x3800010, [], [⟨15,0,.img,34998,.w⟩, ⟨16,16,.img,0,.w⟩]⟩,
  ⟨0x3800014, [], [⟨31,0,.ro,0,.l⟩]⟩,
  ⟨0x3800018, [], [⟨11,0,.rw,0,.n⟩, ⟨31,16,.rw,0,.n⟩]⟩,
  ⟨0x380001C, [], [⟨31,0,.wo,0,.x⟩]⟩,
  ⟨0x3800020, [], [⟨31,0,.rc,0,.l⟩]⟩,
  ⟨0x3801000, [(32, 32)], [⟨0,0,.img,0,.w⟩, ⟨22,4,.img,0,.w⟩]⟩,
  ⟨0x3801004, [(32, 32)], [⟨17,0,.img,0,.w⟩]⟩,
  ⟨0x3801008, [(32, 32)], [⟨17,0,.img,0,.w⟩]⟩,
  ⟨0x380100C, [(32, 32)], [⟨31,0,.img,0,.w⟩]⟩,
  ⟨0x3801010, [(32, 32)], [⟨31,0,.img,0,.w⟩]⟩,
  ⟨0x3801014, [(32, 32)], [⟨31,0,.img,0,.w⟩]⟩,
  ⟨0x3801018, [(32, 32)], [⟨4,0,.img,0,.w⟩, ⟨23,8,.img,0,.w⟩]⟩,
  ⟨0x3801400, [(32, 32)], [⟨1,0,.ro,0,.v⟩, ⟨15,8,.ro,0,.v⟩]⟩,
  ⟨0x3801404, [(32, 32)], [⟨31,0,.ro,0,.v⟩]⟩,
  ⟨0x3801408, [(32, 32)], [⟨31,0,.ro,0,.v⟩]⟩,
  ⟨0x380140C, [(32, 32)], [⟨15,0,.rc,0,.v⟩, ⟨31,16,.rc,0,.v⟩]⟩,
  ⟨0x3801800, [(16, 64)], [⟨0,0,.img,0,.w⟩, ⟨22,4,.img,0,.w⟩, ⟨30,24,.img,0,.w⟩]⟩,
  ⟨0x3801804, [(16, 64)], [⟨25,0,.img,0,.w⟩]⟩,
  ⟨0x3801808, [(16, 64)], [⟨5,0,.img,0,.w⟩, ⟨31,16,.img,0,.w⟩]⟩,
  ⟨0x3801C00, [(16, 64)], [⟨3,0,.ro,0,.v⟩]⟩,
  ⟨0x3801C04, [(16, 64)], [⟨15,0,.rc,0,.v⟩, ⟨31,16,.rc,0,.v⟩]⟩,
  ⟨0x3804000, [(16, 1024)], [⟨9,0,.img,0,.w⟩, ⟨31,16,.img,0,.w⟩]⟩,
  ⟨0x3804004, [(16, 1024)], [⟨31,0,.img,0,.w⟩]⟩,
  ⟨0x3804008, [(16, 1024)], [⟨31,0,.img,0,.w⟩]⟩,
  ⟨0x380400C, [(16, 1024)], [⟨9,0,.img,0,.w⟩, ⟨31,16,.img,0,.w⟩]⟩,
  ⟨0x3808000, [(16, 1024)], [⟨1,0,.ro,0,.w⟩, ⟨15,8,.ro,0,.w⟩]⟩,
  ⟨0x3808004, [(16, 1024)], [⟨15,0,.rc,0,.w⟩, ⟨31,16,.rc,0,.w⟩]⟩,
  ⟨0x3808008, [(16, 1024)], [⟨31,0,.rc,0,.w⟩]⟩,
  ⟨0x380800C, [(16, 1024)], [⟨31,0,.ro,0,.w⟩]⟩]
/-- Registers of block NRG (R335). -/
def rowsNRG : List Row := [
  ⟨0x4000000, [], [⟨3,0,.ro,0,.l⟩, ⟨16,16,.ro,0,.l⟩]⟩,
  ⟨0x4000004, [], [⟨7,0,.w1c,0,.n⟩]⟩,
  ⟨0x4000008, [], [⟨7,0,.rw,0,.n⟩]⟩,
  ⟨0x400000C, [], [⟨31,0,.wo,0,.x⟩]⟩,
  ⟨0x4000010, [], [⟨0,0,.img,1,.w⟩, ⟨1,1,.img,0,.w⟩, ⟨4,2,.img,0,.w⟩, ⟨31,16,.img,900,.w⟩]⟩,
  ⟨0x4000014, [], [⟨19,0,.img,4800,.w⟩]⟩,
  ⟨0x4000018, [], [⟨0,0,.ro,0,.l⟩, ⟨3,1,.ro,0,.l⟩, ⟨4,4,.ro,0,.l⟩]⟩,
  ⟨0x400001C, [], [⟨31,0,.ro,0,.n⟩]⟩,
  ⟨0x4000020, [], [⟨31,0,.ro,0,.n⟩]⟩,
  ⟨0x4000024, [], [⟨31,0,.ro,0,.l⟩]⟩,
  ⟨0x4000028, [], [⟨31,0,.ro,0,.l⟩]⟩,
  ⟨0x400002C, [], [⟨3,0,.ro,0,.n⟩]⟩,
  ⟨0x4000030, [], [⟨11,0,.ro,0,.n⟩]⟩,
  ⟨0x4000034, [], [⟨31,0,.rc,0,.l⟩]⟩,
  ⟨0x4000038, [], [⟨10,0,.ro,0,.l⟩]⟩,
  ⟨0x400003C, [], [⟨31,0,.ro,0,.l⟩]⟩,
  ⟨0x4000040, [], [⟨5,0,.rw,0,.n⟩]⟩,
  ⟨0x4010000, [(256, 2048)], [⟨2,0,.img,0,.w⟩, ⟨11,4,.img,0,.w⟩, ⟨27,16,.img,0,.w⟩]⟩,
  ⟨0x4010004, [(256, 2048), (4, 3)], [⟨14,0,.img,0,.w⟩, ⟨30,16,.img,0,.w⟩]⟩,
  ⟨0x4010010, [(256, 2048)], [⟨31,0,.img,0,.w⟩]⟩,
  ⟨0x4010014, [(256, 2048)], [⟨4,0,.img,0,.w⟩, ⟨15,8,.img,0,.w⟩]⟩,
  ⟨0x4010018, [(256, 2048)], [⟨31,0,.img,0,.w⟩]⟩,
  ⟨0x4010020, [(256, 2048), (4, 28)], [⟨31,0,.ro,0,.n⟩]⟩,
  ⟨0x4010090, [(256, 2048)], [⟨1,0,.ro,0,.l⟩, ⟨3,2,.ro,0,.l⟩]⟩,
  ⟨0x4010094, [(256, 2048)], [⟨31,0,.rc,0,.v⟩]⟩,
  ⟨0x4010098, [(256, 2048)], [⟨31,0,.rc,0,.v⟩]⟩,
  ⟨0x401009C, [(256, 2048)], [⟨31,0,.rc,0,.v⟩]⟩,
  ⟨0x40100A0, [(256, 2048), (4, 16)], [⟨31,0,.ro,0,.l⟩]⟩,
  ⟨0x40100E0, [(256, 2048)], [⟨31,0,.ro,0,.l⟩]⟩,
  ⟨0x40100E4, [(256, 2048)], [⟨5,0,.ro,0,.l⟩]⟩,
  ⟨0x40100E8, [(256, 2048)], [⟨31,0,.ro,0,.l⟩]⟩,
  ⟨0x40100EC, [(256, 2048)], [⟨31,0,.ro,0,.l⟩]⟩,
  ⟨0x40100F0, [(256, 2048)], [⟨31,0,.ro,0,.l⟩]⟩,
  ⟨0x40A0000, [(128, 2048), (4, 32)], [⟨31,0,.ro,0,.l⟩]⟩,
  ⟨0x41C0000, [(4, 4096)], [⟨31,0,.ro,0,.l⟩]⟩]
/-- Registers of block REC (R351). -/
def rowsREC : List Row := [
  ⟨0x4800000, [], [⟨0,0,.ro,0,.l⟩, ⟨8,8,.w1c,0,.l⟩, ⟨16,16,.ro,0,.l⟩]⟩,
  ⟨0x4800004, [], [⟨7,0,.w1c,0,.n⟩]⟩,
  ⟨0x4800008, [], [⟨7,0,.rw,0,.n⟩]⟩,
  ⟨0x480000C, [], [⟨31,0,.wo,0,.x⟩]⟩,
  ⟨0x4800010, [], [⟨15,0,.rw,0,.n⟩]⟩,
  ⟨0x4800014, [], [⟨15,0,.ro,32768,.l⟩]⟩,
  ⟨0x4800018, [], [⟨15,0,.ro,0,.l⟩]⟩,
  ⟨0x480001C, [], [⟨31,0,.rc,0,.l⟩]⟩,
  ⟨0x4800020, [], [⟨31,0,.rc,0,.l⟩]⟩,
  ⟨0x4800024, [], [⟨31,6,.rw,0,.n⟩]⟩,
  ⟨0x4800028, [], [⟨31,0,.rw,0,.n⟩]⟩,
  ⟨0x480002C, [], [⟨31,0,.ro,0,.l⟩]⟩,
  ⟨0x4800030, [], [⟨23,0,.rw,1000,.n⟩, ⟨31,31,.rw,0,.n⟩]⟩,
  ⟨0x4801000, [(64, 16)], [⟨7,0,.img,0,.w⟩, ⟨27,12,.img,0,.w⟩]⟩,
  ⟨0x4801004, [(64, 16), (4, 3)], [⟨19,0,.img,0,.w⟩]⟩,
  ⟨0x4801010, [(64, 16)], [⟨25,0,.img,0,.w⟩]⟩,
  ⟨0x4801014, [(64, 16)], [⟨23,0,.img,0,.w⟩]⟩,
  ⟨0x4801018, [(64, 16)], [⟨13,0,.img,0,.w⟩, ⟨29,16,.img,0,.w⟩]⟩,
  ⟨0x480101C, [(64, 16)], [⟨14,0,.img,0,.w⟩, ⟨28,16,.img,0,.w⟩]⟩,
  ⟨0x4801020, [(64, 16)], [⟨12,0,.img,0,.w⟩]⟩,
  ⟨0x4801024, [(64, 16)], [⟨2,0,.img,0,.w⟩]⟩,
  ⟨0x4801028, [(64, 16)], [⟨2,0,.ro,0,.l⟩, ⟨6,4,.ro,0,.l⟩]⟩,
  ⟨0x480102C, [(64, 16)], [⟨31,0,.ro,0,.l⟩]⟩,
  ⟨0x4801030, [(64, 16)], [⟨31,0,.ro,0,.l⟩]⟩,
  ⟨0x4801034, [(64, 16)], [⟨15,0,.rc,0,.l⟩, ⟨31,16,.rc,0,.l⟩]⟩,
  ⟨0x4801038, [(64, 16)], [⟨15,0,.rc,0,.l⟩]⟩,
  ⟨0x480103C, [(64, 16)], [⟨23,0,.ro,0,.l⟩]⟩,
  ⟨0x4820000, [(8, 16384)], [⟨13,0,.img,0,.w⟩]⟩,
  ⟨0x4820004, [(8, 16384)], [⟨11,0,.img,0,.w⟩]⟩,
  ⟨0x4840000, [(4, 32768)], [⟨23,0,.img,0,.w⟩]⟩,
  ⟨0x4880000, [(16, 256)], [⟨22,0,.img,0,.w⟩, ⟨27,24,.img,0,.w⟩]⟩,
  ⟨0x4880004, [(16, 256)], [⟨31,0,.img,0,.w⟩]⟩,
  ⟨0x4880008, [(16, 256)], [⟨31,0,.img,0,.w⟩]⟩,
  ⟨0x488000C, [(16, 256)], [⟨13,0,.img,0,.w⟩, ⟨24,16,.img,0,.w⟩]⟩,
  ⟨0x48A0000, [(4, 16384)], [⟨31,0,.img,0,.w⟩]⟩,
  ⟨0x48C0000, [(64, 128), (4, 16)], [⟨31,0,.ro,0,.l⟩]⟩]
/-- Registers of block EVT (R359). -/
def rowsEVT : List Row := [
  ⟨0x4C00000, [], [⟨8,0,.ro,0,.n⟩]⟩,
  ⟨0x4C00004, [], [⟨2,0,.w1c,0,.n⟩]⟩,
  ⟨0x4C00008, [], [⟨2,0,.rw,0,.n⟩]⟩,
  ⟨0x4C0000C, [], [⟨31,0,.ro,0,.x⟩]⟩,
  ⟨0x4C00010, [], [⟨31,0,.ro,0,.x⟩]⟩,
  ⟨0x4C00014, [], [⟨31,0,.rc,0,.x⟩]⟩,
  ⟨0x4C00020, [(4, 4)], [⟨31,0,.rw,0,.n⟩]⟩,
  ⟨0x4C00030, [], [⟨31,0,.wo,0,.x⟩]⟩,
  ⟨0x4C00040, [], [⟨31,0,.rw,0,.n⟩]⟩,
  ⟨0x4C00044, [], [⟨3,0,.ro,0,.n⟩]⟩,
  ⟨0x4C00048, [], [⟨1,0,.wo,0,.x⟩]⟩,
  ⟨0x4C00080, [(4, 16)], [⟨31,0,.ro,0,.n⟩]⟩,
  ⟨0x4C00100, [(64, 16)], [⟨0,0,.img,0,.w⟩, ⟨3,1,.img,0,.w⟩, ⟨31,16,.img,0,.w⟩]⟩,
  ⟨0x4C00104, [(64, 16), (4, 8)], [⟨31,0,.img,0,.w⟩]⟩]
/-- Registers of block SEP (R394). -/
def rowsSEP : List Row := [
  ⟨0x5000000, [], [⟨0,0,.ro,0,.n⟩, ⟨1,1,.ro,0,.n⟩, ⟨2,2,.ro,0,.w⟩, ⟨3,3,.ro,0,.w⟩, ⟨4,4,.ro,0,.n⟩]⟩,
  ⟨0x5000004, [], [⟨1,0,.w1c,0,.n⟩]⟩,
  ⟨0x5000008, [], [⟨1,0,.rw,0,.n⟩]⟩,
  ⟨0x500000C, [], [⟨31,0,.wo,0,.x⟩]⟩,
  ⟨0x5000010, [], [⟨2,0,.ro,0,.x⟩, ⟨6,3,.rwl,0,.w⟩]⟩,
  ⟨0x5000014, [], [⟨31,0,.ro,0,.n⟩]⟩,
  ⟨0x5000018, [], [⟨4,0,.ro,0,.n⟩, ⟨31,8,.ro,0,.n⟩]⟩,
  ⟨0x500001C, [], [⟨31,0,.ro,0,.n⟩]⟩,
  ⟨0x5000020, [], [⟨1,0,.ro,0,.n⟩]⟩,
  ⟨0x5000030, [(4, 7)], [⟨31,0,.rc,0,.n⟩]⟩,
  ⟨0x5000060, [], [⟨19,0,.ro,0,.w⟩]⟩,
  ⟨0x5000064, [], [⟨19,0,.ro,0,.w⟩]⟩,
  ⟨0x5000080, [(4, 51)], [⟨5,0,.ro,0,.w⟩, ⟨13,8,.ro,0,.w⟩, ⟨21,16,.ro,0,.w⟩]⟩,
  ⟨0x5000200, [(32, 2), (4, 6)], [⟨16,0,.ro,0,.w⟩]⟩,
  ⟨0x5000300, [(16, 2), (4, 3)], [⟨31,0,.ro,0,.w⟩]⟩,
  ⟨0x5000400, [], [⟨10,0,.ro,0,.n⟩, ⟨12,12,.ro,0,.n⟩, ⟨15,14,.ro,0,.n⟩]⟩,
  ⟨0x5000404, [(4, 9)], [⟨31,0,.ro,0,.n⟩]⟩,
  ⟨0x5001000, [(4, 64)], [⟨31,0,.img,0,.w⟩]⟩,
  ⟨0x5020000, [(32, 4096), (4, 8)], [⟨31,0,.ro,0,.w⟩]⟩,
  ⟨0x5040000, [(128, 51), (16, 8), (4, 3)], [⟨31,0,.ro,0,.w⟩]⟩]
/-- Registers of block VIP (R101). -/
def rowsVIP : List Row := [
  ⟨0x8000000, [(4096, 4096)], [⟨11,0,.ro,0,.w⟩, ⟨14,12,.ro,0,.w⟩, ⟨21,16,.ro,0,.w⟩]⟩,
  ⟨0x8000004, [(4096, 4096)], [⟨15,0,.ro,0,.w⟩]⟩,
  ⟨0x8000008, [(4096, 4096)], [⟨1,0,.ro,1,.w⟩, ⟨4,4,.w1c,0,.w⟩]⟩,
  ⟨0x800000C, [(4096, 4096)], [⟨31,0,.wo,0,.x⟩]⟩,
  ⟨0x8000010, [(4096, 4096)], [⟨5,0,.w1c,0,.v⟩]⟩,
  ⟨0x8000014, [(4096, 4096)], [⟨5,0,.rw,0,.f⟩]⟩,
  ⟨0x8000100, [(4096, 4096)], [⟨31,12,.rw,0,.f⟩]⟩,
  ⟨0x8000104, [(4096, 4096)], [⟨31,0,.rw,0,.f⟩]⟩,
  ⟨0x8000108, [(4096, 4096)], [⟨3,0,.rw,4,.f⟩]⟩,
  ⟨0x800010C, [(4096, 4096)], [⟨11,0,.ro,0,.v⟩]⟩,
  ⟨0x8000110, [(4096, 4096)], [⟨11,0,.rw,0,.v⟩]⟩,
  ⟨0x8000114, [(4096, 4096)], [⟨0,0,.rw,0,.v⟩, ⟨8,8,.ro,0,.v⟩, ⟨9,9,.ro,0,.v⟩]⟩,
  ⟨0x8000120, [(4096, 4096)], [⟨31,12,.rw,0,.f⟩]⟩,
  ⟨0x8000124, [(4096, 4096)], [⟨31,0,.rw,0,.f⟩]⟩,
  ⟨0x8000128, [(4096, 4096)], [⟨3,0,.rw,4,.f⟩]⟩,
  ⟨0x800012C, [(4096, 4096)], [⟨11,0,.ro,0,.v⟩]⟩,
  ⟨0x8000130, [(4096, 4096)], [⟨11,0,.rw,0,.v⟩]⟩,
  ⟨0x8000134, [(4096, 4096)], [⟨0,0,.rw,0,.v⟩, ⟨9,9,.ro,0,.v⟩, ⟨15,8,.rw,16,.f⟩, ⟨31,16,.rw,50,.f⟩]⟩,
  ⟨0x8000140, [(4096, 4096)], [⟨31,0,.ro,0,.v⟩]⟩,
  ⟨0x8000144, [(4096, 4096)], [⟨31,0,.rc,0,.v⟩]⟩,
  ⟨0x8000148, [(4096, 4096)], [⟨31,0,.ro,0,.v⟩]⟩,
  ⟨0x800014C, [(4096, 4096)], [⟨31,0,.rc,0,.v⟩]⟩,
  ⟨0x8000400, [(4096, 4096), (16, 64)], [⟨2,0,.rw,0,.f⟩, ⟨3,3,.rw,0,.f⟩, ⟨15,8,.rw,0,.f⟩, ⟨31,16,.rw,0,.f⟩]⟩,
  ⟨0x8000404, [(4096, 4096), (16, 64)], [⟨15,0,.rc,0,.v⟩]⟩,
  ⟨0x8000408, [(4096, 4096), (16, 64)], [⟨0,0,.wo,0,.x⟩]⟩,
  ⟨0x800040C, [(4096, 4096), (16, 64)], [⟨0,0,.ro,0,.v⟩, ⟨1,1,.ro,0,.v⟩, ⟨2,2,.ro,0,.v⟩, ⟨15,8,.ro,0,.v⟩]⟩,
  ⟨0x8000800, [(4096, 4096), (16, 64)], [⟨31,0,.rw,0,.f⟩]⟩,
  ⟨0x8000804, [(4096, 4096), (16, 64)], [⟨31,0,.rw,0,.f⟩]⟩,
  ⟨0x8000808, [(4096, 4096), (16, 64)], [⟨31,0,.rw,0,.f⟩]⟩,
  ⟨0x800080C, [(4096, 4096), (16, 64)], [⟨0,0,.rw,1,.f⟩]⟩,
  ⟨0x8000C00, [(4096, 4096), (4, 2)], [⟨31,0,.ro,0,.v⟩]⟩]

/-- The offset of a register in the lane A view of its block, for the lane-resident blocks (R10, Table 00-4). -/
def foldLane (k : Nat) : Nat :=
  if 0x2000000 ≤ k ∧ k < 0x4C00000 ∧ k / 0x200000 % 2 = 1 ∧ k / 0x400000 ≠ 9 then k - 0x200000 else k
/-- The offset lies in a lane-resident block (Table 00-4). -/
def isLaneKey (k : Nat) : Bool :=
  decide (0x2000000 ≤ k) && decide (k < 0x4C00000) && !decide (k / 0x400000 = 9)
/-- The lane whose copy of a lane-resident block an offset names. -/
def laneOfKey (k : Nat) : Lane := if k / 0x200000 % 2 = 1 then .b else .a

/-- The rows of the block that holds an offset (Table 00-4); the VI pages stand under their own keys. -/
def rowsOf (k0 : Nat) : List Row :=
  let k := foldLane k0
  if 0x8000000 ≤ k then rowsVIP else
  if 0x5000000 ≤ k then rowsSEP else
  if 0x4C00000 ≤ k then rowsEVT else
  if 0x4800000 ≤ k then rowsREC else
  if 0x4000000 ≤ k then rowsNRG else
  if 0x3800000 ≤ k then rowsCPE else
  if 0x3400000 ≤ k then rowsOPT else
  if 0x3000000 ≤ k then rowsLPE else
  if 0x2800000 ≤ k then rowsSCH else
  if 0x2400000 ≤ k then rowsSLU else
  if 0x2000000 ≤ k then rowsFAB else
  if 0x1C00000 ≤ k then rowsING else
  if 0x1800000 ≤ k then rowsTMU else
  if 0x1400000 ≤ k then rowsSWC else
  if 0x1000000 ≤ k then rowsPRT else
  if 0x700000 ≤ k then rowsKEY else
  if 0x600000 ≤ k then rowsCFG else
  if 0x500000 ≤ k then rowsVIR else
  if 0x400000 ≤ k then rowsICU else
  if 0x300000 ≤ k then rowsWDN else
  if 0x200000 ≤ k then rowsRTC else
  if 0x100000 ≤ k then rowsPCM else
  rowsIDN

/-- The remainder of an offset inside an array of registers, if it names one. -/
def inDims : List (Nat × Nat) → Nat → Bool
  | [], d => d == 0
  | (st, n) :: t, d => decide (d / st < n) && inDims t (d % st)
/-- The row that lists the register at an offset, if any (R6: any other offset is reserved). -/
def rowAt (k : Nat) : Option Row :=
  let f := foldLane k
  (rowsOf k).find? (fun r => decide (r.base ≤ f) && inDims r.dims (f - r.base))
/-- The reset value that a row's fields give. -/
def Row.rst (r : Row) : Nat := r.flds.foldl (fun a f => a + f.rst * 2 ^ f.lo) 0

/-- The rows whose reset value is not 0: offset, array, value. -/
def nzRows : List (Nat × List (Nat × Nat) × Nat) := [
  (0x0, [], 0x4896),
  (0x4, [], 0x20001),
  (0x1C, [], 0x40),
  (0x100000, [], 0x91),
  (0x100014, [], 0x2),
  (0x100060, [], 0x690),
  (0x100070, [], 0x103F),
  (0x200000, [], 0x3),
  (0x200004, [], 0x10),
  (0x200010, [], 0x12),
  (0x200030, [], 0x101),
  (0x200048, [], 0x1),
  (0x300000, [], 0x71000),
  (0x300010, [], 0x30817),
  (0x300034, [], 0xA3C0A),
  (0x300040, [(4, 3)], 0x1),
  (0x300104, [], 0x5080040),
  (0x300200, [], 0x640),
  (0x41000C, [(16, 256)], 0x1),
  (0x500018, [], 0x1),
  (0x600000, [], 0x7),
  (0x600014, [], 0x2),
  (0x6000A4, [], 0x88B5),
  (0x1000000, [(65536, 48)], 0xE),
  (0x1000014, [(65536, 48)], 0x600),
  (0x1000028, [(65536, 48)], 0x2800),
  (0x100002C, [(65536, 48)], 0x100),
  (0x1000F08, [], 0x27),
  (0x1400010, [], 0x80000),
  (0x1400018, [], 0x6002000),
  (0x140001C, [], 0x1F),
  (0x1400020, [], 0xFAC688),
  (0x1400028, [], 0x12C),
  (0x1400108, [], 0x4),
  (0x1400204, [(32, 4)], 0x7D00190),
  (0x1400408, [(128, 16)], 0xFFFFFFFF),
  (0x140040C, [(128, 16)], 0xFFFF),
  (0x1410000, [(256, 51)], 0x1),
  (0x1410004, [(256, 51)], 0x6),
  (0x1410008, [(256, 51), (4, 2)], 0x1010101),
  (0x1410020, [(256, 51), (4, 8)], 0x4000),
  (0x14100C0, [(256, 51)], 0x20),
  (0x180001C, [], 0x186A000),
  (0x1800104, [(64, 4)], 0x1),
  (0x180010C, [(64, 4)], 0x1),
  (0x1800114, [(64, 4)], 0x3E8),
  (0x1C00010, [], 0x12C0000),
  (0x1C00018, [], 0x55555555),
  (0x1C0001C, [], 0x32DCD),
  (0x1C00030, [], 0x701FC),
  (0x1C00034, [], 0xC0),
  (0x1C00108, [(64, 24)], 0x3F800000),
  (0x2400014, [], 0x1F4),
  (0x2800010, [], 0x4000006),
  (0x2800014, [], 0x2000800),
  (0x2800020, [], 0x10000),
  (0x3010068, [(256, 1024)], 0x1),
  (0x3400010, [], 0x1901),
  (0x3400014, [], 0xFA0),
  (0x3800010, [], 0x88B6),
  (0x4000010, [], 0x3840001),
  (0x4000014, [], 0x12C0),
  (0x4800014, [], 0x8000),
  (0x4800030, [], 0x3E8),
  (0x8000008, [(4096, 4096)], 0x1),
  (0x8000108, [(4096, 4096)], 0x4),
  (0x8000128, [(4096, 4096)], 0x4),
  (0x8000134, [(4096, 4096)], 0x321000),
  (0x800080C, [(4096, 4096), (16, 64)], 0x1)]

/-- What a register that nothing has written holds: the reset value of its table, 0 for every other offset. -/
def resetVal (k : Nat) : Nat :=
  let f := foldLane k
  match nzRows.find? (fun r => decide (r.1 ≤ f) && inDims r.2.1 (f - r.1)) with
  | some r => r.2.2
  | none => 0

end Sys2Proof.Machine
end

