-- ==== Sys2Proof/Config.lean ====
section
/-! DEFINITION. What the spec leaves open: the free values. None has a body, so nothing can be proved about the value. -/
namespace Sys2Proof

/-- The `n`-th free value: one the spec leaves open and after which the module goes on (log entry 4). -/
opaque Config.free : Nat → Nat
/-- What a harmonic analyser publishes inside the bound of R328: by the window's last index and the place of the word. The
same in both lanes (log entry 4). -/
opaque Config.harm : Nat → Nat → Nat
/-- The size in bytes of the input store of ingest, of which R199 gives no figure (log entry 4). -/
opaque Config.ingestStore : Nat
/-- The carry map of an image (R83), which has no layout in the spec: for a VI and a word of its new state, the old word copied into
it, if the map names one. The first argument is the image's fingerprint as a number (log entry 4). -/
opaque Config.carryMap : Nat → Nat → Nat → Option Nat
/-- The word that holds the old and the new role in an event record: R366 gives it no layout (log entry 4). -/
opaque Config.rolePack : Nat → Nat → Nat

end Sys2Proof
end

