-- ==== Sys2Proof/Machine/State.lean ====
section
/-! DEFINITION. The state of the module as plain data: every register (`regs`), the memories, queues, buffers and pins the
spec gives it, chapter by chapter, and the state right after reset. -/
namespace Sys2Proof.Machine

/-- Why the machine stops. No command of the spec stops the module, so nothing raises it. -/
inductive Fault where
  /-- Raised by nobody: the block has no behaviour the spec leaves without an effect (safe). -/
  | none
deriving DecidableEq, Repr

/-- Why a command is not run. -/
inductive Refusal where
  /-- Raised by the arms of `exec` that have no meaning yet (safe: the machine stops where the hardware goes on). -/
  | notModelled (mnemonic : String)
deriving DecidableEq, Repr

/-- What leaves the module, in the order in which it leaves. The MODEL's own record: no meaning reads it. -/
inductive Out where
  /-- The answer to a PCIe read on a path. -/
  | read (p : Path) (off : Nat) (v : Nat)
  /-- The bytes an I2C read returns (R59). -/
  | i2c (bytes : Bytes)
  /-- The I2C target does not acknowledge the PEC byte (R59). -/
  | i2cNack
  /-- A UART response frame (R60). -/
  | uart (bytes : Bytes)
  /-- A memory write request on the PCIe link, at its translated address. -/
  | dmaWrite (addr : Nat) (data : Bytes)
  /-- A memory read request on the PCIe link, at its translated address. -/
  | dmaRead (addr : Nat) (len : Nat)
  /-- A bit of a dirty bitmap is set in host memory (R103): byte address, bit. -/
  | dirty (addr : Nat) (bit : Nat)
  /-- An MSI-X message write with its requester: 0 for PF0, k for VF k (R112). -/
  | message (req : Nat) (addr : Nat) (data : Nat)
  /-- A frame begins transmission at a crossbar port. -/
  | frame (x : Nat) (bytes : Bytes)
  /-- A frame leaves on a lane of the mate link (R145). -/
  | mateFrame (lane : Nat) (bytes : Bytes)
  /-- A frame leaves a port with a stomped FCS (R126). -/
  | stomped (x : Nat)
  /-- A frame of the management bus of the PHYs (R132): kind, address word. -/
  | mdio (op : Nat) (word : Nat)
  /-- A transfer on a cage bus (R132). -/
  | cage (word : Nat)
  /-- A port signals low-power idle, or ends it (R127, R128). -/
  | lpi (p : Nat) (on : Bool)
  /-- A pulse or level change of a timing or trigger output: name of the pin by number (0 PPS_OUT, 1-4 TRIG_OUT0-3). -/
  | pin (n : Nat) (high : Bool)
  /-- The FAST outputs become high-impedance, or are driven again (R40). -/
  | fastZ (on : Bool)
deriving DecidableEq, Repr

/-- A value kept in two copies with sequence numbers, each ending in a CRC that is written last (R64); `none` is a copy
whose CRC is not correct. -/
structure TwoCopy (α : Type) where
  seq0 : Nat := 0
  val0 : Option α := none
  seq1 : Nat := 0
  val1 : Option α := none
deriving DecidableEq, Repr

/-- A word of an access path: the latch of a pair's high word, a cursor, a window word (R5, R358). -/
structure PathWord where
  path : Path
  key  : Nat
  val  : Nat
deriving DecidableEq, Repr

/-- The power and clock manager's state beside its registers (02_connectors_supplies.md). -/
structure Power where
  /-- PGOOD: every rail in regulation (Table 02-8). -/
  pgood : Bool := true
  /-- VMAIN disconnected for over-voltage (R41). -/
  ovMain : Bool := false
  /-- VBKP disconnected for over-voltage (R41). -/
  ovBkp : Bool := false
  /-- THERM_nTRIP is driven low (R58). -/
  tripLow : Bool := false
  /-- MRAM: a thermal trip is pending (R58). -/
  tripMark : Bool := false
  /-- MRAM: the last power-down was a thermal trip (Table 02-20). -/
  mThermal : Bool := false
  /-- MRAM: the last power-down was the power-loss sequence (Table 02-20). -/
  mLoss : Bool := false
  /-- MRAM: the power-loss event record of the last power-down stands in the ring (R334). -/
  mLossRec : Bool := false
  /-- MRAM: the tide area lacks its valid mark (R44, R333). -/
  mSaveInc : Bool := false
  /-- Nanoseconds of operating time counted towards the next 1/16 s (R62). -/
  opNs : Nat := 0
  /-- The FAST outputs are high-impedance: PGOOD is low (R40, R48). -/
  fastZ : Bool := false
  /-- MRAM: committed operating time in 1/16 s (R62). -/
  mHours : Nat := 0
  /-- MRAM: committed power-cycle count (R62). -/
  mCycles : Nat := 0
  /-- The wake sources held while entering low tide, as bits of PCM_WAKE_CAUSE (R63). -/
  heldWake : Nat := 0
  /-- A low-tide entry waits for the boundary of a committed exchange (R84). -/
  ltWaitX : Bool := false
  /-- nALERT: MGMT_nALERT is low (R62). -/
  alert : Bool := false
  /-- PHY_nRST is high (R132). -/
  phyRun : Bool := false
  /-- The levels of DOUT0-15 on their pins (R48, R49). -/
  doutPins : Nat := 0
  /-- The level of DOUT_ARM (R49). -/
  doutArm : Bool := false
  /-- The levels of TRIG_OUT0-3 (R349). -/
  trigOut : Nat := 0
  /-- The level of PPS_OUT (R173). -/
  ppsOut : Bool := false
deriving DecidableEq, Repr

/-- The content of a bank record (R64). -/
structure BankRec where
  valid : Bool
  serial : Nat
  fp : Bytes
deriving DecidableEq, Repr

/-- The content of the active-bank record (R64). -/
structure ActiveRec where
  bank : Bank
  gen : Nat
deriving DecidableEq, Repr

/-- A record of a section (Table 03-6). -/
inductive ImgRec where
  | reg (target : Nat) (data : List Nat)
  | fill (target : Nat) (count : Nat) (value : Nat)
  | mem (addr : Nat) (data : List Nat)
deriving DecidableEq, Repr

/-- A section of an image: its TYPE, the digest of its directory entry and its records (R74 to R76). -/
structure ImgSection where
  typ : Nat
  digest : Bytes
  recs : List ImgRec
deriving DecidableEq, Repr

/-- What the loader keeps of an image it has read: the header fields and the sections in directory order. -/
structure Image where
  serial : Nat
  keySlot : Nat
  fp : Bytes
  sections : List ImgSection
deriving DecidableEq, Repr

/-- An access of the IDN block that waits for a tag store (R90). -/
inductive IdnAccess where
  | rd (p : Path) (off : Nat)
  | wr (p : Path) (off : Nat) (v : Nat)
deriving DecidableEq, Repr

/-- The configuration loader's state beside its registers (03_startup_and_images.md). -/
structure Loader where
  /-- NOR bank A, bytes by offset; an unlisted byte reads as erased, 0xFF. -/
  bankA : List Host.Cell := []
  /-- NOR bank B. -/
  bankB : List Host.Cell := []
  recA : TwoCopy BankRec := {}
  recB : TwoCopy BankRec := {}
  active : TwoCopy ActiveRec := {}
  /-- The bank whose image is committed; none while unconfigured (R65, R68). -/
  committed : Option Bank := none
  /-- The bank on which the running bank command acts. -/
  opBank : Bank := .a
  /-- The code of the running command (Table 03-11), 0 when none runs. -/
  running : Nat := 0
  /-- The code of the command that a reset has cut short, until the boot reports it (R77). -/
  cut : Nat := 0
  /-- The index X of the last exchange, and the registers as the image before it had them: what indices below X still use (R83, R203, R231). -/
  was : Option (Nat × List (Nat × Nat)) := none
  /-- The committed image: the reload copies of every subsystem (R71). -/
  image : Option Image := none
  /-- The shadow copies of the staged image (R81). -/
  staged : Option Image := none
  /-- The exchange index X once an exchange is committed (R82). -/
  xchg : Option Nat := none
  /-- RWL fields are locked: image commit has been made (R66 step 9). -/
  rwlLocked : Bool := false
  /-- Boot has reached step 8 and waits for RELEASE or for image commit. -/
  atHold : Bool := false
  /-- MRAM: CFG_CTRL.BOOT_HOLD needs no copy here, the register itself is held (R70). A tag store in progress: word index and value. -/
  tagStore : Option (Nat × Nat) := none
  /-- IDN accesses waiting for the store, oldest first (R90). -/
  tagWait : List IdnAccess := []
  /-- Beacons for which the mate comparison stays suspended (R86). -/
  mateSusp : Nat := 0
  /-- The mate's last beacon reported an exchange pending (R86). -/
  matePend : Bool := false
  /-- Condition 4 of R23 as the wardens were told it (R86). -/
  mateDiffers : Bool := false
deriving DecidableEq, Repr

/-- A queued reset request (R96). -/
inductive RstReq where
  | vi (n : Nat)
  | polder (p : Nat)
  /-- a VI of a polder reset that has committed -/
  | part (n : Nat)
deriving DecidableEq, Repr

/-- A descriptor of a transmit ring with the bytes its buffer holds in host memory (Table 04-10); `ok` is false where the
read of the buffer completes with an error. -/
structure TxDesc where
  addr : Nat
  len : Nat
  eop : Bool
  tsReq : Bool
  cls : Nat
  data : Bytes
  ok : Bool
deriving DecidableEq, Repr

/-- A frame past its commit point that waits for its write-back (R104). -/
structure TxFrame where
  /-- ring positions of its descriptors, in order -/
  pos : List Nat
  tsReq : Bool
  /-- generation tag it carries (R95) -/
  gen : Nat
  /-- frame number in the shared buffer, where it entered the switch -/
  frame : Option Nat
  /-- STATUS bits of the write-back beside DONE -/
  status : Nat
  /-- egress timestamp words, once known -/
  ts : Option (Nat × Nat × Nat)
deriving DecidableEq, Repr

/-- A frame being received into a VI's buffers (R106, R107). -/
structure RxProg where
  rest : Bytes
  /-- position of the last descriptor used and the bytes in it -/
  pos : Nat
  bytes : Nat
  first : Bool
  frame : Nat
  ts : Nat × Nat × Nat
deriving DecidableEq, Repr

/-- The rings of one host-bound VI (R104 to R108). -/
structure Rings where
  /-- posted transmit descriptors that no frame has begun, by ring position -/
  txPosted : List (Nat × TxDesc) := []
  /-- descriptors of the frame being fetched -/
  txCur : List (Nat × TxDesc) := []
  /-- frames past their commit point -/
  txWb : List TxFrame := []
  /-- an abort of the ring is under way (R105) -/
  txAborting : Bool := false
  /-- posted receive descriptors: ring position and buffer address -/
  rxPosted : List (Nat × Nat) := []
  rxCur : Option RxProg := none
deriving DecidableEq, Repr

/-- Virtualisation, host DMA and interrupt state beside the registers (04_instances_host_interrupts.md). -/
structure HostIf where
  /-- PCIE_nPERST is high (R69). -/
  perst : Bool := false
  linkUp : Bool := false
  /-- ARI Capable Hierarchy, VF Enable and NumVFs of PF0 (R99). -/
  ari : Bool := false
  vfEnable : Bool := false
  numVfs : Nat := 0
  /-- functions with MSI-X enabled, with their function mask set, and in D3hot -/
  msixEn : List Nat := []
  fnMask : List Nat := []
  d3 : List Nat := []
  /-- queued reset requests, oldest first, at most 64 (R96) -/
  rstQ : List RstReq := []
  /-- committed resets between steps 1 and 4 of Table 04-5 -/
  rstRun : List RstReq := []
  /-- VIs whose queued or committed reset is an FLR of their VF (R100) -/
  flr : List Nat := []
  /-- FLRs refused for a full queue, which the module retries (R96) -/
  flrRetry : List Nat := []
  /-- the clock at which the newest request was accepted (R96) -/
  rstAt : Nat := 0
  /-- per polder: remainder r of R93, ASDUs left in this window, IRQ tokens -/
  ingRem : List (Nat × Nat) := []
  ingLeft : List (Nat × Nat) := []
  tokens : List (Nat × Nat) := []
  /-- vectors whose coalescing timer runs (R111) -/
  coal : List Vec := []
  /-- vectors picked last, for round robin within a priority (R110): engine, vector number -/
  lastPick : List (Nat × Nat) := []
  rings : List (Nat × Rings) := []
  /-- receive, write-back and return counts of the descriptor ledgers (R108, R388): VI, 8 words -/
  descLedger : List (Nat × List Nat) := []
deriving DecidableEq, Repr

/-- A frame in the shared buffer (R135). -/
structure Frm where
  id : Nat
  /-- the bytes stored, from the destination address to the FCS -/
  bytes : Bytes
  /-- the length L, or the bytes received of a truncated frame -/
  len : Nat
  /-- crossbar port at which it entered -/
  src : Nat
  cls : Nat
  vid : Nat
  /-- the free-running counter at its first byte (R147) -/
  time : Nat
  /-- ingress timestamp: nanoseconds, seconds, fraction (R167) -/
  ts : Nat × Nat × Nat
  /-- the transparent clock's time base at ingress less INGRESS_LAT, in 2^-16 ns (R169) -/
  raw : Int
  cells : Nat
  /-- reference count (R135) -/
  ref : Nat
  /-- the VI it came from at P48 or P49, with its generation tag -/
  vi : Option (Nat × Nat)
deriving DecidableEq, Repr

/-- A copy of a frame for one egress port (R137). -/
structure Copy where
  fid : Nat
  x : Nat
  cls : Nat
  /-- cut-through (R121) -/
  ct : Bool
  /-- cells charged to its queue -/
  charge : Nat
  /-- the bytes it puts on the wire, FCS included -/
  bytes : Bytes
  /-- it ends with a stomped FCS (R124) -/
  stomp : Bool
  /-- the VI it goes to at P48 or P49, with its generation tag -/
  vi : Option (Nat × Nat)
  /-- cells that have crossed to the output's buffer and hold a credit (R140) -/
  held : Nat
  /-- cells that have left the output's buffer -/
  left : Nat := 0
  /-- the clock at which its transmission began -/
  txAt : Nat := 0
deriving DecidableEq, Repr

/-- An entry of a duplicate-discard table (R151). -/
structure DupEntry where
  set : Nat
  src : Nat
  seq : Nat
  arrived : List Nat
  sent : List Nat
  /-- the clock at which it was made -/
  made : Nat
deriving DecidableEq, Repr

/-- A pending Follow_Up correction of a port (R153). -/
structure TcEntry where
  port : Nat
  seqId : Nat
  srcId : Bytes
  corr : Int
deriving DecidableEq, Repr

/-- A frame handed over at P48, waiting for ingest. -/
structure InFrame where
  bytes : Bytes
  vi : Nat
  gen : Nat
  time : Nat
  /-- the internal path it took (R144, R145) -/
  path : Nat
deriving DecidableEq, Repr

/-- The state of the ports and the switch core beside their registers (05_ports.md, 06_switch_core.md). -/
structure Net where
  frames : List Frm := []
  nextId : Nat := 1
  /-- queued copies of every port and class, oldest first -/
  copies : List Copy := []
  /-- the copy in transmission at a port -/
  tx : List (Nat × Copy) := []
  /-- grant and accept pointers of the crossbar (R139) -/
  grant : List Nat := List.replicate 51 0
  accept : List Nat := List.replicate 51 0
  /-- deficits by 8 x + c, and the class the round robin visits, by port (R146) -/
  deficit : List (Nat × Nat) := []
  wrrAt : List (Nat × Nat) := []
  /-- CHG_IN and CHG_OUT by 8 x + c (Table 17-1) -/
  chgIn : List (Nat × Nat) := []
  chgOut : List (Nat × Nat) := []
  /-- snapshot accumulators by 24 p + word (R131) -/
  snapAcc : List (Nat × Nat) := []
  dups : List DupEntry := []
  tc : List TcEntry := []
  /-- ports whose LPI has ended and whose wake time runs, with the frame of the copy that ended it (R128) -/
  waking : List (Nat × Option Nat) := []
  /-- nanoseconds of low-power idle counted towards the next us, by port (Table 05-3) -/
  lpiNs : List (Nat × Nat) := []
  /-- captures offered since the last capture: 2 x for received, 2 x + 1 for sent (R154) -/
  mirCnt : List (Nat × Nat) := []
  mirSeq : Nat := 0
  /-- SupSequenceNumber of the supervision frames of each set (R152) -/
  supSeq : List Nat := [0, 0, 0, 0]
  /-- a capture has been written since the last drop -/
  mirFresh : Bool := false
  /-- the running MDIO or cage command word (R132) -/
  mdioOp : Option Nat := none
  cageOp : Option Nat := none
  /-- frames handed over to ingest (R145) -/
  inbox : List InFrame := []
  /-- the copy of the frame being written into a VI's buffers, by VI (R106) -/
  rxHold : List (Nat × Copy) := []
deriving DecidableEq, Repr

/-- What waits for the next TUCLK edge (R163 to R165): a view takes a time in 2^-16 ns, a staged offset or a step, both in 2^-32 ns;
FORCE_HOLD of a time base; a write of its TB_INCR_HI, which wins over FORCE_HOLD. -/
inductive TmuEdge where
  | set (v t : Nat)
  | off (v : Nat) (O : Int)
  | step (v : Nat) (d : Int)
  | hold (b : Nat)
  | incr (b : Nat)
deriving DecidableEq, Repr
/-- The time unit's state beside its registers (07_time.md). -/
structure TimeUnit where
  /-- what the next TUCLK edge applies, oldest first -/
  edge : List TmuEdge := []
  /-- the 96-bit accumulators A of TB0-TB3 (R159) -/
  acc : List Nat := [0, 0, 0, 0]
  /-- staged CV_OFF_NS and CV_OFF_SEC_LO of each view (R163): key 2v, 2v + 1 -/
  staged : List (Nat × Nat) := []
  /-- the view an armed SET_VIEW sets (R164) -/
  armed : Option Nat := none
  /-- views whose last set was applied at its instant, so that a CANCEL_SET is late (R164) -/
  setJustDone : Bool := false
  /-- the last capture of PPS_IN has not been read (R172) -/
  ppsUnread : Bool := false
  /-- the seconds pulsed on PPS_OUT, as runs of (view, first, last), latest run first (R173) -/
  ppsRuns : List (Nat × Nat × Nat) := []
  /-- milliseconds counted so far in the running millisecond, in clocks, per time base -/
  holdFrac : List Nat := [0, 0, 0, 0]
deriving DecidableEq, Repr

/-- A message of an ingest link (R197), without its CRC: `pay` holds the payload words, `bytes` the frame of a FRAME. -/
structure IMsg where
  typ : Nat
  seq : Nat
  set : Nat
  idx : Nat
  /-- VERDICT, FIRST_FAIL, CAUSE as word 3 holds them -/
  verdict : Nat
  gen : Nat
  pay : List Nat
  bytes : Bytes
deriving DecidableEq, Repr

/-- The values and quality words of a stream's channels at a position or an index; `subst` says that a value was
substituted under R184. -/
structure SvSet where
  key : Nat
  vals : List Nat
  quals : List Nat
  subst : Bool
deriving DecidableEq, Repr

/-- What ingest keeps of a stream beside ING_SV_STAT (R182 to R188). -/
structure SvRt where
  u : Nat := 0
  cnt : Nat := 0
  run : Nat := 0
  u0 : Nat := 0
  /-- positions received since the stream opened LOCKING, newest first -/
  recv : List Nat := []
  /-- consecutive indices without an on-time ASDU -/
  nomiss : Nat := 0
  /-- inputs by position, newest first: the counts as received, or substituted values (R184, R186) -/
  ins : List SvSet := []
  /-- delivered sets by index, newest first -/
  sets : List SvSet := []
  /-- indices whose SAMPLE message has been built, newest first -/
  sent : List Nat := []
  /-- prediction sets sent, by index -/
  preds : List (Nat × List Nat) := []
  /-- no prediction uses values of an index before this one (R203) -/
  predFrom : Option Nat := none
deriving DecidableEq, Repr

/-- What ingest keeps of a GOOSE entry beside ING_GO_STAT. -/
structure GoRt where
  seen : Bool := false
  tal : Nat := 0
deriving DecidableEq, Repr

/-- A modulator chain (Table 08-4); lists are newest first. -/
structure McRt where
  ints : List Int := []
  combs : List Int := []
  /-- inputs since the last output of the sinc, and of the FIR -/
  sincPhase : Nat := 0
  firPhase : Nat := 0
  fir : List Int := []
  rank : List Int := []
  /-- the DC estimate, Q32.16 -/
  dc : Int := 0
  /-- automatic freeze: outputs still below the level before it ends; none while it does not hold -/
  autoFrz : Option Nat := none
  /-- 1 start, 2 stop at the next boundary -/
  req : Nat := 0
  /-- an input of the output in progress has saturated (R192) -/
  ovf : Bool := false
  /-- its phases were cleared at the latest boundary: no output ends there (R191, R196) -/
  fresh : Bool := false
  /-- the index of its last set -/
  last : Option Nat := none
deriving DecidableEq, Repr

/-- Stream ingest's state beside its registers (08_stream_ingest.md). -/
structure Ingest where
  /-- the exact instant of the latest boundary, in 2^-32 ns of the free-running counter -/
  due : Nat := 0
  /-- the instant at which the next boundary is due, and the period in force, without shift (R178) -/
  next : Nat := 0
  per : Nat := 0
  /-- the shift still to apply, in 2^-32 ns (R178) -/
  shift : Int := 0
  /-- the clocks of the last boundaries issued: index, instant in 2^-32 ns -/
  bAt : List (Nat × Nat) := []
  /-- the latest index whose deadline has passed -/
  dead : Option Nat := none
  /-- the next message's SEQ -/
  seq : Nat := 0
  linkA : List IMsg := []
  linkB : List IMsg := []
  sv : List (Nat × SvRt) := []
  /-- streams that the last exchange removed or made relock, as they go on for indices below its X: runtime and STATE (R83, R203) -/
  svOld : List (Nat × SvRt × Nat) := []
  go : List (Nat × GoRt) := []
  mc : List (Nat × McRt) := []
  /-- GOOSE and GOOSE_SUP messages for the next boundary: type, entry, payload -/
  gq : List (Nat × Nat × List Nat) := []
  /-- SAMPLE sets complete before their boundary: stream, index -/
  early : List (Nat × Nat) := []
  /-- a decimator reset is requested (R196) -/
  sync : Bool := false
  /-- runs of dropped indices: message type, set, first index, count (R200) -/
  drops : List (Nat × Nat × Nat × Nat) := []
  /-- TRIG_IN edges since the last boundary: rising in bits 3 to 0, falling in bits 7 to 4 (R343) -/
  trigIn : Nat := 0
  /-- a demand end is forced at the next boundary; the view and its seconds at the last boundary, while VALID, and at the last end that
  they gave; boundaries since the last end (R326) -/
  demForce : Bool := false
  demPrev : Option (Nat × Nat) := none
  demEnd : Option (Nat × Nat) := none
  demCnt : Nat := 0
  /-- of the last boundaries: index, a forced demand end, the words of the eight views (R327, R348) -/
  bInfo : List (Nat × Bool × List (List Nat)) := []
deriving DecidableEq, Repr

/-- A condition of Table 11-3 that a task waits for. -/
inductive Dep where
  | prevSeg
  | prevRun
  /-- the set of an index of a stream -/
  | sv (i k : Nat)
  /-- the MOD message of an index of a channel -/
  | mod (c k : Nat)
  | goose (k : Nat)
  /-- the export words of a VI at age 0 -/
  | exp (v k : Nat)
  /-- release by the cyclic program engine -/
  | release
deriving DecidableEq, Repr

/-- An input entry of a segment (Table 09-6). -/
structure InEnt where
  kind : Nat
  id : Nat
  addr : Nat
  first : Nat
  /-- channels or export words -/
  nch : Nat
  /-- ages held -/
  depth : Nat
deriving DecidableEq, Repr

/-- A segment of a VI's program (Table 09-5), its code as 64-bit words. -/
structure Seg where
  code : List Nat
  off : Nat
  len : Nat
  addr : Nat
  ins : List InEnt
deriving DecidableEq, Repr

/-- An item of a run's output record (R224): operation code, SLOT, ITEM, the values it writes with their places. -/
structure RecItem where
  op : Nat
  slot : Nat
  item : Nat
  vals : List (Nat × Nat)
deriving DecidableEq, Repr

/-- A run, or the creation of one that is held (R214, R256). It carries the program it was created under (R231). -/
structure Run where
  /-- the MODEL's own number of the run -/
  rid : Nat
  vi : Nat
  idx : Nat
  /-- 0 per-index run, 1 program cycle, 2 event task (Table 11-2) -/
  kind : Nat
  /-- cyclic task or event task of a run of KIND 1 or 2 -/
  task : Nat
  gen : Nat
  prio : Nat
  polder : Nat
  budget : Nat
  spec : Nat
  deadline : Nat
  prog : List Seg
  /-- words of VI state -/
  nstate : Nat
  /-- streams and indices of which it read predicted values, their verdicts outstanding -/
  prov : List (Nat × Nat) := []
  /-- it was dispatched provisional -/
  wasProv : Bool := false
  /-- a PROV message has been sent for it -/
  sent : Bool := false
  /-- released by the cyclic program engine (Table 11-3) -/
  released : Bool := false
  /-- created again under R239 -/
  reexec : Bool := false
  /-- segments that have ended -/
  segDone : Nat := 0
  /-- its last segment has ended -/
  done : Bool := false
  /-- a budget stop is held (R241) -/
  stop : Bool := false
  /-- ended while a segment is on a tile: 1 squashed, 2 discarded -/
  dead : Nat := 0
  out : List RecItem := []
  /-- its state version, once a segment has written back -/
  words : Option (List Nat) := none
  charge : Nat := 0
  delta : Nat := 1
  /-- the first run under a changed program: its edge detectors show no edge (R83) -/
  fresh : Bool := false
  /-- frames of the VI's inbox that its KIND 5 areas hold: the first ones, until the run ends (R213) -/
  box : Nat := 0
  /-- export words a provisional run read: VI, index, first word, words (R240) -/
  expRead : List (Nat × Nat × Nat × List Nat) := []
deriving DecidableEq, Repr

/-- A task descriptor that is not FREE (Table 11-2). -/
structure Tok where
  id : Nat
  rid : Nat
  vi : Nat
  seg : Nat
  prio : Nat
  polder : Nat
  /-- 1 WAIT, 2 READY, 3 SLOT, 4 RUN, 5 DONE -/
  st : Nat
  prov : Bool
  reexec : Bool
  kind : Nat
  idx : Nat
  gen : Nat
  /-- the conditions outstanding; DEP is their number -/
  deps : List Dep
  next : Option Nat
  pair : Nat
  slot : Bool
  /-- in DONE: the clock in which it becomes FREE (R257) -/
  till : Nat := 0
deriving DecidableEq, Repr

/-- A task in a prefetch slot with its frame (R209, R210). -/
structure SlotSt where
  tok : Nat
  filled : Bool
  /-- frame words that are not 0, by address -/
  frame : List (Nat × Nat)
  /-- of each KIND 5 input: words filled, frames waiting (FRIN) -/
  fr : List (Nat × Nat × Nat)
deriving DecidableEq, Repr

/-- A tile pair (R205): both halves hold the same. -/
structure Tile where
  slot0 : Option SlotSt := none
  slot1 : Option SlotSt := none
  /-- the slot whose segment runs -/
  cur : Option Bool := none
  /-- vector registers by 4 r + element, those that are not 0 -/
  v : List (Nat × Nat) := []
  /-- mask registers -/
  k : List (Nat × Nat) := []
  /-- position of the next operation -/
  pos : Nat := 0
  /-- return positions of the active CALLs, innermost first -/
  calls : List Nat := []
  /-- active LOOPs, innermost first: first position, end, passes left, CALLs active at its start -/
  loops : List (Nat × Nat × Nat × Nat) := []
  /-- tile-cycles charged to the segment -/
  ch : Nat := 0
deriving DecidableEq, Repr

/-- The state of a GOOSE entry effective from an index (R213, R189). -/
structure GoEff where
  idx : Nat
  alive : Bool
  st : Nat
  sq : Nat
  len : Nat
  data : List Nat
deriving DecidableEq, Repr

/-- The live state of a VI (R214). -/
structure ViLive where
  words : List Nat
  /-- index of the last final run since the VI's reset -/
  last : Option Nat := none
  /-- changed at an exchange: its index, until a run of that index or later is final, and whether the carry of R83 has been applied to the words (R231) -/
  carry : Option (Nat × Bool) := none
deriving DecidableEq, Repr

/-- A message of a release link (Table 10-2, R349), without its CRC. -/
structure RMsg where
  /-- 1 PROV, 2 FINAL, 3 CONFIRM, 4 SQUASH, 5 NONE, 6 DONE, 7 LANE_STOP, 8 TRIG -/
  typ : Nat
  seq : Nat
  idx : Nat
  vi : Nat
  gen : Nat
  /-- item pairs: descriptor word, value word -/
  items : List (Nat × Nat)
  digest : Nat
  /-- the payload word of a NONE or a TRIG -/
  pay : Nat
  /-- statistics of the speculation that the message ends: cycles, cause, stream, channel (Table 10-8) -/
  stat : List Nat
deriving DecidableEq, Repr

/-- The FINAL of a control-loop VI for an index, while its parts are not complete (R279). -/
structure OwnRec where
  vi : Nat
  idx : Nat
  gen : Nat
  /-- the fabric run: 0 none, 1 not complete, 2 complete, 3 abandoned -/
  fab : Nat
  items : List RecItem
  /-- its due slots that were not skipped, with their item pairs once complete -/
  steps : List (Nat × Option (List (Nat × Nat)))
deriving DecidableEq, Repr

/-- A command or a write that takes effect in a lane at a boundary (R10, R282, R286, R306). -/
inductive LaneCmd where
  | wr (key val : Nat)
  | traceTrig
  | traceArm
  | solve
  | publish
  | abort
  | cold
  /-- a change of key position, or of RUN -/
  | mode (pos : Option Nat) (run : Option Bool)
  | event (e : Nat)
  | restart (t : Nat)
  | pw (val : Nat)
  | demEnd
  | maxdemClear
  | save
  | recCmd (code unit val : Nat)
deriving DecidableEq, Repr

/-- What a loop slot keeps beside its registers (R269, R275, R276). -/
structure SlotRt where
  /-- countdown -/
  cd : Nat := 0
  /-- no step has been completed since its start -/
  first : Bool := true
  df : Int := 0
  pvPrev : Int := 0
  x1 : Int := 0
  x2 : Int := 0
  y1 : Int := 0
  y2 : Int := 0
  /-- boundary of the last completed step -/
  last : Option Nat := none
  /-- target in normalised units, binary64 (R274, R291) -/
  tgt : Nat := 0
  /-- its fields changed at an exchange: its integrator is set anew at its next step (R298) -/
  changed : Bool := false
deriving DecidableEq, Repr

/-- What a trace channel keeps beside its registers (R282). -/
structure TraceRt where
  /-- completed steps since the last point -/
  cnt : Nat := 0
  /-- points still to write after the trigger in single mode -/
  left : Option Nat := none
deriving DecidableEq, Repr

/-- The finish report of a solve (R291). -/
structure OptReport where
  code : Nat
  iters : Nat
  crc : Nat
deriving DecidableEq, Repr

/-- The optimiser of a lane beside its registers (R283 to R293); vectors hold binary32 values. -/
structure OptSt where
  /-- published q, l, u; none: the defaults -/
  pub : Option (List Nat × List Nat × List Nat) := none
  /-- terms latched by the running solve, and its start index -/
  run : Option (Nat × List Nat × List Nat × List Nat) := none
  /-- a SOLVE is held (R286) -/
  held : Bool := false
  /-- the saved (x, z, y) -/
  warm : Option (List Nat × List Nat × List Nat) := none
  /-- the factor: the values of L in the order of LROW, and the diagonal -/
  factor : Option (List Nat × List Nat) := none
  /-- the finish reports of this lane and of the other, the transfer outstanding -/
  own : Option OptReport := none
  other : Option OptReport := none
  /-- the timer's countdown, and the boundary of a due that has not been taken -/
  cd : Nat := 0
  due : Option Nat := none
  /-- the model changed at an exchange during the solve (R298) -/
  discard : Bool := false
  /-- its halves have differed: no solve goes on (R281) -/
  halt : Bool := false
deriving DecidableEq, Repr

/-- A cyclic task beside its registers (R300 to R313). -/
structure TaskRt where
  cd : Nat := 0
  /-- no cycle has begun since its start: the next carries FLAGS.START -/
  first : Bool := true
  /-- a change to running is to act at its next cycle start (R306) -/
  go : Bool := false
  /-- the output image of the last freeze that was not a halt image -/
  frozen : List Nat := []
  kc : Option Nat := none
  /-- boundary at which the input image is latched, until it is -/
  latch : Option Nat := none
  /-- accepted responses of this cycle: station, STATUS, input words -/
  acc : List (Nat × Nat × List Nat) := []
  /-- the record of the last final run, not yet released (R302) -/
  fin : Option (List RecItem) := none
  /-- latched images, newest first: boundary, words from IN_BASE, stations with ANSWERED -/
  imgs : List (Nat × List Nat × List Nat) := []
  /-- CYCLE of its bus -/
  cycle : Nat := 0
  /-- the task's frames are stopped by a reset of its VI (R315) -/
  hold : Bool := false
  /-- the retained words last sent to the supervisor (R313) -/
  ret : List Nat := []
deriving DecidableEq, Repr

/-- A station beside its registers: last accepted STATUS and input words. -/
structure StaRt where
  status : Nat := 0
  words : List Nat := []
  /-- a response has been accepted since the bus started or the station was added -/
  ever : Bool := false
deriving DecidableEq, Repr

/-- One lane's fabric, speculation control and scheduler beside its registers (09, 10, 11). -/
structure LaneSt where
  /-- SEQ of the next message of its ingest link (R197) -/
  seq : Nat := 0
  /-- it has stopped consuming its ingest link (R198) -/
  deaf : Bool := false
  /-- the first and the latest boundary received -/
  bnd0 : Option Nat := none
  bnd : Option Nat := none
  /-- boundaries received whose step exchange a standby still awaits (R362) -/
  bndWait : List Nat := []
  /-- sample store: sets by stream, newest first -/
  smp : List (Nat × List SvSet) := []
  /-- PREDICTION sets by stream: index, values -/
  preds : List (Nat × List (Nat × List Nat)) := []
  /-- streams whose sets the lane receives: stream, first index, the index at which it ends (R213, R258) -/
  strs : List (Nat × Nat × Option Nat) := []
  /-- sets discarded for their old tag: stream, index (R95) -/
  lost : List (Nat × Nat) := []
  /-- indices of which a SAMPLE or MOD message has been received, newest first (R258) -/
  got : List Nat := []
  /-- sub-samples by modulator channel: index, value and quality words -/
  mods : List (Nat × List (Nat × List Nat)) := []
  /-- effective states by GOOSE entry, newest first -/
  go : List (Nat × List GoEff) := []
  /-- frame inbox by VI: index, bytes -/
  inbox : List (Nat × List (Nat × Bytes)) := []
  /-- export words of final runs by VI, newest first: index, words that are not 0 -/
  exps : List (Nat × List (Nat × List (Nat × Nat))) := []
  vis : List (Nat × ViLive) := []
  nextRid : Nat := 0
  runs : List Run := []
  toks : List Tok := []
  /-- READY tokens in the order in which they became READY -/
  ready : List Nat := []
  /-- round-robin pointers of the eight priorities (R261) -/
  rr : List Nat := [0, 0, 0, 0, 0, 0, 0, 0]
  /-- the pair last chosen (R262) -/
  lastPair : Nat := 0
  /-- held creations, oldest first (R264) -/
  held : List Run := []
  tiles : List (Nat × Tile) := []
  /-- program region and initial-state region of lane memory, bytes by lane address (R212) -/
  mem : List Host.Cell := []
  /-- messages on the release link, oldest first -/
  rel : List RMsg := []
  relSeq : Nat := 0
  /-- BP was 1 in this sample period -/
  bpSeen : Bool := false
  /-- tile-cycles charged in this sample period -/
  load : Nat := 0
  /-- polders whose deferral has been counted in this sample period (R261) -/
  overs : List Nat := []
  /-- resident area under the old image for runs below an exchange index (R231): X, words -/
  oldRes : Option (Nat × List (Nat × Nat)) := none
  /-- commands and writes that take effect at a boundary: index, command -/
  cmds : List (Nat × LaneCmd) := []
  /-- FINALs of control-loop VIs that are not complete (R279) -/
  own : List OwnRec := []
  slots : List (Nat × SlotRt) := []
  /-- slots due at a boundary: slot, boundary, skipped (R270) -/
  sdue : List (Nat × Nat × Bool) := []
  /-- loop steps created and not complete: slot, boundary -/
  steps : List (Nat × Nat) := []
  traces : List (Nat × TraceRt) := []
  /-- ns the loop engine was busy in this sample period -/
  busy : Nat := 0
  opt : OptSt := {}
  tasks : List (Nat × TaskRt) := []
  /-- tasks due at a boundary: task, boundary, overrun, CYCLE_DUE taken (R300, R303) -/
  cdue : List (Nat × Nat × Bool × Bool) := []
  stas : List (Nat × StaRt) := []
  /-- events queued by event task: the boundaries at which they were taken (R312) -/
  evq : List (Nat × List Nat) := []
  /-- event tasks whose head event becomes a run at the latest boundary, behind due cyclic tasks of higher TPRIO (R299, R312) -/
  evdue : List Nat := []
  /-- event tasks whose head event back-pressure has held in its queue at the latest boundary (R264) -/
  evheld : List Nat := []
  /-- changes of mode and RUN, newest first: the boundary, CPE_STATUS [3:0] before and after (R306) -/
  mhist : List (Nat × Nat × Nat) := []
  /-- final records waiting for their consumers in the lane: the run, its record -/
  finals : List Run := []
  /-- the index of the last DONE sent -/
  doneSent : Option Nat := none
  /-- the join index while work below it is mirrored into this lane (R375): its runs, steps and due cycles below are the active lane's -/
  gj : Option Nat := none
deriving DecidableEq, Repr


/-- What the sluice keeps of a template (R245 to R247). -/
structure TplRt where
  /-- the last frame released -/
  rel : Option Bytes := none
  /-- the final buffer of each lane -/
  finA : Option Bytes := none
  finB : Option Bytes := none
  /-- provisional buffers of each lane: index, frame -/
  provA : List (Nat × Bytes) := []
  provB : List (Nat × Bytes) := []
  last : Option Nat := none
  /-- ms from the change of state to the next retransmission; none without one -/
  retx : Option Nat := none
deriving DecidableEq, Repr

/-- A final record of a lane, held for release or comparison (R252). -/
structure SluRec where
  lane : Lane
  vi : Nat
  idx : Nat
  gen : Nat
  /-- it is a NONE -/
  none : Bool
  items : List (Nat × Nat)
  digest : Nat
  /-- the final buffers of the templates it completed -/
  bufs : List (Nat × Bytes)
  /-- it has been released or cannot be -/
  done : Bool
deriving DecidableEq, Repr

/-- A released DOUT request of a VI for a line (R248). -/
structure DoutReq where
  line : Nat
  vi : Nat
  val : Bool
  idx : Nat
  /-- withdrawn by a reset of the VI: only the index is kept -/
  off : Bool
deriving DecidableEq, Repr

/-- The sluice beside its registers (10_speculation_sluice.md). -/
structure Sluice where
  /-- SEQ of the next message of each lane; none: the next message gives it -/
  seqA : Option Nat := some 0
  seqB : Option Nat := some 0
  /-- a lane whose messages are not used: it has stopped, or its link has failed -/
  stopA : Bool := false
  stopB : Bool := false
  /-- a DONE of the lane has been received -/
  doneA : Bool := false
  doneB : Bool := false
  /-- items of provisional executions: lane, VI, index, pairs -/
  provs : List (Lane × Nat × Nat × List (Nat × Nat)) := []
  recs : List SluRec := []
  tpl : List (Nat × TplRt) := []
  dout : List DoutReq := []
  /-- lines whose MIN_ON runs (R248) -/
  minOn : List Nat := []
  /-- the index before which outputs come from the other lane: b of a SWITCH, and the old source (R250) -/
  split : Option (Nat × Lane) := none
  /-- outputs of this index and later are not released from the source: j of a take-over -/
  from_ : Option Nat := none
  /-- a difference is latched (R252) -/
  divLatched : Bool := false
  /-- templates and DOUT configuration of a new image, taken once the source lane's DONE reaches X - 1 (R255) -/
  nextCfg : Option (Nat × List (Nat × Nat)) := none
  /-- index from which a joining lane is compared (R252, R375) -/
  joinAt : Option Nat := none
  /-- records below this index are not compared (R375) -/
  cmpFrom : Option Nat := none
deriving DecidableEq, Repr


/-- A step exchange on the lane link (R362): boundary, skipped VIs, skipped slots, overrun tasks, the active lane's code where the solve is transferred at this boundary, and the clock of its sending. -/
structure StepX where
  k : Nat
  skips : List Nat
  slotSkips : List Nat
  overruns : List Nat
  xfer : Option Nat
  at_ : Nat
deriving DecidableEq, Repr

/-- The lane link and what acts on both lanes at boundaries. -/
structure LaneLink where
  /-- step exchanges on their way to the standby -/
  xq : List StepX := []
  /-- acknowledgements on their way back: boundary, clock of the exchange's sending -/
  acks : List (Nat × Nat) := []
  /-- finish reports on their way to lane A, and to lane B (R291) -/
  repA : List OptReport := []
  repB : List OptReport := []
  /-- writes through the lane A view and commands that take effect at the next boundary, oldest first (R10) -/
  cmds : List LaneCmd := []
  /-- a key position or RUN change that waits for a boundary: earliest clock, change (R306) -/
  modes : List (Nat × LaneCmd) := []
  /-- MRAM: retained words by task, in two copies (R313) -/
  retained : List (Nat × TwoCopy (List Nat)) := []
  /-- retained words sent to the supervisor and not yet saved -/
  retPend : List (Nat × List Nat) := []
deriving DecidableEq, Repr


/-- What a lane keeps of a metering point beside its registers (R319 to R328). -/
structure PtRt where
  /-- the next index to take; none before the first boundary after a start -/
  next : Option Nat := none
  /-- samples, newest first: voltage and current of the three elements -/
  hist : List (List Nat) := []
  /-- samples taken since the start -/
  fill : Nat := 0
  /-- AI, AE, RQ1 to RQ4, SI, SE: 96-bit counts of 2^-32 uWh -/
  acc : List Nat := [0, 0, 0, 0, 0, 0, 0, 0]
  /-- GA, GR, GS and FA, FR, FS -/
  gap : List Nat := [0, 0, 0]
  f : List Nat := [0, 0, 0]
  /-- whole uWh of the accumulators at the last demand end, indices since, a quality or rating flag since -/
  base : List Nat := [0, 0, 0, 0, 0, 0, 0, 0]
  demN : Nat := 0
  demQual : Bool := false
  demOver : Bool := false
  /-- unmeasured indices fall in the interval (R323) -/
  demFill : Bool := false
  demLast : Option Nat := none
  /-- samples of the analyser's window, newest first -/
  win : List (List Nat) := []
  /-- the exchange index at which its definition changes or it ends, while indices below are outstanding (R83, R338) -/
  x : Option Nat := none
deriving DecidableEq, Repr

/-- A harmonic analyser (R328 to R330). -/
structure AnRt where
  /-- a window that is full and not yet published: point, last index, samples oldest first -/
  full : Option (Nat × Nat × List (List Nat)) := none
  /-- published words by offset in the window of Table 14-11 -/
  res : List (Nat × Nat) := []
deriving DecidableEq, Repr

/-- A snapshot of all points for the save of an index (R331). -/
structure NrgSnap where
  idx : Nat
  recs : List (Nat × List Nat)
deriving DecidableEq, Repr

/-- The energy unit of a lane. -/
structure NrgLane where
  pts : List (Nat × PtRt) := []
  ans : List (Nat × AnRt) := []
  /-- demand ends not yet latched by every point -/
  dems : List Nat := []
  /-- the snapshots of the last two saves, newest first -/
  snaps : List NrgSnap := []
deriving DecidableEq, Repr

/-- A save bank in MRAM (Table 14-5); a record whose CRC fails is none. -/
structure SaveBank where
  idx : Nat
  hours : Nat
  cause : Nat
  recs : List (Nat × Option (List Nat))
deriving DecidableEq, Repr

/-- The tide area in MRAM (R333). -/
structure Tide where
  j : Nat
  sc : Nat
  recs : List (Nat × Nat)
  count : Nat
  valid : Bool
deriving DecidableEq, Repr

/-- The supervisor's part of the energy unit (R331 to R334). -/
structure Nrg where
  /-- the save countdown, and a due that has not been taken -/
  cd : Nat := 0
  due : Option Nat := none
  /-- the running save: index, cause, operating hours at its step 0 -/
  run : Option (Nat × Nat × Nat) := none
  /-- cause of a held save -/
  held : Option Nat := none
  /-- MRAM: the save banks -/
  banks : TwoCopy SaveBank := {}
  /-- MRAM: the tide area; none while it is invalidated -/
  tide : Option Tide := none
  /-- energy has been measured since the last committed save -/
  measured : Bool := false
  /-- points with an excess since the last save, and the latest index that exceeded (R324) -/
  exc : List (Nat × Nat) := []
deriving DecidableEq, Repr

/-- The definition of a capture unit as it stood when it was armed (Table 15-6). -/
structure UnitDef where
  owner : Nat
  hold : Bool := false
  holdKind : Bool := false
  extend : Bool := false
  tout : Nat := 0
  pre : Nat := 0
  post : Nat := 0
  maxpost : Nat := 0
  trigEn : Nat := 0
  holdLen : Nat := 0
  cv : Nat := 0
  /-- analogue channels: KIND, ID, ITEM, words -/
  ach : List (Nat × Nat × Nat × Nat) := []
  /-- binary channels: VI, ITEM -/
  bch : List (Nat × Nat) := []
  /-- masks: the four words of each -/
  masks : List (List Nat) := []
deriving DecidableEq, Repr

/-- A frame: index, words, causes of its gaps. -/
structure RecFrame where
  idx : Nat
  /-- no words: the write queue did not accept the frame (R342) -/
  words : List Nat
  gaps : List Nat
deriving DecidableEq, Repr

/-- A record of a capture unit: armed, capturing or complete (R339 to R348). -/
structure RecRt where
  unit : Nat
  buf : Nat
  /-- the number of the record among those of the unit -/
  num : Nat
  df : UnitDef
  gen : Nat
  blocks : Nat
  /-- newest first -/
  frames : List RecFrame := []
  trig : Option Nat := none
  fin : Nat := 0
  cause : Nat := 0
  time : List Nat := [0, 0, 0]
  pre : Nat := 0
  retrig : Nat := 0
  viol : Nat := 0
  /-- ENDCAUSE once its last frame has been written; it waits for its commit -/
  endc : Nat := 0
  complete : Bool := false
  crc : Nat := 0
deriving DecidableEq, Repr

/-- A capture unit beside its registers. -/
structure UnitRt where
  /-- the next index of which it writes a frame; none before the first boundary -/
  next : Option Nat := none
  /-- consecutive outside frames by mask of the unit -/
  runs : List (Nat × Nat) := []
  /-- last recorded analogue words and binary channels -/
  last : List Nat := []
  lastB : List Bool := []
  /-- violations of its masks not yet evaluated: index, TRIG, STOP -/
  viol : List (Nat × Bool × Bool) := []
  /-- records of the unit since power-on -/
  count : Nat := 0
  /-- last index to be recorded under a STOP command -/
  stop : Option Nat := none
  /-- index after which the hold-off counts -/
  holdFrom : Nat := 0
deriving DecidableEq, Repr

/-- The acquisition engine of a lane. -/
structure RecLane where
  units : List (Nat × UnitRt) := []
  recs : List RecRt := []
  /-- values of RECW items by VI, newest first: index, values by 2 ITEM + kind -/
  items : List (Nat × List (Nat × List (Nat × Nat))) := []
  /-- TS sources raised by SIG and GTS: index, bits -/
  ts : List (Nat × Nat) := []
  /-- TRIG_IN and command sources: index, bits of TRIG_EN, units of a command -/
  ext : List (Nat × Nat × Nat) := []
  /-- the next index whose triggers are evaluated -/
  trigNext : Option Nat := none
  /-- blocks have returned since the last boundary -/
  freed : Bool := false
  /-- bytes in the lane's write queue, and the clock in which they stood there (R342) -/
  wq : Nat × Nat := (0, 0)
deriving DecidableEq, Repr

/-- The export engine, the lanes' CRCs and TRIG_OUT (R348 to R350). -/
structure RecSup where
  /-- the running export: unit, buffer -/
  exp : Option (Nat × Nat) := none
  /-- a RELEASE of that record waits for the export's end -/
  expRelease : Bool := false
  /-- CRCs of committed records that wait for the other lane's: lane, unit, number, CRC -/
  crcs : List (Lane × Nat × Nat × Nat) := []
  /-- index of the last TRIG acted on -/
  lastTrig : Option Nat := none
deriving DecidableEq, Repr

/-- A decision word of a warden (R369), with the clock at which it was sent. -/
structure WWord where
  roleA : Nat
  roleB : Nat
  src : Nat
  armed : Bool
  /-- the lane for which repair is requested -/
  repair : Option Nat
  /-- resynchronisation phase command -/
  phase : Nat
  /-- pending SWITCH index -/
  sw : Option Nat
  /-- fence bits -/
  fence : Nat
  sent : Nat
deriving DecidableEq, Repr

/-- The wardens, repair and the mate beside their registers (16_redundancy.md). -/
structure Wdn where
  /-- the roles have been set at step 9 of Table 03-1 -/
  live : Bool := false
  /-- the latest word of each warden -/
  words : List (Nat × WWord) := []
  /-- rounds of warden w since the last word of warden v, by 3 w + v -/
  miss : List (Nat × Nat) := []
  /-- consecutive rounds of warden w in which its word differed from that of v, by 3 w + v -/
  dis : List (Nat × Nat) := []
  /-- wardens whose island is being restarted (R371) -/
  restarting : List Nat := []
  /-- clocks at which a lane entered REPAIRING (R366 item 4): lane, clock -/
  entries : List (Nat × Nat) := []
  /-- lanes that are not repaired until REPAIR, after ABORT_RSYNC (R377) -/
  noRepair : List Nat := []
  /-- the repair has reached the end of a phase and waits for two wardens: the phase's result (R377) -/
  waits : Option Bool := none
  /-- the join index J (R375) -/
  join : Option Nat := none
  ioFault : Bool := false
  /-- a warm image reset is requested (R378) -/
  warmReq : Bool := false
  /-- SEQUENCE of the next mate status frame, and FLAGS of the mate's last frame (R381, R382) -/
  mateSeq : Nat := 0
deriving DecidableEq, Repr

/-- The seepage monitor beside its registers (17_conservation.md). -/
structure Seep where
  /-- counts latched by the check in progress: SEP register offset, count -/
  latch : List (Nat × Nat) := []
  /-- lanes skipped by the check in progress, as bits (R388) -/
  skip : Nat := 0
  /-- instances that failed at the previous check: ledger, lane, row, instance -/
  bad : List (Nat × Nat × Nat × Nat) := []
  /-- a tick has found the check unfinished: the next starts at its step 4 (R390) -/
  late : Bool := false
  /-- an ENERGY violation has been recorded in SEP_NRG_FAIL since nRESET -/
  nrgSeen : Bool := false
deriving DecidableEq, Repr

/-- The material of a key slot (Table 18-2): the public or symmetric bytes, and the private scalar of a P-256 key. -/
structure KeyMat where
  bytes : Bytes
  priv : Nat
deriving DecidableEq, Repr

/-- A key command that runs (R400, R401). -/
structure KeyOp where
  code : Nat
  slot : Nat
  /-- the inputs latched at acceptance: TYPE, KEY_ID, USES, EXP_WARM, KEK slot, KEY_IN bytes -/
  typ : Nat
  keyId : Nat
  uses : Nat
  expWarm : Bool
  kek : Nat
  input : Bytes
  /-- the commit point has passed and the result stands in its destination -/
  committed : Bool
deriving DecidableEq, Repr

/-- The key store's state beside its registers (18_keys_tamper.md). -/
structure KeyState where
  /-- the material of the slots that hold a key -/
  mat : List (Nat × KeyMat) := []
  op : Option KeyOp := none
  /-- MRAM: the copy of KEY_TAMPER_CFG made at the last image commit (R407) -/
  tamperCfg : Nat := 0
  /-- an input of ACTION 3 has blocked the GMAC keys too (R408) -/
  allBlocked : Bool := false
deriving DecidableEq, Repr

/-- The backup domain and the RTC beside their registers (19_rtc.md). -/
structure Rtc where
  /-- the oscillator runs (R415) -/
  osc : Bool := true
  /-- an alarm's PAST mark (R424) -/
  past0 : Bool := false
  past1 : Bool := false
  /-- the last sync armed has been applied (R422) -/
  synced : Bool := false
  /-- the weekday counter, kept in both modes (R417) -/
  wday : Nat := 0
  /-- the view's second of the next automatic sync (R422) -/
  autoAt : Option Nat := none
deriving DecidableEq, Repr

/-- An event waiting in the recorder's queue (R357), stamped at the event (R354). -/
structure EvtItem where
  typ : Nat
  source : Nat
  hours : Nat
  cycles : Nat
  time : List Nat
  data : List Nat
deriving DecidableEq, Repr

/-- A record of the event ring (Table 15-7), by its fields; `valid` says that its valid word matches. -/
structure EvtRec where
  seq : Nat
  words : List Nat
  valid : Bool
deriving DecidableEq, Repr

/-- The event recorder's state beside its registers (15_recorders.md). -/
structure EvtState where
  queue : List EvtItem := []
  /-- MRAM: the ring, newest first, at most 131 072 records (R353) -/
  ring : List EvtRec := []
  /-- slots written since each path's last window read are told by this write count: slot, writes -/
  writes : List (Nat × Nat) := []
  /-- OPHOURS of the first loss since the last TYPE 0x0002 record, and the losses (R357) -/
  firstLoss : Nat := 0
  lossSince : Nat := 0
deriving DecidableEq, Repr

/-- The state of the module. -/
structure State where
  /-- commands waiting, first in first out (the MODEL's own queue) -/
  pending : List Instr := []
  /-- every register of the register map that differs from its reset value, by offset, offsets rising -/
  regs : List (Nat × Nat) := []
  /-- words of the access paths: latches of R5, cursors and windows of R358 -/
  paths : List PathWord := []
  /-- low words held on the access paths (R5) -/
  held : List PathWord := []
  /-- the free-running 1.0 GHz counter (R147) -/
  now : Nat := 0
  /-- the MODEL's own: the registers as they stood before the last command, for an access in the same clock (R8, R427) -/
  was : List (Nat × Nat) := []
  /-- the MODEL's own counter of free values -/
  freeCtr : Nat := 0
  /-- the MODEL's own record of what left the module, newest first -/
  out : List Out := []
  pwr : Power := {}
  ldr : Loader := {}
  host : HostIf := {}
  tmu : TimeUnit := {}
  evt : EvtState := {}
  key : KeyState := {}
  net : Net := {}
  ing : Ingest := {}
  laneA : LaneSt := {}
  laneB : LaneSt := {}
  slu : Sluice := {}
  xl : LaneLink := {}
  nrg : Nrg := {}
  nrgA : NrgLane := {}
  nrgB : NrgLane := {}
  rcd : RecSup := {}
  recA : RecLane := {}
  recB : RecLane := {}
  wdn : Wdn := {}
  sep : Seep := {}
  rtc : Rtc := {}
deriving DecidableEq, Repr

/-- The module right after nRESET, with no image in its banks: every register at its reset value (nothing listed in
`regs`), every queue empty, VMAIN feeding (log entries 3, 6, 7). -/
def State.reset : State := {}

end Sys2Proof.Machine
end

