-- ==== Sys2Proof/Machine/Table.lean ====
section
/-! DEFINITION. Tables over natural keys: the register file and the byte memories in canonical form (keys strictly
rising, no entry equal to what an unlisted key reads as), and plain maps. -/
namespace Sys2Proof.Machine

/-- What a key of a table reads as; an unlisted key reads as its default. -/
def cellGet {β : Type} (d : Nat → β) : List (Nat × β) → Nat → β
  | [], k => d k
  | (j, v) :: t, k => if j = k then v else cellGet d t k

/-- A write: the newest entry for a key stands in front. -/
def cellPut {β : Type} (l : List (Nat × β)) (k : Nat) (v : β) : List (Nat × β) := (k, v) :: l

/-- Put an entry into a table whose keys rise, so that they still rise and no entry is a default. -/
def cellIns {β : Type} [DecidableEq β] (d : Nat → β) (k : Nat) (v : β) : List (Nat × β) → List (Nat × β)
  | [] => if v = d k then [] else [(k, v)]
  | (j, w) :: t =>
    if k < j then (if v = d k then (j, w) :: t else (k, v) :: (j, w) :: t)
    else if k = j then (if v = d k then t else (k, v) :: t)
    else (j, w) :: cellIns d k v t

/-- The canonical form of a table. -/
def cellCanon {β : Type} [DecidableEq β] (d : Nat → β) : List (Nat × β) → List (Nat × β)
  | [] => []
  | (k, v) :: t => cellIns d k v (cellCanon d t)

/-- The canonical form: keys strictly rising, no entry equal to its default. -/
def cellWf {β : Type} [DecidableEq β] (d : Nat → β) : List (Nat × β) → Bool
  | [] => true
  | [(k, v)] => decide (v ≠ d k)
  | (k, v) :: (j, w) :: t => decide (v ≠ d k) && decide (k < j) && cellWf d ((j, w) :: t)

/-- The value of a key in a plain map. -/
def mapGet {β : Type} (l : List (Nat × β)) (k : Nat) (d : β) : β := (l.lookup k).getD d
/-- A plain map with one key set. -/
def mapPut {β : Type} (l : List (Nat × β)) (k : Nat) (v : β) : List (Nat × β) :=
  (k, v) :: l.filter (fun e => e.1 != k)
/-- A plain map without a key. -/
def mapDel {β : Type} (l : List (Nat × β)) (k : Nat) : List (Nat × β) := l.filter (fun e => e.1 != k)

/-- A record read takes the copy with the newer sequence number whose CRC is correct (R64). -/
def TwoCopy.read {α : Type} (t : TwoCopy α) : Option α :=
  match t.val0, t.val1 with
  | some a, some b => if t.seq1 ≤ t.seq0 then some a else some b
  | some a, none => some a
  | none, b => b
/-- A record write goes to the copy with the older sequence number (R64). -/
def TwoCopy.write {α : Type} (t : TwoCopy α) (v : α) : TwoCopy α :=
  let n := max t.seq0 t.seq1 + 1
  let older0 := match t.val0, t.val1 with
    | none, _ => true
    | some _, none => false
    | some _, some _ => decide (t.seq0 ≤ t.seq1)
  if older0 then { t with seq0 := n, val0 := some v } else { t with seq1 := n, val1 := some v }

end Sys2Proof.Machine
end

