-- ==== Sys2Proof/Machine/Ops.lean ====
section
/-! DEFINITION. The named operations over the state that every family of commands shares: registers and their fields,
the words of an access path, event records, clock views, the combinational outputs, and the end of a command. -/
namespace Sys2Proof.Machine

/-! ### Registers -/

/-- The value a register holds. -/
def State.rd (s : State) (k : Nat) : Nat := cellGet resetVal s.regs k
/-- A register takes a value. -/
def State.wr (s : State) (k v : Nat) : State := { s with regs := cellPut s.regs k (v % 4294967296) }
/-- Bits `hi` to `lo` of a register. -/
def State.fld (s : State) (k hi lo : Nat) : Nat := bitsOf (s.rd k) hi lo
/-- A field of a register takes a value. -/
def State.setF (s : State) (k hi lo v : Nat) : State := s.wr k (putBits (s.rd k) hi lo v)
/-- Bit `i` of a register. -/
def State.bit (s : State) (k i : Nat) : Bool := (s.rd k).testBit i
/-- Bit `i` of a register takes a value. -/
def State.setB (s : State) (k i : Nat) (b : Bool) : State := s.setF k i i (b2n b)
/-- Bits of a register that are 1 in `m` are set. -/
def State.orR (s : State) (k m : Nat) : State := s.wr k (s.rd k ||| m)
/-- A 32-bit counter that saturates at 0xFFFF_FFFF goes up. -/
def State.addSat (s : State) (k n : Nat) : State := s.wr k (min 4294967295 (s.rd k + n))
/-- A 32-bit counter that wraps goes up. -/
def State.addWrap (s : State) (k n : Nat) : State := s.wr k (s.rd k + n)
/-- A counter in a field that saturates at its largest value goes up. -/
def State.addSatF (s : State) (k hi lo n : Nat) : State :=
  s.setF k hi lo (min (2 ^ (hi + 1 - lo) - 1) (s.fld k hi lo + n))
/-- A counter in a field that wraps goes up. -/
def State.addWrapF (s : State) (k hi lo n : Nat) : State := s.setF k hi lo (s.fld k hi lo + n)
/-- A crest mark follows a value upwards. -/
def State.crest (s : State) (k v : Nat) : State := if s.rd k < v then s.wr k v else s
/-- A 64-bit pair of registers, the low word first (R5). -/
def State.rd64 (s : State) (k : Nat) : Nat := s.rd k + 4294967296 * s.rd (k + 4)
/-- A 64-bit pair takes a value. -/
def State.wr64 (s : State) (k v : Nat) : State := (s.wr k (v % 4294967296)).wr (k + 4) (v / 4294967296)
/-- Consecutive registers take the words of a list. -/
def State.wrs (s : State) (k : Nat) (ws : List Nat) : State :=
  (ws.zipIdx).foldl (fun s w => s.wr (k + 4 * w.2) w.1) s
/-- The words of consecutive registers. -/
def State.rds (s : State) (k n : Nat) : List Nat := (List.range n).map (fun i => s.rd (k + 4 * i))

/-- A number entered into a rising list without repeats. -/
def insNat (n : Nat) : List Nat → List Nat
  | [] => [n]
  | m :: t => if n < m then n :: m :: t else if n = m then m :: t else m :: insNat n t
/-- The instances of an array of registers, of which `f` gives the offsets, whose register is listed, rising: every other
one holds its reset value. An enable bit that is 0 at reset can be 1 in no other instance. -/
def State.listed (s : State) (f : Nat → Nat) (n : Nat) : List Nat :=
  let a := f 0
  let st := f 1 - a
  s.regs.foldr (fun e l => if a ≤ e.1 && decide (e.1 < a + st * n) && (e.1 - a) % st == 0 then insNat ((e.1 - a) / st) l else l) []

/-- The next free value, and the state in which it has been used (log entry 4). -/
def State.takeFree (s : State) : Nat × State := (Config.free s.freeCtr, { s with freeCtr := s.freeCtr + 1 })
/-- Something leaves the module. -/
def State.emit (s : State) (o : Out) : State := { s with out := o :: s.out }
/-- A function applied if a condition holds. -/
def State.onIf (s : State) (c : Bool) (f : State → State) : State := if c then f s else s

/-- PCM_STATUS.STATE (Table 02-17): 1 Start, 2 Running, 3 Low tide, 4 entering, 5 leaving. -/
def State.power (s : State) : Nat := s.fld R.PCM_STATUS 2 0
/-- The outputs take what the functions release, and the transmitters work: Running, and until low tide is entered (R30, R48). -/
def State.active (s : State) : Bool := s.power == 2 || s.power == 4
/-- The fast clocks run: the rails are up, and the module is not in low tide (R30). -/
def State.fastClk (s : State) : Bool := s.pwr.pgood && s.power != 3

/-! ### Words of an access path (R5, R358) -/

/-- A path's word, 0 while it has none. -/
def State.pathGet (s : State) (p : Path) (k : Nat) : Nat :=
  match s.paths.find? (fun w => w.path == p && w.key == k) with
  | some w => w.val
  | none => 0
/-- A path's word takes a value. -/
def State.pathPut (s : State) (p : Path) (k v : Nat) : State :=
  { s with paths := ⟨p, k, v⟩ :: s.paths.filter (fun w => !(w.path == p && w.key == k)) }
/-- The low word held on a path for a pair, named by its low offset. -/
def State.heldGet (s : State) (p : Path) (k : Nat) : Option Nat :=
  (s.held.find? (fun w => w.path == p && w.key == k)).map (·.val)
/-- A low word is held on a path; it replaces the one held before. -/
def State.heldPut (s : State) (p : Path) (k v : Nat) : State :=
  { s with held := ⟨p, k, v⟩ :: s.held.filter (fun w => !(w.path == p && w.key == k)) }
/-- The held word of a pair is released. -/
def State.heldDel (s : State) (p : Path) (k : Nat) : State :=
  { s with held := s.held.filter (fun w => !(w.path == p && w.key == k)) }

/-! ### Clock views (R161, R163) -/

/-- The offset O of a view in units of 2^-32 ns (R161). -/
def State.viewOff (s : State) (v : Nat) : Int :=
  let hi := s.rd (R.CV_OFF_SEC_HI v)
  let sec := sgnW 48 (s.rd (R.CV_OFF_SEC_LO v) + 4294967296 * bitsOf hi 15 0)
  (sec * 1000000000 + (s.fld (R.CV_OFF_NS v) 29 0 : Nat)) * 4294967296 + (bitsOf hi 31 16 : Nat) * 65536
/-- V = A + O of a view (R161). -/
def State.viewV (s : State) (v : Nat) : Int :=
  (nth s.tmu.acc (s.fld (R.CV_BIND v) 1 0) 0 : Nat) + s.viewOff v
/-- The fields of a view: nanoseconds, seconds, fraction; all 0 while its EN is 0 (R161). -/
def State.viewTime (s : State) (v : Nat) : Nat × Nat × Nat :=
  if s.bit (R.CV_BIND v) 4 then
    let V := s.viewV v
    let ns := V / 4294967296
    ((ns % 1000000000).toNat, (ns / 1000000000 % 281474976710656).toNat, (V / 65536 % 65536).toNat)
  else (0, 0, 0)
/-- The view is valid: CV_CTRL.VALID while its EN is 1 (R161, R166). -/
def State.viewValid (s : State) (v : Nat) : Bool := s.bit (R.CV_BIND v) 4 && s.bit (R.CV_CTRL v) 0
/-- A view's time as the three words of R12, `top` in bits [31:16] of the last. -/
def State.viewWords (s : State) (v : Nat) (top : Nat) : List Nat :=
  let t := s.viewTime v
  [t.1, t.2.1 % 4294967296, t.2.1 / 4294967296 + top * 65536]
/-- The offset of a view takes a value in units of 2^-32 ns; it is held to 16 bits of fraction (R161). -/
def State.setViewOff (s : State) (v : Nat) (O : Int) : State :=
  let f := O / 65536
  let ns := f / 65536
  let sec := unsgnW 48 (ns / 1000000000)
  ((s.wr (R.CV_OFF_NS v) (ns % 1000000000).toNat).wr (R.CV_OFF_SEC_LO v) (sec % 4294967296)).wr
    (R.CV_OFF_SEC_HI v) (sec / 4294967296 + (f % 65536).toNat * 65536)

/-! ### Event records (R353, R354, R357) -/

/-- The clock view of the event recorder (TMU_SYS_CFG.SYS_CV). -/
def State.sysView (s : State) : Nat := s.fld R.TMU_SYS_CFG 2 0
/-- The TIME words of an event at this clock (Table 15-7). -/
def State.evtTime (s : State) : List Nat :=
  if s.viewValid s.sysView then s.viewWords s.sysView 32768 else [0, 0, 0]
/-- Operating time in 1/16 s (R62). -/
def State.opHours (s : State) : Nat := s.rd64 R.PCM_OP_HOURS_LO
/-- An event enters the recorder's queue of 256, or is counted as lost (R357). -/
def State.event (s : State) (typ source : Nat) (data : List Nat) : State :=
  if s.evt.queue.length < 256 then
    let it : EvtItem := { typ := typ, source := source, hours := s.opHours, cycles := s.rd R.PCM_POWER_CYCLES,
                          time := s.evtTime, data := (data ++ [0, 0, 0, 0]).take 4 }
    { s with evt := { s.evt with queue := s.evt.queue ++ [it] } }
  else
    let s1 := { s with evt := { s.evt with
      firstLoss := if s.evt.lossSince = 0 then s.opHours else s.evt.firstLoss
      lossSince := s.evt.lossSince + 1 } }
    (s1.addSat R.EVT_LOST 1).setB R.EVT_EVENTS 1 true

/-- An event record whose SOURCE and DATA the spec does not state: they are free (log entry 4). -/
def State.eventOpen (s : State) (typ : Nat) : State :=
  let f := fun (i : Nat) => Config.free (s.freeCtr + i)
  let s : State := { s with freeCtr := s.freeCtr + 5 }
  s.event typ (f 0) [f 1, f 2, f 3, f 4]

/-! ### Interrupt sources and vectors (R109 to R115) -/

/-- The base of the block behind an ICU source (R109). -/
def srcBase (n : Nat) : Option Nat :=
  if n < 12 then
    some (nth [0x100000, 0x200000, 0x300000, 0x500000, 0x600000, 0x700000, 0x1400000, 0x1800000, 0x1C00000, 0x2400000,
               0x4C00000, 0x5000000] n 0)
  else if 16 ≤ n ∧ n ≤ 22 then
    some (nth [0x2000000, 0x2800000, 0x3000000, 0x3400000, 0x3800000, 0x4000000, 0x4800000] (n - 16) 0)
  else if 24 ≤ n ∧ n ≤ 30 then
    some (nth [0x2200000, 0x2A00000, 0x3200000, 0x3600000, 0x3A00000, 0x4200000, 0x4A00000] (n - 24) 0)
  else if 32 ≤ n ∧ n ≤ 79 then some (0x1000000 + (n - 32) * 0x10000)
  else none
/-- The level of a source: its block's EVENTS AND EVENT_EN is not 0 (R109). -/
def State.srcLevel (s : State) (n : Nat) : Bool :=
  match srcBase n with
  | some b => (s.rd (b + 4) &&& s.rd (b + 8)) != 0
  | none => false
/-- The levels of sources 32k to 32k + 31 as a word of ICU_SRC_LEVEL. -/
def State.srcWord (s : State) (k : Nat) : Nat :=
  (List.range 32).foldl (fun a i => a + b2n (s.srcLevel (32 * k + i)) * 2 ^ i) 0

/-- The quotient, rounded up. -/
def ceilDiv (a b : Nat) : Nat := (a + b - 1) / b
/-- Bytes as little-endian bytes of 32-bit words. -/
def wordsBytes (ws : List Nat) : Bytes := ws.flatMap (leBytes 4)
/-- The bits of the IMG and RWL fields of the register at an offset. -/
def imgMask (k : Nat) : Nat :=
  match rowAt k with
  | none => 0
  | some r => (r.flds.filter (fun f => f.acc == .img || f.acc == .rwl)).foldl (fun a f => a ||| (2 ^ (f.hi + 1) - 2 ^ f.lo)) 0
/-- The registers of ingest and of the lanes' engines, whose image-loaded fields indices below X still use (R83, R203). -/
def isIndexCfg (k : Nat) : Bool := (decide (0x1C00000 ≤ k) && decide (k < 0x2000000)) || (decide (0x3000000 ≤ k) && decide (k < 0x4C00000))

/-- The VF that presents a VI (R91). -/
def State.vfOf (s : State) (n : Nat) : Nat := s.fld (R.VIR_VI n) 26 16
/-- VF k exists (R99). -/
def State.vfExists (s : State) (k : Nat) : Bool :=
  s.host.vfEnable && decide (1 ≤ k) && decide (k ≤ s.host.numVfs)
/-- The VI that VF k presents. -/
def State.viOfVf (s : State) (k : Nat) : Option Nat :=
  if k = 0 then none else (s.listed R.VIR_VI 4096).find? (fun n => s.vfOf n == k)
/-- The type of a VI (Table 04-2). -/
def State.viType (s : State) (n : Nat) : Nat := s.fld (R.VIR_VI n) 2 0
/-- The polder of a VI. -/
def State.viPolder (s : State) (n : Nat) : Nat := s.fld (R.VIR_VI n) 9 4
/-- The generation tag of a VI (R95). -/
def State.viGen (s : State) (n : Nat) : Nat := s.fld (R.VI_GEN n) 15 0
/-- The function that delivers a VI's vectors: its VF when that exists, else PF0 (R109). -/
def State.viFn (s : State) (n : Nat) : Nat := if s.vfExists (s.vfOf n) then s.vfOf n else 0
/-- The control entry of a vector (Table 04-12). -/
def vecCfg : Vec → Nat
  | .pf0 v => R.ICU_VEC_CFG v.val
  | .vi n v => R.VI_VEC_CFG n.val v.val
/-- The MSI-X entry of a vector. -/
def vecMsix : Vec → Nat
  | .pf0 v => R.ICU_MSIX_ADDR_LO v.val
  | .vi n v => R.VI_MSIX_ADDR_LO n.val v.val
/-- The function of a vector. -/
def State.vecFn (s : State) : Vec → Nat
  | .pf0 _ => 0
  | .vi n _ => s.viFn n.val
/-- The function of the vector takes interrupts: MSI-X is enabled and, for a VI with a VF, the VF exists (R110, R115). -/
def State.vecLive (s : State) (v : Vec) : Bool :=
  let on := s.host.msixEn.contains (s.vecFn v)
  match v with
  | .pf0 _ => on
  | .vi n _ => on && (s.vfOf n.val == 0 || s.vfExists (s.vfOf n.val))
/-- The vector is fed by a level source: a PF0 vector that an enabled route names, or vector 2 of a VI (R109, R101). -/
def State.vecIsLevel (s : State) : Vec → Bool
  | .pf0 v => (s.listed R.ICU_ROUTE 128).any (fun n => s.bit (R.ICU_ROUTE n) 31 && s.fld (R.ICU_ROUTE n) 7 0 == v.val)
  | .vi _ v => v.val == 2
/-- The level of a level-fed vector. -/
def State.vecLevel (s : State) : Vec → Bool
  | .pf0 v => (s.listed R.ICU_ROUTE 128).any (fun n =>
      s.bit (R.ICU_ROUTE n) 31 && s.fld (R.ICU_ROUTE n) 7 0 == v.val && s.srcLevel n)
  | .vi n _ => (s.rd (R.VI_EVENTS n.val) &&& s.rd (R.VI_EVENT_EN n.val)) != 0
/-- A level-fed vector is pending while its level is asserted, unless it is in service (R111, R114). -/
def State.levelPend (s : State) (v : Vec) : State :=
  let k := vecCfg v + 12
  s.setB k 0 (s.vecLive v && s.vecLevel v && !s.bit k 1)
/-- The PF0 vectors that enabled routes name. -/
def State.routedVecs (s : State) : List (Fin 256) :=
  (s.listed R.ICU_ROUTE 128).filterMap (fun n =>
    if s.bit (R.ICU_ROUTE n) 31 then some (Fin.ofNat 256 (s.fld (R.ICU_ROUTE n) 7 0)) else none)
/-- The VIs whose vector 2 can be asserted or pending: their page holds an event or a vector state. -/
def State.eventVis (s : State) : List (Fin 4096) :=
  s.regs.filterMap (fun e =>
    if 0x8000000 ≤ e.1 ∧ (e.1 % 0x1000 = 0x10 ∨ e.1 % 0x1000 = 0x42C) then
      some (Fin.ofNat 4096 ((e.1 - 0x8000000) / 0x1000)) else none)
/-- An event of a vector: VEC_COUNT counts it; while its function takes interrupts, ACC counts it, and the vector
becomes pending when ACC reaches COAL_COUNT, or starts its timer (R111, R115). -/
def State.vecEvent (s : State) (v : Vec) : State :=
  let k := vecCfg v
  let s := s.addSatF (k + 4) 15 0 1
  if !s.vecLive v then s
  else
    let s := s.addSatF (k + 12) 15 8 1
    if s.vecIsLevel v then s.levelPend v else
    let acc := s.fld (k + 12) 15 8
    let cnt := s.fld k 15 8
    let tim := s.fld k 31 16
    let need := if cnt = 0 ∧ tim = 0 then 1 else cnt
    let s := if need ≠ 0 ∧ need ≤ acc then s.setB (k + 12) 0 true else s
    if tim ≠ 0 && !s.bit (k + 12) 0 && !s.host.coal.contains v then
      { s with host := { s.host with coal := v :: s.host.coal } } else s

/-! ### Software accesses to registers (R4 to R7, R12) -/

/-- The registers a read of which latches the next ones on its path, with their number: the pairs and triples of R5 and R12,
RTC_SUB (R420), TMU_PPSIN_NS (Table 07-4). Masks of ports and sets of counters split over two registers are no 64-bit
quantity here (DESIGN CHOICE, log entry 10). -/
def latchRows : List (Nat × List (Nat × Nat) × Nat) := [
  (R.IDN_SERIAL_LO, [], 1), (R.IDN_MAC_BASE_LO, [], 1), (R.PCM_OP_HOURS_LO, [], 1), (R.RTC_SUB, [], 4), (R.RTC_SET_SEC_LO, [], 1),
  (R.RTC_ALM_T_LO 0, [(16, 2)], 1), (R.VIR_FAULT_ADDR_LO, [], 1), (R.VIR_WIN_CTRL 0 0, [(256, 1025), (32, 8)], 1),
  (R.VIR_WIN_TRANS_LO 0 0, [(256, 1025), (32, 8)], 1), (R.ICU_MSIX_ADDR_LO 0, [(16, 256)], 1), (R.VI_MSIX_ADDR_LO 0 0, [(4096, 4096), (16, 64)], 1),
  (R.DIRTY_A_LO 0, [(32, 1024), (8, 2)], 1), (R.CFG_DMA_ADDR_LO, [], 1), (R.SWC_MIR_BASE_LO, [], 1), (R.TMU_PPSIN_NS, [], 3),
  (R.TMU_SET_NS, [], 2), (R.TB_INCR_LO 0, [(64, 4), (8, 2)], 1), (R.TB_RAW0 0, [(64, 4)], 2), (R.CV_TIME_NS 0, [(64, 8)], 2),
  (R.ING_PACE_PERIOD_LO, [], 1), (R.LPE_SLOT_PROF .a 0 0, [(256, 1024), (8, 3)], 1), (R.LPE_SLOT_I_LO .a 0, [(256, 1024)], 1),
  (R.LPE_SLOT_SVA .a 0 0, [(256, 1024), (8, 3)], 1), (R.NRG_PT_LIVE .a 0 0, [(256, 2048), (8, 14)], 1),
  (R.NRG_PT_DEM .a 0 0, [(256, 2048), (8, 8)], 1), (R.NRG_QUANT .a 0 25, [(128, 2048), (8, 3)], 1), (R.REC_EXP_ADDR_LO .a, [], 1), (R.REC_RECORD .a 0 4, [(64, 128)], 2),
  (R.VI_TX_BASE_LO 0, [(4096, 4096)], 1), (R.VI_RX_BASE_LO 0, [(4096, 4096)], 1)]
/-- The low words of the pairs that software writes: their write is held on its path (R5). A mask of ports split over a _LO
and a _HI register (SWC_LAG_UP, Table 06-5) is two registers, each applied at once (DESIGN CHOICE, log entry 10). -/
def heldRows : List (Nat × List (Nat × Nat)) := [
  (R.RTC_SET_SEC_LO, []), (R.RTC_ALM_T_LO 0, [(16, 2)]), (R.VIR_WIN_CTRL 0 0, [(256, 1025), (32, 8)]),
  (R.VIR_WIN_TRANS_LO 0 0, [(256, 1025), (32, 8)]), (R.ICU_MSIX_ADDR_LO 0, [(16, 256)]), (R.VI_MSIX_ADDR_LO 0 0, [(4096, 4096), (16, 64)]),
  (R.DIRTY_A_LO 0, [(32, 1024), (8, 2)]), (R.CFG_DMA_ADDR_LO, []), (R.SWC_MIR_BASE_LO, []), (R.TB_INCR_LO 0, [(64, 4), (8, 2)]),
  (R.ING_PACE_PERIOD_LO, []), (R.REC_EXP_ADDR_LO .a, []), (R.VI_TX_BASE_LO 0, [(4096, 4096)]), (R.VI_RX_BASE_LO 0, [(4096, 4096)])]
/-- How many registers after it a read of a register latches. -/
def latchLen (k : Nat) : Nat :=
  let f := foldLane k
  match latchRows.find? (fun r => decide (r.1 ≤ f) && inDims r.2.1 (f - r.1)) with
  | some r => r.2.2
  | none => 0
/-- A register whose read returns the path's latch (R5). -/
def isLatched (k : Nat) : Bool := [1, 2, 3, 4].any (fun i => decide (4 * i ≤ k) && decide (i ≤ latchLen (k - 4 * i)))
/-- A low word whose write is held. -/
def isHeldLow (k : Nat) : Bool := heldRows.any (fun r => decide (r.1 ≤ k) && inDims r.2 (k - r.1))

/-- The vector is masked by its MSI-X entry or its function's mask (R110). -/
def State.vecMasked (s : State) (v : Vec) : Bool := s.bit (vecMsix v + 12) 0 || s.host.fnMask.contains (s.vecFn v)
/-- The pending bits of 32 vectors, from the control entry of the first. -/
def State.pbaWord (s : State) (cfg0 : Nat) : Nat :=
  (List.range 32).foldl (fun a i => a + b2n (s.bit (cfg0 + 16 * i + 12) 0) * 2 ^ i) 0
/-- VEC_STATE: MASKED follows the entry's mask and the function's (Table 04-12). -/
def State.vecState (s : State) (v : Vec) : Nat := putBits (s.rd (vecCfg v + 12)) 2 2 (b2n (s.vecMasked v))
/-- A word of a VI page at this clock: all 0 while the VI does not exist, rings and their counters 0 unless it is host-bound
(R91, R101). -/
def State.viNow (s : State) (k : Nat) : Nat :=
  let n := (k - 0x8000000) / 0x1000
  let o := k % 0x1000
  if s.viType n = 0 then 0
  else if o = 0 then n + s.viType n * 2 ^ 12 + s.viPolder n * 2 ^ 16
  else if 0x100 ≤ o ∧ o < 0x150 then (if s.viType n = 5 then s.rd k else 0)
  else if 0x400 ≤ o ∧ o < 0x800 ∧ o % 16 = 12 then s.vecState (.vi (Fin.ofNat 4096 n) (Fin.ofNat 64 ((o - 0x400) / 16)))
  else if o = 0xC00 then s.pbaWord (R.VI_VEC_CFG n 0)
  else if o = 0xC04 then s.pbaWord (R.VI_VEC_CFG n 32)
  else s.rd k
/-- FAB_VI_STAT word 0 of a VI: STATE follows its enable and its reset (Table 09-13). -/
def State.vistNow (s : State) (l : Lane) (n k : Nat) : Nat :=
  putBits (s.rd k) 29 28 (if !s.bit (R.FAB_VI_CFG0 l n) 0 then 0 else if s.fld (R.VI_STATUS n) 1 0 = 3 then 2 else 1)
/-- A register of a die's temperature. -/
def dieTemp : Die → Nat
  | .laneA => R.PCM_TEMP_A
  | .laneB => R.PCM_TEMP_B
  | .io => R.PCM_TEMP_IO
  | .sup => R.PCM_TEMP_SUP
/-- PCM_STATUS.OTW: a die is above the limit (R58). -/
def State.otwNow (s : State) : Bool :=
  [Die.laneA, Die.laneB, Die.io, Die.sup].any (fun d => decide (sgnW 16 (s.fld R.PCM_OTW_LIMIT 15 0) < sgnW 16 (s.rd (dieTemp d))))
/-- What a register holds at this clock, those that follow other state included: the time bases (R159), the views (R161), the
pending bits and MASKED (Table 04-12), the VI pages, STATE of a VI's runs, OTW. -/
def State.regNow (s : State) (k : Nat) : Nat :=
  if 0x8000000 ≤ k then s.viNow k
  else if k = R.PCM_STATUS then putBits (s.rd k) 8 8 (b2n s.otwNow)
  else if 0x1800120 ≤ k ∧ k < 0x1800200 ∧ 0x20 ≤ k % 0x40 ∧ k % 0x40 ≤ 0x28 then
    nth s.tmu.acc ((k - 0x1800100) / 0x40) 0 / 2 ^ (8 * (k % 0x40 - 0x20)) % 4294967296
  else if 0x1800420 ≤ k ∧ k < 0x1800600 ∧ 0x20 ≤ k % 0x40 ∧ k % 0x40 ≤ 0x28 then
    let v := (k - 0x1800400) / 0x40
    nth (s.viewWords v (s.viewTime v).2.2) ((k % 0x40 - 0x20) / 4) 0
  else if 0x411000 ≤ k ∧ k < 0x411020 then s.pbaWord (R.ICU_VEC_CFG (8 * (k - 0x411000)))
  else if 0x2020000 ≤ k ∧ k < 0x2030000 ∧ k % 16 = 0 then s.vistNow .a ((k - 0x2020000) / 16) k
  else if 0x2220000 ≤ k ∧ k < 0x2230000 ∧ k % 16 = 0 then s.vistNow .b ((k - 0x2220000) / 16) k
  else if 0x412000 ≤ k ∧ k < 0x413000 ∧ k % 16 = 12 then s.vecState (.pf0 (Fin.ofNat 256 ((k - 0x412000) / 16)))
  else s.rd k
/-- A read of a register on a path: a latched word comes from the path's latch; a read that latches does so; RC fields clear
(R5 to R7). An offset that no table lists reads 0. -/
def State.readKey (s : State) (p : Path) (k : Nat) : Nat × State :=
  match rowAt k with
  | none => (0, s)
  | some r =>
    if isLatched k then (s.pathGet p k, s)
    else
      let s := (List.range (latchLen k)).foldl (fun s i => s.pathPut p (k + 4 * (i + 1)) (s.regNow (k + 4 * (i + 1)))) s
      (s.regNow k, r.flds.foldl (fun s f => if f.acc == .rc then s.setF k f.hi f.lo 0 else s) s)
/-- The code that a field stores for a code that software writes; none where it keeps its value (R6, and the registers' own
rules). PCM_OTW_LIMIT is taken as signed like the temperatures it is compared with: codes from 0x8000 are stored as written
(DESIGN CHOICE, log entry 12). -/
def swCode (k : Nat) (f : Fld) (w : Nat) : Option Nat :=
  if k = R.PCM_OTW_LIMIT then some (if w < 0x8000 ∧ 0x700 < w then 0x700 else w)
  else if k = R.RTC_CFG ∧ f.lo = 1 then some (min 9 w)
  else if k = R.KEY_ATTR ∧ f.lo = 0 then (if w < 7 then some w else none)
  else if k = R.SWC_MIR_SIZE then some (if 4 ≤ w ∧ w ≤ 15 then w else 4)
  else if k = R.TMU_SET_NS then some (min 999999999 w)
  else if k = R.TMU_SET_CFG ∧ f.lo = 0 then (if w < 3 then some w else none)
  else if 0x8000000 ≤ k ∧ (k % 0x1000 = 0x108 ∨ k % 0x1000 = 0x128) then some (if 4 ≤ w ∧ w ≤ 12 then w else 4)
  else if 0x1000000 ≤ k ∧ k < 0x1400000 ∧ k % 0x10000 = 0x1C then some (min 6 w)
  else if 0x1000000 ≤ k ∧ k < 0x1400000 ∧ k % 0x10000 = 0xC ∧ f.lo = 0 then (if w < 3 then some w else none)
  else some w
/-- A software write of a register: every field as its access code states (R6, R7). -/
def State.writeFields (s : State) (k v : Nat) : State :=
  match rowAt k with
  | none => s
  | some r => r.flds.foldl (fun s f =>
      let w := bitsOf v f.hi f.lo
      let put := fun (s : State) => match swCode k f w with
        | some c => s.setF k f.hi f.lo c
        | none => s
      match f.acc with
      | .rw => put s
      | .rwl => if s.ldr.rwlLocked then s else put s
      | .w1c => s.setF k f.hi f.lo (s.fld k f.hi f.lo - (s.fld k f.hi f.lo &&& w))
      | .w1s => s.setF k f.hi f.lo (s.fld k f.hi f.lo ||| w)
      | .ro | .wo | .rc | .img => s) s
/-- A high word is written: the low word held on the path applies in the same clock and is released (R5). -/
def State.heldApply (s : State) (p : Path) (lo : Nat) : State :=
  match s.heldGet p lo with
  | some v => (s.writeFields lo v).heldDel p lo
  | none => s

/-- The prescaler as it stands when it is observed: it has moved on from its last known value, by an amount that no command
tells (log entry 4). -/
def State.rtcSub (s : State) : State :=
  if !s.rtc.osc then s
  else
    let h := s.fld R.RTC_SUB 14 0
    s.takeFree.2.wr R.RTC_SUB (h + s.takeFree.1 % (32768 - h))

/-! ### Derived status and the end of a command -/

/-- The status fields and pins that the spec defines as functions of other state follow it: TMU_STATUS.HOLD and VALID
(R165, R174), VIR_STATUS (Table 04-9), EVT_STATUS (R359), CFG_STATUS.SLICE_FAULT (Table 03-10), SEP_STATUS.PARTIAL (Table 17-5). -/
def State.mirror (s : State) : State :=
  let hold := (List.range 4).foldl (fun a n => a + b2n (s.bit (R.TB_STATUS n) 0) * 2 ^ n) 0
  let valid := (List.range 8).foldl (fun a v => a + b2n (s.viewValid v) * 2 ^ v) 0
  let q := s.host.rstQ.length
  let busy := b2n (q != 0 || s.host.rstRun.length != 0)
  let el := s.evt.queue.length
  let sf := b2n (s.rd R.CFG_SLICE_FAULT != 0)
  let s := s.wr R.TMU_STATUS (putBits (putBits (s.rd R.TMU_STATUS) 3 0 hold) 11 4 valid)
  let s := s.wr R.VIR_STATUS (putBits (putBits (s.rd R.VIR_STATUS) 14 8 q) 1 1 busy)
  let s := s.wr R.EVT_STATUS el
  let part := s.rd R.SEP_DISABLE != 0 || (s.listed R.SEP_NRG_DIS 64).any (fun i => s.rd (R.SEP_NRG_DIS i) != 0)
  let s := s.setB R.SEP_STATUS 3 part
  s.wr R.CFG_STATUS (putBits (s.rd R.CFG_STATUS) 10 10 sf)
/-- RTC_STATUS.SYNC_ARMED, once armed. -/
def State.syncArm (s : State) : State := ({ s with rtc := { s.rtc with synced := false } } : State).setB R.RTC_STATUS 2 true
/-- While RTC_CFG.AUTO_SYNC is 1, a sync is armed at each rise of the VALID of the system clock view (R422). -/
def State.autoSync (s : State) : State :=
  let v := s.sysView
  if s.bit R.RTC_CFG 8 && s.viewValid v && !s.bit R.TMU_STATUS (4 + v) then
    ({ s with rtc := { s.rtc with autoAt := some ((s.viewTime v).2.1 + 3600) } } : State).syncArm
  else s
/-- WDN_STATUS.SYNC falls with the standby, and with a FAULT bit of its health word (R361). -/
def State.syncHold (s : State) : State :=
  let ok := (s.fld R.WDN_STATUS 10 8 == 1 && s.fld (R.WDN_HEALTH 0) 11 0 == 0) || (s.fld R.WDN_STATUS 14 12 == 1 && s.fld (R.WDN_HEALTH 1) 11 0 == 0)
  s.setB R.WDN_STATUS 4 (s.bit R.WDN_STATUS 4 && ok)
/-- The reasons of Table 16-8 as they stand. -/
def State.breachWord (s : State) : Nat :=
  let unclean := (s.rd (R.WDN_HEALTH 0) ||| s.rd (R.WDN_HEALTH 1)) &&& 0x10FFF
  let st := s.rd R.WDN_STATUS
  b2n (!st.testBit 4) + b2n (unclean != 0) * 2 + b2n (decide (b2n (st.testBit 16) + b2n (st.testBit 17) + b2n (st.testBit 18) < 2)) * 4 +
    b2n (st.testBit 5) * 8 + b2n (st.testBit 2) * 16 + b2n s.wdn.ioFault * 32 + b2n (!st.testBit 1) * 64
/-- WDN_BREACH follows its reasons once the roles have been set; each change of BREACH is an event with its record (R384). -/
def State.breachHold (s : State) : State :=
  if !s.wdn.live then s
  else
    let w := s.breachWord
    let was := s.bit R.WDN_STATUS 3
    let s := (s.wr R.WDN_BREACH w).setB R.WDN_STATUS 3 (w != 0)
    if was == (w != 0) then s else (s.setB R.WDN_EVENTS (if was then 6 else 5) true).eventOpen 0x30
/-- PAIRED and COVERING follow what R382 names; each change sets MATE_CHANGE. -/
def State.mateHold (s : State) : State :=
  let w := s.rd R.WDN_MATE_STATUS
  let paired := w.testBit 0 && s.bit R.CFG_MATE_STATUS 1
  let cover := paired && !(w.testBit 8 || w.testBit 9 || w.testBit 11) && s.bit R.WDN_MATE_CFG 1
  if paired == w.testBit 1 && cover == w.testBit 2 then s
  else (s.setF R.WDN_MATE_STATUS 2 1 (b2n paired + 2 * b2n cover)).setB R.WDN_EVENTS 11 true
/-- The interrupt levels follow their sources, MGMT_nALERT follows PCM's, and PHY_nRST its release (R109, R111, R62, R132). -/
def State.levels (s : State) : State :=
  let w0 := s.srcWord 0
  let w1 := s.srcWord 1
  let w2 := s.srcWord 2
  let s := ((s.wr (R.ICU_SRC_LEVEL 0) w0).wr (R.ICU_SRC_LEVEL 1) w1).wr (R.ICU_SRC_LEVEL 2) w2
  { s with pwr := { s.pwr with alert := w0.testBit 0, phyRun := s.bit R.PRT_PHY_CTRL 0 } }
/-- Level-fed vectors follow their levels (R111). -/
def State.pendLevels (s : State) : State :=
  let s := s.routedVecs.foldl (fun s v => s.levelPend (.pf0 v)) s
  s.eventVis.foldl (fun s n => s.levelPend (.vi n 2)) s
/-- What follows every command in the same clock: derived fields, interrupt levels, and the canonical form of the tables. -/
def State.settle (s : State) : State :=
  let s := ((s.syncHold.breachHold.mateHold.autoSync).pendLevels.mirror).levels
  { s with
    regs := cellCanon resetVal s.regs
    ldr := { s.ldr with
      bankA := cellCanon (fun _ => 255#8) s.ldr.bankA
      bankB := cellCanon (fun _ => 255#8) s.ldr.bankB }
    laneA := { s.laneA with mem := cellCanon (fun _ => 0#8) s.laneA.mem }
    laneB := { s.laneB with mem := cellCanon (fun _ => 0#8) s.laneB.mem } }
/-- The end of every command: the state it left, settled, with the queue as it was (the command's effect is on everything
but the queue). -/
def finish (s0 s1 : State) : Host.Outcome State Fault Refusal :=
  .next { s1.settle with pending := s0.pending, was := s0.regs }

end Sys2Proof.Machine
end

