-- ==== Sys2Proof/Machine/Keys.lean ====
section
/-! DEFINITION. The key store (18_keys_tamper.md, R396 to R412): slots, the key commands and the tamper inputs. -/
namespace Sys2Proof.Machine

/-! ### Slots (R396 to R399) -/

/-- A fuse slot: 0x00 to 0x0F (Table 18-1). -/
def isFuseSlot (n : Nat) : Bool := decide (n ≤ 0x0F)
/-- A volatile slot: 0x10 to 0x8F (Table 18-1). -/
def isVolSlot (n : Nat) : Bool := decide (0x10 ≤ n) && decide (n ≤ 0x8F)
/-- TYPE of a slot (Table 18-8). -/
def State.slotType (s : State) (n : Nat) : Nat := s.fld (R.KEY_SLOT_ATTR n) 3 0
/-- A fuse slot is VALID, a volatile slot holds a key (R398). -/
def State.slotValid (s : State) (n : Nat) : Bool := s.bit (R.KEY_SLOT_ATTR n) 4
def State.slotFaulty (s : State) (n : Nat) : Bool := s.bit (R.KEY_SLOT_ATTR n) 5
def State.slotRevoked (s : State) (n : Nat) : Bool := s.bit (R.KEY_SLOT_ATTR n) 6
/-- A slot is EMPTY: no key and, for a fuse slot, no burned fuse (R398). -/
def State.slotEmpty (s : State) (n : Nat) : Bool := s.slotType n == 0 && !s.slotFaulty n
/-- The material of a slot. -/
def State.keyMat (s : State) (n : Nat) : KeyMat := mapGet s.key.mat n ⟨[], 0⟩
/-- An image key has been burned: a revoked slot still counts (R404). -/
def State.anyImageKey (s : State) : Bool := (List.range 16).any (fun n => s.slotType n == 1)
/-- The public key of a slot that verifies image signatures: VALID, not REVOKED, TYPE IMAGE_PUB (R404). -/
def State.imageKey (s : State) (n : Nat) : Option (Nat × Nat) :=
  if isFuseSlot n && s.slotType n == 1 && s.slotValid n && !s.slotRevoked n then
    let b := (s.keyMat n).bytes
    some (beNat (b.take 32), beNat (b.drop 32))
  else none
/-- KEY_STATUS.UNSIGNED_ALLOWED follows the slots: no IMAGE_PUB burned. -/
def State.unsignedFlag (s : State) : State := s.setB R.KEY_STATUS 3 (!s.anyImageKey)
/-- A slot becomes EMPTY (R399). -/
def State.slotClear (s : State) (n : Nat) : State :=
  let s := ((s.wr (R.KEY_SLOT_ATTR n) 0).wr (R.KEY_SLOT_ID n) 0).wr (R.KEY_SLOT_USES n) 0
  { s with key := { s.key with mat := mapDel s.key.mat n } }
/-- A slot takes a key: TYPE, GENERATED, EXP_WARM, KEY_ID, USES and the material. -/
def State.slotSet (s : State) (n typ : Nat) (gen expWarm : Bool) (id uses : Nat) (m : KeyMat) : State :=
  let s := s.wr (R.KEY_SLOT_ATTR n) (typ + 16 + b2n gen * 128 + b2n expWarm * 256)
  let s := (s.wr (R.KEY_SLOT_ID n) id).wr (R.KEY_SLOT_USES n) uses
  { s with key := { s.key with mat := mapPut s.key.mat n m } }
/-- One use of a volatile slot: the use that takes USES from 1 to 0 empties it (R399). -/
def State.slotUse (s : State) (n : Nat) : State :=
  if isVolSlot n then
    match s.rd (R.KEY_SLOT_USES n) with
    | 0 => s
    | 1 => (s.slotClear n).setB R.KEY_EVENTS 3 true
    | u + 1 => s.wr (R.KEY_SLOT_USES n) u
  else s
/-- Every volatile slot becomes EMPTY: power-on and nRESET (R399). -/
def State.volatileClear (s : State) : State := (span 0x10 0x80).foldl (fun s n => s.slotClear n) s
/-- The volatile slots with EXP_WARM become EMPTY: warm image reset (R399). -/
def State.expWarmClear (s : State) : State :=
  (span 0x10 0x80).foldl (fun s n => if s.bit (R.KEY_SLOT_ATTR n) 8 then s.slotClear n else s) s
/-- A GMAC key (TYPE 3 or 4) that the slot holds, VALID: R404 alone forbids a REVOKED slot a use, the verification of an image. -/
def State.gmacIn (s : State) (n : Nat) : Bool :=
  (s.slotType n == 3 || s.slotType n == 4) && s.slotValid n
/-- ACTION of a tamper input in a KEY_TAMPER_CFG word (R407). -/
def tamperAction (cfg n : Nat) : Nat := bitsOf cfg (4 * n + 1) (4 * n)
/-- WAKE of a tamper input. -/
def tamperWake (cfg n : Nat) : Bool := cfg.testBit (4 * n + 2)
/-- Every GMAC key has ceased to be found: BLOCKED by an input of ACTION 3 (R408). -/
def State.blockAll (s : State) : Bool := s.bit R.KEY_STATUS 1 && s.key.allBlocked
/-- The slot whose key verifies a frame of a subscription (R405): the named slot with the frame's key ID, or the odd
slot of its pair. -/
def State.gmacSlot (s : State) (slot id : Nat) : Option Nat :=
  if s.blockAll then none
  else if isFuseSlot slot then
    if s.gmacIn slot && s.rd (R.KEY_SLOT_ID slot) == id then some slot else none
  else if s.gmacIn slot && s.rd (R.KEY_SLOT_ID slot) == id then some slot
  else if s.gmacIn (slot + 1) && s.rd (R.KEY_SLOT_ID (slot + 1)) == id then some (slot + 1)
  else none

/-! ### Key commands (R400 to R404) -/

/-- KEY_RESULT takes a code; the command completes or fails (R400). -/
def State.keyEnd (s : State) (result : Nat) : State :=
  (s.wr R.KEY_RESULT result).setB R.KEY_EVENTS (if result = 1 then 0 else 1) true
/-- A refusal: OP_FAILED with its code; one with BLOCKED or TAMPER writes an event record (R412). -/
def State.keyRefuse (s : State) (code slot id result : Nat) : State :=
  let s := s.keyEnd result
  if result = 8 ∨ result = 12 then s.event 0x61 slot [code, id, result] else s
/-- The bytes of KEY_IN: byte 0 in bits [7:0] of word 0 (R400). -/
def State.keyIn (s : State) : Bytes := (s.rds (R.KEY_IN 0) 16).flatMap (leBytes 4)
/-- Bytes are written to KEY_OUT from word 0. -/
def State.keyOut (s : State) (b : Bytes) : State :=
  s.wrs (R.KEY_OUT 0) ((List.range ((b.length + 3) / 4)).map (fun i => leNat (sliceB b (4 * i) 4)))
/-- A command that uses a secret: refused while BLOCKED (R400). -/
def keyUsesSecret (code typ : Nat) : Bool :=
  code == 3 || code == 4 || code == 5 || code == 7 || code == 8 || (code == 1 && typ != 1)
/-- The refusal conditions of Table 18-3, with the range, kind and type of the slot under R396 and R397, in that order:
0 accepts, any other value is the code of KEY_RESULT. -/
def State.keyCheck (s : State) (code slot : Nat) : Nat :=
  let typ := s.fld R.KEY_ATTR 3 0
  let kek := s.fld R.KEY_ATTR 15 8
  let blocked := s.bit R.KEY_STATUS 1 && keyUsesSecret code typ
  let burn := if !s.slotEmpty slot then 5 else if !s.bit R.KEY_POLICY 0 then 6 else if s.bit R.PCM_STATUS 9 then 7 else 0
  if s.bit R.KEY_STATUS 0 then 2
  else if slot > 0x8F then 3
  else if blocked then 8
  else match code with
  | 1 => if slot = 0 ∨ !isFuseSlot slot then 3
      else if !(typ == 1 || typ == 3 || typ == 4 || typ == 5) then 4 else burn
  | 2 => if slot = 0 ∨ !isFuseSlot slot then 3 else if !s.slotValid slot then 4 else 0
  | 3 => if slot = 0 then 3 else if typ ≠ 2 then 4
      else if isFuseSlot slot then burn else if !s.slotEmpty slot then 5 else 0
  | 4 => if !isVolSlot slot then 3 else if !(typ == 3 || typ == 4) then 4
      else if !s.bit R.KEY_POLICY 1 then 6 else 0
  | 5 => if !isVolSlot slot then 3 else if !(typ == 3 || typ == 4) then 4
      else if !(isFuseSlot kek && s.slotType kek == 5 && s.slotValid kek) then 9 else 0
  | 6 => if !isVolSlot slot then 3 else 0
  | 7 => if s.slotType slot ≠ 2 ∨ s.slotFaulty slot then 4 else if !s.bit R.KEY_POLICY 2 then 6 else 0
  | 8 => if s.slotType slot ≠ 2 ∨ s.slotFaulty slot then 4 else 0
  | 9 => if !(s.slotType slot == 1 || s.slotType slot == 2 || s.slotType slot == 6) ∨ s.slotFaulty slot then 4 else 0
  | _ => 3
/-- Acceptance of a key command: the checks, then BUSY; or a refusal (R400). A BUSY refusal leaves the running command. -/
def State.keyStart (s : State) (code slot : Nat) : State :=
  match s.keyCheck code slot with
  | 0 =>
    let op : KeyOp := { code := code, slot := slot, typ := s.fld R.KEY_ATTR 3 0,
                        keyId := if code = 2 ∨ code = 6 then s.rd (R.KEY_SLOT_ID slot) else s.rd R.KEY_ID, uses := s.rd R.KEY_USES,
                        expWarm := s.bit R.KEY_ATTR 4, kek := s.fld R.KEY_ATTR 15 8, input := s.keyIn, committed := false }
    ({ s with key := { s.key with op := some op } }).setB R.KEY_STATUS 0 true
  | r => s.keyRefuse code slot (s.rd R.KEY_ID) r
/-- The attestation statement of Table 18-5, bytes 0 to 111. -/
def State.attestBody (s : State) (slot : Nat) (nonce : Bytes) : Bytes :=
  let flags := 3 + b2n (isFuseSlot slot) * 4 + b2n (s.slotRevoked slot) * 8
  [1#8, BitVec.ofNat 8 slot, 2#8, BitVec.ofNat 8 flags] ++ beBytes 4 (s.rd R.IDN_SERIAL_HI) ++
    beBytes 4 (s.rd R.IDN_SERIAL_LO) ++ nonce ++ (s.keyMat slot).bytes.take 64 ++ beBytes 4 (s.rd R.PCM_POWER_CYCLES)
/-- A private scalar from a DRBG output (R402): from 1 to n - 1. -/
def drbgScalar (x : Nat) : Nat := x % (p256N - 1) + 1
/-- The result of a key command enters its destination: the commit point of R401. The answer is the code of KEY_RESULT. -/
def State.keyCommit (s : State) (o : KeyOp) : Nat × State :=
  match o.code with
  | 1 =>
    let n := if o.typ = 1 then 64 else if o.typ = 3 then 16 else 32
    (1, (s.slotSet o.slot o.typ false false o.keyId 0 ⟨o.input.take n, 0⟩).unsignedFlag)
  | 2 => (1, s.setB (R.KEY_SLOT_ATTR o.slot) 6 true)
  | 3 =>
    let (x, s) := s.takeFree
    let d := drbgScalar x
    let pub := ecdsaPub d
    let vol := isVolSlot o.slot
    (1, (s.slotSet o.slot 2 true (vol && o.expWarm) o.keyId (if vol then o.uses else 0) ⟨pub, d⟩).keyOut pub)
  | 4 => (1, s.slotSet o.slot o.typ false o.expWarm o.keyId o.uses ⟨o.input.take (if o.typ = 3 then 16 else 32), 0⟩)
  | 5 =>
    let n := if o.typ = 3 then 24 else 40
    match kwUnwrap ((s.keyMat o.kek).bytes.map (·.toNat)) ((o.input.take n).map (·.toNat)) with
    | some k => (1, s.slotSet o.slot o.typ false o.expWarm o.keyId o.uses ⟨k.map (BitVec.ofNat 8), 0⟩)
    | none => (9, s)
  | 6 => (1, s.slotClear o.slot)
  | 7 =>
    let (x, s) := s.takeFree
    let sig := ecdsaSign (s.keyMat o.slot).priv (drbgScalar x) (o.input.take 32)
    (1, (s.keyOut sig).slotUse o.slot)
  | 8 =>
    let (x, s) := s.takeFree
    let body := s.attestBody o.slot (o.input.take 32)
    (1, s.keyOut (body ++ ecdsaSign (s.keyMat 0).priv (drbgScalar x) (sha256 body)))
  | _ => (1, s.keyOut ((s.keyMat o.slot).bytes.take 64))
/-- A committed PROGRAM, GENERATE, REVOKE, LOAD, LOAD_WRAPPED or INVALIDATE writes an event record (R412). -/
def keyWritesRecord (code : Nat) : Bool := decide (1 ≤ code) && decide (code ≤ 6)
/-- The command burns fuses of its slot (Table 18-4). -/
def KeyOp.burns (o : KeyOp) : Bool := (o.code == 1 || o.code == 3) && isFuseSlot o.slot
/-- A fuse slot whose CRC does not hold when it is read back is FAULTY for good (R398). -/
def State.slotFault (s : State) (n : Nat) : State :=
  (({ s.wr (R.KEY_SLOT_ATTR n) 32 with key := { s.key with mat := mapDel s.key.mat n } } : State).setB R.KEY_EVENTS 4 true).unsignedFlag
/-- The running command completes (R400): its result is committed if that has not happened, KEY_RESULT and the event
bits are set and BUSY falls. A burned slot that does not read back fails with FUSE (Table 18-4). -/
def State.keyDone (s : State) (burned : Bool := true) : State :=
  match s.key.op with
  | none => s
  | some o =>
    let (r, s) := if o.committed then (1, s) else s.keyCommit o
    let bad := o.burns && !burned
    let s := s.onIf bad (fun s => s.slotFault o.slot)
    let s := ({ s with key := { s.key with op := none } }).setB R.KEY_STATUS 0 false
    let s := s.keyEnd (if bad then 10 else r)
    if keyWritesRecord o.code && r == 1 then
      s.event 0x61 o.slot [o.code, o.keyId] else s
/-- The running command ends before its commit point with a code (R401, R409). A DRBG output it has drawn is not reused. -/
def State.keyStop (s : State) (result : Nat) : State :=
  match s.key.op with
  | none => s
  | some o =>
    let s := if o.code = 3 ∨ o.code = 7 ∨ o.code = 8 then s.takeFree.2 else s
    (({ s with key := { s.key with op := none } }).setB R.KEY_STATUS 0 false).keyRefuse o.code o.slot o.keyId result
/-- The running command has passed its commit point: its result stands. -/
def State.keyMarkCommitted (s : State) (o : KeyOp) : State :=
  if o.committed then s
  else match s.keyCommit o with
  | (1, s) => { s with key := { s.key with op := some { o with committed := true } } }
  | (_, s) => s
/-- KEY_CMD ABORT, before the running command's commit point or (`late`) at or after it (R401). -/
def State.keyAbort (s : State) (late : Bool) : State :=
  match s.key.op with
  | none => s
  | some o =>
    if late || o.committed then (s.keyMarkCommitted o).setB R.KEY_STATUS 2 true else s.keyStop 11

/-! ### Tamper inputs (R407 to R409) -/

/-- The phase of DATA word 1 of a tamper record (R407). -/
def State.tamperPhase (s : State) : Nat :=
  if s.bit R.KEY_STATUS 0 then 3
  else match s.fld R.PCM_STATUS 2 0 with
  | 1 => 1
  | 3 => 2
  | _ => 0
/-- The event record of a tamper input (R407). -/
def State.tamperRecord (s : State) (n : Nat) (alarm : Bool) : State :=
  let d := [b2n alarm + 2 * tamperAction s.key.tamperCfg n, s.tamperPhase, s.rd R.KEY_STATUS]
  s.event 0x60 n d

end Sys2Proof.Machine
end

