-- ==== Sys2Proof/Machine/KeyRows.lean ====
section
/-! DEFINITION. The rows of the key commands (18_keys_tamper.md, Table 18-3). The slot is KEY_CMD [11:4]; the other inputs
are the KEY registers as they stand when the command arrives. -/
namespace Sys2Proof.Machine

/-- KEY_CMD PROGRAM: refused, or it runs (R400, R401). -/
def execProgram (slot : Byte) (s : State) : Host.Outcome State Fault Refusal := finish s (s.keyStart 1 slot.toNat)
/-- KEY_CMD REVOKE (R400, R404). -/
def execRevoke (slot : Byte) (s : State) : Host.Outcome State Fault Refusal := finish s (s.keyStart 2 slot.toNat)
/-- KEY_CMD GENERATE (R400, R402). -/
def execGenerate (slot : Byte) (s : State) : Host.Outcome State Fault Refusal := finish s (s.keyStart 3 slot.toNat)
/-- KEY_CMD LOAD (R400). -/
def execLoad (slot : Byte) (s : State) : Host.Outcome State Fault Refusal := finish s (s.keyStart 4 slot.toNat)
/-- KEY_CMD LOAD_WRAPPED (R400). -/
def execLoadWrapped (slot : Byte) (s : State) : Host.Outcome State Fault Refusal := finish s (s.keyStart 5 slot.toNat)
/-- KEY_CMD INVALIDATE (R400). -/
def execInvalidate (slot : Byte) (s : State) : Host.Outcome State Fault Refusal := finish s (s.keyStart 6 slot.toNat)
/-- KEY_CMD SIGN (R400). -/
def execSign (slot : Byte) (s : State) : Host.Outcome State Fault Refusal := finish s (s.keyStart 7 slot.toNat)
/-- KEY_CMD ATTEST (R400, R403). -/
def execAttest (slot : Byte) (s : State) : Host.Outcome State Fault Refusal := finish s (s.keyStart 8 slot.toNat)
/-- KEY_CMD PUBKEY (R400). -/
def execPubkey (slot : Byte) (s : State) : Host.Outcome State Fault Refusal := finish s (s.keyStart 9 slot.toNat)
/-- KEY_CMD ABORT before the running command's commit point or, with `late`, at or after it (R401). -/
def execKeyAbort (late : Bool) (s : State) : Host.Outcome State Fault Refusal := finish s (s.keyAbort late)
/-- The running key command completes (R400); a burn of fuses has come out as `burned` says (Table 18-4). -/
def execKeyOpDone (burned : Bool) (s : State) : Host.Outcome State Fault Refusal := finish s (s.keyDone burned)

end Sys2Proof.Machine
end

