-- ==== Sys2Proof/Machine/Dma.lean ====
section
/-! DEFINITION. Host memory access: the translation windows (R102), dirty-page logging (R103). -/
namespace Sys2Proof.Machine

/-- Where window `w` of function `f` sends an address, if it matches it with the needed permission (R102). -/
def State.winXlate (s : State) (f w : Nat) (write : Bool) (a : Nat) : Option Nat :=
  let c := s.rd (R.VIR_WIN_CTRL f w)
  let base := bitsOf c 31 12 * 4096 + 4294967296 * s.rd (R.VIR_WIN_BASE_HI f w)
  let trans := s.fld (R.VIR_WIN_TRANS_LO f w) 31 12 * 4096 + 4294967296 * s.rd (R.VIR_WIN_TRANS_HI f w)
  let size := s.rd (R.VIR_WIN_SIZE f w) * 4096
  if c.testBit 0 && c.testBit (if write then 2 else 1) && decide (base ≤ a) && decide (a < base + size) then
    some (trans + (a - base)) else none
/-- The first matching window in window order translates a byte (R102). -/
def State.xlate (s : State) (f : Nat) (write : Bool) (a : Nat) : Option Nat :=
  if f = 0 ∧ s.bit R.VIR_CTRL 0 then some a
  else (List.range 8).findSome? (fun w => s.winXlate f w write a)
/-- Consecutive bytes whose translated addresses are contiguous go out as one request: runs of (address, length). -/
def runsOf : List Nat → List (Nat × Nat)
  | [] => []
  | a :: t =>
    match runsOf t with
    | (b, n) :: r => if b = a + 1 then (a, n + 1) :: r else (a, 1) :: (b, n) :: r
    | [] => [(a, 1)]
/-- A run goes out within the limit of Table 04-6: 512 bytes of payload for a write, 4096 bytes for a read request. -/
def splitRun (write : Bool) (r : Nat × Nat) : List (Nat × Nat) :=
  let m := if write then 512 else 4096
  (List.range ((r.2 + m - 1) / m)).map (fun i => (r.1 + m * i, min m (r.2 - m * i)))
/-- The requests of a transfer, or the address of its first byte that matches no window (R102). -/
def State.requests (s : State) (f : Nat) (write : Bool) (a n : Nat) : Except Nat (List (Nat × Nat)) :=
  let xs := (List.range n).map (fun i => (a + i, s.xlate f write (a + i)))
  match xs.find? (fun x => x.2.isNone) with
  | some x => .error x.1
  | none => .ok ((runsOf (xs.filterMap (·.2))).flatMap (splitRun write))
/-- A blocked transfer is recorded and reported; no part of it is issued (R102). -/
def State.iommuFault (s : State) (f : Nat) (write : Bool) (a : Nat) : State :=
  let s := s.wr64 R.VIR_FAULT_ADDR_LO a
  let s := s.wr R.VIR_FAULT_INFO (f + b2n write * 4096)
  let s := s.setB R.VIR_EVENTS 2 true
  match s.viOfVf f with
  | some n => s.setB (R.VI_EVENTS n) 1 true
  | none => s
/-- A page of input address is written while dirty logging of VF k is enabled (R103). -/
def State.markDirty (s : State) (k page : Nat) : State :=
  let j := k - 1
  if page < s.fld (R.DIRTY_SPAN j) 23 0 then
    let base := if s.bit (R.DIRTY_STATUS j) 0 then s.rd64 (R.DIRTY_B_LO j) else s.rd64 (R.DIRTY_A_LO j)
    s.emit (.dirty (base + page / 8) (page % 8))
  else
    let s := s.setB (R.DIRTY_STATUS j) 2 true
    match s.viOfVf k with
    | some n => s.setB (R.VI_EVENTS n) 5 true
    | none => s
/-- The dirty bits of a data write of VF k (R103). -/
def State.logDirty (s : State) (k a n : Nat) : State :=
  if k = 0 ∨ n = 0 ∨ !s.bit (R.DIRTY_CTRL (k - 1)) 0 then s
  else (span (a / 4096) ((a + n - 1) / 4096 + 1 - a / 4096)).foldl (fun s p => s.markDirty k p) s
/-- A DMA write of a function: its requests leave in ascending order, or the whole transfer is blocked (R102, R103). -/
def State.dmaWrite (s : State) (f a : Nat) (d : Bytes) : Bool × State :=
  match s.requests f true a d.length with
  | .error x => (false, s.iommuFault f true x)
  | .ok rs =>
    let r := rs.foldl (fun (st : State × Bytes) q => (st.1.emit (.dmaWrite q.1 (st.2.take q.2)), st.2.drop q.2)) (s, d)
    (true, r.1.logDirty f a d.length)
/-- A DMA read of a function: its requests leave, or the whole transfer is blocked (R102). -/
def State.dmaRead (s : State) (f a n : Nat) : Bool × State :=
  match s.requests f false a n with
  | .error x => (false, s.iommuFault f false x)
  | .ok rs => (true, rs.foldl (fun s q => s.emit (.dmaRead q.1 q.2)) s)

end Sys2Proof.Machine
end

