-- ==== Sys2Proof/Machine/Net.lean ====
section
/-! DEFINITION. The shared buffer and the switch core (06_switch_core.md): cells and references, admission of copies,
classification, forwarding tables, aggregates, redundancy sets, mirroring, the transparent clock and the end of a copy. -/
namespace Sys2Proof.Machine

/-! ### Fields of a frame -/

def frDst (b : Bytes) : Nat := beNat (b.take 6)
def frSrc (b : Bytes) : Nat := beNat (sliceB b 6 6)
/-- Two bytes at an offset, in network order. -/
def be16 (b : Bytes) (o : Nat) : Nat := beNat (sliceB b o 2)
/-- The frame carries an IEEE 802.1Q tag. -/
def frTagged (b : Bytes) : Bool := be16 b 12 == 0x8100
/-- Offset of the EtherType, after the 802.1Q tag if there is one. -/
def frEtOff (b : Bytes) : Nat := if frTagged b then 16 else 12
def frEt (b : Bytes) : Nat := be16 b (frEtOff b)
/-- A group address: multicast or broadcast. -/
def isGroupAddr (a : Nat) : Bool := (a / 2 ^ 40) % 2 == 1
def bcastAddr : Nat := 0xFFFFFFFFFFFF
/-- 01-80-C2-00-00-00 to 0F (R142). -/
def isLinkLocal (a : Nat) : Bool := a / 16 == 0x0180C200000
/-- A frame with its frame check sequence appended. -/
def withFcs (b : Bytes) : Bytes := b ++ leBytes 4 (crc32 b)
/-- The frame without its frame check sequence. -/
def noFcs (b : Bytes) : Bytes := b.take (b.length - 4)
/-- The frame check sequence is correct. -/
def fcsOk (b : Bytes) : Bool := leNat (b.drop (b.length - 4)) == crc32 (noFcs b)
/-- The frame check sequence is stomped: the complement of the correct one (R123). -/
def fcsStomped (b : Bytes) : Bool := leNat (b.drop (b.length - 4)) == 4294967295 - crc32 (noFcs b)
/-- Bytes with a stomped frame check sequence (R123). -/
def withStomp (b : Bytes) : Bytes := b ++ leBytes 4 (4294967295 - crc32 b)
/-- CRC-32 with initial value all ones and no final inversion (R144). -/
def crc32Raw (b : Bytes) : Nat := 4294967295 - crc32 b
/-- Cells that a frame of length L occupies (R135). -/
def cellsFor (l : Nat) : Nat := (l + 127) / 128
/-- Bytes padded with zeros to a length. -/
def padTo (n : Nat) (b : Bytes) : Bytes := b ++ List.replicate (n - b.length) 0#8

/-! ### Cells (R135, R136, R138) -/

def State.lwm (s : State) : Nat := s.fld R.SWC_LWM 19 0
def State.protectClass (s : State) : Nat := s.fld R.SWC_LWM 26 24
/-- The free count changes: the crest mark of cells in use and BELOW_LWM follow (R138). -/
def State.setFree (s : State) (n : Nat) : State :=
  let below := decide (n ≤ s.lwm)
  let s := s.onIf (below && !s.bit R.SWC_STATUS 0) (fun s => s.setB R.SWC_EVENTS 0 true)
  ((s.setB R.SWC_STATUS 0 below).wr R.SWC_FREE n).crest R.SWC_USED_CREST (524288 - n)
/-- Cells a reception of a class may take now (R136). -/
def State.cellsAvail (s : State) (cls : Nat) : Nat :=
  if s.protectClass ≤ cls then s.rd R.SWC_FREE else s.rd R.SWC_FREE - s.lwm
def State.frameOf (s : State) (fid : Nat) : Option Frm := s.net.frames.find? (fun f => f.id == fid)
def State.updFrame (s : State) (fid : Nat) (g : Frm → Frm) : State :=
  { s with net := { s.net with frames := s.net.frames.map (fun f => if f.id = fid then g f else f) } }
/-- A reference falls; at 0 the frame's cells return to the free count in the same clock (R135). -/
def State.decRef (s : State) (fid : Nat) : State :=
  match s.frameOf fid with
  | none => s
  | some f =>
    if f.ref ≤ 1 then
      ({ s with net := { s.net with frames := s.net.frames.filter (fun g => g.id != fid) } }).setFree
        (s.rd R.SWC_FREE + f.cells)
    else s.updFrame fid (fun g => { g with ref := g.ref - 1 })

/-! ### Queues (R137, R140) -/

/-- The charge of a queue goes up (admission) or down (copy ending), with CHG_IN and CHG_OUT (Table 17-1). -/
def State.chargeIn (s : State) (x c n : Nat) : State :=
  let s := { s with net := { s.net with chgIn := mapPut s.net.chgIn (8 * x + c) ((mapGet s.net.chgIn (8 * x + c) 0 + n) % two32) } }
  let d := s.rd (R.SWC_P_QDEPTH x c) + n
  (s.wr (R.SWC_P_QDEPTH x c) d).crest (R.SWC_P_QCREST x c) d
def State.chargeOut (s : State) (x c n : Nat) : State :=
  let s := { s with net := { s.net with chgOut := mapPut s.net.chgOut (8 * x + c) ((mapGet s.net.chgOut (8 * x + c) 0 + n) % two32) } }
  s.wr (R.SWC_P_QDEPTH x c) (s.rd (R.SWC_P_QDEPTH x c) - n)
/-- Credits of a port: cells held in its buffer go back to the free count (R140). -/
def State.creditBack (s : State) (x n : Nat) : State :=
  let k := R.SWC_P_CREDITS x
  (s.setF k 5 0 (s.fld k 5 0 + n)).setF k 13 8 (s.fld k 13 8 - n)
/-- A credit is taken and its cell is held in the output's buffer (R140). -/
def State.creditTake (s : State) (x : Nat) : State :=
  let k := R.SWC_P_CREDITS x
  (s.setF k 5 0 (s.fld k 5 0 - 1)).setF k 13 8 (s.fld k 13 8 + 1)
/-- A copy ends, for whatever reason: its charge leaves its queue, its credits return, its reference falls (R135, R137). -/
def State.endCopy (s : State) (c : Copy) : State :=
  ((s.chargeOut c.x c.cls c.charge).creditBack c.x c.held).decRef c.fid
def State.dropCopies (s : State) (p : Copy → Bool) : State :=
  let gone := s.net.copies.filter p
  let s := { s with net := { s.net with copies := s.net.copies.filter (fun c => !p c) } }
  gone.foldl (fun s c => s.endCopy c) s
/-- Every copy that has not ended: queued, in transmission, or being written into a VI's buffers. -/
def State.allCopies (s : State) : List Copy := s.net.tx.map (·.2) ++ s.net.copies ++ s.net.rxHold.map (·.2)
/-- A VI's tag names a VI of the polder. -/
def State.viIn (s : State) (p : Nat) (v : Option (Nat × Nat)) : Bool := match v with | some (n, _) => s.viPolder n == p | none => false
/-- A frame in the buffer comes from a VI of the polder, or a copy of it goes to one. -/
def State.polderHolds (s : State) (p : Nat) (f : Frm) : Bool :=
  s.viIn p f.vi || s.allCopies.any (fun c => c.fid == f.id && s.viIn p c.vi)
/-- Cells that frames to or from a polder's VIs hold at P48 and P49, each frame's once (R93). -/
def State.polderCells (s : State) (p : Nat) : Nat := ((s.net.frames.filter (s.polderHolds p)).map (·.cells)).sum
/-- The CELLS budget of a VI's polder admits `n` more cells (R93): 0 is no limit. -/
def State.polderFits (s : State) (vi : Option (Nat × Nat)) (n : Nat) : Bool :=
  match vi with
  | none => true
  | some (v, _) =>
    let lim := s.fld (R.PLD_CELLS (s.viPolder v)) 19 0
    lim == 0 || decide (s.polderCells (s.viPolder v) + n ≤ lim)
def State.polderRefuse (s : State) (vi : Option (Nat × Nat)) : State :=
  match vi with
  | some (v, _) => s.addSat (R.PLD_CELL_DROP (s.viPolder v)) 1
  | none => s
/-- Cells that the admission of a copy adds to its VI's polder: none where the polder holds the frame already (R93). -/
def State.polderNeeds (s : State) (c : Copy) : Nat :=
  match c.vi, s.frameOf c.fid with
  | some (v, _), some f => if s.polderHolds (s.viPolder v) f then 0 else f.cells
  | _, _ => 0
/-- The VI that a copy's frame comes from. -/
def State.copySrc (s : State) (c : Copy) : Option (Nat × Nat) := match s.frameOf c.fid with | some f => f.vi | none => none
/-- LPI of a port ends in this clock, for the copy of a frame or because EEE_EN was cleared (R128). -/
def State.endLpi (s : State) (x : Nat) (fid : Option Nat) : State :=
  if x < 48 ∧ s.bit (R.PRT_STATUS x) 9 then
    (({ s with net := { s.net with waking := (x, fid) :: s.net.waking } }).setB (R.PRT_STATUS x) 9 false).emit (.lpi x false)
  else s
/-- COPY_ADMIT: the tests of R137 in order; an admitted copy takes a reference and is queued, a refused one is counted. -/
def State.copyAdmit (s : State) (c : Copy) : State :=
  let refuse := fun (s : State) => s.addSat (R.SWC_P_QDROP c.x c.cls) 1
  if !s.polderFits c.vi (s.polderNeeds c) then refuse (s.polderRefuse c.vi)
  else if !s.polderFits (s.copySrc c) 0 then refuse (s.polderRefuse (s.copySrc c))
  else if !(decide (s.lwm < s.rd R.SWC_FREE) || decide (s.protectClass ≤ c.cls)) then refuse s
  else if s.fld (R.SWC_P_QLIMIT c.x c.cls) 19 0 < s.rd (R.SWC_P_QDEPTH c.x c.cls) + c.charge then refuse s
  else
    let s := { s with net := { s.net with copies := s.net.copies ++ [c] } }
    ((s.updFrame c.fid (fun f => { f with ref := f.ref + 1 })).chargeIn c.x c.cls c.charge).endLpi c.x (some c.fid)
/-- The queue of a port and class, oldest copy first. -/
def State.queue (s : State) (x c : Nat) : List Copy := s.net.copies.filter (fun q => q.x == x && q.cls == c)
/-- One copy of a queue is taken out. -/
def State.takeCopy (s : State) (c : Copy) : State :=
  { s with net := { s.net with copies := s.net.copies.erase c } }

/-! ### Ports: native counters (R129 to R131) -/

/-- The window words a native counter feeds (Table 05-4). -/
def winWords (k : Nat) : List Nat :=
  match k with
  | 2 => [0] | 3 => [0, 2] | 4 => [0, 3] | 0 => [1] | 17 => [4] | 18 => [4] | 13 => [5] | 14 => [5] | 15 => [6]
  | 16 => [6] | 19 => [7] | 5 => [8] | 6 => [9] | 7 => [10] | 8 => [11] | 9 => [12] | 10 => [13] | 11 => [14]
  | 12 => [14] | 33 => [15] | 34 => [15, 17] | 35 => [15, 18] | 32 => [16] | 45 => [19] | 46 => [19] | 44 => [20]
  | 50 => [21] | _ => []
/-- A native counter goes up: it wraps, a change of bit 31 sets its half-range bit (R130), and the snapshot accumulators
follow (R131). -/
def State.portCnt (s : State) (p k n : Nat) : State :=
  let o := s.rd (R.PRT_CNT p k)
  let v := (o + n) % two32
  let s := s.wr (R.PRT_CNT p k) v
  let s := if o.testBit 31 = v.testBit 31 then s else
    let (h, e, i) := if k < 32 then (R.PRT_CNT_HALF_LO p, R.PRT_HALF_EN_LO p, k)
      else (R.PRT_CNT_HALF_HI p, R.PRT_HALF_EN_HI p, k - 32)
    (s.setB h i true).onIf (s.bit e i) (fun s => s.setB (R.PRT_EVENTS p) 3 true)
  let acc := (winWords k).foldl (fun m w => mapPut m (24 * p + w) ((mapGet m (24 * p + w) 0 + n) % 2 ^ 40)) s.net.snapAcc
  { s with net := { s.net with snapAcc := acc } }
/-- The size bin of a length (Table 05-3), counted from the first bin. -/
def sizeBin (l : Nat) : Nat :=
  if l ≤ 64 then 0 else if l ≤ 127 then 1 else if l ≤ 255 then 2 else if l ≤ 511 then 3
  else if l ≤ 1023 then 4 else if l ≤ 1518 then 5 else 6
/-- 0 unicast, 1 multicast, 2 broadcast. -/
def addrKind (a : Nat) : Nat := if a = bcastAddr then 2 else if isGroupAddr a then 1 else 0
/-- M of a port (Table 05-5): below 1518 used as 1518, above 9216 as 9216. -/
def State.maxLen (s : State) (p : Nat) : Nat := max 1518 (min 9216 (s.fld (R.PRT_MAXLEN p) 13 0))
/-- The speed a port runs, as PRT_STATUS.SPEED codes it. -/
def State.portSpeed (s : State) (p : Nat) : Nat := s.fld (R.PRT_STATUS p) 3 1
def State.portUp (s : State) (p : Nat) : Bool := s.bit (R.PRT_STATUS p) 0

/-! ### Forwarding tables (R141 to R145, Table 06-6) -/

/-- A port set of two words, 51 bits. -/
def State.portSet (s : State) (lo hi : Nat) : Nat := s.rd lo + two32 * bitsOf (s.rd hi) 18 0
def State.vlanValid (s : State) (v : Nat) : Bool := s.bit (R.SWC_VLAN_UNTAG_HI v) 27
def State.vlanMembers (s : State) (v : Nat) : Nat := s.portSet (R.SWC_VLAN_MEMBER_LO v) (R.SWC_VLAN_MEMBER_HI v)
def State.vlanUntag (s : State) (v : Nat) : Nat := s.portSet (R.SWC_VLAN_UNTAG_LO v) (R.SWC_VLAN_UNTAG_HI v)
/-- The first entry of the bucket of an address and VID (Table 06-6). -/
def fdbBucket (addr vid : Nat) : Nat := crc32Raw (beBytes 6 addr ++ beBytes 2 vid) % 4096 * 8
/-- The FDB entry of an address and VID. -/
def State.fdbFind (s : State) (addr vid : Nat) : Option Nat :=
  (span (fdbBucket addr vid) 8).find? (fun e =>
    s.bit (R.SWC_FDB1 e) 28 && s.rd (R.SWC_FDB0 e) + two32 * s.fld (R.SWC_FDB1 e) 15 0 == addr &&
    s.fld (R.SWC_FDB1 e) 27 16 == vid)
/-- An FDB entry is removed. -/
def State.fdbRemove (s : State) (e : Nat) : State :=
  let s := ((s.wr (R.SWC_FDB0 e) 0).wr (R.SWC_FDB1 e) 0).wr (R.SWC_FDB2 e) 0
  (s.wr (R.SWC_FDB3 e) 0).wr R.SWC_FDB_COUNT (s.rd R.SWC_FDB_COUNT - 1)
/-- The entries that the register table lists as written: the FDB entries that hold anything. -/
def State.fdbUsed (s : State) : List Nat :=
  ((cellCanon resetVal s.regs).filterMap (fun e =>
    if R.SWC_FDB1 0 ≤ e.1 ∧ e.1 < R.SWC_FDB1 32768 ∧ (e.1 - R.SWC_FDB1 0) % 16 = 0 ∧ e.2.testBit 28
    then some ((e.1 - R.SWC_FDB1 0) / 16) else none))
/-- SWC_FDB_COUNT after the tables have been loaded. -/
def State.fdbCount (s : State) : State := s.wr R.SWC_FDB_COUNT s.fdbUsed.length
/-- The learned entries of a port are removed (R143). -/
def State.fdbFlushPort (s : State) (p : Nat) : State :=
  (s.fdbUsed.filter (fun e => !s.bit (R.SWC_FDB1 e) 29 && !s.bit (R.SWC_FDB1 e) 30 && s.fld (R.SWC_FDB2 e) 5 0 == p)).foldl
    (fun s e => s.fdbRemove e) s
/-- FDB_LEARN: the source address of a good frame is learned, with the VI it came from at P48 or P49; of a static entry only the
seconds since it was last seen start again (R143, Table 06-6). -/
def State.fdbLearn (s : State) (p addr vid : Nat) (vi : Option Nat) : State :=
  let to_ := p + vi.getD 0 * 65536
  if isGroupAddr addr || !s.bit (R.SWC_P_CFG p) 16 || !s.bit (R.SWC_VLAN_UNTAG_HI vid) 24 then s
  else match s.fdbFind addr vid with
  | some e =>
    (s.onIf (!s.bit (R.SWC_FDB1 e) 29 && !s.bit (R.SWC_FDB1 e) 30) (fun s => s.wr (R.SWC_FDB2 e) to_)).wr (R.SWC_FDB3 e) 0
  | none =>
    match (span (fdbBucket addr vid) 8).find? (fun e => !s.bit (R.SWC_FDB1 e) 28) with
    | none => (s.addSat R.SWC_LEARN_FAIL 1).setB R.SWC_EVENTS 4 true
    | some e =>
      let s := (s.wr (R.SWC_FDB0 e) (addr % two32)).wr (R.SWC_FDB1 e) (addr / two32 + vid * 65536 + 2 ^ 28)
      ((s.wr (R.SWC_FDB2 e) to_).wr (R.SWC_FDB3 e) 0).addWrap R.SWC_FDB_COUNT 1

/-- The fields that the flow hash takes, in frame order (R144). -/
def hashBytes (cfg : Nat) (b : Bytes) : Bytes :=
  let e := frEtOff b
  let et := frEt b
  let pick := fun (i : Nat) (l : Bytes) => if cfg.testBit i then l else []
  let ipv4 := et == 0x0800
  let ipv6 := et == 0x86DD
  let ihl := if ipv4 then bitsOf (beNat (sliceB b (e + 2) 1)) 3 0 * 4 else 40
  let proto := if ipv4 then beNat (sliceB b (e + 11) 1) else beNat (sliceB b (e + 8) 1)
  let l4 := (ipv4 || ipv6) && (proto == 6 || proto == 17)
  pick 0 (b.take 6) ++ pick 1 (sliceB b 6 6) ++
    (if frTagged b then pick 2 (beBytes 2 (be16 b 14 % 4096)) else []) ++ pick 3 (sliceB b e 2) ++
    (if et == 0x88B8 || et == 0x88BA then pick 4 (sliceB b (e + 2) 2) else []) ++
    (if ipv4 then pick 5 (sliceB b (e + 14) 8) else if ipv6 then pick 5 (sliceB b (e + 10) 32) else []) ++
    (if l4 then pick 6 (sliceB b (e + 2 + ihl) 4) else [])
/-- The flow hash (R144). -/
def State.flowHash (s : State) (b : Bytes) : Nat := crc32Raw (hashBytes (s.rd R.SWC_HASH_CFG) b)
/-- The internal path of P48 and the lane of P50 that a frame takes (R144, R145). -/
def State.flowPath (s : State) (b : Bytes) : Nat := bitsOf (s.flowHash b) 7 6
def State.flowLane (s : State) (b : Bytes) : Nat := bitsOf (s.flowHash b) 8 8

/-- The members that an aggregate's registers name. -/
def State.lagMembersRaw (s : State) (a : Nat) : Nat :=
  s.rd (R.SWC_LAG_MEMBERS_LO a) + two32 * s.fld (R.SWC_LAG_MEMBERS_HI a) 15 0
/-- MODE, PORT_A, PORT_B, INTERLINK of a redundancy set as its register names them. -/
def State.redRaw (s : State) (n : Nat) : Nat × Nat × Nat × Nat :=
  let c := s.rd (R.SWC_RED_CFG n)
  (bitsOf c 2 0, bitsOf c 13 8, bitsOf c 21 16, bitsOf c 29 24)
/-- The ports a set that is not off names. -/
def State.redPortsRaw (s : State) (n : Nat) : List Nat :=
  let (m, a, b, i) := s.redRaw n
  if m = 0 ∨ 5 ≤ m then [] else if m = 3 ∨ m = 4 then [a, b, i] else [a, b]
/-- A port is named in two sets, twice in one, or is an aggregate member: the set runs as off (R149). -/
def State.redBad (s : State) (n : Nat) : Bool :=
  let ps := s.redPortsRaw n
  !ps.Nodup || ps.any (fun p =>
    ((List.range 4).filter (· != n)).any (fun m => (s.redPortsRaw m).contains p) ||
    (List.range 16).any (fun a => (s.lagMembersRaw a).testBit p))
/-- The mode in which a redundancy set runs (R149, R150). -/
def State.redMode (s : State) (n : Nat) : Nat :=
  let m := (s.redRaw n).1
  if 5 ≤ m ∨ s.redBad n then 0 else m
/-- The members of an aggregate make it run as empty (R144). -/
def State.lagBad (s : State) (a : Nat) : Bool :=
  let ps := (List.range 48).filter (fun p => (s.lagMembersRaw a).testBit p)
  ps.any (fun p =>
    ((List.range 16).filter (· != a)).any (fun b => (s.lagMembersRaw b).testBit p) ||
    (List.range 4).any (fun n => (s.redPortsRaw n).contains p) ||
    s.fld (R.PRT_MODE p) 3 0 != s.fld (R.PRT_MODE (ps.headD p)) 3 0)
def State.lagMembers (s : State) (a : Nat) : Nat := if s.lagBad a then 0 else s.lagMembersRaw a
/-- SWC_STATUS.RED_ERR and LAG_ERR follow the tables (R144, R149). -/
def State.swcFlags (s : State) : State :=
  (s.setB R.SWC_STATUS 1 ((List.range 4).any (fun n => s.redBad n))).setB R.SWC_STATUS 2
    ((List.range 16).any (fun a => s.lagBad a))
/-- A member is in service: its UP bit is 1 and its link is up (R144). -/
def State.lagInService (s : State) (a p : Nat) : Bool :=
  (s.lagMembers a).testBit p && s.portUp p &&
    (if p < 32 then s.bit (R.SWC_LAG_UP_LO a) p else s.bit (R.SWC_LAG_UP_HI a) (p - 32))
/-- The member that bucket `i` of an aggregate names, and the member that serves it (R144). -/
def State.lagNamed (s : State) (a i : Nat) : Nat := s.fld (R.SWC_LAG_BUCKET a (i / 4)) (8 * (i % 4) + 5) (8 * (i % 4))
def State.lagPort (s : State) (a i : Nat) : Option Nat :=
  let n := s.lagNamed a i
  ((List.range 48).map (fun d => if n < 48 then (n + d) % 48 else d)).find? (fun p => s.lagInService a p)
/-- The serving ports of every bucket of every aggregate. -/
def State.lagMap (s : State) : List (Option Nat) :=
  (List.range 16).flatMap (fun a => if s.lagMembers a = 0 then [] else (List.range 64).map (fun i => s.lagPort a i))
/-- LAG_FAILOVER: set when a change of service moves a bucket (R144). -/
def State.lagCheck (before s : State) : State :=
  s.onIf (before.lagMap != s.lagMap) (fun s => s.setB R.SWC_EVENTS 3 true)

/-! ### Tags of redundancy sets (R150, R151) -/

/-- The size field of an RCT or HSR tag: bytes after the 802.1Q tag's or the address fields' EtherType position (log). -/
def lsduSize (b : Bytes) (extra : Nat) : Nat := (b.length - 14 - (if frTagged b then 4 else 0) + extra) % 4096
/-- A frame (without FCS) with an RCT appended. -/
def addRct (b : Bytes) (seq lan : Nat) : Bytes :=
  b ++ beBytes 2 seq ++ beBytes 2 (lan * 4096 + lsduSize b 6) ++ beBytes 2 0x88FB
/-- Sequence number and LanId of a valid RCT at the end of a frame without FCS. -/
def readRct (b : Bytes) : Option (Nat × Nat) :=
  let t := b.drop (b.length - 6)
  if 20 ≤ b.length ∧ be16 t 4 = 0x88FB ∧ be16 t 2 % 4096 = lsduSize b 0 then some (be16 t 0, be16 t 2 / 4096) else none
def delRct (b : Bytes) : Bytes := b.take (b.length - 6)
/-- A frame (without FCS) with an HSR tag after the 802.1Q tag or the source address. -/
def addHsr (b : Bytes) (seq path : Nat) : Bytes :=
  let o := frEtOff b
  b.take o ++ beBytes 2 0x892F ++ beBytes 2 (path * 4096 + lsduSize b 6) ++ beBytes 2 seq ++ b.drop o
/-- Sequence number of an HSR-tagged frame. -/
def readHsr (b : Bytes) : Option Nat := if frEt b = 0x892F then some (be16 b (frEtOff b + 4)) else none
def delHsr (b : Bytes) : Bytes := b.take (frEtOff b) ++ b.drop (frEtOff b + 6)
/-- The redundancy set that has a port as PORT_A or PORT_B. -/
def State.redOfPort (s : State) (p : Nat) : Option Nat :=
  (List.range 4).find? (fun n => s.redMode n != 0 && ((s.redRaw n).2.1 == p || (s.redRaw n).2.2.1 == p))
/-- The duplicate-discard entry of a set (R151). -/
def State.dupFind (s : State) (n src seq : Nat) : Option DupEntry :=
  s.net.dups.find? (fun d => d.set == n && d.src == src && d.seq == seq)
/-- An arrival is entered; a full table evicts its oldest entry (R151). True when it is the first. -/
def State.dupArrive (s : State) (n src seq p : Nat) : Bool × State :=
  match s.dupFind n src seq with
  | some _ =>
    let upd := s.net.dups.map (fun d =>
      if d.set = n ∧ d.src = src ∧ d.seq = seq then { d with arrived := p :: d.arrived } else d)
    (false, ({ s with net := { s.net with dups := upd } }).addSat (R.SWC_RED_DUP n) 1)
  | none =>
    let mine := s.net.dups.filter (fun d => d.set == n)
    let s := if 8192 ≤ mine.length then
        match mine.head? with
        | some o => ({ s with net := { s.net with dups := s.net.dups.erase o } }).addSat (R.SWC_RED_EVICT n) 1
        | none => s
      else s
    (true, { s with net := { s.net with dups := s.net.dups ++ [⟨n, src, seq, [p], [], s.now⟩] } })
/-- The forwarding of a frame to a ring port is recorded; true when it had not been forwarded there (R150). -/
def State.dupForward (s : State) (n src seq p : Nat) : Bool × State :=
  match s.dupFind n src seq with
  | none => (true, s)
  | some d =>
    if d.sent.contains p then (false, s)
    else (true, { s with net := { s.net with dups := s.net.dups.map (fun e =>
      if e.set = n ∧ e.src = src ∧ e.seq = seq then { e with sent := p :: e.sent } else e) } })
/-- An address of this module (R89). -/
def State.ownAddr (s : State) (a : Nat) : Bool :=
  let base := s.rd R.IDN_MAC_BASE_LO + two32 * s.fld R.IDN_MAC_BASE_HI 15 0
  decide (base ≤ a) && decide (a < base + 64)
/-- IDN_MAC_BASE + n (R89). -/
def State.macAddr (s : State) (n : Nat) : Nat := s.rd R.IDN_MAC_BASE_LO + two32 * s.fld R.IDN_MAC_BASE_HI 15 0 + n

/-! ### Timestamps (R167, R169) -/

/-- Fields of a time V in 2^-32 ns shifted by an amount in 2^-16 ns. -/
def timeOf (V : Int) (shift : Int) : Nat × Nat × Nat :=
  let w := V / 65536 + shift
  let ns := w / 65536
  ((ns % 1000000000).toNat, (ns / 1000000000 % 281474976710656).toNat, (w % 65536).toNat)
/-- The ingress timestamp of a port at this clock (R167). -/
def State.tsIn (s : State) (p : Nat) : Nat × Nat × Nat :=
  let v := s.fld (R.PRT_TS_CFG p) 2 0
  if s.bit (R.CV_BIND v) 4 then timeOf (s.viewV v) (-(s.rd (R.PRT_TS_ILAT p) : Int)) else (0, 0, 0)
/-- The egress timestamp of a port at this clock (R167). -/
def State.tsOut (s : State) (p : Nat) : Nat × Nat × Nat :=
  let v := s.fld (R.PRT_TS_CFG p) 2 0
  if s.bit (R.CV_BIND v) 4 then timeOf (s.viewV v) (s.rd (R.PRT_TS_ELAT p) : Int) else (0, 0, 0)
/-- The 12 bytes of a timestamp in a descriptor or mirror entry (R12). -/
def tsBytes (t : Nat × Nat × Nat) : Bytes := leBytes 4 t.1 ++ leBytes 6 t.2.1 ++ [0#8, 0#8]
/-- The transparent clock's time base in 2^-16 ns (R169). -/
def State.tcRaw (s : State) : Nat := nth s.tmu.acc (s.fld R.TMU_TC_CFG 5 4) 0 / 65536

/-! ### Mirroring (R154) -/

/-- The timestamp of a capture: the MAC's ingress or egress timestamp in the view SWC_MIR_CTRL.CV; P48 to P50 have no MAC, and
what their entries hold no rule says (log entry 4). -/
def State.mirTime (s : State) (x dir : Nat) : (Nat × Nat × Nat) × State :=
  let v := s.fld R.SWC_MIR_CTRL 3 1
  if 48 ≤ x then
    let f := fun (i : Nat) => Config.free (s.freeCtr + i)
    ((f 0 % 1000000000, f 1 % 281474976710656, 0), { s with freeCtr := s.freeCtr + 2 })
  else if s.bit (R.CV_BIND v) 4 then
    (timeOf (s.viewV v) (if dir = 0 then -(s.rd (R.PRT_TS_ILAT x) : Int) else (s.rd (R.PRT_TS_ELAT x) : Int)), s)
  else ((0, 0, 0), s)
/-- A received frame (`dir` 0) or sent copy (`dir` 1) of a mirrored port; one in SAMPLE + 1 is captured. -/
def State.mirror1 (s : State) (x dir : Nat) (b : Bytes) (len : Nat) (bad ct trunc : Bool) (cls vid : Nat) : State :=
  let m := s.rd (R.SWC_P_MIRROR x)
  if !m.testBit dir || !s.bit R.SWC_MIR_CTRL 0 then s
  else
    let n := mapGet s.net.mirCnt (2 * x + dir) 0
    let s := { s with net := { s.net with mirCnt := mapPut s.net.mirCnt (2 * x + dir) (if n < bitsOf m 15 8 then n + 1 else 0) } }
    if n ≠ 0 then s
    else
      let size := 2 ^ s.fld R.SWC_MIR_SIZE 3 0
      let h := s.fld R.SWC_MIR_HEAD 14 0
      if (h + 1) % size = s.fld R.SWC_MIR_TAIL 14 0 then
        let s := (s.addSat R.SWC_MIR_DROPS 1).onIf s.net.mirFresh (fun s => s.setB R.SWC_EVENTS 2 true)
        { s with net := { s.net with mirFresh := false } }
      else
        let flags := dir + 2 * b2n bad + 4 * b2n ct + 8 * b2n trunc + 16 * cls
        let (ts, s) := s.mirTime x dir
        let e := tsBytes ts ++ leBytes 1 x ++ leBytes 1 flags ++ leBytes 2 len ++ leBytes 2 (min len 128) ++
          leBytes 2 vid ++ leBytes 4 s.net.mirSeq ++ leBytes 8 0 ++ padTo 128 (b.take 128)
        match s.dmaWrite 0 (s.rd64 R.SWC_MIR_BASE_LO + 160 * h) e with
        | (false, s) => (s.setB R.SWC_MIR_CTRL 8 true).setB R.SWC_MIR_CTRL 0 false
        | (true, s) =>
          let s := { s with net := { s.net with mirSeq := (s.net.mirSeq + 1) % two32, mirFresh := true } }
          s.wr R.SWC_MIR_HEAD ((h + 1) % size)

/-! ### Classification of a frame (R141) -/

/-- VID and class of a frame that enters at a port. `cls` is the class its template or descriptor names, for P48 and P49. -/
def State.vidClass (s : State) (x : Nat) (b : Bytes) (cls : Option Nat) : Nat × Nat :=
  let tci := be16 b 14
  let vid := if frTagged b && tci % 4096 != 0 then tci % 4096 else s.fld (R.SWC_P_CFG x) 11 0
  let c := match cls with
    | some c => c
    | none => if frTagged b then s.fld R.SWC_PCP_MAP (3 * (tci / 8192) + 2) (3 * (tci / 8192)) else s.fld (R.SWC_P_CFG x) 14 12
  (vid, c)
/-- Step 1 of R141 lets a frame of a VID in at a port. -/
def State.vlanTakes (s : State) (x vid : Nat) : Bool := s.vlanValid vid && (s.vlanMembers vid).testBit x
/-- VID and class of a frame that enters at a port; none when it is dropped at step 1. -/
def State.classify (s : State) (x : Nat) (b : Bytes) (cls : Option Nat) : Option (Nat × Nat) :=
  let c := s.vidClass x b cls
  if s.vlanTakes x c.1 then some c else none
/-- A destination of a frame: port and, at P48 or P49, a VI. -/
abbrev Dest := Nat × Option Nat
/-- The ports of a set, in rising order. -/
def portsOf (m : Nat) : List Nat := (List.range 51).filter (fun p => m.testBit p)
/-- Steps 4 and 5 of R141: the destinations that the FDB names, masked with the VLAN and without the ingress port. -/
def State.lookup (s : State) (x : Nat) (b : Bytes) (vid : Nat) : List Dest :=
  let d := frDst b
  let mem := s.vlanMembers vid
  let raw : List Dest := match s.fdbFind d vid with
    | some e =>
      if s.bit (R.SWC_FDB1 e) 30 then
        let g := s.fld (R.SWC_FDB2 e) 11 0
        (portsOf (s.portSet (R.SWC_GROUP_LO g) (R.SWC_GROUP_HI g))).map (fun p =>
          (p, if p = 48 then some (s.fld (R.SWC_GROUP_VI g) 11 0)
              else if p = 49 then some (s.fld (R.SWC_GROUP_VI g) 27 16) else none))
      else
        let p := s.fld (R.SWC_FDB2 e) 5 0
        [(p, if p = 48 ∨ p = 49 then some (s.fld (R.SWC_FDB2 e) 27 16) else none)]
    | none =>
      if s.bit (R.SWC_VLAN_UNTAG_HI vid) (if isGroupAddr d then 26 else 25) then (portsOf mem).map (fun p => (p, none)) else []
  let lagOf := (List.range 16).filter (fun a => (s.lagMembers a).testBit x)
  raw.filter (fun t => t.1 != x && mem.testBit t.1 && !lagOf.any (fun a => (s.lagMembers a).testBit t.1))
/-- Step 6 of R141: each aggregate in the set is replaced by one member; an aggregate with no member in service refuses
its copy, counted against the named port. -/
def State.aggregate (s : State) (b : Bytes) (cls : Nat) (ds : List Dest) : List Dest × State :=
  (List.range 16).foldl (fun (st : List Dest × State) a =>
    let mem := st.2.lagMembers a
    if st.1.any (fun d => mem.testBit d.1) then
      let rest := st.1.filter (fun d => !mem.testBit d.1)
      let bucket := st.2.flowHash b % 64
      match st.2.lagPort a bucket with
      | some p => (rest ++ [(p, none)], st.2)
      | none => (rest, st.2.addSat (R.SWC_P_QDROP (st.2.lagNamed a bucket) cls) 1)
    else st) (ds, s)
/-- A copy's bytes leave untagged at ports of the VLAN's UNTAG set, tagged elsewhere (step 8 of R141); without FCS. -/
def State.retag (s : State) (x : Nat) (b : Bytes) (vid cls : Nat) : Bytes :=
  if (s.vlanUntag vid).testBit x then (if frTagged b then b.take 12 ++ b.drop 16 else b)
  else if frTagged b then
    (if be16 b 14 % 4096 = 0 then b.take 14 ++ beBytes 2 (be16 b 14 / 4096 * 4096 + vid) ++ b.drop 16 else b)
  else b.take 12 ++ beBytes 2 0x8100 ++ beBytes 2 (cls * 8192 + vid) ++ b.drop 12

/-! ### The way of a whole frame through R141 and R149 to R151 -/

/-- What a copy is to be: destination, bytes without FCS. -/
structure Plan where
  x : Nat
  vi : Option Nat
  bytes : Bytes
deriving DecidableEq, Repr
/-- Steps 7 and 8 of R141: the copies of a frame for its destinations, each tagged for its port; a redundancy set to one of
whose ports a source sends takes one copy for each of its ports, with the same sequence number (R149). -/
def State.redSend (s : State) (src : Nat) (llocal : Bool) (b : Bytes) (vid cls : Nat) (ds : List Dest) : List Plan × State :=
  let plan := fun (s : State) (d : Dest) => Plan.mk d.1 d.2 (s.retag d.1 b vid cls)
  (List.range 4).foldl (fun (st : List Plan × State) n =>
    let s := st.2
    let m := s.redMode n
    let (_, a, bq, il) := s.redRaw n
    let isSource := src == 48 || src == 49 || ((m == 3 || m == 4) && src == il)
    if m = 0 ∨ llocal ∨ !isSource ∨ !st.1.any (fun p => p.x == a || p.x == bq) then st
    else
      let seq := s.fld (R.SWC_RED_SEQ n) 15 0
      let mk := fun (port lan : Nat) =>
        let q := s.retag port b vid cls
        Plan.mk port none (if m = 1 ∨ m = 3 then addRct q seq (0xA + lan) else addHsr q seq lan)
      ((st.1.filter (fun q => q.x != a && q.x != bq)) ++ [mk a 0, mk bq 1],
       s.wr (R.SWC_RED_SEQ n) ((seq + 1) % 65536))) (ds.map (plan s), s)
/-- A ring frame whose source is this node, or in mode 4 lies behind INTERLINK (Table 06-3). -/
def State.hsrOwn (s : State) (n : Nat) (b : Bytes) (vid : Nat) : Bool :=
  s.ownAddr (frSrc b) || (s.redMode n == 4 && (match s.fdbFind (frSrc b) vid with
    | some e => !s.bit (R.SWC_FDB1 e) 29 && !s.bit (R.SWC_FDB1 e) 30 && s.fld (R.SWC_FDB2 e) 5 0 == (s.redRaw n).2.2.2
    | none => false))
/-- A ring frame that is unicast to this node (R150). -/
def State.hsrHere (s : State) (n : Nat) (b : Bytes) (vid : Nat) : Bool :=
  !isGroupAddr (frDst b) && (match s.fdbFind (frDst b) vid with
    | some e => !s.bit (R.SWC_FDB1 e) 30 && (s.fld (R.SWC_FDB2 e) 5 0 == 48 || s.fld (R.SWC_FDB2 e) 5 0 == 49 ||
        (s.redMode n == 4 && s.fld (R.SWC_FDB2 e) 5 0 == (s.redRaw n).2.2.2))
    | none => false)
/-- The other port of a ring. -/
def State.redOther (s : State) (n p : Nat) : Nat := if p = (s.redRaw n).2.1 then (s.redRaw n).2.2.1 else (s.redRaw n).2.1
/-- Reception on a ring or PRP port: what is delivered (without the tag), if anything, and where else the tagged frame
goes unchanged (R150). -/
def State.redReceive (s : State) (p : Nat) (b : Bytes) (vid : Nat) : Option Bytes × List Nat × State :=
  match s.redOfPort p with
  | none => (some b, [], s)
  | some n =>
    let m := s.redMode n
    if m = 1 ∨ m = 3 then
      match readRct b with
      | none => (some b, [], s)
      | some (seq, lan) =>
        let s := s.onIf (lan != (if p = (s.redRaw n).2.1 then 0xA else 0xB)) (fun s => s.addSat (R.SWC_RED_WRONG_LAN n) 1)
        match s.dupArrive n (frSrc b) seq p with
        | (true, s) => (some (delRct b), [], s)
        | (false, s) => (none, [], s)
    else
      match readHsr b with
      | none => (none, [], s.addSat (R.SWC_RED_WRONG_LAN n) 1)
      | some seq =>
        if s.hsrOwn n b vid then (none, [], s.addSat (R.SWC_RED_OWN n) 1)
        else
          let (first, s) := s.dupArrive n (frSrc b) seq p
          let (fresh, s) := if s.hsrHere n b vid then (false, s) else s.dupForward n (frSrc b) seq (s.redOther n p)
          (if first then some (delHsr b) else none, if fresh then [s.redOther n p] else [], s)
/-- Whether a copy is cut-through: the conditions of R121. -/
def State.cutThrough (s : State) (i e cls : Nat) : Bool :=
  decide (i < 48) && decide (e < 48) && s.bit (R.PRT_FWD i) cls && s.bit (R.PRT_FWD e) cls &&
  decide (s.portSpeed e ≤ s.portSpeed i) && decide (s.maxLen i ≤ s.maxLen e) &&
  decide (s.fld (R.PRT_CT_THRESH e) 2 0 < 6) && (s.queue e cls).isEmpty
/-- The VI and generation tag that a copy carries (R95). -/
def State.viTag (s : State) (vi : Option Nat) : Option (Nat × Nat) := vi.map (fun n => (n, s.viGen n))
/-- A frame is put into the shared buffer with one reference, for its reception (R135). -/
def State.newFrame (s : State) (b : Bytes) (len src cls vid cells : Nat) (vi : Option (Nat × Nat)) : Nat × State :=
  let id := s.net.nextId
  let f : Frm := { id := id, bytes := b, len := len, src := src, cls := cls, vid := vid, time := s.now,
                   ts := if src < 48 then s.tsIn src else (0, 0, 0)
                   raw := (s.tcRaw : Int) - (if src < 48 then s.rd (R.PRT_TS_ILAT src) else 0 : Nat), cells := cells, ref := 1, vi := vi }
  let s := { s with net := { s.net with nextId := id + 1, frames := s.net.frames ++ [f] } }
  (id, s.setFree (s.rd R.SWC_FREE - cells))
/-- A copy made from a plan for a frame in the buffer; a copy from P48 or P49 is padded to 64 bytes, its FCS included (R125). -/
def State.mkCopy (s : State) (fid cells cls : Nat) (p : Plan) (src : Nat) : Copy :=
  let ct := s.cutThrough src p.x cls
  { fid := fid, x := p.x, cls := cls, ct := ct, charge := if ct then cellsFor (s.maxLen src) else cells,
    bytes := withFcs (if src = 48 ∨ src = 49 then padTo 60 p.bytes else p.bytes), stomp := false, vi := s.viTag p.vi, held := 0 }
/-- The charge of an admitted cut-through copy is replaced by the frame's cells when reception ends (R137). -/
def State.settleCt (s : State) (fid cells : Nat) : State :=
  let cts := s.net.copies.filter (fun c => c.fid == fid && c.ct)
  let s := cts.foldl (fun s c => (s.chargeOut c.x c.cls c.charge).chargeIn c.x c.cls cells) s
  { s with net := { s.net with copies := s.net.copies.map (fun c => if c.fid = fid ∧ c.ct then { c with charge := cells } else c) } }
/-- The trap of R142 for a link-local frame: to P49, for the VI of SWC_TRAP_VI, while its EN bit is 1. -/
def State.trapPlan (s : State) (b : Bytes) : List Plan :=
  if s.bit R.SWC_TRAP_VI 31 then [⟨49, some (s.fld R.SWC_TRAP_VI 11 0), b⟩] else []
/-- The way of a link-local frame: software's own, from a host ring, leaves at the single other port of its VLAN; every other
one is trapped (R142, log entry 25). -/
def State.linkLocalPlan (s : State) (x : Nat) (b : Bytes) (vid cls : Nat) : List Plan :=
  if x = 49 then
    match (portsOf (s.vlanMembers vid)).filter (· != 49) with
    | [p] => [⟨p, none, s.retag p b vid cls⟩]
    | _ => []
  else s.trapPlan b
/-- A supervision frame of IEC 62439-3: 01-15-4E-00-01-xx (R152). -/
def isSupervision (a : Nat) : Bool := a / 256 == 0x01154E0001
/-- The plans of a classified frame: trap, lookup, aggregates, redundancy, tagging (R141 to R152). Bytes without FCS. -/
def State.plans (s : State) (x : Nat) (b : Bytes) (vid cls : Nat) : List Plan × State :=
  if isLinkLocal (frDst b) then (s.linkLocalPlan x b vid cls, s)
  else
    let (del, fwd, s) := if x < 48 then s.redReceive x b vid else (some b, [], s)
    let ring := fwd.map (fun p => Plan.mk p none b)
    match del, s.redOfPort x with
    | none, _ => (ring, s)
    | some b', some n =>
      if isSupervision (frDst b') then (s.trapPlan b' ++ ring, s)
      else
        let ds := (s.lookup x b' vid).filter (fun d => d.1 != (s.redRaw n).2.1 && d.1 != (s.redRaw n).2.2.1)
        let (ds, s) := s.aggregate b' cls ds
        let (ps, s) := s.redSend x false b' vid cls ds
        (ps ++ ring, s)
    | some b', none =>
      let (ds, s) := s.aggregate b' cls (s.lookup x b' vid)
      s.redSend x false b' vid cls ds
/-- The threshold T of an egress port (R122). -/
def State.ctT (s : State) (e : Nat) : Nat := 64 * 2 ^ s.fld (R.PRT_CT_THRESH e) 2 0
/-- A cut-through copy may start: T bytes of the frame are stored, or the whole frame if it is shorter (R122). -/
def State.ctStored (s : State) (e stored len : Nat) : Bool := decide (s.ctT e ≤ stored) || (decide (len < s.ctT e) && stored == len)
/-- The copies of a frame that proves bad, too long or without a cell: only those that its first bytes make cut-through, after
`stored` bytes of `len`; `keep` bytes of it leave. A set's port starts one only to the other port of a ring (R124, R136,
Table 06-3). -/
def State.badPlans (s : State) (x : Nat) (b : Bytes) (vid cls stored keep : Nat) : List Plan × State :=
  let d := b.take keep
  let may := fun (s : State) (q : Plan) => s.cutThrough x q.x cls && s.ctStored q.x stored b.length
  if isLinkLocal (frDst b) then ([], s)
  else match s.redOfPort x with
  | some n =>
    match (if s.redMode n = 2 ∨ s.redMode n = 4 then readHsr b else none) with
    | none => ([], s)
    | some seq =>
      let o := s.redOther n x
      let gone := match s.dupFind n (frSrc b) seq with | some e => e.sent.contains o | none => false
      if s.hsrOwn n b vid || s.hsrHere n b vid || gone then ([], s) else ([Plan.mk o none d].filter (may s), s)
  | none =>
    let ds := (s.aggregate b cls (s.lookup x b vid)).1
    let (ps, s') := s.redSend x false d vid cls ds
    let ps := ps.filter (may s)
    (ps, if ps.any (fun q => (s.redOfPort q.x).isSome) then s' else s)
/-- A frame that enters whole at P48, P49 or P50 (store-and-forward): classified, stored, its copies admitted, its source
learned, its reception ended. `b` is without FCS; `ports` is the port set of a bypass frame, in place of steps 3 to 6 (R249).
The answer names the frame in the buffer, if it was stored whole. -/
def State.enter (s : State) (x : Nat) (b : Bytes) (cls : Option Nat) (ports : Option (List Nat)) (vi : Option Nat) : Option Nat × State :=
  let b := padTo 60 b
  let len := b.length + 4
  let cells := cellsFor len
  let tag := s.viTag vi
  if !s.polderFits tag cells then (none, s.polderRefuse tag)
  else
    let (vid, c) := s.vidClass x b cls
    let have_ := min (s.cellsAvail c) cells
    let trunc := decide (have_ < cells)
    let s := s.mirror1 x 0 (withFcs b) len false false trunc c vid
    let s := s.onIf trunc (fun s => (s.addSat R.SWC_NOBUF_TRUNC 1).setB R.SWC_EVENTS 1 true)
    let (id, s) := s.newFrame ((withFcs b).take (128 * have_)) len x c vid have_ tag
    if !s.vlanTakes x vid then (none, (s.addSat (R.SWC_P_VLAN_DROP x) 1).decRef id)
    else if trunc then (none, s.decRef id)
    else
      let (ps, s) := match ports with
        | some l => s.redSend x (isLinkLocal (frDst b)) b vid c (l.map (fun p => (p, none)))
        | none => s.plans x b vid c
      let s := ps.foldl (fun s p => s.copyAdmit (s.mkCopy id cells c p x)) s
      (some id, (s.fdbLearn x (frSrc b) vid vi).decRef id)

/-! ### Transmission -/

/-- Offset of the PTP header in a frame, its UDP port (none over Ethernet), and whether it travels over IPv6 (R153). -/
def ptpOff (b : Bytes) : Option (Nat × Option Nat × Bool) :=
  let e := frEtOff b
  let et := be16 b e
  if et = 0x88F7 then some (e + 2, none, false)
  else if et = 0x0800 then
    let ihl := bitsOf (beNat (sliceB b (e + 2) 1)) 3 0 * 4
    if beNat (sliceB b (e + 11) 1) = 17 then some (e + 2 + ihl + 8, some (be16 b (e + 2 + ihl + 2)), false) else none
  else if et = 0x86DD then
    if beNat (sliceB b (e + 8) 1) = 17 then some (e + 50, some (be16 b (e + 44)), true) else none
  else none
/-- The UDP port that carries a message: 319 for Sync and Delay_Req (R153), 320 for Follow_Up, a general message of IEEE 1588
(PRESUMED, log entry 26). -/
def ptpPort (typ : Nat) : Nat := if typ = 8 then 320 else 319
/-- Bytes at an offset are replaced. -/
def splice (b : Bytes) (o : Nat) (n : Bytes) : Bytes := b.take o ++ n ++ b.drop (o + n.length)
/-- The ones' complement sum of 16-bit words. -/
def onesSum (l : Bytes) : Nat :=
  match l with
  | a :: b :: t => (let x := onesSum t + beNat [a, b]; if 65535 < x then x - 65535 else x)
  | [a] => a.toNat * 256
  | [] => 0
/-- correctionField grows by a correction in 2^-16 ns, saturating (R169); the UDP checksum follows (R153). -/
def addCorrection (b : Bytes) (o : Nat) (udp v6 : Bool) (corr : Int) : Bytes :=
  let old := sgnW 64 (beNat (sliceB b (o + 8) 8))
  let new := if old = 0x7FFFFFFFFFFFFFFF then old else min 0x7FFFFFFFFFFFFFFF (old + corr)
  let nb := beBytes 8 (unsgnW 64 new)
  let b' := splice b (o + 8) nb
  if udp && !v6 then splice b' (o - 2) [0#8, 0#8]
  else if udp then
    let tail := o - 8 + be16 b (o - 4) - 2
    let delta := onesSum (sliceB b (o + 8) 8) + 65535 - onesSum nb
    let t := be16 b' tail + delta
    splice b' tail (beBytes 2 (if t % 65535 = 0 then 65535 else t % 65535))
  else b'
/-- The correction of a message of a type, from its residence, the egress timestamp minus the ingress timestamp (R167, R169); none where it is forwarded unchanged. -/
def State.tcCorr (s : State) (f : Frm) (out typ : Nat) : Option Int :=
  let mode := s.fld R.TMU_TC_CFG 1 0
  let res := (s.tcRaw : Int) + s.rd (R.PRT_TS_ELAT out) - f.raw
  let asym := fun p => sgn32 (s.rd (R.PRT_TS_ASYM p))
  if typ = 0 then
    if mode = 1 then some (res + asym f.src)
    else if mode = 2 then some (res + s.rd (R.PRT_TC_LINKDELAY f.src) + asym f.src) else none
  else if typ = 1 ∧ mode = 1 then some (res - asym out)
  else none
/-- The transparent clock on a copy that begins transmission: its bytes, corrected (R153). -/
def State.tcApply (s : State) (f : Frm) (c : Copy) : Bytes × State :=
  if !(decide (f.src < 48) && decide (c.x < 48) && s.bit (R.SWC_P_CFG f.src) 17 && s.bit (R.SWC_P_CFG c.x) 17) then (c.bytes, s)
  else
    let b := noFcs c.bytes
    match ptpOff b with
    | none => (c.bytes, s)
    | some (o, port, v6) =>
      let typ := beNat (sliceB b o 1) % 16
      let seqId := be16 b (o + 30)
      let srcId := sliceB b (o + 20) 10
      let udp := port.isSome
      if udp && port != some (ptpPort typ) then (c.bytes, s)
      else if typ = 8 then
        match s.net.tc.find? (fun t => t.port == c.x && t.seqId == seqId && t.srcId == srcId) with
        | none => (c.bytes, s)
        | some t =>
          (withFcs (addCorrection b o udp v6 t.corr), { s with net := { s.net with tc := s.net.tc.erase t } })
      else match s.tcCorr f c.x typ with
        | none => (c.bytes, s)
        | some corr =>
          if typ = 0 ∧ (beNat (sliceB b (o + 6) 1)).testBit 1 then
            if 64 ≤ (s.net.tc.filter (fun t => t.port == c.x)).length then
              (c.bytes, (s.addSat (R.SWC_P_TC_MISS c.x) 1).setB R.SWC_EVENTS 5 true)
            else (c.bytes, { s with net := { s.net with tc := s.net.tc ++ [⟨c.x, seqId, srcId, corr⟩] } })
          else (withFcs (addCorrection b o udp v6 corr), s)
/-- The bytes of a copy leave: on the wire of a port, or on the lane of the mate link that its flow takes (R145). -/
def State.wireOut (s : State) (c : Copy) (b : Bytes) : State :=
  if c.x < 48 then s.emit (.frame c.x b)
  else if c.x = 50 then s.emit (.mateFrame (s.flowLane (noFcs b)) b)
  else s
/-- A copy begins transmission at a port: its first cell crosses if none has, counters, timestamp, transparent clock, mirror
(R129, R140, R154). A store-and-forward copy is put on the wire here; what leaves of a cut-through copy is known when it ends. -/
def State.beginTx (s : State) (c : Copy) : State :=
  let s := s.takeCopy c
  match s.frameOf c.fid with
  | none => s
  | some f =>
    let (b, s) := s.tcApply f c
    let b := if c.stomp then withStomp (noFcs c.bytes) else b
    let s := s.onIf (c.held == 0) (fun s => s.creditTake c.x)
    let c := { c with bytes := b, held := max 1 c.held, txAt := s.now }
    let s := { s with net := { s.net with tx := mapPut s.net.tx c.x c } }
    let s := s.onIf (c.ct && decide (c.x < 48)) (fun s => s.portCnt c.x 43 1)
    let s := s.mirror1 c.x 1 b b.length c.stomp c.ct false c.cls f.vid
    let others := (s.net.copies.filter (fun q => q.fid == c.fid)).map (·.x) ++ (s.net.tx.filter (fun q => q.2.fid == c.fid)).map (·.1)
    let s := if decide (c.x < 48) && others.all (fun x => decide (c.x ≤ x)) then
        { s with host := { s.host with rings := s.host.rings.map (fun r =>
          (r.1, { r.2 with txWb := r.2.txWb.map (fun t =>
            if t.frame = some c.fid ∧ t.ts = none then { t with ts := some (s.tsOut c.x) } else t) })) } }
      else s
    if c.ct then s else s.wireOut c b
/-- The transmit counters of a copy put whole on the wire (R129). -/
def State.txCount (s : State) (c : Copy) : State :=
  if 48 ≤ c.x then s
  else
    let l := c.bytes.length
    let s := s.portCnt c.x (36 + sizeBin l) 1
    if c.stomp then (s.portCnt c.x 45 1).emit (.stomped c.x)
    else (s.portCnt c.x 32 l).portCnt c.x (33 + addrKind (frDst c.bytes)) 1
/-- The generation tag a transfer carries is its VI's current one (R95). -/
def State.genFresh (s : State) (v : Option (Nat × Nat)) : Bool :=
  match v with
  | none => true
  | some (n, g) => s.viGen n == g
/-- Transfers discarded for an old tag are counted (R95). -/
def State.genDiscard (s : State) (n : Nat) : State :=
  if n = 0 then s else (s.addSat R.VIR_GEN_DISCARDS n).setB R.VIR_EVENTS 3 true
/-- The age limit of a class in us, as used (R147): none where it is 0. -/
def State.ageLimit (s : State) (c : Nat) : Option Nat :=
  let l := s.fld (R.SWC_AGE_LIMIT c) 19 0
  if l = 0 then none else some (max 16 (min 1000000 l))
/-- A copy at the head of its queue is older than its class allows (R147). -/
def State.tooOld (s : State) (c : Copy) : Bool :=
  match s.ageLimit c.cls, s.frameOf c.fid with
  | some l, some f => decide (l < (s.now - f.time) / 1000)
  | _, _ => false
/-- The bytes stored of a cut-through copy's frame let it start (R122); one that never can ends unsent (R136). -/
def State.ctFits (s : State) (c : Copy) : Bool :=
  match s.frameOf c.fid with | some f => s.ctStored c.x f.bytes.length f.len | none => false
/-- The head of a queue after the copies that may not be sent have been discarded: old tag, age, length, and of a redundancy
set's port also a cut-through copy too long (R95, R125, R147, R149). -/
def State.cleanHead (s : State) (x c : Nat) : Nat → State
  | 0 => s
  | n + 1 =>
    match (s.queue x c).head? with
    | none => s
    | some q =>
      let src := match s.frameOf q.fid with | some f => f.vi | none => none
      if !s.genFresh q.vi || !s.genFresh src then ((s.takeCopy q).endCopy q |>.genDiscard 1).cleanHead x c n
      else if s.tooOld q then (((s.takeCopy q).endCopy q).addSat (R.SWC_P_AGEDROP x c) 1).cleanHead x c n
      else if x < 48 ∧ (!q.ct || (s.redOfPort x).isSome) ∧ s.maxLen x < q.bytes.length then
        (((s.takeCopy q).endCopy q).portCnt x 47 1).cleanHead x c n
      else if q.ct && !s.ctFits q then ((s.takeCopy q).endCopy q).cleanHead x c n
      else s

/-! ### The egress scheduler (R146) -/

def State.spFrom (s : State) (x : Nat) : Nat := s.fld (R.SWC_P_SCHED x) 2 0
/-- The weight of a class, 0 used as 1. -/
def State.wrr (s : State) (x c : Nat) : Nat := max 1 (s.fld (R.SWC_P_WRR x (c / 4)) (8 * (c % 4) + 7) (8 * (c % 4)))
/-- Byte-deficit weighted round robin over the classes below SP_FROM; `head` is the eligible copy of a class. -/
def State.drr (s : State) (x : Nat) (head : Nat → Option Copy) : Nat → Option Copy × State
  | 0 => (none, s)
  | n + 1 =>
    let from_ := s.spFrom x
    let c := mapGet s.net.wrrAt x 0 % max 1 from_
    let d := mapGet s.net.deficit (8 * x + c) 0
    let nx := (c + 1) % max 1 from_
    let dn := mapGet s.net.deficit (8 * x + nx) 0 + 128 * s.wrr x nx
    match head c with
    | some q =>
      if q.bytes.length ≤ d then
        (some q, { s with net := { s.net with deficit := mapPut s.net.deficit (8 * x + c) (d - q.bytes.length) } })
      else
        ({ s with net := { s.net with wrrAt := mapPut s.net.wrrAt x nx, deficit := mapPut s.net.deficit (8 * x + nx) dn } }).drr x head n
    | none =>
      ({ s with net := { s.net with wrrAt := mapPut s.net.wrrAt x nx,
                                    deficit := mapPut (mapPut s.net.deficit (8 * x + c) 0) (8 * x + nx) dn } }).drr x head n
/-- The scheduler's pick at a port among the eligible copies: the highest strict class, else the round robin (R146). -/
def State.pick (s : State) (x : Nat) (head : Nat → Option Copy) : Option Copy × State :=
  match ((List.range 8).reverse.filter (fun c => decide (s.spFrom x ≤ c) || c == 7)).findSome? head with
  | some q => (some q, s)
  | none => if (List.range (min 7 (s.spFrom x))).any (fun c => (head c).isSome) then s.drr x head 1200 else (none, s)
/-- The input store of ingest is full: it takes no further frame from P48, whose credits it withholds (R199). -/
def State.storeFull (s : State) : Bool := decide (Config.ingestStore ≤ (s.net.inbox.map (fun f => f.bytes.length)).sum)
/-- The port can begin a transmission: the module's transmitters work (R30, R48), its link is up (P0-P47), nothing is in
transmission, no LPI wait runs. -/
def State.canSend (s : State) (x : Nat) : Bool :=
  s.active && (s.net.tx.lookup x).isNone && !s.net.waking.any (fun w => w.1 == x) &&
    (x != 48 || !s.storeFull) && (decide (48 ≤ x) || (s.portUp x && !s.bit (R.PRT_STATUS x) 9))

end Sys2Proof.Machine
end

