-- ==== Sys2Proof/Machine/Reset.lean ====
section
/-! DEFINITION. Restoring the fields of registers (R11, Table 00-5). -/
namespace Sys2Proof.Machine

/-- One register after a reset: the fields whose kind and offset the reset reaches take their reset values. -/
def restoreWord (p : RKind → Nat → Bool) (k v : Nat) : Nat :=
  match rowAt k with
  | none => v
  | some r => r.flds.foldl (fun v f => if p f.kind k then putBits v f.hi f.lo f.rst else v) v
/-- A reset restores the fields it reaches and no others (R11). -/
def State.restore (s : State) (p : RKind → Nat → Bool) : State :=
  { s with regs := (cellCanon resetVal s.regs).map (fun e => (e.1, restoreWord p e.1 e.2)) }
/-- The kinds that nRESET restores (Table 00-5). -/
def nresetKinds (k : RKind) : Bool :=
  match k with
  | .n | .w | .l | .d | .v | .t | .f | .g | .e => true
  | .p | .x | .m => false
/-- The kinds that a warm image reset restores (Table 00-5). -/
def warmKinds (k : RKind) : Bool :=
  match k with
  | .w | .l | .d | .v | .t => true
  | _ => false
/-- A key of port `p`'s page, or its crossbar credits. -/
def isPortKey (p k : Nat) : Bool :=
  (decide (0x1000000 + p * 0x10000 ≤ k) && decide (k < 0x1000000 + (p + 1) * 0x10000)) || k == R.SWC_P_CREDITS p

end Sys2Proof.Machine
end

