-- ==== Sys2Proof/Machine/Host.lean ====
section
/-! DEFINITION. Virtual instances, host access and interrupts (04_instances_host_interrupts.md): reset requests and the
I/O die's side of their commit, rings, dirty logging, budgets, interrupt vectors and their delivery. -/
namespace Sys2Proof.Machine

/-! ### Reset requests (R96 to R98) -/

/-- The VI exists (R91). -/
def State.viExists (s : State) (n : Nat) : Bool := s.viType n != 0
/-- A key of VI n's page. -/
def isPageKey (n k : Nat) : Bool := decide (0x8000000 + 0x1000 * n ≤ k) && decide (k < 0x8000000 + 0x1000 * (n + 1))
/-- A committed reset of the VI, its own or its polder's, has not reached step 4. -/
def State.viResetting (s : State) (n : Nat) : Bool :=
  s.host.rstRun.contains (.vi n) || s.host.rstRun.contains (.part n)
/-- A queued request resets the VI. -/
def State.viQueued (s : State) (n : Nat) : Bool :=
  s.host.rstQ.contains (.vi n) || s.host.rstQ.contains (.polder (s.viPolder n))
/-- VI_STATUS.STATE of an existing VI follows its requests (Table 04-7). -/
def State.viState (s : State) (n : Nat) : State :=
  if !s.viExists n then s
  else s.setF (R.VI_STATUS n) 1 0 (if s.viResetting n then 3 else if s.viQueued n then 2 else 1)
/-- The existing VIs of a polder. -/
def State.polderVis (s : State) (p : Nat) : List Nat :=
  (s.listed R.VIR_VI 4096).filter (fun n => s.viExists n && s.viPolder n == p)
/-- The VIs a request resets. -/
def State.reqVis (s : State) : RstReq → List Nat
  | .vi n => [n]
  | .polder p => s.polderVis p
  | .part n => [n]
/-- A refused request (R96). -/
def State.rstRefuse (s : State) : State := s.setB R.VIR_EVENTS 1 true
/-- A reset request: refused without a target or with a full queue, merged, or queued; the answer says whether it was accepted (R96). -/
def State.rstRequest (s : State) (r : RstReq) : Bool × State :=
  let bad := match r with
    | .vi n => !s.viExists n
    | .polder p => decide (63 < p)
    | .part _ => true
  let merged := s.host.rstQ.contains r || (match r with
    | .vi n => s.host.rstQ.contains (.polder (s.viPolder n))
    | _ => false)
  if bad then (false, s.rstRefuse)
  else if merged then (true, { s with host := { s.host with rstAt := s.now } })
  else
    let q := match r with
      | .polder p => s.host.rstQ.filter (fun e => match e with | .vi n => s.viPolder n != p | _ => true)
      | _ => s.host.rstQ
    if 64 ≤ q.length then (false, s.rstRefuse)
    else
      let s : State := { s with host := { s.host with rstQ := q ++ [r], rstAt := s.now } }
      (true, (s.reqVis r).foldl (fun s n => s.viState n) s)
/-- Refused FLRs are tried again while the queue has room (R96). -/
def State.rstRetry (s : State) : State :=
  s.host.flrRetry.foldl (fun s n =>
    if s.host.rstQ.length < 64 then
      ({ s with host := { s.host with flrRetry := s.host.flrRetry.filter (· != n) } }).rstRequest (.vi n) |>.2
    else s) s
/-- A CANCEL of a request: removed while queued, late once committed, else nothing; `page` says that VI_CTRL carried it (R96). -/
def State.rstCancel (s : State) (r : RstReq) (page : Bool) : State :=
  if s.host.rstQ.contains r then
    let vis := s.reqVis r
    let s : State := { s with host := { s.host with
      rstQ := s.host.rstQ.filter (· != r), flr := s.host.flr.filter (fun n => !vis.contains n) } }
    (vis.foldl (fun s n => s.viState n) (s.addSat R.VIR_RESET_CANCELS 1)).rstRetry
  else if s.host.rstRun.contains r then
    match r, page with
    | .vi n, true => s.setB (R.VI_STATUS n) 4 true
    | _, _ => s.setB R.VIR_STATUS 0 true
  else s
/-- A larger reset discards the requests whose commit point has not been reached, and the marks of their FLRs (R98). -/
def State.rstDiscard (s : State) : State :=
  let vis := s.host.rstQ.flatMap s.reqVis
  let s : State := { s with host := { s.host with rstQ := [], flr := s.host.flr.filter (fun n => !vis.contains n) } }
  (vis.foldl (fun s n => s.viState n) s).rstRetry
/-- VIR_RESET_REQ with OP 0b01 (R96). -/
def execViResetReq (vi : Vi) (s : State) : Host.Outcome State Fault Refusal := finish s (s.rstRequest (.vi vi.val)).2
/-- VIR_RESET_REQ with OP 0b10 (R96). -/
def execPolderResetReq (p : Fin 4096) (s : State) : Host.Outcome State Fault Refusal :=
  finish s (s.rstRequest (.polder p.val)).2
/-- VIR_RESET_REQ with OP 0b11: of a VI reset, or of a polder reset (R96). -/
def execResetCancel (polder : Bool) (n : Vi) (s : State) : Host.Outcome State Fault Refusal :=
  finish s (s.rstCancel (if polder then .polder n.val else .vi n.val) false)
/-- VI_CTRL.RESET: refused where the VI's TYPE is 0 (R96). -/
def execViCtrlReset (vi : Vi) (s : State) : Host.Outcome State Fault Refusal := finish s (s.rstRequest (.vi vi.val)).2
/-- VI_CTRL.CANCEL (R96). -/
def execViCtrlCancel (vi : Vi) (s : State) : Host.Outcome State Fault Refusal :=
  finish s (s.onIf (s.viExists vi.val) (fun s => s.rstCancel (.vi vi.val) true))
/-- An FLR of VF k: a VI reset of its VI, marked so that its commit also resets the function (R100). -/
def execVfFlr (k : Vf) (s : State) : Host.Outcome State Fault Refusal :=
  finish s (match s.viOfVf k.val with
    | none => s
    | some n =>
      if !s.vfExists k.val then s
      else
        let s : State := { s with host := { s.host with flr := n :: s.host.flr.filter (· != n) } }
        match s.rstRequest (.vi n) with
        | (true, s) => s
        | (false, s) => { s with host := { s.host with flrRetry := s.host.flrRetry.filter (· != n) ++ [n] } })
/-- A key of a translation window of function f (Table 04-8). -/
def isWinKey (f k : Nat) : Bool := decide (R.VIR_WIN_CTRL f 0 ≤ k) && decide (k < R.VIR_WIN_CTRL f 0 + 0x100)
/-- A key of the dirty logging of VF k (R103). -/
def isDirtyKey (k a : Nat) : Bool := k != 0 && decide (R.DIRTY_CTRL (k - 1) ≤ a) && decide (a < R.DIRTY_CTRL (k - 1) + 0x20)
/-- PF0's function-level state (R100): the fields whose reset is nRESET and FLR of PF0, or FLR of PF0, and its windows. -/
def pf0Flr (k : RKind) (a : Nat) : Bool := k == .g || k == .e || (k == .f && isWinKey 0 a)
/-- An FLR of PF0 (R100): VF Enable falls, and with it the configuration of every VF; the host-bound VIs are reset. -/
def execPf0Flr (s : State) : Host.Outcome State Fault Refusal :=
  let s1 : State := { s.restore pf0Flr with host := { s.host with
    vfEnable := false, ari := false, numVfs := 0, msixEn := [], fnMask := [], d3 := [] } }
  finish s (((s1.listed R.VIR_VI 4096).filter (fun n => s1.viType n == 5)).foldl (fun s n =>
    match s.rstRequest (.vi n) with
    | (true, s) => s
    | (false, s) => { s with host := { s.host with flrRetry := s.host.flrRetry.filter (· != n) ++ [n] } }) s1)
/-- What the configuration space of a function presents as constants (Table 04-6). -/
structure PcieFn where
  vendor : Nat := 0x1F7A
  device : Nat
  class_ : Nat := 0x028000
  revision : Nat := 0x21
  /-- sizes of BAR0 and BAR2, 0 where there is none -/
  bar0 : Nat
  bar2 : Nat
  /-- MSI-X: vectors, and the offsets of table and PBA in BAR0 -/
  vectors : Nat
  msixTable : Nat
  msixPba : Nat
  /-- SR-IOV: TotalVFs and InitialVFs, First VF Offset, VF Stride, system page size -/
  totalVfs : Nat := 0
  firstVf : Nat := 0
  vfStride : Nat := 0
  vfPage : Nat := 0
  maxPayload : Nat := 512
  maxRead : Nat := 4096
deriving DecidableEq, Repr
/-- The functions of the endpoint: PF0, and VF 1 to 1024 (Table 04-6). -/
def pcieFn (f : Nat) : PcieFn :=
  if f = 0 then { device := 0x4896, bar0 := 0x8000000, bar2 := 0x1000000, vectors := 256, msixTable := 0x410000, msixPba := 0x411000
                  totalVfs := 1024, firstVf := 1, vfStride := 1, vfPage := 4096 }
  else { device := 0x4897, bar0 := 4096, bar2 := 0, vectors := 64, msixTable := 0x800, msixPba := 0xC00 }
/-- ABORT_LATE of a vector whose message a mask did not stop (R113). -/
def State.maskLate (s : State) (v : Vec) : State :=
  match v with
  | .pf0 _ => s.setB R.ICU_STATUS 0 true
  | .vi n _ => s.setB (R.VI_STATUS n.val) 4 true
/-- The vector of a number of the round robin. -/
def numVec (i : Nat) : Vec := if i < 256 then .pf0 (Fin.ofNat 256 i) else .vi (Fin.ofNat 4096 ((i - 256) / 64)) (Fin.ofNat 64 ((i - 256) % 64))
/-- The last message that the engine of function f sent, under a key of its own beside those of the priorities. -/
def lastSent (f : Nat) : Nat := 16 * f + 8
/-- A write of a function's configuration space (R99, R113, R115). A write that sets VF Enable and leaves ARI Capable Hierarchy 0 is
ignored. MASKED of the function's vectors follows the function mask where they are read. -/
def State.cfgSpace (s : State) (w : CfgWrite) : State :=
  match w with
  | .sriov ari en => if en && !ari then s else { s with host := { s.host with ari := ari, vfEnable := en } }
  | .numVfs n => { s with host := { s.host with numVfs := n.val } }
  | .msix f en mask same =>
    let s : State := { s with host := { s.host with
        msixEn := if en then f.val :: s.host.msixEn.filter (· != f.val) else s.host.msixEn.filter (· != f.val)
        fnMask := if mask then f.val :: s.host.fnMask.filter (· != f.val) else s.host.fnMask.filter (· != f.val) } }
    if mask && same then
      match s.host.lastPick.lookup (lastSent f.val) with
      | some i => s.maskLate (numVec i)
      | none => s
    else s
  | .power f d3 => { s with host := { s.host with
        d3 := if d3 then f.val :: s.host.d3.filter (· != f.val) else s.host.d3.filter (· != f.val) } }

/-! ### Interrupt vectors (R109 to R115) -/

/-- A write of a function's configuration space (R99, R113, R115). -/
def execPcieConfigWrite (w : CfgWrite) (s : State) : Host.Outcome State Fault Refusal := finish s (s.cfgSpace w)
/-- The number of a vector in the order of the round robin: PF0's 256, then 64 for each VI. -/
def vecNum : Vec → Nat
  | .pf0 v => v.val
  | .vi n v => 256 + 64 * n.val + v.val
/-- The vector is eligible (R110). -/
def State.vecEligible (s : State) (v : Vec) : Bool :=
  s.bit (vecCfg v + 12) 0 && !s.bit (vecCfg v + 12) 1 && !s.vecMasked v && s.host.msixEn.contains (s.vecFn v)
/-- The vectors of the register table that hold a state, which every pending vector does. -/
def State.vecsHeld (s : State) : List Vec :=
  s.regs.filterMap (fun e =>
    if R.ICU_VEC_CFG 0 ≤ e.1 ∧ e.1 < R.ICU_VEC_CFG 256 ∧ e.1 % 16 = 12 then
      some (.pf0 (Fin.ofNat 256 ((e.1 - R.ICU_VEC_CFG 0) / 16)))
    else if 0x8000000 ≤ e.1 ∧ 0x400 ≤ e.1 % 0x1000 ∧ e.1 % 0x1000 < 0x800 ∧ e.1 % 16 = 12 then
      some (.vi (Fin.ofNat 4096 ((e.1 - 0x8000000) / 0x1000)) (Fin.ofNat 64 ((e.1 % 0x1000 - 0x400) / 16)))
    else none)
/-- The polder whose IRQ budget a vector spends; PF0's vectors spend none. -/
def State.vecPolder (s : State) : Vec → Option Nat
  | .pf0 _ => none
  | .vi n _ => some (s.viPolder n.val)
/-- RATE and the DEPTH used of a polder's IRQ budget (Table 04-4). -/
def State.irqRate (s : State) (p : Nat) : Nat := s.fld (R.PLD_IRQ p) 15 0
def State.irqDepth (s : State) (p : Nat) : Nat := max (s.irqRate p) (s.fld (R.PLD_IRQ p) 31 16)
/-- Tokens in a polder's bucket; a bucket starts full (log). -/
def State.irqTokens (s : State) (p : Nat) : Nat := mapGet s.host.tokens p (s.irqDepth p)
/-- One token is taken, unless there is none; RATE 0 is no limit (R93, Table 04-11 step 2). -/
def State.irqTake (s : State) (v : Vec) : Bool × State :=
  match s.vecPolder v with
  | none => (true, s)
  | some p =>
    if s.irqRate p = 0 then (true, s)
    else if s.irqTokens p = 0 then (false, s.addSat (R.PLD_IRQ_DEFER p) 1)
    else (true, { s with host := { s.host with tokens := mapPut s.host.tokens p (s.irqTokens p - 1) } })
/-- The commit point of a delivery: the message leaves, pending and ACC are cleared, the timer stops, in service is set under EOI_MODE 1 (Table 04-11 step 3). -/
def State.vecDeliver (s : State) (v : Vec) : State :=
  let m := vecMsix v
  let k := vecCfg v
  let s := s.emit (.message (s.vecFn v) (s.rd m + two32 * s.rd (m + 4)) (s.rd (m + 8)))
  let s := ((s.setB (k + 12) 0 false).setF (k + 12) 15 8 0).addWrap R.ICU_DELIVERED 1
  let s := s.onIf (s.bit k 3) (fun s => s.setB (k + 12) 1 true)
  let f := s.vecFn v
  { s with host := { s.host with coal := s.host.coal.filter (· != v)
                                 lastPick := mapPut (mapPut s.host.lastPick (16 * f + s.fld k 2 0) (vecNum v)) (lastSent f) (vecNum v) } }
/-- The order in which an engine tries its eligible vectors: PRIO, then round robin after the last one picked at that priority (R110). -/
def State.vecRank (s : State) (f : Nat) (v : Vec) : Nat :=
  let p := s.fld (vecCfg v) 2 0
  let last := mapGet s.host.lastPick (16 * f + p) 0
  (7 - p) * 2000000 + (vecNum v + 1000000 - last - 1) % 1000000
/-- The first of the vectors that has a token is delivered; those before it stay pending, counted as deferred. -/
def State.vecTry (s : State) : List Vec → State
  | [] => s
  | v :: t =>
    match s.irqTake v with
    | (true, s) => s.vecDeliver v
    | (false, s) => s.vecTry t
/-- An element put into a list sorted by a rank. -/
def rankIns (r : Vec → Nat) (v : Vec) : List Vec → List Vec
  | [] => [v]
  | w :: t => if r v ≤ r w then v :: w :: t else w :: rankIns r v t
/-- An event of a vector (R111, R115). -/
def execVectorEvent (v : Vec) (s : State) : Host.Outcome State Fault Refusal := finish s (s.vecEvent v)
/-- COAL_TIME has passed since the first event counted in ACC (R111). -/
def execCoalTimeout (v : Vec) (s : State) : Host.Outcome State Fault Refusal :=
  finish s (s.onIf (s.host.coal.contains v) (fun s =>
    let s : State := { s with host := { s.host with coal := s.host.coal.filter (· != v) } }
    s.onIf (s.vecLive v && s.fld (vecCfg v + 12) 15 8 != 0) (fun s => s.setB (vecCfg v + 12) 0 true)))
/-- An arbitration of the engine of function `e` and the entry it starts, to its message write (R110, R112). -/
def execInterruptArbitration (e : Vf) (s : State) : Host.Outcome State Fault Refusal :=
  let vs := (s.vecsHeld.filter (fun v => s.vecFn v == e.val && s.vecEligible v)).eraseDups
  finish s (s.vecTry (vs.foldl (fun l v => rankIns (s.vecRank e.val) v l) []))
/-- A vector's mask arrives; `same` says: in the clock of step 3 of the vector's entry (R113). -/
def execVectorMask (v : Vec) (same : Bool) (s : State) : Host.Outcome State Fault Refusal :=
  let s1 := s.setB (vecMsix v + 12) 0 true
  finish s (s1.onIf (same && s.host.lastPick.lookup (lastSent (s.vecFn v)) == some (vecNum v)) (fun s => s.maskLate v))
/-- VEC_EOI: in service is cleared and the level source is sampled again (R114). -/
def State.vecEoi (s : State) (v : Vec) : State :=
  let s1 := s.setB (vecCfg v + 12) 1 false
  s1.onIf (s1.vecIsLevel v) (fun s => s.levelPend v)
/-- A write of VEC_EOI (Table 04-11). -/
def execVecEoi (v : Vec) (s : State) : Host.Outcome State Fault Refusal := finish s (s.vecEoi v)
/-- The start of a window of 1 ms: each polder's allowance and remainder (R93). -/
def execIngestWindow (s : State) : Host.Outcome State Fault Refusal :=
  finish s ((List.range 64).foldl (fun s p =>
    let g := s.fld (R.PLD_INGEST p) 15 0
    let r := mapGet s.host.ingRem p 0
    { s with host := { s.host with ingRem := mapPut s.host.ingRem p ((g + r) % 10), ingLeft := mapPut s.host.ingLeft p ((g + r) / 10) } }) s)
/-- Each polder's bucket gains tokens at RATE per ms up to DEPTH (R93): one millisecond. -/
def execIrqTokenRefill (s : State) : Host.Outcome State Fault Refusal :=
  finish s ((List.range 64).foldl (fun s p =>
    { s with host := { s.host with tokens := mapPut s.host.tokens p (min (s.irqDepth p) (s.irqTokens p + s.irqRate p)) } }) s)

/-! ### Rings (R104 to R108) -/

/-- The VI is host-bound (Table 04-2). -/
def State.hostBound (s : State) (n : Nat) : Bool := s.viType n == 5
/-- A VI's rings. -/
def State.ringOf (s : State) (n : Nat) : Rings := mapGet s.host.rings n {}
def State.ringSet (s : State) (n : Nat) (r : Rings) : State := { s with host := { s.host with rings := mapPut s.host.rings n r } }
/-- A word of the descriptor ledger goes up: 0-3 receive TAKEN, WB, RET, HELD, 4-7 the same of transmit (Table 17-1). -/
def State.ledAdd (s : State) (n w : Nat) (d : Int) : State :=
  let l := mapGet s.host.descLedger n (List.replicate 8 0)
  { s with host := { s.host with descLedger := mapPut s.host.descLedger n (modAt l w (fun x => u32 (x + d))) } }
/-- A ring's descriptor is taken, and later written back or returned. -/
def State.ledTake (s : State) (n r m : Nat) : State := (s.ledAdd n (4 * r) m).ledAdd n (4 * r + 3) m
def State.ledWb (s : State) (n r m : Nat) : State := (s.ledAdd n (4 * r + 1) m).ledAdd n (4 * r + 3) (-m)
def State.ledRet (s : State) (n r m : Nat) : State := (s.ledAdd n (4 * r + 2) m).ledAdd n (4 * r + 3) (-m)
/-- Entries of a ring: 0 for receive, 1 for transmit. -/
def State.ringLen (s : State) (n r : Nat) : Nat := 2 ^ s.fld (if r = 0 then R.VI_RX_SIZE n else R.VI_TX_SIZE n) 3 0
def State.ringBase (s : State) (n r : Nat) : Nat := s.rd64 (if r = 0 then R.VI_RX_BASE_LO n else R.VI_TX_BASE_LO n)
def ringCtrl (n r : Nat) : Nat := if r = 0 then R.VI_RX_CTRL n else R.VI_TX_CTRL n
/-- A blocked ring access sets ERR and clears EN (R102). -/
def State.ringErr (s : State) (n r : Nat) : State := (s.setB (ringCtrl n r) 9 true).setB (ringCtrl n r) 0 false
/-- A descriptor is written back: STATUS and the timestamp (Table 04-10); vector r + … signals it (vector 0 transmit, 1 receive). -/
def State.writeBack (s : State) (n r pos status : Nat) (ts : Nat × Nat × Nat) : State :=
  let d := leBytes 4 status ++ leBytes 4 ts.1 ++ leBytes 6 ts.2.1 ++ leBytes 2 0
  match s.dmaWrite (s.viFn n) (s.ringBase n r + 32 * pos + 16) d with
  | (true, s) => (s.ledWb n r 1).vecEvent (.vi (Fin.ofNat 4096 n) (Fin.ofNat 64 (1 - r)))
  | (false, s) => (s.ledRet n r 1).ringErr n r
/-- The positions that a new TAIL adds to those posted. -/
def postedPos (len old new : Nat) : List Nat := (List.range ((new + len - old % len) % len)).map (fun i => (old + i) % len)
/-- The module takes the posted transmit descriptors of the next frame, up to its EOP (R104). -/
def State.txTake (s : State) (n : Nat) : State :=
  let r := s.ringOf n
  if !s.bit (R.VI_TX_CTRL n) 0 || r.txAborting || r.txCur.any (fun d => d.2.eop) || r.txPosted.isEmpty then s
  else
    let pre := r.txPosted.takeWhile (fun d => !d.2.eop)
    let m := min r.txPosted.length (pre.length + 1)
    let s := s.ringSet n { r with txCur := r.txCur ++ r.txPosted.take m, txPosted := r.txPosted.drop m }
    let last := ((r.txPosted.take m).map (·.1)).getLastD 0
    (s.setF (R.VI_TX_HEAD n) 11 0 ((last + 1) % s.ringLen n 1)).ledTake n 1 m
/-- A write of VI_TX_TAIL: the descriptors are read from the ring and posted (R104). -/
def State.txTail (s : State) (n tail : Nat) (ds : List HostTxDesc) : State :=
  if !s.hostBound n then s
  else
    let len := s.ringLen n 1
    let old := s.fld (R.VI_TX_TAIL n) 11 0 % len
    let s := s.setF (R.VI_TX_TAIL n) 11 0 tail
    let ps := postedPos len old (tail % len)
    let post := (ps.zip ds).map (fun (e : Nat × HostTxDesc) => (e.1,
      ({ addr := e.2.addr.toNat, len := e.2.len.toNat, eop := e.2.flags.getLsbD 0, tsReq := e.2.flags.getLsbD 1,
         cls := bitsOf e.2.flags.toNat 4 2, data := padTo e.2.len.toNat (e.2.data.take e.2.len.toNat), ok := e.2.ok } : TxDesc)))
    let (ok, s) := post.foldl (fun (a : Bool × State) e =>
      if a.1 then a.2.dmaRead (a.2.viFn n) (a.2.ringBase n 1 + 32 * e.1) 32 else a) (true, s)
    if !ok then s.ringErr n 1
    else (s.ringSet n { s.ringOf n with txPosted := (s.ringOf n).txPosted ++ post }).txTake n
/-- Descriptors of a frame that is not sent are written back with a status (R104, R105). -/
def State.txDiscard (s : State) (n : Nat) (ds : List (Nat × TxDesc)) (status : Nat) : State :=
  ds.foldl (fun s d => s.writeBack n 1 d.1 status (0, 0, 0)) (s.addSat (R.VI_TX_DISCARDS n) 1)
/-- The last buffer of the frame is fetched: the frame enters the switch, or is discarded (R104, R105). -/
def State.txFetch (s : State) (n : Nat) : State :=
  let ds := (s.ringOf n).txCur
  match ds.getLast? with
  | none => s
  | some e =>
    if !e.2.eop then s
    else
      let s := s.ringSet n { s.ringOf n with txCur := [] }
      let (ok, s) := ds.foldl (fun (a : Bool × State) d =>
        if a.1 then a.2.dmaRead (a.2.viFn n) d.2.addr d.2.len else a) (true, s)
      let b := ds.foldl (fun b d => b ++ d.2.data) []
      let s :=
        if !ok then s.txDiscard n ds (2 ^ 23 + 2 ^ 20)
        else if 9212 < b.length then s.txDiscard n ds (2 ^ 21 + 2 ^ 20)
        else if ds.any (fun d => !d.2.ok) then (s.setB (R.VI_EVENTS n) 2 true).txDiscard n ds (2 ^ 23 + 2 ^ 20)
        else
          let (id, s) := s.enter 49 b (some (ds.headD e).2.cls) none (some n)
          let fr : TxFrame := { pos := ds.map (·.1), tsReq := (ds.headD e).2.tsReq || e.2.tsReq, gen := s.viGen n, frame := id,
                                status := 0, ts := none }
          (s.ringSet n { s.ringOf n with txWb := (s.ringOf n).txWb ++ [fr] }).addWrap (R.VI_TX_FRAMES n) 1
      s.txTake n
/-- A frame's write-back may be issued: at its commit point, or with TS_REQ once its timestamp is known or no copy is left (R104). -/
def State.txReady (s : State) (f : TxFrame) : Bool :=
  !f.tsReq || f.ts.isSome || (match f.frame with | some id => (s.frameOf id).isNone | none => true)
/-- The oldest ready frame is written back, or returned where its tag is old (R95, R104). -/
def State.txWriteback (s : State) (n : Nat) : State :=
  match (s.ringOf n).txWb.find? (fun f => s.txReady f) with
  | none => s
  | some f =>
    let s := s.ringSet n { s.ringOf n with txWb := (s.ringOf n).txWb.erase f }
    if f.gen != s.viGen n then (s.ledRet n 1 f.pos.length).genDiscard 1
    else
      let last := f.pos.getLastD 0
      f.pos.foldl (fun s p => s.writeBack n 1 p (f.status + 2 ^ 18) (if p = last && f.tsReq then f.ts.getD (0, 0, 0) else (0, 0, 0))) s
/-- VI_TX_CTRL.EN is cleared: the ring is aborted (R105). -/
def State.txAbort (s : State) (n : Nat) : State :=
  if !s.hostBound n || !s.bit (R.VI_TX_CTRL n) 0 then s
  else
    let cur := (s.ringOf n).txCur
    let s := s.setB (R.VI_TX_CTRL n) 0 false
    let s := s.onIf (!(s.ringOf n).txWb.isEmpty) (fun s => s.setB (R.VI_STATUS n) 4 true)
    let s := s.ringSet n { s.ringOf n with txCur := [], txAborting := true }
    s.onIf (!cur.isEmpty) (fun s => s.txDiscard n cur (2 ^ 22))
/-- VI_TX_CTRL.EN is set: the ring runs, and STOPPED ends. -/
def State.txEnable (s : State) (n : Nat) : State :=
  let s := (s.setB (R.VI_TX_CTRL n) 0 true).setB (R.VI_TX_CTRL n) 8 false
  (s.ringSet n { s.ringOf n with txAborting := false }).txTake n
/-- A write of VI_TX_TAIL; `descs` are the descriptors posted, as they stand in host memory (R104). -/
def execTxTailWrite (vi : Vi) (tail : W16) (descs : List HostTxDesc) (s : State) : Host.Outcome State Fault Refusal :=
  finish s (s.txTail vi.val tail.toNat descs)
/-- The commit point of a transmit frame (R105). -/
def execTxFetchDone (vi : Vi) (s : State) : Host.Outcome State Fault Refusal := finish s (s.txFetch vi.val)
/-- A transmit write-back (R104). -/
def execTxWriteback (vi : Vi) (s : State) : Host.Outcome State Fault Refusal := finish s (s.txWriteback vi.val)
/-- Clearing VI_TX_CTRL.EN (R105). -/
def execTxAbort (vi : Vi) (s : State) : Host.Outcome State Fault Refusal := finish s (s.txAbort vi.val)
/-- The abort is finished once the committed frames are written back (R105). -/
def execTxAbortDone (vi : Vi) (s : State) : Host.Outcome State Fault Refusal :=
  finish s (
    let r := s.ringOf vi.val
    s.onIf (r.txAborting && r.txWb.isEmpty) (fun s =>
      ((s.ringSet vi.val { r with txAborting := false }).setB (R.VI_TX_CTRL vi.val) 8 true).setB (R.VI_EVENTS vi.val) 3 true))

/-- BUF_LEN in bytes, 1 to 128 units (Table 04-7). -/
def State.rxBuf (s : State) (n : Nat) : Nat := max 1 (min 128 (s.fld (R.VI_RX_CTRL n) 15 8)) * 128
/-- A frame leaves the receive engine: its copy ends. -/
def State.rxEnd (s : State) (n : Nat) : State :=
  match s.net.rxHold.lookup n with
  | none => s
  | some c => ({ s with net := { s.net with rxHold := mapDel s.net.rxHold n } }).endCopy c
/-- The frame is cut at the last descriptor used (R107). -/
def State.rxTruncate (s : State) (n : Nat) (p : RxProg) : State :=
  let s := s.ringSet n { s.ringOf n with rxCur := none }
  let s := s.writeBack n 0 p.pos (p.bytes + b2n p.first * 2 ^ 16 + 2 ^ 17 + 2 ^ 18 + 2 ^ 19) (if p.first then p.ts else (0, 0, 0))
  ((s.addSat (R.VI_RX_TRUNC n) 1).setB (R.VI_EVENTS n) 4 true).rxEnd n
/-- A frame is written into consecutive buffers (R106, R107); the number bounds the buffers used. -/
def State.rxRun (s : State) (n : Nat) (rest : Bytes) (ts : Nat × Nat × Nat) (first : Bool) (fid : Nat) : Nat → State
  | 0 => s
  | k + 1 =>
    match (s.ringOf n).rxPosted with
    | [] => s
    | (pos, addr) :: more =>
      let s := s.ringSet n { s.ringOf n with rxPosted := more }
      let s := (s.setF (R.VI_RX_HEAD n) 11 0 ((pos + 1) % s.ringLen n 0)).ledTake n 0 1
      let chunk := rest.take (s.rxBuf n)
      let rest' := rest.drop (s.rxBuf n)
      let t := if first then ts else (0, 0, 0)
      let sop := b2n first * 2 ^ 16
      match s.dmaWrite (s.viFn n) addr chunk with
      | (false, s) => (s.writeBack n 0 pos (sop + 2 ^ 17 + 2 ^ 18 + 2 ^ 23) t).rxEnd n
      | (true, s) =>
        if rest'.isEmpty then
          ((s.writeBack n 0 pos (chunk.length + sop + 2 ^ 17 + 2 ^ 18) t).addWrap (R.VI_RX_FRAMES n) 1).rxEnd n
        else if more.isEmpty then
          let p : RxProg := { rest := rest', pos := pos, bytes := chunk.length, first := first, frame := fid, ts := ts }
          if s.fld (R.VI_RX_CTRL n) 31 16 = 0 then s.rxTruncate n p
          else s.ringSet n { s.ringOf n with rxCur := some p }
        else (s.writeBack n 0 pos (chunk.length + sop + 2 ^ 18) t).rxRun n rest' ts false fid k
/-- A write of VI_RX_TAIL: descriptors are read and posted; a frame that waits goes on (R106, R107). -/
def State.rxTail (s : State) (n tail : Nat) (bufs : List Nat) : State :=
  if !s.hostBound n then s
  else
    let len := s.ringLen n 0
    let old := s.fld (R.VI_RX_TAIL n) 11 0 % len
    let s := s.setF (R.VI_RX_TAIL n) 11 0 tail
    let post := (postedPos len old (tail % len)).zip bufs
    let (ok, s) := post.foldl (fun (a : Bool × State) e =>
      if a.1 then a.2.dmaRead (a.2.viFn n) (a.2.ringBase n 0 + 32 * e.1) 32 else a) (true, s)
    if !ok then s.ringErr n 0
    else
      let s := s.ringSet n { s.ringOf n with rxPosted := (s.ringOf n).rxPosted ++ post }
      match (s.ringOf n).rxCur with
      | none => s
      | some p =>
        if post.isEmpty then s
        else
          let s := s.ringSet n { s.ringOf n with rxCur := none }
          (s.writeBack n 0 p.pos (p.bytes + b2n p.first * 2 ^ 16 + 2 ^ 18) (if p.first then p.ts else (0, 0, 0))).rxRun n
            p.rest p.ts false p.frame 128
/-- The oldest copy of a class at P49 for a VI. -/
def State.rxHead (s : State) (n c : Nat) : Option Copy :=
  (s.queue 49 c).find? (fun q => match q.vi with | some (m, _) => m == n | none => false)
/-- The heads of a class that an old tag or their age ends go (R95, R147). -/
def State.rxClean (s : State) (n c : Nat) : Nat → State
  | 0 => s
  | k + 1 =>
    match s.rxHead n c with
    | none => s
    | some q =>
      let src := match s.frameOf q.fid with | some f => f.vi | none => none
      if !s.genFresh q.vi || !s.genFresh src then (((s.takeCopy q).endCopy q).genDiscard 1).rxClean n c k
      else if s.tooOld q then (((s.takeCopy q).endCopy q).addSat (R.SWC_P_AGEDROP 49 q.cls) 1).rxClean n c k
      else s
/-- The next copy for a VI, as the scheduler of P49 picks it from the heads of its classes (R146). -/
def State.rxNext (s : State) (n : Nat) : Option Copy × State :=
  let s := (List.range 8).foldl (fun s c => s.rxClean n c (s.queue 49 c).length) s
  s.pick 49 (s.rxHead n)
/-- A frame waiting for a VI is written into its buffers (R106). -/
def State.rxDeliver (s : State) (n : Nat) : State :=
  let r := s.ringOf n
  if !s.hostBound n || !s.bit (R.VI_RX_CTRL n) 0 || r.rxPosted.isEmpty || r.rxCur.isSome then s
  else
    match s.rxNext n with
    | (none, s) => s
    | (some q, s) =>
      let s := s.takeCopy q
      let (ts, vid) := match s.frameOf q.fid with | some f => (f.ts, f.vid) | none => ((0, 0, 0), 0)
      let s := s.mirror1 49 1 q.bytes q.bytes.length q.stomp q.ct false q.cls vid
      let s : State := { s with net := { s.net with rxHold := mapPut s.net.rxHold n q } }
      s.rxRun n (noFcs q.bytes) ts true q.fid 128
/-- A write of VI_RX_TAIL; `bufs` are the buffer addresses of the descriptors posted (R106). -/
def execRxTailWrite (vi : Vi) (tail : W16) (bufs : List (BitVec 64)) (s : State) : Host.Outcome State Fault Refusal :=
  finish s (s.rxTail vi.val tail.toNat (bufs.map (·.toNat)))
/-- A frame is delivered to a VI (R106). -/
def execRxFrameDeliver (vi : Vi) (s : State) : Host.Outcome State Fault Refusal := finish s (s.rxDeliver vi.val)
/-- The wait for a descriptor ends (R107). -/
def execRxWaitExpire (vi : Vi) (s : State) : Host.Outcome State Fault Refusal :=
  finish s (match (s.ringOf vi.val).rxCur with
    | none => s
    | some p => s.rxTruncate vi.val p)

/-! ### Dirty logging (R103) -/

/-- SWAP: the other buffer is active (R103). -/
def State.dirtySwap (s : State) (k : Nat) : State :=
  if k = 0 then s
  else (s.setB (R.DIRTY_STATUS (k - 1)) 0 (!s.bit (R.DIRTY_STATUS (k - 1)) 0)).setB (R.DIRTY_STATUS (k - 1)) 1 true
/-- A write of SWAP (R103). -/
def execDirtySwap (f : Vf) (s : State) : Host.Outcome State Fault Refusal := finish s (s.dirtySwap f.val)
/-- Every bit owed to the old buffer is in host memory (R103). -/
def execDirtySwapDone (f : Vf) (s : State) : Host.Outcome State Fault Refusal :=
  finish s (s.onIf (f.val != 0) (fun s => s.setB (R.DIRTY_STATUS (f.val - 1)) 1 false))

/-! ### The commit of VI and polder resets, on the I/O die (R95 to R98, R100) -/

/-- The transfers of a VI in the rings, the switch core and at P48 end with its old tag (R95). -/
def State.purgeVi (s : State) (n : Nat) : State :=
  let r := s.ringOf n
  let mine := fun (v : Option (Nat × Nat)) => match v with | some (m, _) => m == n | none => false
  let srcs := (s.net.frames.filter (fun f => mine f.vi)).map (·.id)
  let old := fun (c : Copy) => mine c.vi || srcs.contains c.fid
  let m := (s.net.copies.filter old).length + r.txWb.length + (s.net.inbox.filter (fun f => f.vi == n)).length + b2n r.rxCur.isSome +
    b2n (!r.txCur.isEmpty)
  let s := s.dropCopies old
  let s : State := { s with net := { s.net with inbox := s.net.inbox.filter (fun f => f.vi != n) } }
  let s := (s.ledRet n 1 (r.txCur.length + (r.txWb.map (fun f => f.pos.length)).sum)).ledRet n 0 (b2n r.rxCur.isSome)
  ((s.ringSet n {}).rxEnd n).genDiscard m
/-- Step 1 of Table 04-5 for a VI on the I/O die: the tag, the purge, what R98 clears, and what an FLR adds (R100). -/
def State.viCommitIo (s : State) (n : Nat) : State :=
  let s := (s.addWrapF (R.VI_GEN n) 15 0 1).purgeVi n
  let s := s.restore (fun (k : RKind) a => k == .v && isPageKey n a)
  if !s.host.flr.contains n then s
  else
    let k := s.vfOf n
    let s := s.restore (fun (r : RKind) a => r == .f && (isPageKey n a || isWinKey k a || isDirtyKey k a))
    { s with
      paths := s.paths.filter (fun w => match w.path with | .vf j => j.val != k | _ => true)
      held := s.held.filter (fun w => match w.path with | .vf j => j.val != k | _ => true)
      host := { s.host with
        flr := s.host.flr.filter (· != n), msixEn := s.host.msixEn.filter (· != k)
        fnMask := s.host.fnMask.filter (· != k), d3 := s.host.d3.filter (· != k) } }

end Sys2Proof.Machine
end

