-- ==== Sys2Proof/Machine/Float.lean ====
section
/-! DEFINITION. IEEE 754 arithmetic as R217 states it: round to nearest with ties to even, subnormals kept, one canonical
NaN; binary32 everywhere, binary64 where a chapter names it. Numbers are computed exactly and rounded once. -/
namespace Sys2Proof.Machine

/-- A binary interchange format: precision and width of the exponent field. -/
structure Fmt where
  prec : Nat
  ebits : Nat
deriving DecidableEq, Repr
def f32 : Fmt := ⟨24, 8⟩
def f64 : Fmt := ⟨53, 11⟩
/-- Exponent of the least subnormal. -/
def Fmt.emin (f : Fmt) : Int := 3 - (2 ^ (f.ebits - 1) : Nat) - f.prec
/-- The biased exponent of infinities and NaNs. -/
def Fmt.emax (f : Fmt) : Nat := 2 ^ f.ebits - 1
/-- A value: NaN, an infinity, or (-1)^neg * mant * 2^exp. -/
inductive FV where
  | nan
  | inf (neg : Bool)
  | fin (neg : Bool) (mant : Nat) (exp : Int)
deriving DecidableEq, Repr
/-- The value of a bit pattern. -/
def Fmt.dec (f : Fmt) (b : Nat) : FV :=
  let fr := b % 2 ^ (f.prec - 1)
  let e := b / 2 ^ (f.prec - 1) % 2 ^ f.ebits
  let neg := b.testBit (f.prec + f.ebits - 1)
  if e = f.emax then (if fr = 0 then .inf neg else .nan)
  else if e = 0 then .fin neg fr f.emin
  else .fin neg (2 ^ (f.prec - 1) + fr) (f.emin + e - 1)
/-- The canonical quiet NaN (R217). -/
def Fmt.nan (f : Fmt) : Nat := f.emax * 2 ^ (f.prec - 1) + 2 ^ (f.prec - 2)
def Fmt.sign (f : Fmt) (neg : Bool) : Nat := if neg then 2 ^ (f.prec + f.ebits - 1) else 0
def Fmt.inf (f : Fmt) (neg : Bool) : Nat := f.sign neg + f.emax * 2 ^ (f.prec - 1)
/-- A magnitude `m / 2^d` to the nearest integer, ties to even. -/
def rneShift (m d : Nat) : Nat :=
  let q := m / 2 ^ d
  let r := m % 2 ^ d
  if 2 * r > 2 ^ d ∨ (2 * r = 2 ^ d ∧ q % 2 = 1) then q + 1 else q
/-- The bit pattern nearest to (-1)^neg * m * 2^e. -/
def Fmt.round (f : Fmt) (neg : Bool) (m : Nat) (e : Int) : Nat :=
  if m = 0 then f.sign neg
  else
    let q := max f.emin (e + (Nat.log2 m + 1 : Nat) - f.prec)
    let m1 := if q ≤ e then m * 2 ^ (e - q).toNat else rneShift m (q - e).toNat
    let (m2, q2) := if m1 = 2 ^ f.prec then (2 ^ (f.prec - 1), q + 1) else (m1, q)
    let be := if m2 < 2 ^ (f.prec - 1) then 0 else (q2 - f.emin).toNat + 1
    if f.emax ≤ be then f.inf neg
    else f.sign neg + be * 2 ^ (f.prec - 1) + m2 % 2 ^ (f.prec - 1)
/-- A signed integer times a power of two, rounded; an exact zero takes the sign `z`. -/
def Fmt.roundI (f : Fmt) (z : Bool) (i : Int) (e : Int) : Nat :=
  if i = 0 then f.sign z else f.round (decide (i < 0)) i.natAbs e
def isNan (v : FV) : Bool := match v with | .nan => true | _ => false
def sgnI (neg : Bool) (m : Nat) : Int := if neg then -(m : Int) else m
/-- a * b + c with one rounding. -/
def Fmt.fma (f : Fmt) (a b c : Nat) : Nat :=
  match f.dec a, f.dec b, f.dec c with
  | .nan, _, _ => f.nan
  | _, .nan, _ => f.nan
  | _, _, .nan => f.nan
  | .inf s, .inf t, .inf u => if (s != t) = u then f.inf u else f.nan
  | .inf s, .inf t, _ => f.inf (s != t)
  | .inf s, .fin t m _, w => if m = 0 then f.nan else
      (match w with | .inf u => if (s != t) = u then f.inf u else f.nan | _ => f.inf (s != t))
  | .fin t m _, .inf s, w => if m = 0 then f.nan else
      (match w with | .inf u => if (s != t) = u then f.inf u else f.nan | _ => f.inf (s != t))
  | .fin _ _ _, .fin _ _ _, .inf u => f.inf u
  | .fin s m e, .fin t n k, .fin u r l =>
    let x := e + k
    let lo := min x l
    let i := sgnI (s != t) (m * n * 2 ^ (x - lo).toNat) + sgnI u (r * 2 ^ (l - lo).toNat)
    f.roundI ((s != t) && u) i lo
def Fmt.one (f : Fmt) : Nat := (2 ^ (f.ebits - 1) - 1) * 2 ^ (f.prec - 1)
def Fmt.add (f : Fmt) (a b : Nat) : Nat := f.fma a f.one b
/-- The sign flipped; a NaN stays the canonical NaN. -/
def Fmt.neg (f : Fmt) (a : Nat) : Nat :=
  match f.dec a with
  | .nan => f.nan
  | .inf s => f.inf (!s)
  | .fin s _ _ => a % 2 ^ (f.prec + f.ebits - 1) + f.sign (!s)
def Fmt.abs (f : Fmt) (a : Nat) : Nat := if isNan (f.dec a) then f.nan else a % 2 ^ (f.prec + f.ebits - 1)
def Fmt.sub (f : Fmt) (a b : Nat) : Nat := f.fma b (f.neg f.one) a
def Fmt.mul (f : Fmt) (a b : Nat) : Nat :=
  match f.dec a, f.dec b with
  | .fin s _ _, .fin t _ _ => f.fma a b (f.sign (s != t))
  | _, _ => f.fma a b 0
/-- The square root's integer part, bit by bit from bit `i`. -/
def isqrtGo (n : Nat) : Nat → Nat → Nat
  | 0, r => if (r + 1) * (r + 1) ≤ n then r + 1 else r
  | i + 1, r => isqrtGo n i (if (r + 2 ^ (i + 1)) * (r + 2 ^ (i + 1)) ≤ n then r + 2 ^ (i + 1) else r)
def isqrt (n : Nat) : Nat := isqrtGo n (Nat.log2 n / 2 + 1) 0
/-- A quotient of naturals times 2^e, rounded. -/
def Fmt.roundQ (f : Fmt) (neg : Bool) (m n : Nat) (e : Int) : Nat :=
  let k := f.prec + 3 + Nat.log2 n - Nat.log2 m
  let q := m * 2 ^ k / n
  f.round neg (2 * q + b2n (m * 2 ^ k % n != 0)) (e - k - 1)
def Fmt.div (f : Fmt) (a b : Nat) : Nat :=
  match f.dec a, f.dec b with
  | .nan, _ => f.nan
  | _, .nan => f.nan
  | .inf _, .inf _ => f.nan
  | .inf s, .fin t _ _ => f.inf (s != t)
  | .fin s _ _, .inf t => f.sign (s != t)
  | .fin s m e, .fin t n k =>
    if n = 0 then (if m = 0 then f.nan else f.inf (s != t))
    else if m = 0 then f.sign (s != t)
    else f.roundQ (s != t) m n (e - k)
def Fmt.sqrt (f : Fmt) (a : Nat) : Nat :=
  match f.dec a with
  | .nan => f.nan
  | .inf s => if s then f.nan else f.inf false
  | .fin s m e =>
    if m = 0 then f.sign s
    else if s then f.nan
    else
      let k := 2 * f.prec + 6 + (if (e - (2 * f.prec + 6 : Nat)) % 2 = 0 then 0 else 1)
      let n := m * 2 ^ k
      let r := isqrt n
      f.round false (2 * r + b2n (r * r != n)) ((e - k) / 2 - 1)
/-- Comparison of finite values and infinities on one scale; none with a NaN. -/
def Fmt.cmp (f : Fmt) (a b : Nat) : Option Ordering :=
  let key := fun (x : Nat) => if x.testBit (f.prec + f.ebits - 1) then -((x % 2 ^ (f.prec + f.ebits - 1) : Nat) : Int) else (x : Int)
  if isNan (f.dec a) || isNan (f.dec b) then none else some (compare (key a) (key b))
def Fmt.lt (f : Fmt) (a b : Nat) : Bool := f.cmp a b == some .lt
def Fmt.le (f : Fmt) (a b : Nat) : Bool := f.cmp a b == some .lt || f.cmp a b == some .eq
def Fmt.eq (f : Fmt) (a b : Nat) : Bool := f.cmp a b == some .eq
/-- minimumNumber and maximumNumber, with -0.0 below +0.0 (R217). -/
def Fmt.minN (f : Fmt) (a b : Nat) : Nat :=
  match f.cmp a b with
  | none => if isNan (f.dec a) then (if isNan (f.dec b) then f.nan else b) else a
  | some .lt => a
  | some .gt => b
  | some .eq => if a.testBit (f.prec + f.ebits - 1) then a else b
def Fmt.maxN (f : Fmt) (a b : Nat) : Nat :=
  match f.cmp a b with
  | none => if isNan (f.dec a) then (if isNan (f.dec b) then f.nan else b) else a
  | some .gt => a
  | some .lt => b
  | some .eq => if a.testBit (f.prec + f.ebits - 1) then b else a
/-- The nearest integer, ties to even; none for a NaN, a clamp value for an infinity. -/
def Fmt.rne (f : Fmt) (a : Nat) (big : Int) : Option Int :=
  match f.dec a with
  | .nan => none
  | .inf s => some (if s then -big else big)
  | .fin s m e => some (sgnI s (if 0 ≤ e then m * 2 ^ e.toNat else rneShift m (-e).toNat))
/-- Integer part toward minus infinity. -/
def Fmt.floor (f : Fmt) (a : Nat) (big : Int) : Int :=
  match f.dec a with
  | .nan => 0
  | .inf s => if s then -big else big
  | .fin s m e => if 0 ≤ e then sgnI s (m * 2 ^ e.toNat) else sgnI s m / (2 ^ (-e).toNat : Nat)
def Fmt.ofInt (f : Fmt) (i : Int) : Nat := f.roundI false i 0
/-- A value of one format in another. -/
def Fmt.conv (g f : Fmt) (a : Nat) : Nat :=
  match f.dec a with
  | .nan => g.nan
  | .inf s => g.inf s
  | .fin s m e => g.round s m e
/-- The value is zero, infinite. -/
def Fmt.isZero (f : Fmt) (a : Nat) : Bool := a % 2 ^ (f.prec + f.ebits - 1) == 0
def Fmt.isInf (f : Fmt) (a : Nat) : Bool := match f.dec a with | .inf _ => true | _ => false
def Fmt.isNaN (f : Fmt) (a : Nat) : Bool := isNan (f.dec a)
def Fmt.finite (f : Fmt) (a : Nat) : Bool := match f.dec a with | .fin _ _ _ => true | _ => false

/-! ### Correctly rounded functions (R217): fixed-point evaluation with an error bound, at rising precision -/

/-- Product of two fixed-point numbers with P fraction bits. -/
def fxMul (P : Nat) (a b : Int) : Int := a * b / (2 ^ P : Nat)
/-- arctan(1/n) with P fraction bits, summing `k` terms. -/
def atanInv (P n : Nat) : Nat → Nat → Int → Int
  | 0, _, _ => 0
  | k + 1, i, t => (if i % 2 = 0 then t / (2 * i + 1 : Nat) else -(t / (2 * i + 1 : Nat))) + atanInv P n k (i + 1) (t / (n * n : Nat))
/-- pi with P fraction bits (Machin). -/
def fxPi (P : Nat) : Int :=
  let Q := P + 16
  (16 * atanInv Q 5 (Q / 4 + 2) 0 ((2 ^ Q : Nat) / 5) - 4 * atanInv Q 239 (Q / 15 + 2) 0 ((2 ^ Q : Nat) / 239)) / 65536
/-- Taylor sums of sine and cosine: t is the current term, i its index. -/
def trigSum (P : Nat) (x2 : Int) : Nat → Nat → Int → Int
  | 0, _, _ => 0
  | k + 1, i, t => t + trigSum P x2 k (i + 2) (-(fxMul P t x2) / ((i + 1) * (i + 2) : Nat))
/-- arctan of a small fixed-point number. -/
def atanSum (P : Nat) (x2 : Int) : Nat → Nat → Int → Int
  | 0, _, _ => 0
  | k + 1, i, t => t / (i : Nat) + atanSum P x2 k (i + 2) (-(fxMul P t x2))
/-- arctan of x in [0, 1] with P fraction bits: three halvings of the angle, then the series. -/
def fxAtan (P : Nat) (x : Int) : Int :=
  let half := fun (x : Int) =>
    let h := (isqrt ((2 ^ P * 2 ^ P : Nat) + (x * x).toNat) : Int)
    x * (2 ^ P : Nat) / ((2 ^ P : Nat) + h)
  let y := half (half (half x))
  8 * atanSum P (fxMul P y y) (P / 6 + 4) 1 y
/-- The natural logarithm of a fixed-point number in [1, 2): 2 artanh((m - 1) / (m + 1)). -/
def artanhSum (P : Nat) (x2 : Int) : Nat → Nat → Int → Int
  | 0, _, _ => 0
  | k + 1, i, t => t / (i : Nat) + artanhSum P x2 k (i + 2) (fxMul P t x2)
def fxLn (P : Nat) (m : Int) : Int :=
  let one : Int := (2 ^ P : Nat)
  let y := (m - one) * one / (m + one)
  2 * artanhSum P (fxMul P y y) (P / 3 + 4) 1 y
/-- e^x for a fixed-point number in [0, 1). -/
def expSum (P : Nat) (x : Int) : Nat → Nat → Int → Int
  | 0, _, _ => 0
  | k + 1, i, t => t + expSum P x k (i + 1) (fxMul P t x / (i : Nat))
def fxExp (P : Nat) (x : Int) : Int := expSum P x (P / 2 + 8) 1 (2 ^ P : Nat)
/-- A finite value as a fixed-point number. -/
def fxOf (P : Nat) (m : Nat) (e : Int) : Int :=
  if 0 ≤ e + P then (m * 2 ^ (e + P).toNat : Nat) else ((m / 2 ^ (-(e + P)).toNat : Nat) : Int)
/-- The rounding that both ends of an interval share, if they share one: v is within 2^48 units of the exact value times 2^P. -/
def Fmt.agree (f : Fmt) (P : Nat) (v : Int) : Option Nat :=
  let lo := v - (2 ^ 48 : Nat)
  let hi := v + (2 ^ 48 : Nat)
  let r := f.roundI false lo (-(P : Int))
  if decide (lo < 0) = decide (hi < 0) && r == f.roundI false hi (-(P : Int)) then some r else none
/-- The first precision whose interval decides the rounding; the last try rounds the value itself. -/
def Fmt.ziv (f : Fmt) (g : Nat → Int) : Nat → Nat → Nat
  | 0, P => f.roundI false (g P) (-(P : Int))
  | k + 1, P => match f.agree P (g P) with
    | some r => r
    | none => f.ziv g k (2 * P)
/-- The sine (`co` false) or cosine of m * 2^e, m not 0, with P fraction bits. -/
def fxTrig (m : Nat) (e : Int) (co : Bool) (P : Nat) : Int :=
  let Q := P + (if 0 < e then e.toNat + 32 else 0)
  let pi := fxPi (Q + 32) / 4294967296
  let x := fxOf Q m e
  let n := 2 * x / pi
  let r := (2 * x - n * pi) / (2 ^ (Q - P + 1) : Nat)
  let r2 := fxMul P r r
  let sn := trigSum P r2 (P / 3 + 8) 1 r
  let cs := trigSum P r2 (P / 3 + 8) 0 (2 ^ P : Nat)
  match (n + (if co then 1 else 0)) % 4 with
  | 0 => sn
  | 1 => cs
  | 2 => -sn
  | _ => -cs
def Fmt.sin (f : Fmt) (a : Nat) : Nat :=
  match f.dec a with
  | .fin s m e => if m = 0 then a else
      let r := f.ziv (fxTrig m e false) 6 128
      if s then f.neg r else r
  | _ => f.nan
def Fmt.cos (f : Fmt) (a : Nat) : Nat :=
  match f.dec a with
  | .fin _ m e => if m = 0 then f.one else f.ziv (fxTrig m e true) 6 128
  | _ => f.nan
/-- The angle of a point of the open first quadrant with P fraction bits. -/
def fxAngle (ym : Nat) (ye : Int) (xm : Nat) (xe : Int) (P : Nat) : Int :=
  let lo := min ye xe
  let y := ym * 2 ^ (ye - lo).toNat
  let x := xm * 2 ^ (xe - lo).toNat
  let one : Nat := 2 ^ P
  if y ≤ x then fxAtan P ((y * one / x : Nat) : Int) else fxPi P / 2 - fxAtan P ((x * one / y : Nat) : Int)
/-- atan2(y, x) (IEEE 754 clause 9.2). -/
def Fmt.atan2 (f : Fmt) (y x : Nat) : Nat :=
  let sg := fun (s : Bool) (r : Nat) => if s then f.neg r else r
  let piF := fun (n d : Nat) => f.ziv (fun P => fxPi P * (n : Nat) / (d : Nat)) 6 128
  match f.dec y, f.dec x with
  | .nan, _ => f.nan
  | _, .nan => f.nan
  | .inf s, .inf t => sg s (if t then piF 3 4 else piF 1 4)
  | .inf s, .fin _ _ _ => sg s (piF 1 2)
  | .fin s _ _, .inf t => sg s (if t then piF 1 1 else 0)
  | .fin s m e, .fin t n k =>
    if m = 0 then sg s (if t then piF 1 1 else 0)
    else if n = 0 then sg s (piF 1 2)
    else sg s (f.ziv (fun P => if t then fxPi P - fxAngle m e n k P else fxAngle m e n k P) 6 128)
/-- The value is an integer; it is an odd integer. -/
def Fmt.isInt (f : Fmt) (a : Nat) : Bool × Bool :=
  match f.dec a with
  | .fin _ m e =>
    if 0 ≤ e then (true, e == 0 && m % 2 == 1)
    else if (-e).toNat ≤ Nat.log2 m + 1 ∧ m % 2 ^ (-e).toNat = 0 then (true, m / 2 ^ (-e).toNat % 2 == 1) else (m == 0, false)
  | _ => (false, false)
/-- x^y for finite x > 0 and finite y with P fraction bits: 2^k * e^r. The answer is the scaled fraction and k. -/
def fxPow (xm : Nat) (xe : Int) (yn : Bool) (ym : Nat) (ye : Int) (P : Nat) : Int × Int :=
  let lg := Nat.log2 xm
  let Q := P + 64
  let ln2 := fxLn (Q + 8) ((2 ^ (Q + 8) : Nat) * 3 / 2) + fxLn (Q + 8) ((2 ^ (Q + 8) : Nat) * 4 / 3)
  let m := fxOf (Q + 8) xm (-(lg : Int))
  let ln := (fxLn (Q + 8) m + (xe + lg) * ln2) / 256
  let t0 := if 0 ≤ ye then ln * (ym * 2 ^ ye.toNat : Nat) else ln * (ym : Nat) / (2 ^ (-ye).toNat : Nat)
  let t := if yn then -t0 else t0
  let k := t / (ln2 / 256)
  (fxExp Q (t - k * (ln2 / 256)) / (2 ^ 64 : Nat), k)
/-- The exact power is decided: x^(n / 2^j) = c exactly, for a candidate c = cm * 2^ce, by x^n = c^(2^j). -/
def powExact (xm : Nat) (xe : Int) (n : Nat) (j : Nat) (cm : Nat) (ce : Int) : Bool :=
  if 64 < n ∨ 6 < j then false
  else
    let a := xm ^ n
    let ea := xe * n
    let b := cm ^ (2 ^ j)
    let eb := ce * (2 ^ j : Nat)
    let lo := min ea eb
    if 100000 < (ea - lo) + (eb - lo) then false
    else a * 2 ^ (ea - lo).toNat == b * 2 ^ (eb - lo).toNat
/-- Powers at rising precision; a value that stays between two roundings is tested for an exact tie. -/
def Fmt.powZiv (f : Fmt) (xm : Nat) (xe : Int) (yn : Bool) (ym : Nat) (ye : Int) : Nat → Nat → Nat
  | 0, P => let v := fxPow xm xe yn ym ye P; f.roundI false v.1 (v.2 - P)
  | i + 1, P =>
    let v := fxPow xm xe yn ym ye P
    let lo := v.1 - (2 ^ 48 : Nat)
    let hi := v.1 + (2 ^ 48 : Nat)
    let r := f.roundI false lo (v.2 - P)
    if r = f.roundI false hi (v.2 - P) then r
    else
      -- the only values that no precision decides are exact ties: prec + 1 significant bits, or half the least subnormal
      let q := max (f.emin - 1) (v.2 - f.prec)
      let cm := (v.1 + (2 ^ (P + (q - v.2)).toNat / 2 : Nat)) / (2 ^ (P + (q - v.2)).toNat : Nat)
      let n := if 0 ≤ ye then ym * 2 ^ (min 64 ye.toNat) else ym
      let j := if 0 ≤ ye then 0 else (-ye).toNat
      let tz := (List.range 64).foldl (fun (a : Nat × Nat) _ => if a.1 % 2 = 0 ∧ a.2 ≠ 0 then (a.1 / 2, a.2 - 1) else a) (n, j)
      if !yn && powExact xm xe tz.1 tz.2 cm.toNat q then f.round false cm.toNat q
      else if yn && powExact xm xe tz.1 tz.2 1 (-q) && cm == 1 then f.round false 1 q
      else f.powZiv xm xe yn ym ye i (2 * P)
/-- pow(x, y) (IEEE 754 clause 9.2). -/
def Fmt.pow (f : Fmt) (x y : Nat) : Nat :=
  if f.isZero y || x == f.one then (if f.isNaN x || f.isNaN y then f.nan else f.one)
  else
    let odd := (f.isInt y).2
    match f.dec x, f.dec y with
    | .nan, _ => f.nan
    | _, .nan => f.nan
    | .fin s m e, .inf t =>
      let c := f.cmp (f.abs x) f.one
      if c == some .eq then f.one
      else if (c == some .lt) == t then f.inf false else (let _ := (s, m, e); 0)
    | .inf _, .inf t => if t then 0 else f.inf false
    | .inf s, .fin t _ _ => if t then f.sign (s && odd) else f.inf (s && odd)
    | .fin s m e, .fin t n k =>
      if m = 0 then (if t then f.inf (s && odd) else f.sign (s && odd))
      else if s && !(f.isInt y).1 then f.nan
      else
        let lg : Int := e + (Nat.log2 m : Nat)
        -- |y| * |log2 x| beyond every exponent: decided without evaluation
        let far := decide (40 < k + (Nat.log2 n : Nat))
        let r :=
          if f.eq (f.abs x) f.one then f.one
          else if far then (if decide (0 ≤ lg) == !t then f.inf false else 0)
          else f.powZiv m e t n k 6 128
        if s && odd then f.neg r else r

end Sys2Proof.Machine
end

