-- ==== Sys2Proof/Machine/Time.lean ====
section
/-! DEFINITION. Time bases and clock views (07_time.md), and the passage of time. -/
namespace Sys2Proof.Machine

/-! ### The clock -/

/-- INC of a time base (R159). -/
def State.tbInc (s : State) (b : Nat) : Nat := s.rd64 (R.TB_INCR_LO b) % 2 ^ 40
/-- The slew increment of a time base (R160). -/
def State.tbSlew (s : State) (b : Nat) : Nat := s.rd64 (R.TB_SLEW_INCR_LO b) % 2 ^ 40
/-- What `n` TUCLK edges add to a time base: the slew increment for the edges still to go, then INC (R159, R160). -/
def State.tbAdd (s : State) (b n : Nat) : Nat :=
  let m := min n (s.rd (R.TB_SLEW_COUNT b))
  m * s.tbSlew b + (n - m) * s.tbInc b
/-- `n` edges of one time base: accumulator, slew count, milliseconds since the last write of TB_INCR_HI (R159, R160, R165). -/
def State.tbRun (n : Nat) (s : State) (b : Nat) : State :=
  let f := nth s.tmu.holdFrac b 0 + n
  let a := (nth s.tmu.acc b 0 + s.tbAdd b n) % 2 ^ 96
  let s := s.wr (R.TB_SLEW_COUNT b) (s.rd (R.TB_SLEW_COUNT b) - n)
  let s := s.addSat (R.TB_HOLD_TIME b) (f / 1000000)
  { s with tmu := { s.tmu with acc := modAt s.tmu.acc b (fun _ => a), holdFrac := modAt s.tmu.holdFrac b (fun _ => f % 1000000) } }
/-- A supply feeds the module (Table 02-17). -/
def State.fed (s : State) : Bool := s.bit R.PCM_STATUS 4 || s.bit R.PCM_STATUS 5
/-- The module's clocks are stopped: low tide (R31). -/
def State.lowTide (s : State) : Bool := s.fld R.PCM_STATUS 2 0 == 3
/-- Operating time counts while a supply is valid, low tide included (R62). -/
def State.opTime (s : State) (n : Nat) : State :=
  let t := s.pwr.opNs + n
  ({ s with pwr := { s.pwr with opNs := t % 62500000 } } : State).wr64 R.PCM_OP_HOURS_LO (s.rd64 R.PCM_OP_HOURS_LO + t / 62500000)
/-- TX_LPI_TIME counts us while a port signals low-power idle (R127). -/
def State.lpiTime (s : State) (n : Nat) : State :=
  ((List.range 48).filter (fun p => s.bit (R.PRT_STATUS p) 9)).foldl (fun s p =>
    let t := mapGet s.net.lpiNs p 0 + n
    ({ s with net := { s.net with lpiNs := mapPut s.net.lpiNs p (t % 1000) } } : State).portCnt p 49 (t / 1000)) s
/-- A change of a view's offset: STEP and CV_STEPS where it moves the view (R163). -/
def State.moveView (s : State) (v : Nat) (O : Int) : State :=
  let old := s.viewOff v
  let s := s.setViewOff v O
  s.onIf (s.viewOff v != old) (fun s => (s.setB R.TMU_EVENTS (4 + v) true).addWrap (R.CV_STEPS v) 1)
/-- The offset with which a view reads a time, in 2^-16 ns, at this instant (R163). -/
def State.offFor (s : State) (v t : Nat) : Int := ((t : Int) - (nth s.tmu.acc (s.fld (R.CV_BIND v) 1 0) 0 / 65536 : Nat)) * 65536
/-- A time base enters holdover (R165). -/
def State.holdEnter (s : State) (b : Nat) : State :=
  s.onIf (!s.bit (R.TB_STATUS b) 0) (fun s => (s.setB (R.TB_STATUS b) 0 true).setB R.TMU_EVENTS b true)
/-- The changes of one view at an edge, in the order set, absolute offset, step; they count as one (R163). -/
def State.edgeView (es : List TmuEdge) (s : State) (v : Nat) : State :=
  let set := es.filterMap (fun e => match e with | .set w t => if w = v then some t else none | _ => none)
  let off := es.filterMap (fun e => match e with | .off w O => if w = v then some O else none | _ => none)
  let stp := es.filterMap (fun e => match e with | .step w d => if w = v then some d else none | _ => none)
  if set.isEmpty && off.isEmpty && stp.isEmpty then s
  else
    let O := match set.getLast? with | some t => s.offFor v t | none => s.viewOff v
    let O := off.getLastD O
    (s.moveView v (O + stp.sum)).onIf (!set.isEmpty) (fun s => s.setB R.TMU_EVENTS 24 true)
/-- FORCE_HOLD of one time base at an edge: a write of TB_INCR_HI in the same clock wins (R165). -/
def State.edgeHold (es : List TmuEdge) (s : State) (b : Nat) : State :=
  s.onIf (es.contains (.hold b) && !es.contains (.incr b)) (fun s => s.holdEnter b)
/-- A TUCLK edge applies what waits for it (R163 to R165). -/
def State.edgeApply (s : State) : State :=
  let es := s.tmu.edge
  let s := (List.range 8).foldl (State.edgeView es) { s with tmu := { s.tmu with edge := [] } }
  (List.range 4).foldl (State.edgeHold es) s
/-- Something waits for the next TUCLK edge. -/
def State.atEdge (s : State) (e : TmuEdge) : State := { s with tmu := { s.tmu with edge := s.tmu.edge ++ [e] } }
/-- `n` TUCLK edges of the time bases and the free-running counter. -/
def State.tbEdges (s : State) (n : Nat) : State := (List.range 4).foldl (State.tbRun n) { s with now := s.now + n }
/-- A lane, and its change. -/
def State.lane (s : State) : Lane → LaneSt
  | .a => s.laneA
  | .b => s.laneB
def State.setLane (s : State) (l : Lane) (x : LaneSt) : State :=
  match l with
  | .a => { s with laneA := x }
  | .b => { s with laneB := x }
def State.modLane (s : State) (l : Lane) (f : LaneSt → LaneSt) : State := s.setLane l (f (s.lane l))
/-- Tokens in DONE whose 16 ns have passed become FREE (R257). -/
def LaneSt.doneFree (x : LaneSt) (now : Nat) : LaneSt := { x with toks := x.toks.filter (fun t => t.st != 5 || decide (now < t.till)) }
/-- The same in one lane, with its counts of tokens. -/
def State.toksFreeIn (s : State) (l : Lane) : State :=
  if (s.lane l).toks.any (fun t => t.st == 5 && decide (t.till ≤ s.now)) then
    let x := (s.lane l).doneFree s.now
    ((s.setLane l x).wr (R.SCH_TOK_FREE l) (65536 - x.toks.length)).wr (R.SCH_TOK_DONE l) (x.toks.filter (fun t => t.st == 5)).length
  else s
def State.toksFree (s : State) : State := (s.toksFreeIn .a).toksFreeIn .b
/-- `n` clocks of 1.0 GHz pass: the free-running counter, the time bases while the fast clocks run, operating time, the
ages of FDB entries (R62, R127, R143, R147, R159). -/
def State.elapse (s : State) (n : Nat) : State :=
  let a := (s.now % 1000000000 + n) / 1000000000
  let s := s.onIf s.fed (fun s => s.opTime n)
  if s.lowTide then s
  else
    -- the first edge takes what waits for it
    let s := (if n = 0 || s.tmu.edge.isEmpty then s.tbEdges n else (s.tbEdges 1).edgeApply.tbEdges (n - 1)).lpiTime n
    let s := s.toksFree
    if a = 0 then s
    else
      let es := s.regs.filterMap (fun e =>
        if R.SWC_FDB1 0 ≤ e.1 ∧ e.1 < R.SWC_FDB1 32768 ∧ (e.1 - R.SWC_FDB1 0) % 16 = 0 ∧ e.2.testBit 28
        then some ((e.1 - R.SWC_FDB1 0) / 16) else none)
      es.eraseDups.foldl (fun s e => s.addSatF (R.SWC_FDB3 e) 15 0 a) s

/-- What a step does while no command waits: one clock passes (log entry 1). -/
def tick (s : State) : Host.Outcome State Fault Refusal := finish s (s.elapse 1)

/-! ### Time bases (R159, R160, R165) -/

/-- The low word held on a path for a pair is applied with its high word, or the high word alone (R5). -/
def State.pairLow (s : State) (p : Path) (lo : Nat) : State :=
  match s.heldGet p lo with
  | some v => (s.wr lo v).heldDel p lo
  | none => s
/-- A write of TB_INCR_HI: INC applies, holdover ends, its time restarts (R159, R165). -/
def State.tbIncr (s : State) (p : Path) (b v : Nat) : State :=
  let s := (s.pairLow p (R.TB_INCR_LO b)).wr (R.TB_INCR_HI b) (v % 256)
  let s := (s.wr (R.TB_HOLD_TIME b) 0).setB (R.TB_STATUS b) 0 false
  ({ s with tmu := { s.tmu with holdFrac := modAt s.tmu.holdFrac b (fun _ => 0) } } : State).atEdge (.incr b)
/-- A write of TB_INCR_HI on a path (R159). -/
def execTbIncrWrite (p : Path) (b : Tb) (v : Word) (s : State) : Host.Outcome State Fault Refusal :=
  finish s (s.tbIncr p b.val v.toNat)
/-- A write of TB_SLEW_COUNT (R160). -/
def State.slewStart (s : State) (b v : Nat) : State :=
  (s.wr (R.TB_SLEW_COUNT b) v).setB (R.TB_STATUS b) 1 (v != 0)
/-- A write of TB_SLEW_COUNT: a slew starts, restarts or ends (R160). -/
def execSlewStart (b : Tb) (v : Word) (s : State) : Host.Outcome State Fault Refusal := finish s (s.slewStart b.val v.toNat)
/-- The last edge of a slew: the edges still to go pass, SLEWING falls (R160). -/
def execSlewDone (b : Tb) (s : State) : Host.Outcome State Fault Refusal :=
  finish s (s.onIf (s.bit (R.TB_STATUS b.val) 1) (fun s =>
    ((s.elapse (s.rd (R.TB_SLEW_COUNT b.val))).setB (R.TB_STATUS b.val) 1 false).setB R.TMU_EVENTS (25 + b.val) true))
/-- The clocks until a time base's TB_HOLD_TIME reaches a number of ms. -/
def State.toHoldTime (s : State) (b ms : Nat) : Nat := ms * 1000000 - (s.rd (R.TB_HOLD_TIME b) * 1000000 + nth s.tmu.holdFrac b 0)
/-- TIMEOUT ms have passed without a write of TB_INCR_HI (R165). -/
def execHoldTimeout (b : Tb) (s : State) : Host.Outcome State Fault Refusal :=
  finish s (
    let t := s.fld (R.TB_HOLD_CFG b.val) 15 0
    s.onIf (t != 0 && !s.bit (R.TB_STATUS b.val) 0) (fun s => (s.elapse (s.toHoldTime b.val t)).holdEnter b.val))
/-- FORCE_HOLD, at the next TUCLK edge (R165). -/
def execForceHold (b : Tb) (s : State) : Host.Outcome State Fault Refusal := finish s (s.atEdge (.hold b.val))

/-! ### Clock views (R161 to R166) -/

/-- VALID is cleared by the module (R166). -/
def State.validLost (s : State) (v : Nat) : State :=
  s.onIf (s.bit (R.CV_CTRL v) 0) (fun s => (s.setB (R.CV_CTRL v) 0 false).setB R.TMU_EVENTS (16 + v) true)
/-- The bound time base's TB_HOLD_TIME reaches VALID_LIMIT (R166). -/
def execValidLimit (c : Cv) (s : State) : Host.Outcome State Fault Refusal :=
  finish s (
    let lim := s.fld (R.CV_CTRL c.val) 31 16
    let b := s.fld (R.CV_BIND c.val) 1 0
    s.onIf (lim != 0 && s.bit (R.CV_BIND c.val) 4 && decide (s.rd (R.TB_HOLD_TIME b) ≤ lim)) (fun s =>
      (s.elapse (s.toHoldTime b lim)).validLost c.val))
/-- The staged absolute offset of a view, with the high word that applies it, in 2^-32 ns (R161, R163). -/
def State.stagedOff (s : State) (v hi : Nat) : Int :=
  let ns := mapGet s.tmu.staged (2 * v) (s.fld (R.CV_OFF_NS v) 29 0)
  let lo := mapGet s.tmu.staged (2 * v + 1) (s.rd (R.CV_OFF_SEC_LO v))
  (sgnW 48 (lo + two32 * bitsOf hi 15 0) * 1000000000 + (ns : Nat)) * 4294967296 + (bitsOf hi 31 16 : Nat) * 65536
/-- A write of CV_OFF_SEC_HI: the staged offset applies at the next TUCLK edge (R163). -/
def State.offsetWrite (s : State) (v hi : Nat) : State :=
  let o := s.stagedOff v hi
  ({ s with tmu := { s.tmu with staged := mapDel (mapDel s.tmu.staged (2 * v)) (2 * v + 1) } } : State).atEdge (.off v o)
/-- A write of CV_OFF_SEC_HI (R163). -/
def execOffsetWrite (c : Cv) (v : Word) (s : State) : Host.Outcome State Fault Refusal := finish s (s.offsetWrite c.val v.toNat)
/-- A write of CV_STEP_NS, with the staged fraction: the offset steps at the next TUCLK edge (R163). -/
def State.viewStep (s : State) (v d : Nat) : State :=
  let f := s.fld (R.CV_STEP_FRAC v) 15 0
  (s.wr (R.CV_STEP_FRAC v) 0).atEdge (.step v (sgn32 d * 4294967296 + (f : Nat) * 65536))
/-- A write of CV_STEP_NS (R163). -/
def execViewStep (c : Cv) (v : Word) (s : State) : Host.Outcome State Fault Refusal := finish s (s.viewStep c.val v.toNat)
/-- The time in the TMU_SET words, in 2^-16 ns. -/
def State.setTime (s : State) : Nat :=
  let hi := s.rd R.TMU_SET_SEC_HI
  ((s.rd R.TMU_SET_SEC_LO + two32 * bitsOf hi 15 0) * 1000000000 + s.fld R.TMU_SET_NS 29 0) * 65536 + bitsOf hi 31 16
/-- An armed set is applied: the view reads exactly the set time at this instant (R163, Table 07-1). -/
def State.setApply (s : State) (v : Nat) : State :=
  let s := s.moveView v (s.offFor v s.setTime)
  let s := (s.setB R.TMU_EVENTS 24 true).setB R.TMU_SET_CFG 31 false
  { s with tmu := { s.tmu with armed := none, setJustDone := true } }
/-- SET_VIEW: at the next TUCLK edge, or armed; it replaces an armed one; a view cannot wait for its own second (R164). -/
def State.setView (s : State) (v : Nat) : State :=
  let w := s.fld R.TMU_SET_CFG 1 0
  if w = 0 then ({ s.setB R.TMU_SET_CFG 31 false with tmu := { s.tmu with armed := none, setJustDone := false } } : State).atEdge (.set v s.setTime)
  else if w = 3 ∨ (w = 2 ∧ s.fld R.TMU_SET_CFG 6 4 = v) then s
  else { s.setB R.TMU_SET_CFG 31 true with tmu := { s.tmu with armed := some v, setJustDone := false } }
/-- TMU_CMD SET_VIEW (R164). -/
def execSetView (c : Cv) (s : State) : Host.Outcome State Fault Refusal := finish s (s.setView c.val)
/-- CANCEL_SET disarms an armed set, or is late (R164, R27). -/
def State.cancelSet (s : State) : State :=
  if s.tmu.armed.isSome then { s.setB R.TMU_SET_CFG 31 false with tmu := { s.tmu with armed := none } }
  else s.onIf s.tmu.setJustDone (fun s =>
    { s.setB R.TMU_STATUS 18 true with tmu := { s.tmu with setJustDone := false } })
/-- TMU_CMD CANCEL_SET (R164). -/
def execCancelSet (s : State) : Host.Outcome State Fault Refusal := finish s s.cancelSet
/-- ARMED_SET_APPLY: an armed set whose instant this is (R164). -/
def State.armedApply (s : State) (w : Nat) (ref : Nat) : State :=
  match s.tmu.armed with
  | some v => s.onIf (s.fld R.TMU_SET_CFG 1 0 == w && (w != 2 || s.fld R.TMU_SET_CFG 6 4 == ref)) (fun s => s.setApply v)
  | none => s

/-! ### 1PPS and the reference (R158, R172, R173) -/

/-- A rising edge of PPS_IN is captured (R172). -/
def State.ppsCapture (s : State) : State :=
  if !s.bit R.TMU_PPS_IN_CFG 0 then s
  else
    let t := s.viewTime (s.fld R.TMU_PPS_IN_CFG 3 1)
    let seq := s.fld R.TMU_PPSIN_INFO 31 16 + 1
    let s := s.wrs R.TMU_PPSIN_NS [t.1, t.2.1 % two32, t.2.1 / two32, t.2.2 + seq % 65536 * 65536]
    let s := s.onIf s.tmu.ppsUnread (fun s => s.setB R.TMU_EVENTS 13 true)
    { s.setB R.TMU_EVENTS 12 true with tmu := { s.tmu with ppsUnread := true } }
/-- A rising edge of PPS_IN: an armed set first, then the capture (R164, R172). -/
def execPpsInEdge (s : State) : Host.Outcome State Fault Refusal := finish s (s.armedApply 1 0).ppsCapture
/-- The edges until a view reaches its next second by running; none where it does not run (R161, R173). -/
def State.edgesToSecond (s : State) (v : Nat) : Option Nat :=
  let b := s.fld (R.CV_BIND v) 1 0
  let left := (1000000000 * 4294967296 - s.viewV v % (1000000000 * 4294967296)).toNat
  let c := s.rd (R.TB_SLEW_COUNT b)
  let sl := s.tbSlew b
  let up := fun (a d : Nat) => (a + d - 1) / d
  if sl != 0 && decide (up left sl ≤ c) then some (up left sl)
  else if s.tbInc b = 0 then none
  else some (c + up (left - c * sl) (s.tbInc b))
/-- A pulsed second joins the runs of those pulsed (R173). -/
def ppsPut (rs : List (Nat × Nat × Nat)) (v sec : Nat) : List (Nat × Nat × Nat) :=
  match rs with
  | (w, a, b) :: t => if w = v ∧ b + 1 = sec then (w, a, sec) :: t else (v, sec, sec) :: rs
  | [] => [(v, sec, sec)]
/-- A view reaches a second by running: an armed set of another view, then PPS_OUT in the states of Table 02-9 (R48, R164, R173). -/
def State.viewSecond (s : State) (v : Nat) : State :=
  let sec := (s.viewTime v).2.1
  let s := s.armedApply 2 v
  let past := s.tmu.ppsRuns.any (fun r => r.1 == v && decide (r.2.1 ≤ sec) && decide (sec ≤ r.2.2))
  if s.active && s.bit R.TMU_PPS_OUT_CFG 0 && s.fld R.TMU_PPS_OUT_CFG 3 1 == v && !past && !(s.bit R.TMU_PPS_OUT_CFG 4 && !s.viewValid v) then
    ({ s with tmu := { s.tmu with ppsRuns := ppsPut s.tmu.ppsRuns v sec }, pwr := { s.pwr with ppsOut := true } }).emit (.pin 0 true)
  else s
/-- PPS_OUT falls after WIDTH (R173). -/
def execPpsOutEnd (s : State) : Host.Outcome State Fault Refusal :=
  finish s (s.onIf s.pwr.ppsOut (fun s => ({ s with pwr := { s.pwr with ppsOut := false } }).emit (.pin 0 false)))
/-- REF10M_IN is lost: the PLL moves to the TCXO (R158). -/
def execRefLost (s : State) : Host.Outcome State Fault Refusal :=
  finish s (
    let s := s.setB R.TMU_STATUS 17 false
    s.onIf (s.bit R.TMU_CLK_CFG 0) (fun s => (s.setB R.TMU_STATUS 16 false).setB R.TMU_EVENTS 14 true))
/-- REF10M_IN is back: the PLL moves to it while REF_SEL is 1 (R158). -/
def execRefBack (s : State) : Host.Outcome State Fault Refusal :=
  finish s (
    let s := s.setB R.TMU_STATUS 17 true
    s.onIf (s.bit R.TMU_CLK_CFG 0) (fun s => (s.setB R.TMU_STATUS 16 true).setB R.TMU_EVENTS 15 true))

end Sys2Proof.Machine
end

