-- ==== Sys2Proof/Machine/Ingest.lean ====
section
/-! DEFINITION. Stream ingest and the modulator filter chains (08_stream_ingest.md), and the prediction formula of R232. -/
namespace Sys2Proof.Machine

/-- 0 for lane A, 1 for lane B. -/
def laneIx : Lane → Nat
  | .a => 0
  | .b => 1
/-- A health bit of a lane is reported to the wardens (R364); a FAULT bit sets FAULT_A or FAULT_B (R385). -/
def State.healthBit (s : State) (l : Lane) (b : Nat) : State :=
  (s.setB (R.WDN_HEALTH (laneIx l)) b true).onIf (decide (b < 12)) (fun s => s.setB R.WDN_EVENTS (2 + laneIx l) true)

/-! ### Links (R197 to R201) -/

def State.link (s : State) : Lane → List IMsg
  | .a => s.ing.linkA
  | .b => s.ing.linkB
def State.setLink (s : State) (l : Lane) (q : List IMsg) : State :=
  match l with
  | .a => { s with ing := { s.ing with linkA := q } }
  | .b => { s with ing := { s.ing with linkB := q } }
/-- A link is held: ING_STATUS.HOLD_A, HOLD_B (R201). -/
def State.linkHeld (s : State) (l : Lane) : Bool := s.bit R.ING_STATUS (1 + laneIx l)
/-- A message as it goes over a link: words 0 to 3, the payload, a CRC-32C over them (R197). -/
def IMsg.wire (m : IMsg) : List Nat :=
  let body := m.pay ++ (List.range ((m.bytes.length + 3) / 4)).map (fun i => leNat (sliceB m.bytes (4 * i) 4))
  let ws := [m.typ + m.set * 256 + body.length * 1048576, m.seq, m.idx, m.verdict + m.gen * 65536] ++ body
  ws ++ [crc32c (wordsBytes ws)]
/-- Bytes of a message on the link: four words, the payload, the CRC. -/
def IMsg.size (m : IMsg) : Nat := 4 * (5 + m.pay.length + (m.bytes.length + 3) / 4)
/-- Bytes in a link's output queue. -/
def State.linkFill (s : State) (l : Lane) : Nat := ((s.link l).map IMsg.size).sum
/-- The links on which drops are judged: those not held (R201). -/
def State.bpFill (s : State) : Nat :=
  max (if s.linkHeld .a then 0 else s.linkFill .a) (if s.linkHeld .b then 0 else s.linkFill .b)
/-- Above the high mark of ING_BP_CFG, and within 32 KiB of full (R200). -/
def State.bpHigh (s : State) : Bool := decide (s.fld R.ING_BP_CFG 7 0 * 2048 < s.bpFill)
def State.bpFull (s : State) : Bool := decide (524288 - 32768 ≤ s.bpFill)
/-- ING_STATUS and the crest marks follow the queues. -/
def State.bpRefresh (s : State) : State :=
  let a := s.linkFill .a
  let b := s.linkFill .b
  let s := (s.setB R.ING_STATUS 3 s.bpHigh).setB R.ING_STATUS 4 s.bpFull
  (s.crest (R.ING_Q_CREST 0) a).crest (R.ING_Q_CREST 1) b
/-- A message enters both links with one SEQ (R197). -/
def State.ingPut (s : State) (typ set idx verdict gen : Nat) (pay : List Nat) (bytes : Bytes) : State :=
  let m : IMsg := { typ := typ, seq := s.ing.seq, set := set, idx := idx, verdict := verdict, gen := gen, pay := pay, bytes := bytes }
  let s := s.wr R.ING_LINK_SEQ s.ing.seq
  let s : State := { s with ing := { s.ing with
    seq := idxAdd s.ing.seq 1
    linkA := if s.linkHeld .a then s.ing.linkA else s.ing.linkA ++ [m]
    linkB := if s.linkHeld .b then s.ing.linkB else s.ing.linkB ++ [m] } }
  s.bpRefresh
/-- The GAP record of a run of dropped indices (R200): cause 1 back-pressure, 2 settling. -/
def State.ingGap (s : State) (typ set first count cause gen : Nat) : State :=
  s.ingPut 7 set first 0 gen [typ + count * 256 + cause * 65536] []
/-- The run of dropped indices of a stream, channel or entry ends: its GAP record is sent. -/
def State.endDrops (s : State) (typ set gen : Nat) : State :=
  match s.ing.drops.find? (fun d => d.1 == typ && d.2.1 == set) with
  | none => s
  | some d =>
    ({ s with ing := { s.ing with drops := s.ing.drops.erase d } }).ingGap typ set d.2.2.1 d.2.2.2 1 gen
/-- A run of dropped indices begins. -/
def State.dropBegin (s : State) (typ set idx : Nat) : State := { s with ing := { s.ing with drops := (typ, set, idx, 1) :: s.ing.drops } }
/-- An index is dropped: counted once, it joins the run of the indices before it, which is reported when it reaches 255 indices, or
when the next index does not follow it (R200). -/
def State.ingDrop (s : State) (typ set idx gen : Nat) : State :=
  let s := s.setB R.ING_EVENTS 3 true
  match s.ing.drops.find? (fun d => d.1 == typ && d.2.1 == set) with
  | none => (s.addSat R.ING_GAP_COUNT 1).dropBegin typ set idx
  | some d =>
    if idxSub idx d.2.2.1 < d.2.2.2 then s
    else
      let s := s.addSat R.ING_GAP_COUNT 1
      if idxSub idx d.2.2.1 ≠ d.2.2.2 then (s.endDrops typ set gen).dropBegin typ set idx
      else
        let s : State := { s with ing := { s.ing with drops := (typ, set, d.2.2.1, d.2.2.2 + 1) :: s.ing.drops.erase d } }
        if 255 ≤ d.2.2.2 + 1 then s.endDrops typ set gen else s
/-- A message that back-pressure may drop (R200): SAMPLE of a PRIO 0 stream above the high mark; SAMPLE, MOD, GOOSE and FRAME near full. -/
def State.ingSend (s : State) (typ set idx verdict gen : Nat) (pay : List Nat) (bytes : Bytes) : State :=
  if s.bpFull || (typ == 3 && s.bpHigh && !s.bit (R.ING_SV0 set) 24) then s.ingDrop typ set idx gen
  else (s.endDrops typ set gen).ingPut typ set idx verdict gen pay bytes
/-- A link is held: nothing further is sent on it and its queue is discarded (R201). -/
def State.holdLink (s : State) (l : Lane) : State :=
  if s.linkHeld l then s
  else ((s.setLink l []).setB R.ING_STATUS (1 + laneIx l) true).setB R.ING_EVENTS 8 true |>.bpRefresh
/-- A link that has accepted nothing for two periods (R201); its lane is reported to the wardens. -/
def execIngestLinkHold (l : Lane) (s : State) : Host.Outcome State Fault Refusal :=
  finish s (s.onIf (!s.linkHeld l) (fun s => (s.holdLink l).healthBit l 2))

/-! ### The pacer (R177, R178) -/

/-- The nominal period in 2^-32 ns. -/
def State.paceNom (s : State) : Nat :=
  if s.bit R.ING_PACE_CFG 0 then 69444 * 4294967296 + 0x71C71C72 else 208333 * 4294967296 + 0x55555555
/-- FS of the lanes. -/
def State.fs (s : State) : Nat := if s.bit R.ING_PACE_CFG 0 then 14400 else 4800
/-- A period held within 100 ppm of nominal (R178). -/
def State.paceClamp (s : State) (p : Nat) : Nat :=
  max (s.paceNom - s.paceNom / 10000) (min (s.paceNom + s.paceNom / 10000) p)
def State.pacePeriod (s : State) : Nat := s.rd R.ING_PACE_PERIOD_LO + two32 * s.fld R.ING_PACE_PERIOD_HI 19 0
def State.setPeriod (s : State) (p : Nat) : State :=
  (s.wr R.ING_PACE_PERIOD_LO (p % two32)).wr R.ING_PACE_PERIOD_HI (p / two32)
/-- A write of ING_PACE_PERIOD_HI on a path; the interval from the next boundary on takes the period (R178). -/
def State.periodWrite (s : State) (p : Path) (v : Nat) : State :=
  let s := (s.pairLow p R.ING_PACE_PERIOD_LO).wr R.ING_PACE_PERIOD_HI (v % 2 ^ 20)
  s.setPeriod (s.paceClamp s.pacePeriod)
/-- ING_PACE_PERIOD_HI is written (R178). -/
def execPacePeriodWrite (p : Path) (v : Word) (s : State) : Host.Outcome State Fault Refusal := finish s (s.periodWrite p v.toNat)
/-- ING_PACE_SHIFT reads the whole nanoseconds still to apply, truncated toward 0 (R178). -/
def State.setShift (s : State) (d : Int) : State :=
  { s.wr R.ING_PACE_SHIFT (u32 (if d < 0 then -(-d / 4294967296) else d / 4294967296)) with ing := { s.ing with shift := d } }
/-- A write of ING_PACE_SHIFT replaces what remains (R178). -/
def execPaceShiftWrite (v : Word) (s : State) : Host.Outcome State Fault Refusal :=
  finish s (s.setShift (sgn32 v.toNat * 4294967296))
/-- The pacer runs to its next boundary, and takes the period and up to 100 ppm of nominal of the shift for the interval that
begins there (R178). The first boundary falls at this clock. -/
def State.paceNext (s : State) : State :=
  let due := if s.bit R.ING_STATUS 0 then s.ing.next else s.now * 4294967296
  let s := s.elapse (due / 4294967296 - s.now)
  let lim : Int := (s.paceNom / 10000 : Nat)
  let d := clampI (-lim) lim s.ing.shift
  let p := s.pacePeriod
  let s := s.setShift (s.ing.shift - d)
  { s with ing := { s.ing with due := due, per := p, next := ((due + p : Nat) + d).toNat } }
/-- The first index after the latest boundary whose boundary falls at least `lead` ns from now. -/
def State.indexAfter (s : State) (lead : Nat) : Nat :=
  idxAdd (s.rd R.ING_INDEX) (1 + ceilDiv ((s.now + lead) * 4294967296 - s.ing.next) s.pacePeriod)
/-- Ingest issues boundaries and accepts messages: after boundary 0, and not in low tide (R177, R202). -/
def State.ingLive (s : State) : Bool := s.bit R.ING_STATUS 0 && (s.power == 2 || (s.power == 4 && s.pwr.ltWaitX))
/-- The instant of index k's deadline in 2^-32 ns: boundary k + LATE (R183); none where its boundary is not among those remembered. -/
def State.deadlineOf (s : State) (k : Nat) : Option Nat :=
  (s.ing.bAt.lookup k).map (fun t => t + min 1000 (s.fld R.ING_PACE_CFG 25 16) * 1000 * 4294967296)
/-- The deadline of index k has passed, or falls in this clock (R183). -/
def State.deadPast (s : State) (k : Nat) : Bool :=
  s.ing.dead.any (fun x => idxGe x k) || (s.deadlineOf k).any (fun t => decide (t ≤ s.now * 4294967296))

/-! ### Indices below the X of an exchange (R83, R203) -/

/-- Index k lies below the X of the last exchange. -/
def State.below (s : State) (k : Nat) : Bool :=
  match s.ldr.was with
  | some (x, _) => idxLater x k && decide (idxSub x k < 65536)
  | none => false
/-- The state from which the configuration of index k is read: below X, ingest's and the lanes' registers as they were before it. -/
def State.cfgAt (s : State) (k : Nat) : State :=
  match s.ldr.was with
  | some (_, old) => if s.below k then { s with regs := old ++ s.regs.filter (fun e => !isIndexCfg e.1) } else s
  | none => s
/-- The image-loaded fields of the registers of ingest and of the lanes' engines take those of a list. -/
def State.putCfg (s : State) (c : List (Nat × Nat)) : State :=
  ((c ++ s.regs.filter (fun e => isIndexCfg e.1)).map (·.1)).eraseDups.foldl (fun s k =>
    let m := imgMask k
    s.wr k (s.rd k - (s.rd k &&& m) + (cellGet resetVal c k &&& m))) s
/-- An operation on work below X, under the configuration of before it. -/
def State.under (s : State) (f : State → State) : State :=
  match s.ldr.was with
  | none => f s
  | some (_, old) => (f (s.putCfg old)).putCfg (s.regs.filter (fun e => isIndexCfg e.1))

/-! ### Prediction (R187, R232) -/

/-- cos(2 pi i / n) or sin with P fraction bits; the exact zeros are exact. -/
def fxUnit (i n : Nat) (co : Bool) (P : Nat) : Int :=
  let q := 4 * i / n
  let r := fxPi P * ((4 * i % n : Nat) : Int) / (2 * n : Nat)
  let r2 := fxMul P r r
  let sn := if 4 * i % n = 0 then 0 else trigSum P r2 (P / 3 + 8) 1 r
  let cs := trigSum P r2 (P / 3 + 8) 0 (2 ^ P : Nat)
  match (q + (if co then 1 else 0)) % 4 with
  | 0 => sn
  | 1 => cs
  | 2 => -sn
  | _ => -cs
/-- The nearest binary32 of a * unit / d (R232). -/
def unitCoef (i n : Nat) (co : Bool) (a : Int) (d : Nat) : Nat :=
  if fxUnit i n co 128 = 0 then 0 else f32.ziv (fun P => a * fxUnit i n co P / (d : Nat)) 6 128
/-- The prediction of one channel from its last N values, oldest first (R232). -/
def predictOne (n : Nat) (xs : List Nat) : Nat :=
  let w := f32.roundQ false 1 n 0
  let st := xs.zipIdx.foldl (fun (a : Nat × Nat × Nat) x =>
    (f32.fma w x.1 a.1, f32.fma (unitCoef x.2 n true 2 n) x.1 a.2.1, f32.fma (unitCoef x.2 n false (-2) n) x.1 a.2.2)) (0, 0, 0)
  let p := f32.fma st.2.1 (unitCoef 2 n true 1 1) st.1
  f32.fma (f32.neg st.2.2) (unitCoef 2 n false 1 1) p

/-! ### Streams (R179 to R188) -/

def State.svRt (s : State) (i : Nat) : SvRt := mapGet s.ing.sv i {}
def State.setSv (s : State) (i : Nat) (r : SvRt) : State := { s with ing := { s.ing with sv := mapPut s.ing.sv i r } }
def State.svEn (s : State) (i : Nat) : Bool := s.bit (R.ING_SV0 i) 31
def State.svNch (s : State) (i : Nat) : Nat := s.fld (R.ING_SV0 i) 23 18
def State.svState (s : State) (i : Nat) : Nat := s.fld (R.ING_SV_STAT0 i) 1 0
def State.setSvState (s : State) (i st : Nat) : State := s.setF (R.ING_SV_STAT0 i) 1 0 st
/-- L, M and T of a stream's resampler (R185). -/
def State.svL (s : State) (i : Nat) : Nat := max 1 (s.fld (R.ING_SV4 i) 17 16)
def State.svM (s : State) (i : Nat) : Nat := max 1 (s.fld (R.ING_SV4 i) 22 18)
def State.svT (s : State) (i : Nat) : Nat := s.fld (R.ING_SV4 i) 28 23
def State.svOwner (s : State) (i : Nat) : Nat := s.fld (R.ING_SV5 i) 27 16
/-- The channel table entry of channel c. -/
def State.svCh (s : State) (i c : Nat) : Nat := s.fld (R.ING_SV4 i) 13 0 + c
/-- The enabled streams. -/
def State.svAll (s : State) : List Nat := (s.listed R.ING_SV0 1024).filter (fun i => s.svEn i)
/-- The position to which index k maps (R182). -/
def State.svPos (s : State) (i k : Nat) : Nat := idxAdd (s.svRt i).u0 (k * s.svM i / s.svL i)
/-- The indices around the latest boundary to which a position belongs (R182): J is at most 255 positions, three indices each. -/
def State.svIdx (s : State) (i pos : Nat) : List Nat :=
  ((List.range 2001).map (fun d => idxSub (s.rd R.ING_INDEX + d) 1000)).filter (fun k => s.svPos i k == pos)
/-- A quality word is good (R186). -/
def State.qGood (s : State) (q : Nat) : Bool := q % 4 == 0 && (q &&& s.rd R.ING_QMASK) == 0
/-- MISSING, substituted, invalid (R184). -/
def missQ : Nat := 0x10401
/-- The values of an input: the counts with the channels' SCALE, or what was substituted (R184, R186). -/
def State.svScaled (s : State) (i : Nat) (e : SvSet) : SvSet :=
  if e.subst then e
  else { e with vals := e.vals.zipIdx.map (fun v => f32.mul (f32.ofInt (sgn32 v.1)) (s.rd (R.ING_CH_SCALE (s.svCh i v.2)))) }
/-- The input of a position, or what R184 substitutes: the value before it, or 0.0. -/
def State.svIn (s : State) (i pos : Nat) : SvSet :=
  match (s.svRt i).ins.find? (fun e => e.key == pos) with
  | some e => s.svScaled i e
  | none =>
    let hold := ((s.svRt i).ins.find? (fun e => idxLater pos e.key)).map (s.svScaled i)
    let vals := match s.fld (R.ING_SV0 i) 29 28, hold with
      | 2, _ => List.replicate (s.svNch i) 0
      | _, some e => e.vals
      | _, none => List.replicate (s.svNch i) 0
    { key := pos, vals := vals, quals := List.replicate (s.svNch i) missQ, subst := true }
/-- The set of index k from the inputs (R185). -/
def State.svBuild (s : State) (i k : Nat) : SvSet :=
  let l := s.svL i
  let m := s.svM i
  let b := s.svPos i k
  if l = 1 ∧ m = 1 then { s.svIn i b with key := k }
  else
    let t := max 1 (s.svT i)
    let h := (List.range t).map (fun j => s.rd (R.ING_RS_COEF (s.fld (R.ING_SV5 i) 14 0 + k * m % l * t + j)))
    let xs := (List.range t).map (fun j => s.svIn i (idxSub b j))
    { key := k
      vals := (List.range (s.svNch i)).map (fun c =>
        (h.zip xs).foldl (fun a e => f32.fma e.1 (nth e.2.vals c 0) a) 0)
      quals := (List.range (s.svNch i)).map (fun c =>
        (h.zip xs).foldl (fun q e => if f32.isZero e.1 then q else q ||| nth e.2.quals c 0) 0x20000)
      subst := (h.zip xs).any (fun e => !f32.isZero e.1 && e.2.subst) }
/-- The test of one channel (R188): none where it passes, else its cause. -/
def State.fbTest (s : State) (i c x q p : Nat) : Option Nat :=
  let e := s.svCh i c
  let fb := f32.fma (s.rd (R.ING_CH_FB_REL e)) (f32.abs p) (s.rd (R.ING_CH_FB_ABS e))
  let d := f32.abs (f32.sub x p)
  let bad := f32.isNaN x || f32.isNaN p || f32.isNaN d || f32.isNaN fb || f32.lt fb 0 || f32.isInf x || f32.isInf p
  if s.qGood q && !bad && f32.le d fb then none
  else if q.testBit 16 then some 3
  else if !s.qGood q then some 2
  else some 1
/-- VERDICT, FIRST_FAIL and CAUSE of a set, as word 3 of its message holds them (R188, R197). -/
def State.svVerdict (s : State) (i : Nat) (e : SvSet) : Nat :=
  match (s.svRt i).preds.lookup e.key with
  | none => 0
  | some p =>
    match (List.range (s.svNch i)).findSome? (fun c =>
        if s.bit (R.ING_CH_FB_EN (s.svCh i c)) 0 then
          (s.fbTest i c (nth e.vals c 0) (nth e.quals c 0) (nth p c 0)).map (fun z => (c, z)) else none) with
    | none => 1
    | some (c, z) => 2 + c * 4 + z * 256
/-- Prediction set of index m, when R187 lets it be sent. -/
def State.svPredict (s : State) (i m : Nat) : State :=
  let r := s.svRt i
  let n := s.fs / (if s.bit R.SLU_SPEC_CFG 0 then 60 else 50)
  let e := idxSub m 3
  let ks := (List.range n).map (fun j => idxAdd (idxSub e (n - 1)) j)
  let sets := ks.filterMap (fun k => r.sets.find? (fun x => x.key == k))
  let ok := s.svState i == 2 && (List.range (s.svNch i)).any (fun c => s.bit (R.ING_CH_FB_EN (s.svCh i c)) 0) &&
    (r.preds.lookup m).isNone && !r.sent.contains m && sets.length == n && sets.all (fun x => !x.subst) &&
    (match r.predFrom with | some x => idxGe (idxSub e (n - 1)) x | none => true)
  if !ok then s
  else
    let p := (List.range (s.svNch i)).map (fun c => predictOne n (sets.map (fun x => nth x.vals c 0)))
    (s.setSv i { r with preds := (m, p) :: r.preds.take 8 }).ingPut 2 i m 0 (s.viGen (s.svOwner i)) p []
/-- The SAMPLE message of a complete set; before its boundary it waits (R188, R197). -/
def State.svSend (s : State) (i k : Nat) : State :=
  let r := s.svRt i
  if r.sent.contains k then s
  else if !s.bit R.ING_STATUS 0 || idxLater k (s.rd R.ING_INDEX) then
    { s with ing := { s.ing with early := s.ing.early.filter (· != (i, k)) ++ [(i, k)] } }
  else
    match r.sets.find? (fun x => x.key == k) with
    | none => s
    | some e =>
      let s := s.setSv i { r with sent := k :: r.sent.take 400 }
      let pay := (e.vals.zip e.quals).flatMap (fun v => [v.1, v.2])
      let s := s.ingSend 3 i k ((s.cfgAt k).svVerdict i e) (s.viGen (s.svOwner i)) pay []
      if idxLater (idxAdd k 1) (s.rd R.ING_INDEX) then s else s.svPredict i (idxAdd k 3)
/-- The set of an index is complete (R185). -/
def State.svComplete (s : State) (i k : Nat) : State :=
  let r := s.svRt i
  if r.sets.any (fun x => x.key == k) then s
  else (s.setSv i { r with sets := (s.cfgAt k).svBuild i k :: r.sets.take 400 }).svSend i k
/-- An ASDU opens LOCKING (R182). -/
def State.svOpen (s : State) (i cnt : Nat) : State :=
  (s.setSv i { s.svRt i with u := 0, cnt := cnt, run := 1, recv := [0], ins := [], nomiss := 0 }).setSvState i 1
/-- An accepted ASDU is on time: its values enter the set of its index (R183, R186). -/
def State.svOnTime (s : State) (i pos : Nat) (raw : List (Nat × Nat)) : State :=
  let ks := s.svIdx i pos
  let r := s.svRt i
  let e : SvSet := { key := pos, vals := raw.map (·.1), quals := raw.map (·.2), subst := false }
  let ins := e :: (r.ins.filter (fun x => x.key != pos)).take 640
  let s := s.setSv i { r with ins := ins, nomiss := 0 }
  let ref := s.rd R.ING_PACE_REF
  let s := match ks.head? with
    | some k =>
      let due := (s.ing.bAt.lookup k).getD (s.ing.due + ((k + two32 - s.rd R.ING_INDEX) % two32) * s.ing.per)
      if ref.testBit 31 && ref % 1024 == i then s.wr R.ING_PACE_LAG (u32 ((s.now : Int) - ((due / 4294967296 : Nat) : Int))) else s
    | none => s
  ks.foldl (fun s k => s.svComplete i k) s
/-- A position has been received. -/
def State.svRecv (s : State) (i pos : Nat) : State := s.setSv i { s.svRt i with recv := pos :: (s.svRt i).recv.take 2047 }
/-- An accepted ASDU of a stream (R182, R183): its sample count, and the count and quality of each channel. -/
def State.svAsdu (s : State) (i cnt : Nat) (raw : List (Nat × Nat)) : State :=
  let s := s.setF (R.ING_SV_STAT0 i) 31 16 cnt
  let r := s.svRt i
  let wrap := (let w := s.fld (R.ING_SV6 i) 15 0; if w = 0 then 65536 else w)
  let j := min (max 1 (s.fld (R.ING_SV2 i) 23 16)) ((wrap - 1) / 2)
  let d := (cnt + 65536 * wrap - r.cnt) % wrap
  let st := s.svState i
  let fwd := decide (1 ≤ d) && decide (d ≤ j)
  let pos : Option Nat :=
    if fwd then some (idxAdd r.u d) else if d = 0 then some r.u
    else if 1 ≤ wrap - d ∧ wrap - d ≤ j then some (idxSub r.u (wrap - d)) else none
  if st = 0 ∨ st = 3 then s.svOpen i cnt
  else if st = 1 ∧ !(d == 1 && fwd) then s.svOpen i cnt
  else if st = 1 ∧ r.run < 3 then (s.setSv i { r with u := idxAdd r.u 1, cnt := cnt, run := r.run + 1 }).svRecv i (idxAdd r.u 1)
  else
    let s := if st = 1 then
        let u := idxAdd r.u 1
        ((s.setSv i { r with u := u, cnt := cnt, run := 4, nomiss := 0, u0 := idxSub u (s.rd R.ING_INDEX * s.svM i / s.svL i) }).setSvState i 2).setB R.ING_EVENTS 1 true
      else if fwd then s.setSv i { r with u := idxAdd r.u d, cnt := cnt } else s
    match pos with
    | none => (s.addSatF (R.ING_SV_STAT2 i) 31 16 1).svOpen i cnt
    | some p =>
      if (st == 2 && d == 0) || (s.svRt i).recv.contains p then s.addSatF (R.ING_SV_STAT2 i) 15 0 1
      else if (s.svIdx i p).head?.any (fun k => s.deadPast k) then (s.svRecv i p).addSatF (R.ING_SV_STAT1 i) 31 16 1
      else (s.svRecv i p).svOnTime i p raw

/-! ### Decoding (R180, R189) -/

/-- The elements of a BER string: tag and contents; none where it cannot be decoded. The number bounds the elements. -/
def berSplit (b : Bytes) : Nat → Option (List (Nat × Bytes))
  | 0 => none
  | n + 1 =>
    match b with
    | [] => some []
    | [_] => none
    | t :: l0 :: rest =>
      let ext := if l0.toNat < 128 then some (l0.toNat, rest)
        else
          let k := l0.toNat - 128
          if k = 0 ∨ 3 < k ∨ rest.length < k then none else some (beNat (rest.take k), rest.drop k)
      match ext with
      | none => none
      | some (len, body) =>
        if body.length < len then none
        else (berSplit (body.drop len) n).map (fun es => (t.toNat, body.take len) :: es)
def berAll (b : Bytes) : Option (List (Nat × Bytes)) := berSplit b (b.length + 1)
/-- APPID, simulation indication and APDU of a frame of an EtherType (IEC 61850-8-1, 9-2). -/
def procHeader (b : Bytes) (et : Nat) : Option (Nat × Bool × Bytes) :=
  let o := frEtOff b
  let len := be16 b (o + 4)
  if b.length < o + 10 ∨ be16 b o ≠ et ∨ len < 8 ∨ b.length < o + 2 + len then none
  else some (be16 b (o + 2), (be16 b (o + 6)).testBit 15, sliceB b (o + 10) (len - 8))
/-- The elements stand in the order of their definition, none twice. -/
def tagsRise (es : List (Nat × Bytes)) : Bool := (es.zip es.tail).all (fun e => decide (e.1.1 < e.2.1))
/-- An element's contents, where it is present with a length of those given. -/
def berField (es : List (Nat × Bytes)) (t lo hi : Nat) : Option Bytes :=
  (es.lookup t).bind (fun v => if lo ≤ v.length ∧ v.length ≤ hi then some v else none)
/-- An optional element has one of the lengths given where it is present. -/
def berOpt (es : List (Nat × Bytes)) (t lo hi : Nat) : Bool := (es.lookup t).all (fun v => decide (lo ≤ v.length) && decide (v.length ≤ hi))
/-- An ASDU as ingest takes it. -/
structure Asdu where
  svid : Bytes
  cnt : Nat
  confRev : Nat
  synch : Nat
  data : Bytes
deriving DecidableEq, Repr
/-- One ASDU: svID, smpCnt, confRev, smpSynch and the samples are required; datSet, refrTm, smpRate, smpMod and gmIdentity may stand
between them (PRESUMED from IEC 61850-9-2, log entry 32). -/
def decodeAsdu (e : Nat × Bytes) : Option Asdu :=
  if e.1 ≠ 0x30 then none
  else (berAll e.2).bind (fun f =>
    if !tagsRise f || f.any (fun x => decide (x.1 < 0x80 ∨ 0x89 < x.1)) || !berOpt f 0x84 8 8 || !berOpt f 0x86 2 2 || !berOpt f 0x88 2 2 ||
        !berOpt f 0x89 8 8 then none
    else match berField f 0x80 0 129, berField f 0x82 2 2, berField f 0x83 4 4, berField f 0x85 1 1, f.lookup 0x87 with
    | some i, some c, some r, some y, some d => some { svid := i, cnt := beNat c, confRev := beNat r, synch := beNat y, data := d }
    | _, _, _, _, _ => none)
/-- The ASDUs of an SV frame; none where it cannot be decoded (R180): noASDU agrees with the ASDUs that follow. -/
def decodeSv (b : Bytes) : Option (Nat × Bool × List Asdu) :=
  match procHeader b 0x88BA with
  | none => none
  | some (appid, sim, apdu) =>
    match berAll apdu with
    | some [(0x60, pdu)] =>
      (berAll pdu).bind (fun es =>
        match berField es 0x80 1 4, (es.lookup 0xA2).bind berAll with
        | some n, some as_ =>
          let ds := as_.map decodeAsdu
          if !tagsRise es || ds.isEmpty || beNat n != ds.length || ds.any (·.isNone) then none else some (appid, sim, ds.filterMap id)
        | _, _ => none)
    | _ => none
/-- A GOOSE message as ingest takes it. -/
structure Goose where
  appid : Nat
  sim : Bool
  ref : Bytes
  tal : Nat
  st : Nat
  sq : Nat
  test : Bool
  confRev : Nat
  nds : Bool
  data : Bytes
deriving DecidableEq, Repr
/-- A GOOSE frame; none where it cannot be decoded (R189): gocbRef, timeAllowedtoLive, datSet, t, stNum, sqNum, confRev,
numDatSetEntries and allData are required, and numDatSetEntries agrees with allData (PRESUMED from IEC 61850-8-1, log entry 32). -/
def decodeGoose (b : Bytes) : Option Goose :=
  match procHeader b 0x88B8 with
  | none => none
  | some (appid, sim, apdu) =>
    match berAll apdu with
    | some [(0x61, pdu)] =>
      (berAll pdu).bind (fun f =>
        let bool := fun (t : Nat) => match f.lookup t with | some v => beNat v != 0 | none => false
        let lens := (berField f 0x82 0 129).isSome && (berField f 0x84 8 8).isSome && berOpt f 0x83 0 129 && berOpt f 0x87 1 1 && berOpt f 0x89 1 1
        match berField f 0x80 0 129, berField f 0x81 1 5, berField f 0x85 1 5, berField f 0x86 1 5, berField f 0x88 1 5, f.lookup 0xAB with
        | some r, some tal, some st, some sq, some cr, some d =>
          match berField f 0x8A 1 5, berAll d with
          | some n, some es =>
            if !tagsRise f || !lens || beNat n != es.length then none
            else some { appid := appid, sim := sim, ref := r, tal := beNat tal, st := beNat st, sq := beNat sq,
                        test := bool 0x87, confRev := beNat cr, nds := bool 0x89, data := d }
          | _, _ => none
        | _, _, _, _, _, _ => none)
    | _ => none
/-- Verification of a frame for a subscription's key slot (R181, R405): the tag over the frame from its EtherType. -/
def State.gmacOk (s : State) (slot : Nat) (f : ProcFrame) : Bool × State :=
  match f.ext with
  | none => (false, s)
  | some e =>
    match s.gmacSlot slot e.keyId.toNat with
    | none => (false, s)
    | some k =>
      let t := gmac ((s.keyMat k).bytes.map (·.toNat)) e.iv (f.bytes.drop (frEtOff f.bytes))
      let ok := e.gmac && (e.tag.length == 8 || e.tag.length == 16) && t.take e.tag.length == e.tag
      (ok, s.slotUse k)
/-- The frame leaves the hand-over store of P48, if it came that way. -/
def State.inboxTake (s : State) (b : Bytes) : State :=
  match s.net.inbox.find? (fun f => f.bytes == b) with
  | some f => { s with net := { s.net with inbox := s.net.inbox.erase f } }
  | none => s
/-- An ASDU of the polder's share is taken, unless the window's allowance is used up (R93). -/
def State.ingBudget (s : State) (p : Nat) : Bool × State :=
  if s.fld (R.PLD_INGEST p) 15 0 = 0 then (true, s)
  else
    match mapGet s.host.ingLeft p 0 with
    | 0 => (false, s.addSat (R.PLD_INGEST_DROP p) 1)
    | n + 1 => (true, { s with host := { s.host with ingLeft := mapPut s.host.ingLeft p n } })
/-- The enabled SV entry of an ASDU (R180). -/
def State.svMatch (s : State) (appid : Nat) (id : Bytes) : Option Nat :=
  s.svAll.find? (fun i => s.fld (R.ING_SV0 i) 15 0 == appid && s.fld (R.ING_SV2 i) 5 0 == id.length && s.rd (R.ING_SV1 i) == crc32Raw id)
/-- The counts and quality words of seqData: big-endian pairs. -/
def svRaw (d : Bytes) : Nat → List (Nat × Nat)
  | 0 => []
  | n + 1 => (beNat (d.take 4), beNat (sliceB d 4 4)) :: svRaw (d.drop 8) n
/-- One ASDU of a frame: matched, tested, budgeted, placed (R180, R93). -/
def State.svOne (s : State) (i : Nat) (sim : Bool) (a : Asdu) : State :=
  let c := s.rd (R.ING_SV0 i)
  let n := s.svNch i
  let raw := svRaw a.data n
  let bad := a.confRev != s.rd (R.ING_SV3 i) || a.data.length != 8 * n || sim != c.testBit 26 ||
    (!c.testBit 25 && raw.any (fun e => e.2.testBit 11))
  if bad then s.addSatF (R.ING_SV_STAT3 i) 31 16 1
  else
    let (ok, s) := s.ingBudget (s.viPolder (s.svOwner i))
    if !ok then s else s.svAsdu i (a.cnt % 65536) raw
/-- The subscriptions of a frame whose GMAC bit is 1 verify it, each key slot once; those that fail are charged (R181). -/
def State.svVerify (s : State) (is : List Nat) (f : ProcFrame) : Bool × State :=
  let auth := (is.filter (fun i => s.bit (R.ING_SV0 i) 27)).eraseDups
  let slot := fun (i : Nat) => s.fld (R.ING_SV2 i) 15 8
  let r := (auth.map slot).eraseDups.foldl (fun (a : List Nat × State) k =>
    let v := a.2.gmacOk k f
    (if v.1 then a.1 else k :: a.1, v.2)) ([], s)
  let bad := auth.filter (fun i => r.1.contains (slot i))
  (bad.isEmpty, bad.foldl (fun s i => (s.addSatF (R.ING_SV_STAT3 i) 15 0 1).setB R.ING_EVENTS 2 true) r.2)
/-- An operation on a stream that the last exchange removed or made relock, as it stood before X (R83, R203). -/
def State.svBefore (s : State) (i : Nat) (f : State → State) : State :=
  match s.ing.svOld.lookup i with
  | none => s
  | some o => s.under (fun s =>
      let r := s.svRt i
      let st := s.svState i
      let s := f ((s.setSv i o.1).setSvState i o.2)
      let o := (s.svRt i, s.svState i)
      let s := (s.setSv i r).setSvState i st
      { s with ing := { s.ing with svOld := mapPut s.ing.svOld i o } })
/-- The ASDU's position belongs to an index below X. -/
def State.svBelow (s : State) (i cnt : Nat) : Bool :=
  let r := s.svRt i
  let wrap := (let w := s.fld (R.ING_SV6 i) 15 0; if w = 0 then 65536 else w)
  (s.svIdx i (idxAdd r.u ((cnt + 65536 * wrap - r.cnt) % wrap))).any (fun k => s.below k)
/-- An SV frame reaches ingest (R177, R180, R181). -/
def State.svFrame (s : State) (f : ProcFrame) : State :=
  let s := s.inboxTake f.bytes
  if !s.ingLive then s
  else match decodeSv f.bytes with
  | none => s.addSat R.ING_UNDECODED 1
  | some (appid, sim, as_) =>
    let es := as_.map (fun a => (s.svMatch appid a.svid, a))
    -- subscriptions that end below X, as their configuration then was
    let c := s.cfgAt (s.ldr.was.elim 0 (fun w => idxSub w.1 1))
    let old := if s.ing.svOld.isEmpty then [] else as_.filterMap (fun a =>
      (c.svMatch appid a.svid).bind (fun i => if (s.ing.svOld.lookup i).isSome && (c.svVerify [i] f).1 then some (i, a) else none))
    match s.svVerify (es.filterMap (·.1)) f with
    | (false, s) => s
    | (true, s) =>
      let s := old.foldl (fun s e => s.svBefore e.1 (fun s => s.onIf (s.svBelow e.1 (e.2.cnt % 65536)) (fun s => s.svOne e.1 sim e.2))) s
      es.foldl (fun s e => match e.1 with | some i => s.svOne i sim e.2 | none => s) s
/-- An SV frame reaches ingest (R180). -/
def execSvFrame (f : SvFrame) (s : State) : Host.Outcome State Fault Refusal := finish s (s.svFrame f)

/-- Fill of one stream at a deadline (R184). -/
def State.svFill (s : State) (i k : Nat) : State :=
  let r := s.svRt i
  if r.sets.any (fun x => x.key == k) then
    s.setSv i { r with nomiss := if (r.sets.any (fun x => x.key == k && x.subst)) then r.nomiss + 1 else 0 }
  else
    let s := (s.addSatF (R.ING_SV_STAT1 i) 15 0 1).setSv i { r with nomiss := r.nomiss + 1 }
    let locked := s.svState i == 2
    let c := s.cfgAt k
    let hold := match r.sets.head? with | some e => e.vals | none => List.replicate (c.svNch i) 0
    let vals := match c.fld (R.ING_SV0 i) 29 28 with
      | 1 => (r.preds.lookup k).getD hold
      | 2 => List.replicate (c.svNch i) 0
      | _ => hold
    let e : SvSet := { key := c.svPos i k, vals := vals, quals := List.replicate (c.svNch i) missQ, subst := true }
    if locked && (c.svL i != 1 || c.svM i != 1) then
      -- a resampled stream: the missing input is substituted, then the set is formed
      let r1 := s.svRt i
      (s.setSv i { r1 with ins := if r1.ins.any (fun x => x.key == e.key) then r1.ins else e :: r1.ins.take 640 }).svComplete i k
    else
      let r1 := s.svRt i
      (s.setSv i { r1 with sets := { e with key := k } :: r1.sets.take 400 }).svSend i k
/-- The clock reaches the deadline of the oldest index that still awaits one, unless it has passed, and the sets that are missing are
filled (R183, R184). Below the X of an exchange these are those of the streams of before it; with the last of them the removed ones are gone. -/
def State.svDeadline (s : State) : State :=
  let k := match s.ing.dead with | some d => idxAdd d 1 | none => 0
  if !s.bit R.ING_STATUS 0 || s.lowTide || idxLater k (s.rd R.ING_INDEX) then s
  else
    let s := s.elapse (ceilDiv ((s.deadlineOf k).getD 0) 4294967296 - s.now)
    let s : State := { s with ing := { s.ing with dead := some k } }
    if s.below k then
      let s := (s.cfgAt k).svAll.foldl (fun s i =>
        if (s.ing.svOld.lookup i).isSome then s.svBefore i (fun s => s.svFill i k) else s.svFill i k) s
      s.onIf (!s.below (idxAdd k 1)) (fun s => { s with ing := { s.ing with svOld := [] } })
    else s.svAll.foldl (fun s i => s.svFill i k) s
/-- The deadline of an index (R184). -/
def execSampleDeadline (s : State) : Host.Outcome State Fault Refusal := finish s s.svDeadline
/-- A LOCKED stream without an on-time ASDU for 64 indices (R183). -/
def execStreamLost (i : Fin 1024) (s : State) : Host.Outcome State Fault Refusal :=
  finish s (s.onIf (s.svState i.val == 2 && decide (64 ≤ (s.svRt i.val).nomiss)) (fun s =>
    (s.setSvState i.val 3).setB R.ING_EVENTS 0 true))

/-! ### GOOSE (R189, R190) -/

def State.goRt (s : State) (g : Nat) : GoRt := mapGet s.ing.go g {}
/-- A message for the next boundary. -/
def State.goQueue (s : State) (typ g : Nat) (pay : List Nat) : State :=
  { s with ing := { s.ing with gq := s.ing.gq ++ [(typ, g, pay)] } }
/-- Bytes as little-endian words, zero-padded. -/
def wordsOf (b : Bytes) : Nat → List Nat
  | 0 => []
  | n + 1 => leNat (b.take 4) :: wordsOf (b.drop 4) n
def wordsAll (b : Bytes) : List Nat := wordsOf b ((b.length + 3) / 4)
/-- An accepted message (R189, R190). -/
def State.goAccept (s : State) (g : Nat) (m : Goose) : State :=
  let new := !(s.goRt g).seen || m.st != s.rd (R.ING_GO_STAT1 g)
  let rep := !new && m.sq == s.rd (R.ING_GO_STAT2 g)
  if rep then s.addSatF (R.ING_GO_STAT3 g) 31 16 1
  else
    let was := s.bit (R.ING_GO_STAT0 g) 0
    let s := ((s.setB (R.ING_GO_STAT0 g) 0 true).wr (R.ING_GO_STAT1 g) m.st).wr (R.ING_GO_STAT2 g) m.sq
    let s : State := { s with ing := { s.ing with go := mapPut s.ing.go g { seen := true, tal := m.tal } } }
    let d := m.data.take 1472
    s.onIf (new || !was) (fun s => s.goQueue 5 g ([m.st, m.sq, m.tal, d.length] ++ wordsAll d))
/-- A GOOSE frame reaches ingest (R177, R189, R181). -/
def State.gooseFrame (s : State) (f : ProcFrame) : State :=
  let s := s.inboxTake f.bytes
  if !s.ingLive then s
  else match decodeGoose f.bytes with
  | none => s.addSat R.ING_UNDECODED 1
  | some m =>
    match (s.listed R.ING_GO0 4096).find? (fun g => s.bit (R.ING_GO0 g) 31 && s.fld (R.ING_GO0 g) 15 0 == m.appid &&
        s.fld (R.ING_GO2 g) 7 0 == m.ref.length && s.rd (R.ING_GO1 g) == crc32Raw m.ref) with
    | none => s
    | some g =>
      let c := s.rd (R.ING_GO0 g)
      let bad := m.confRev != s.rd (R.ING_GO3 g) || m.nds || (m.test && !c.testBit 16) || m.sim != c.testBit 17
      if bad then s.addSatF (R.ING_GO_STAT3 g) 31 16 1
      else
        let (ok, s) := if c.testBit 18 then s.gmacOk (bitsOf c 26 19) f else (true, s)
        if !ok then s.setB R.ING_EVENTS 2 true else s.goAccept g m
/-- A GOOSE frame reaches ingest (R189). -/
def execGooseFrame (f : GooseFrame) (s : State) : Host.Outcome State Fault Refusal := finish s (s.gooseFrame f)
/-- An entry's supervision expires (R190). -/
def execGooseTalExpire (g : Fin 4096) (s : State) : Host.Outcome State Fault Refusal :=
  finish s (s.onIf (s.bit (R.ING_GO_STAT0 g.val) 0) (fun s =>
    (((s.setB (R.ING_GO_STAT0 g.val) 0 false).addSatF (R.ING_GO_STAT3 g.val) 15 0 1).setB R.ING_EVENTS 7 true).goQueue 6 g.val [1]))
/-- The oldest frame handed over for a lane-resident VI becomes a FRAME message (R197). -/
def execIngestFrame (s : State) : Host.Outcome State Fault Refusal :=
  finish s (match s.net.inbox.find? (fun f => frEt f.bytes != 0x88BA && frEt f.bytes != 0x88B8) with
    | none => s
    | some f =>
      let s : State := { s with net := { s.net with inbox := s.net.inbox.erase f } }
      if !s.ingLive then s
      else if s.viGen f.vi != f.gen then s.genDiscard 1
      else s.ingSend 8 f.vi (s.rd R.ING_INDEX) 0 f.gen [] f.bytes)

/-! ### Modulator chains (R191 to R196) -/

def State.mcRt (s : State) (m : Nat) : McRt := mapGet s.ing.mc m {}
def State.setMc (s : State) (m : Nat) (r : McRt) : State := { s with ing := { s.ing with mc := mapPut s.ing.mc m r } }
def State.mcState (s : State) (m : Nat) : Nat := s.fld (R.MC_STATUS m) 2 0
def State.mcOrder (s : State) (m : Nat) : Nat := s.fld (R.MC_CFG m) 1 0 + 1
def State.mcR (s : State) (m : Nat) : Nat := s.fld (R.MC_CFG m) 11 2 + 1
def State.mcCd (s : State) (m : Nat) : Nat := 2 ^ s.fld (R.MC_CFG m) 13 12
def State.mcTaps (s : State) (m : Nat) : Nat := s.fld (R.MC_CFG m) 19 14 + 1
def State.mcW (s : State) (m : Nat) : Nat := 2 * s.fld (R.MC_CFG m) 21 20 + 1
def State.mcK (s : State) (m : Nat) : Nat := s.fld (R.MC_CFG m) 26 22
def State.mcMult (s : State) (m : Nat) : Nat := s.fld (R.ING_MCLK_CFG (m / 4)) 11 0
/-- Outputs for each index: SUB = MULT / D (R191). -/
def State.mcSub (s : State) (m : Nat) : Nat := s.mcMult m / (s.mcR m * s.mcCd m)
/-- S (R194). -/
def State.mcSettle (s : State) (m : Nat) : Nat :=
  (s.mcOrder m + s.mcTaps m + s.mcCd m - 1) / s.mcCd m + (s.mcW m - 1) / 2
/-- Two's complement of 48 bits. -/
def wrap48 (i : Int) : Int := (BitVec.ofInt 48 i).toInt
def sat32 (i : Int) : Int := clampI (-2147483648) 2147483647 i
/-- Integrators in cascade. -/
def integrate (x : Int) : List Int → List Int
  | [] => []
  | a :: t => let v := wrap48 (a + x); v :: integrate v t
/-- Combs in cascade with the shift after each: the output and the delayed inputs. -/
def combs (x : Int) : List Int → List Nat → Int × List Int
  | [], _ => (x, [])
  | z :: t, sh =>
    let y := wrap48 (x - z) / (2 ^ sh.headD 0 : Nat)
    let r := combs y t sh.tail
    (r.1, x :: r.2)
/-- An element put into a sorted list. -/
def insI (x : Int) : List Int → List Int
  | [] => [x]
  | y :: t => if x ≤ y then x :: y :: t else y :: insI x t
/-- What one output of the FIR becomes: DC block, rank and scale; the value and its overflow bit (Table 08-4, R193). -/
def State.mcTail (s : State) (m : Nat) (x : Int) (ovf : Bool) : (Nat × Nat) × State :=
  let r := s.mcRt m
  let k := s.mcK m
  let est := (r.dc + 32768) / 65536
  let lvl := s.fld (R.MC_FRZ_LEVEL m) 30 0
  let above := lvl != 0 && decide ((lvl : Int) ≤ ((x - est).natAbs : Int))
  let frozen := s.bit (R.MC_CTRL m) 8 || above || r.autoFrz.isSome
  -- outputs below the level that still have to come: the freeze ends after the last of them
  let auto := if above then some (s.fld (R.MC_FRZ_HOLD m) 15 0) else r.autoFrz.map (fun n => n - 1)
  let auto := if auto = some 0 then none else auto
  let dc := if k = 0 ∨ frozen then r.dc else wrap48 (r.dc + (x * 65536 - r.dc) / (2 ^ k : Nat))
  let y0 := if k = 0 then x else x - (dc + 32768) / 65536
  let y := sat32 y0
  let rank := (y :: r.rank).take (s.mcW m)
  let med := (rank.foldl (fun l v => insI v l) []).getD (rank.length / 2) 0
  let sats := b2n ovf + b2n (y != y0)
  let s := s.setMc m { r with dc := dc, rank := rank, autoFrz := auto }
  let s := (s.setB (R.MC_STATUS m) 8 (s.bit (R.MC_CTRL m) 8 || auto.isSome)).wr (R.MC_DC m) (u32 (dc / 65536))
  let s := s.addSatF (R.MC_COUNTS m) 15 0 sats
  ((f32.mul (f32.ofInt med) (s.rd (R.MC_GAIN m)), if sats = 0 then 0 else 4), s)
/-- One input bit of a chain: the outputs it completes, newest first (Table 08-4). -/
def State.mcBit (m : Nat) (a : List (Nat × Nat) × State) (bit : Bool) : List (Nat × Nat) × State :=
  let s := a.2
  let r := s.mcRt m
  let n := s.mcOrder m
  let ints := integrate (if bit then 1 else -1) (r.ints ++ List.replicate (n - r.ints.length) 0)
  if r.sincPhase + 1 < s.mcR m then (a.1, s.setMc m { r with ints := ints, sincPhase := r.sincPhase + 1 })
  else
    let sh := (List.range 4).map (fun j => s.fld (R.MC_SHIFT m) (4 * j + 3) (4 * j))
    let c := combs (ints.getLastD 0) (r.combs ++ List.replicate (n - r.combs.length) 0) sh
    let x := sat32 c.1
    let fir := (x :: r.fir).take (s.mcTaps m)
    let ovf := r.ovf || x != c.1
    let out := decide (s.mcCd m ≤ r.firPhase + 1)
    let s := s.setMc m { r with ints := ints, sincPhase := 0, combs := c.2, fir := fir, ovf := ovf && !out
                                firPhase := if out then 0 else r.firPhase + 1 }
    let s := s.onIf (x != c.1) (fun s => s.addSatF (R.MC_COUNTS m) 15 0 1)
    if !out then (a.1, s)
    else
      let cs := s.fld (R.MC_CTRL m) 1 0
      let acc := fir.zipIdx.foldl (fun t e => t + sgnW 24 (s.rd (R.ING_MC_COEF cs e.2)) * e.1) (0 : Int)
      let z0 := (acc + 2097152) / 4194304
      let (v, s) := s.mcTail m (sat32 z0) (sat32 z0 != z0)
      ((v.1, v.2 ||| (if ovf then 4 else 0)) :: a.1, s)
/-- A chain enters SETTLING: S outputs to go, and one GAP record with cause SETTLING (R194). -/
def State.mcEnterSettling (s : State) (m : Nat) : State :=
  let n := s.mcSettle m
  let s := (s.setF (R.MC_STATUS m) 2 0 2).setF (R.MC_STATUS m) 23 16 n
  s.ingGap 4 m (s.rd R.ING_INDEX) (min 255 ((n + max 1 (s.mcSub m) - 1) / max 1 (s.mcSub m))) 2 0
/-- History and phases cleared; the DC estimate and an automatic freeze are kept (R193, R194, R196). -/
def State.mcClear (s : State) (m : Nat) : State :=
  let r := s.mcRt m
  s.setMc m { dc := r.dc, req := r.req, autoFrz := r.autoFrz, last := r.last, fresh := true }
/-- Bits of a chain that the set of one index takes (R191): those up to (SUB - 1) x D periods after its boundary, from after the last
bit of the set before; where the phases were cleared at the boundary, from after it. -/
def State.mcNeed (s : State) (m : Nat) : Nat := (s.mcSub m - b2n (s.mcRt m).fresh) * (s.mcR m * s.mcCd m)
/-- A chain whose S outputs have been delivered is RUNNING (R194). -/
def State.mcSettledAt (s : State) (m : Nat) : State :=
  s.onIf (s.mcState m == 2 && s.fld (R.MC_STATUS m) 23 16 == 0) (fun s => s.setF (R.MC_STATUS m) 2 0 3)
/-- The input bits of a chain for the latest index; its SUB outputs leave as a MOD message, once (R191 to R194, R197). Sub-sample 0 of the
index at whose boundary the phases were cleared has no output: no rule states its value, which is free (log entry 4). -/
def State.modMessage (s : State) (m : Nat) (bits : List Bool) : State :=
  let st := s.mcState m
  let k := s.rd R.ING_INDEX
  if st < 2 ∨ !s.ingLive ∨ (s.mcRt m).last = some k ∨ bits.length ≠ s.mcNeed m then s
  else
    let fresh := (s.mcRt m).fresh
    let (out, s) := bits.foldl (State.mcBit m) ([], s)
    let q := if st = 2 then 0x40000 else if st = 4 then 0x80001 else 0
    let s := s.onIf (st == 2) (fun s => s.setF (R.MC_STATUS m) 23 16 (s.fld (R.MC_STATUS m) 23 16 - out.length))
    let s := (s.setMc m { s.mcRt m with fresh := false, last := some k }).mcSettledAt m
    let (f, s) := if fresh then s.takeFree else (0, s)
    let set := (if fresh then [(f % two32, 0)] else []) ++ out.reverse
    s.ingSend 4 m k 0 0 (set.flatMap (fun v => [v.1, v.2 ||| q])) []
/-- A chain's sub-samples of an index (R191). -/
def execModMessage (m : Mc) (bits : List Bool) (s : State) : Host.Outcome State Fault Refusal := finish s (s.modMessage m.val bits)
/-- The chains that ING_MC_MASK selects. -/
def State.mcSelected (s : State) : List Nat := (List.range 24).filter (fun m => s.bit R.ING_MC_MASK m)
/-- MC_START, taken at the next boundary (R194). -/
def State.mcStart (s : State) : State :=
  (s.mcSelected.filter (fun m => s.mcState m == 1)).foldl (fun s m => s.setMc m { s.mcRt m with req := 1 }) s
def State.mcStop (s : State) : State :=
  (s.mcSelected.filter (fun m => decide (2 ≤ s.mcState m) || (s.mcRt m).req == 1)).foldl (fun s m => s.setMc m { s.mcRt m with req := 2 }) s
/-- ING_CMD MC_START (R194). -/
def execMcStart (s : State) : Host.Outcome State Fault Refusal := finish s s.mcStart
/-- ING_CMD MC_STOP (R194). -/
def execMcStop (s : State) : Host.Outcome State Fault Refusal := finish s s.mcStop
/-- A decimator reset is requested; requests before the next boundary are one (R196). -/
def State.syncReq (s : State) : State := { s with ing := { s.ing with sync := true } }
/-- ING_CMD SYNC (R196). -/
def execIngSync (s : State) : Host.Outcome State Fault Refusal := finish s s.syncReq
/-- A rising edge on SYNC_IN (R196). -/
def execSyncInEdge (s : State) : Host.Outcome State Fault Refusal := finish s (s.onIf (s.bit R.ING_SYNC_CFG 0) State.syncReq)
/-- A running chain's input is stuck (R194). -/
def execMcFault (m : Mc) (s : State) : Host.Outcome State Fault Refusal :=
  finish s (s.onIf (s.mcState m.val == 2 || s.mcState m.val == 3) (fun s =>
    ((s.setF (R.MC_STATUS m.val) 2 0 4).addSatF (R.MC_COUNTS m.val) 31 16 1).setB R.ING_EVENTS 4 true))
/-- The first level change of a faulted input (R194). -/
def execMcLevelChange (m : Mc) (s : State) : Host.Outcome State Fault Refusal :=
  finish s (s.onIf (s.mcState m.val == 4) (fun s => s.mcEnterSettling m.val))
/-- S outputs have been delivered (R194). -/
def execMcSettled (m : Mc) (s : State) : Host.Outcome State Fault Refusal :=
  finish s (s.mcSettledAt m.val)
/-- A write of MC_CTRL: COEF_SEL only while STOPPED or OFF, else COEF_REFUSED; FREEZE always, and FROZEN with it (R193, R195). -/
def State.mcCtrl (s : State) (m v : Nat) : State :=
  let s1 := (s.setB (R.MC_CTRL m) 8 (v.testBit 8)).setB (R.MC_STATUS m) 8 (v.testBit 8 || (s.mcRt m).autoFrz.isSome)
  if s.mcState m < 2 then s1.setF (R.MC_CTRL m) 1 0 v else s1.setB R.ING_EVENTS 5 true
/-- A write of MC_CTRL.COEF_SEL (R195). -/
def execCoefSelWrite (m : Mc) (v : Word) (s : State) : Host.Outcome State Fault Refusal := finish s (s.mcCtrl m.val v.toNat)
/-- The chains at a boundary: starts, stops, the decimator reset (R194, R196). -/
def State.mcBoundary (s : State) : State :=
  let s := (List.range 24).foldl (fun s m =>
    match (s.mcRt m).req with
    | 1 => let s := s.setMc m { s.mcRt m with req := 0 }; if s.mcState m = 1 then (s.mcClear m).mcEnterSettling m else s
    | 2 => (s.setMc m { s.mcRt m with req := 0 }).onIf (decide (1 ≤ s.mcState m)) (fun s => s.setF (R.MC_STATUS m) 2 0 1)
    | _ => s) s
  if !s.ing.sync then s
  else
    let s := (List.range 24).foldl (fun s m => if 2 ≤ s.mcState m then (s.mcClear m).mcEnterSettling m else s) s
    ({ s with ing := { s.ing with sync := false } }).setB R.ING_EVENTS 6 true

/-! ### A boundary, on the I/O die (R177, R197) -/

/-- Demand ends at boundary k: bit 0 of word 3 of BOUNDARY(k) (R326). The state is the one in which the boundary is issued; a changed
DEM_PERIOD or CV applies to the ends after X (R338). -/
def State.demandMark (s : State) (k : Nat) : Bool × State :=
  let cf := s.cfgAt (idxSub k 1)
  let v := cf.fld (R.NRG_CFG .a) 4 2
  let p := max 60 (cf.fld (R.NRG_CFG .a) 31 16)
  let on := s.viewValid v
  let sec := (s.viewTime v).2.1
  let before := fun (q : Nat × Nat) => q.1 == v && decide (q.2 / p < sec / p)
  let reach := on && s.ing.demPrev.any before && s.ing.demEnd.all (fun q => q.1 != v || before q)
  let count := !on && decide (p * s.fs ≤ s.ing.demCnt + 1)
  let mark := s.bit (R.NRG_CFG .a) 0 && (reach || count || s.ing.demForce)
  let views := (List.range 8).map (fun v => s.viewWords v (b2n (s.viewValid v) * 32768))
  (mark, { s with ing := { s.ing with
    demForce := false
    demCnt := if mark then 0 else s.ing.demCnt + 1
    demPrev := if on then some (v, sec) else none
    demEnd := if reach then some (v, sec) else s.ing.demEnd
    bInfo := (k, s.ing.demForce, views) :: s.ing.bInfo.take 63
    trigIn := 0 } })
/-- The index of the next boundary (R13). -/
def State.nextIndex (s : State) : Nat := if s.bit R.ING_STATUS 0 then idxAdd (s.rd R.ING_INDEX) 1 else s.rd R.ING_INDEX
/-- Boundary k, at its clock: BOUNDARY(k), the predictions of k + 2, the GOOSE messages effective at k, the chains, then the SAMPLE sets that waited for k (R197). -/
def State.ingBoundary (s : State) (k : Nat) : State :=
  let s := (s.setB R.ING_STATUS 0 true).wr R.ING_INDEX k
  let s : State := { s with ing := { s.ing with bAt := (k, s.ing.due) :: s.ing.bAt.take 63 } }
  let w := s.ing.trigIn
  let (mark, s) := s.demandMark k
  let s := s.ingPut 1 0 k (b2n mark + bitsOf w 3 0 * 2 + bitsOf w 7 4 * 32) 0 [] []
  let s := s.svAll.foldl (fun s i => s.svPredict i (idxAdd k 2)) s
  let gq := s.ing.gq
  let s := gq.foldl (fun s (g : Nat × Nat × List Nat) =>
    let gen := s.viGen (s.fld (R.ING_GO2 g.2.1) 27 16)
    if g.1 = 5 then s.ingSend 5 g.2.1 k 0 gen g.2.2 [] else s.ingPut 6 g.2.1 k 0 gen g.2.2 []) { s with ing := { s.ing with gq := [] } }
  let s := s.mcBoundary
  let es := s.ing.early
  es.foldl (fun s e => s.svSend e.1 e.2) { s with ing := { s.ing with early := [] } }

end Sys2Proof.Machine
end

