-- ==== Sys2Proof/Machine/Sched.lean ====
section
/-! DEFINITION. The runs of a lane: programs and frames (R209 to R214), tokens, ready lists and dispatch (R256 to R264),
the end of a run (R214, R224 to R228), and speculation control (R234 to R243). -/
namespace Sys2Proof.Machine

/-! ### A lane -/

/-- The role of a lane (Table 16-1). -/
def State.role (s : State) (l : Lane) : Nat :=
  match l with
  | .a => s.fld R.WDN_STATUS 10 8
  | .b => s.fld R.WDN_STATUS 14 12
def State.laneActive (s : State) (l : Lane) : Bool := s.role l == 0
/-- The sluice's source is this lane. -/
def State.isSource (s : State) (l : Lane) : Bool := s.fld R.SLU_STATUS 0 0 == laneIx l && !s.bit R.SLU_STATUS 2
/-- The wardens are told of a cross-lane divergence (R364). -/
def State.wdnDiverge (s : State) : State :=
  (s.setB R.WDN_EVENTS 9 true).onIf (s.bit R.WDN_CFG 2) (fun s => (s.setB (R.WDN_HEALTH 0) 16 true).setB (R.WDN_HEALTH 1) 16 true)
/-- A register takes a value, where it differs. -/
def State.wrC (s : State) (k v : Nat) : State := if s.rd k = v % two32 then s else s.wr k v
/-- Insertion before the first element that is not ahead of it. -/
def insBy {α : Type} (lt : α → α → Bool) (x : α) : List α → List α
  | [] => [x]
  | y :: t => if lt x y then x :: y :: t else y :: insBy lt x t
/-- A list in the order of `lt`; equal elements keep their order. -/
def sortBy {α : Type} (lt : α → α → Bool) (l : List α) : List α := l.foldl (fun a x => insBy lt x a) []

/-! ### Programs (R211 to R213) -/

def memByte (m : List Host.Cell) (a : Nat) : Byte := cellGet (fun _ => 0#8) m a
/-- The little-endian number of `n` bytes of a lane's memory. -/
def memLe (m : List Host.Cell) (a n : Nat) : Nat := leNat ((List.range n).map (fun i => memByte m (a + i)))
/-- An input entry (Table 09-6). -/
def inEnt (w0 w1 : Nat) : InEnt :=
  { kind := bitsOf w0 3 0, id := bitsOf w0 15 4, addr := bitsOf w0 29 16, first := bitsOf w1 5 0, nch := bitsOf w1 11 6 + 1,
    depth := bitsOf w1 20 12 + 1 }
/-- The segment whose descriptor stands at an address (Table 09-5). -/
def segAt (m : List Host.Cell) (a : Nat) : Seg :=
  let w := fun (i : Nat) => memLe m (a + 4 * i) 4
  let c := bitsOf (w 0) 23 0 * 32
  { code := (List.range (bitsOf (w 1) 9 0)).map (fun i => memLe m (c + 8 * i) 8)
    off := bitsOf (w 2) 15 0
    len := bitsOf (w 2) 31 16
    addr := bitsOf (w 3) 13 0
    ins := (List.range (bitsOf (w 1) 15 12)).map (fun i => inEnt (w (4 + 2 * i)) (w (5 + 2 * i))) }
/-- The program of VI n. -/
def State.viProg (s : State) (l : Lane) (n : Nat) : List Seg :=
  (List.range (s.fld (R.FAB_VI_CFG0 l n) 9 6 + 1)).map (fun j =>
    segAt (s.lane l).mem (s.fld (R.FAB_VI_CFG2 l n) 23 0 * 32 + 128 * j))
/-- The initial state of VI n (R211, R212). -/
def State.viInit (s : State) (l : Lane) (n : Nat) : List Nat :=
  (List.range (s.fld (R.FAB_VI_CFG0 l n) 31 16)).map (fun i =>
    memLe (s.lane l).mem (0x20000000 + s.fld (R.FAB_VI_CFG3 l n) 23 0 * 32 + 4 * i) 4)
/-- The live state of VI n; its initial state while no run has been final. -/
def State.viLive (s : State) (l : Lane) (n : Nat) : ViLive := mapGet (s.lane l).vis n { words := s.viInit l n }
/-- The VI is enabled (R211). -/
def State.fabEn (s : State) (l : Lane) (n : Nat) : Bool := s.bit (R.FAB_VI_CFG0 l n) 0
/-- The enabled per-index VIs: TYPE 1, 2, 4, 5 (R211). -/
def State.perIndexVis (s : State) (l : Lane) : List Nat :=
  (s.listed (R.FAB_VI_CFG0 l) 4096).filter (fun n => s.fabEn l n && s.viType n != 0 && s.viType n != 3)
/-- A run to be created (R214, R256). -/
def State.mkRun (s : State) (l : Lane) (n k kind task : Nat) : Run :=
  { rid := 0, vi := n, idx := k, kind := kind, task := task, gen := s.viGen n, prio := s.fld (R.FAB_VI_CFG0 l n) 5 3,
    polder := s.viPolder n, budget := s.fld (R.FAB_VI_CFG1 l n) 23 0,
    spec := if s.viType n = 1 then s.fld (R.FAB_VI_CFG0 l n) 2 1 else 0,
    deadline := s.fld (R.FAB_VI_CFG0 l n) 12 10, prog := s.viProg l n, nstate := s.fld (R.FAB_VI_CFG0 l n) 31 16 }
def Run.nseg (r : Run) : Nat := r.prog.length

/-! ### What the lane holds of its inputs (Table 09-7, R233, R234) -/

/-- The set of a stream for an index, once received. -/
def LaneSt.setOf (x : LaneSt) (i k : Nat) : Option SvSet := (mapGet x.smp i []).find? (fun e => e.key == k)
/-- The prediction of a stream for an index. -/
def LaneSt.predOf (x : LaneSt) (i k : Nat) : Option (List Nat) := (mapGet x.preds i []).lookup k
/-- The quality words of a stream's channels at an index. -/
def LaneSt.qualOf (x : LaneSt) (i k c : Nat) : Nat := match x.setOf i k with
  | some e => nth e.quals c 0x10001
  | none => 0x10001
/-- An index of a stream is one that the lane receives: from the first that the stream delivers here, until it ends. A set that was
discarded for its old tag is not received (log entry 35). -/
def LaneSt.awaits (x : LaneSt) (i k : Nat) : Bool :=
  match x.strs.lookup i with
  | some (f, e) => idxGe k f && e.all (fun t => idxLater t k) && !x.lost.contains (i, k)
  | none => false
/-- A run may read the prediction of an index in place of its set (R234). -/
def Run.mayPredict (r : Run) (k : Nat) : Bool := r.spec != 0 && (List.range r.spec).any (fun d => idxSub r.idx d == k)
/-- Value and quality of a channel at an index as a run reads them, and whether the value is predicted. -/
def LaneSt.sample (x : LaneSt) (r : Run) (i k c : Nat) : Nat × Nat × Bool :=
  match x.setOf i k with
  | some e => (nth e.vals c 0, nth e.quals c 0x10001, false)
  | none =>
    match if r.mayPredict k && x.awaits i k then x.predOf i k else none with
    | some p => (nth p c 0, x.qualOf i (idxSub k 3) c, true)
    | none => (0, 0x10001, false)
/-- The export words of a VI effective at an index: those of its last final run at or before it (R213). -/
def LaneSt.expAt (x : LaneSt) (v k : Nat) : List (Nat × Nat) :=
  match (mapGet x.exps v []).find? (fun e => idxGe k e.1) with
  | some e => e.2
  | none => []
/-- The state of a GOOSE entry effective at an index. -/
def LaneSt.goAt (x : LaneSt) (g k : Nat) : GoEff :=
  match (mapGet x.go g []).find? (fun e => idxGe k e.idx) with
  | some e => e
  | none => { idx := k, alive := false, st := 0, sq := 0, len := 0, data := [] }
/-- Frames put into an area of `room` words: the words, the frames used (R213). -/
def packFrames (room total : Nat) : List Bytes → List Nat × Nat
  | [] => ([], 0)
  | b :: t =>
    let n := (b.length + 3) / 4
    if n + 1 ≤ room then
      let r := packFrames (room - (n + 1)) total t
      ((b.length :: wordsAll b) ++ r.1, r.2 + 1)
    else if room = total ∧ 1 ≤ room then
      let cut := b.take (4 * (room - 1))
      ((cut.length + 2147483648) :: wordsAll cut, 1)
    else ([], 0)
/-- The words of one input area, from its first word (Table 09-7). -/
def State.areaWords (s : State) (l : Lane) (r : Run) (e : InEnt) : List Nat :=
  let x := s.lane l
  match e.kind with
  | 1 => (List.range e.depth).flatMap (fun a => (List.range e.nch).flatMap (fun c =>
      let v := x.sample r e.id (idxSub r.idx a) (e.first + c)
      [v.1, v.2.1]))
  | 2 => (List.range e.depth).flatMap (fun a =>
      let w := (mapGet x.mods e.id []).lookup (idxSub r.idx a)
      let n := (s.cfgAt (idxSub r.idx a)).mcSub e.id
      match w with
      | some w => (w ++ List.replicate (2 * n - w.length) 0).take (2 * n)
      | none => (List.range n).flatMap (fun _ => [0, 0x10001]))
  | 3 => let g := x.goAt e.id r.idx
    [b2n g.alive, g.st, g.sq, g.len] ++ g.data
  | 4 => (List.range e.depth).flatMap (fun a =>
      let m := x.expAt e.id (idxSub r.idx a)
      (List.range e.nch).map (fun c => mapGet m (e.first + c) 0))
  | 5 =>
    let fs := ((mapGet x.inbox r.vi []).filter (fun f => idxGe r.idx f.1)).map (·.2)
    let p := packFrames (32 * e.depth - 1) (32 * e.depth - 1) fs
    p.2 :: p.1
  | _ => []
/-- Words at consecutive frame addresses, those that are not 0. -/
def placed (a : Nat) (ws : List Nat) : List (Nat × Nat) :=
  (ws.zipIdx).filterMap (fun w => if w.1 % two32 = 0 then none else some (a + w.2, w.1 % two32))
/-- The streams and indices of which a segment reads predicted values. -/
def State.predicted (s : State) (l : Lane) (r : Run) (g : Seg) : List (Nat × Nat) :=
  (g.ins.filter (fun e => e.kind == 1)).flatMap (fun e =>
    (List.range (min e.depth r.spec)).filterMap (fun a =>
      let k := idxSub r.idx a
      if (s.lane l).awaits e.id k && ((s.lane l).setOf e.id k).isNone && ((s.lane l).predOf e.id k).isSome then
        some (e.id, k) else none))
/-- A KIND 1 input of a segment still lacks the set of an index, and no prediction may stand for it (R234, Table 11-3). -/
def LaneSt.svLacks (x : LaneSt) (r : Run) (i k : Nat) : Bool :=
  (x.setOf i k).isNone && x.awaits i k && !(r.mayPredict k && (x.predOf i k).isSome)
/-- Dispatched as things stand, the run would be provisional (R234): it lacks sets, and holds a prediction for each of them. -/
def LaneSt.mayGuess (x : LaneSt) (r : Run) : Bool :=
  r.spec != 0 &&
  (let es := r.prog.flatMap (fun g => g.ins.filter (fun e => e.kind == 1))
   es.all (fun e => (List.range e.depth).all (fun a => !x.svLacks r e.id (idxSub r.idx a))) &&
   es.any (fun e => (List.range (min e.depth r.spec)).any (fun a =>
     let k := idxSub r.idx a
     (x.setOf e.id k).isNone && x.awaits e.id k && (x.predOf e.id k).isSome)))
/-- The live runs of a VI before a run, oldest first. -/
def LaneSt.before (x : LaneSt) (r : Run) : List Run :=
  sortBy (fun a b => idxLater b.idx a.idx) (x.runs.filter (fun q => q.dead == 0 && q.vi == r.vi && idxLater r.idx q.idx))
/-- The run is the first of its VI at or after an exchange that changed the VI: it starts from the new initial state (R83, R231). -/
def State.carries (s : State) (l : Lane) (r : Run) : Bool :=
  match (s.viLive l r.vi).carry with
  | some (x, _) => idxGe r.idx x && ((s.lane l).before r).all (fun q => idxLater x q.idx)
  | none => false
/-- The old state word that the carry map copies into a word of a changed VI's new state, if it names one (R83). -/
def State.mapped (s : State) (v w : Nat) : Option Nat :=
  Config.carryMap ((s.rds (R.CFG_FINGERPRINT 0) 8).foldr (fun a b => a % two32 + two32 * b) 0) v w
/-- The words of a VI's state that the timers of its program keep (R222). -/
def timerWords (prog : List Seg) : List Nat :=
  prog.flatMap (fun g => (g.code.filter (fun c => decide (0x50 ≤ c / 2 ^ 56 ∧ c / 2 ^ 56 ≤ 0x52))).flatMap (fun c =>
    ((List.range 4).map (fun i => c % 16384 + i)).filterMap (fun a =>
      if g.addr ≤ a ∧ a < g.addr + g.len then some (g.off + (a - g.addr)) else none)))
/-- The words of a changed VI's new state: those of the carry map copied, timers that it does not name stopped, all others initial (R83). -/
def State.carryWords (s : State) (l : Lane) (v : Nat) (old : List Nat) : List Nat :=
  let ts := timerWords (s.viProg l v)
  (s.viInit l v).zipIdx.map (fun w => match s.mapped v w.2 with
    | some o => nth old o 0
    | none => if ts.contains w.2 then 0 else w.1)
/-- The state that a run reads (R214, R234): its own version, else that of the VI's latest run, else the live state; and the index of the run that left it. -/
def State.baseState (s : State) (l : Lane) (r : Run) : List Nat × Option Nat :=
  let lv := s.viLive l r.vi
  let q := ((s.lane l).before r).getLast?
  if s.carries l r then
    (if lv.carry.elim false (·.2) then lv.words else s.carryWords l r.vi ((q.bind (·.words)).getD lv.words), q.elim lv.last (fun q => some q.idx))
  else match q with
  | some q => match q.words with
    | some w => (w, some q.idx)
    | none => (lv.words, lv.last)
  | none => (lv.words, lv.last)
/-- The slot of a segment once its frame is filled (R210, R213), with the run's further knowledge. -/
def State.fillSlot (s : State) (l : Lane) (r : Run) (t : Tok) : SlotSt × Run :=
  let g := nth r.prog t.seg { code := [], off := 0, len := 0, addr := 0, ins := [] }
  let base := s.baseState l r
  let ws := r.words.getD base.1
  let st := placed g.addr ((List.range g.len).map (fun i => nth ws (g.off + i) 0))
  let areas := g.ins.flatMap (fun e => placed e.addr (s.areaWords l r e))
  let fr := (g.ins.zipIdx).filterMap (fun e =>
    if e.1.kind = 5 then
      let w := s.areaWords l r e.1
      let n := ((mapGet (s.lane l).inbox r.vi []).filter (fun f => idxGe r.idx f.1)).length
      some (e.2, w.length, n - w.headD 0)
    else none)
  let pr := s.predicted l r g
  let wasProv := r.wasProv || !pr.isEmpty || (s.lane l).mayGuess r
  let er := if !wasProv then [] else
    (g.ins.filter (fun e => e.kind == 4)).flatMap (fun e => (List.range e.depth).map (fun a =>
      let k := idxSub r.idx a
      (e.id, k, e.first, (List.range e.nch).map (fun c => mapGet ((s.lane l).expAt e.id k) (e.first + c) 0))))
  let delta := if t.seg = 0 then (match base.2 with | some q => idxSub r.idx q | none => 1) else r.delta
  ({ tok := t.id, filled := false, frame := st ++ areas, fr := fr },
   { r with prov := r.prov ++ pr.filter (fun p => !r.prov.contains p), wasProv := wasProv,
            box := fr.foldl (fun b e => max b (((mapGet (s.lane l).inbox r.vi []).filter (fun f => idxGe r.idx f.1)).length - e.2.2)) r.box
            words := some ws, delta := delta, fresh := r.fresh || s.carries l r, expRead := r.expRead ++ er })

/-! ### Conditions and tokens (R256 to R260) -/

/-- Every condition of Table 11-3 that could be counted for a segment. -/
def Run.conds (r : Run) (seg : Nat) : List Dep :=
  let g := nth r.prog seg { code := [], off := 0, len := 0, addr := 0, ins := [] }
  (if seg = 0 then (.prevRun :: if r.kind = 0 then [] else [.release]) else [.prevSeg]) ++
  g.ins.flatMap (fun e =>
    match e.kind with
    | 1 => (List.range e.depth).map (fun a => .sv e.id (idxSub r.idx a))
    | 2 => [.mod e.id r.idx]
    | 3 => [.goose r.idx]
    | 4 => [.exp e.id r.idx]
    | _ => [])
/-- A live run of a VI for an index exists. -/
def LaneSt.liveRun (x : LaneSt) (v k : Nat) : Bool :=
  (x.runs ++ x.held).any (fun q => q.dead == 0 && q.kind == 0 && q.vi == v && q.idx == k)
/-- A condition is outstanding. A run that is provisional, or would be as things stand, needs only that the VI's earlier runs have
provisional state versions, and does not wait for KIND 3 inputs (R234, R258). -/
def LaneSt.outstanding (x : LaneSt) (r : Run) (seg : Nat) : Dep → Bool
  | .prevSeg => decide (r.segDone < seg)
  | .prevRun =>
    (x.held.any (fun q => q.vi == r.vi && idxLater r.idx q.idx)) ||
    (x.before r).any (fun q => !(q.done && x.mayGuess r))
  | .sv i k => x.svLacks r i k
  | .mod c k => ((mapGet x.mods c []).lookup k).isNone && (match x.bnd0 with | some b => idxGe k b | none => false)
  | .goose k =>
    !(r.wasProv || x.mayGuess r || x.got.contains k || (match x.bnd with | some b => idxLater b k | none => false))
  | .exp v k => x.liveRun v k
  | .release => !r.released
def LaneSt.tokOf (x : LaneSt) (id : Nat) : Option Tok := x.toks.find? (fun t => t.id == id)
def LaneSt.runOf (x : LaneSt) (rid : Nat) : Option Run := x.runs.find? (fun r => r.rid == rid)
def LaneSt.putRun (x : LaneSt) (r : Run) : LaneSt := { x with runs := x.runs.map (fun q => if q.rid == r.rid then r else q) }
def LaneSt.putTok (x : LaneSt) (t : Tok) : LaneSt := { x with toks := x.toks.map (fun q => if q.id == t.id then t else q) }
def LaneSt.putTile (x : LaneSt) (p : Nat) (t : Tile) : LaneSt := { x with tiles := mapPut x.tiles p t }
def LaneSt.tile (x : LaneSt) (p : Nat) : Tile := mapGet x.tiles p {}
def LaneSt.free (x : LaneSt) : Nat := 65536 - x.toks.length
/-- The slot of a tile. -/
def Tile.slot (t : Tile) (b : Bool) : Option SlotSt := if b then t.slot1 else t.slot0
def Tile.setSlot (t : Tile) (b : Bool) (x : Option SlotSt) : Tile := if b then { t with slot1 := x } else { t with slot0 := x }
/-- The conditions of a token that are outstanding as things stand. -/
def LaneSt.lacks (x : LaneSt) (t : Tok) : List Dep :=
  match x.runOf t.rid with
  | none => []
  | some r => (r.conds t.seg).filter (x.outstanding r t.seg)
/-- Order of tasks that become READY in one clock: INDEX, VI, SEG (R260). -/
def tokLt (a b : Tok) : Bool :=
  idxLater b.idx a.idx || (a.idx == b.idx && (decide (a.vi < b.vi) || (a.vi == b.vi && decide (a.seg < b.seg))))
/-- The conditions met are struck off, each once; tokens that wait for none become READY (R258, R259). -/
def LaneSt.wake (x : LaneSt) : LaneSt :=
  let ts := x.toks.map (fun t => if t.st = 1 then { t with deps := (x.lacks t).filter (fun d => t.deps.contains d) } else t)
  let now := sortBy tokLt (ts.filter (fun t => t.st == 1 && t.deps.isEmpty))
  { x with
    toks := ts.map (fun t => if t.st = 1 ∧ t.deps.isEmpty then { t with st := 2 } else t)
    ready := x.ready ++ now.map (·.id) }
/-- READY has reached HIGH and has not yet fallen to LOW (R264). -/
def State.readyHigh (s : State) (l : Lane) : Bool :=
  let n := ((s.lane l).toks.filter (fun t => t.st == 2)).length
  let hi := s.fld (R.SCH_READY_CFG l) 11 0 * 16
  let lo := min hi (s.fld (R.SCH_READY_CFG l) 27 16 * 16)
  if s.bit (R.SCH_STATUS l) 1 then decide (lo < n) else decide (hi ≤ n)
/-- The READY level is judged anew. -/
def State.readyJudge (s : State) (l : Lane) : State := s.setB (R.SCH_STATUS l) 1 (s.readyHigh l)
/-- The counts, crests and status of the scheduler follow its tokens (R257, R264, R266). -/
def State.schedRefresh (s : State) (l : Lane) : State :=
  let x := s.lane l
  let cnt := fun (st : Nat) => (x.toks.filter (fun t => t.st == st)).length
  let s := (((s.wrC (R.SCH_TOK_FREE l) x.free).wrC (R.SCH_TOK_WAIT l) (cnt 1)).wrC (R.SCH_TOK_READY l) (cnt 2)).wrC (R.SCH_TOK_SLOT l) (cnt 3)
  let s := (((s.wrC (R.SCH_TOK_RUN l) (cnt 4)).wrC (R.SCH_TOK_DONE l) (cnt 5)).crest (R.SCH_TOK_CREST l) x.toks.length).crest (R.SCH_READY_CREST l) (cnt 2)
  let s := (List.range 64).foldl (fun s p => s.wrC (R.SCH_PLD_READY l p) (x.toks.filter (fun t => t.st == 2 && t.polder == p)).length) s
  let busy := (x.tiles.filter (fun t => t.2.slot0.isSome || t.2.slot1.isSome)).length
  let bp := !x.held.isEmpty || x.evheld.any (fun e => !(mapGet x.evq e []).isEmpty)
  let s := s.onIf (bp && !s.bit (R.SCH_STATUS l) 0) (fun s => s.setB (R.SCH_EVENTS l) 0 true)
  let s := ((s.setB (R.SCH_STATUS l) 0 bp).readyJudge l).setB (R.SCH_STATUS l) 2 (decide (x.free ≤ s.fld (R.SCH_CFG l) 31 16))
  let s := (s.wrC (R.SCH_HELD l) x.held.length).wrC (R.SCH_IDLE_PAIRS l) (128 - busy)
  s.modLane l (fun x => { x with bpSeen := x.bpSeen || bp })

/-! ### Creation (R256, R263, R264) -/

/-- Protected work: a re-creation, or a run of a VI whose PRIO reaches PROTECT_PRIO (R263). -/
def State.protected_ (s : State) (l : Lane) (r : Run) : Bool := r.reexec || decide (s.fld (R.SCH_CFG l) 2 0 ≤ r.prio)
/-- A creation may allocate: its tokens stand free beside the reserve (R263), and READY is not high where Table 11-5 asks for it. -/
def State.mayAlloc (s : State) (l : Lane) (r : Run) : Bool :=
  let f := (s.lane l).free
  let p := s.protected_ l r
  decide (r.nseg + (if p then 0 else s.fld (R.SCH_CFG l) 31 16) ≤ f) && ((p && (r.reexec || r.kind == 0)) || !s.readyHigh l)
/-- A creation waits behind those held: an unprotected one while any is held, any other behind one of an earlier boundary (Table 11-5). -/
def State.behindHeld (s : State) (l : Lane) (r : Run) : Bool :=
  !r.reexec && (s.lane l).held.any (fun q => !(s.protected_ l r && r.kind == 0) || idxLater r.idx q.idx)
/-- The lowest FREE tokens. -/
def LaneSt.freeIds (x : LaneSt) (n : Nat) : List Nat :=
  ((List.range (x.toks.length + n)).filter (fun i => !x.toks.any (fun t => t.id == i))).take n
/-- A run receives its tokens, linked in segment order (R256). -/
def LaneSt.alloc (x : LaneSt) (r : Run) : LaneSt :=
  let r := { r with rid := x.nextRid }
  let ids := x.freeIds r.nseg
  let ts := ids.zipIdx.map (fun (e : Nat × Nat) =>
    ({ id := e.1, rid := r.rid, vi := r.vi, seg := e.2, prio := r.prio, polder := r.polder, st := 1, prov := false,
       reexec := r.reexec, kind := r.kind, idx := r.idx, gen := r.gen, deps := r.conds e.2, next := ids[e.2 + 1]?,
       pair := 0, slot := false } : Tok))
  { x with nextRid := x.nextRid + 1, runs := x.runs ++ [r], toks := x.toks ++ ts }
/-- A run is created, or its creation held (R263, R264). -/
def State.createRun (s : State) (l : Lane) (r : Run) : State :=
  if s.mayAlloc l r && !s.behindHeld l r then s.modLane l (fun x => x.alloc r)
  else
    let s := s.modLane l (fun x => { x with held := sortBy (fun a b =>
      idxLater b.idx a.idx || (a.idx == b.idx && decide (a.vi < b.vi))) (x.held ++ [r]) })
    (s.addSat (R.SCH_HELD_TOTAL l) 1).onIf r.reexec (fun s => s.setB (R.SCH_EVENTS l) 2 true)
/-- The oldest held creation is made once its tokens can be allocated (R264). -/
def State.heldCreate (s : State) (l : Lane) : State :=
  match (s.lane l).held with
  | [] => s
  | r :: t => if s.mayAlloc l r && s.fastClk then s.modLane l (fun x => ({ x with held := t }).alloc r) else s

/-! ### Release link (R243, R207) -/

/-- The lane hands no result over: it is HALTED, or has stopped under R198 (R207, R365). -/
def State.mute (s : State) (l : Lane) : Bool := s.bit (R.FAB_STATUS l) 0 || (s.lane l).deaf
/-- A message enters the release link. -/
def State.relPut (s : State) (l : Lane) (typ idx vi gen : Nat) (items : List (Nat × Nat)) (digest pay : Nat) (stat : List Nat) : State :=
  s.modLane l (fun x => { x with
    rel := x.rel ++ [{ typ := typ, seq := x.relSeq, idx := idx, vi := vi, gen := gen, items := items, digest := digest, pay := pay, stat := stat }]
    relSeq := idxAdd x.relSeq 1 })
/-- A result is handed over, unless the lane is mute. -/
def State.relSend (s : State) (l : Lane) (typ idx vi gen : Nat) (items : List (Nat × Nat)) (digest pay : Nat) (stat : List Nat) : State :=
  if s.mute l then s else s.relPut l typ idx vi gen items digest pay stat
/-- The item pairs of a record (R243). -/
def itemPairs (rec : List RecItem) : List (Nat × Nat) :=
  rec.filterMap (fun i =>
    if 0x58 ≤ i.op ∧ i.op ≤ 0x5C then some (i.slot + i.item * 16 + (i.op - 0x58) * 65536, (i.vals.headD (0, 0)).2) else none)
/-- The digest of a record: its XOUT, RECW and SIG items in issue order (R243). -/
def recDigest (rec : List RecItem) : Nat :=
  crc32c (wordsBytes ((rec.filter (fun i => decide (0x5D ≤ i.op))).flatMap (fun i => [i.op, i.item] ++ i.vals.map (·.2))))
/-- The latest index at and below which every run of the lane is final or abandoned (FAB_DONE_INDEX); none before the first boundary. -/
def LaneSt.doneIdx (x : LaneSt) : Option Nat :=
  match x.bnd with
  | none => none
  | some b => some ((x.runs ++ x.held).foldl (fun a r => if r.dead = 0 ∧ idxGe a r.idx then idxSub r.idx 1 else a) b)
/-- The latest index of which the lane has handed every final result to its release link; every index before the first boundary counts as handed over (R207, R243). -/
def LaneSt.sentIdx (x : LaneSt) : Option Nat :=
  (x.doneIdx).map (fun d => (x.own.map (·.idx) ++ x.steps.map (·.2) ++ (x.cdue.filter (fun c => !c.2.2.1)).map (·.2.1)).foldl
    (fun a k => if idxGe a k then idxSub k 1 else a) d)
def State.doneRefresh (s : State) (l : Lane) : State :=
  match (s.lane l).doneIdx with
  | some d => s.wrC (R.FAB_DONE_INDEX l) d
  | none => s

/-! ### Charges (R225, R242, R261) -/

/-- A segment's charge enters the lane's load and its polder's account (R261). -/
def State.chargeTile (s : State) (l : Lane) (p n : Nat) : State :=
  (s.addWrap (R.SCH_PLD_CHARGE l p) n).modLane l (fun x => { x with load := x.load + n })
/-- The last charge of a run, and its crest mark (Table 09-13). -/
def State.chargeStat (s : State) (l : Lane) (r : Run) : State :=
  (s.setF (R.FAB_VI_STAT0 l r.vi) 23 0 (min 16777215 r.charge)).crest (R.FAB_VI_STAT1 l r.vi) (min 16777215 r.charge)
/-- Squashed cycles of a VI, counted for the source lane (R242, R253). -/
def State.squashCycles (s : State) (l : Lane) (v n : Nat) : State :=
  s.onIf (s.isSource l) (fun s => (s.addWrap (R.SLU_VI_SPEC5 v) n).addWrap R.SLU_SQUASH_CYCLES n)
def State.lastOvr (s : State) (l : Lane) (v cause k : Nat) : State :=
  (s.wr (R.FAB_LAST_OVR l) (v + cause * 4096)).wr (R.FAB_LAST_OVR_INDEX l) k

/-! ### Tokens return (R257) -/

/-- The tokens of a run in WAIT, READY and SLOT become FREE; slots that held them are empty. -/
def LaneSt.dropTokens (x : LaneSt) (rid : Nat) : LaneSt :=
  let gone := x.toks.filter (fun t => t.rid == rid && decide (t.st < 4))
  let tiles := gone.foldl (fun ts t => if t.st = 3 then mapPut ts t.pair ((mapGet ts t.pair {}).setSlot t.slot none) else ts) x.tiles
  { x with
    toks := x.toks.filter (fun t => !(t.rid == rid && decide (t.st < 4)))
    ready := x.ready.filter (fun i => !gone.any (fun t => t.id == i))
    tiles := tiles }
/-- A segment of the run is on a tile. -/
def LaneSt.onTile (x : LaneSt) (rid : Nat) : Bool := x.toks.any (fun t => t.rid == rid && t.st == 4)
/-- The frames that a run has received leave the VI's inbox when it ends (R213). -/
def LaneSt.dropBox (x : LaneSt) (r : Run) : LaneSt :=
  if r.box = 0 then x
  else
    let b := mapGet x.inbox r.vi []
    { x with inbox := mapPut x.inbox r.vi ((b.filter (fun e => idxGe r.idx e.1)).drop r.box ++ b.filter (fun e => !idxGe r.idx e.1)) }
def LaneSt.delRun (x : LaneSt) (rid : Nat) : LaneSt := { x with runs := x.runs.filter (fun r => r.rid != rid) }

/-! ### Squash (R239 to R242) -/

/-- One provisional run is squashed and created again (R239); cause, stream and channel of Table 10-8. -/
def State.squashOne (s : State) (l : Lane) (r : Run) (stat : List Nat) : State :=
  let s := s.onIf r.sent (fun s => s.relSend l 4 r.idx r.vi r.gen [] 0 0 stat)
  let on := (s.lane l).onTile r.rid
  let s := s.modLane l (fun x => x.dropTokens r.rid)
  let s := if on then s.modLane l (fun x => x.putRun { r with dead := 1 })
    else (s.modLane l (fun x => x.delRun r.rid)).squashCycles l r.vi r.charge
  s.createRun l { r with prov := [], wasProv := false, sent := false, reexec := true, segDone := 0, done := false, stop := false,
                         dead := 0, out := [], words := none, charge := 0, delta := 1, expRead := [], box := 0 }
/-- The provisional runs that `hit` gives a cause, and every later provisional run of the same VIs with cause CHAIN, oldest first (R239). -/
def State.squashWhere (s : State) (l : Lane) (hit : Run → Option (List Nat)) : State :=
  let rs := sortBy (fun a b => idxLater b.idx a.idx) ((s.lane l).runs.filter (fun r => r.dead == 0 && r.wasProv))
  (rs.foldl (fun (st : State × List Nat) r =>
    match hit r with
    | some c => (st.1.squashOne l r c, r.vi :: st.2)
    | none => if st.2.contains r.vi then (st.1.squashOne l r [6, 0, 0], st.2) else st) (s, [])).1

/-! ### The FINAL of a control-loop VI (R279) -/

/-- The record is complete. -/
def OwnRec.ready (o : OwnRec) : Bool := o.fab != 1 && o.steps.all (fun e => e.2.isSome)
/-- Complete records leave: a FINAL with the fabric run's items and then the slots' in slot order, or a NONE. -/
def State.ownFlush (s : State) (l : Lane) : State :=
  let done := (s.lane l).own.filter OwnRec.ready
  let s := s.modLane l (fun x => { x with own := x.own.filter (fun o => !o.ready) })
  done.foldl (fun s o =>
    if o.fab != 2 && o.steps.isEmpty then s.relSend l 5 o.idx o.vi o.gen [] 0 (if o.fab = 3 then 2 else 1) []
    else
      let items := (sortBy (fun (a b : Nat × Option (List (Nat × Nat))) => decide (a.1 < b.1)) o.steps).flatMap (fun e => e.2.getD [])
      s.relSend l 2 o.idx o.vi o.gen (itemPairs o.items ++ items) (recDigest o.items) 0 []) s
/-- The fabric run of a control-loop VI is complete or abandoned. -/
def State.ownFab (s : State) (l : Lane) (r : Run) (fab : Nat) : State :=
  (s.modLane l (fun x => { x with own := x.own.map (fun o =>
    if o.vi = r.vi ∧ o.idx = r.idx then { o with fab := fab, items := if fab = 2 then r.out else [] } else o) })).ownFlush l
/-- The lane keeps an open record for the run's VI and index. -/
def LaneSt.owned (x : LaneSt) (r : Run) : Bool := r.kind == 0 && x.own.any (fun o => o.vi == r.vi && o.idx == r.idx)

/-! ### The end of a run (R214, R224 to R228, R238) -/

/-- The export words after a final run (R224). -/
def expAfter (old : List (Nat × Nat)) (rec : List RecItem) : List (Nat × Nat) :=
  (rec.filter (fun i => i.op == 0x5D)).foldl (fun m i => i.vals.foldl (fun m v => mapPut m (i.item + v.1) v.2) m) old
/-- A run is late: boundary k + DEADLINE has been received when it becomes final (R228). -/
def State.lateCheck (s : State) (l : Lane) (r : Run) : State :=
  match (s.lane l).bnd with
  | some b => s.onIf (idxGe b (idxAdd r.idx r.deadline)) (fun s =>
      ((s.addSat (R.FAB_LATE l) 1).lastOvr l r.vi 3 r.idx).setB (R.FAB_EVENTS l) 5 true)
  | none => s
/-- The words that segments wrote back, over the live state (R214, R301). -/
def mergeState (live ws : List Nat) (prog : List Seg) : List Nat :=
  live.zipIdx.map (fun w => if prog.any (fun g => decide (g.off ≤ w.2) && decide (w.2 < g.off + g.len)) then nth ws w.2 0 else w.1)
/-- The export words of a final record become effective at an index (R224). -/
def LaneSt.putExports (x : LaneSt) (v k : Nat) (rec : List RecItem) : LaneSt :=
  let old := (mapGet x.exps v []).headD (0, [])
  { x with exps := mapPut x.exps v ((k, expAfter old.2 rec) :: (mapGet x.exps v []).take 400) }
/-- The messages of a final run (R243). -/
def State.finalSend (s : State) (l : Lane) (r : Run) : State :=
  let d := recDigest r.out
  if r.wasProv then
    (s.onIf (!r.sent) (fun s => s.relSend l 1 r.idx r.vi r.gen (itemPairs r.out) 0 0 [])).relSend l 3 r.idx r.vi r.gen [] d 0 []
  else if (s.lane l).owned r then s.ownFab l r 2
  else s.relSend l 2 r.idx r.vi r.gen (itemPairs r.out) d 0 []
/-- The carry of a changed VI, once its last run below the exchange index is final or abandoned (R83, R231). -/
def State.carryPoll (s : State) (l : Lane) (v : Nat) : State :=
  let lv := s.viLive l v
  match lv.carry with
  | some (x, false) =>
    if ((s.lane l).runs ++ (s.lane l).held).any (fun r => r.dead == 0 && r.vi == v && idxLater x r.idx) then s
    else s.modLane l (fun y => { y with vis := mapPut y.vis v { lv with words := s.carryWords l v lv.words, carry := some (x, true) } })
  | _ => s
/-- A run becomes final: its state version is the VI's state, its record is final and leaves (R214, R224, R238). -/
def State.runFinal (s : State) (l : Lane) (r : Run) : State :=
  let lv := s.viLive l r.vi
  let new := lv.carry.elim false (fun x => idxGe r.idx x.1)
  let live := lv.words
  let s := s.modLane l (fun x => { ((x.delRun r.rid).dropTokens r.rid).dropBox r with
    vis := mapPut x.vis r.vi { words := mergeState live (r.words.getD live) r.prog, last := some r.idx, carry := if new then none else lv.carry } })
  let s := s.carryPoll l r.vi
  let s := (s.chargeStat l r).wr (R.FAB_VI_STAT3 l r.vi) r.idx
  if r.kind = 1 then
    -- a program cycle: its record waits for the next cycle start (R302)
    s.modLane l (fun x => { x with tasks := mapPut x.tasks r.task { mapGet x.tasks r.task {} with fin := some r.out }, finals := x.finals ++ [r] })
  else
    let s := s.modLane l (fun x => { x.putExports r.vi r.idx r.out with finals := x.finals ++ [r] })
    let s := (s.onIf (r.kind == 0) (fun s => s.lateCheck l r)).finalSend l r
    let changed := fun (q : Run) => q.expRead.any (fun e => e.1 == r.vi && idxGe e.2.1 r.idx &&
      (List.range e.2.2.2.length).map (fun c => mapGet ((s.lane l).expAt r.vi e.2.1) (e.2.2.1 + c) 0) != e.2.2.2)
    (s.squashWhere l (fun q => if changed q then some [5, 0, 0] else none)).doneRefresh l
/-- A run is abandoned under a budget stop (R226). -/
def State.runAbandon (s : State) (l : Lane) (r : Run) : State :=
  let s := s.modLane l (fun x => ((x.dropTokens r.rid).delRun r.rid).dropBox r)
  let s := ((s.addSatF (R.FAB_VI_STAT2 l r.vi) 15 0 1).addSat (R.FAB_BUDGET_STOPS l) 1).lastOvr l r.vi 1 r.idx
  let s := (s.setB (R.FAB_EVENTS l) 3 true).chargeStat l r
  let s := if (s.lane l).owned r then s.ownFab l r 3
    else s.onIf (r.kind != 1) (fun s => s.relSend l 5 r.idx r.vi r.gen [] 0 2 [])
  (s.carryPoll l r.vi).doneRefresh l
/-- The oldest runs of a VI that nothing holds back become final or are abandoned, in order (R238, R241). The number bounds them. -/
def State.settleVi (s : State) (l : Lane) (v : Nat) : Nat → State
  | 0 => s
  | n + 1 =>
    match sortBy (fun a b => idxLater b.idx a.idx) ((s.lane l).runs.filter (fun r => r.dead == 0 && r.vi == v)) with
    | [] => s
    | r :: _ =>
      if r.prov.isEmpty && r.stop then (s.runAbandon l r).settleVi l v n
      else if r.prov.isEmpty && r.done then (s.runFinal l r).settleVi l v n
      else s
/-- A run stops at its budget: at once, or held while it is provisional (R226, R241). Its segment leaves the tile. -/
def State.budgetStop (s : State) (l : Lane) (r : Run) : State :=
  let s := s.modLane l (fun x => x.dropTokens r.rid)
  if r.dead ≠ 0 then s
  else
    let s := s.modLane l (fun x => x.putRun { r with stop := true })
    s.settleVi l r.vi 8

/-! ### Dispatch (R261, R262) -/

/-- Failed pairs of a lane. -/
def State.pairFailed (s : State) (l : Lane) (p : Nat) : Bool := s.bit (R.FAB_PAIR_FAIL l (p / 32)) (p % 32)
def State.failedPairs (s : State) (l : Lane) : Nat := ((List.range 128).filter (fun p => s.pairFailed l p)).length
/-- The capacity of the lane in one sample period (R225). -/
def State.capacity (s : State) (l : Lane) : Nat := (128 - s.failedPairs l) * 1000000000 / s.fs
/-- The pair to which a task goes (R262). -/
def State.choosePair (s : State) (l : Lane) : Option Nat :=
  let x := s.lane l
  let free := fun (p : Nat) => !s.pairFailed l p
  match (List.range 128).find? (fun p => free p && (x.tile p).slot0.isNone && (x.tile p).slot1.isNone) with
  | some p => some p
  | none => ((List.range 128).map (fun i => (x.lastPair + 1 + i) % 128)).find? (fun p =>
      free p && ((x.tile p).slot0.isNone || (x.tile p).slot1.isNone))
/-- The heads of the ready lists of a priority: polder and token (R260). A task whose condition of R234 a squash has undone since it
became READY is passed over (DEDUCED, log entry 35). -/
def LaneSt.heads (x : LaneSt) (prio : Nat) : List (Nat × Tok) :=
  (List.range 64).filterMap (fun p =>
    ((x.ready.filterMap (fun i => x.tokOf i)).find? (fun t => t.prio == prio && t.polder == p && (x.lacks t).isEmpty)).map (fun t => (p, t)))
/-- The polder is inside its budget (R261). -/
def State.inBudget (s : State) (l : Lane) (p : Nat) : Bool := decide (s.rd (R.SCH_PLD_CHARGE l p) < s.rd (R.PLD_TILES p))
/-- A task goes to a slot and its frame is filled as things stand (R262, R234). -/
def State.dispatch (s : State) (l : Lane) (t : Tok) (p : Nat) : State :=
  match (s.lane l).runOf t.rid with
  | none => s
  | some r =>
    let f := s.fillSlot l r t
    let b := (((s.lane l).tile p).slot0).isSome
    let s := s.modLane l (fun x =>
      let x := (x.putTok { t with st := 3, pair := p, slot := b, prov := f.2.wasProv, deps := [] }).putRun f.2
      ({ x with ready := x.ready.filter (· != t.id), lastPair := p }).putTile p ((x.tile p).setSlot b (some f.1)))
    s.addWrap (R.SCH_DISPATCHED l) 1
/-- One dispatch decision (R261). -/
def State.dispatchDecision (s : State) (l : Lane) : State :=
  let x := s.lane l
  let prios := [7, 6, 5, 4, 3, 2, 1, 0]
  let waiting := prios.flatMap (fun q => x.heads q)
  if waiting.isEmpty || !s.fastClk then s
  else if !waiting.any (fun e => s.inBudget l e.1) then
    let ps := ((List.range 64).filter (fun p => waiting.any (fun e => e.1 == p)))
    ps.foldl (fun s p =>
      let s := s.addSat (R.SCH_PLD_DEFERRED l p) 1
      if s.laneActive l && !(s.lane l).overs.contains p then
        (s.addSat (R.PLD_TILE_OVER p) 1).modLane l (fun x => { x with overs := p :: x.overs }) else s) s
  else
    match s.choosePair l with
    | none => s
    | some pr =>
      match prios.find? (fun q => (x.heads q).any (fun e => s.inBudget l e.1)) with
      | none => s
      | some q =>
        let hs := (x.heads q).filter (fun e => s.inBudget l e.1)
        let ptr := nth x.rr q 0
        match (hs.find? (fun e => decide (ptr ≤ e.1))).or hs.head? with
        | none => s
        | some e => (s.modLane l (fun x => { x with rr := modAt x.rr q (fun _ => (e.1 + 1) % 64) })).dispatch l e.2 pr

/-! ### Segments on a tile (Table 09-3, R225, R226) -/

/-- An index lies below the index of an exchange. -/
def idxBelow (x k : Nat) : Bool := idxLater x k && decide (idxSub x k < 65536)
/-- The tile may not begin the run: it is one for X or later, and a slot of the tile holds a run below X (R231). -/
def LaneSt.tileHeld (x : LaneSt) (t : Tile) (r : Run) : Bool :=
  match x.oldRes with
  | none => false
  | some (k, _) =>
    !idxBelow k r.idx && [t.slot0, t.slot1].any (fun sl => (sl.bind (fun sl => (x.tokOf sl.tok).bind (fun q => x.runOf q.rid))).any (fun q => idxBelow k q.idx))
/-- The segment of a filled slot begins, unless another runs: registers are cleared and the 24 cycles charged (R210, R225, R226, R231). -/
def State.segStart (s : State) (l : Lane) (p : Nat) (b : Bool) : State :=
  let x := s.lane l
  let t := x.tile p
  match t.cur, t.slot b with
  | none, some sl =>
    if !sl.filled || s.pairFailed l p then s
    else
      match (x.tokOf sl.tok).bind (fun k => (x.runOf k.rid).map (fun r => (k, r))) with
      | none => s
      | some (k, r) =>
        if x.tileHeld t r then s
        else if r.budget < r.charge + 24 then s.budgetStop l r
        else
          s.modLane l (fun x => ((x.putTok { k with st := 4 }).putRun { r with charge := r.charge + 24 }).putTile p
            { t with cur := some b, v := [], k := [], pos := 0, calls := [], loops := [], ch := 24 })
  | _, _ => s
/-- A frame is complete (R210). -/
def State.frameDone (s : State) (l : Lane) (p : Nat) (b : Bool) : State :=
  match ((s.lane l).tile p).slot b with
  | none => s
  | some sl =>
    s.onIf s.fastClk (fun s => (s.modLane l (fun x => x.putTile p ((x.tile p).setSlot b (some { sl with filled := true })))).segStart l p b)
/-- The tile is free of its running segment: its charge is accounted, its token DONE for 16 ns, and the other slot may begin (R257). -/
def State.tileFree (s : State) (l : Lane) (p : Nat) (k : Tok) (charged : Bool) : State :=
  let t := (s.lane l).tile p
  let b := t.cur.getD false
  let s := s.onIf charged (fun s => s.chargeTile l k.polder t.ch)
  let s := s.modLane l (fun x => { x.putTile p ({ t with cur := none }.setSlot b none) with
    toks := x.toks.map (fun q => if q.id = k.id then { q with st := 5, till := s.now + 16 } else q) })
  s.segStart l p (!b)
/-- The running segment of a tile: token, run, segment. -/
def LaneSt.running (x : LaneSt) (p : Nat) : Option (Tok × Run × Seg) :=
  let t := x.tile p
  match t.cur with
  | none => none
  | some b => (t.slot b).bind (fun sl => (x.tokOf sl.tok).bind (fun k => (x.runOf k.rid).map (fun r =>
      (k, r, nth r.prog k.seg { code := [], off := 0, len := 0, addr := 0, ins := [] }))))
/-- A run that is dead ends with its segment: a squashed one, or one of an old tag, whose result is discarded (R239, R95). -/
def State.deadEnd (s : State) (l : Lane) (r : Run) : State :=
  let s := s.modLane l (fun x => x.delRun r.rid)
  (s.onIf (r.dead == 1) (fun s => s.squashCycles l r.vi r.charge)).onIf (r.dead == 2) (fun s => s.genDiscard 1)
/-- The state slice of a frame written back into a state version (R214). -/
def writeBackState (ws : List Nat) (g : Seg) (frame : List (Nat × Nat)) : List Nat :=
  ws.zipIdx.map (fun w => if g.off ≤ w.2 ∧ w.2 < g.off + g.len then mapGet frame (g.addr + (w.2 - g.off)) 0 else w.1)
/-- Step 3 of Table 09-3 of the segment that a tile runs. -/
def State.segEnd (s : State) (l : Lane) (p : Nat) : State :=
  match (s.lane l).running p with
  | none => s
  | some (k, r, g) =>
    let t := (s.lane l).tile p
    let frame := match t.slot (t.cur.getD false) with | some sl => sl.frame | none => []
    if r.dead ≠ 0 then (s.tileFree l p k (r.dead != 2)).deadEnd l r
    else
      let last := decide (r.nseg ≤ k.seg + 1)
      let r := { r with words := some (writeBackState (r.words.getD []) g frame), segDone := k.seg + 1, done := last }
      let send := last && r.wasProv && !r.prov.isEmpty && !r.sent
      let s := s.onIf send (fun s => s.relSend l 1 r.idx r.vi r.gen (itemPairs r.out) 0 0 [])
      let s := s.modLane l (fun x => x.putRun { r with sent := r.sent || send })
      (s.tileFree l p k true).settleVi l r.vi 8
/-- An operation cannot issue within the budget: the run stops and leaves the tile (R226, R241). -/
def State.stopOnTile (s : State) (l : Lane) (p : Nat) (k : Tok) (r : Run) : State :=
  let s := s.tileFree l p k (r.dead != 2)
  if r.dead ≠ 0 then s.deadEnd l r else s.budgetStop l r

/-! ### VI reset in a lane (R230, R257, R267) -/

/-- The runs and tokens of a VI are discarded at the commit point, and counted (R95, R257); a run on a tile ends with its segment, and
held creations are dropped without a count (R267). -/
def State.lanePurgeVi (s : State) (l : Lane) (v : Nat) : State :=
  let y := s.lane l
  let m := (y.runs.filter (fun r => r.vi == v && !y.onTile r.rid)).length +
    (y.finals.filter (fun r => r.vi == v)).length + (y.own.filter (fun o => o.vi == v)).length
  (s.genDiscard m).modLane l (fun x =>
    let rs := x.runs.filter (fun r => r.vi == v)
    let x := rs.foldl (fun x r =>
      let on := x.onTile r.rid
      let x := x.dropTokens r.rid
      if on then x.putRun { r with dead := 2 } else x.delRun r.rid) x
    { x with held := x.held.filter (fun r => r.vi != v), inbox := mapDel x.inbox v, finals := x.finals.filter (fun r => r.vi != v),
             own := x.own.filter (fun o => o.vi != v) })
/-- The VI's live state is that of its initial state again (R230, step 3 of Table 04-5). -/
def State.laneViInit (s : State) (l : Lane) (v : Nat) : State :=
  s.modLane l (fun x => { x with vis := mapDel x.vis v, exps := mapDel x.exps v })

/-! ### Verdicts and messages in the lane (R237, R240, R258) -/

/-- The lane verdict of a set (Table 10-1): none is CONFIRM, else cause and FIRST_FAIL. -/
def State.laneVerdict (s : State) (l : Lane) (m : IMsg) (quals : List Nat) : Option (List Nat) :=
  let v := bitsOf m.verdict 1 0
  let ff := bitsOf m.verdict 7 2
  let same := quals.zipIdx.all (fun q => q.1 == (s.lane l).qualOf m.set (idxSub m.idx 3) q.2)
  if v = 1 ∧ same then none
  else if v = 1 then
    some [2, m.set, (quals.zipIdx.find? (fun q => q.1 != (s.lane l).qualOf m.set (idxSub m.idx 3) q.2)).elim 0 (·.2)]
  else if v = 2 then some [bitsOf m.verdict 10 8, m.set, ff]
  else some [3, m.set, 0]
/-- The verdict of a stream and index takes effect on the provisional runs (R238, R239, R241). -/
def State.applyVerdict (s : State) (l : Lane) (i k : Nat) (v : Option (List Nat)) : State :=
  match v with
  | some c => s.squashWhere l (fun r => if r.prov.contains (i, k) then some c else none)
  | none =>
    let vis := ((s.lane l).runs.filter (fun r => r.dead == 0 && r.prov.contains (i, k))).map (·.vi)
    let s := s.modLane l (fun x => { x with runs := x.runs.map (fun r => { r with prov := r.prov.filter (· != (i, k)) }) })
    vis.foldl (fun s v => s.settleVi l v 8) s
/-- A set enters the sample store. -/
def LaneSt.putSet (x : LaneSt) (i : Nat) (e : SvSet) : LaneSt :=
  { x with smp := mapPut x.smp i (e :: ((mapGet x.smp i []).filter (fun v => v.key != e.key)).take 400)
           preds := mapPut x.preds i ((mapGet x.preds i []).filter (fun p => p.1 != e.key)) }
/-- Slots that waited for a run below X begin (R231). -/
def State.tilesBegin (s : State) (l : Lane) : State :=
  match (s.lane l).oldRes with
  | none => s
  | some _ => ((s.lane l).tiles.filter (fun t => t.2.cur.isNone && (t.2.slot0.isSome || t.2.slot1.isSome))).foldl (fun s t =>
      (s.segStart l t.1 false).segStart l t.1 true) s
/-- Tokens wake and the scheduler's registers follow. -/
def State.laneEnd (s : State) (l : Lane) : State := (((s.tilesBegin l).modLane l LaneSt.wake).schedRefresh l).doneRefresh l
/-- The streams whose sets the lane receives from boundary k on, and those that end there (R213, R258). -/
def State.strsRefresh (s : State) (l : Lane) (k : Nat) : State :=
  let on := (s.cfgAt k).svAll
  let old := (s.lane l).strs
  let live := (old.filter (fun e => e.2.2.isNone)).map (·.1)
  let ends := live.filter (fun i => !on.contains i)
  let adds := on.filter (fun i => !live.contains i)
  s.modLane l (fun x => { x with strs := adds.map (fun i => (i, k, none)) ++
    (old.filter (fun e => !adds.contains e.1)).map (fun e => if ends.contains e.1 then (e.1, e.2.1, some k) else e) })
/-- A message whose generation tag is old is discarded (R95). -/
def State.msgOld (s : State) (m : IMsg) (owner : Nat) : Bool := m.gen != s.viGen owner

end Sys2Proof.Machine
end

