-- ==== Sys2Proof/Machine/Loop.lean ====
section
/-! DEFINITION. The loop engine: steps of loop slots, override groups and trace channels (12_loops_optimiser.md, R269 to
R282). -/
namespace Sys2Proof.Machine

/-! ### Number formats (R274, R275) -/

def sat40 (i : Int) : Int := clampI (-549755813888) 549755813887 i
def sat16 (i : Int) : Int := clampI (-32768) 32767 i
/-- A signed 16-bit field. -/
def State.s16 (s : State) (k hi lo : Nat) : Int := sgnW 16 (s.fld k hi lo)
/-- Rounded arithmetic right shift by 15. -/
def rsh15 (i : Int) : Int := (i + 16384) / 32768
/-- A Q1.15 value in a binary format. -/
def ofQ15 (f : Fmt) (i : Int) : Nat := f.roundI false i (-15)
/-- A value times 2^n, rounded to the nearest integer; out of range for an infinity. -/
def scaleInt (f : Fmt) (a n : Nat) : Option Int := f.rne (f.mul a (f.roundI false 1 n)) (2 ^ 70)

/-! ### Slots -/

def State.slotRt (s : State) (l : Lane) (L : Nat) : SlotRt := mapGet (s.lane l).slots L {}
def State.setSlotRt (s : State) (l : Lane) (L : Nat) (r : SlotRt) : State :=
  s.modLane l (fun x => { x with slots := mapPut x.slots L r })
def State.slotEn (s : State) (l : Lane) (L : Nat) : Bool := s.bit (R.LPE_SLOT0 l L) 0
def State.slotOwner (s : State) (l : Lane) (L : Nat) : Nat := s.fld (R.LPE_SLOT0 l L) 15 4
/-- The group of a slot that is a member of one. -/
def State.slotGroup (s : State) (l : Lane) (L : Nat) : Option Nat :=
  if s.bit (R.LPE_SLOT0 l L) 23 then some (s.fld (R.LPE_SLOT0 l L) 22 16) else none
def State.slotPeriod (s : State) (l : Lane) (L : Nat) : Nat := max 1 (s.fld (R.LPE_SLOT_PERIOD l L) 19 0)
def State.slotMax (s : State) (l : Lane) (L : Nat) : Nat := s.fld (R.LPE_SLOT_PERIOD l L) 22 20
/-- The enabled slots. -/
def State.slotsOn (s : State) (l : Lane) : List Nat := (s.listed (R.LPE_SLOT0 l) 1024).filter (fun L => s.slotEn l L)
/-- The members of a group (R278). -/
def State.groupSlots (s : State) (l : Lane) (g : Nat) : List Nat := (s.slotsOn l).filter (fun L => s.slotGroup l L == some g)
/-- The slots that step as one unit with a slot. -/
def State.unitSlots (s : State) (l : Lane) (L : Nat) : List Nat :=
  match s.slotGroup l L with
  | some g => s.groupSlots l g
  | none => [L]
/-- The last uo and the released output of a slot. -/
def State.slotOut (s : State) (l : Lane) (L : Nat) : Int := s.s16 (R.LPE_SLOT_OUTREL l L) 15 0
def State.slotRel (s : State) (l : Lane) (L : Nat) : Int := s.s16 (R.LPE_SLOT_OUTREL l L) 31 16
def State.slotI (s : State) (l : Lane) (L : Nat) : Int :=
  sgnW 40 (s.rd (R.LPE_SLOT_I_LO l L) + two32 * s.fld (R.LPE_SLOT_I_HI l L) 7 0)
/-- The limits of a slot applied. -/
def State.outLim (s : State) (l : Lane) (L : Nat) (i : Int) : Int :=
  min (max i (s.s16 (R.LPE_SLOT_OUT_LIM l L) 15 0)) (s.s16 (R.LPE_SLOT_OUT_LIM l L) 31 16)
/-- A slot starts: its countdown is PHASE, and its next step is a first step (R269, R275). -/
def State.slotStart (s : State) (l : Lane) (L : Nat) : State :=
  let r := s.slotRt l L
  ((s.setSlotRt l L { r with cd := s.fld (R.LPE_SLOT_PHASE l L) 19 0, first := true, changed := false }).setB (R.LPE_SLOT_STATUS l L) 4 true)

/-! ### Due slots (R269, R270) -/

/-- Steps of a slot that are created and not complete, those of this boundary among them. -/
def LaneSt.slotOpen (x : LaneSt) (L : Nat) : Nat :=
  (x.steps.filter (fun e => e.1 == L)).length + (x.sdue.filter (fun e => e.1 == L && !e.2.2)).length
/-- The countdowns of the enabled slots at a boundary; the slots due there. -/
def State.slotCount (s : State) (l : Lane) : List Nat × State :=
  (s.slotsOn l).foldl (fun (a : List Nat × State) L =>
    let r := a.2.slotRt l L
    if r.cd = 0 then (a.1 ++ [L], a.2.setSlotRt l L { r with cd := a.2.slotPeriod l L - 1 })
    else (a.1, a.2.setSlotRt l L { r with cd := r.cd - 1 })) ([], s)
/-- The due slots whose step is skipped: MAXOUT steps are outstanding (R270). -/
def State.slotSkips (s : State) (l : Lane) (due : List Nat) : List Nat :=
  due.filter (fun L => decide (s.slotMax l L ≤ (s.lane l).slotOpen L))

/-! ### Trace channels (R282) -/

/-- A point enters the ring of a channel; in single mode the last of POST ends it. -/
def State.trPut (s : State) (l : Lane) (c v : Nat) : State :=
  if s.bit (R.LPE_TR2 l c) 31 then s
  else
    let w := s.fld (R.LPE_TR2 l c) 13 0
    let s := (s.wr (R.LPE_TRACE l c w) v).setF (R.LPE_TR2 l c) 13 0 (w + 1)
    let t := mapGet (s.lane l).traces c {}
    match t.left with
    | some n =>
      let s := s.modLane l (fun x => { x with traces := mapPut x.traces c { t with left := if n ≤ 1 then none else some (n - 1) } })
      s.onIf (decide (n ≤ 1)) (fun s => (s.setB (R.LPE_TR2 l c) 31 true).setB (R.LPE_EVENTS l) 6 true)
    | none => s
/-- A trigger of a channel that is not TRIGGERED. -/
def State.trTrigger (s : State) (l : Lane) (c k : Nat) : State :=
  if !s.bit (R.LPE_TR0 l c) 0 || s.bit (R.LPE_TR2 l c) 30 then s
  else
    let s := (s.setF (R.LPE_TR2 l c) 29 16 (s.fld (R.LPE_TR2 l c) 13 0)).setB (R.LPE_TR2 l c) 30 true
    let s := (s.wr (R.LPE_TR3 l c) k).setB (R.LPE_EVENTS l) 5 true
    let post := s.fld (R.LPE_TR1 l c) 29 16
    if !s.bit (R.LPE_TR0 l c) 1 then s
    else if post = 0 then (s.setB (R.LPE_TR2 l c) 31 true).setB (R.LPE_EVENTS l) 6 true
    else s.modLane l (fun x => { x with traces := mapPut x.traces c { mapGet x.traces c {} with left := some post } })
/-- TRACE_TRIG at boundary k, for the channels of LPE_TR_SEL. -/
def State.traceTrig (s : State) (l : Lane) (k : Nat) : State :=
  (List.range 16).foldl (fun s c => s.onIf (s.bit (R.LPE_TR_SEL l) c) (fun s => s.trTrigger l c k)) s
/-- TRACE_ARM at a boundary. -/
def State.traceArm (s : State) (l : Lane) : State :=
  (List.range 16).foldl (fun s c => s.onIf (s.bit (R.LPE_TR_SEL l) c) (fun s =>
    ((s.setB (R.LPE_TR2 l c) 30 false).setB (R.LPE_TR2 l c) 31 false).modLane l (fun x =>
      { x with traces := mapPut x.traces c { mapGet x.traces c {} with left := none } }))) s
/-- The channels of a slot follow a step for boundary k, or a skip: triggers among `evs`, and a point at every DIV-th step. -/
def State.traceStep (s : State) (l : Lane) (L k : Nat) (evs : List Nat) (q : Nat → Nat → Nat) : State :=
  ((List.range 16).filter (fun c => s.bit (R.LPE_TR0 l c) 0 && s.fld (R.LPE_TR0 l c) 11 2 == L)).foldl (fun s c =>
    let s := s.onIf (evs.contains (s.fld (R.LPE_TR0 l c) 21 20)) (fun s => s.trTrigger l c k)
    let t := mapGet (s.lane l).traces c {}
    let n := t.cnt + 1
    let go := decide (max 1 (s.fld (R.LPE_TR1 l c) 11 0) ≤ n)
    let s := s.modLane l (fun x => { x with traces := mapPut x.traces c { t with cnt := if go then 0 else n } })
    s.onIf go (fun s => s.trPut l c (q (s.fld (R.LPE_TR0 l c) 15 12) (s.fld (R.LPE_TR0 l c) 19 16)))) s

/-- A due slot's step is created, or skipped (R270). -/
def State.slotDue (s : State) (l : Lane) (L : Nat) : State :=
  match (s.lane l).sdue.find? (fun e => e.1 == L) with
  | none => s
  | some e =>
    let s := s.modLane l (fun x => { x with sdue := x.sdue.erase e })
    if e.2.2 then
      let s := (s.addSatF (R.LPE_SLOT_COUNTS l L) 15 0 1).addSat (R.LPE_SKIPS l) 1
      let s := ((s.wr (R.LPE_LAST_OVR l) (L + 4096)).wr (R.LPE_LAST_OVR_INDEX l) e.2.1).setB (R.LPE_EVENTS l) 1 true
      let tr := fun (s : State) => s.traceStep l L e.2.1 [3] (fun _ _ => 0x80000000)
      if s.below e.2.1 then s.under tr else tr s
    else s.modLane l (fun x => { x with steps := x.steps ++ [(L, e.2.1)] })

/-! ### Sources (Table 12-1, R272) -/

/-- A step of a slot for a boundary is outstanding. -/
def LaneSt.stepOpen (x : LaneSt) (L k : Nat) : Bool :=
  x.steps.contains (L, k) || x.sdue.any (fun e => e.1 == L && e.2.1 == k && !e.2.2)
/-- The PV source of a step for k is settled. -/
def State.pvSettled (s : State) (l : Lane) (L k : Nat) : Bool :=
  let x := s.lane l
  let id := s.fld (R.LPE_SLOT_PV l L) 15 4
  match s.fld (R.LPE_SLOT_PV l L) 3 0 with
  | 0 => !x.liveRun id (idxSub k 1)
  | 1 => (x.setOf id (idxSub k 1)).isSome || !x.awaits id (idxSub k 1)
  | 2 => !x.stepOpen id k
  | _ => true
/-- A step is ready: its PV source is settled, and a target slot's step for the same boundary is complete. -/
def State.stepReady (s : State) (l : Lane) (L k : Nat) : Bool :=
  s.pvSettled l L k && !(s.fld (R.LPE_SLOT0 l L) 25 24 == 2 && (s.lane l).stepOpen (s.fld (R.LPE_SLOT_TGT l L) 12 0) k)
/-- A step of a slot below the join index is the active lane's (R375). -/
def LaneSt.ghostStep (x : LaneSt) (L : Nat) : Bool :=
  match x.gj with
  | some j => x.steps.any (fun e => e.1 == L && idxLater j e.2)
  | none => false
/-- The step, or group, that the engine takes next: the first ready one in the order of boundary and slot number (R272). -/
def State.nextStep (s : State) (l : Lane) : Option (Nat × Nat) :=
  let order := sortBy (fun (a b : Nat × Nat) => idxLater b.2 a.2 || (a.2 == b.2 && decide (a.1 < b.1))) (s.lane l).steps
  order.find? (fun e =>
    let c := s.cfgAt e.2
    (c.unitSlots l e.1).all (fun M => (s.lane l).steps.contains (M, e.2) && !(s.lane l).ghostStep M && c.stepReady l M e.2))
/-- The cyclic task of a VI. -/
def State.taskOfVi (s : State) (l : Lane) (v : Nat) : Option Nat :=
  (List.range 32).find? (fun t => s.bit (R.CPE_TASK0 l t) 0 && s.fld (R.CPE_TASK0 l t) 15 4 == v)
/-- An input image word of a cyclic program VI as latched at or before a boundary, and whether its station answered (Table 12-1, R310). -/
def State.imgWord (s : State) (l : Lane) (v k w : Nat) : Nat × Bool :=
  match s.taskOfVi l v with
  | none => (0, false)
  | some t =>
    match (mapGet (s.lane l).tasks t {}).imgs.find? (fun e => idxGe k e.1) with
    | none => (0, false)
    | some e => (nth e.2.1 w 0, e.2.2.any (fun i =>
        decide (s.fld (R.CPE_STA2 l i) 15 0 ≤ w) && decide (w < s.fld (R.CPE_STA2 l i) 15 0 + s.fld (R.CPE_STA2 l i) 31 16)))
/-- The value and the goodness of a step's PV source (Table 12-1, R274). -/
def State.pvSource (s : State) (l : Lane) (L k : Nat) : Nat × Bool :=
  let x := s.lane l
  let id := s.fld (R.LPE_SLOT_PV l L) 15 4
  let sub := s.fld (R.LPE_SLOT_PV l L) 31 16
  let p := idxSub k 1
  match s.fld (R.LPE_SLOT_PV l L) 3 0 with
  | 0 => (mapGet (x.expAt id p) sub 0, true)
  | 1 => match x.setOf id p with
    | some e => (nth e.vals sub 0, s.qGood (nth e.quals sub 0x10001))
    | none => (0, false)
  | 2 => (ofQ15 f32 (s.slotRel l id), true)
  | 3 => s.imgWord l id p sub
  | _ => (0, false)
/-- (x - PV_OFFSET) * PV_SCALE in binary32 (R274). -/
def State.normalise (s : State) (l : Lane) (L x : Nat) : Nat :=
  f32.mul (f32.sub x (s.rd (R.LPE_SLOT_PV_OFFSET l L))) (s.rd (R.LPE_SLOT_PV_SCALE l L))
/-- The PV of a step in Q1.15 and whether it is good; where the conversion has no number, a free value. -/
def State.slotPv (s : State) (l : Lane) (L k : Nat) : (Int × Bool) × State :=
  let v := s.pvSource l L k
  let good := v.2 && !f32.isNaN v.1
  match scaleInt f32 (s.normalise l L v.1) 15 with
  | some i => ((sat16 i, good), s)
  | none => ((sgnW 16 s.takeFree.1, good), s.takeFree.2)
/-- A binary32 value clamped to -1.0 to 1 - 2^-15, as binary64 (R274). -/
def tgtClamp (x : Nat) : Nat := f64.conv f32 (f32.minN (f32.maxN x 0xBF800000) 0x3F7FFE00)
/-- A target in engineering units as a binary64 target (R274); where the conversion has no number, a free value in its range. -/
def State.tgtOf (s : State) (l : Lane) (L x : Nat) : Nat × State :=
  if f32.isNaN (s.normalise l L x) then (tgtClamp (s.takeFree.1 % two32), s.takeFree.2) else (tgtClamp (s.normalise l L x), s)
/-- The target of a slot (R274). -/
def State.slotTgt (s : State) (l : Lane) (L : Nat) : Nat × State :=
  match s.fld (R.LPE_SLOT0 l L) 25 24 with
  | 0 => s.tgtOf l L (s.rd (R.LPE_SLOT_SP_TARGET l L))
  | 2 => (ofQ15 f64 (s.slotRel l (s.fld (R.LPE_SLOT_TGT l L) 12 0)), s)
  | _ => ((s.slotRt l L).tgt, s)

/-! ### Notch and profile (R276, R277) -/

/-- One step of the notch; at a slot's first step its memory is the input. -/
def State.notch (s : State) (l : Lane) (L : Nat) (first : Bool) (x : Int) : Int × State :=
  let c := fun (i : Nat) => s.s16 (R.LPE_SLOT_NOTCH l L (i / 2)) (16 * (i % 2) + 15) (16 * (i % 2))
  let r := if first then { s.slotRt l L with x1 := x, x2 := x, y1 := x, y2 := x } else s.slotRt l L
  let acc := c 0 * x + c 1 * r.x1 + c 2 * r.x2 - c 3 * r.y1 - s.s16 (R.LPE_SLOT_NA2 l L) 15 0 * r.y2
  let y := sat16 ((acc + 8192) / 16384)
  (y, s.setSlotRt l L { r with x2 := r.x1, x1 := x, y2 := r.y1, y1 := y })
/-- One update of the profile generator: position, speed, acceleration (R277). -/
def profStep (vmax amax jmax tgt : Nat) (p : Nat × Nat × Nat) : Nat × Nat × Nat :=
  let neg := fun (x : Nat) => f64.neg x
  let two := f64.ofInt 2
  let d := f64.sub tgt p.1
  let down := f64.lt d 0
  let zero := f64.isZero d
  let lim := f64.minN vmax (f64.sqrt (f64.mul (f64.mul two amax) (f64.abs d)))
  let vd := if zero then 0 else if down then neg lim else lim
  let vd := f64.sub vd (f64.div (f64.mul p.2.2 (f64.abs p.2.2)) (f64.mul two jmax))
  let ad := f64.minN (f64.maxN (f64.sub vd p.2.1) (neg amax)) amax
  let a := f64.add p.2.2 (f64.minN (f64.maxN (f64.sub ad p.2.2) (neg jmax)) jmax)
  let v := f64.minN (f64.maxN (f64.add p.2.1 a) (neg vmax)) vmax
  let left := f64.sub tgt (f64.add p.1 v)
  if !zero && (if down then f64.lt 0 left else f64.lt left 0) then (tgt, 0, 0) else (f64.add p.1 v, v, a)
/-- The profile of a slot after n updates towards a target, from the state kept or the state of a first step. -/
def State.profile (s : State) (l : Lane) (L n : Nat) (first : Bool) (pv : Int) (tgt : Nat) : Nat × Nat × Nat :=
  let sva := fun (i : Nat) => s.rd64 (R.LPE_SLOT_SVA l L i)
  let lim := fun (i : Nat) => s.rd64 (R.LPE_SLOT_PROF l L i)
  let p0 := if first then (ofQ15 f64 pv, 0, 0) else (sva 0, sva 2, sva 4)
  if s.bit (R.LPE_SLOT0 l L) 28 then (List.range n).foldl (fun p _ => profStep (lim 0) (lim 2) (lim 4) tgt p) p0
  else (tgt, p0.2)

/-! ### The terms of a step (R275, R298) -/

/-- What a member or a single slot has computed before its output is chosen. -/
structure Terms where
  slot : Nat
  n : Nat
  first : Bool
  pv : Int
  good : Bool
  man : Bool
  prof : Nat × Nat × Nat
  sp : Int
  e : Int
  p : Int
  d : Int
  df : Int
  di : Int
  /-- the integrator before the step, and i + di -/
  i0 : Int
  ic : Int
  u : Int
  /-- the output before the notch -/
  uo : Int
/-- Periods since the last completed step, 1 to 8, and 1 at a first step. -/
def State.stepN (s : State) (l : Lane) (L k : Nat) : Nat :=
  match (s.slotRt l L).last with
  | some b => if (s.slotRt l L).first then 1 else min 8 (max 1 (((k + two32 - b) % two32) / s.slotPeriod l L))
  | none => 1
/-- A gain and its shift applied: ((g x + 2^14) >> 15) << sh. -/
def State.gain (s : State) (l : Lane) (L i : Nat) (x : Int) : Int :=
  rsh15 (s.s16 (R.LPE_SLOT_K l L i) 15 0 * x) * (2 ^ s.fld (R.LPE_SLOT_K l L i) 19 16 : Nat)
/-- The PV, the profile, the terms and the output before the notch of one slot (R275). `man` says that the slot is manual. -/
def State.terms (s : State) (l : Lane) (L k : Nat) (man : Bool) : Terms × State :=
  let r := s.slotRt l L
  let first := r.first
  let n := s.stepN l L k
  let (q, s) := s.slotPv l L k
  let (pv, s) := if s.fld (R.LPE_SLOT0 l L) 27 26 = 1 then s.notch l L first q.1 else (q.1, s)
  let (tgt, s) := s.slotTgt l L
  let prof := s.profile l L n first pv tgt
  let sp := match scaleInt f64 prof.1 30 with | some i => clampI (-1073741824) 1073741823 i | none => 0
  let e := sp - pv * 32768
  let p := sat40 (s.gain l L 0 e)
  let prev := if first then pv else r.pvPrev
  let df0 := if first then 0 else r.df
  let df := sat40 (df0 + rsh15 ((s.fld (R.LPE_SLOT_DF l L) 15 0 : Nat) * ((prev - pv) * 32768 - df0)))
  let d := sat40 (s.gain l L 2 df)
  let di := sat40 ((n : Int) * s.gain l L 1 e)
  let last := s.slotOut l L
  let i0 := if r.changed && !s.below k then sat40 (last * 32768 - p - d) else s.slotI l L
  let ic := sat40 (i0 + di)
  let u := sat16 (rsh15 (sat40 (p + ic + d)))
  let uo := if first then s.s16 (R.LPE_SLOT_OUT_SAFE l L) 15 0
    else if man then s.outLim l L (s.s16 (R.LPE_SLOT_MAN_OUT l L) 15 0)
    else if !q.2 then (if s.bit (R.LPE_SLOT0 l L) 30 then s.s16 (R.LPE_SLOT_OUT_SAFE l L) 31 16 else last)
    else s.outLim l L u
  (⟨L, n, first, pv, q.2, man, prof, sp, e, p, d, df, di, i0, ic, u, uo⟩, s)
/-- sat40((o << 15) - p - d): the integrator that makes the output o. -/
def Terms.track (t : Terms) (o : Int) : Int := sat40 (o * 32768 - t.p - t.d)
/-- The integrator under the clamp rule of R275. -/
def State.clampI40 (s : State) (l : Lane) (t : Terms) : Int :=
  let lo := s.s16 (R.LPE_SLOT_OUT_LIM l t.slot) 15 0
  let hi := s.s16 (R.LPE_SLOT_OUT_LIM l t.slot) 31 16
  if (hi < t.u ∧ 0 < t.di) ∨ (t.u < lo ∧ t.di < 0) then t.i0 else t.ic
/-- The integrator of a slot that is not in a group (R275). -/
def State.newI (s : State) (l : Lane) (t : Terms) : Int :=
  if t.first || t.man || !t.good then t.track t.uo
  else if s.bit (R.LPE_SLOT0 l t.slot) 29 then (if t.uo ≠ t.u then t.track t.uo else t.ic)
  else s.clampI40 l t

/-! ### The end of a step (R273, R275, R279, R282) -/

/-- A quantity of a step for a trace channel: units of 2^-(15 + SH), saturated (R282). -/
def traceQty (t : Terms) (i rel ug : Int) (q sh : Nat) : Nat :=
  let w := fun (x : Int) => u32 (clampI (-2147483648) 2147483647 x)
  let m : Int := (2 ^ sh : Nat)
  let fl := fun (x : Nat) => w ((scaleInt f64 x (15 + sh)).getD 0)
  match q with
  | 0 => w (t.sp / 32768 * m)
  | 1 => w (t.pv * m)
  | 2 => w (t.e / 32768 * m)
  | 3 => w (t.p / 32768 * m)
  | 4 => w (i / 32768 * m)
  | 5 => w (t.d / 32768 * m)
  | 6 => w (t.uo * m)
  | 7 => w (rel * m)
  | 8 => fl t.prof.1
  | 9 => fl t.prof.2.1
  | 10 => fl t.prof.2.2
  | 11 => w (ug * m)
  | _ => 0
/-- A word of a cyclic program VI's output region takes a value in the live state (R301). -/
def State.putLive (s : State) (l : Lane) (v w x : Nat) : State :=
  let lv := s.viLive l v
  s.modLane l (fun y => { y with vis := mapPut y.vis v { lv with words := modAt lv.words w (fun _ => x % two32) } })
/-- The destination of a released output; the item pairs of DST 1 (R274, R279). -/
def State.slotDst (s : State) (l : Lane) (L : Nat) (out : Int) : List (Nat × Nat) × State :=
  let eng := f32.fma (ofQ15 f32 out) (s.rd (R.LPE_SLOT_OUT_SCALE l L)) (s.rd (R.LPE_SLOT_OUT_OFFSET l L))
  match s.fld (R.LPE_SLOT_DST l L) 1 0 with
  | 1 =>
    let h := s.fld (R.LPE_SLOT_DST l L) 5 2
    ([(h + s.fld (R.LPE_SLOT_DST l L) 17 6 * 16, eng), (h + 3 * 65536, 1)], s)
  | 2 =>
    let v := s.fld (R.LPE_SLOT_DSTVI l L) 11 0
    match s.taskOfVi l v with
    | some t => ([], s.putLive l v (s.fld (R.CPE_TASK3 l t) 31 16 + s.fld (R.LPE_SLOT_DSTVI l L) 31 16) eng)
    | none => ([], s)
  | _ => ([], s)
/-- A step is complete: what the slot keeps, its status, lateness, destination and traces. `rel` is the released output where the slot
has one, `sel` the selection of its group. -/
def State.stepDone (s : State) (l : Lane) (k : Nat) (t : Terms) (i : Int) (rel : Option Int) (sel : Bool) (ug : Int) : State :=
  let L := t.slot
  let sat := decide (t.uo ≠ t.u)
  let upSat := sat && !s.bit (R.LPE_SLOT_STATUS l L) 0
  let upBad := !t.good && !s.bit (R.LPE_SLOT_STATUS l L) 1
  let out := rel.getD (s.slotRel l L)
  let s := s.wr (R.LPE_SLOT_SPPV l L) (unsgnW 16 (sat16 (rsh15 t.sp)) + unsgnW 16 t.pv * 65536)
  let s := s.wr (R.LPE_SLOT_OUTREL l L) (unsgnW 16 t.uo + unsgnW 16 out * 65536)
  let s := (s.wr (R.LPE_SLOT_I_LO l L) (unsgnW 40 i % two32)).wr (R.LPE_SLOT_I_HI l L) (unsgnW 40 i / two32)
  let s := ((s.wr64 (R.LPE_SLOT_SVA l L 0) t.prof.1).wr64 (R.LPE_SLOT_SVA l L 2) t.prof.2.1).wr64 (R.LPE_SLOT_SVA l L 4) t.prof.2.2
  let s := s.wr (R.LPE_SLOT_STATUS l L) (b2n sat + b2n (!t.good) * 2 + b2n sel * 4 + b2n t.man * 8)
  let s := (s.onIf upSat (fun s => s.setB (R.LPE_EVENTS l) 4 true)).onIf upBad (fun s => s.setB (R.LPE_EVENTS l) 3 true)
  let late := match (s.lane l).bnd with | some b => idxGe b (idxAdd k (s.slotPeriod l L)) | none => false
  let s := s.onIf late (fun s =>
    let s := (s.addSatF (R.LPE_SLOT_COUNTS l L) 31 16 1).addSat (R.LPE_LATE l) 1
    ((s.wr (R.LPE_LAST_OVR l) (L + 8192)).wr (R.LPE_LAST_OVR_INDEX l) k).setB (R.LPE_EVENTS l) 2 true)
  let s := s.wr (R.LPE_SLOT_LAST l L) k
  let r := s.slotRt l L
  let s := s.setSlotRt l L { r with
    first := false, changed := r.changed && s.below k, last := some k, df := t.df, pvPrev := if t.first || t.good then t.pv else r.pvPrev }
  let (items, s) := match rel with | some o => s.slotDst l L o | none => ([], s)
  let s := s.modLane l (fun x => { x with
    steps := x.steps.erase (L, k)
    own := x.own.map (fun o => if o.vi = s.slotOwner l L ∧ o.idx = k then
      { o with steps := o.steps.map (fun e => if e.1 = L then (L, some items) else e) } else o) })
  let evs := (if upSat then [1] else []) ++ (if upBad then [2] else [])
  (s.traceStep l L k evs (traceQty t i out ug)).ownFlush l
/-- The output notch of a slot whose NOTCH_POS is 2, and its limits (R276). -/
def State.outNotch (s : State) (l : Lane) (L : Nat) (first : Bool) (o : Int) : Int × State :=
  if s.fld (R.LPE_SLOT0 l L) 27 26 = 2 then
    let r := s.notch l L first o
    (r.2.outLim l L r.1, r.2)
  else (o, s)
/-- A slot that is not in a group steps for boundary k (R275, R276). -/
def State.slotStep (s : State) (l : Lane) (L k : Nat) : State :=
  let (t, s) := s.terms l L k (!s.bit (R.LPE_SLOT_MODE l L) 0)
  let i := s.newI l t
  let (o, s) := s.outNotch l L t.first t.uo
  s.stepDone l k t i (some o) false 0
/-- A group steps for boundary k (R278). -/
def State.groupStep (s : State) (l : Lane) (g k : Nat) : State :=
  let out := s.fld (R.LPE_GROUP l g) 10 1
  let outMan := !s.bit (R.LPE_SLOT_MODE l out) 0
  let (ts, s) := (s.groupSlots l g).foldl (fun (a : List Terms × State) L =>
    let r := a.2.terms l L k (L == out && outMan)
    (a.1 ++ [r.1], r.2)) ([], s)
  let sel := if outMan then none else
    (ts.filter (fun t => t.good)).foldl (fun (b : Option Terms) t =>
      match b with
      | some x => if t.uo < x.uo then some t else b
      | none => some t) none
  let ug : Int := if outMan then s.outLim l out (s.s16 (R.LPE_SLOT_MAN_OUT l out) 15 0)
    else match sel with
      | some t => t.uo
      | none => s.s16 (R.LPE_GROUP_STAT l g) 15 0
  let f := s.takeFree
  let s := if sel.isNone then f.2 else s
  let who := match sel with | some t => t.slot | none => f.1 % 1024
  let s := s.wr (R.LPE_GROUP_STAT l g) (unsgnW 16 ug + who * 65536 + b2n (!outMan && sel.isNone) * 2147483648)
  let outFirst := (ts.find? (fun t => t.slot == out)).elim false (fun t => t.first)
  let (o, s) := s.outNotch l out outFirst ug
  ts.foldl (fun s t =>
    let mine := match sel with | some x => x.slot == t.slot | none => false
    let i := if mine && !t.first then s.clampI40 l t else t.track ug
    s.stepDone l k t i (if t.slot = out then some o else none) mine ug) s
/-- The engine takes a step or group for boundary k (R278); the time it is busy (Table 12-2). -/
def State.loopTake (s : State) (l : Lane) (L : Nat) (e : Nat × Nat) : State :=
  let u := s.unitSlots l e.1
  if !u.contains L then s
  else
    let ns := (u.map (fun M => 60 + 28 * (s.stepN l M e.2 - 1))).sum + (if (s.slotGroup l L).isSome then 8 else 0)
    let s := match s.slotGroup l L with
      | some g => s.groupStep l g e.2
      | none => s.slotStep l L e.2
    s.modLane l (fun x => { x with busy := x.busy + ns })
/-- The engine takes the step that LOOP_STEP names, where it is the next one (R272): one below X with the old parameters (R298). A
halted engine takes none (R281). -/
def State.loopStep (s : State) (l : Lane) (L : Nat) : State :=
  if s.bit (R.LPE_STATUS l) 0 || !s.fastClk then s
  else match s.nextStep l with
  | none => s
  | some e => if s.below e.2 then s.under (fun s => s.loopTake l L e) else s.loopTake l L e

/-! ### Resets of slots (R297) -/

/-- Step 4 of Table 04-5: the slots that a VI owns start again; its steps and records are gone. -/
def State.slotViStart (s : State) (l : Lane) (v : Nat) : State :=
  let mine := (s.slotsOn l).filter (fun L => s.slotOwner l L == v)
  mine.foldl (fun s L => (s.wr (R.LPE_SLOT_COUNTS l L) 0).slotStart l L) s
/-- The outstanding steps of the slots of a VI are discarded (R95). -/
def State.slotViPurge (s : State) (l : Lane) (v : Nat) : State :=
  s.modLane l (fun x => { x with
    steps := x.steps.filter (fun e => (s.cfgAt e.2).slotOwner l e.1 != v)
    sdue := x.sdue.filter (fun e => (s.cfgAt e.2.1).slotOwner l e.1 != v) })

end Sys2Proof.Machine
end

