-- ==== Sys2Proof/Machine/Opt.lean ====
section
/-! DEFINITION. The network optimiser: its model, factor, iteration, published terms, solves and transfers
(12_loops_optimiser.md, R283 to R293). Every operation is binary32, rounded to nearest even. -/
namespace Sys2Proof.Machine

/-! ### The model (Table 12-3) -/

structure OptModel where
  n : Nat
  m : Nat
  pcol : List Nat
  prow : List Nat
  pval : List Nat
  acol : List Nat
  arow : List Nat
  aval : List Nat
  rho : List Nat
  dsc : List Nat
  esc : List Nat
  perm : List Nat
  lcol : List Nat
  lrow : List Nat
  sigma : Nat
  alpha : Nat
  c : Nat
  epsAbs : Nat
  epsRel : Nat
  epsInf : Nat
  refine : Nat
  check : Nat
  maxit : Nat

/-- `len` words of the model array whose offset stands in OPT_PTR i. -/
def State.optArr (s : State) (l : Lane) (i len : Nat) : List Nat :=
  (List.range len).map (fun j => memLe (s.lane l).mem (0x60000000 + s.rd (R.OPT_PTR l i) + 4 * j) 4)
def State.optN (s : State) (l : Lane) : Nat := s.fld (R.OPT_DIM l) 13 0
def State.optM (s : State) (l : Lane) : Nat := s.fld (R.OPT_DIM l) 30 16
/-- The default q, l and u. -/
def State.optDefaults (s : State) (l : Lane) : List Nat × List Nat × List Nat :=
  (s.optArr l 9 (s.optN l), s.optArr l 10 (s.optM l), s.optArr l 11 (s.optM l))
def State.optModel (s : State) (l : Lane) : OptModel :=
  let n := s.optN l
  let m := s.optM l
  let np := s.rd (R.OPT_NNZ_P l)
  let na := s.rd (R.OPT_NNZ_A l)
  { n := n, m := m, pcol := s.optArr l 0 (n + 1), prow := s.optArr l 1 np, pval := s.optArr l 2 np, acol := s.optArr l 3 (n + 1),
    arow := s.optArr l 4 na, aval := s.optArr l 5 na, rho := s.optArr l 6 m, dsc := s.optArr l 7 n, esc := s.optArr l 8 m,
    perm := s.optArr l 12 (n + m), lcol := s.optArr l 13 (n + m + 1), lrow := s.optArr l 14 (s.rd (R.OPT_NNZ_L l)),
    sigma := s.rd (R.OPT_PARAM l 0), alpha := s.rd (R.OPT_PARAM l 1), c := s.rd (R.OPT_PARAM l 2), epsAbs := s.rd (R.OPT_PARAM l 3),
    epsRel := s.rd (R.OPT_PARAM l 4), epsInf := s.rd (R.OPT_PARAM l 5), refine := s.fld (R.OPT_CFG l) 2 1,
    check := max 1 (s.fld (R.OPT_CFG l) 15 8), maxit := min 4000 (max 1 (s.fld (R.OPT_MAXITER l) 11 0)) }

/-! ### Sparse arithmetic (R284, R287) -/

/-- The entries of column j of a compressed matrix: position in the stored order, row. -/
def colOf (col row : List Nat) (j : Nat) : List (Nat × Nat) :=
  (span (nth col j 0) (nth col (j + 1) 0 - nth col j 0)).map (fun e => (e, nth row e 0))
def addAt (v : List Nat) (i a x : Nat) : List Nat := modAt v i (fun y => f32.fma a x y)
/-- y + A x. -/
def OptModel.mulA (o : OptModel) (x y : List Nat) : List Nat :=
  (List.range o.n).foldl (fun y j => (colOf o.acol o.arow j).foldl (fun y e => addAt y e.2 (nth o.aval e.1 0) (nth x j 0)) y) y
/-- x + A^T y. -/
def OptModel.mulAt (o : OptModel) (y x : List Nat) : List Nat :=
  (List.range o.n).foldl (fun x j => (colOf o.acol o.arow j).foldl (fun x e => addAt x j (nth o.aval e.1 0) (nth y e.2 0)) x) x
/-- P x, from the stored upper triangle. -/
def OptModel.mulP (o : OptModel) (x : List Nat) : List Nat :=
  (List.range o.n).foldl (fun y j => (colOf o.pcol o.prow j).foldl (fun y e =>
    let p := nth o.pval e.1 0
    let y := addAt y e.2 p (nth x j 0)
    if e.2 = j then y else addAt y j p (nth x e.2 0)) y) (List.replicate o.n 0)
/-- An entry of K in the order of variables and rows. -/
def OptModel.kkt (o : OptModel) (i j : Nat) : Nat :=
  let a := min i j
  let b := max i j
  if b < o.n then
    let p := match (colOf o.pcol o.prow b).find? (fun e => e.2 == a) with
      | some e => nth o.pval e.1 0
      | none => 0
    if a = b then f32.add p o.sigma else p
  else if a < o.n then
    match (colOf o.acol o.arow a).find? (fun e => e.2 == b - o.n) with
    | some e => nth o.aval e.1 0
    | none => 0
  else if a = b then f32.neg (f32.div f32.one (nth o.rho (a - o.n) 0)) else 0
/-- The rows of column j of L, below its diagonal. -/
def OptModel.lcolOf (o : OptModel) (j : Nat) : List (Nat × Nat) := (colOf o.lcol o.lrow j).filter (fun e => decide (j < e.2))
/-- The value of L at row i, column j, where the structure has it. -/
def OptModel.lAt (o : OptModel) (lv : List Nat) (i j : Nat) : Option Nat :=
  ((o.lcolOf j).find? (fun e => e.2 == i)).map (fun e => nth lv e.1 0)
/-- An entry of a column of K less the columns before it: K_ij - sum over k of L_ik (L_jk D_k). -/
def OptModel.reduceAt (o : OptModel) (lv dv : List Nat) (i j : Nat) : Nat :=
  (List.range j).foldl (fun acc k =>
    match o.lAt lv j k, (if i = j then o.lAt lv j k else o.lAt lv i k) with
    | some a, some b => f32.fma (f32.neg (f32.mul a (nth dv k 0))) b acc
    | _, _ => acc) (o.kkt (nth o.perm i 0) (nth o.perm j 0))
/-- The factor, column by column: the values in the order of LROW, and the diagonal (R284). -/
def OptModel.factorise (o : OptModel) : List Nat × List Nat :=
  (List.range (o.n + o.m)).foldl (fun (f : List Nat × List Nat) j =>
    let d := o.reduceAt f.1 f.2 j j
    let dv := f.2 ++ [d]
    ((o.lcolOf j).foldl (fun lv e => modAt lv e.1 (fun _ => f32.div (o.reduceAt f.1 f.2 e.2 j) d)) f.1, dv))
    (List.replicate o.lrow.length 0, [])
/-- Every entry of the diagonal has its sign (R284). -/
def OptModel.factorOk (o : OptModel) (f : List Nat × List Nat) : Bool :=
  f.2.zipIdx.all (fun d => if nth o.perm d.2 0 < o.n then f32.lt 0 d.1 else f32.lt d.1 0)
/-- Forward, diagonal, backward, in the permuted order. -/
def OptModel.ldlSolve (o : OptModel) (f : List Nat × List Nat) (b : List Nat) : List Nat :=
  let N := o.n + o.m
  let y := o.perm.map (fun i => nth b i 0)
  let y := (List.range N).foldl (fun y j => (o.lcolOf j).foldl (fun y e => addAt y e.2 (f32.neg (nth f.1 e.1 0)) (nth y j 0)) y) y
  let y := y.zipIdx.map (fun e => f32.div e.1 (nth f.2 e.2 0))
  let y := (List.range N).reverse.foldl (fun y j =>
    (o.lcolOf j).foldl (fun y e => addAt y j (f32.neg (nth f.1 e.1 0)) (nth y e.2 0)) y) y
  (List.range N).map (fun i => nth y (o.perm.findIdx (· == i)) 0)
/-- K w. -/
def OptModel.mulK (o : OptModel) (w : List Nat) : List Nat :=
  let x := w.take o.n
  let z := w.drop o.n
  let top := (o.mulP x).zipIdx.map (fun e => f32.fma o.sigma (nth x e.2 0) e.1)
  let bot := (o.mulA x (List.replicate o.m 0)).zipIdx.map (fun e => f32.sub e.1 (f32.div (nth z e.2 0) (nth o.rho e.2 0)))
  o.mulAt z top ++ bot
/-- kkt_solve with its refinements (R287). -/
def OptModel.kktSolve (o : OptModel) (f : List Nat × List Nat) (b : List Nat) : List Nat :=
  (List.range o.refine).foldl (fun w _ =>
    List.zipWith f32.add w (o.ldlSolve f (List.zipWith f32.sub b (o.mulK w)))) (o.ldlSolve f b)

/-! ### The iteration and its checks (R287, R288) -/

def vmul (a b : List Nat) : List Nat := List.zipWith f32.mul a b
def vdiv (a b : List Nat) : List Nat := List.zipWith f32.div a b
def vadd (a b : List Nat) : List Nat := List.zipWith f32.add a b
def vsub (a b : List Nat) : List Nat := List.zipWith f32.sub a b
/-- a x + (1 - a) y. -/
def vmix (a : Nat) (x y : List Nat) : List Nat :=
  List.zipWith (fun p q => f32.fma a p (f32.mul (f32.sub f32.one a) q)) x y
def vdot (a b : List Nat) : Nat := (a.zip b).foldl (fun s e => f32.fma e.1 e.2 s) 0
/-- The largest magnitude; NaN where an element is one. -/
def vnorm (a : List Nat) : Nat :=
  if a.any f32.isNaN then f32.nan else a.foldl (fun m x => f32.maxN m (f32.abs x)) 0
structure OptPoint where
  x : List Nat
  z : List Nat
  y : List Nat
  dx : List Nat
  dy : List Nat
/-- One iteration. -/
def OptModel.iterate (o : OptModel) (f : List Nat × List Nat) (qs ls us : List Nat) (p : OptPoint) : OptPoint :=
  let bx := List.zipWith (fun x q => f32.fma o.sigma x (f32.neg q)) p.x qs
  let bz := vsub p.z (vdiv p.y o.rho)
  let w := o.kktSolve f (bx ++ bz)
  let zt := vadd p.z (vdiv (vsub (w.drop o.n) p.y) o.rho)
  let xn := vmix o.alpha (w.take o.n) p.x
  let zr := vmix o.alpha zt p.z
  let zn := List.zipWith f32.minN (List.zipWith f32.maxN (vadd zr (vdiv p.y o.rho)) ls) us
  let yn := List.zipWith (fun y e => f32.fma e.1 e.2 y) p.y (o.rho.zip (vsub zr zn))
  { x := xn, z := zn, y := yn, dx := vsub xn p.x, dy := vsub yn p.y }
/-- rp and rd. -/
def OptModel.residuals (o : OptModel) (qs : List Nat) (p : OptPoint) : Nat × Nat :=
  let ax := o.mulA p.x (List.replicate o.m 0)
  let aty := o.mulAt p.y (List.replicate o.n 0)
  (vnorm (vdiv (vsub ax p.z) o.esc), f32.div (vnorm (vdiv (vadd (vadd (o.mulP p.x) qs) aty) o.dsc)) o.c)
/-- The end of a check: none where the iteration goes on (R288). -/
def OptModel.verdict (o : OptModel) (qs ls us : List Nat) (p : OptPoint) (last : Bool) : Option Nat :=
  let r := o.residuals qs p
  let ax := o.mulA p.x (List.replicate o.m 0)
  let aty := o.mulAt p.y (List.replicate o.n 0)
  let mx := fun (l : List Nat) => l.foldl f32.maxN 0
  let ep := f32.fma o.epsRel (mx [vnorm (vdiv ax o.esc), vnorm (vdiv p.z o.esc)]) o.epsAbs
  let ed := f32.add o.epsAbs (f32.div (f32.mul o.epsRel
    (mx [vnorm (vdiv (o.mulP p.x) o.dsc), vnorm (vdiv aty o.dsc), vnorm (vdiv qs o.dsc)])) o.c)
  let dp := vnorm (vmul o.esc p.dy)
  let lim := f32.mul o.epsInf dp
  let up := List.zipWith (fun d u => (f32.maxN d 0, u)) p.dy us
  let dn := List.zipWith (fun d w => (f32.minN d 0, w)) p.dy ls
  let open_ := (up ++ dn).any (fun e => f32.isInf e.2 && !f32.isZero e.1)
  let dot := fun (l : List (Nat × Nat)) => l.foldl (fun s e => if f32.isZero e.1 then s else f32.fma e.2 e.1 s) 0
  let primal := f32.lt 0 dp && f32.le (vnorm (vdiv (o.mulAt p.dy (List.replicate o.n 0)) o.dsc)) lim && !open_ &&
    f32.le (f32.add (dot up) (dot dn)) (f32.neg lim)
  let dd := vnorm (vmul o.dsc p.dx)
  let dlim := f32.mul o.epsInf dd
  let adx := vdiv (o.mulA p.dx (List.replicate o.m 0)) o.esc
  let rows := (adx.zip (ls.zip us)).all (fun e =>
    (!f32.finite e.2.2 || f32.le e.1 dlim) && (!f32.finite e.2.1 || f32.le (f32.neg dlim) e.1))
  let dual := f32.lt 0 dd && f32.le (vnorm (vdiv (o.mulP p.dx) o.dsc)) dlim &&
    f32.le (vdot qs p.dx) (f32.neg (f32.mul (f32.mul o.epsInf o.c) dd)) && rows
  if (p.x ++ p.y ++ [r.1, r.2]).any (fun v => !f32.finite v) then some 5
  else if f32.le r.1 ep && f32.le r.2 ed then some 1
  else if primal then some 3
  else if dual then some 4
  else if last then some 2
  else none
/-- The iterations from `it` on: code, iterations, the point. The number bounds them. -/
def OptModel.run (o : OptModel) (f : List Nat × List Nat) (qs ls us : List Nat) : Nat → Nat → OptPoint → Nat × Nat × OptPoint
  | 0, it, p => (2, it - 1, p)
  | n + 1, it, p =>
    let p := o.iterate f qs ls us p
    let last := decide (o.maxit ≤ it)
    match if it % o.check = 0 ∨ last then o.verdict qs ls us p last else none with
    | some c => (c, it, p)
    | none => o.run f qs ls us n (it + 1) p

/-! ### Times (R290) -/

def OptModel.tIter (o : OptModel) : Nat :=
  500 + ceilDiv (2 * o.lrow.length * (1 + o.refine) + o.refine * (o.prow.length + 2 * o.arow.length + o.n + o.m) + 12 * (o.n + o.m)) 192
def OptModel.tCheck (o : OptModel) : Nat := 200 + ceilDiv (o.prow.length + 2 * o.arow.length + 8 * (o.n + o.m)) 192
def OptModel.tSet (o : OptModel) : Nat := 20000 + ceilDiv (12 * (o.n + o.m)) 192

/-! ### Solves (R284 to R293) -/

def State.opt (s : State) (l : Lane) : OptSt := (s.lane l).opt
def State.modOpt (s : State) (l : Lane) (f : OptSt → OptSt) : State := s.modLane l (fun x => { x with opt := f x.opt })
def State.optState (s : State) (l : Lane) : Nat := s.fld (R.OPT_STATUS l) 3 0
def State.setOptState (s : State) (l : Lane) (v : Nat) : State := s.setF (R.OPT_STATUS l) 3 0 v
def State.optLast (s : State) (l : Lane) (v : Nat) : State := s.setF (R.OPT_STATUS l) 7 4 v
/-- The optimiser is enabled and has a factor. -/
def State.optOn (s : State) (l : Lane) : Bool := s.bit (R.OPT_CFG l) 0 && s.optState l != 3
/-- The factor is computed at boot, or a new one takes effect: the staging windows and the published terms take the defaults (R284, R297). -/
def State.optInit (s : State) (l : Lane) : State :=
  let o := s.optModel l
  let f := o.factorise
  let ok := s.bit (R.OPT_CFG l) 0 && o.factorOk f
  let d := s.optDefaults l
  let s := ((s.wrs (R.OPT_Q_STAGE l 0) d.1).wrs (R.OPT_L_STAGE l 0) d.2.1).wrs (R.OPT_U_STAGE l 0) d.2.2
  let s := ((s.setB (R.OPT_STATUS l) 8 ok).setB (R.OPT_STATUS l) 9 false).setB (R.OPT_STATUS l) 10 false
  let s := (s.setOptState l (if ok then 0 else 3)).modOpt l (fun _ => { factor := if ok then some f else none })
  if ok then (s.wr (R.OPT_ITER_NS l) o.tIter).wr (R.OPT_CHK_NS l) o.tCheck
  else s.onIf (s.bit (R.OPT_CFG l) 0) (fun s => s.setB (R.OPT_EVENTS l) 3 true)
/-- PUBLISH at a boundary (R285). -/
def State.optPublish (s : State) (l : Lane) : State :=
  s.modOpt l (fun o => { o with pub := some (s.rds (R.OPT_Q_STAGE l 0) (s.optN l), s.rds (R.OPT_L_STAGE l 0) (s.optM l),
    s.rds (R.OPT_U_STAGE l 0) (s.optM l)) })
/-- A solve starts at boundary k with the published terms (R285, R286). -/
def State.optStart (s : State) (l : Lane) (k : Nat) : State :=
  let t := (s.opt l).pub.getD (s.optDefaults l)
  let s := (s.setOptState l 1).wr (R.OPT_START_INDEX l) k
  (s.setB (R.OPT_STATUS l) 10 false).modOpt l (fun o => { o with run := some (k, t.1, t.2.1, t.2.2), held := false, own := none, other := none, discard := false })
/-- SOLVE at boundary k: it starts, or is held (R286). -/
def State.optSolve (s : State) (l : Lane) (k : Nat) : State :=
  if !s.optOn l then s
  else if s.optState l = 0 then s.optStart l k
  else (s.setB (R.OPT_STATUS l) 10 true).modOpt l (fun o => { o with held := true })
/-- A held SOLVE starts at a boundary at which no solve runs or waits (R286). -/
def State.optHeld (s : State) (l : Lane) (k : Nat) : State :=
  s.onIf ((s.opt l).held && s.optOn l && s.optState l == 0) (fun s => s.optStart l k)
/-- The timer's countdown at a boundary (R286). -/
def State.optCount (s : State) (l : Lane) (k : Nat) : State :=
  let p := s.fld (R.OPT_TIMER l) 27 0
  if p = 0 ∨ !s.bit (R.OPT_CFG l) 0 then s
  else s.modOpt l (fun o => if o.cd = 0 then { o with cd := p - 1, due := some k } else { o with cd := o.cd - 1 })
/-- The timer is due: a solve starts, or the due is dropped (R286). -/
def State.optTimer (s : State) (l : Lane) : State :=
  match (s.opt l).due with
  | none => s
  | some k =>
    let s := s.modOpt l (fun o => { o with due := none })
    if !s.optOn l then s
    else if s.optState l = 0 ∧ !(s.opt l).held then s.optStart l k
    else (s.addSat (R.OPT_OVERRUNS l) 1).setB (R.OPT_EVENTS l) 2 true
/-- A finish report leaves for the other lane (R291). -/
def State.optReport (s : State) (l : Lane) (r : OptReport) : State :=
  let s := s.modOpt l (fun o => { o with own := some r })
  match l with
  | .a => { s with xl := { s.xl with repB := s.xl.repB ++ [r] } }
  | .b => { s with xl := { s.xl with repA := s.xl.repA ++ [r] } }
/-- The running solve ends: its results, its code, its report (R288 to R291). -/
def State.optEnd (s : State) (l : Lane) : State :=
  match (s.opt l).run, (s.opt l).factor with
  | some (k, q, lo, up), some f =>
    -- a solve that started below the join index is the active lane's (R375)
    if (match (s.lane l).gj with | some j => idxLater j k | none => false) || (s.opt l).halt then s
    else if (s.opt l).discard then
      ((s.optLast l 7).setOptState l 0).modOpt l (fun o => { o with run := none, discard := false })
    else
      let o := s.optModel l
      let qs := List.zipWith (fun d q => f32.mul (f32.mul o.c d) q) o.dsc q
      let ls := vmul o.esc lo
      let us := vmul o.esc up
      let zero := (List.replicate o.n 0, List.replicate o.m 0, List.replicate o.m 0)
      let w := if s.bit (R.OPT_STATUS l) 9 then (s.opt l).warm.getD zero else zero
      let (code, it, p) := o.run f qs ls us o.maxit 1 { x := w.1, z := w.2.1, y := w.2.2, dx := [], dy := [] }
      let x := vmul o.dsc p.x
      let y := (vmul o.esc p.y).map (fun v => f32.div v o.c)
      let r := o.residuals qs p
      let obj := f32.div (f32.fma 0x3F000000 (vdot p.x (o.mulP p.x)) (vdot qs p.x)) o.c
      let good := decide (code = 1) || decide (code = 2)
      let s := (((s.wrs (R.OPT_X l 0) x).wrs (R.OPT_Y l 0) y).wr (R.OPT_ITER l) it).wr (R.OPT_PRES l) r.1
      let s := ((s.wr (R.OPT_DRES l) r.2).wr (R.OPT_OBJ l) obj).optLast l code
      let s := (s.wr (R.OPT_SOLVE_NS l) (o.tSet + it * o.tIter + ceilDiv it o.check * o.tCheck)).setOptState l 2
      let s := (s.setB (R.OPT_STATUS l) 9 good).modOpt l (fun t => { t with run := none, warm := if good then some (p.x, p.z, p.y) else t.warm })
      s.optReport l { code := code, iters := it, crc := crc32c (wordsBytes x) }
  | _, _ => s
/-- The active lane may transfer at this boundary: it holds its own report and, while the standby is compared, the standby's (R291). -/
def State.optReady (s : State) (l : Lane) : Option Nat :=
  match (s.opt l).own with
  | some r => if !(s.bit R.SLU_STATUS 4 && s.bit R.SLU_STATUS 5) || (s.opt l).other.isSome then some r.code else none
  | none => none
/-- A slot takes its target from the optimiser's variable (R274, R291). -/
def State.optTarget (s : State) (l : Lane) (L : Nat) : State :=
  let t := s.tgtOf l L (s.rd (R.OPT_X l (s.fld (R.LPE_SLOT_TGT l L) 12 0)))
  t.2.setSlotRt l L { s.slotRt l L with tgt := t.1 }
/-- The transfer of a solve at boundary b, with the active lane's code (R291, R293). -/
def State.optTransfer (s : State) (l : Lane) (b code : Nat) : State :=
  let o := s.opt l
  let differ := match o.own, o.other with | some a, some c => a != c | _, _ => false
  let s := s.onIf (s.laneActive l && differ) (fun s => (s.setB (R.OPT_EVENTS l) 4 true).wdnDiverge)
  let s := (s.setOptState l 0).modOpt l (fun o => { o with own := none, other := none, run := none })
  if code == 1 && o.own.elim false (fun r => r.code == 1) then
    let s := (s.slotsOn l).foldl (fun s L =>
      s.onIf (s.fld (R.LPE_SLOT0 l L) 25 24 == 1) (fun s => s.optTarget l L)) s
    ((s.setB (R.OPT_EVENTS l) 0 true).addWrap (R.OPT_SOLVES l) 1).wr (R.OPT_XFER_INDEX l) b
  else (s.setB (R.OPT_EVENTS l) 1 true).addSat (R.OPT_FAILS l) 1
/-- ABORT at a boundary, after the transfer of that boundary (R292). -/
def State.optAbort (s : State) (l : Lane) : State :=
  let st := s.optState l
  let s := (s.setB (R.OPT_STATUS l) 10 false).modOpt l (fun o => { o with held := false })
  if st = 1 ∨ st = 2 then
    let s := if st = 1 then s.takeFree.2.wr (R.OPT_ITER l) (s.takeFree.1 % (min 4000 (max 1 (s.fld (R.OPT_MAXITER l) 11 0)) + 1)) else s
    let s := ((s.optLast l 6).setB (R.OPT_EVENTS l) 5 true).setOptState l 0
    s.modOpt l (fun o => { o with run := none, own := none, other := none, discard := false })
  else
    let last := s.fld (R.OPT_STATUS l) 7 4
    s.onIf (decide (1 ≤ last) && decide (last ≤ 5)) (fun s => s.setB (R.OPT_STATUS l) 12 true)
/-- COLD at a boundary (R289). -/
def State.optCold (s : State) (l : Lane) : State := s.setB (R.OPT_STATUS l) 9 false
/-- A solve ends in a lane (R288). -/
def execSolveEnd (l : Lane) (s : State) : Host.Outcome State Fault Refusal := finish s (s.optEnd l)

/-! ### Commands (R10): they take effect in both lanes at the next boundary -/

/-- A write or command waits for the next boundary. -/
def State.atBoundary (s : State) (c : LaneCmd) : State := { s with xl := { s.xl with cmds := s.xl.cmds ++ [c] } }
/-- LPE_CMD TRACE_TRIG (R282). -/
def execTraceTrig (s : State) : Host.Outcome State Fault Refusal := finish s (s.atBoundary .traceTrig)
/-- LPE_CMD TRACE_ARM (R282). -/
def execTraceArm (s : State) : Host.Outcome State Fault Refusal := finish s (s.atBoundary .traceArm)
/-- OPT_CMD SOLVE (R286). -/
def execSolve (s : State) : Host.Outcome State Fault Refusal := finish s (s.atBoundary .solve)
/-- OPT_CMD PUBLISH (R285). -/
def execPublish (s : State) : Host.Outcome State Fault Refusal := finish s (s.atBoundary .publish)
/-- OPT_CMD ABORT (R292). -/
def execOptAbort (s : State) : Host.Outcome State Fault Refusal := finish s (s.atBoundary .abort)
/-- OPT_CMD COLD (R289). -/
def execCold (s : State) : Host.Outcome State Fault Refusal := finish s (s.atBoundary .cold)

end Sys2Proof.Machine
end

