-- ==== Sys2Proof/Machine/Cyclic.lean ====
section
/-! DEFINITION. The cyclic program engine: tasks, cycles, stations, event tasks, retained words (13_cyclic_programs.md). -/
namespace Sys2Proof.Machine

/-! ### Tasks -/

def State.task (s : State) (l : Lane) (t : Nat) : TaskRt := mapGet (s.lane l).tasks t {}
def State.setTask (s : State) (l : Lane) (t : Nat) (r : TaskRt) : State := s.modLane l (fun x => { x with tasks := mapPut x.tasks t r })
def State.taskVi (s : State) (l : Lane) (t : Nat) : Nat := s.fld (R.CPE_TASK0 l t) 15 4
def State.taskPrio (s : State) (l : Lane) (t : Nat) : Nat := s.fld (R.CPE_TASK0 l t) 22 16
def State.taskPeriod (s : State) (l : Lane) (t : Nat) : Nat := max 1 (s.fld (R.CPE_TASK_PERIOD l t) 17 0)
def State.taskBus (s : State) (l : Lane) (t : Nat) : Bool := s.bit (R.CPE_TASK6 l t) 0
def State.taskIn (s : State) (l : Lane) (t : Nat) : Nat := s.fld (R.CPE_TASK3 l t) 15 0
def State.taskOut (s : State) (l : Lane) (t : Nat) : Nat := s.fld (R.CPE_TASK3 l t) 31 16
/-- The enabled tasks, highest TPRIO first (R299). -/
def State.tasksOn (s : State) (l : Lane) : List Nat :=
  sortBy (fun a b => decide (s.taskPrio l b < s.taskPrio l a)) ((List.range 32).filter (fun t => s.bit (R.CPE_TASK0 l t) 0))
/-- Programs run: RUN-LOCAL, or RUN-REMOTE while RUN is 1 (R305). -/
def State.programsRun (s : State) (l : Lane) : Bool := s.bit (R.CPE_STATUS l) 2
def State.setTaskState (s : State) (l : Lane) (t v : Nat) : State := s.setF (R.CPE_TSTAT0 l t) 1 0 v
/-- Words of a VI's live state. -/
def State.liveWords (s : State) (l : Lane) (v o n : Nat) : List Nat := (List.range n).map (fun i => nth (s.viLive l v).words (o + i) 0)
/-- Consecutive words of a VI's live state take values. -/
def State.putLives (s : State) (l : Lane) (v o : Nat) (ws : List Nat) : State :=
  ws.zipIdx.foldl (fun s w => s.putLive l v (o + w.2) w.1) s
/-- The retained words of a task as they stand (R313). -/
def State.retained (s : State) (l : Lane) (t : Nat) : List Nat :=
  s.liveWords l (s.taskVi l t) (s.fld (R.CPE_TASK5 l t) 15 0) (s.fld (R.CPE_TASK5 l t) 31 16)
def State.putRetained (s : State) (l : Lane) (t : Nat) (ws : List Nat) : State :=
  s.putLives l (s.taskVi l t) (s.fld (R.CPE_TASK5 l t) 15 0) ws
/-- State words outside the retained region take their initial values (R304). -/
def State.taskInit (s : State) (l : Lane) (t : Nat) : State :=
  let keep := s.retained l t
  (s.modLane l (fun x => { x with vis := mapDel x.vis (s.taskVi l t) })).putRetained l t keep
/-- The mode and RUN in force for a cycle of boundary k, as CPE_STATUS [3:0] holds them (R306). -/
def State.modeAt (s : State) (l : Lane) (k : Nat) : Nat :=
  match (s.lane l).mhist.find? (fun e => idxGe k e.1) with
  | some e => e.2.2
  | none => match (s.lane l).mhist.getLast? with
    | some e => e.2.1
    | none => s.fld (R.CPE_STATUS l) 3 0
/-- A run of the task that a start finds under way ends with nothing handed over or written back (DEDUCED, log entry 37). -/
def State.taskDrop (s : State) (l : Lane) (t : Nat) : State :=
  s.modLane l (fun x =>
    let rs := x.runs.filter (fun r => r.dead == 0 && r.kind == 1 && r.task == t)
    let x := rs.foldl (fun x r =>
      let on := x.onTile r.rid
      let x := x.dropTokens r.rid
      if on then x.putRun { r with dead := 3 } else x.delRun r.rid) x
    { x with held := x.held.filter (fun r => !(r.kind == 1 && r.task == t)) })
/-- A task starts (R300, R304); `clear`: the start follows a halt, a FAULT or a RESTART. -/
def State.taskStart (s : State) (l : Lane) (t : Nat) (clear : Bool) : State :=
  let s := s.taskDrop l t
  let s := s.onIf clear (fun s => s.taskInit l t)
  let v := s.taskVi l t
  let lv := s.viLive l v
  let s := s.modLane l (fun x => { x with vis := mapPut x.vis v { lv with last := none }, cdue := x.cdue.filter (fun e => e.1 != t) })
  let r := s.task l t
  let s := s.setTask l t { r with cd := s.fld (R.CPE_TASK_PHASE l t) 17 0, first := true, go := false, latch := none, acc := [],
                                  fin := none, hold := false }
  ((s.setTaskState l t (if s.programsRun l then 1 else 2)).setF (R.CPE_TSTAT0 l t) 15 8 0).wr (R.CPE_TSTAT_CYCLE l t) r.cycle

/-! ### Event tasks (R312) -/

def State.evtOn (s : State) (l : Lane) : List Nat :=
  sortBy (fun a b => decide (s.fld (R.CPE_EV0 l b) 22 16 < s.fld (R.CPE_EV0 l a) 22 16)) ((List.range 64).filter (fun e => s.bit (R.CPE_EV0 l e) 0))
/-- A run of a task is outstanding. -/
def LaneSt.taskRun (x : LaneSt) (kind t : Nat) : Bool :=
  (x.runs ++ x.held).any (fun r => r.dead == 0 && r.kind == kind && r.task == t)
/-- The event status words follow the queues. -/
def State.evtRefresh (s : State) (l : Lane) : State :=
  (s.evtOn l).foldl (fun s e =>
    s.wrC (R.CPE_ESTAT0 l e) ((mapGet (s.lane l).evq e []).length + b2n ((s.lane l).taskRun 2 e) * 8)) s
def State.evtLost (s : State) (l : Lane) (e n : Nat) : State := s.addSatF (R.CPE_ESTAT1 l e) 15 0 n
/-- An event of a task taken at boundary k: queued, dropped, or discarded while programs are halted. -/
def State.evtTake (s : State) (l : Lane) (e k : Nat) : State :=
  let q := mapGet (s.lane l).evq e []
  if !s.programsRun l then s.evtLost l e 1
  else if max 1 (s.fld (R.CPE_EV0 l e) 30 28) ≤ q.length then (s.evtLost l e 1).setB (R.CPE_EVENTS l) 4 true
  else s.modLane l (fun x => { x with evq := mapPut x.evq e (q ++ [k]) })
/-- The enabled event tasks of a source that a test selects. -/
def State.evtSrc (s : State) (l : Lane) (src k : Nat) (p : Nat → Bool) : State :=
  ((s.evtOn l).filter (fun e => s.fld (R.CPE_EV0 l e) 27 24 == src && p e)).foldl (fun s e => s.evtTake l e k) s
/-- The head event of an event task becomes a run, unless back-pressure holds it in its queue (R312, Table 11-5). -/
def State.evtRun (s : State) (l : Lane) (e : Nat) : State :=
  match mapGet (s.lane l).evq e [] with
  | [] => s
  | k :: q =>
    let v := s.fld (R.CPE_EV0 l e) 15 4
    let r := s.mkRun l v k 2 e
    if !s.mayAlloc l r || s.behindHeld l r then s.modLane l (fun x => { x with evheld := e :: x.evheld })
    else
      let s := s.modLane l (fun x => { x with evq := mapPut x.evq e q })
      let img := match (s.task l (s.fld (R.CPE_EV2 l e) 5 1)).imgs with | i :: _ => i.2.1 | [] => []
      let s := s.onIf (s.bit (R.CPE_EV2 l e) 0) (fun s => s.putLives l v (s.fld (R.CPE_EV2 l e) 31 16) img)
      (s.addSatF (R.CPE_ESTAT1 l e) 31 16 1).createRun l { r with released := true }
/-- The event tasks whose heads become runs at a boundary: those with no run outstanding (R312). While programs are halted the events
are discarded and counted (R305). -/
def State.evtCreate (s : State) (l : Lane) : State :=
  (s.evtOn l).foldl (fun s e =>
    let q := mapGet (s.lane l).evq e []
    if q.isEmpty then s
    else if !s.programsRun l then (s.evtLost l e q.length).modLane l (fun x => { x with evq := mapDel x.evq e })
    else s.onIf (!(s.lane l).taskRun 2 e) (fun s => s.modLane l (fun x => { x with evdue := x.evdue ++ [e] }))) (s.modLane l (fun x => { x with evdue := [], evheld := [] }))
/-- The head events become runs in descending TPRIO with the due cyclic tasks of the boundary (R299). -/
def State.evtPoll (s : State) (l : Lane) : State :=
  let x := s.lane l
  let behind := fun (e : Nat) => x.cdue.any (fun d => !d.2.2.2 && !d.2.2.1 && decide (s.fld (R.CPE_EV0 l e) 22 16 < s.taskPrio l d.1))
  (x.evdue.takeWhile (fun e => !behind e)).foldl (fun s e => s.evtRun l e)
    (s.modLane l (fun y => { y with evdue := x.evdue.dropWhile (fun e => !behind e) }))

/-! ### Stations (R309 to R311) -/

def State.staOn (s : State) (l : Lane) (t : Nat) : List Nat :=
  (s.listed (R.CPE_STA0 l) 1024).filter (fun i => s.bit (R.CPE_STA0 l i) 0 && s.fld (R.CPE_STA0 l i) 5 1 == t)
def State.sta (s : State) (l : Lane) (i : Nat) : StaRt := mapGet (s.lane l).stas i {}
/-- A station at a latch (Table 13-6): its input words, its status word. -/
def State.staLatch (s : State) (l : Lane) (t i : Nat) : (List Nat × Nat) × State :=
  let r := s.sta l i
  let n := s.fld (R.CPE_STA2 l i) 31 16
  let st := s.fld (R.CPE_SSTAT0 l i) 1 0
  let acc := (s.task l t).acc.find? (fun a => a.1 == i)
  let miss := min 255 (s.fld (R.CPE_SSTAT0 l i) 15 8 + 1)
  let fail := acc.isNone && decide (max 1 (s.fld (R.CPE_STA3 l i) 7 0) ≤ miss)
  let st' := if acc.isSome then 1 else if fail || st == 3 then 3 else if st = 0 then 0 else 2
  let ws := match acc with
    | some a => a.2.2
    | none => if st' = 3 ∧ s.bit (R.CPE_STA3 l i) 8 then List.replicate n 0
              else (r.words ++ List.replicate n 0).take n
  let miss' := if acc.isSome then 0 else miss
  let s := s.wr (R.CPE_SSTAT0 l i) (st' + miss' * 256)
  let s := s.onIf (acc.isSome && decide (2 ≤ st)) (fun s => s.setB (R.CPE_EVENTS l) 3 true)
  let s := s.onIf (fail && st != 3) (fun s => (s.setB (R.CPE_EVENTS l) 2 true).addSat (R.CPE_SSTAT2 l i) 1)
  let r' : StaRt := { status := match acc with | some a => a.2.1 | none => r.status, words := ws, ever := r.ever || acc.isSome }
  let s := s.onIf acc.isSome (fun s => s.wr (R.CPE_SSTAT3 l i) (s.task l t).cycle)
  let word := b2n acc.isSome + b2n (st' == 3) * 2 + b2n (!r'.ever) * 4 + s.fld (R.CPE_STA0 l i) 9 6 * 16 + miss' * 256 + r'.status * 65536
  ((ws, word), s.modLane l (fun x => { x with stas := mapPut x.stas i r' }))
/-- The words of a task's input region, its status words included. -/
def State.imgLen (s : State) (l : Lane) (t : Nat) : Nat :=
  (s.staOn l t).foldl (fun n i => max n (s.fld (R.CPE_STA3 l i) 31 16 + 1)) (s.fld (R.CPE_TASK4 l t) 15 0)
/-- An operation of a cycle in progress runs under the configuration that the cycle began with (R314). -/
def State.inCycle (s : State) (l : Lane) (t : Nat) (f : State → State) : State :=
  if (s.task l t).kc.elim false (fun k => s.below k) then s.under f else f s
/-- The latch of the input image at boundary k_c + D_IN, and the release of run c (R310). -/
def State.inputLatch (s : State) (l : Lane) (t : Nat) : State :=
  let r := s.task l t
  match r.latch, (s.lane l).bnd with
  | some b, some k =>
    if !idxGe k b then s
    else
      let v := s.taskVi l t
      let base := s.taskIn l t
      let sts := s.staOn l t
      let s := sts.foldl (fun s i =>
        let (w, s) := s.staLatch l t i
        (s.putLives l v (base + s.fld (R.CPE_STA2 l i) 15 0) w.1).putLive l v (base + s.fld (R.CPE_STA3 l i) 31 16) w.2) s
      let img := s.liveWords l v base (s.imgLen l t)
      let prev := r.imgs.head?
      let s := s.setTask l t { r with latch := none, imgs := (b, img, r.acc.map (·.1)) :: r.imgs.take 7 }
      let s := s.modLane l (fun x => { x with runs := x.runs.map (fun q => if q.kind = 1 ∧ q.task = t then { q with released := true } else q),
                                              held := x.held.map (fun q => if q.kind = 1 ∧ q.task = t then { q with released := true } else q) })
      s.evtSrc l 1 b (fun e =>
        let w := s.fld (R.CPE_EV1 l e) 15 0
        let bt := s.fld (R.CPE_EV1 l e) 20 16
        s.fld (R.CPE_EV1 l e) 25 21 == t && (nth img w 0).testBit bt &&
          prev.elim false (fun p => !(nth p.2.1 w 0).testBit bt))
  | _, _ => s
def be32 (b : Bytes) (o : Nat) : Nat := beNat (sliceB b o 4)
/-- A FRAME of a task's VI with the protocol's EtherType, taken by the engine (R309). -/
def State.cpeFrame (s : State) (l : Lane) (t idx : Nat) (b : Bytes) : State :=
  let o := frEtOff b + 2
  let r := s.task l t
  let bad := s.addSatF (R.CPE_TSTAT_CNT l t) 31 16 1
  match (s.staOn l t).find? (fun i => s.fld (R.CPE_STA0 l i) 31 16 == be16 b (o + 6)) with
  | none => bad
  | some i =>
    let n := s.fld (R.CPE_STA2 l i) 31 16
    let form := s.taskBus l t && beNat (sliceB b o 1) == 1 && beNat (sliceB b (o + 1) 1) == 2 && beNat (sliceB b (o + 2) 1) == t &&
      be32 b (o + 8) == r.cycle && be16 b (o + 16) == 4 * n && decide (o + 20 + 4 * n ≤ b.length)
    let onTime := r.kc.elim false (fun k => idxLater (idxAdd k (s.fld (R.CPE_TASK6 l t) 15 8)) idx)
    if !form then bad
    else if r.acc.any (fun a => a.1 == i) then s.addSatF (R.CPE_SSTAT1 l i) 31 16 1
    else if !onTime then s.addSatF (R.CPE_SSTAT1 l i) 15 0 1
    else s.setTask l t { r with acc := r.acc ++ [(i, be16 b (o + 4), (List.range n).map (fun j => be32 b (o + 20 + 4 * j)))] }

/-! ### The cycle (R300 to R305) -/

/-- The item pairs of one segment's cycle frame (R302, R307). -/
def State.segItems (s : State) (l : Lane) (t g k : Nat) (img : List Nat) (flags : Nat) (halt : Bool) : List (Nat × Nat) :=
  let sts := (s.staOn l t).filter (fun i => s.fld (R.CPE_STA0 l i) 9 6 == g)
  let ws := sts.flatMap (fun i =>
    let n := s.fld (R.CPE_STA1 l i) 31 16
    if halt ∧ s.bit (R.CPE_STA3 l i) 9 then List.replicate n 0
    else (List.range n).map (fun j => nth img (s.fld (R.CPE_STA1 l i) 15 0 + j) 0))
  let nseg := s.fld (R.CPE_TASK6 l t) 4 1 + 1
  let items := [flags * 16777216 + nseg * 65536 + sts.length, (s.task l t).cycle, k] ++ ws
  items.zipIdx.map (fun w => (g + w.2 * 16, w.1)) ++ [(g + 3 * 65536, 1)]
/-- A pending change of mode or RUN up to boundary k is applied (R306). -/
def State.modeApply (s : State) (l : Lane) (k : Nat) : State :=
  let mine := (s.lane l).cmds.filter (fun c => match c.2 with | .mode _ _ => idxGe k c.1 | _ => false)
  let s := s.modLane l (fun x => { x with cmds := x.cmds.filter (fun c => !mine.contains c) })
  mine.foldl (fun s c =>
    match c.2 with
    | .mode pos run =>
      let p := pos.getD (s.fld (R.CPE_STATUS l) 1 0)
      let r := run.getD (s.bit (R.CPE_STATUS l) 3)
      let on := decide (p = 2) || (decide (p = 3) && r)
      let up := on && !s.programsRun l
      let old := s.fld (R.CPE_STATUS l) 3 0
      let s := ((s.setF (R.CPE_STATUS l) 1 0 p).setB (R.CPE_STATUS l) 2 on).setB (R.CPE_STATUS l) 3 r
      let s := s.modLane l (fun x => { x with mhist := (c.1, old, s.fld (R.CPE_STATUS l) 3 0) :: x.mhist.take 15 })
      let s := (s.setB (R.CPE_EVENTS l) 5 true).wr (R.CPE_MODE_INDEX l) c.1
      s.onIf up (fun s => (s.tasksOn l).foldl (fun s t => s.setTask l t { s.task l t with go := true }) s)
    | _ => s) s
/-- The changed retained words leave for the supervisor at a freeze of the active lane (R313). -/
def State.retSend (s : State) (l : Lane) (t : Nat) : State :=
  let ws := s.retained l t
  if ws.isEmpty || ws == (s.task l t).ret then s
  else
    let s := s.setTask l t { s.task l t with ret := ws }
    s.onIf (s.laneActive l) (fun s => { s with xl := { s.xl with retPend := mapPut s.xl.retPend t ws } })
/-- A cycle begins at boundary k: freeze, frames, latch, run (R300 to R305). -/
def State.cycleBegin (s : State) (l : Lane) (t k : Nat) : State :=
  let s := s.modeApply l k
  let st := s.fld (R.CPE_TSTAT0 l t) 1 0
  let mode := s.modeAt l k
  let run := mode.testBit 2
  -- a changed program is taken here (R314): the new initial state, the run before it known
  let s := s.carryPoll l (s.taskVi l t)
  let old := s.viLive l (s.taskVi l t)
  let carried := old.carry.elim false (fun x => idxGe k x.1)
  let s := s.onIf carried (fun s => s.modLane l (fun x => { x with vis := mapPut x.vis (s.taskVi l t) { old with carry := none } }))
  -- a change to running starts the task; a task in FAULT waits for one
  let start := run && (decide (st = 2) || (s.task l t).go)
  let s := s.onIf start (fun s =>
    let cd := (s.task l t).cd
    let s := s.taskStart l t true
    s.setTask l t { s.task l t with cd := cd })
  let fault := decide (s.fld (R.CPE_TSTAT0 l t) 1 0 = 3)
  let s := s.onIf (!fault) (fun s => s.setTaskState l t (if run then 1 else 2))
  let prog := decide (mode % 4 = 1)
  let halt := fault || (!run && !prog)
  let r := s.task l t
  let v := s.taskVi l t
  let live := s.liveWords l v (s.taskOut l t) (s.fld (R.CPE_TASK4 l t) 31 16)
  let img := if halt && !r.frozen.isEmpty then r.frozen else live
  let bus := s.taskBus l t
  let s := s.setTask l t { r with
    frozen := img, kc := some k, first := false, acc := [], fin := none
    cycle := if bus then idxAdd r.cycle 1 else r.cycle
    latch := if bus then some (idxAdd k (s.fld (R.CPE_TASK6 l t) 15 8)) else none }
  let s := ((s.wr (R.CPE_TSTAT_CYCLE l t) (s.task l t).cycle).wr (R.CPE_TSTAT_KC l t) k).setF (R.CPE_TSTAT0 l t) 15 8 0
  let flags := b2n (run && !fault) + b2n halt * 2 + b2n r.first * 4
  let frames := if bus then (List.range (s.fld (R.CPE_TASK6 l t) 4 1 + 1)).flatMap (fun g => s.segItems l t g k img flags halt) else []
  let rec_ := r.fin.getD []
  let s := s.onIf r.fin.isSome (fun s => s.modLane l (fun x => { x.putExports v k rec_ with
    finals := x.finals ++ [{ s.mkRun l v k 3 t with out := rec_ }] }))
  let s := s.relSend l 2 k v (s.viGen v) (itemPairs rec_ ++ frames) (recDigest rec_) 0 []
  let s := s.retSend l t
  s.onIf (run && !fault) (fun s => s.createRun l { s.mkRun l v k 1 t with released := !bus, fresh := carried })
/-- An overrun (R303). -/
def State.cycleOverrun (s : State) (l : Lane) (t : Nat) : State :=
  let s := (s.addSatF (R.CPE_TSTAT_CNT l t) 15 0 1).setB (R.CPE_EVENTS l) 0 true
  let s := s.addSatF (R.CPE_TSTAT0 l t) 15 8 1
  let lim := s.fld (R.CPE_TASK6 l t) 23 16
  s.onIf (lim != 0 && decide (lim ≤ s.fld (R.CPE_TSTAT0 l t) 15 8)) (fun s => (s.setTaskState l t 3).setB (R.CPE_EVENTS l) 1 true)
/-- A cycle of a task begins under the configuration of its boundary (R314). -/
def State.cycleUnder (s : State) (l : Lane) (t k : Nat) : State :=
  if s.below k then
    let s := s.under (fun s => s.cycleBegin l t k)
    s.onIf (!s.bit (R.CPE_TASK0 l t) 0) (fun s => s.setTaskState l t 0)
  else s.cycleBegin l t k
/-- The freeze for boundary k waits for run c - 1 and for the loop steps before k that write the image (R301). -/
def State.cycleReady (s : State) (l : Lane) (t k : Nat) : Bool :=
  let x := s.lane l
  let w := fun (L : Nat) => s.fld (R.LPE_SLOT_DST l L) 1 0 == 2 && s.fld (R.LPE_SLOT_DSTVI l L) 11 0 == s.taskVi l t
  ((s.task l t).first || !x.taskRun 1 t) &&
    !(x.steps.any (fun e => w e.1 && idxLater k e.2) || x.sdue.any (fun e => !e.2.2 && w e.1 && idxLater k e.2.1))
/-- Cycles whose due boundary has been taken begin once nothing holds their freeze back. -/
def State.cyclePoll (s : State) (l : Lane) : State :=
  ((s.lane l).cdue.filter (fun e => e.2.2.2)).foldl (fun s e =>
    if (s.cfgAt e.2.1).cycleReady l e.1 e.2.1 then (s.modLane l (fun x => { x with cdue := x.cdue.erase e })).cycleUnder l e.1 e.2.1 else s) s
/-- The due boundary of a task is taken, in the order of boundary and TPRIO (R299, R300, R303). -/
def State.cycleDue (s : State) (l : Lane) (t : Nat) : State :=
  match (s.lane l).cdue.find? (fun e => !e.2.2.2) with
  | none => s
  | some e =>
    if e.1 != t || (match (s.lane l).gj with | some j => idxLater j e.2.1 | none => false) then s
    else if e.2.2.1 then (s.modLane l (fun x => { x with cdue := x.cdue.erase e })).cycleOverrun l t
    else ((s.modLane l (fun x => { x with cdue := x.cdue.map (fun q => if q == e then (q.1, q.2.1, q.2.2.1, true) else q) })).cyclePoll l).evtPoll l
/-- The countdowns of the tasks at boundary k; the due tasks, highest TPRIO first. -/
def State.taskCount (s : State) (l : Lane) : List Nat × State :=
  (s.tasksOn l).foldl (fun (a : List Nat × State) t =>
    let r := a.2.task l t
    if r.hold then a
    else if r.cd = 0 then (a.1 ++ [t], a.2.setTask l t { r with cd := a.2.taskPeriod l t - 1 })
    else (a.1, a.2.setTask l t { r with cd := r.cd - 1 })) ([], s)
/-- A due task is in overrun: its cycle before is not complete (R303). -/
def State.taskOverrun (s : State) (l : Lane) (t : Nat) : Bool :=
  !(s.task l t).first && ((s.lane l).taskRun 1 t || (s.lane l).cdue.any (fun e => e.1 == t && !e.2.2.1))

/-! ### Resets (R315) -/

/-- From step 1 of Table 04-5 a reset VI's task sends no frame and its event queues are empty. -/
def State.taskViHold (s : State) (l : Lane) (v : Nat) : State :=
  let s := match s.taskOfVi l v with
    | some t => (s.setTask l t { s.task l t with hold := true, latch := none, fin := none }).modLane l (fun x =>
        { x with cdue := x.cdue.filter (fun e => e.1 != t) })
    | none => s
  (s.evtOn l).foldl (fun s e => s.onIf (s.fld (R.CPE_EV0 l e) 15 4 == v) (fun s =>
    s.modLane l (fun x => { x with evq := mapDel x.evq e }))) s
/-- Step 3: the initial state, with retained words copied back over it. -/
def State.taskViInit (s : State) (l : Lane) (v : Nat) : State :=
  match s.taskOfVi l v with
  | some t => let keep := s.retained l t; (s.laneViInit l v).putRetained l t keep
  | none => s.laneViInit l v
/-- Step 4: the task starts. -/
def State.taskViStart (s : State) (l : Lane) (v : Nat) : State :=
  match s.taskOfVi l v with
  | some t => s.taskStart l t false
  | none => s
/-- Retained words are restored from MRAM (R313). -/
def State.retRestore (s : State) (l : Lane) : State :=
  (s.tasksOn l).foldl (fun s t =>
    if s.fld (R.CPE_TASK5 l t) 31 16 = 0 then s
    else match (mapGet s.xl.retained t {}).read with
      | some ws => s.putRetained l t (ws.take (s.fld (R.CPE_TASK5 l t) 31 16))
      | none => s.setB (R.CPE_EVENTS l) 7 true) s

/-! ### Rows -/

/-- A due task begins its cycle, or overruns (R300). -/
def execCycleDue (l : Lane) (t : Task) (s : State) : Host.Outcome State Fault Refusal := finish s ((s.cycleDue l t.val).laneEnd l)
/-- The input image is latched and the run released (R310). -/
def execInputLatch (l : Lane) (t : Task) (s : State) : Host.Outcome State Fault Refusal := finish s (((s.inCycle l t.val (fun s => s.inputLatch l t.val)).evtRefresh l).laneEnd l)
/-- A change of mode or RUN is applied at its boundary (R306). -/
def execModeChange (l : Lane) (s : State) : Host.Outcome State Fault Refusal :=
  finish s (match (s.lane l).bnd with | some k => s.modeApply l k | none => s)
/-- A refused command or write (R305). -/
def State.cpeRefuse (s : State) : State :=
  [Lane.a, Lane.b].foldl (fun s l => (s.addSat (R.CPE_REFUSED l) 1).setB (R.CPE_EVENTS l) 6 true) s
/-- The position in force, as the lane that runs holds it. -/
def State.cpeMode (s : State) : Nat := s.fld (R.CPE_STATUS (if s.laneActive .b then .b else .a)) 1 0
/-- RUN and HALT are accepted in RUN-REMOTE (R305). -/
def State.cpeRun (s : State) (run : Bool) : State :=
  if s.cpeMode = 3 then { s with xl := { s.xl with modes := s.xl.modes ++ [(s.now, .mode none (some run))] } }
  else s.cpeRefuse
/-- CPE_CMD RUN (R305). -/
def execCpeRun (s : State) : Host.Outcome State Fault Refusal := finish s (s.cpeRun true)
/-- CPE_CMD HALT (R305). -/
def execCpeHalt (s : State) : Host.Outcome State Fault Refusal := finish s (s.cpeRun false)
/-- CPE_CMD EVENT: an event for event task n at the next boundary (R312). -/
def execCpeEvent (n : Fin 64) (s : State) : Host.Outcome State Fault Refusal := finish s (s.atBoundary (.event n.val))
/-- CPE_CMD RESTART (R300). -/
def execCpeRestart (t : Task) (s : State) : Host.Outcome State Fault Refusal := finish s (s.atBoundary (.restart t.val))
/-- CPE_PW_DATA is accepted in PROG (R306). -/
def State.pwWrite (s : State) (v : Nat) : State :=
  if s.cpeMode = 1 then
    s.atBoundary (.pw v)
  else s.cpeRefuse
/-- A write of CPE_PW_DATA (R306). -/
def execPwDataWrite (v : Word) (s : State) : Host.Outcome State Fault Refusal := finish s (s.pwWrite v.toNat)
/-- A word put into the output region of a cyclic program VI at a boundary (R306). -/
def State.pwApply (s : State) (l : Lane) (x : Nat) : State :=
  let v := s.fld (R.CPE_PW_ADDR l) 11 0
  let w := s.fld (R.CPE_PW_ADDR l) 31 16
  match s.taskOfVi l v with
  | some t => s.onIf (decide (w < s.fld (R.CPE_TASK4 l t) 31 16)) (fun s => s.putLive l v (s.taskOut l t + w) x)
  | none => s
/-- RESTART at a boundary (R300, R304). -/
def State.taskRestart (s : State) (l : Lane) (t : Nat) : State :=
  s.onIf (s.bit (R.CPE_TASK0 l t) 0) (fun s => s.taskStart l t true)
/-- The supervisor writes a task's changed retained words into the older copy (R313). -/
def execRetainedSave (t : Task) (s : State) : Host.Outcome State Fault Refusal :=
  finish s (match s.xl.retPend.lookup t.val with
    | none => s
    | some ws => { s with xl := { s.xl with
        retPend := mapDel s.xl.retPend t.val
        retained := mapPut s.xl.retained t.val ((mapGet s.xl.retained t.val {}).write ws) } })

end Sys2Proof.Machine
end

