-- ==== Sys2Proof/Machine/Energy.lean ====
section
/-! DEFINITION. The energy unit: metering, demand, harmonics, the periodic save, the last-tide save and the restore
(14_energy.md, R318 to R338). -/
namespace Sys2Proof.Machine

/-! ### Access -/

def State.nrgL (s : State) : Lane → NrgLane
  | .a => s.nrgA
  | .b => s.nrgB
def State.modNrg (s : State) (l : Lane) (f : NrgLane → NrgLane) : State :=
  match l with
  | .a => { s with nrgA := f s.nrgA }
  | .b => { s with nrgB := f s.nrgB }
def State.pt (s : State) (l : Lane) (e : Nat) : PtRt := mapGet (s.nrgL l).pts e {}
def State.setPt (s : State) (l : Lane) (e : Nat) (p : PtRt) : State := s.modNrg l (fun x => { x with pts := mapPut x.pts e p })
/-- The enabled points. -/
def State.ptsOn (s : State) (l : Lane) : List Nat :=
  if s.bit (R.NRG_CFG l) 0 then (s.listed (R.NRG_PT0 l) 2048).filter (fun e => s.bit (R.NRG_PT0 l e) 0) else []
def State.ptState (s : State) (l : Lane) (e : Nat) : Nat := s.fld (R.NRG_PT_STATE l e) 1 0
/-- The points that hold counters: enabled, or frozen. -/
def State.ptsAll (s : State) (l : Lane) : List Nat :=
  ((s.listed (R.NRG_PT0 l) 2048 ++ s.listed (R.NRG_PT_STATE l) 2048).foldr insNat []).filter (fun e =>
    (s.bit (R.NRG_CFG l) 0 && s.bit (R.NRG_PT0 l e) 0) || s.ptState l e == 3)
def State.ptElems (s : State) (l : Lane) (e : Nat) : Nat := min 3 (s.fld (R.NRG_PT0 l e) 2 1)
def State.ptMod (s : State) (l : Lane) (e : Nat) : Bool := s.bit (R.NRG_PT0 l e) 4
def State.f0 (s : State) (l : Lane) : Nat := if s.bit (R.NRG_CFG l) 1 then 60 else 50
/-- The source word of a channel of a point: 2x for the voltage of element x, 2x + 1 for its current. -/
def State.ptSrc (s : State) (l : Lane) (e c : Nat) : Nat :=
  s.fld (R.NRG_PT_SRC l e (c / 2)) (if c % 2 = 0 then 14 else 30) (if c % 2 = 0 then 0 else 16)
/-- Samples of the point in one index, and its window length w (R318). -/
def State.ptSub (s : State) (l : Lane) (e : Nat) : Nat := if s.ptMod l e then max 1 (s.mcSub (s.ptSrc l e 0 % 32)) else 1
def State.ptW (s : State) (l : Lane) (e : Nat) : Nat := s.fs * s.ptSub l e / s.f0 l

/-! ### One index (R319, R320, R324, R325) -/

/-- The value and quality words of a channel at an index, once known; a channel that cannot arrive is held. -/
def State.ptChan (s : State) (l : Lane) (e c k : Nat) : Option (List (Nat × Nat)) :=
  let x := s.lane l
  let src := s.ptSrc l e c
  let heldV := nth ((s.pt l e).hist.headD []) c 0
  if s.ptMod l e then
    ((mapGet x.mods (src % 32) []).lookup k).map (fun ws =>
      (List.range (s.ptSub l e)).map (fun j => (nth ws (2 * j) heldV, nth ws (2 * j + 1) 0x10001)))
  else
    match x.setOf (src % 1024) k with
    | some v => some [(nth v.vals (src / 1024) 0, nth v.quals (src / 1024) 0x10001)]
    | none => if x.awaits (src % 1024) k then none else some [(heldV, 0x10001)]
/-- A sample as the energy unit takes it: a NaN is 0.0. -/
def cleanSample (v : Nat) : Nat := if f32.isNaN v then 0 else v
/-- rne64(a * b * 2^16) and whether it saturated (R319). -/
def prod64 (a b : Nat) : Int × Bool :=
  let p := f64.mul (f64.conv f32 a) (f64.conv f32 b)
  let neg := a.testBit 31 != b.testBit 31
  if f32.isInf a || f32.isInf b then (if neg then -9223372036854775808 else 9223372036854775807, true)
  else
    match scaleInt f64 p 16 with
    | some i => (clampI (-9223372036854775808) 9223372036854775807 i, decide (i < -9223372036854775808) || decide (9223372036854775807 < i))
    | none => (0, true)
/-- A rational rounded to the nearest integer, ties to even. -/
def rneQ (n : Int) (d : Nat) : Int :=
  let q := n / (d : Int)
  let r := n - q * d
  if 2 * r < d then q else if (d : Int) < 2 * r then q + 1 else if q % 2 = 0 then q else q + 1
/-- The sums of one element over the last w samples: sp, sq, sv, si; whether the newest `m` samples' products saturated. -/
def elemSums (hist : List (List Nat)) (w m x : Nat) : (Int × Int × Int × Int) × Bool :=
  (List.range w).foldl (fun (a : (Int × Int × Int × Int) × Bool) n =>
    let h := nth hist n []
    let v := nth h (2 * x) 0
    let i := nth h (2 * x + 1) 0
    let d := nth (nth hist (n + w / 4) []) (2 * x) 0
    let p := prod64 v i
    let q := prod64 d i
    let vv := prod64 v v
    let ii := prod64 i i
    ((a.1.1 + p.1, a.1.2.1 + q.1, a.1.2.2.1 + vv.1, a.1.2.2.2 + ii.1),
     a.2 || (decide (n < m) && (p.2 || q.2 || vv.2 || ii.2)))) ((0, 0, 0, 0), false)
/-- What one element gives at an index: ep, eq, es in 2^-32 uWh; P, Q, Vrms, Irms, S in binary64. -/
structure ElemOut where
  ep : Int
  eq : Int
  es : Int
  p : Nat
  q : Nat
  vr : Nat
  ir : Nat
  sv : Nat
def elemOut (fs w : Nat) (t : Int × Int × Int × Int) : ElemOut :=
  let en := fun (x : Int) => rneQ (x * 65536 * 1000000) (3600 * fs * w)
  let mean := fun (x : Int) => f64.div (f64.mul (f64.ofInt x) (f64.roundI false 1 (-16))) (f64.ofInt w)
  let vr := f64.sqrt (mean t.2.2.1)
  let ir := f64.sqrt (mean t.2.2.2)
  let sv := f64.mul vr ir
  let c := f64.roundQ false (1000000 * 2 ^ 32) (3600 * fs) 0
  { ep := en t.1, eq := en t.2.1, es := (f64.rne (f64.mul sv c) (2 ^ 95)).getD 0, p := mean t.1, q := mean t.2.1, vr := vr, ir := ir, sv := sv }
/-- A count modulo 2^96. -/
def add96 (a : Nat) (i : Int) : Nat := ((a : Int) + i).toNat % 2 ^ 96
/-- The accumulator places that an index's energies take (R320): active, reactive, apparent. -/
def energyClass (ep eq : Int) : Nat × Nat × Nat :=
  if 0 ≤ ep then (0, if 0 ≤ eq then 2 else 5, 6) else (1, if 0 ≤ eq then 3 else 4, 7)
/-- The live registers of a point follow its counts (R321). -/
def State.ptRegs (s : State) (l : Lane) (e : Nat) : State :=
  let p := s.pt l e
  s.wrs (R.NRG_PT_LIVE l e 0) ((p.acc ++ p.gap ++ p.f).flatMap (fun c => [c / 2 ^ 32 % two32, c / 2 ^ 64]))
/-- The magnitude exceeds the energy of SMAX over one index (R324). -/
def overSmax (fs smax : Nat) (i : Int) : Bool :=
  match f32.dec smax with
  | .fin _ m x =>
    let a := i.natAbs * 3600 * fs
    let b := m * 1000000 * 2 ^ 32
    if 0 ≤ x then decide (b * 2 ^ x.toNat < a) else decide (b < a * 2 ^ (-x).toNat)
  | _ => false
/-- The quantities block of a point at index k (R325). -/
def State.quantities (s : State) (l : Lane) (e k : Nat) (os : List ElemOut) : State :=
  let r := fun (x : Nat) => f32.conv f64 x
  let pf := fun (p sv : Nat) => if f64.isZero sv then 0 else r (f64.div p sv)
  let sum := fun (f : ElemOut → Nat) => os.foldl (fun a o => f64.add a (f o)) 0
  let col := fun (f : ElemOut → Nat) => (List.range 3).map (fun x => (os[x]?).elim 0 f)
  let P := sum (fun (o : ElemOut) => o.p)
  let S := sum (fun (o : ElemOut) => o.sv)
  s.wrs (R.NRG_QUANT l e 0) (col (fun o => r o.p) ++ col (fun o => r o.q) ++ col (fun o => r o.sv) ++ col (fun o => r o.vr) ++
    col (fun o => r o.ir) ++ col (fun o => pf o.p o.sv) ++ [r P, r (sum (fun (o : ElemOut) => o.q)), r S, pf P S, k])
/-- The record of a point in a save (Table 14-5). -/
def State.saveRec (s : State) (l : Lane) (e : Nat) : List Nat :=
  let p := s.pt l e
  let w0 := e + s.ptState l e * 2048 + b2n (s.bit (R.NRG_PT_STATE l e) 3) * 8192
  let ws := w0 :: p.acc.flatMap (fun c => [c % two32, c / 2 ^ 32 % two32, c / 2 ^ 64]) ++ p.gap.flatMap (fun c => [c / 2 ^ 32 % two32, c / 2 ^ 64])
  ws ++ [crc32c (wordsBytes ws)]

/-! ### Demand and snapshots (R327, R331, R332) -/

/-- A point latches its demand record at the end d (R327). -/
def State.demLatch (s : State) (l : Lane) (e d : Nat) : State :=
  let cf := s.cfgAt (idxSub d 1)
  let p := s.pt l e
  let whole := p.acc.map (· / 2 ^ 32)
  let del := (whole.zip p.base).map (fun w => (w.1 + 2 ^ 64 - w.2) % 2 ^ 64)
  let info := (s.ing.bInfo.find? (fun b => b.1 == d)).map (·.2)
  let forced := info.elim false (·.1)
  let valid := info.elim true (fun i => (nth (nth i.2 (cf.fld (R.NRG_CFG l) 4 2) []) 2 0).testBit 31)
  let want := cf.fld (R.NRG_CFG l) 31 16 * s.fs
  let flags := b2n (!valid) + b2n (decide (want * 101 < p.demN * 100)) * 2 + b2n (p.demFill || decide (p.demN * 100 < want * 99)) * 4 +
    b2n p.demQual * 8 + b2n p.demOver * 16 + b2n forced * 32
  let s := (s.wrs (R.NRG_PT_DEM l e 0) (del.flatMap (fun c => [c % two32, c / two32]))).wr (R.NRG_PT_DEM_END l e) d
  let s := (s.wr (R.NRG_PT_DEM_FLAGS l e) flags).wr (R.NRG_PT_DEM_INDICES l e) p.demN
  let mean := if p.demN = 0 then 0 else f32.roundQ false (nth del 0 0 * 3600 * s.fs) (1000000 * p.demN) 0
  let mean := if nth del 0 0 = 0 then 0 else mean
  let s := s.onIf (f32.lt (s.rd (R.NRG_PT_MAXDEM l e)) mean) (fun s => (s.wr (R.NRG_PT_MAXDEM l e) mean).wr (R.NRG_PT_MAXDEM_INDEX l e) d)
  (s.setB (R.NRG_PT_STATE l e) 2 false).setPt l e { p with base := whole, demN := 0, demQual := false, demOver := false, demFill := false, demLast := some d }
/-- The snapshot of a running save receives a point that stands at its index. -/
def State.snapPut (s : State) (l : Lane) (e sv : Nat) : State :=
  s.modNrg l (fun x => { x with snaps := x.snaps.map (fun n => if n.idx = sv ∧ (n.recs.lookup e).isNone then
    { n with recs := n.recs ++ [(e, s.saveRec l e)] } else n) })
/-- A point that has taken every index before its next one latches the demand ends and snapshots that wait for it. -/
def State.ptLatch (s : State) (l : Lane) (e : Nat) : State :=
  let reached := fun (d : Nat) => (s.pt l e).next.elim true (fun n => idxGe n d)
  let s := ((s.nrgL l).dems.filter reached).foldl (fun s d =>
    s.onIf ((s.pt l e).demLast != some d && s.ptState l e != 3 && s.ptState l e != 0) (fun s => s.demLatch l e d)) s
  match s.nrg.run with
  | some r => s.onIf (reached r.1) (fun s => s.snapPut l e r.1)
  | none => s
/-- CRC-32C over the demand records of every point (R332). -/
def State.demCrc (s : State) (l : Lane) : Nat :=
  crc32c (wordsBytes ((s.ptsOn l).flatMap (fun e => s.rds (R.NRG_PT_DEM l e 0) 16 ++ s.rds (R.NRG_PT_DEM_END l e) 5)))
/-- The lanes' data differ (R332). -/
def State.nrgDiff (s : State) (k : Nat) : State :=
  let s := [Lane.a, Lane.b].foldl (fun s l => (s.addSat (R.NRG_CMP_DIFFS l) 1).setB (R.NRG_EVENTS l) 3 true) s
  (s.event 0x53 0 [k, 0, 0, 0]).wdnDiverge
/-- Both lanes are being compared. -/
def State.lanesCompared (s : State) : Bool := s.bit R.SLU_STATUS 4 && s.bit R.SLU_STATUS 5
/-- Demand ends that every point has latched are complete (R327, R332). -/
def State.demDone (s : State) (l : Lane) : State :=
  (s.nrgL l).dems.foldl (fun s d =>
    let ok := (s.ptsOn l).all (fun e => s.ptState l e == 0 || s.ptState l e == 3 || (s.pt l e).demLast == some d)
    if !ok then s
    else
      let s := (s.modNrg l (fun x => { x with dems := x.dems.filter (· != d) })).wr (R.NRG_DEM_INDEX l) d
      let s := (s.addWrap (R.NRG_DEM_COUNT l) 1).setB (R.NRG_EVENTS l) 2 true
      let o := if laneIx l = 0 then Lane.b else Lane.a
      s.onIf (s.lanesCompared && s.rd (R.NRG_DEM_INDEX o) == d && !(s.nrgL o).dems.contains d && s.demCrc l != s.demCrc o)
        (fun s => s.nrgDiff d)) s
/-- NRG_STATUS follows the points. -/
def State.nrgStatus (s : State) (l : Lane) : State :=
  let st := (s.ptsOn l).map (fun e => s.ptState l e)
  ((s.setB (R.NRG_STATUS l) 1 (st.contains 2)).setB (R.NRG_STATUS l) 3 (st.contains 1)).setB (R.NRG_STATUS l) 2 s.nrg.run.isSome

/-! ### Taking indices -/

/-- A full window of the point's analyser (R328). -/
def State.harmTake (s : State) (l : Lane) (e k : Nat) (news : List (List Nat)) : State :=
  if !s.bit (R.NRG_PT0 l e) 5 then s
  else
    let p := s.pt l e
    let w := news ++ p.win
    let n := s.fs * s.ptSub l e / 5
    if w.length < n then s.setPt l e { p with win := w }
    else
      let a := s.fld (R.NRG_PT0 l e) 11 6
      (s.setPt l e { p with win := [] }).modNrg l (fun x => { x with
        ans := mapPut x.ans a { mapGet x.ans a {} with full := some (e, k, (w.take n).reverse) } })
/-- Index k of point e is the first after a save that exceeds SMAX: none has since the last save committed, or none since index s of
the save that is running (R324). -/
def State.overFirst (s : State) (e k : Nat) : Bool :=
  match s.nrg.exc.lookup e with
  | none => true
  | some j => s.nrg.run.any (fun r => idxGe k r.1 && !idxGe j r.1)
/-- Point e takes index k with its samples (R319 to R325). -/
def State.ptTake (s : State) (l : Lane) (e k : Nat) (chans : List (List (Nat × Nat))) : State :=
  let p := s.pt l e
  let w := s.ptW l e
  let m := s.ptSub l e
  let ne := s.ptElems l e
  -- newest first
  let news := (List.range m).reverse.map (fun j => chans.map (fun c => cleanSample (nth c j (0, 0)).1))
  let bad := chans.any (fun c => c.any (fun q => !s.qGood q.2))
  let hist := (news ++ p.hist).take (w + w / 4)
  let fill := p.fill + m
  let p := { p with hist := hist, fill := fill, next := some (idxAdd k 1) }
  if fill < w + w / 4 then
    ((s.setPt l e { p with demFill := true }).setF (R.NRG_PT_STATE l e) 1 0 1).addSat (R.NRG_PT_FILL_IDX l e) 1
  else
    let sums := (List.range ne).map (fun x => elemSums hist w m x)
    let os : List ElemOut := sums.map (fun t => elemOut s.fs w t.1)
    let tEp : Int := (os.map (fun (o : ElemOut) => o.ep)).sum
    let tEq : Int := (os.map (fun (o : ElemOut) => o.eq)).sum
    let tEs : Int := (os.map (fun (o : ElemOut) => o.es)).sum
    let cls := energyClass tEp tEq
    let acc := modAt (modAt (modAt p.acc cls.1 (fun a => add96 a tEp.natAbs)) cls.2.1 (fun a => add96 a tEq.natAbs)) cls.2.2 (fun a => add96 a tEs)
    let f := [add96 (nth p.f 0 0) tEp.natAbs, add96 (nth p.f 1 0) tEq.natAbs, add96 (nth p.f 2 0) tEs]
    let smax := s.rd (R.NRG_PT_SMAX l e)
    let ov := sums.any (·.2) || overSmax s.fs smax tEp || overSmax s.fs smax tEq || overSmax s.fs smax tEs
    let p := { p with acc := acc, f := f, demN := p.demN + 1, demQual := p.demQual || bad, demOver := p.demOver || ov }
    let s := ((s.setPt l e p).setF (R.NRG_PT_STATE l e) 1 0 2).ptRegs l e
    let s := s.onIf bad (fun s => (s.addSat (R.NRG_PT_QUAL_IDX l e) 1).setB (R.NRG_PT_STATE l e) 2 true)
    let s := s.onIf ov (fun s =>
      ((s.addSat (R.NRG_PT_OVER_IDX l e) 1).setB (R.NRG_PT_STATE l e) 3 true).setB (R.NRG_EVENTS l) 4 true)
    let s := s.onIf (ov && s.laneActive l) (fun s =>
      let first := s.overFirst e k
      ({ s with nrg := { s.nrg with exc := mapPut s.nrg.exc e k } } : State).onIf first (fun s => s.event 0x51 e [k, 0, 0, 0]))
    let s : State := { s with nrg := { s.nrg with measured := true } }
    (s.quantities l e k os).harmTake l e k news
/-- A point starts: FILLING from its next index (R323). -/
def State.ptStart (s : State) (l : Lane) (e : Nat) : State :=
  (s.setPt l e { s.pt l e with next := none, hist := [], fill := 0, win := [] }).setF (R.NRG_PT_STATE l e) 1 0 1
/-- A point that an exchange removed or changed, once every index below X has been taken; `o` holds its old definition (R83, R338). The
definition of a changed point is noted by an event record, whose TYPE the spec does not state. -/
def State.ptChange (s o : State) (l : Lane) (e : Nat) : State :=
  if !(s.ptsOn l).contains e then (s.setPt l e { s.pt l e with next := none }).setF (R.NRG_PT_STATE l e) 1 0 3
  else
    let nx := (s.pt l e).next
    let s := s.onIf (s.laneActive l) (fun s => s.takeFree.2.eventOpen (s.takeFree.1 % 65536))
    let m := fun (t : State) => t.rd (R.NRG_PT0 l e) &&& 0x17
    if o.f0 l ≠ s.f0 l ∨ m o ≠ m s ∨ (List.range 3).any (fun i => o.rd (R.NRG_PT_SRC l e i) != s.rd (R.NRG_PT_SRC l e i)) then
      let s := s.ptStart l e
      s.setPt l e { s.pt l e with next := nx }
    else s.onIf (o.fld (R.NRG_PT0 l e) 11 5 != s.fld (R.NRG_PT0 l e) 11 5) (fun s => s.setPt l e { s.pt l e with win := [] })
/-- The change waits for the indices below X; a point that has taken none yet has no such indices. -/
def State.ptSwitch (s : State) (l : Lane) (e : Nat) : State :=
  match (s.pt l e).x with
  | none => s
  | some x =>
    if (s.pt l e).next.any (fun n => idxLater x n) then s
    else (s.setPt l e { s.pt l e with x := none }).ptChange (s.cfgAt (idxSub x 1)) l e
/-- A point takes every index whose channels are complete, in order. The number bounds them. -/
def State.ptPoll (s : State) (l : Lane) (e : Nat) : Nat → State
  | 0 => s
  | n + 1 =>
    let s := s.ptLatch l e
    match (s.pt l e).next with
    | none => s
    | some k =>
      let cf := s.cfgAt k
      let cs := (List.range (2 * cf.ptElems l e)).map (fun c => cf.ptChan l e c k)
      if cs.any Option.isNone || (s.lane l).bnd.elim true (fun b => idxLater k b) then s
      else
        let take := fun (s : State) => s.ptTake l e k (cs.map (fun c => c.getD []))
        ((if s.below k then s.under take else take s).ptSwitch l e).ptPoll l e n
/-- The energy unit takes what has become complete (R319); a halted one takes nothing (R281, R331). -/
def State.energyPoll (s : State) (l : Lane) : State :=
  if s.bit (R.NRG_STATUS l) 0 then s
  else
  let es := (s.ptsOn l) ++ ((s.nrgL l).pts.filter (fun p => p.2.x.isSome && !(s.ptsOn l).contains p.1)).map (·.1)
  let s := es.foldl (fun s e => if s.ptState l e = 1 ∨ s.ptState l e = 2 then s.ptPoll l e 16 else s.ptLatch l e) s
  let s := ((s.ptsAll l).filter (fun e => s.ptState l e == 3)).foldl (fun s e => s.ptLatch l e) s
  (s.demDone l).nrgStatus l
/-- Every enabled point of a lane starts. -/
def State.nrgStart (s : State) (l : Lane) : State := ((s.ptsOn l).foldl (fun s e => s.ptStart l e) s).nrgStatus l
/-- Every point stops integrating. -/
def State.nrgStop (s : State) (l : Lane) : State :=
  ((s.ptsOn l).foldl (fun s e => (s.setPt l e { s.pt l e with next := none }).setF (R.NRG_PT_STATE l e) 1 0 0) s).nrgStatus l
/-- Boundary k: points that started take their first index; a marked demand end waits for the points (R323, R327). -/
def State.nrgBoundary (s : State) (l : Lane) (k : Nat) (mark : Bool) : State :=
  let s := (s.ptsOn l).foldl (fun s e =>
    let p := s.pt l e
    if p.next.isNone ∧ s.ptState l e = 1 then s.setPt l e { p with next := some k } else s) s
  (s.onIf mark (fun s => s.modNrg l (fun x => { x with dems := x.dems ++ [k] }))).energyPoll l
/-- MAXDEM_CLEAR at a boundary. -/
def State.maxdemClear (s : State) (l : Lane) : State :=
  (s.ptsOn l).foldl (fun s e => (s.wr (R.NRG_PT_MAXDEM l e) 0).wr (R.NRG_PT_MAXDEM_INDEX l e) 0) s

/-! ### Harmonics (R328 to R330) -/

/-- 2^120-scaled fixed point of a binary32 value. -/
def fxSample (v : Nat) : Int :=
  match f32.dec v with
  | .fin neg m e => let x := fxOf 120 m e; if neg then -x else x
  | _ => 0
/-- The square of C_b for b at least 1, scaled by 2^80 (R328): (2 / L^2) |sum x e^(-j 2 pi b n / L)|^2. -/
def binSq (xs : List Nat) (b : Nat) : Nat :=
  let L := xs.length
  let sums := xs.zipIdx.foldl (fun (a : Int × Int) x =>
    let v := fxSample x.1
    (a.1 + fxMul 128 v (fxUnit (b * x.2 % L) L true 128), a.2 + fxMul 128 v (fxUnit (b * x.2 % L) L false 128))) (0, 0)
  2 * (sums.1 * sums.1 + sums.2 * sums.2).toNat / (L * L) / 2 ^ 160
/-- C_0, scaled by 2^40. -/
def binZero (xs : List Nat) : Nat := (xs.foldl (fun a x => a + fxSample x) (0 : Int)).natAbs / xs.length / 2 ^ 80
/-- G_n scaled by 2^40 (R328). -/
def groupG (xs : List Nat) (K n : Nat) : Nat :=
  if n = 0 then binZero xs
  else isqrt ((binSq xs (K * n - K / 2) + binSq xs (K * n + K / 2)) / 2 +
    ((List.range (K - 1)).map (fun i => binSq xs (K * n - K / 2 + 1 + i))).sum)
/-- IG_n scaled by 2^40. -/
def groupIG (xs : List Nat) (K n : Nat) : Nat := isqrt ((List.range (K - 1)).map (fun i => binSq xs (K * n + 1 + i))).sum
/-- A published group: any binary32 value within 10^-5 G_1 of the exact one, the same in both lanes; `f` is free (R328). -/
def withinG (f exact g1 : Nat) : Nat :=
  let best := f32.roundQ false exact (2 ^ 40) 0
  let best := if exact = 0 then 0 else best
  match f32.dec f with
  | .fin false m e =>
    let v := fxOf 80 m e
    if (v - (exact : Int) * 2 ^ 40).natAbs * 100000 ≤ g1 * 2 ^ 40 then f else best
  | _ => best
/-- The highest order of a point's source (R329). -/
def harmMax (r K : Nat) (kind1 : Bool) : Nat := min (if kind1 then 255 else 127) ((r / 10 - K / 2) / K)
/-- THD over orders 2 to H: root of the sum of squares over a divisor, in binary64, as binary32 (R330). -/
def thdOf (gs : List Nat) (H div : Nat) : Nat :=
  if f32.isZero div then 0x7FC00000
  else
    let sq := (span 2 (H - 1)).foldl (fun a n => let g := f64.conv f32 (nth gs n 0); f64.fma g g a) 0
    f32.conv f64 (f64.div (f64.sqrt sq) (f64.conv f32 div))
/-- The words of one channel's window: G, IG, THD; where a sample is infinite they are free. -/
def chanWords (free : Nat → Nat) (xs : List Nat) (K nmax : Nat) : List Nat × List Nat :=
  if xs.any f32.isInf then
    ((List.range 256).map (fun n => if n ≤ nmax then free n % two32 else 0), (List.range 256).map (fun n => if n ≤ nmax then free (256 + n) % two32 else 0))
  else
    let g1 := groupG xs K 1
    ((List.range 256).map (fun n => if n ≤ nmax then withinG (free n % two32) (groupG xs K n) g1 else 0),
     (List.range 256).map (fun n => if n ≤ nmax then withinG (free (256 + n) % two32) (groupIG xs K n) g1 else 0))
/-- A full window of analyser an is published (R330). -/
def State.harmDone (s : State) (l : Lane) (an : Nat) : State :=
  let a := mapGet (s.nrgL l).ans an {}
  match a.full with
  | none => s
  | some (e, k, xs) =>
    let K := if s.f0 l = 60 then 12 else 10
    let nmax := harmMax (s.fs * s.ptSub l e) K (s.ptMod l e)
    let H := min (let h := s.fld (R.NRG_PT5 l e) 15 8; if h = 0 then 40 else h) nmax
    let ne := s.ptElems l e
    let il := s.rd (R.NRG_PT_IL l e)
    let words := (List.range (2 * ne)).flatMap (fun c =>
      let x := xs.map (fun h => nth h c 0)
      let w := chanWords (fun n => Config.harm k (3072 * an + 512 * c + n)) x K nmax
      let gs := w.1.zipIdx.map (fun v => (0x800 * c + 4 * v.2, v.1))
      let ig := w.2.zipIdx.map (fun v => (0x800 * c + 0x400 + 4 * v.2, v.1))
      gs ++ ig ++ [(0x3000 + 4 * c, thdOf w.1 H (nth w.1 1 0))] ++ (if c % 2 = 1 then [(0x3018 + 4 * (c / 2), thdOf w.1 H il)] else []))
    let seq := (mapGet a.res 0x3024 0 + 1) % two32
    let res := (words ++ [(0x3024, seq), (0x3028, k), (0x302C, nmax + ne * 65536)]).filter (fun w => w.2 != 0)
    (s.modNrg l (fun x => { x with ans := mapPut x.ans an { full := none, res := res } })).setB (R.NRG_EVENTS l) 6 true
/-- An analyser publishes a window (R330). -/
def execHarmWindowDone (l : Lane) (an : Fin 64) (s : State) : Host.Outcome State Fault Refusal := finish s (s.harmDone l an.val)

/-! ### The periodic save (R331, R332) -/

/-- A save of an index begins, or is held and merged. -/
def State.saveBegin (s : State) (sv cause : Nat) : State :=
  if s.nrg.run.isSome then
    let s : State := { s with nrg := { s.nrg with held := some (s.nrg.held.getD cause) } }
    [Lane.a, Lane.b].foldl (fun s l => s.setB (R.NRG_SAVE_STATUS l) 4 true) s
  else
    let s : State := { s with nrg := { s.nrg with run := some (sv, cause, s.opHours) } }
    [Lane.a, Lane.b].foldl (fun s l =>
      let s := (s.setB (R.NRG_SAVE_STATUS l) 0 true).modNrg l (fun x => { x with snaps := { idx := sv, recs := [] } :: x.snaps.take 1 })
      ((s.ptsAll l).foldl (fun s e => s.ptLatch l e) s).nrgStatus l) s
/-- The save countdown at boundary k (R331). -/
def State.saveCount (s : State) (k : Nat) : State :=
  if !s.bit (R.NRG_CFG .a) 0 || s.fld (R.NRG_SAVE_INT .a) 19 0 == 0 then s
  else if s.nrg.cd = 0 then { s with nrg := { s.nrg with cd := s.fld (R.NRG_SAVE_INT .a) 19 0 - 1, due := some k } }
  else { s with nrg := { s.nrg with cd := s.nrg.cd - 1 } }
/-- A lane's snapshot of the running save, in point order, once every point is in it. -/
def State.snapOf (s : State) (l : Lane) (sv : Nat) : Option (List (Nat × List Nat)) :=
  match (s.nrgL l).snaps.find? (fun n => n.idx == sv) with
  | none => none
  | some n =>
    if (s.ptsAll l).all (fun e => (n.recs.lookup e).isSome) then
      some (sortBy (fun (a b : Nat × List Nat) => decide (a.1 < b.1)) n.recs)
    else none
/-- The active lane. -/
def State.activeLane (s : State) : Lane := if s.laneActive .a || !s.laneActive .b then .a else .b
/-- A save ends with its code; a held one begins at the next index. -/
def State.saveEnd (s : State) (last : Nat) : State :=
  let h := s.nrg.held
  let s : State := { s with nrg := { s.nrg with run := none, held := none } }
  let s := [Lane.a, Lane.b].foldl (fun s l =>
    (((s.setB (R.NRG_SAVE_STATUS l) 0 false).setF (R.NRG_SAVE_STATUS l) 3 1 last).setB (R.NRG_SAVE_STATUS l) 4 false).nrgStatus l) s
  match h with
  | some c => s.saveBegin (idxAdd (s.rd R.ING_INDEX) 1) c
  | none => s
/-- The other lane's snapshot of the running save. -/
def State.snapOther (s : State) (sv : Nat) : Option (List (Nat × List Nat)) :=
  s.snapOf (if laneIx s.activeLane = 0 then Lane.b else Lane.a) sv
/-- Some point of the active lane has integrated index sv or a later one: energy that a save of index sv does not hold (R334). -/
def State.measuredPast (s : State) (sv : Nat) : Bool :=
  (s.ptsOn s.activeLane).any (fun e => s.ptState s.activeLane e == 2 && (s.pt s.activeLane e).next.any (fun n => idxLater n sv))
/-- The commit point of a save (R331, R332). While the lanes are compared, the standby's digest comes before it (Table 14-3). -/
def State.saveCommit (s : State) : State :=
  match s.nrg.run with
  | none => s
  | some (sv, cause, hours) =>
    match s.snapOf s.activeLane sv with
    | none => s
    | some recs =>
      let other := s.snapOther sv
      if s.lanesCompared && other.isNone then s else
      let crc := fun (r : List (Nat × List Nat)) => crc32c (wordsBytes (r.flatMap (·.2)))
      let bank : SaveBank := { idx := sv, hours := hours, cause := cause, recs := recs.map (fun r => (r.1, some r.2)) }
      let s : State := { s with nrg := { s.nrg with banks := s.nrg.banks.write bank, measured := s.measuredPast sv, exc := s.nrg.exc.filter (fun x => idxGe x.2 sv) } }
      let s := s.onIf (s.lanesCompared && other.elim false (fun o => crc o != crc recs)) (fun s => s.nrgDiff sv)
      let s := [Lane.a, Lane.b].foldl (fun s l =>
        let s := ((s.wr (R.NRG_SAVE_INDEX l) sv).addWrap (R.NRG_SAVE_COUNT l) 1).setB (R.NRG_EVENTS l) 0 true
        (s.ptsAll l).foldl (fun s e => s.setB (R.NRG_PT_STATE l e) 3 (s.nrg.exc.lookup e).isSome) s) s
      s.saveEnd 1
/-- The save countdown has expired (R331). -/
def execEnergySaveDue (s : State) : Host.Outcome State Fault Refusal :=
  finish s (match s.nrg.due with
    | none => s
    | some k => ({ s with nrg := { s.nrg with due := none } } : State).saveBegin k 1)
/-- NRG_CMD SAVE (R331). -/
def execNrgSave (s : State) : Host.Outcome State Fault Refusal := finish s (s.saveBegin (idxAdd (s.rd R.ING_INDEX) 1) 2)
/-- NRG_CMD DEM_END: a demand end at the next boundary (R326). -/
def State.demEnd (s : State) : State := { s with ing := { s.ing with demForce := true } }
def execDemEnd (s : State) : Host.Outcome State Fault Refusal := finish s s.demEnd
/-- NRG_CMD MAXDEM_CLEAR (R327). -/
def execMaxdemClear (s : State) : Host.Outcome State Fault Refusal := finish s (s.atBoundary .maxdemClear)
/-- The bank header's CRC is written (R331). -/
def execEnergySaveCommit (s : State) : Host.Outcome State Fault Refusal := finish s s.saveCommit
/-- An MRAM write error before the commit point (R331). -/
def execEnergySaveFail (s : State) : Host.Outcome State Fault Refusal :=
  finish s (match s.nrg.run with
    | none => s
    | some (sv, _, _) =>
      let s := [Lane.a, Lane.b].foldl (fun s l => s.setB (R.NRG_EVENTS l) 1 true) s
      (s.event 0x50 0 [sv, 0, 0, 0]).saveEnd 2)

/-! ### The last-tide save and the restore (R333, R334) -/

/-- The accumulators of a save record: AI or AE as a 96-bit count. -/
def recAcc (r : List Nat) (i : Nat) : Nat := nth r (1 + 3 * i) 0 + nth r (2 + 3 * i) 0 * 2 ^ 32 + nth r (3 + 3 * i) 0 * 2 ^ 64
/-- The last-tide save: `n` records reach the MRAM, and the valid mark when all do (R333). -/
def State.tideSave (s : State) (n : Nat) : State :=
  let l := s.activeLane
  match s.nrg.banks.read with
  | none => s
  | some b =>
    let base := fun (e i : Nat) => match b.recs.lookup e with | some (some r) => recAcc r i | _ => 0
    let j := (s.ptsOn l).foldl (fun j e => match (s.pt l e).next with | some k => (if idxLater j k then k else j) | none => j) (idxAdd (s.rd R.ING_INDEX) 1)
    let recs := (List.range 2048).map (fun e =>
      let tu := s.fld (R.NRG_PT5 l e) 4 0
      let d := fun (i : Nat) => min 4294967295 (((nth (s.pt l e).acc i 0 + 2 ^ 96 - base e i) % 2 ^ 96) / 2 ^ (32 + tu))
      (d 0, d 1))
    { s with nrg := { s.nrg with tide := some { j := j, sc := b.idx, recs := recs.take n, count := min 2048 n / 64 * 64, valid := decide (2048 ≤ n) } } }
/-- E_T(t) in uWh for a time of num / den seconds (Table 14-6). -/
def energyBound (smax num den : Nat) : Nat :=
  match f32.dec smax with
  | .fin _ m x =>
    let a := m * num * 1000000
    let d := 3600 * den
    if 0 ≤ x then ceilDiv (a * 2 ^ x.toNat) d else ceilDiv a (d * 2 ^ (-x).toNat)
  | _ => 0
/-- The record of a point in the newest bank that holds it: the bank and the record; whether the older bank gave it. -/
def State.bankRec (s : State) (e : Nat) : Option (SaveBank × List Nat × Bool) :=
  let order := if s.nrg.banks.seq1 ≤ s.nrg.banks.seq0 then [s.nrg.banks.val0, s.nrg.banks.val1] else [s.nrg.banks.val1, s.nrg.banks.val0]
  let got := order.zipIdx.filterMap (fun b => match b.1 with
    | some k => match k.recs.lookup e with
      | some (some r) => some (k, r, b.2 != 0)
      | _ => none
    | none => none)
  got.head?
/-- An ENERGY_OVER record of the point stands in the ring after a time (R334). -/
def State.overSince (s : State) (e hours : Nat) : Bool :=
  s.evt.ring.any (fun r => r.valid && nth r.words 1 0 % 65536 == 0x51 && nth r.words 1 0 / 65536 == e &&
    decide (hours < nth r.words 2 0 + nth r.words 3 0 * two32))
/-- STATE of a point's record (Table 14-5). -/
def recState (r : List Nat) : Nat := bitsOf (nth r 0 0) 12 11
/-- One point is restored: `reset` says that an nRESET, or a trip without a tide record, caused the start, and `till` is the
end of the time measured, none at a warm image reset, which leaves no gap (R334, Table 14-6, R337). A point whose record is of a frozen
one starts as an added point if the image enables it, and stays readable if not (R338). Answers the gap's largest bound, none without
one. -/
def State.ptRestore (s : State) (l : Lane) (reset : Bool) (till : Option Nat) (e : Nat) : Option Nat × State :=
  let smax := s.rd (R.NRG_PT_SMAX l e)
  let tu := s.fld (R.NRG_PT5 l e) 4 0
  let put := fun (s : State) (acc gap : List Nat) (cause ok : Nat) (bs : List Nat) =>
    let led := fun (a : List Nat) (g : Nat) => (a.sum + g) % 2 ^ 96
    let f := [led (acc.take 2) (nth gap 0 0), led ((acc.drop 2).take 4) (nth gap 1 0), led (acc.drop 6) (nth gap 2 0)]
    let s := (s.setPt l e { acc := acc, gap := gap, f := f, base := acc.map (· / 2 ^ 32) }).ptRegs l e
    s.wrs (R.NRG_QUANT l e 24) ((cause + ok * 16) :: bs.flatMap (fun b => [b % two32, b / two32]))
  match s.bankRec e with
  | none =>
    if till.isNone then (none, put s (List.replicate 8 0) [0, 0, 0] 0 0 [0, 0, 0])
    else (some (2 ^ 64 - 1), put s (List.replicate 8 0) [0, 0, 0] 4 1 (List.replicate 3 (2 ^ 64 - 1)))
  | some (b, r, old) =>
    if recState r = 3 ∧ (s.ptsOn l).contains e then (none, put s (List.replicate 8 0) [0, 0, 0] 0 0 [0, 0, 0])
    else
    let acc := (List.range 8).map (recAcc r)
    let gap := (List.range 3).map (fun i => (nth r (25 + 2 * i) 0 + nth r (26 + 2 * i) 0 * two32) * 2 ^ 32)
    let s := s.onIf old (fun s => s.setB (R.NRG_START_INFO l) 1 true)
    if recState r = 3 then (none, (put s acc gap 0 0 [0, 0, 0]).setF (R.NRG_PT_STATE l e) 1 0 3)
    else
    let tide := match s.nrg.tide with
      | some t => if t.sc = b.idx ∧ e < t.count then some (nth t.recs e (0, 0), (t.j + two32 - t.sc) % two32) else none
      | none => none
    let acc := match tide with
      | some (d, _) => modAt (modAt acc 0 (fun a => add96 a ((d.1 * 2 ^ tu * 2 ^ 32 : Nat) : Int))) 1 (fun a => add96 a ((d.2 * 2 ^ tu * 2 ^ 32 : Nat) : Int))
      | none => acc
    let s := s.onIf tide.isSome (fun s => s.setB (R.NRG_START_INFO l) 0 true)
    if !s.nrg.measured || till.isNone then (none, put s acc gap 0 0 [0, 0, 0])
    else
      let sat := tide.elim false (fun d => d.1.1 == 4294967295 || d.1.2 == 4294967295)
      let full := energyBound smax (till.getD 0 + 1 - b.hours) 16
      let (cause, bs) := match tide with
        | some (_, n) => if sat then (2, [full, full, full])
            else let x := energyBound smax n s.fs; (1, [2 * 2 ^ tu, x, x])
        | none => (if reset then 3 else 2, [full, full, full])
      let gap := (gap.zip bs).map (fun g => add96 g.1 ((g.2 * 2 ^ 32 : Nat) : Int))
      (some (bs.foldl max 0), put s acc gap cause (b2n (!s.overSince e b.hours)) bs)
/-- The points that the image does not enable and whose newest record is of a frozen point (R338). -/
def State.ptsFrozen (s : State) (l : Lane) : List Nat :=
  ((s.nrg.banks.read).elim [] (fun b => b.recs.map (·.1))).filter (fun e =>
    !(s.ptsOn l).contains e && (s.bankRec e).any (fun r => recState r.2.1 == 3))
/-- The energy unit restores every enabled point of a lane, and every frozen one, before step 9 of a start (R334). -/
def State.nrgRestore (s : State) (l : Lane) (reset : Bool) (till : Option Nat) : State :=
  let s := s.wr (R.NRG_START_INFO l) 0
  let (gaps, s) := (s.ptsOn l ++ s.ptsFrozen l).foldl (fun (a : List Nat × State) e =>
    let r := a.2.ptRestore l reset till e
    (match r.1 with | some b => a.1 ++ [b] | none => a.1, r.2)) ([], s)
  let s := s.wr (R.NRG_GAP_POINTS l) gaps.length
  let s := s.onIf (!gaps.isEmpty) (fun s => (s.setB (R.NRG_START_INFO l) 2 true).setB (R.NRG_EVENTS l) 5 true)
  let big := gaps.foldl max 0
  s.onIf (!gaps.isEmpty && s.laneActive l) (fun s => s.event 0x52 0 [gaps.length, big % two32, big / two32, 0])
/-- Both lanes restore; the tide area is invalidated. -/
def State.energyRestore (s : State) (reset : Bool) (till : Option Nat) : State :=
  let s := (s.nrgRestore .a reset till).nrgRestore .b reset till
  let s := match s.nrg.banks.read with
    | some b => (s.wr (R.NRG_SAVE_INDEX .a) b.idx).wr (R.NRG_SAVE_INDEX .b) b.idx
    | none => s
  { s with nrg := { s.nrg with tide := none, measured := false, exc := [], run := none, held := none, due := none, cd := 0 } }

end Sys2Proof.Machine
end

