-- ==== Sys2Proof/Machine/Sluice.lean ====
section
/-! DEFINITION. The sluice: hold slots and templates, release, the arbiter, and the comparison of the lanes
(10_speculation_sluice.md, R243 to R255). -/
namespace Sys2Proof.Machine

/-! ### Pins and arbiter (R248 to R251) -/

def otherLane : Lane → Lane
  | .a => .b
  | .b => .a
def laneOfBit (b : Bool) : Lane := if b then .b else .a
def State.srcLane (s : State) : Lane := laneOfBit (s.bit R.SLU_STATUS 0)
def State.armed (s : State) : Bool := s.bit R.SLU_STATUS 1
def State.silent (s : State) : Bool := s.bit R.SLU_STATUS 2
/-- WDN_STATUS reads the arbiter (Table 16-10). -/
def State.arbMirror (s : State) : State := s.setF R.WDN_STATUS 2 0 (s.fld R.SLU_STATUS 2 0)
/-- The DOUT pins: a line is at operate while it is enabled, DOUT_ARM is high, and its released state or its minimum time asks for it;
outside Running they are low (R248, R48, R49). -/
def State.doutDrive (s : State) : State :=
  let arm := s.bit R.SLU_STATUS 3 && (s.fld R.PCM_STATUS 2 0 == 2 || s.fld R.PCM_STATUS 2 0 == 4)
  let v := (List.range 16).foldl (fun a n =>
    if arm && s.bit (R.SLU_DOUT_CFG n) 0 && (s.bit R.SLU_DOUT_STATE n || s.slu.minOn.contains n) then a + 2 ^ n else a) 0
  { s with pwr := { s.pwr with doutPins := v, doutArm := arm } }
/-- The released state of every line is the OR of the requests in force; a line that goes to operate starts its MIN_ON (R248). -/
def State.doutRefresh (s : State) : State :=
  let v := (List.range 16).foldl (fun a n => if s.slu.dout.any (fun q => q.line == n && q.val && !q.off) then a + 2 ^ n else a) 0
  let up := (List.range 16).filter (fun n => v.testBit n && !s.bit R.SLU_DOUT_STATE n && s.fld (R.SLU_DOUT_CFG n) 15 8 != 0)
  let s : State := { s with slu := { s.slu with minOn := up ++ s.slu.minOn.filter (fun n => !up.contains n) } }
  (s.wr R.SLU_DOUT_STATE v).doutDrive
/-- MIN_ON ms after a line went to operate (R248). -/
def execDoutMinOnEnd (n : Fin 16) (s : State) : Host.Outcome State Fault Refusal :=
  finish s ({ s with slu := { s.slu with minOn := s.slu.minOn.filter (· != n.val) } } : State).doutDrive
/-- An output of index j or later has passed its commit point. -/
def State.pastCommit (s : State) (j : Nat) : Bool :=
  s.slu.tpl.any (fun t => match t.2.last with | some k => idxGe k j | none => false) || s.slu.dout.any (fun d => idxGe d.idx j)
/-- The arbiter goes SILENT from index j: every line and DOUT_ARM are low; ABORT_LATE where an output had passed its commit point
(R246, R248, R250). -/
def State.goSilent (s : State) (j : Nat) : State :=
  let s := s.onIf (s.pastCommit j) (fun s => s.setB R.SLU_STATUS 8 true)
  let s := ((s.setB R.SLU_STATUS 1 false).setB R.SLU_STATUS 2 true).setB R.SLU_STATUS 3 false
  -- TRIG_OUT under SILENT_LOW (R349)
  let s := s.onIf (s.bit (R.REC_TOUT_CFG .a) 31) (fun s => { s with pwr := { s.pwr with trigOut := 0 } })
  (((s.setB R.SLU_EVENTS 2 true).wr R.SLU_STOP_INDEX j).doutDrive).arbMirror
/-- The wardens name a source, ARMED or not (R250). -/
def State.nameSource (s : State) (l : Lane) (arm : Bool) : State :=
  let s := ((s.setF R.SLU_STATUS 0 0 (laneIx l)).setB R.SLU_STATUS 1 arm).setB R.SLU_STATUS 2 false
  ((s.setB R.SLU_STATUS 3 true).doutDrive).arbMirror

/-! ### Templates (R245) -/

def State.tplRt (s : State) (t : Nat) : TplRt := mapGet s.slu.tpl t {}
def State.setTpl (s : State) (t : Nat) (r : TplRt) : State := { s with slu := { s.slu with tpl := mapPut s.slu.tpl t r } }
/-- The enabled template of a VI's hold slot. -/
def State.tplOf (s : State) (v slot : Nat) : Option Nat :=
  (s.listed R.SLU_TPL0 4096).find? (fun t => s.bit (R.SLU_TPL0 t) 0 && s.fld (R.SLU_TPL0 t) 15 4 == v && s.fld (R.SLU_TPL0 t) 19 16 == slot)
/-- The enabled templates of a VI. -/
def State.tplsOf (s : State) (v : Nat) : List Nat :=
  (s.listed R.SLU_TPL0 4096).filter (fun t => s.bit (R.SLU_TPL0 t) 0 && s.fld (R.SLU_TPL0 t) 15 4 == v)
/-- The item map of a template. -/
def State.tplMap (s : State) (t : Nat) : List Nat := s.rds (R.SLU_TPL_MEM (s.fld (R.SLU_TPL3 t) 17 0)) (s.fld (R.SLU_TPL3 t) 31 20)
/-- The frame image of a template. -/
def State.tplImage (s : State) (t : Nat) : Bytes :=
  let n := s.fld (R.SLU_TPL2 t) 10 0
  (wordsBytes ((List.range ((n + 3) / 4)).map (fun i => s.rd (R.SLU_TPL_MEM (s.fld (R.SLU_TPL1 t) 17 0 + i))))).take n
/-- Bit order of a QUALITY item: value bit 0 in the most significant bit of the first byte. -/
def qualBytes (v : Nat) : Bytes :=
  let r := (List.range 16).foldl (fun a i => a + b2n (v.testBit i) * 2 ^ (15 - i)) 0
  3#8 :: beBytes 2 r
/-- An item's contents (Table 10-7). -/
def itemBytes (enc v : Nat) : Bytes :=
  match enc with
  | 0 => [if v = 0 then 0#8 else 1#8]
  | 2 => 8#8 :: beBytes 4 v
  | 3 => qualBytes v
  | _ => beBytes 4 v
/-- Bytes of a frame replaced from an offset. -/
def putBytes (b : Bytes) (o : Nat) (x : Bytes) : Bytes := b.take o ++ x ++ b.drop (o + x.length)
/-- An item pair written into a frame of template t, where its map has an entry for the item. -/
def State.putItem (s : State) (t : Nat) (b : Bytes) (p : Nat × Nat) : Bytes :=
  let item := bitsOf p.1 15 4
  if s.fld (R.SLU_TPL3 t) 31 20 ≤ item then b
  else
    let e := s.rd (R.SLU_TPL_MEM (s.fld (R.SLU_TPL3 t) 17 0 + item))
    putBytes b (bitsOf e 15 0) (itemBytes (bitsOf e 18 16) p.2)
/-- The item pairs of a slot that carry contents (PUBW, PUBB, PUBQ). -/
def slotPairs (items : List (Nat × Nat)) (slot : Nat) : List (Nat × Nat) :=
  items.filter (fun p => decide (bitsOf p.1 18 16 < 3) && bitsOf p.1 3 0 == slot)
def slotPub (items : List (Nat × Nat)) (slot : Nat) : Bool := items.any (fun p => bitsOf p.1 18 16 == 3 && bitsOf p.1 3 0 == slot)
def TplRt.fin (r : TplRt) : Lane → Option Bytes
  | .a => r.finA
  | .b => r.finB
def TplRt.prov (r : TplRt) : Lane → List (Nat × Bytes)
  | .a => r.provA
  | .b => r.provB
def TplRt.setFin (r : TplRt) (l : Lane) (b : Option Bytes) : TplRt :=
  match l with
  | .a => { r with finA := b }
  | .b => { r with finB := b }
def TplRt.setProv (r : TplRt) (l : Lane) (q : List (Nat × Bytes)) : TplRt :=
  match l with
  | .a => { r with provA := q }
  | .b => { r with provB := q }
/-- Items and PUBs without a template are discarded and counted (R245). -/
def State.noTpl (s : State) (v : Nat) (items : List (Nat × Nat)) : State :=
  let n := (items.filter (fun p => decide (bitsOf p.1 18 16 < 4) && (s.tplOf v (bitsOf p.1 3 0)).isNone)).length
  s.onIf (n != 0) (fun s => (s.addSat R.SLU_NO_TPL n).setB R.SLU_EVENTS 5 true)
/-- The final buffer of a lane, or the frame image while no run has left one. -/
def State.finBuf (s : State) (t : Nat) (l : Lane) : Bytes := ((s.tplRt t).fin l).getD (s.tplImage t)
/-- The items of a provisional execution enter its buffer, a copy of what the VI's previous run left (R245). -/
def State.provBufs (s : State) (l : Lane) (v k : Nat) (items : List (Nat × Nat)) : State :=
  (s.tplsOf v).foldl (fun s t =>
    let r := s.tplRt t
    let base := match (r.prov l).filter (fun e => idxLater k e.1) with
      | [] => s.finBuf t l
      | e :: es => (es.foldl (fun (a : Nat × Bytes) x => if idxLater x.1 a.1 then x else a) e).2
    let b := (slotPairs items (s.fld (R.SLU_TPL0 t) 19 16)).foldl (fun b p => s.putItem t b p) base
    s.setTpl t (r.setProv l ((k, b) :: (r.prov l).filter (fun e => e.1 != k)))) s
/-- The items of a final record enter the lane's final buffers. -/
def State.finBufs (s : State) (l : Lane) (v : Nat) (items : List (Nat × Nat)) : State :=
  (s.tplsOf v).foldl (fun s t =>
    let b := (slotPairs items (s.fld (R.SLU_TPL0 t) 19 16)).foldl (fun b p => s.putItem t b p) (s.finBuf t l)
    s.setTpl t ((s.tplRt t).setFin l (some b))) s
/-- A provisional buffer becomes the final buffer, or is dropped. -/
def State.provEnd (s : State) (l : Lane) (v k : Nat) (fin : Bool) : State :=
  (s.tplsOf v).foldl (fun s t =>
    let r := s.tplRt t
    let r1 := r.setProv l ((r.prov l).filter (fun e => e.1 != k))
    match (r.prov l).lookup k with
    | some b => s.setTpl t (if fin then r1.setFin l (some b) else r1)
    | none => s) s

/-! ### Release (R246 to R248) -/

/-- UtcTime of a view with its time-quality octet (R247, Table 10-6). -/
def State.utcTime (s : State) (t : Nat) : Bytes :=
  let v := s.fld (R.SLU_TPL0 t) 26 24
  let w := s.viewTime v
  beBytes 4 w.2.1 ++ beBytes 3 (w.1 * 16777216 / 1000000000) ++
    [BitVec.ofNat 8 (128 + b2n (!s.viewValid v) * 32 + s.fld (R.SLU_TPL0 t) 31 27)]
/-- An INTEGER of five contents bytes with a leading 0x00 (R247). -/
def int5 (n : Nat) : Bytes := 0#8 :: beBytes 4 n
def State.tMin (s : State) (t : Nat) : Nat := max 1 (s.fld (R.SLU_TPL6 t) 15 0)
def State.tMax (s : State) (t : Nat) : Nat := max 1 (s.fld (R.SLU_TPL6 t) 31 16)
/-- The interval that follows a transmission `e` ms after the change of state (R247). -/
def State.retxAfter (s : State) (t e : Nat) : Nat := if e = 0 then s.tMin t else min e (s.tMax t)
/-- A template's frame enters P48 in its CLASS (R246). -/
def State.tplSend (s : State) (t : Nat) (b : Bytes) : State :=
  (s.enter 48 b (some (s.fld (R.SLU_TPL0 t) 22 20)) none (some (s.fld (R.SLU_TPL0 t) 15 4))).2
/-- stNum, sqNum, timeAllowedtoLive written into a frame. -/
def State.gooseStamp (s : State) (t st sq tal : Nat) (b : Bytes) : Bytes :=
  let b := putBytes b (s.fld (R.SLU_TPL4 t) 15 0) (int5 st)
  let b := putBytes b (s.fld (R.SLU_TPL4 t) 31 16) (int5 sq)
  putBytes b (s.fld (R.SLU_TPL5 t) 31 16) (int5 tal)
/-- The release of a template's frame for an index: its commit point and what follows (R246, R247). -/
def State.tplRelease (s : State) (t k : Nat) (b : Bytes) : State :=
  let r := s.tplRt t
  let o := s.fld (R.SLU_TPL7 t) 15 0
  let n := s.fld (R.SLU_TPL7 t) 31 16
  let s := (s.wr (R.SLU_TPL_STAT0 t) k).setB (R.SLU_TPL_STAT3 t) 0 true
  if s.fld (R.SLU_TPL0 t) 2 1 = 1 then
    let same := match r.rel with | some x => sliceB x o n == sliceB b o n | none => false
    if same then s.setTpl t { r with last := some k }
    else
      let st := if s.rd (R.SLU_TPL_STAT1 t) = 4294967295 then 1 else s.rd (R.SLU_TPL_STAT1 t) + 1
      let gap := s.retxAfter t 0
      let f := putBytes (s.gooseStamp t st 0 (2 * gap) b) (s.fld (R.SLU_TPL5 t) 15 0) (s.utcTime t)
      let s := (s.wr (R.SLU_TPL_STAT1 t) st).wr (R.SLU_TPL_STAT2 t) 0
      (s.setTpl t { r with last := some k, rel := some f, retx := some gap }).tplSend t f
  else (s.setTpl t { r with last := some k, rel := some b }).tplSend t b
/-- A GOOSE template's released buffer is transmitted again (R247). -/
def State.gooseRetransmit (s : State) (t : Nat) : State :=
  match (s.tplRt t).retx, (s.tplRt t).rel with
  | some e, some b =>
    let sq := if s.rd (R.SLU_TPL_STAT2 t) = 4294967295 then 1 else s.rd (R.SLU_TPL_STAT2 t) + 1
    let gap := s.retxAfter t e
    let f := s.gooseStamp t (s.rd (R.SLU_TPL_STAT1 t)) sq (2 * gap) b
    ((s.wr (R.SLU_TPL_STAT2 t) sq).setTpl t { s.tplRt t with rel := some f, retx := some (min (e + gap) (2 * s.tMax t)) }).tplSend t f
  | _, _ => s
/-- The next retransmission of a template falls due (R247). -/
def execGooseRetransmit (t : Tpl) (s : State) : Host.Outcome State Fault Refusal := finish s (s.gooseRetransmit t.val)
/-- Test 4 of R246. -/
def laterThan (k : Nat) : Option Nat → Bool
  | none => true
  | some x => idxLater k x
/-- A DOUT request of a VI is released: its commit point changes the line register (R246, R248). -/
def State.doutRelease (s : State) (v k line : Nat) (val : Bool) : State :=
  let q : DoutReq := { line := line, vi := v, val := val, idx := k, off := false }
  ({ s with slu := { s.slu with dout := q :: s.slu.dout.filter (fun e => !(e.line == line && e.vi == v)) } } : State).doutRefresh
def State.doutLast (s : State) (v line : Nat) : Option Nat := (s.slu.dout.find? (fun e => e.line == line && e.vi == v)).map (·.idx)
/-- The outputs of a record that pass test 4 are released; the others are stale (R246). -/
def State.releaseRec (s : State) (r : SluRec) : State :=
  let outs := r.bufs.filter (fun b => laterThan r.idx (s.tplRt b.1).last)
  let ds := (r.items.filter (fun p => bitsOf p.1 18 16 == 4)).map (fun p => (bitsOf p.1 15 4 % 16, p.2 != 0))
  let dOk := ds.filter (fun d => laterThan r.idx (s.doutLast r.vi d.1))
  let stale := decide (outs.length < r.bufs.length) || decide (dOk.length < ds.length)
  let s := s.onIf stale (fun s => (s.addSat R.SLU_STALE 1).setB R.SLU_EVENTS 7 true)
  let late := idxGe (s.rd R.ING_INDEX) (idxAdd r.idx ((s.cfgAt r.idx).fld (R.FAB_VI_CFG0 r.lane r.vi) 12 10)) && (!outs.isEmpty || !dOk.isEmpty)
  let s := s.onIf late (fun s => (s.addSat R.SLU_LATE (outs.length + dOk.length)).setB R.SLU_EVENTS 6 true)
  let s := outs.foldl (fun s b => s.tplRelease b.1 r.idx b.2) s
  dOk.foldl (fun s d => s.doutRelease r.vi r.idx d.1 d.2) s
/-- The lane from which an index is released (R250, R251); none while SILENT. -/
def State.srcFor (s : State) (k : Nat) : Option Lane :=
  if s.silent then none
  else match s.slu.split with
    | some (b, old) => some (if idxLater b k then old else s.srcLane)
    | none => match s.slu.from_ with
      | some j => if idxLater j k then none else some s.srcLane
      | none => some s.srcLane
/-- The lane is being compared (R252). -/
def State.comparing (s : State) (l : Lane) : Bool := s.bit R.SLU_STATUS (4 + laneIx l)

/-! ### Comparison (R252) -/

/-- A difference: counted, the first latched, the wardens told (R252, R364). -/
def State.diverge (s : State) (info k : Nat) : State :=
  let s := (s.addSat R.SLU_DIV_COUNT 1).setB R.SLU_EVENTS 3 true
  let s := if s.slu.divLatched then s
    else (({ s with slu := { s.slu with divLatched := true } } : State).wr R.SLU_DIV_INFO info).wr R.SLU_DIV_INDEX k
  s.wdnDiverge
/-- The first difference of two records of one VI and index: the word of SLU_DIV_INFO (Table 10-6). -/
def recDiff (a b : SluRec) : Option Nat :=
  if a.none != b.none then some (a.vi + 4 * 1048576)
  else
    let keys := (a.items ++ b.items).map (·.1)
    -- a descriptor can stand more than once (R279, R302)
    let of := fun (x : SluRec) (k : Nat) => (x.items.filter (fun p => p.1 == k)).map (·.2)
    match keys.find? (fun k => of a k != of b k) with
    | some k => if bitsOf k 18 16 = 4 then some (a.vi + bitsOf k 15 4 % 16 * 65536 + 1 * 1048576)
                else some (a.vi + bitsOf k 3 0 * 4096)
    | none => if a.digest != b.digest then some (a.vi + 2 * 1048576) else none
/-- Records of an index are compared: both lanes are being compared, from the join index on (R252, R375). -/
def State.compared (s : State) (k : Nat) : Bool :=
  s.comparing .a && s.comparing .b && (match s.slu.cmpFrom with | some j => idxGe k j | none => true)
/-- Records of both lanes for one VI and index are compared once both are held; records that serve no further end are dropped. -/
def State.compareRecs (s : State) (v k : Nat) : State :=
  let of := fun (l : Lane) => s.slu.recs.find? (fun r => r.lane == l && r.vi == v && r.idx == k)
  let both := s.compared k
  let drop := fun (s : State) => ({ s with slu := { s.slu with recs := s.slu.recs.filter (fun r => !(r.vi == v && r.idx == k && r.done)) } } : State)
  match of .a, of .b with
  | some a, some b =>
    if both then
      let s := match recDiff a b with | some i => s.diverge i k | none => s
      { s with slu := { s.slu with recs := s.slu.recs.filter (fun r => !(r.vi == v && r.idx == k)) } }
    else drop s
  | _, _ => if both then s else drop s
/-- A final record of a lane arrives: released from the source, held for the other lane's, compared (R246, R252). -/
def State.recArrive (s : State) (r : SluRec) : State :=
  let rel := s.srcFor r.idx == some r.lane
  let s := s.onIf (rel && !r.none) (fun s => s.releaseRec r)
  let s : State := { s with slu := { s.slu with recs := s.slu.recs ++ [{ r with done := rel }] } }
  s.compareRecs r.vi r.idx
/-- Held records of a lane that has become the source are released, oldest first (R251). -/
def State.releaseHeld (s : State) (l : Lane) : State :=
  let rs := sortBy (fun (a b : SluRec) => idxLater b.idx a.idx || (a.idx == b.idx && decide (a.vi < b.vi)))
    (s.slu.recs.filter (fun r => r.lane == l && !r.done && s.srcFor r.idx == some l))
  rs.foldl (fun s r =>
    let s := s.onIf (!r.none) (fun s => s.releaseRec r)
    { s with slu := { s.slu with recs := s.slu.recs.map (fun q => if q == r then { q with done := true } else q) } }) s

/-! ### The arbiter's events (R244, R250, R251) -/

/-- A take-over at LANE_STOP(j) (R251). -/
def State.takeover (s : State) (j : Nat) : State :=
  let new := otherLane s.srcLane
  let s := s.nameSource new false
  let s := ((s.wr R.SLU_STOP_INDEX j).addSat R.SLU_TAKEOVERS 1).setB R.SLU_EVENTS 0 true
  let s := ((s.addSat R.WDN_SWITCHES 1).wr R.WDN_LAST_INDEX j).setB R.WDN_EVENTS 0 true
  ({ s with slu := { s.slu with from_ := some j, split := none } } : State).releaseHeld new
/-- What a lane's stop leaves of it in the sluice: comparison ends, its provisional buffers go (R251, R252). -/
def State.laneOut (s : State) (l : Lane) : State :=
  let s := s.setB R.SLU_STATUS (4 + laneIx l) false
  { s with slu := { s.slu with
    stopA := s.slu.stopA || l == .a
    stopB := s.slu.stopB || l == .b
    provs := s.slu.provs.filter (fun p => p.1 != l)
    recs := s.slu.recs.filter (fun r => r.lane != l && !r.done)
    tpl := s.slu.tpl.map (fun t => (t.1, t.2.setProv l [])) } }
/-- LANE_STOP(j), or a link fault treated as one (R244, R250). -/
def State.sluStop (s : State) (l : Lane) (j : Nat) : State :=
  let src := l == s.srcLane && !s.silent
  let s := s.onIf (src && s.pastCommit j) (fun s => s.setB R.SLU_STATUS 8 true)
  let s := s.laneOut l
  if src then (if s.armed then s.takeover j else s.goSilent j)
  else (s.setB R.SLU_STATUS 1 false).arbMirror
/-- SWITCH(b) from the wardens (R250, R372). -/
def State.sluSwitch (s : State) (b : Nat) : State :=
  if !s.armed then s
  else
    let old := s.srcLane
    let s := s.onIf (s.pastCommit b) (fun s => s.setB R.SLU_STATUS 8 true)
    let s := ((s.nameSource (otherLane old) true).wr R.SLU_SWITCH_INDEX b).setB R.SLU_EVENTS 1 true
    let s := ((s.addSat R.WDN_SWITCHES 1).wr R.WDN_LAST_INDEX b).setB R.WDN_EVENTS 1 true
    ({ s with slu := { s.slu with split := some (b, old), from_ := none } } : State).releaseHeld (otherLane old)

/-! ### Messages (R243, R244) -/

def State.sluStopped (s : State) (l : Lane) : Bool := match l with | .a => s.slu.stopA | .b => s.slu.stopB
def State.sluSeq (s : State) (l : Lane) : Option Nat := match l with | .a => s.slu.seqA | .b => s.slu.seqB
def State.setSluSeq (s : State) (l : Lane) (n : Option Nat) : State :=
  match l with
  | .a => { s with slu := { s.slu with seqA := n } }
  | .b => { s with slu := { s.slu with seqB := n } }
def State.sluDone (s : State) (l : Lane) : Bool := match l with | .a => s.slu.doneA | .b => s.slu.doneB
/-- The index after the lane's last DONE received intact (R244). -/
def State.afterDone (s : State) (l : Lane) : Nat := if s.sluDone l then idxAdd (s.rd (R.SLU_DONE (laneIx l))) 1 else 0
/-- A CRC failure or a missing SEQ on a release link (R244). -/
def State.linkErr (s : State) (l : Lane) : State :=
  let s := (s.addSatF R.SLU_LINK_ERR (16 * laneIx l + 15) (16 * laneIx l) 1).setB R.SLU_EVENTS 4 true
  (s.sluStop l (s.afterDone l)).healthBit l 3
/-- The front message of a lane's release link is received, if it is of this type: checked, and given to `f` when it is used. -/
def State.sluTake (s : State) (l : Lane) (typ : Nat) (ok : Bool) (f : RMsg → State → State) : State :=
  match (s.lane l).rel with
  | [] => s
  | m :: q =>
    if m.typ != typ then s
    else
      let s := s.modLane l (fun x => { x with rel := q })
      if s.sluStopped l || (decide (3 ≤ s.role l) && (s.lane l).gj.isNone) then s
      else if !ok || (match s.sluSeq l with | some n => m.seq != n | none => false) then s.linkErr l
      else
        let s := s.setSluSeq l (some (idxAdd m.seq 1))
        if (typ ≤ 5) && m.gen != s.viGen m.vi then s.genDiscard 1 else f m s
/-- A message of the source lane counts in the speculation statistics (R253). -/
def State.specCount (s : State) (l : Lane) (k tot : Nat) : State := s.onIf (s.isSource l) (fun s => (s.addWrap k 1).addWrap tot 1)
/-- A PROV message (R236, R245). -/
def execSluProvRx (l : Lane) (ok : Bool) (s : State) : Host.Outcome State Fault Refusal :=
  finish s (s.sluTake l 1 ok (fun m s =>
    let s := s.specCount l (R.SLU_VI_SPEC0 m.vi) R.SLU_SPEC_RUNS
    let s : State := { s with slu := { s.slu with
      provs := (l, m.vi, m.idx, m.items) :: s.slu.provs.filter (fun p => !(p.1 == l && p.2.1 == m.vi && p.2.2.1 == m.idx)) } }
    (s.provBufs l m.vi m.idx m.items).noTpl m.vi m.items))
/-- The final buffers of the templates that a record completed with PUB (R246). -/
def State.doneBufs (s : State) (l : Lane) (v : Nat) (items : List (Nat × Nat)) : List (Nat × Bytes) :=
  (s.tplsOf v).filterMap (fun t => if slotPub items (s.fld (R.SLU_TPL0 t) 19 16) then some (t, s.finBuf t l) else none)
/-- A record has become final in the sluice. -/
def State.recFinal (s : State) (l : Lane) (m : RMsg) (items : List (Nat × Nat)) : State :=
  s.recArrive { lane := l, vi := m.vi, idx := m.idx, gen := m.gen, none := false, items := items, digest := m.digest,
                bufs := s.doneBufs l m.vi items, done := false }
/-- A FINAL message (R246). -/
def execSluFinalRx (l : Lane) (ok : Bool) (s : State) : Host.Outcome State Fault Refusal :=
  finish s (s.sluTake l 2 ok (fun m s => ((s.finBufs l m.vi m.items).noTpl m.vi m.items).recFinal l m m.items))
/-- A CONFIRM message (R246). -/
def execSluConfirmRx (l : Lane) (ok : Bool) (s : State) : Host.Outcome State Fault Refusal :=
  finish s (s.sluTake l 3 ok (fun m s =>
    let s := s.specCount l (R.SLU_VI_SPEC1 m.vi) R.SLU_SPEC_CONFIRMS
    match s.slu.provs.find? (fun p => p.1 == l && p.2.1 == m.vi && p.2.2.1 == m.idx) with
    | none => s
    | some p =>
      let s : State := { s with slu := { s.slu with provs := s.slu.provs.filter (· != p) } }
      (s.provEnd l m.vi m.idx true).recFinal l m p.2.2.2))
/-- The squash statistics of a VI (Table 10-8). -/
def State.squashStat (s : State) (v k : Nat) (st : List Nat) : State :=
  let c := nth st 0 0
  let reg := nth [R.SLU_VI_SPEC2 v, R.SLU_VI_SPEC2 v, R.SLU_VI_SPEC3 v, R.SLU_VI_SPEC3 v, R.SLU_VI_SPEC4 v, R.SLU_VI_SPEC4 v] (c - 1) 0
  let hi := (c - 1) % 2
  let s := (s.addSatF reg (16 * hi + 15) (16 * hi) 1).addWrap R.SLU_SPEC_SQUASHES 1
  (s.wr (R.SLU_VI_SPEC6 v) k).wr (R.SLU_VI_SPEC7 v) (if 4 ≤ c then c * 65536 else nth st 1 0 + nth st 2 0 * 1024 + c * 65536)
/-- A SQUASH message (R239). -/
def execSluSquashRx (l : Lane) (ok : Bool) (s : State) : Host.Outcome State Fault Refusal :=
  finish s (s.sluTake l 4 ok (fun m s =>
    let s := s.onIf (s.isSource l) (fun s => s.squashStat m.vi m.idx m.stat)
    let s : State := { s with slu := { s.slu with
      provs := s.slu.provs.filter (fun p => !(p.1 == l && p.2.1 == m.vi && p.2.2.1 == m.idx)) } }
    s.provEnd l m.vi m.idx false))
/-- A NONE message (R252). -/
def execSluNoneRx (l : Lane) (ok : Bool) (s : State) : Host.Outcome State Fault Refusal :=
  finish s (s.sluTake l 5 ok (fun m s =>
    let s : State := { s with slu := { s.slu with
      provs := s.slu.provs.filter (fun p => !(p.1 == l && p.2.1 == m.vi && p.2.2.1 == m.idx)) } }
    let s := s.provEnd l m.vi m.idx false
    s.recArrive { lane := l, vi := m.vi, idx := m.idx, gen := m.gen, none := true, items := [], digest := 0, bufs := [], done := false }))
/-- A register of the templates, their memory or the DOUT configuration (R255). -/
def isSluCfg (k : Nat) : Bool :=
  decide (R.SLU_DOUT_CFG 0 ≤ k) && decide (k < R.SLU_DOUT_CFG 0 + 0x1FFFFF) && (decide (k < R.SLU_TPL_STAT0 0) || decide (R.SLU_TPL_MEM 0 ≤ k))
/-- The new templates and DOUT configuration take effect once the source lane has finished the old indices (R255). -/
def State.cfgSwap (s : State) : State :=
  match s.slu.nextCfg with
  | none => s
  | some (x, regs) =>
    if idxGe (s.rd (R.SLU_DONE (laneIx s.srcLane))) (idxSub x 1) then
      let before := s
      let s : State := { s with regs := regs ++ s.regs.filter (fun e => !isSluCfg e.1) }
      let same := fun (t : Nat) => (before.rds (R.SLU_TPL0 t) 8 == s.rds (R.SLU_TPL0 t) 8) && before.tplImage t == s.tplImage t && before.tplMap t == s.tplMap t
      let s : State := { s with slu := { s.slu with nextCfg := none, tpl := s.slu.tpl.filter (fun t => same t.1) } }
      ((before.slu.tpl.filter (fun t => !same t.1)).foldl (fun s t =>
        (s.wrs (R.SLU_TPL_STAT0 t.1) [0, 0, 0, 0])) s).doutRefresh
    else s
/-- A DONE message (R243, R255, R361). -/
def execSluDoneRx (l : Lane) (ok : Bool) (s : State) : Host.Outcome State Fault Refusal :=
  finish s (s.sluTake l 6 ok (fun m s =>
    let s := s.wr (R.SLU_DONE (laneIx l)) m.idx
    let s : State := match l with
      | .a => { s with slu := { s.slu with doneA := true } }
      | .b => { s with slu := { s.slu with doneB := true } }
    let need := s.slu.joinAt.getD 0
    let s := s.onIf (s.role l == 1 && idxGe m.idx need && (s.rd (R.WDN_HEALTH (laneIx l))) % 4096 == 0) (fun s =>
      ({ s with slu := { s.slu with joinAt := none } } : State).setB R.WDN_STATUS 4 true)
    let s := s.onIf (l == s.srcLane && (match s.slu.cmpFrom with | some j => idxGe m.idx j | none => false)) (fun s =>
      { s with slu := { s.slu with cmpFrom := none } })
    s.cfgSwap))
/-- A LANE_STOP message (R251). -/
def execSluLaneStopRx (l : Lane) (ok : Bool) (s : State) : Host.Outcome State Fault Refusal :=
  finish s (s.sluTake l 7 ok (fun m s => s.sluStop l m.idx))
/-- A record held longer than SLU_CMP_WINDOW without the other lane's is a difference of KIND 3 (R252). -/
def execCmpWindowExpire (l : Lane) (v : Vi) (k : Word) (s : State) : Host.Outcome State Fault Refusal :=
  finish s (match s.slu.recs.find? (fun r => r.lane == l && r.vi == v.val && r.idx == k.toNat) with
    | none => s
    | some r =>
      if s.compared k.toNat then
        let s := s.diverge (v.val + 3 * 1048576) k.toNat
        { s with slu := { s.slu with recs := s.slu.recs.filter (fun q => !(q == r && q.done)) } }
      else s)
/-- SLU_CMD DIV_REARM (R252). -/
def State.divRearm (s : State) : State := { s with slu := { s.slu with divLatched := false } }
def execDivRearm (s : State) : Host.Outcome State Fault Refusal := finish s s.divRearm

/-! ### Resets (R254) -/

/-- A VI's buffers in both lanes are emptied and its DOUT requests withdrawn (R254, R97). -/
def State.sluPurgeVi (s : State) (v : Nat) : State :=
  let s : State := { s with slu := { s.slu with
    provs := s.slu.provs.filter (fun p => p.2.1 != v)
    recs := s.slu.recs.filter (fun r => r.vi != v)
    dout := s.slu.dout.map (fun d => if d.vi = v then { d with off := true } else d) } }
  ((s.tplsOf v).foldl (fun s t =>
    s.setTpl t { s.tplRt t with finA := none, finB := none, provA := [], provB := [] }) s).doutRefresh
/-- A lane reset: its records and buffers go; the source lane's while UNARMED makes the arbiter SILENT (R254). -/
def State.sluLaneReset (s : State) (l : Lane) : State :=
  let src := l == s.srcLane && !s.silent
  let s := s.laneOut l
  let s : State := { s with slu := { s.slu with tpl := s.slu.tpl.map (fun t => (t.1, t.2.setFin l none)) } }
  s.onIf (src && !s.armed) (fun s => s.goSilent (s.afterDone l))

end Sys2Proof.Machine
end

