-- ==== Sys2Proof/Machine/Record.lean ====
section
/-! DEFINITION. Disturbance and event recording (15_recorders.md, R339 to R359). -/
namespace Sys2Proof.Machine

/-! ### Access and definitions (R340, R341, Table 15-6) -/

def State.recL (s : State) : Lane → RecLane
  | .a => s.recA
  | .b => s.recB
def State.modRec (s : State) (l : Lane) (f : RecLane → RecLane) : State :=
  match l with
  | .a => { s with recA := f s.recA }
  | .b => { s with recB := f s.recB }
def State.unit (s : State) (l : Lane) (u : Nat) : UnitRt := mapGet (s.recL l).units u {}
def State.setUnit (s : State) (l : Lane) (u : Nat) (r : UnitRt) : State := s.modRec l (fun x => { x with units := mapPut x.units u r })
/-- 0 OFF, 1 WAIT_MEM, 2 ARMED, 3 CAPTURING, 4 HOLDOFF, 5 STOPPED. -/
def State.unitState (s : State) (l : Lane) (u : Nat) : Nat := s.fld (R.REC_USTAT_STATE l u) 2 0
def State.setUnitState (s : State) (l : Lane) (u st : Nat) : State := s.setF (R.REC_USTAT_STATE l u) 2 0 st
def State.unitEn (s : State) (l : Lane) (u : Nat) : Bool := s.bit (R.REC_UNIT0 l u) 0
/-- A unit's definition as its registers give it. -/
def State.unitDef (s : State) (l : Lane) (u : Nat) : UnitDef :=
  let w := s.rd (R.REC_UNIT0 l u)
  let aw := s.rd (R.REC_UNIT_A l u)
  let bw := s.rd (R.REC_UNIT_B l u)
  let mw := s.rd (R.REC_UNIT_M l u)
  { owner := bitsOf w 23 12, hold := w.testBit 1, holdKind := w.testBit 2, extend := w.testBit 3, tout := bitsOf w 27 24
    pre := s.fld (R.REC_UNIT_LEN l u 0) 19 0, post := s.fld (R.REC_UNIT_LEN l u 1) 19 0, maxpost := s.fld (R.REC_UNIT_LEN l u 2) 19 0
    trigEn := s.fld (R.REC_UNIT_TRIG_EN l u) 25 0, holdLen := s.fld (R.REC_UNIT_HOLD l u) 23 0, cv := s.fld (R.REC_UNIT_CV l u) 2 0
    ach := (span (bitsOf aw 13 0) (bitsOf aw 29 16)).map (fun c =>
      let a := s.rd (R.REC_ACH0 l c)
      (a % 4, bitsOf a 13 2, s.fld (R.REC_ACH1 l c) 11 0, if a % 4 = 2 then s.mcSub (bitsOf a 13 2 % 32) else 1))
    bch := (span (bitsOf bw 14 0) (bitsOf bw 28 16)).map (fun b => (s.fld (R.REC_BCH l b) 11 0, s.fld (R.REC_BCH l b) 23 12))
    masks := (span (bitsOf mw 7 0) (min 16 (bitsOf mw 12 8))).map (fun m => s.rds (R.REC_MASK0 l m) 4) }
/-- A, the analogue words of a frame. -/
def UnitDef.aw (d : UnitDef) : Nat := (d.ach.map (fun (c : Nat × Nat × Nat × Nat) => c.2.2.2)).sum
/-- F in bytes, and the frames of a block (R341). -/
def UnitDef.frameBytes (d : UnitDef) : Nat := 8 + 4 * d.aw + 4 * ((d.bch.length + 31) / 32)
def UnitDef.perBlock (d : UnitDef) : Nat := max 1 (65536 / d.frameBytes)
/-- Blocks of a record of `n` frames: one header block and its data blocks (R345). -/
def UnitDef.blocks (d : UnitDef) (n : Nat) : Nat := 1 + ceilDiv n d.perBlock
/-- The record a unit is armed for or captures. -/
def State.openRec (s : State) (l : Lane) (u : Nat) : Option RecRt := (s.recL l).recs.find? (fun r => r.unit == u && !r.complete)
def State.recAt (s : State) (l : Lane) (u b : Nat) : Option RecRt := (s.recL l).recs.find? (fun r => r.unit == u && r.buf == b)
def State.putRec (s : State) (l : Lane) (r : RecRt) : State :=
  s.modRec l (fun x => { x with recs := x.recs.map (fun q => if q.unit = r.unit ∧ q.buf = r.buf then r else q) })
/-- The block ledger follows the records (R339). -/
def State.blkRefresh (s : State) (l : Lane) : State :=
  let used := ((s.recL l).recs.map (fun r => r.blocks)).sum
  ((s.wr (R.REC_BLK_USED l) used).wr (R.REC_BLK_FREE l) (32768 - used)).crest (R.REC_BLK_CREST l) used

/-! ### The header and the export stream (Table 15-3) -/

/-- Frames oldest first, those dropped among them. -/
def RecRt.inOrder (r : RecRt) : List RecFrame := r.frames.reverse
def RecFrame.written (f : RecFrame) : Bool := !f.words.isEmpty
/-- The frames written, newest first. -/
def RecRt.kept (r : RecRt) : List RecFrame := r.frames.filter RecFrame.written
/-- The newest frames of a ring of n frames; one that was dropped takes no place in it. -/
def ringTake : Nat → List RecFrame → List RecFrame
  | _, [] => []
  | 0, _ => []
  | n + 1, f :: t => if f.written then f :: ringTake n t else f :: ringTake (n + 1) t
/-- The gap table of frames in index order: entries of first index, length, cause; whether the last is merged (R342). -/
def gapTable (fs : List RecFrame) : List (Nat × Nat × Nat) × Bool :=
  let put := fun (a : List (Nat × Nat × Nat) × Bool × List (Nat × Nat)) (f : RecFrame) =>
    f.gaps.foldl (fun (b : (List (Nat × Nat × Nat) × Bool) × List (Nat × Nat)) c =>
      match a.2.2.lookup c with
      | some i =>
        let e := nth b.1.1 i (0, 0, 0)
        let n := if i = 63 ∧ b.1.2 then (f.idx + two32 - e.1) % two32 + 1 else e.2.1 + 1
        ((modAt b.1.1 i (fun _ => (e.1, n, e.2.2)), b.1.2), (c, i) :: b.2)
      | none =>
        if b.1.1.length < 64 then ((b.1.1 ++ [(f.idx, 1, c)], b.1.2), (c, b.1.1.length) :: b.2)
        else ((modAt b.1.1 63 (fun e => (e.1, (f.idx + two32 - e.1) % two32 + 1, e.2.2)), true), (c, 63) :: b.2)) ((a.1, a.2.1), [])
  let r := fs.foldl (fun a f => let b := put a f; (b.1.1, b.1.2, b.2)) ([], false, [])
  (r.1, r.2.1)
/-- The sixteen words of a record's header. -/
def State.recHeader (s : State) (r : RecRt) : List Nat :=
  let g := gapTable r.inOrder
  [r.unit + r.buf * 256 + r.num % 65536 * 65536, r.endc + b2n (s.bit R.ING_PACE_CFG 0) * 16, r.trig.getD 0, r.cause] ++
  (r.time ++ [0, 0, 0]).take 3 ++
  [(r.kept.getLast?).elim 0 (fun f => f.idx), r.kept.length, r.pre, r.df.frameBytes, r.df.aw + r.df.bch.length * 65536, r.retrig,
   g.1.length + b2n g.2 * 128, r.viol, r.crc]
/-- The record's registers follow it (Table 15-5). -/
def State.recShow (s : State) (l : Lane) (r : RecRt) : State := s.wrs (R.REC_RECORD l (8 * r.unit + r.buf) 0) (s.recHeader r)
/-- The export stream (Table 15-3). -/
def State.recStream (s : State) (r : RecRt) : Bytes :=
  let g := gapTable r.inOrder
  let tab := g.1.zipIdx.flatMap (fun e => [e.1.1, e.1.2.1, e.1.2.2 + b2n (g.2 && e.2 == 63) * 256])
  wordsBytes (s.recHeader r) ++ List.replicate 192 0#8 ++ wordsBytes ((tab ++ List.replicate 192 0).take 192) ++
    r.inOrder.flatMap (fun f => wordsBytes f.words)
/-- A record is gone: its blocks are free (R339). -/
def State.recDrop (s : State) (l : Lane) (r : RecRt) : State :=
  let s := s.modRec l (fun x => { x with recs := x.recs.filter (fun q => !(q.unit == r.unit && q.buf == r.buf)), freed := true })
  (s.wrs (R.REC_RECORD l (8 * r.unit + r.buf) 0) (List.replicate 16 0)).blkRefresh l

/-! ### Arming (R345) -/

/-- The lowest buffer of the unit that holds no record. -/
def State.freeBuf (s : State) (l : Lane) (u : Nat) : Option Nat :=
  (List.range (s.fld (R.REC_UNIT0 l u) 7 5 + 1)).find? (fun b => (s.recAt l u b).isNone)
/-- The blocks of one record are allocated, or the unit waits; `first` is the first try of an arm, `k` the first index recorded. -/
def State.recAlloc (s : State) (l : Lane) (u : Nat) (first : Bool) (k : Option Nat) : State :=
  let d := s.unitDef l u
  let n := d.blocks (d.pre + d.maxpost + 1)
  let p := s.viPolder d.owner
  let used := ((s.recL l).recs.map (fun r => r.blocks)).sum
  let mine := (((s.recL l).recs.filter (fun r => s.viPolder r.df.owner == p)).map (fun r => r.blocks)).sum
  let lim := s.fld (R.PLD_ACQ p) 11 0
  let room := decide (used + n ≤ 32768) && (lim == 0 || decide ((mine + n) * 65536 ≤ lim * 1048576))
  match (if room then s.freeBuf l u else none) with
  | some b =>
    let s := s.modRec l (fun x => { x with recs := x.recs ++ [{ unit := u, buf := b, num := 0, df := d, gen := s.viGen d.owner, blocks := n }] })
    let s := s.setUnit l u { s.unit l u with next := k, runs := [], viol := [], stop := none }
    (((s.setUnitState l u 2).setF (R.REC_USTAT_STATE l u) 6 4 b).wr (R.REC_USTAT_HOLD l u) 0).blkRefresh l
  | none =>
    let s := (s.setUnitState l u 1).setB (R.REC_EVENTS l) 3 true
    let s := s.onIf first (fun s => s.addSatF (R.REC_USTAT_CNT l u) 31 16 1)
    s.onIf (first && s.laneActive l) (fun s => s.addSat (R.PLD_ACQ_REFUSED p) 1)
/-- ARM at boundary k: from OFF and STOPPED while EN is 1. -/
def State.recArm (s : State) (l : Lane) (u : Nat) (k : Option Nat) : State :=
  s.onIf (s.unitEn l u && (s.unitState l u == 0 || s.unitState l u == 5)) (fun s => s.recAlloc l u true k)
/-- Waiting units try again at a boundary after blocks have returned. -/
def State.recRetry (s : State) (l : Lane) (k : Nat) : State :=
  if !(s.recL l).freed then s
  else (List.range 16).foldl (fun s u => s.onIf (s.unitState l u == 1) (fun s => s.recAlloc l u false (some k)))
    (s.modRec l (fun x => { x with freed := false }))
/-- Units with AUTO_ARM arm at step 9 of a start. -/
def State.recAuto (s : State) (l : Lane) : State :=
  (List.range 16).foldl (fun s u => s.onIf (s.bit (R.REC_UNIT0 l u) 4) (fun s => s.recArm l u none)) s

/-! ### The end of a record (R346, R348, R350) -/

/-- What a unit does once its record has ended: STOPPED, or the hold-off from the index `e` (R346). -/
def State.recFollow (s : State) (l : Lane) (u e : Nat) (d : UnitDef) : State :=
  if !d.hold || !s.unitEn l u then s.setUnitState l u 5
  else
    let past := match (s.recL l).trigNext with | some t => if idxLater t e then idxSub (idxSub t 1) e else 0 | none => 0
    let left := if d.holdKind then d.holdLen else d.holdLen - past
    ((s.setUnitState l u 4).wr (R.REC_USTAT_HOLD l u) left).setUnit l u { s.unit l u with holdFrom := e }
/-- An event whose DATA the spec does not state: four free values. -/
def State.freeEvent (s : State) (typ source : Nat) : State :=
  let f := fun (i : Nat) => Config.free (s.freeCtr + i) % two32
  ({ s with freeCtr := s.freeCtr + 4 } : State).event typ source [f 0, f 1, f 2, f 3]
/-- A difference of the lanes' records (R350). -/
def State.recDiffer (s : State) (u : Nat) : State :=
  let s := [Lane.a, Lane.b].foldl (fun s l => (s.addSat (R.REC_CMP_DIFFS l) 1).setB (R.REC_EVENTS l) 5 true) s
  (s.freeEvent 0x70 u).wdnDiverge
/-- The CRCs of the two lanes' records are compared (R350). -/
def State.recCompare (s : State) (l : Lane) (u num crc : Nat) : State :=
  if !s.lanesCompared then s
  else
    match s.rcd.crcs.find? (fun c => !(c.1 == l) && c.2.1 == u && c.2.2.1 == num) with
    | some c => ({ s with rcd := { s.rcd with crcs := s.rcd.crcs.filter (· != c) } } : State).onIf (c.2.2.2 != crc) (fun s => s.recDiffer u)
    | none => { s with rcd := { s.rcd with crcs := (l, u, num, crc) :: s.rcd.crcs.take 255 } }
/-- The commit point of a record; `follow` says that its unit follows its MODE at once (R348). -/
def State.recCommit (s : State) (l : Lane) (r : RecRt) (follow : Bool) : State :=
  let r := { r with complete := true, blocks := min r.blocks (r.df.blocks r.kept.length), crc := 0 }
  let r := { r with crc := crc32c (s.recStream r) }
  let s := (s.putRec l r).modRec l (fun x => { x with freed := true })
  let s := ((s.recShow l r).blkRefresh l).setB (R.REC_EVENTS l) 1 true
  let s := s.onIf follow (fun s => s.recFollow l r.unit ((r.frames.head?).elim 0 (fun f => f.idx)) r.df)
  let s := s.onIf (s.laneActive l) (fun s => s.freeEvent 0x70 r.unit)
  s.recCompare l r.unit r.num r.crc
/-- A capture ends with an ENDCAUSE after the frame of index e (R346). -/
def State.recEnd (s : State) (l : Lane) (r : RecRt) (cause e : Nat) : State :=
  let r := { r with endc := cause, frames := r.frames.filter (fun f => !idxLater f.idx e) }
  (s.putRec l r).recShow l r
/-- A record whose last frame has been written reaches its commit point (R348). -/
def execRecordCommit (l : Lane) (u : RecUnit) (s : State) : Host.Outcome State Fault Refusal :=
  finish s (match s.openRec l u.val with
    | some r => s.onIf (r.endc != 0) (fun s => s.recCommit l r true)
    | none => s)

/-! ### Frames and masks (R341, R342, R347) -/

/-- A per-index VI: its final run for an index is the record of that index. -/
def State.perIndex (s : State) (v : Nat) : Bool := s.viType v != 0 && s.viType v != 3
/-- Every source that a VI gives for index k is settled. -/
def State.viSettled (s : State) (l : Lane) (v k : Nat) : Bool :=
  if s.perIndex v then !(s.lane l).liveRun v k && (match (s.lane l).bnd with | some b => idxGe b k | none => false)
  else (match (s.lane l).sentIdx with | some i => idxGe i k | none => false)
/-- The values of a VI's items at an index: those of the last final run at or before it, and whether the index has none of its own. -/
def State.itemsAt (s : State) (l : Lane) (v k : Nat) : List (Nat × Nat) × Bool :=
  let q := mapGet (s.recL l).items v []
  let e := q.find? (fun e => idxGe k e.1)
  (e.elim [] (·.2), s.perIndex v && (e.elim true (fun e => e.1 != k)))
/-- A unit's sources are settled for k (R341). -/
def State.unitSettled (s : State) (l : Lane) (d : UnitDef) (k : Nat) : Bool :=
  let x := s.lane l
  let begun := match x.bnd with | some b => idxGe b k | none => false
  begun && d.ach.all (fun c =>
    match c.1 with
    | 0 => s.viSettled l c.2.1 k
    | 1 => !x.awaits (c.2.1 % 1024) k || (x.setOf (c.2.1 % 1024) k).isSome
    | _ => ((mapGet x.mods (c.2.1 % 32) []).lookup k).isSome || (match x.bnd0 with | some b => !idxGe k b | none => true)) &&
  d.bch.all (fun c => s.viSettled l c.1 k)
/-- The analogue words of a frame with the cause of a gap, 0 for none (R340, R342). -/
def State.frameWords (s : State) (l : Lane) (d : UnitDef) (last : List Nat) (k : Nat) : List (Nat × Nat) :=
  let x := s.lane l
  (d.ach.foldl (fun (a : List (Nat × Nat)) c =>
    let hold := fun (j : Nat) => nth last (a.length + j) 0
    a ++ (match c.1 with
      | 0 => let e := s.itemsAt l c.2.1 k
        [if e.2 then (hold 0, 2) else ((e.1.lookup (2 * c.2.2.1)).getD (hold 0), 0)]
      | 1 => match x.setOf (c.2.1 % 1024) k with
        | some v => [if (nth v.quals c.2.2.1 0x10001).testBit 16 then (hold 0, 1) else (nth v.vals c.2.2.1 0, 0)]
        | none => [(hold 0, 1)]
      | _ => let w := ((mapGet x.mods (c.2.1 % 32) []).lookup k).getD []
        (List.range c.2.2.2).map (fun j =>
          if (nth w (2 * j + 1) 0x10001).testBit 16 then (hold j, 1) else (nth w (2 * j) 0, 0)))) [])
/-- The binary channels of a frame, with the cause of a gap. -/
def State.frameBits (s : State) (l : Lane) (d : UnitDef) (last : List Bool) (k : Nat) : List (Bool × Nat) :=
  d.bch.zipIdx.map (fun c =>
    let e := s.itemsAt l c.1.1 k
    if e.2 then (nth last c.2 false, 2) else (match e.1.lookup (2 * c.1.2 + 1) with | some v => v != 0 | none => nth last c.2 false, 0))
/-- Words of binary channels, 32 to a word. -/
def packBits (b : List Bool) : List Nat :=
  (List.range ((b.length + 31) / 32)).map (fun w => (List.range 32).foldl (fun a i => a + b2n (nth b (32 * w + i) false) * 2 ^ i) 0)
/-- A value is outside a mask at index k (R347). -/
def State.maskOutside (s : State) (l : Lane) (m : List Nat) (v k : Nat) : Bool :=
  let w3 := nth m 3 0
  let per := min 256 (bitsOf w3 24 16)
  let e := bitsOf w3 13 0 + 2 * (k % max 1 per)
  let lo := if per = 0 then nth m 1 0 else s.rd (R.REC_ENV l e)
  let hi := if per = 0 then nth m 2 0 else s.rd (R.REC_ENV l (e + 1))
  f32.isNaN v || f32.lt v lo || f32.lt hi v
/-- The mask tests of a frame: the new runs, and the masks violated (R347). -/
def State.maskTest (s : State) (l : Lane) (d : UnitDef) (runs : List (Nat × Nat)) (ws : List (Nat × Nat)) (k : Nat) : List (Nat × Nat) × List (List Nat) :=
  d.masks.zipIdx.foldl (fun (a : List (Nat × Nat) × List (List Nat)) m =>
    let w := nth ws (bitsOf (nth m.1 0 0) 11 0) (0, 1)
    if w.2 ≠ 0 then a
    else if !s.maskOutside l m.1 w.1 k then (mapPut a.1 m.2 0, a.2)
    else
      let n := mapGet a.1 m.2 0 + 1
      if max 1 (bitsOf (nth m.1 0 0) 19 12) ≤ n then (mapPut a.1 m.2 0, a.2 ++ [m.1]) else (mapPut a.1 m.2 n, a.2)) (runs, [])
/-- A TS source is raised at an index. -/
def RecLane.raise (x : RecLane) (k bits : Nat) : RecLane :=
  { x with ts := (k, ((x.ts.lookup k).getD 0) ||| bits) :: (x.ts.filter (fun e => e.1 != k)).take 1023 }
/-- The bytes that wait in the lane's write queue: it drains at 4 bytes a nanosecond (R342). -/
def State.wqLevel (s : State) (l : Lane) : Nat := (s.recL l).wq.1 - 4 * (s.now - (s.recL l).wq.2)
/-- The frame of index k finds no room in the write queue of 1 MiB: it is not written, and no mask is tested (R342). -/
def State.dropFrame (s : State) (l : Lane) (u k : Nat) (r : RecRt) : State :=
  let prev := (r.frames.head?).elim [] (fun f => f.gaps)
  let s := s.onIf (!prev.contains 4) (fun s => s.setB (R.REC_EVENTS l) 6 true)
  (s.putRec l { r with frames := { idx := k, words := [], gaps := [4] } :: r.frames }).setUnit l u { s.unit l u with next := some (idxAdd k 1) }
/-- The frame of index k is written (R341, R342, R347). -/
def State.writeFrame (s : State) (l : Lane) (u k : Nat) (r : RecRt) : State :=
  if 1048576 < s.wqLevel l + r.df.frameBytes then s.dropFrame l u k r else
  let s := s.modRec l (fun x => { x with wq := (s.wqLevel l + r.df.frameBytes, s.now) })
  let t := s.unit l u
  let ws := s.frameWords l r.df t.last k
  let bs := s.frameBits l r.df t.lastB k
  let causes := [1, 2].filter (fun c => ws.any (fun w => w.2 == c) || bs.any (fun w => w.2 == c))
  let mt := s.maskTest l r.df t.runs ws k
  let flags := b2n (!causes.isEmpty) + b2n (!mt.2.isEmpty) * 4 + ((ws.findIdx? (fun w => w.2 != 0)).getD 0xFFFF) * 65536
  let fr : RecFrame := { idx := k, words := k :: flags :: ws.map (·.1) ++ packBits (bs.map (·.1)), gaps := causes }
  let prev := (r.frames.head?).elim [] (fun f => f.gaps)
  let s := s.onIf (causes.any (fun c => !prev.contains c)) (fun s => s.setB (R.REC_EVENTS l) 6 true)
  let r := { r with frames := fr :: r.frames }
  -- the pre-trigger ring (Table 15-2)
  let old := fun (f : RecFrame) => match (s.recL l).trigNext with | some n => idxLater n f.idx | none => false
  let r := if s.unitState l u = 2 then { r with frames := r.frames.filter (fun f => !old f) ++ ringTake r.df.pre (r.frames.filter old) } else r
  let viol := mt.2.map (fun m => (k, (nth m 0 0).testBit 20, (nth m 0 0).testBit 21))
  let gts := mt.2.foldl (fun a m => if (nth m 0 0).testBit 22 then a ||| 2 ^ bitsOf (nth m 0 0) 27 24 else a) 0
  let s := (s.putRec l r).setUnit l u { t with next := some (idxAdd k 1), runs := mt.1, last := ws.map (·.1), lastB := bs.map (·.1), viol := t.viol ++ viol }
  let s := s.onIf (!mt.2.isEmpty) (fun s =>
    (s.addSatF (R.REC_USTAT_VIOL l u) 15 0 mt.2.length).setB (R.REC_EVENTS l) 2 true)
  s.onIf (gts != 0) (fun s => s.modRec l (fun x => x.raise k gts))

/-! ### Triggers (R343, R344, R346, R349) -/

/-- Units that record: ARMED, or CAPTURING with its end not yet reached. -/
def State.recording (s : State) (l : Lane) (u : Nat) : Option RecRt :=
  if s.unitState l u = 2 ∨ s.unitState l u = 3 then (s.openRec l u).filter (fun r => r.endc == 0) else none
/-- Frame flags of index k in a record. -/
def RecRt.flag (r : RecRt) (k bit : Nat) : RecRt :=
  { r with frames := r.frames.map (fun f => if f.idx = k then { f with words := modAt f.words 1 (fun w => w ||| bit) } else f) }
/-- The sources of index k that fire for a unit (R343). -/
def State.unitCause (s : State) (l : Lane) (u k en : Nat) : Nat :=
  let x := s.recL l
  let ts := (x.ts.lookup k).getD 0
  let ext := x.ext.filter (fun e => e.1 == k)
  let pins := ext.foldl (fun a e => a ||| e.2.1) 0
  let cmd := ext.any (fun e => e.2.2.testBit u)
  let own := (s.unit l u).viol.any (fun v => v.1 == k && v.2.1)
  en &&& (ts ||| pins ||| (if cmd then 2 ^ 24 else 0) ||| (if own then 2 ^ 25 else 0))
/-- A unit's triggers of index k: the lines it pulses, and the state (R344, R346). -/
def State.unitTrigger (s : State) (l : Lane) (u k : Nat) : Nat × State :=
  let t := s.unit l u
  match (s.recording l u).filter (fun (r : RecRt) => r.frames.any (fun f => f.idx == k)) with
  | some r =>
    let c := s.unitCause l u k r.df.trigEn
    let nv := (t.viol.filter (fun v => v.1 == k)).length
    let stopV := t.viol.any (fun v => v.1 == k && v.2.2)
    let lines := if c = 0 then 0 else r.df.tout
    let (r, s) :=
      if s.unitState l u = 2 then
        if c = 0 then (r, s)
        else
          let pre := (r.frames.filter (fun (f : RecFrame) => idxLater k f.idx)) |> ringTake r.df.pre
          let info := (s.ing.bInfo.find? (fun b => b.1 == k)).elim [0, 0, 0] (fun b => nth b.2.2 r.df.cv [0, 0, 0])
          let r := { r with frames := r.frames.filter (fun (f : RecFrame) => idxGe f.idx k) ++ pre, trig := some k, fin := idxAdd k r.df.post, cause := c,
                            time := info, pre := (pre.filter RecFrame.written).length, num := (t.count + 1) % 65536, viol := nv }
          let s := ((s.setUnitState l u 3).setB (R.REC_EVENTS l) 0 true).wr (R.REC_USTAT_TRIG l u) k
          (r.flag k 2, (s.wr (R.REC_USTAT_END l u) r.fin).setUnit l u { t with count := t.count + 1 })
      else
        let r := { r with viol := r.viol + nv }
        if c = 0 then (r, s)
        else
          let tr := r.trig.getD k
          let e := idxAdd k r.df.post
          let fin := if !r.df.extend then r.fin else if (e + two32 - tr) % two32 ≤ r.df.maxpost then e else idxAdd tr r.df.maxpost
          ({ r with retrig := r.retrig + 1, cause := r.cause ||| c, fin := fin }.flag k 8,
           (s.addSatF (R.REC_USTAT_CNT l u) 15 0 1).wr (R.REC_USTAT_END l u) fin)
    let s := s.putRec l r
    let s := s.onIf (r.trig.isSome) (fun s => s.recShow l r)
    (lines, if r.trig.isSome then (if r.fin = k then s.recEnd l r 1 k else if stopV then s.recEnd l r 2 k else s) else s)
  | none =>
    if s.unitState l u = 4 ∧ idxLater k t.holdFrom then
      let d := s.unitDef l u
      let left := s.fld (R.REC_USTAT_HOLD l u) 23 0
      let hit := !d.holdKind || s.unitCause l u k d.trigEn != 0
      (0, s.onIf hit (fun s => s.wr (R.REC_USTAT_HOLD l u) (left - 1)))
    else (0, s)
/-- A STOP command whose last index has been evaluated (R346). -/
def State.stopCheck (s : State) (l : Lane) (u : Nat) : State :=
  match (s.unit l u).stop, (s.recL l).trigNext with
  | some x, some n =>
    if !idxLater n x then s
    else
      let s := s.setUnit l u { s.unit l u with stop := none }
      match s.recording l u with
      | some r => match r.trig with
        | some t => s.onIf (s.unitState l u == 3 && idxGe x t) (fun s => s.recEnd l r 3 x)
        | none => s
      | none => s
  | _, _ => s
/-- Index k is evaluated: every unit's triggers, and one TRIG message for the lines they pulse (R344, R349). -/
def State.trigEval (s : State) (l : Lane) (k : Nat) : State :=
  let (lines, s) := (List.range 16).foldl (fun (a : Nat × State) u =>
    let r := a.2.unitTrigger l u k
    (a.1 ||| r.1, r.2)) (0, s)
  let s := s.onIf (lines != 0) (fun s => s.relSend l 8 k 0 0 [] 0 lines [])
  let s := s.modRec l (fun x => { x with trigNext := some (idxAdd k 1), ts := x.ts.filter (fun e => idxLater e.1 k), ext := x.ext.filter (fun e => idxLater e.1 k) })
  (List.range 16).foldl (fun s u => (s.setUnit l u { s.unit l u with viol := (s.unit l u).viol.filter (fun v => idxLater v.1 k) }).stopCheck l u) s
/-- The evaluation of triggers runs as far as frames and final runs allow (R344). The number bounds it. -/
def State.trigPoll (s : State) (l : Lane) : Nat → State
  | 0 => s
  | n + 1 =>
    match (s.recL l).trigNext, (s.lane l).sentIdx with
    | some k, some d =>
      let waits := (List.range 16).any (fun u => (s.recording l u).isSome && (match (s.unit l u).next with | some j => idxGe k j | none => false))
      if idxGe d k && !waits then (s.trigEval l k).trigPoll l n else s
    | _, _ => s
/-- The unit writes its next frame once its sources are settled, and triggers are evaluated (R341, R344). -/
def State.acqFrame (s : State) (l : Lane) (u : Nat) : State :=
  match s.recording l u, (s.unit l u).next with
  | some r, some k => s.onIf (s.unitSettled l r.df k) (fun s => (s.writeFrame l u k r).trigPoll l 64)
  | _, _ => s
/-- A unit writes its next frame (R341). -/
def execAcqFrameWrite (l : Lane) (u : RecUnit) (s : State) : Host.Outcome State Fault Refusal := finish s (s.acqFrame l u.val)
/-- A unit whose hold-off is complete arms again (R346). -/
def execHoldoffDone (l : Lane) (u : RecUnit) (s : State) : Host.Outcome State Fault Refusal :=
  finish s (s.onIf (s.unitState l u.val == 4 && s.fld (R.REC_USTAT_HOLD l u.val) 23 0 == 0) (fun s =>
    s.recAlloc l u.val true (s.recL l).trigNext))
/-- What final runs hand to the acquisition engine: RECW items and TS sources (R224, R340, R343). -/
def State.recRecord (s : State) (l : Lane) (v k : Nat) (rec : List RecItem) : State :=
  let old := (mapGet (s.recL l).items v []).headD (0, [])
  let new := (rec.filter (fun i => i.op == 0x5E)).foldl (fun (m : List (Nat × Nat)) i =>
    mapPut m (2 * i.item + i.slot) ((i.vals.headD (0, 0)).2)) old.2
  let bits := (rec.filter (fun i => i.op == 0x5F && i.slot == 1)).foldl (fun a i => a ||| 2 ^ (i.item % 16)) 0
  let s := s.modRec l (fun x => { x with items := mapPut x.items v ((k, new) :: (mapGet x.items v []).take 400) })
  s.onIf (bits != 0) (fun s => s.modRec l (fun x => x.raise k bits))
/-- A boundary: TRIG_IN edges of word 3 of BOUNDARY(k), waiting allocations, units without a first index (R343, R345). -/
def State.recBoundary (s : State) (l : Lane) (k w : Nat) : State :=
  let pins := bitsOf w 8 1 * 65536
  let s := s.modRec l (fun x => { x with
    trigNext := some (x.trigNext.getD k)
    ext := if pins = 0 then x.ext else x.ext ++ [(k, pins, 0)]
    units := x.units.map (fun e => if e.2.next.isNone then (e.1, { e.2 with next := some k }) else e) })
  s.recRetry l k

/-! ### Commands (R345, R346, R348) -/

/-- DISCARD (R348). -/
def State.recDiscard (s : State) (l : Lane) (u b : Nat) : State :=
  match s.recAt l u b with
  | none => s
  | some r =>
    if r.complete then s.setB (R.REC_STATUS l) 8 true
    else (s.recDrop l r).recFollow l u ((s.recL l).trigNext.elim 0 (fun n => idxSub n 1)) r.df
/-- RELEASE (R348). -/
def State.recRelease (s : State) (l : Lane) (u b : Nat) : State :=
  match s.recAt l u b with
  | none => s
  | some r =>
    if !r.complete then s
    else if s.rcd.exp == some (u, b) then { s with rcd := { s.rcd with expRelease := true } }
    else s.recDrop l r
/-- EXPORT, carried out by the active lane (R348). -/
def State.recExport (s : State) (l : Lane) (u b : Nat) : State :=
  match s.recAt l u b with
  | none => s
  | some r => s.onIf (r.complete && s.rcd.exp.isNone && s.laneActive l) (fun s =>
      (({ s with rcd := { s.rcd with exp := some (u, b), expRelease := false } } : State).setB (R.REC_STATUS l) 0 true).wr (R.REC_EXP_DONE l) 0)
/-- DISARM (Table 15-2). -/
def State.recDisarm (s : State) (l : Lane) (u : Nat) : State :=
  match s.unitState l u with
  | 1 => s.setUnitState l u 5
  | 2 => match s.openRec l u with
    | some r => (s.recDrop l r).setUnitState l u 5
    | none => s.setUnitState l u 5
  | _ => s
/-- A REC_CMD at boundary k: CODE, unit and buffer; TRIGGER takes the units of REC_TRIG_SEL (Table 15-5). -/
def State.recApply (s : State) (l : Lane) (k code u v : Nat) : State :=
  match code with
  | 1 => s.recArm l u (some k)
  | 2 => s.modRec l (fun x => { x with ext := x.ext ++ [(k, 0, s.fld (R.REC_TRIG_SEL l) 15 0)] })
  | 3 => (s.setUnit l u { s.unit l u with stop := some (idxSub k 1) }).stopCheck l u
  | 4 => s.recDiscard l u v
  | 5 => s.recRelease l u v
  | 6 => s.recExport l u v
  | 7 => s.recDisarm l u
  | _ => s
/-- REC_CMD ARM (R345). -/
def execRecArm (u : RecUnit) (s : State) : Host.Outcome State Fault Refusal := finish s (s.atBoundary (.recCmd 1 u.val 0))
/-- REC_CMD TRIGGER (R343). -/
def execRecTrigger (s : State) : Host.Outcome State Fault Refusal := finish s (s.atBoundary (.recCmd 2 0 0))
/-- REC_CMD STOP (R346). -/
def execRecStop (u : RecUnit) (s : State) : Host.Outcome State Fault Refusal := finish s (s.atBoundary (.recCmd 3 u.val 0))
/-- REC_CMD DISCARD (R348). -/
def execRecDiscard (u : RecUnit) (b : Fin 8) (s : State) : Host.Outcome State Fault Refusal := finish s (s.atBoundary (.recCmd 4 u.val b.val))
/-- REC_CMD RELEASE (R348). -/
def execRecRelease (u : RecUnit) (b : Fin 8) (s : State) : Host.Outcome State Fault Refusal := finish s (s.atBoundary (.recCmd 5 u.val b.val))
/-- REC_CMD EXPORT (R348). -/
def execRecExport (u : RecUnit) (b : Fin 8) (s : State) : Host.Outcome State Fault Refusal := finish s (s.atBoundary (.recCmd 6 u.val b.val))
/-- REC_CMD DISARM (Table 15-2). -/
def execRecDisarm (u : RecUnit) (s : State) : Host.Outcome State Fault Refusal := finish s (s.atBoundary (.recCmd 7 u.val 0))
/-- The lane that exports: the one whose REC_STATUS says so. -/
def State.expLane (s : State) : Lane := if s.bit (R.REC_STATUS .b) 0 then .b else .a
/-- The export ends: its bytes have gone out through PF0's windows, or it is blocked (R348, R102). -/
def State.exportDone (s : State) : State :=
  match s.rcd.exp with
  | none => s
  | some (u, b) =>
    let l := s.expLane
    let rel := s.rcd.expRelease
    let s : State := { s with rcd := { s.rcd with exp := none, expRelease := false } }
    let s := s.setB (R.REC_STATUS l) 0 false
    let s := match s.recAt l u b with
      | none => s
      | some r =>
        let d := s.recStream r
        let (ok, s) := s.dmaWrite 0 (s.rd64 (R.REC_EXP_ADDR_LO l)) d
        if ok then (s.wr (R.REC_EXP_DONE l) d.length).setB (R.REC_EVENTS l) 4 true else s.setB (R.REC_EVENTS l) 7 true
    s.onIf rel (fun s => (s.recRelease .a u b).recRelease .b u b)
/-- An export has been carried out (R348). -/
def execExportDone (s : State) : Host.Outcome State Fault Refusal := finish s s.exportDone

/-! ### Resets (R352) -/

/-- At the commit point of a reset of VI v: captures of its units end with ENDCAUSE 4 and commit; the unit follows its MODE later. -/
def State.recViEnd (s : State) (l : Lane) (v : Nat) : State :=
  let s := (List.range 16).foldl (fun s u =>
    match s.openRec l u with
    | some r => s.onIf (r.df.owner == v && s.unitState l u == 3) (fun s => s.recCommit l (if r.endc = 0 then { r with endc := 4 } else r) false)
    | none => s) s
  s.modRec l (fun x => { x with items := mapDel x.items v })
/-- At step 4 of Table 04-5. -/
def State.recViStart (s : State) (l : Lane) (v : Nat) : State :=
  (List.range 16).foldl (fun s u =>
    let d := s.unitDef l u
    s.onIf (d.owner == v && s.unitState l u == 3 && (s.openRec l u).isNone) (fun s =>
      s.recFollow l u ((s.recL l).trigNext.elim 0 (fun n => idxSub n 1)) d)) s
/-- Every capture in progress ends with ENDCAUSE 4 and commits (warm image reset). -/
def State.recEndAll (s : State) (l : Lane) : State :=
  (List.range 16).foldl (fun s u =>
    match s.openRec l u with
    | some r => if s.unitState l u = 3 then s.recCommit l (if r.endc = 0 then { r with endc := 4 } else r) false else s.recDrop l r
    | none => s) s

/-! ### TRIG_OUT (R349) -/

/-- The lines of TRIG_OUT take new levels. -/
def State.trigOutSet (s : State) (v : Nat) : State :=
  let o := s.pwr.trigOut
  let s : State := { s with pwr := { s.pwr with trigOut := v } }
  (List.range 4).foldl (fun s n => if v.testBit n = o.testBit n then s else s.emit (.pin (n + 1) (v.testBit n))) s
/-- TRIG_OUT is held low while the arbiter is SILENT. -/
def State.trigSilent (s : State) : Bool := s.silent && s.bit (R.REC_TOUT_CFG .a) 31
/-- A TRIG message (R349). -/
def execSluTrigRx (l : Lane) (ok : Bool) (s : State) : Host.Outcome State Fault Refusal :=
  finish s (s.sluTake l 8 ok (fun m s =>
    if !(l == s.srcLane) || (match s.rcd.lastTrig with | some k => !idxLater m.idx k | none => false) then s
    else
      let s : State := { s with rcd := { s.rcd with lastTrig := some m.idx } }
      s.onIf (!s.trigSilent) (fun s => s.trigOutSet (s.pwr.trigOut ||| (m.pay % 16)))))
/-- A pulse of TRIG_OUTn ends (R349). -/
def execTrigOutPulseEnd (n : Fin 4) (s : State) : Host.Outcome State Fault Refusal :=
  finish s (s.onIf (s.pwr.trigOut.testBit n.val) (fun s => s.trigOutSet (s.pwr.trigOut - 2 ^ n.val)))
/-- An edge of TRIG_INn, for the next boundary (R343). -/
def State.trigInEdge (s : State) (n : Nat) (rising : Bool) : State :=
  { s with ing := { s.ing with trigIn := s.ing.trigIn ||| 2 ^ (n + if rising then 0 else 4) } }

/-! ### The event recorder (R353 to R359) -/

/-- A register as a plain read sees it: without any effect, 0 where it cannot be reached (R356). -/
def State.peek (s : State) (k : Nat) : Nat :=
  if (rowAt k).isSome && decide (k < 0x8000000) then s.regNow k else 0
/-- The valid word of a record (R353): CRC over bytes 0 to 31 and 40 to 59; over bytes 0 to 59 of an extension (R356). -/
def evtValid (ws : List Nat) (ext : Bool) : Nat :=
  let b := wordsBytes (ws.take 15)
  crc16 (if ext then b else b.take 32 ++ b.drop 40) + (65535 - nth ws 0 0 % 65536) * 65536
/-- Oldest readable SEQ (R353). -/
def State.evtOldest (s : State) : Nat := if s.evt.ring.length < 131072 then 0 else idxSub (s.rd R.EVT_HEAD) 131072
/-- A write to a slot of the ring is counted, for CHANGED (R358). -/
def EvtState.touch (e : EvtState) (slot : Nat) : EvtState := { e with writes := mapPut e.writes slot (mapGet e.writes slot 0 + 1) }
/-- A record takes the next SEQ and is written (R353); its first word is its SEQ. -/
def State.ringPut (s : State) (ws : List Nat) (ext : Bool) : State :=
  let q := s.rd R.EVT_HEAD
  let ws := (q :: ws ++ List.replicate 14 0).take 15
  let r : EvtRec := { seq := q, words := ws ++ [evtValid ws ext], valid := true }
  let s : State := { s with evt := ({ s.evt with ring := (r :: s.evt.ring).take 131072 }).touch (q % 131072) }
  let s := s.wr R.EVT_HEAD (idxAdd q 1)
  s.wr R.EVT_OLDEST s.evtOldest
/-- The registers of the first enabled snapshot entry of a TYPE (R356). -/
def State.snapRegs (s : State) (typ : Nat) : List Nat :=
  match (List.range 16).find? (fun e => s.bit (R.EVT_SNAP e) 0 && s.fld (R.EVT_SNAP e) 31 16 == typ) with
  | some e => (List.range (s.fld (R.EVT_SNAP e) 3 1 + 1)).map (fun i => s.rd (R.EVT_SNAP_REG e i))
  | none => []
/-- A new record with its extension records (R353, R356). -/
def State.evtNew (s : State) (it : EvtItem) (w1 : Nat) (regs : List Nat) : State :=
  let q := s.rd R.EVT_HEAD
  let n := (regs.length + 3) / 4
  let s := s.onIf (regs.contains R.RTC_SUB) State.rtcSub
  let vals := regs.map (fun k => (k, s.peek k))
  let s := s.ringPut ([w1, it.hours % two32, it.hours / two32, it.cycles] ++ (it.time ++ [0, 0, 0]).take 3 ++ [0, it.hours % two32, n] ++ it.data) false
  let s := (List.range n).foldl (fun s p =>
    let ps := (vals.drop (4 * p)).take 4
    s.ringPut ([1 + (p + 1) * 65536, q, ps.length] ++ ps.flatMap (fun e => [e.1, e.2])) true) s
  (s.setB R.EVT_EVENTS 0 true).onIf (n != 0) (fun s => s.setB R.EVT_EVENTS 2 true)
/-- An event is written: as a repeat of the newest record, or as a new one with its extension records (R353 to R356). -/
def State.evtWrite (s : State) (it : EvtItem) : State :=
  let regs := s.snapRegs it.typ
  let w1 := it.typ + it.source * 65536
  let same := fun (r : EvtRec) => r.valid && nth r.words 1 0 == w1 && (r.words.drop 11).take 4 == it.data && nth r.words 10 0 == 0 &&
    decide (nth r.words 8 0 < 65535) && regs.isEmpty && idxAdd r.seq 1 == s.rd R.EVT_HEAD
  match s.evt.ring with
  | r :: t =>
    if same r then
      let r1 := { r with words := modAt (modAt r.words 8 (· + 1)) 9 (fun _ => it.hours % two32) }
      { s with evt := ({ s.evt with ring := r1 :: t }).touch (r.seq % 131072) }
    else s.evtNew it w1 regs
  | [] => s.evtNew it w1 regs
/-- Once the queue has room again, the record of the losses enters it (R357). -/
def State.evtLossPut (s : State) : State :=
  if s.evt.lossSince = 0 ∨ 256 ≤ s.evt.queue.length then s
  else
    let n := s.evt.lossSince
    let h := s.evt.firstLoss
    ({ s with evt := { s.evt with lossSince := 0, firstLoss := 0 } } : State).event 0x2 0 [min n 4294967295, h % two32, h / two32, 0]
/-- The recorder writes the oldest queued event. -/
def State.evtDrain (s : State) : State :=
  match s.evt.queue with
  | [] => s
  | it :: q => (({ s with evt := { s.evt with queue := q } } : State).evtWrite it).evtLossPut
/-- The recorder writes the oldest queued event (R353, R355, R357). -/
def execEventRecordWrite (s : State) : Host.Outcome State Fault Refusal := finish s s.evtDrain
/-- A write of EVT_SW_CMD (Table 15-9). -/
def State.evtSw (s : State) (v : Nat) : State :=
  if bitsOf v 31 16 ≠ 0x4896 then s else s.event (0x100 + v % 256) (bitsOf v 15 8) (s.rds (R.EVT_SW_DATA 0) 4)
/-- Software writes an event (R359). -/
def execEvtSwCmd (v : Word) (s : State) : Host.Outcome State Fault Refusal := finish s (s.evtSw v.toNat)
/-- The writes of a path's cursor slot so far. -/
def State.curWrites (s : State) (p : Path) : Nat := mapGet s.evt.writes (s.pathGet p R.EVT_CURSOR % 131072) 0
/-- A path's cursor moves; CHANGED is cleared (R358). -/
def State.setCursor (s : State) (p : Path) (v : Nat) : State :=
  let s := s.pathPut p R.EVT_CURSOR (v % two32)
  s.pathPut p R.EVT_CUR_STEP (s.curWrites p)
/-- EVT_CUR_STATUS of a path: the latched bits, and CHANGED, live (R358). -/
def State.curStatus (s : State) (p : Path) : Nat :=
  s.pathGet p R.EVT_CUR_STATUS % 8 + b2n (s.curWrites p != s.pathGet p R.EVT_CUR_STEP) * 8
/-- A write of EVT_CURSOR. -/
def execCursorWrite (p : Path) (v : Word) (s : State) : Host.Outcome State Fault Refusal := finish s (s.setCursor p v.toNat)
/-- EVT_CUR_STEP NEXT. -/
def execCursorNext (p : Path) (s : State) : Host.Outcome State Fault Refusal :=
  finish s (s.setCursor p (idxAdd (s.pathGet p R.EVT_CURSOR) 1))
/-- EVT_CUR_STEP PREV. -/
def execCursorPrev (p : Path) (s : State) : Host.Outcome State Fault Refusal :=
  finish s (s.setCursor p (idxSub (s.pathGet p R.EVT_CURSOR) 1))
/-- A read of EVT_WIN0 latches the record of the cursor's slot and its status (R358). -/
def State.winLatch (s : State) (p : Path) : State :=
  let c := s.pathGet p R.EVT_CURSOR
  let r := s.evt.ring.find? (fun r => r.seq % 131072 == c % 131072)
  let notYet := idxGe c (s.rd R.EVT_HEAD)
  let older := !notYet && idxLater s.evtOldest c
  let valid := r.elim false (fun r => r.valid && r.seq == c)
  let ws := r.elim (List.replicate 16 0) (fun r => r.words)
  let s := ws.zipIdx.foldl (fun s w => s.pathPut p (R.EVT_WIN w.2) w.1) s
  let s := s.pathPut p R.EVT_CUR_STATUS (b2n valid + b2n older * 2 + b2n notYet * 4)
  s.pathPut p R.EVT_CUR_STEP (s.curWrites p)
/-- A read of EVT_WIN0 on a path (R358). -/
def execWindowLatch (p : Path) (s : State) : Host.Outcome State Fault Refusal :=
  finish s (let s := s.winLatch p; s.emit (.read p (R.EVT_WIN 0) (s.pathGet p (R.EVT_WIN 0))))

end Sys2Proof.Machine
end

