-- ==== Sys2Proof/Machine/Seepage.lean ====
section
/-! DEFINITION. The conservation ledgers and the seepage monitor (17_conservation.md, R387 to R395). -/
namespace Sys2Proof.Machine

/-- A lane is checked while it is ACTIVE, or STANDBY and synchronised (R388). -/
def State.seepLane (s : State) (l : Lane) : Bool := s.role l == 0 || (s.role l == 1 && s.bit R.WDN_STATUS 4)
/-- Cells that the frames in the shared buffer use (R135). -/
def State.cellsUsed (s : State) : Nat := (s.net.frames.map (·.cells)).sum
/-- Credits that the cells in an output's buffer hold (R140). -/
def State.creditsHeld (s : State) (x : Nat) : Nat := ((s.net.copies.filter (fun c => c.x == x)).map (·.held)).sum +
  (match s.net.tx.lookup x with | some c => c.held | none => 0)
/-- The host-bound VIs, whose rings have ledgers. -/
def State.ringVis (s : State) : List Nat := (s.host.descLedger.map (·.1)).eraseDups.filter (fun n => s.hostBound n)
/-- Tokens of a lane in a state of Table 11-1, in its order. -/
def State.tokCount (s : State) (l : Lane) (st : Nat) : Nat :=
  if st = 0 then (s.lane l).free else ((s.lane l).toks.filter (fun t => t.st == st)).length
/-- The counts that a check latches, by the latch register that shows each (Table 17-2 step 1, Table 17-3). -/
def State.seepLatch (s : State) : List (Nat × Nat) :=
  let lanes := [Lane.a, Lane.b].filter (fun l => s.seepLane l)
  [(R.SEP_CELLS, s.cellsUsed), (R.SEP_CELLS_FREE, s.rd R.SWC_FREE)] ++
  (List.range 51).map (fun x => (R.SEP_CRED x, s.fld (R.SWC_P_CREDITS x) 5 0 + 65536 * s.creditsHeld x)) ++
  lanes.flatMap (fun l => (List.range 6).map (fun t => (R.SEP_TOK (laneIx l) t, s.tokCount l t)) ++
    [(R.SEP_ACQ (laneIx l) 0, s.rd (R.REC_BLK_FREE l)), (R.SEP_ACQ (laneIx l) 1, s.rd (R.REC_BLK_USED l)),
     (R.SEP_ACQ (laneIx l) 2, ((s.recL l).recs.map (·.blocks)).sum)]) ++
  s.ringVis.flatMap (fun n => (mapGet s.host.descLedger n []).zipIdx.map (fun (w : Nat × Nat) => (R.SEP_DESC n w.2, w.1))) ++
  (List.range 51).flatMap (fun x => (List.range 8).flatMap (fun c =>
    [(R.SEP_Q x c 0, s.rd (R.SWC_P_QDEPTH x c)), (R.SEP_Q x c 1, mapGet s.net.chgIn (8 * x + c) 0), (R.SEP_Q x c 2, mapGet s.net.chgOut (8 * x + c) 0)]))
/-- A failing instance: ledger, lane, row (class or ring), instance; the value required and the value found. -/
structure SeepBad where
  ledger : Nat
  lane : Nat
  row : Nat
  inst : Nat
  need : Nat
  found : Nat
deriving DecidableEq, Repr
def SeepBad.key (b : SeepBad) : Nat × Nat × Nat × Nat := (b.ledger, b.lane, b.row, b.inst)
/-- The three rows of Table 14-1 of a point: the sum of its accumulators, its gap, its integral. -/
def State.nrgRow (s : State) (l : Lane) (e r : Nat) : Nat × Nat × Nat :=
  let p := s.pt l e
  let acc := match r with | 0 => p.acc.take 2 | 1 => (p.acc.drop 2).take 4 | _ => p.acc.drop 6
  (acc.sum % 2 ^ 96, nth p.gap r 0, nth p.f r 0)
/-- The point is checked (R393). -/
def State.nrgChecked (s : State) (e : Nat) : Bool := !s.bit (R.SEP_NRG_DIS (e / 32)) (e % 32)
/-- The enabled instances whose invariants do not hold on the counts latched (Table 17-1), in the order of the ledgers. -/
def State.seepBad (s : State) (t : List (Nat × Nat)) : List SeepBad :=
  let g := fun (k : Nat) => mapGet t k 0
  let off := fun (n : Nat) => s.bit R.SEP_DISABLE n
  let lanes := [Lane.a, Lane.b].filter (fun l => !s.sep.skip.testBit (laneIx l))
  let cells := g R.SEP_CELLS + g R.SEP_CELLS_FREE
  (if cells = 524288 then [] else [{ ledger := 0, lane := 0, row := 0, inst := 0, need := 524288, found := cells }]) ++
  (List.range 51).filterMap (fun x =>
    let c := g (R.SEP_CRED x)
    let n := bitsOf c 5 0 + bitsOf c 13 8 + bitsOf c 21 16
    if n = 32 then none else some { ledger := 1, lane := 0, row := 0, inst := x, need := 32, found := n }) ++
  (if off 3 then [] else (List.range 51).flatMap (fun x => (List.range 8).filterMap (fun c =>
    let need := (g (R.SEP_Q x c 1) + two32 - g (R.SEP_Q x c 2)) % two32
    if g (R.SEP_Q x c 0) = need then none else some { ledger := 2, lane := 0, row := c, inst := x, need := need, found := g (R.SEP_Q x c 0) }))) ++
  lanes.filterMap (fun l =>
    let n := ((List.range 6).map (fun i => g (R.SEP_TOK (laneIx l) i))).sum
    if n = 65536 then none else some { ledger := 3, lane := laneIx l, row := 0, inst := 0, need := 65536, found := n }) ++
  (if off 4 then [] else s.ringVis.flatMap (fun n => [0, 1].filterMap (fun r =>
    let w := fun (i : Nat) => g (R.SEP_DESC n (4 * r + i))
    let need := (w 1 + w 2 + w 3) % two32
    if w 0 ≠ need then some { ledger := 4, lane := 0, row := r, inst := n, need := need, found := w 0 }
    else if s.ringLen n r < w 3 then some { ledger := 4, lane := 0, row := r, inst := n, need := s.ringLen n r, found := w 3 }
    else none))) ++
  (if off 5 then [] else lanes.filterMap (fun l =>
    let w := fun (i : Nat) => g (R.SEP_ACQ (laneIx l) i)
    if w 0 + w 1 ≠ 32768 then some { ledger := 5, lane := laneIx l, row := 0, inst := 0, need := 32768, found := w 0 + w 1 }
    else if w 1 ≠ w 2 then some { ledger := 5, lane := laneIx l, row := 0, inst := 0, need := w 2, found := w 1 }
    else none)) ++
  (if off 6 then [] else lanes.flatMap (fun l => ((s.nrgL l).pts.map (·.1)).flatMap (fun e =>
    if s.ptState l e = 0 || !s.nrgChecked e then []
    else [0, 1, 2].filterMap (fun r =>
      let v := s.nrgRow l e r
      if (v.1 + v.2.1) % 2 ^ 96 = v.2.2 then none
      else some { ledger := 6, lane := laneIx l, row := r, inst := e, need := 0
                  found := (v.2.2 + 2 * 2 ^ 96 - v.1 - v.2.1) % 2 ^ 96 / 2 ^ 32 % two32 }))))
/-- The lanes that are not checked, as bits of SEP_LANE_SKIP (R388). -/
def State.seepSkip (s : State) : Nat := b2n (!s.seepLane .a) + 2 * b2n (!s.seepLane .b)
/-- A check begins: the counts are latched (Table 17-2 steps 0 and 1). -/
def State.seepBegin (s : State) : State :=
  let s := s.setB R.SEP_STATUS 4 true
  { s with sep := { s.sep with latch := s.seepLatch, skip := s.seepSkip, late := false } }
/-- Checks run from step 9 of Table 03-1 until low tide is entered, and again once the module has left it: the check on leaving
is the one of R26 (R395, R390). -/
def State.seepRuns (s : State) : Bool := s.wdn.live && (decide (s.power < 3) || s.power == 4)
/-- A tick (R389, R390). -/
def State.seepTick (s : State) : State :=
  if !s.seepRuns then s
  else if s.bit R.SEP_STATUS 4 then ({ s with sep := { s.sep with late := true } } : State).setB R.SEP_EVENTS 1 true
  else s.seepBegin
/-- Every 1 ms (R389). -/
def execSeepageTick (s : State) : Host.Outcome State Fault Refusal := finish s s.seepTick
/-- The snapshot of the first ENERGY violation (Table 17-3). -/
def State.seepNrg (s : State) (b : SeepBad) : State :=
  let v := s.nrgRow (if b.lane = 1 then .b else .a) b.inst b.row
  let w := fun (x : Nat) => [x % two32, x / two32 % two32, x / 2 ^ 64]
  (s.wr R.SEP_NRG_FAIL (b.inst + b.lane * 4096 + b.row * 16384)).wrs (R.SEP_NRG_VAL 0) (w v.1 ++ w v.2.1 ++ w v.2.2)
/-- The event record of a failing instance (Table 17-4). -/
def State.seepRecord (s : State) (b : SeepBad) : State :=
  s.event 0x40 (b.ledger + b.lane * 16) [b.inst + b.row * 65536, s.rd R.SEP_CHECKS, b.need % two32, b.found % two32]
/-- Step 4: every invariant is evaluated; violations act under R391 and R392. -/
def State.seepEvaluate (s : State) : State :=
  if !s.bit R.SEP_STATUS 4 || s.power == 3 then s
  else
    let t := s.sep.latch
    let bad := s.seepBad t
    let s := ((s.addWrap R.SEP_CHECKS 1).setB R.SEP_STATUS 4 false).wr R.SEP_LANE_SKIP s.sep.skip
    let s := s.onIf (!s.bit R.SEP_STATUS 1) (fun s => t.foldl (fun s e => s.wrC e.1 e.2) s)
    let s := (List.range 7).foldl (fun s n => s.onIf (bad.any (fun b => b.ledger == n)) (fun s => s.addSat (R.SEP_VIOL n) 1)) s
    let s := s.setB R.SEP_STATUS 2 (!bad.isEmpty)
    let s := match bad with
      | [] => s
      | b :: _ =>
        let s := s.setB R.SEP_EVENTS 0 true
        if s.bit R.SEP_STATUS 0 then s
        else
          let s := (s.setB R.SEP_STATUS 0 true).setB R.SEP_STATUS 1 true
          (s.wr R.SEP_FIRST (b.ledger + b.lane * 16 + b.row * 256 + b.inst * 65536)).wr R.SEP_FIRST_CHECK (s.rd R.SEP_CHECKS)
    let s := match bad.find? (fun b => b.ledger == 6) with
      | some b => s.onIf (!s.sep.nrgSeen) (fun s => ({ s with sep := { s.sep with nrgSeen := true } } : State).seepNrg b)
      | none => s
    let fresh := bad.filter (fun b => !s.sep.bad.contains b.key)
    let s := fresh.foldl (fun s b => s.seepRecord b) s
    let s : State := { s with sep := { s.sep with latch := [], bad := bad.map SeepBad.key } }
    s.onIf s.sep.late State.seepBegin
/-- Step 4 of a check (R389, R391). -/
def execSeepageEvaluate (s : State) : Host.Outcome State Fault Refusal := finish s s.seepEvaluate
/-- A whole check at once: the one before the module leaves low tide (R26, R390). -/
def State.seepCheck (s : State) : State := (s.seepBegin).seepEvaluate
/-- The check that is running when the fast clocks stop completes, and no other begins (R26, log entry 24). -/
def State.seepLast (s : State) : State := ({ s with sep := { s.sep with late := false } } : State).seepEvaluate
/-- SEP_CMD UNFREEZE (R392). -/
def State.seepUnfreeze (s : State) : State := s.setB R.SEP_STATUS 1 false
/-- SEP_CMD UNFREEZE. -/
def execUnfreeze (s : State) : Host.Outcome State Fault Refusal := finish s s.seepUnfreeze
/-- SEP_CMD CLEAR (R392). -/
def State.seepClear (s : State) : State := ((s.setB R.SEP_STATUS 0 false).wr R.SEP_FIRST 0).wr R.SEP_FIRST_CHECK 0
/-- SEP_CMD CLEAR. -/
def execSepClear (s : State) : Host.Outcome State Fault Refusal := finish s s.seepClear

end Sys2Proof.Machine
end

