-- ==== Sys2Proof/Machine/Verify.lean ====
section
/-! DEFINITION. The checks a block makes of its section beside the record rules: the programs of the fabric (R215, R235)
and the sections of ingest, sluice, loop engine, optimiser, cyclic engine, energy unit, acquisition and keys (R179, R191,
R245, R295, R296, R317, R336, R351, R405). Every check answers true where the section is good. -/
namespace Sys2Proof.Machine

/-! ### Operations (R215) -/

/-- The form of an operation (Tables 09-9 and 09-10): 0 R, 1 I, 2 L, 3 L2, 4 S, 5 B, 6 J, 7 P. -/
def opForm (c : Nat) : Nat :=
  if c = 0x02 ∨ c = 0x03 ∨ c = 0x04 then 6
  else if 0x06 ≤ c ∧ c ≤ 0x0B then 2
  else if c = 0x0C ∨ c = 0x0E ∨ c = 0x24 ∨ c = 0x2F then 1
  else if c = 0x37 ∨ c = 0x4A ∨ c = 0x53 then 3
  else if 0x38 ≤ c ∧ c ≤ 0x3E then 4
  else if 0x40 ≤ c ∧ c ≤ 0x44 then 5
  else if c = 0x49 ∨ c = 0x4B ∨ (0x4C ≤ c ∧ c ≤ 0x52) ∨ (0x54 ≤ c ∧ c ≤ 0x57) then 2
  else if 0x58 ≤ c then 7
  else 0
/-- The cycles of an operation with a payload (Table 09-10), a branch counted as taken. -/
def opCost (c p : Nat) : Nat :=
  let n := bitsOf p 22 14 + 1
  let N := bitsOf p 31 16
  match c with
  | 0x02 => 2 | 0x03 => 2 | 0x04 => 2 | 0x05 => 2 | 0x06 => 2
  | 0x07 => (N + 3) / 4 + 1
  | 0x15 => 12 | 0x16 => 12 | 0x1B => 3 | 0x1E => 10 | 0x1F => 12 | 0x22 => 2 | 0x23 => 2 | 0x37 => 3
  | 0x40 => n + 4 | 0x41 => 2 * n + 6 | 0x42 => n + 14 | 0x43 => n + 2 | 0x44 => 2
  | 0x45 => 14 | 0x46 => 3 | 0x47 => 16 | 0x48 => 8 | 0x49 => 3 | 0x4A => 6 | 0x4B => 3
  | 0x4C => N + 2 | 0x4D => N + 6 | 0x4E => 6 | 0x4F => 4
  | 0x50 => 2 | 0x51 => 2 | 0x52 => 2 | 0x53 => 24 | 0x54 => 2 | 0x55 => 2 | 0x56 => 2
  | 0x58 => 2 | 0x59 => 2 | 0x5A => 2 | 0x5B => 4 | 0x5C => 2 | 0x5D => 2 | 0x5E => 2 | 0x5F => 2
  | _ => 1
/-- The bits that the form leaves 0, and those of an immediate that the operation does not use, are 0 (item 4). -/
def opZero (c p : Nat) : Bool :=
  match opForm c with
  | 0 => if c = 0x0F then decide (p < 64) else p == 0
  | 1 => if c = 0x2F then decide (p < 2048) else if c = 0x0E then decide (p < 256) else true
  | 2 => bitsOf p 15 14 == 0
  | 3 => bitsOf p 15 14 == 0 && bitsOf p 31 30 == 0
  | 4 => bitsOf p 13 0 == 0 && bitsOf p 31 31 == 0
  | 5 => bitsOf p 31 31 == 0
  | 6 => bitsOf p 31 25 == 0
  | _ => bitsOf p 31 16 == 0
/-- Words from an address lie in the frame, or (where the operation only reads) in the resident area (Table 09-2). -/
def inStore (a n : Nat) (wr : Bool) : Bool :=
  decide (a < 0x1800 ∧ a + n ≤ 0x1800) || (!wr && decide (0x2000 ≤ a ∧ a < 0x3000 ∧ a + n ≤ 0x3000))
/-- The addresses an operation names (item 5). -/
def opAddrs (c p : Nat) : Bool :=
  let a := bitsOf p 13 0
  let N := bitsOf p 31 16
  let sa := bitsOf p 29 16
  let n := bitsOf p 22 14 + 1
  match c with
  | 0x06 => inStore a N false
  | 0x07 => inStore a N true
  | 0x08 => a % 4 == 0 && inStore a 4 false
  | 0x09 => a % 4 == 0 && inStore a 4 true
  | 0x0A => inStore a 1 false
  | 0x0B => inStore a 1 true
  | 0x37 => inStore a 1 false && inStore sa 4 true
  | 0x40 => inStore a n false
  | 0x41 => inStore a (2 * n) false
  | 0x44 => a == 0
  | 0x49 => inStore a (4 + 4 * N) true
  | 0x4A => inStore a 5 false && inStore sa 8 true
  | 0x4B => inStore a 4 true
  | 0x4C => inStore a (N + 1) false
  | 0x4D => inStore a (3 * N - 1) false
  | 0x4E => inStore a 12 false
  | 0x4F => inStore a 3 false
  | 0x53 => inStore a 7 false && inStore sa 4 true
  | 0x57 => inStore a 4 false
  | _ => if (0x50 ≤ c ∧ c ≤ 0x52) ∨ (0x54 ≤ c ∧ c ≤ 0x56) then inStore a 4 true else true
/-- The operation writes a mask register (Table 09-10). -/
def opMaskResult (c m : Nat) : Bool :=
  decide (0x30 ≤ c ∧ c ≤ 0x35) || (c == 0x36 && m % 8 != 4) || c == 0x37 || c == 0x3A || c == 0x4E || c == 0x4F ||
    decide (0x50 ≤ c ∧ c ≤ 0x55)
/-- Registers: no write of K0, no pair at register 63 (item 5). -/
def opRegs (c d a b m : Nat) : Bool :=
  (!opMaskResult c m || (decide (d < 8) && d != 0)) &&
  !((c == 0x1F || c == 0x41 || c == 0x45 || c == 0x46 || c == 0x47 || c == 0x48) && d == 63) &&
  !((c == 0x45 || c == 0x46 || c == 0x47 || c == 0x48 || c == 0x4E || c == 0x4F) && a == 63) &&
  !((c == 0x46 || c == 0x47) && b == 63)
/-- The M field and the counts (items 13 to 15). -/
def opFields (c m p : Nat) : Bool :=
  match c with
  | 0x02 => decide (m ≤ 3)
  | 0x03 => bitsOf p 15 0 != 0
  | 0x2F => decide (1 ≤ bitsOf p 10 5 ∧ bitsOf p 10 5 ≤ 32)
  | 0x30 => decide (m ≤ 6)
  | 0x31 => decide (m ≤ 6)
  | 0x36 => decide (m ≤ 4)
  | 0x49 => bitsOf p 31 16 != 0
  | 0x54 => decide (m ≤ 2)
  | 0x59 => m / 2 != 3
  | 0x5C => m / 2 != 3
  | 0x5E => m % 2 == 0 || m / 2 != 3
  | _ => true
/-- The kinds of input that an operation reads; an operation that reads none has the empty list (Table 09-10, item 17). -/
def opKinds (c : Nat) : List Nat :=
  if c = 0x38 ∨ c = 0x39 ∨ c = 0x3A ∨ (0x40 ≤ c ∧ c ≤ 0x44) then [1, 4]
  else if c = 0x3B then [2]
  else if c = 0x3C ∨ c = 0x3D then [3]
  else if c = 0x3E then [5]
  else []
/-- The input an operation names, its ages and channels (items 5, 7, 17). -/
def opInput (ins : List InEnt) (c p : Nat) : Bool :=
  if (opKinds c).isEmpty then true
  else match ins[bitsOf p 30 28]? with
  | none => false
  | some e =>
    (opKinds c).contains e.kind &&
    (if opForm c = 5 then
      decide (bitsOf p 27 23 < e.nch) && decide (bitsOf p 22 14 + 1 + b2n (c == 0x44) ≤ e.depth)
    else if e.kind = 1 ∨ e.kind = 4 then decide (bitsOf p 18 14 < e.nch) && decide (bitsOf p 27 19 < e.depth)
    else if e.kind = 2 then decide (bitsOf p 27 19 < e.depth)
    else if c = 0x3C then decide (bitsOf p 27 19 < 368)
    else true)
/-- The fields of an operation word: OP, D, A, B, M, payload (Table 09-8). -/
def opOf (w : Nat) : Nat := bitsOf w 63 56
def payOf (w : Nat) : Nat := bitsOf w 31 0
/-- One operation on its own. -/
def opGood (ins : List InEnt) (w : Nat) : Bool :=
  let c := opOf w
  let p := payOf w
  decide (c ≤ 0x5F) && opZero c p && opAddrs c p && opRegs c (bitsOf w 55 50) (bitsOf w 49 44) (bitsOf w 43 38) (bitsOf w 34 32) &&
    opFields c (bitsOf w 34 32) p && opInput ins c p

/-! ### Control flow (items 8 to 11, 16) -/

/-- The bodies of the LOOPs: first position and end. -/
def loopBodies (code : List Nat) : List (Nat × Nat) :=
  (code.zipIdx.filter (fun (o : Nat × Nat) => opOf o.1 == 3)).map (fun (o : Nat × Nat) => (o.2 + 1, o.2 + 1 + bitsOf (payOf o.1) 24 16))
/-- The positions that CALLs name. -/
def callEntries (code : List Nat) : List Nat :=
  ((code.filter (fun w => opOf w == 4)).map (fun w => bitsOf (payOf w) 15 0)).eraseDups
/-- A subroutine runs from its entry to the first RET after it. -/
def subEnd (code : List Nat) (e : Nat) : Nat :=
  match (code.drop e).findIdx? (fun w => opOf w == 5) with
  | some i => e + i + 1
  | none => code.length
/-- The end of the innermost loop body or subroutine around a position. -/
def regionEnd (code : List Nat) (pos : Nat) : Nat :=
  let bodies := loopBodies code ++ (callEntries code).map (fun e => (e, subEnd code e))
  (bodies.filter (fun (b : Nat × Nat) => decide (b.1 ≤ pos ∧ pos < b.2))).foldl (fun m (b : Nat × Nat) => min m b.2) code.length
/-- Depth of the CALLs below a stretch of code, up to the fuel. -/
def callDepth (code : List Nat) : Nat → Nat → Nat → Nat
  | 0, _, _ => 0
  | f + 1, a, b => ((span a (b - a)).filter (fun i => opOf (nth code i 0) == 4)).foldl (fun m i =>
      let e := bitsOf (payOf (nth code i 0)) 15 0
      max m (1 + callDepth code f e (subEnd code e))) 0
/-- Positions reached from a set without following CALLs (item 16). -/
def reachStep (code : List Nat) (r : List Nat) : List Nat :=
  (r ++ r.flatMap (fun i =>
    let w := nth code i 0
    match opOf w with
    | 1 => []
    | 5 => []
    | 2 => if bitsOf w 34 32 = 0 then [i + 1 + bitsOf (payOf w) 15 0] else [i + 1, i + 1 + bitsOf (payOf w) 15 0]
    | _ => [i + 1])).eraseDups.filter (fun i => decide (i < code.length))
/-- The control flow of a segment. -/
def flowGood (code : List Nat) : Bool :=
  let n := code.length
  let loops := loopBodies code
  let bra := code.zipIdx.all (fun (o : Nat × Nat) =>
    opOf o.1 != 2 || (let off := bitsOf (payOf o.1) 15 0
      decide (1 ≤ off ∧ off ≤ 511) && decide (o.2 + 1 + off ≤ regionEnd code o.2) && decide (o.2 + 1 + off < n) &&
      -- past its RET a branch has left the subroutine
      (callEntries code).all (fun e => !decide (e ≤ o.2 ∧ o.2 < subEnd code e) || decide (o.2 + 1 + off < subEnd code e))))
  let nest := loops.all (fun (b : Nat × Nat) => decide (b.2 ≤ n) &&
    decide ((loops.filter (fun (c : Nat × Nat) => c.1 ≤ b.1 - 1 && b.1 - 1 < c.2)).length ≤ 1))
  let calls := (callEntries code).all (fun e => decide (e < n)) && decide (callDepth code 6 0 n ≤ 4)
  let reach := iter (reachStep code) n [0]
  bra && nest && calls && (match code.getLast? with | some w => opOf w == 1 | none => false) &&
    !(reach.any (fun i => opOf (nth code i 0) == 5))
/-- The larger of two charges, either of which may not occur. -/
def omax (a b : Option Nat) : Option Nat :=
  match a, b with
  | some x, some y => some (max x y)
  | some x, none => some x
  | none, y => y
/-- The largest charges of the ways that leave a stretch of code: at its end, by RET, by END. -/
structure Ways where
  thru : Option Nat := none
  ret : Option Nat := none
  stop : Option Nat := none
/-- A charge in front of every way. -/
def Ways.after (w : Ways) (c : Nat) : Ways := { thru := w.thru.map (· + c), ret := w.ret.map (· + c), stop := w.stop.map (· + c) }
/-- The larger way of each kind. -/
def Ways.max (a b : Ways) : Ways := { thru := omax a.thru b.thru, ret := omax a.ret b.ret, stop := omax a.stop b.stop }
/-- A body that runs to its end n times, or leaves earlier, and what follows it. -/
def Ways.loop (body follow : Ways) (n : Nat) : Ways :=
  let cut : Ways := { ret := body.ret, stop := body.stop }
  match body.thru with
  | none => cut
  | some c => (cut.after ((n - 1) * c)).max (follow.after (n * c))
/-- A subroutine, and what follows its CALL. -/
def Ways.call (sub follow : Ways) : Ways :=
  let cut : Ways := { stop := sub.stop }
  match omax sub.thru sub.ret with
  | none => cut
  | some c => cut.max (follow.after c)
/-- The ways from each position out of its loop body, subroutine or segment, by those of the subroutines found before
(R215, R225). -/
def chargeFrom (code : List Nat) (sub : Nat → Ways) : Nat → List Ways
  | 0 => []
  | i + 1 =>
    let pos := code.length - (i + 1)
    let t := chargeFrom code sub i
    let e := regionEnd code pos
    let w := nth code pos 0
    let p := payOf w
    let at_ := fun (j : Nat) => if e ≤ j then ({ thru := some 0 } : Ways) else t.getD (j - pos - 1) {}
    let c := opCost (opOf w) p
    (match opOf w with
     | 1 => ({ stop := some 1 } : Ways)
     | 5 => { ret := some 2 }
     | 2 => (if bitsOf w 34 32 = 0 then ({} : Ways) else (at_ (pos + 1)).after 1).max ((at_ (pos + 1 + bitsOf p 15 0)).after 2)
     | 3 => (Ways.loop (if bitsOf p 24 16 = 0 then { thru := some 0 } else t.headD {}) (at_ (pos + 1 + bitsOf p 24 16)) (bitsOf p 15 0)).after 2
     | 4 => (Ways.call (sub (bitsOf p 15 0)) (at_ (pos + 1))).after 2
     | _ => (at_ (pos + 1)).after c) :: t
/-- The largest charge of a segment, 24 included. -/
def segCharge (code : List Nat) : Nat :=
  let go := fun (prev : List Ways) => chargeFrom code (fun e => prev.getD e {}) code.length
  let w := (iter go 5 []).headD {}
  24 + (omax w.stop (omax w.thru w.ret)).getD 0
/-- WCET of a program (R215). -/
def progWcet (prog : List Seg) : Nat := (prog.map (fun (g : Seg) => segCharge g.code)).sum

/-! ### Segments and VIs (R215, R235) -/

/-- Words of an input area (Table 09-7). -/
def State.entWords (s : State) (e : InEnt) : Nat :=
  match e.kind with
  | 1 => 2 * e.nch * e.depth
  | 2 => 2 * s.mcSub e.id * e.depth
  | 3 => 372
  | 4 => e.nch * e.depth
  | 5 => 32 * e.depth
  | _ => 0
/-- No two of the intervals overlap. -/
def disjoint : List (Nat × Nat) → Bool
  | [] => true
  | (a, n) :: t => t.all (fun (x : Nat × Nat) => n == 0 || x.2 == 0 || decide (a + n ≤ x.1) || decide (x.1 + x.2 ≤ a)) && disjoint t
/-- A segment's descriptor as it stands in lane memory: reserved bits, counts and regions (items 3, 4, 6, 7). -/
def State.descGood (s : State) (l : Lane) (a : Nat) : Bool :=
  let w := fun (i : Nat) => memLe (s.lane l).mem (a + 4 * i) 4
  let nin := bitsOf (w 1) 15 12
  let len := bitsOf (w 1) 9 0
  let g := segAt (s.lane l).mem a
  let area := fun (e : InEnt) => (e.addr, s.entWords e)
  bitsOf (w 0) 31 24 == 0 && bitsOf (w 1) 11 10 == 0 && bitsOf (w 1) 31 16 == 0 && bitsOf (w 3) 31 14 == 0 &&
  (span (4 + 2 * nin) (28 - 2 * nin)).all (fun i => w i == 0 || decide (i < 20)) && (span 20 12).all (fun i => w i == 0) &&
  (List.range nin).all (fun i => bitsOf (w (4 + 2 * i)) 31 30 == 0 && bitsOf (w (5 + 2 * i)) 31 21 == 0) &&
  decide (nin ≤ 8) && decide (1 ≤ len ∧ len ≤ 512) && bitsOf (w 0) 23 0 % 4 == 0 &&
  decide (bitsOf (w 0) 23 0 * 32 + 8 * len ≤ 0x20000000) && decide (g.len ≤ 6144) &&
  disjoint ((g.addr, g.len) :: g.ins.map area) && decide (g.addr + g.len ≤ 0x1800) &&
  g.ins.all (fun e => decide (e.kind ≤ 5) && decide (e.addr + s.entWords e ≤ 0x1800) && decide (e.depth ≤ 384) &&
    (match e.kind with
     | 1 => decide (e.id < 1024) && decide (e.first + e.nch ≤ s.svNch e.id)
     | 2 => decide (e.id < 24)
     | _ => true)) &&
  g.code.all (opGood g.ins) && flowGood g.code
/-- The bytes of an item's contents (Table 10-7). -/
def encLen (enc : Nat) : Nat := nth [1, 4, 5, 3, 4] enc 0
/-- The enabled templates. -/
def State.tplAll (s : State) : List Nat := (s.listed R.SLU_TPL0 4096).filter (fun t => s.bit (R.SLU_TPL0 t) 0)
/-- A template (R245). -/
def State.tplGood (s : State) (t : Nat) : Bool :=
  let n := s.fld (R.SLU_TPL2 t) 10 0
  let items := s.fld (R.SLU_TPL3 t) 31 20
  let map := s.fld (R.SLU_TPL3 t) 17 0
  let field := fun (o k : Nat) => decide (o + k ≤ n)
  decide (60 ≤ n ∧ n ≤ 1532) && decide (s.fld (R.SLU_TPL1 t) 17 0 + (n + 3) / 4 ≤ 262144) && decide (map + items ≤ 262144) &&
  (List.range items).all (fun i =>
    let e := s.rd (R.SLU_TPL_MEM (map + i))
    decide (bitsOf e 18 16 ≤ 4) && bitsOf e 31 19 == 0 && field (bitsOf e 15 0) (encLen (bitsOf e 18 16))) &&
  (s.fld (R.SLU_TPL0 t) 2 1 != 1 ||
    (field (s.fld (R.SLU_TPL4 t) 15 0) 5 && field (s.fld (R.SLU_TPL4 t) 31 16) 5 && field (s.fld (R.SLU_TPL5 t) 15 0) 8 &&
     field (s.fld (R.SLU_TPL5 t) 31 16) 5))
/-- A VI's configuration and program (items 1 to 11, 13 to 17). -/
def State.viGood (s : State) (l : Lane) (n : Nat) : Bool :=
  let c0 := s.rd (R.FAB_VI_CFG0 l n)
  let spec := bitsOf c0 2 1
  let tab := s.fld (R.FAB_VI_CFG2 l n) 23 0
  let words := bitsOf c0 31 16
  spec != 3 && (spec == 0 || s.viType n == 1) && decide (1 ≤ bitsOf c0 12 10 ∧ bitsOf c0 12 10 ≤ 4) &&
  s.fld (R.FAB_VI_CFG1 l n) 23 0 != 0 && tab % 4 == 0 && decide (tab * 32 + 128 * (bitsOf c0 9 6 + 1) ≤ 0x20000000) &&
  decide (s.fld (R.FAB_VI_CFG3 l n) 23 0 * 32 + 4 * words ≤ 0x10000000) &&
  (List.range (bitsOf c0 9 6 + 1)).all (fun j => s.descGood l (tab * 32 + 128 * j)) &&
  (s.viProg l n).all (fun (g : Seg) => decide (g.off + g.len ≤ words)) &&
  -- R235
  (spec == 0 || (s.viProg l n).all (fun (g : Seg) => g.ins.all (fun e =>
    e.kind != 2 && e.kind != 5 && (e.kind != 1 || (List.range e.nch).all (fun c => s.bit (R.ING_CH_FB_EN (s.svCh e.id (e.first + c))) 0))) &&
    s.tplAll.all (fun t => s.fld (R.SLU_TPL0 t) 15 4 != n || s.tplGood t)))
/-- The input entries of a program name no reserved KIND, whether or not the VI is enabled (R76, Table 09-6). -/
def State.kindsGood (s : State) (l : Lane) (n : Nat) : Bool :=
  (List.range (s.fld (R.FAB_VI_CFG0 l n) 9 6 + 1)).all (fun j =>
    let a := s.fld (R.FAB_VI_CFG2 l n) 23 0 * 32 + 128 * j
    (List.range (min 8 (bitsOf (memLe (s.lane l).mem (a + 4) 4) 15 12))).all (fun i =>
      decide (bitsOf (memLe (s.lane l).mem (a + 16 + 8 * i) 4) 3 0 ≤ 5)))
/-- The enabled VIs of the fabric. -/
def State.fabVis (s : State) (l : Lane) : List Nat := (s.listed (R.FAB_VI_CFG0 l) 4096).filter (fun n => s.fabEn l n)
/-- Repeatedly leave out nodes into which no edge of the rest leads; a cycle stays (item 12). -/
def pruneNodes (edges : List (Nat × Nat)) (ns : List Nat) : List Nat := ns.filter (fun n => edges.any (fun (e : Nat × Nat) => e.2 == n && ns.contains e.1))
/-- The FAB section (R215, R235). -/
def State.fabGood (s : State) (l : Lane) : Bool :=
  let vis := s.fabVis l
  let edges := vis.flatMap (fun v => (s.viProg l v).flatMap (fun (g : Seg) => (g.ins.filter (fun e => e.kind == 4)).map (fun e => (e.id, v))))
  vis.all (fun n => s.viGood l n) && (s.listed (R.FAB_VI_CFG2 l) 4096).all (fun n => s.kindsGood l n) && (iter (pruneNodes edges) vis.length vis).isEmpty
/-- FAB_VI_WCET of every VI (R215). -/
def State.wcetAll (s : State) (l : Lane) : State :=
  (List.range 4096).foldl (fun s n => s.wrC (R.FAB_VI_WCET l n) (if s.fabEn l n then min 16777215 (progWcet (s.viProg l n)) else 0)) s
/-- What a lane derives from the sections applied to it: the charges of the programs, the capacity, LOADED of its blocks. -/
def State.laneLoaded (s : State) (l : Lane) : State :=
  let s := (s.wcetAll l).wr (R.FAB_CAPACITY l) (s.capacity l)
  [R.FAB_STATUS l, R.LPE_STATUS l, R.CPE_STATUS l, R.NRG_STATUS l, R.REC_STATUS l].foldl (fun s k => s.setB k 16 true) s
/-- SP_TARGET of every slot takes SP_INIT, its value at a warm image reset (Table 12-5). -/
def State.targetInit (s : State) (l : Lane) : State :=
  (s.listed (fun L => R.LPE_SLOT_SP_INIT l L) 1024).foldl (fun s L => s.wr (R.LPE_SLOT_SP_TARGET l L) (s.rd (R.LPE_SLOT_SP_INIT l L))) s

/-! ### Ingest, keys (R179, R191, R405) -/

/-- No two entries of a list are equal. -/
def noDup : List Nat → Bool
  | [] => true
  | a :: t => !t.contains a && noDup t
/-- The weight of a rate (Table 08-1). -/
def svWeight (rate : Nat) : Nat := nth [255, 768, 5440, 0] rate 0
/-- Table 08-3. -/
def State.ratioGood (s : State) (rate l m : Nat) : Bool :=
  (if s.fs = 4800 then [(0, 1, 1), (1, 1, 3), (2, 1, 20)] else [(0, 3, 1), (1, 1, 1), (2, 3, 20)]).contains (rate, l, m)
/-- The sum of the weights of the enabled SV entries (ING_LOAD). -/
def State.ingLoad (s : State) : Nat := (s.svAll.map (fun i => svWeight (s.fld (R.ING_SV0 i) 17 16))).sum
/-- ING_LOAD after the section has been applied. -/
def State.ingLoaded (s : State) : State := s.wr R.ING_LOAD s.ingLoad
/-- A GMAC slot that a subscription may name (R405). -/
def gmacSlotOk (n : Nat) : Bool := decide (1 ≤ n ∧ n ≤ 0x0F) || (decide (0x10 ≤ n ∧ n ≤ 0x8F) && n % 2 == 0)
/-- The enabled GOOSE entries. -/
def State.goAll (s : State) : List Nat := (s.listed R.ING_GO0 4096).filter (fun g => s.bit (R.ING_GO0 g) 31)
/-- The ING section (R179, R191, R405). -/
def State.ingGood (s : State) : Bool :=
  decide (s.ingLoad ≤ 261120) &&
  s.svAll.all (fun i =>
    let w := s.rd (R.ING_SV0 i)
    bitsOf w 17 16 != 3 && decide (1 ≤ s.svNch i ∧ s.svNch i ≤ 32) && decide (s.svCh i 0 + s.svNch i ≤ 16384) &&
    decide (s.fld (R.ING_SV5 i) 14 0 + s.svL i * s.svT i ≤ 32768) &&
    s.ratioGood (bitsOf w 17 16) (s.fld (R.ING_SV4 i) 17 16) (s.fld (R.ING_SV4 i) 22 18) &&
    bitsOf w 29 28 != 3 && (!w.testBit 27 || gmacSlotOk (s.fld (R.ING_SV2 i) 15 8))) &&
  noDup (s.svAll.map (fun i => s.fld (R.ING_SV0 i) 15 0 + 65536 * (s.fld (R.ING_SV2 i) 5 0 + 64 * s.rd (R.ING_SV1 i)))) &&
  noDup (s.goAll.map (fun g => s.fld (R.ING_GO0 g) 15 0 + 65536 * (s.fld (R.ING_GO2 g) 7 0 + 256 * s.rd (R.ING_GO1 g)))) &&
  s.goAll.all (fun g => !s.bit (R.ING_GO0 g) 18 || gmacSlotOk (s.fld (R.ING_GO0 g) 26 19)) &&
  (List.range 6).all (fun g => !s.bit (R.ING_MCLK_CFG g) 31 ||
    (let f := s.fs * s.fld (R.ING_MCLK_CFG g) 11 0
     decide (5000000 ≤ f ∧ f ≤ 20000000))) &&
  (List.range 24).all (fun m => !s.bit (R.MC_CFG m) 31 ||
    (s.bit (R.ING_MCLK_CFG (m / 4)) 31 && s.mcMult m % (s.mcR m * s.mcCd m) == 0 && decide (s.mcSub m ≤ 16)))

/-! ### Sluice (R245) -/

/-- The SLU section (R245). -/
def State.sluGood (s : State) : Bool :=
  let ts := s.tplAll
  ts.all (fun t => s.tplGood t) &&
  -- no item map holds a reserved ENC, whether or not its template is enabled (R76, Table 10-7)
  (s.listed R.SLU_TPL3 4096).all (fun t => (List.range (s.fld (R.SLU_TPL3 t) 31 20)).all (fun i =>
    decide (s.fld (R.SLU_TPL_MEM (s.fld (R.SLU_TPL3 t) 17 0 + i)) 18 16 ≤ 4))) && noDup (ts.map (fun t => s.fld (R.SLU_TPL0 t) 19 4)) &&
  decide ((ts.map (fun t => s.fld (R.SLU_TPL2 t) 10 0 * (3 + 2 * s.fld (R.FAB_VI_CFG0 .a (s.fld (R.SLU_TPL0 t) 15 4)) 2 1))).sum ≤ 25165824)

/-! ### Loop engine and optimiser (R295, R296) -/

/-- A positive, finite value. -/
def Fmt.posFin (f : Fmt) (x : Nat) : Bool := f.finite x && f.lt 0 x
/-- The VI of an enabled cyclic task. -/
def State.cyclicVi (s : State) (l : Lane) (v : Nat) : Bool := (s.tasksOn l).any (fun t => s.taskVi l t == v)
def State.slotGood (s : State) (l : Lane) (L : Nat) : Bool :=
  let w0 := s.rd (R.LPE_SLOT0 l L)
  let P := s.fld (R.LPE_SLOT_PERIOD l L) 19 0
  let mo := s.fld (R.LPE_SLOT_PERIOD l L) 22 20
  let pv := s.rd (R.LPE_SLOT_PV l L)
  let id := bitsOf pv 15 4
  let sub := bitsOf pv 31 16
  let lo := s.s16 (R.LPE_SLOT_OUT_LIM l L) 15 0
  let hi := s.s16 (R.LPE_SLOT_OUT_LIM l L) 31 16
  let io := s.s16 (R.LPE_SLOT_OUT_SAFE l L) 15 0
  let so := s.s16 (R.LPE_SLOT_OUT_SAFE l L) 31 16
  let tgt := s.fld (R.LPE_SLOT_TGT l L) 12 0
  let dst := s.fld (R.LPE_SLOT_DST l L) 1 0
  let owner := bitsOf w0 15 4
  let dvi := s.fld (R.LPE_SLOT_DSTVI l L) 11 0
  (if s.fs = 4800 then decide (1 ≤ P ∧ P ≤ 288000) else decide (2 ≤ P ∧ P ≤ 864000)) &&
  decide (s.fld (R.LPE_SLOT_PHASE l L) 19 0 < P) && decide (1 ≤ mo ∧ mo ≤ 4) && s.viType owner == 2 &&
  (match bitsOf pv 3 0 with
   | 0 => s.fabEn l id && s.viType id != 3 && s.viType id != 0
   | 1 => decide (id < 1024) && s.svEn id && decide (sub < s.svNch id)
   | 2 => decide (id < L) && s.slotEn l id
   | 3 => s.cyclicVi l id
   | _ => false) &&
  (match bitsOf w0 25 24 with
   | 0 => true
   | 1 => decide (tgt < s.optN l) && s.bit (R.OPT_CFG l) 0
   | 2 => decide (tgt < L) && s.slotEn l tgt
   | _ => false) &&
  (!w0.testBit 28 || (List.range 3).all (fun i => f64.posFin (s.rd64 (R.LPE_SLOT_PROF l L (2 * i))))) &&
  (List.range 3).all (fun i => decide (s.fld (R.LPE_SLOT_K l L i) 19 16 ≤ 8)) &&
  decide (lo ≤ hi) && decide (lo ≤ io ∧ io ≤ hi) && decide (lo ≤ so ∧ so ≤ hi) &&
  (match dst with
   | 1 => (s.tplOf owner (s.fld (R.LPE_SLOT_DST l L) 5 2)).isSome
   | 2 => s.cyclicVi l dvi && (match s.taskOfVi l dvi with
      | some t => decide (s.fld (R.LPE_SLOT_DSTVI l L) 31 16 < s.fld (R.CPE_TASK4 l t) 31 16)
      | none => false)
   | _ => true) && bitsOf w0 27 26 != 3 && dst != 3
/-- An override group (R278, R295). -/
def State.groupGood (s : State) (l : Lane) (g : Nat) : Bool :=
  let ms := s.groupSlots l g
  ms.isEmpty || (
    let o := s.fld (R.LPE_GROUP l g) 10 1
    decide (ms.length ≤ 8) && ms.contains o && s.bit (R.LPE_GROUP l g) 0 &&
    ms.all (fun m => s.slotOwner l m == s.slotOwner l o && s.rd (R.LPE_SLOT_PERIOD l m) == s.rd (R.LPE_SLOT_PERIOD l o) &&
      s.rd (R.LPE_SLOT_PHASE l m) == s.rd (R.LPE_SLOT_PHASE l o) &&
      (m == o || (s.fld (R.LPE_SLOT_DST l m) 1 0 == 0 && s.fld (R.LPE_SLOT0 l m) 27 26 != 2))))
/-- The LPE section (R295). -/
def State.lpeGood (s : State) (l : Lane) : Bool :=
  (s.slotsOn l).all (fun L => s.slotGood l L) && (List.range 128).all (fun g => s.groupGood l g) &&
  (List.range 16).all (fun c => !s.bit (R.LPE_TR0 l c) 0 || (s.slotEn l (s.fld (R.LPE_TR0 l c) 11 2) && decide (s.fld (R.LPE_TR0 l c) 15 12 < 12)))
/-- A strictly rising list. -/
def rising : List Nat → Bool
  | a :: b :: t => decide (a < b) && rising (b :: t)
  | _ => true
/-- A matrix compressed by column: starts at 0, ends at its non-zeros, rows rising and below a bound. -/
def compressed (col row : List Nat) (nnz bound : Nat) : Bool :=
  nth col 0 1 == 0 && col.getLast? == some nnz && (List.range (col.length - 1)).all (fun j =>
    decide (nth col j 0 ≤ nth col (j + 1) 0) && rising ((colOf col row j).map (·.2)) &&
    (colOf col row j).all (fun (e : Nat × Nat) => decide (e.2 < bound)))
/-- Rows of the factor's columns by elimination: the structure of each column joins that of its parent (R283). -/
def fillRows (o : OptModel) : Nat → List (List Nat)
  | 0 => []
  | j + 1 =>
    let prev := fillRows o j
    let own := (List.range (o.n + o.m)).filter (fun i => decide (j < i) && o.kkt i j != 0)
    let kids := prev.filter (fun r => (r.foldl min (o.n + o.m)) == j)
    prev ++ [(own ++ kids.flatMap (fun r => r.filter (fun i => decide (j < i)))).eraseDups]
/-- The OPT section (R296); the factor's sign test stands apart (R284). -/
def State.optGood (s : State) (l : Lane) : Bool :=
  !s.bit (R.OPT_CFG l) 0 || s.optN l == 0 || (
    let o := s.optModel l
    let sz := [o.n + 1, o.prow.length, o.prow.length, o.n + 1, o.arow.length, o.arow.length, o.m, o.n, o.m, o.n, o.m, o.m, o.n + o.m,
               o.n + o.m + 1, o.lrow.length]
    decide (1 ≤ o.n ∧ o.n ≤ 8192 ∧ 1 ≤ o.m ∧ o.m ≤ 16384 ∧ o.prow.length + o.arow.length ≤ 262144 ∧ o.lrow.length ≤ 524288) &&
    sz.zipIdx.all (fun (e : Nat × Nat) => decide (s.rd (R.OPT_PTR l e.2) + 4 * e.1 ≤ 0x4000000)) &&
    compressed o.pcol o.prow o.prow.length o.n && (List.range o.n).all (fun j => (colOf o.pcol o.prow j).all (fun (e : Nat × Nat) => decide (e.2 ≤ j)) &&
      (colOf o.pcol o.prow j).any (fun (e : Nat × Nat) => e.2 == j)) &&
    compressed o.acol o.arow o.arow.length o.m && compressed o.lcol o.lrow o.lrow.length (o.n + o.m) &&
    noDup o.perm && o.perm.all (fun i => decide (i < o.n + o.m)) &&
    (fillRows o (o.n + o.m)).zipIdx.all (fun (r : List Nat × Nat) => r.1.all (fun i => (o.lcolOf r.2).any (fun (e : Nat × Nat) => e.2 == i))) &&
    f32.posFin o.sigma && f32.posFin o.c && o.rho.all f32.posFin && o.dsc.all f32.posFin && o.esc.all f32.posFin &&
    f32.lt 0 o.alpha && f32.lt o.alpha 0x40000000 &&
    !f32.lt o.epsAbs 0 && !f32.lt o.epsRel 0 && !f32.lt o.epsInf 0) &&
  (s.fld (R.OPT_TIMER l) 27 0 == 0 || decide (s.fs ≤ s.fld (R.OPT_TIMER l) 27 0))
/-- The factor of the model passes its sign test (R284), or there is no model. -/
def State.optFactorGood (s : State) (l : Lane) : Bool :=
  !s.bit (R.OPT_CFG l) 0 || s.optN l == 0 || (s.optModel l).factorOk (s.optModel l).factorise

/-! ### Cyclic engine, energy, acquisition (R317, R336, R351) -/

def State.staAll (s : State) (l : Lane) : List Nat := (s.listed (R.CPE_STA0 l) 1024).filter (fun i => s.bit (R.CPE_STA0 l i) 0)
/-- The VI and TPRIO of every enabled cyclic and event task. -/
def State.taskKeys (s : State) (l : Lane) : List (Nat × Nat) :=
  (s.tasksOn l).map (fun t => (s.taskVi l t, s.taskPrio l t)) ++
    (s.evtOn l).map (fun e => (s.fld (R.CPE_EV0 l e) 15 4, s.fld (R.CPE_EV0 l e) 22 16))
def State.taskGood (s : State) (l : Lane) (t : Nat) : Bool :=
  let P := s.fld (R.CPE_TASK_PERIOD l t) 17 0
  let din := s.fld (R.CPE_TASK6 l t) 15 8
  let v := s.taskVi l t
  let words := s.fld (R.FAB_VI_CFG0 l v) 31 16
  let stas := s.staOn l t
  let nseg := s.fld (R.CPE_TASK6 l t) 4 1 + 1
  let base := s.taskIn l t
  let areas := stas.map (fun i => (base + s.fld (R.CPE_STA2 l i) 15 0, s.fld (R.CPE_STA2 l i) 31 16)) ++
    stas.map (fun i => (base + s.fld (R.CPE_STA3 l i) 31 16, 1))
  (if s.fs = 4800 then decide (3 ≤ P ∧ P ≤ 48000) else decide (8 ≤ P ∧ P ≤ 144000)) &&
  decide (s.fld (R.CPE_TASK_PHASE l t) 17 0 < P) && (!s.taskBus l t || decide (1 ≤ din ∧ din ≤ P - 1)) &&
  decide (base + s.fld (R.CPE_TASK4 l t) 15 0 ≤ words) && decide (s.taskOut l t + s.fld (R.CPE_TASK4 l t) 31 16 ≤ words) &&
  decide (s.fld (R.CPE_TASK5 l t) 15 0 + s.fld (R.CPE_TASK5 l t) 31 16 ≤ words) &&
  areas.all (fun (a : Nat × Nat) => decide (a.1 + a.2 ≤ words)) && disjoint areas &&
  (!s.taskBus l t || (List.range nseg).all (fun g =>
    match s.tplOf v g with
    | some tp => s.fld (R.SLU_TPL0 tp) 2 1 == 2 &&
        decide (14 + 16 + ((stas.filter (fun i => s.fld (R.CPE_STA0 l i) 9 6 == g)).map (fun i => 4 + 4 * s.fld (R.CPE_STA1 l i) 31 16)).sum ≤ s.fld (R.SLU_TPL2 tp) 10 0)
    | none => false)) &&
  stas.all (fun i => decide (s.fld (R.CPE_STA0 l i) 9 6 < nseg) && decide (s.fld (R.CPE_STA1 l i) 31 16 ≤ 256) && decide (s.fld (R.CPE_STA2 l i) 31 16 ≤ 256)) &&
  noDup (stas.map (fun i => s.fld (R.CPE_STA0 l i) 31 16)) &&
  (s.slotsOn l).all (fun L => s.fld (R.LPE_SLOT_DST l L) 1 0 != 2 || s.fld (R.LPE_SLOT_DSTVI l L) 11 0 != v ||
    (let w := s.taskOut l t + s.fld (R.LPE_SLOT_DSTVI l L) 31 16
     (s.viProg l v).all (fun (g : Seg) => decide (w < g.off) || decide (g.off + g.len ≤ w))))
/-- The CPE section (R317). -/
def State.cpeGood (s : State) (l : Lane) : Bool :=
  let ks := s.taskKeys l
  ks.all (fun (k : Nat × Nat) => s.viType k.1 == 3) && noDup (ks.map (·.1)) && noDup (ks.map (·.2)) &&
  ks.all (fun (a : Nat × Nat) => ks.all (fun (b : Nat × Nat) => decide (a.2 ≤ b.2) ||
    decide (s.fld (R.FAB_VI_CFG0 l b.1) 5 3 ≤ s.fld (R.FAB_VI_CFG0 l a.1) 5 3))) &&
  (s.tasksOn l).all (fun t => s.taskGood l t) && (s.evtOn l).all (fun e => decide (s.fld (R.CPE_EV0 l e) 30 28 ≤ 4)) &&
  decide ((s.staAll l).length ≤ 1024) && decide (((s.tasksOn l).map (fun t => s.fld (R.CPE_TASK5 l t) 31 16)).sum ≤ 16384) &&
  (s.staAll l).all (fun i => (s.tasksOn l).contains (s.fld (R.CPE_STA0 l i) 5 1) && s.taskBus l (s.fld (R.CPE_STA0 l i) 5 1))
/-- An enabled channel of a metering point. -/
def State.srcGood (s : State) (mod : Bool) (c : Nat) : Bool :=
  if mod then decide (c % 32 < 24) && s.bit (R.MC_CFG (c % 32)) 31 else s.svEn (c % 1024) && decide (bitsOf c 14 10 < s.svNch (c % 1024))
def State.ptGood (s : State) (l : Lane) (e : Nat) : Bool :=
  let mod := s.ptMod l e
  let srcs := (List.range (2 * s.ptElems l e)).map (fun c => s.ptSrc l e c)
  let thd := s.fld (R.NRG_PT5 l e) 15 8
  s.fld (R.NRG_PT0 l e) 2 1 != 0 && srcs.all (fun c => s.srcGood mod c) &&
  (!mod || srcs.all (fun c => s.mcSub (c % 32) == s.mcSub (nth srcs 0 0 % 32))) &&
  s.viType (s.fld (R.NRG_PT0 l e) 27 16) == 4 && f32.posFin (s.rd (R.NRG_PT_SMAX l e)) && thd != 1
/-- The NRG section (R336). -/
def State.nrgGood (s : State) (l : Lane) : Bool :=
  let ps := (s.listed (R.NRG_PT0 l) 2048).filter (fun e => s.bit (R.NRG_PT0 l e) 0)
  let iv := s.fld (R.NRG_SAVE_INT l) 19 0
  ps.all (fun e => s.ptGood l e) &&
  noDup ((ps.filter (fun e => s.bit (R.NRG_PT0 l e) 5)).map (fun e => s.fld (R.NRG_PT0 l e) 11 6)) &&
  decide (s.fs / 4 ≤ iv ∧ iv ≤ 60 * s.fs) && decide (60 ≤ s.fld (R.NRG_CFG l) 31 16)
def State.unitGood (s : State) (l : Lane) (u : Nat) : Bool :=
  let d := s.unitDef l u
  let owner := s.fld (R.REC_UNIT0 l u) 23 12
  decide (d.aw ≤ 2048) && decide (d.bch.length ≤ 4096) && decide (d.pre ≤ 10 * s.fs) && decide (d.post ≤ 60 * s.fs) && decide (d.maxpost ≤ 60 * s.fs) &&
  decide (d.post ≤ d.maxpost) && decide (s.fld (R.REC_UNIT_A l u) 13 0 + s.fld (R.REC_UNIT_A l u) 29 16 ≤ 16384) &&
  decide (s.fld (R.REC_UNIT_B l u) 14 0 + s.fld (R.REC_UNIT_B l u) 28 16 ≤ 32768) &&
  decide (s.fld (R.REC_UNIT_M l u) 7 0 + s.fld (R.REC_UNIT_M l u) 12 8 ≤ 256) &&
  decide ((s.fld (R.REC_UNIT0 l u) 7 5 + 1) * d.blocks (d.pre + d.maxpost + 1) ≤ 32768) && s.viType owner != 0 &&
  d.masks.all (fun m => !(nth m 0 0).testBit 22 || decide (bitsOf (nth m 3 0) 24 16 ≤ 256 ∧ bitsOf (nth m 3 0) 13 0 + bitsOf (nth m 3 0) 24 16 ≤ 16384))
/-- The REC section (R351). -/
def State.recGood (s : State) (l : Lane) : Bool := ((List.range 16).filter (fun u => s.unitEn l u)).all (fun u => s.unitGood l u)

/-- The checks of the block that a section type names (Table 03-5). -/
def State.blockGood (s : State) (typ : Nat) : Bool :=
  match typ with
  | 0x23 => s.ingGood
  | 0x24 => s.sluGood
  | 0x30 => s.fabGood .a
  | 0x32 => s.lpeGood .a
  | 0x33 => s.optGood .a
  | 0x34 => s.cpeGood .a
  | 0x35 => s.nrgGood .a
  | 0x36 => s.recGood .a
  | _ => true

end Sys2Proof.Machine
end

