-- ==== Sys2Proof/Machine/Image.lean ====
section
/-! DEFINITION. The image container (03_startup_and_images.md, R72 to R79): header, directory, sections, records, slice
digests and fingerprint; the application of records to the registers and to lane memory. -/
namespace Sys2Proof.Machine

/-! ### Bytes of a bank -/

def State.bank (s : State) : Bank → List Host.Cell
  | .a => s.ldr.bankA
  | .b => s.ldr.bankB
/-- A byte of a bank; an erased byte reads 0xFF. -/
def bankByte (c : List Host.Cell) (o : Nat) : Byte := cellGet (fun _ => 255#8) c o
def bankBytes (c : List Host.Cell) (o n : Nat) : Bytes := (List.range n).map (fun i => bankByte c (o + i))
def bankWord (c : List Host.Cell) (o : Nat) : Nat := leNat (bankBytes c o 4)
def bankWords (c : List Host.Cell) (o n : Nat) : List Nat := (List.range n).map (fun i => bankWord c (o + 4 * i))
/-- The words of a digest or fingerprint as registers hold them: byte 4k in bits [7:0] of word k. -/
def digestWords (b : Bytes) : List Nat := (List.range 8).map (fun i => leNat (sliceB b (4 * i) 4))

/-! ### Header and directory (R72 to R74) -/

/-- The directory entries: TYPE, OFFSET, LENGTH, FLAGS, DIGEST (Table 03-4). -/
structure DirEnt where
  typ : Nat
  off : Nat
  len : Nat
  flags : Nat
  digest : Bytes
def dirEnts (c : List Host.Cell) : List DirEnt :=
  let d := bankWord c 0x18
  (List.range (bankWord c 0x14)).map (fun i =>
    let o := d + 48 * i
    { typ := bankWord c o, off := bankWord c (o + 4), len := bankWord c (o + 8), flags := bankWord c (o + 12), digest := bankBytes c (o + 16) 32 })
/-- KEY_SLOT of a header (R73): 0 where it is accepted, or the code of Table 03-12. -/
def State.keySlotCheck (s : State) (c : List Host.Cell) : Nat :=
  let k := bankWord c 0x28
  if k = 0xFF then (if s.anyImageKey then 7 else 0)
  else match s.imageKey k with
  | none => 5
  | some (x, y) => if ecdsaVerify x y (sha256 (bankBytes c 0 0xC0)) (bankBytes c 0xC0 64) then 0 else 6
/-- The header checks in their order (R73): 0, or the code of the first that fails. -/
def State.headerCheck (s : State) (c : List Host.Cell) : Nat :=
  let n := bankWord c 0x10
  let cnt := bankWord c 0x14
  let d := bankWord c 0x18
  if bankWord c 0 ≠ 0x524E4C53 ∨ bankWord c 4 ≠ 0x30000 then 1
  else if bankWord c 8 ≠ 0x4896 then 2
  else if s.rd R.IDN_REVISION < bankWord c 0xC then 3
  else if n % 4 ≠ 0 ∨ 0x8000000 < n ∨ cnt = 0 ∨ 32 < cnt ∨ d < 0x100 ∨ d % 4 ≠ 0 ∨ n < d + 48 * cnt ∨
      bankWord c 0x24 / 65536 ≠ 0 ∨ bankWord c 0x28 / 256 ≠ 0 ∨ (bankBytes c 0x90 48).any (fun b => b != 0#8) then 4
  else match s.keySlotCheck c with
  | 0 => if sha256 (bankBytes c d (48 * cnt)) = bankBytes c 0x30 32 then 0 else 8
  | e => e
/-- The sections lie in ascending order without overlap between the directory and the end of the image (R74). -/
def dirOrder (stop : Nat) : Nat → List DirEnt → Bool
  | _, [] => true
  | from_, e :: t => decide (from_ ≤ e.off) && decide (e.off + e.len ≤ stop) && dirOrder stop (e.off + e.len) t
def dirGood (c : List Host.Cell) : Bool :=
  let es := dirEnts c
  dirOrder (bankWord c 0x10) (bankWord c 0x18 + 48 * es.length) es && noDup (es.map (·.typ)) &&
    es.all (fun e => decide (e.typ < 65536) && e.flags == 0 && e.off % 4 == 0 && e.len % 4 == 0 && e.len != 0)

/-! ### Records (R75, R76) -/

/-- The block of a section type: first offset and the offset after its last (Tables 03-5 and 00-4). -/
def secBlock (typ : Nat) : Option (Nat × Nat) :=
  match typ with
  | 0x10 => some (0x100000, 0x200000)
  | 0x11 => some (0x300000, 0x400000)
  | 0x12 => some (0x400000, 0x500000)
  | 0x13 => some (0x500000, 0x600000)
  | 0x14 => some (0x600000, 0x700000)
  | 0x15 => some (0x700000, 0x1000000)
  | 0x16 => some (0x4C00000, 0x5000000)
  | 0x17 => some (0x5000000, 0x8000000)
  | 0x20 => some (0x1000000, 0x1400000)
  | 0x21 => some (0x1400000, 0x1800000)
  | 0x22 => some (0x1800000, 0x1C00000)
  | 0x23 => some (0x1C00000, 0x2000000)
  | 0x24 => some (0x2400000, 0x2800000)
  | 0x30 => some (0x2000000, 0x2200000)
  | 0x31 => some (0x2800000, 0x2A00000)
  | 0x32 => some (0x3000000, 0x3200000)
  | 0x33 => some (0x3400000, 0x3600000)
  | 0x34 => some (0x3800000, 0x3A00000)
  | 0x35 => some (0x4000000, 0x4200000)
  | 0x36 => some (0x4800000, 0x4A00000)
  | _ => none
/-- Types 0x30 to 0x36 are the lane-resident sections. -/
def secLane (typ : Nat) : Bool := decide (0x30 ≤ typ ∧ typ ≤ 0x36)
/-- The memory that the MEM records of a section may write (R212, R283). -/
def secMem (typ a n : Nat) : Bool :=
  if typ = 0x30 then decide (a + n ≤ 0x30000000)
  else if typ = 0x33 then decide (0x60000000 ≤ a ∧ a + n ≤ 0x64000000)
  else false
/-- A word loads a code that an enumeration marks as reserved (R76). -/
def imgReserved (k v : Nat) : Bool :=
  match rowAt k with
  | none => false
  | some r =>
    if r.base = R.VIR_VI 0 then decide (6 ≤ bitsOf v 2 0)
    else if r.base = R.PRT_MODE 0 then bitsOf v 9 8 == 3
    else if r.base = R.LPE_SLOT0 .a 0 then bitsOf v 25 24 == 3 || bitsOf v 27 26 == 3
    else if r.base = R.LPE_SLOT_PV .a 0 then decide (4 ≤ bitsOf v 3 0)
    else if r.base = R.LPE_SLOT_DST .a 0 then bitsOf v 1 0 == 3
    else if r.base = R.LPE_TR0 .a 0 then decide (12 ≤ bitsOf v 15 12)
    else false
/-- A data word for an offset is legal. -/
def wordGood (k v : Nat) : Bool := (v &&& imgMask k) == v && !imgReserved k v
/-- The records of a section's words; none where a KIND is unknown or the records do not fill it exactly. -/
def parseRecs : Nat → List Nat → Option (List ImgRec)
  | _, [] => some []
  | 0, _ => none
  | f + 1, h :: t =>
    match bitsOf h 31 28, t with
    | 1, n :: d => if n = 0 ∨ 65536 < n ∨ d.length < n then none else (parseRecs f (d.drop n)).map (fun r => .reg (h % 2 ^ 28) (d.take n) :: r)
    | 2, n :: v :: d => if n = 0 ∨ 65536 < n then none else (parseRecs f d).map (fun r => .fill (h % 2 ^ 28) n v :: r)
    | 3, n :: lo :: hi :: d =>
      if n = 0 ∨ 16777216 < n ∨ d.length < n ∨ h % 2 ^ 28 ≠ 0 then none
      else (parseRecs f (d.drop n)).map (fun r => .mem (lo + hi * 4294967296) (d.take n) :: r)
    | _, _ => none
/-- A record is legal in a section of a type (R76). -/
def recGood (typ : Nat) (r : ImgRec) : Bool :=
  match secBlock typ with
  | none => false
  | some (lo, hi) =>
    match r with
    | .reg t d => t % 4 == 0 && decide (lo ≤ t) && decide (t + 4 * d.length ≤ hi) && d.zipIdx.all (fun (w : Nat × Nat) => wordGood (t + 4 * w.2) w.1)
    | .fill t n v => t % 4 == 0 && decide (lo ≤ t) && decide (t + 4 * n ≤ hi) && (List.range n).all (fun i => wordGood (t + 4 * i) v)
    | .mem a d => a % 4 == 0 && secMem typ a (4 * d.length)
/-- What reading a bank gives: an image, or the code of Table 03-12 with the section index. -/
inductive ImgRes where
  | ok (i : Image)
  | err (code sec : Nat)
/-- The sections in directory order: each is read, its records judged where asked, its digest checked (R67 step 4). -/
def readSecs (c : List Host.Cell) (recs : Bool) (i : Nat) : List DirEnt → List ImgSection → Sum (Nat × Nat) (List ImgSection)
  | [], acc => .inr acc.reverse
  | e :: t, acc =>
    if (secBlock e.typ).isNone then .inl (0x0A, i)
    else
      let ws := bankWords c e.off (e.len / 4)
      match (if recs then parseRecs (ws.length + 1) ws else some []) with
      | none => .inl (0x0B, i)
      | some rs =>
        if !rs.all (recGood e.typ) then .inl (0x0B, i)
        else if sha256 (bankBytes c e.off e.len) ≠ e.digest then .inl (9, i)
        else readSecs c recs (i + 1) t ({ typ := e.typ, digest := e.digest, recs := rs } :: acc)
/-- Steps 2 to 4 of Table 03-1 on a bank (`recs`), or the checks of VERIFY up to the section digests (R77). -/
def State.readImage (s : State) (b : Bank) (recs : Bool) : ImgRes :=
  let c := s.bank b
  match s.headerCheck c with
  | 0 =>
    if !dirGood c then .err 4 0
    else match readSecs c recs 0 (dirEnts c) [] with
    | .inl e => .err e.1 e.2
    | .inr ss => .ok { serial := bankWord c 0x1C, keySlot := bankWord c 0x28 % 256, fp := bankBytes c 0x50 32, sections := ss }
  | e => .err e 0

/-! ### The fingerprint (R79) -/

def fpPairs : List Bytes → List Bytes
  | a :: b :: t => sha256 (1#8 :: (a ++ b)) :: fpPairs t
  | l => l
/-- The Merkle root of the section digests in directory order. -/
def fpRoot (l : List (Nat × Bytes)) : Bytes :=
  let leaves := l.map (fun (e : Nat × Bytes) => sha256 (0#8 :: (leBytes 2 e.1 ++ e.2)))
  (iter fpPairs leaves.length leaves).headD []
def Image.root (i : Image) : Bytes := fpRoot (i.sections.map (fun s => (s.typ, s.digest)))

/-! ### Applying records (R10, R71, R76) -/

/-- The IMG and RWL fields of a register take a data word. -/
def State.loadWord (s : State) (k v : Nat) : State :=
  let m := imgMask k
  if m = 0 then s else s.wr k (s.rd k - (s.rd k &&& m) + (v &&& m))
/-- Lane memory takes words. -/
def memWords (m : List Host.Cell) (a : Nat) (ws : List Nat) : List Host.Cell :=
  ((wordsBytes ws).zipIdx).foldl (fun m (b : Byte × Nat) => cellPut m (a + b.2) b.1) m
/-- A record is applied; `off` is 0, or the offset of the lane B view. -/
def State.loadRec (s : State) (l : Lane) (off : Nat) (r : ImgRec) : State :=
  match r with
  | .reg t d => d.zipIdx.foldl (fun s (w : Nat × Nat) => s.loadWord (t + off + 4 * w.2) w.1) s
  | .fill t n v => (List.range n).foldl (fun s i => s.loadWord (t + off + 4 * i) v) s
  | .mem a d => s.modLane l (fun x => { x with mem := memWords x.mem a d })
/-- A section is applied to the module, or, where it is lane-resident, to the lanes named. -/
def State.loadSec (s : State) (io : Bool) (ls : List Lane) (e : ImgSection) : State :=
  if secLane e.typ then ls.foldl (fun s l => e.recs.foldl (fun s r => s.loadRec l (laneOff l) r) s) s
  else if io then e.recs.foldl (fun s r => s.loadRec .a 0 r) s
  else s
/-- Every section of an image is applied in directory order. -/
def State.loadImage (s : State) (io : Bool) (ls : List Lane) (i : Image) : State := i.sections.foldl (fun s e => s.loadSec io ls e) s
/-- The IMG fields of a register return to their reset values. -/
def imgClearWord (k v : Nat) : Nat :=
  match rowAt k with
  | none => v
  | some r => (r.flds.filter (fun f => f.acc == .img)).foldl (fun v f => putBits v f.hi f.lo f.rst) v
/-- Every image-loaded field returns to its reset value, in the module or in one lane. -/
def State.imgClear (s : State) (p : Nat → Bool) : State :=
  { s with regs := (cellCanon resetVal s.regs).map (fun e => (e.1, if p e.1 then imgClearWord e.1 e.2 else e.2)) }

/-! ### Slice digests (R78) -/

/-- The words of a record as its subsystem reconstructs them: headers from the reload copy, data read back. A FILL whose
registers do not all hold one value contributes no word of data, so that its digest differs. -/
def State.sliceRec (s : State) (l : Lane) (off : Nat) (r : ImgRec) : List Nat :=
  let back := fun (k : Nat) => s.rd (k + off) &&& imgMask k
  match r with
  | .reg t d => (2 ^ 28 + t) :: d.length :: (List.range d.length).map (fun i => back (t + 4 * i))
  | .fill t n _ =>
    if (List.range n).all (fun i => back (t + 4 * i) == back t) then [2 * 2 ^ 28 + t, n, back t] else []
  | .mem a d => [3 * 2 ^ 28, d.length, a % 4294967296, a / 4294967296] ++ (List.range d.length).map (fun i => memLe (s.lane l).mem (a + 4 * i) 4)
def State.sliceDigest (s : State) (l : Lane) (e : ImgSection) : Bytes :=
  sha256 (wordsBytes (e.recs.flatMap (fun r => s.sliceRec l (if secLane e.typ then laneOff l else 0) r)))
/-- The first section whose slice digest differs from its directory digest. -/
def State.sliceBad (s : State) (ls : List Lane) (i : Image) : Option Nat :=
  i.sections.findIdx? (fun e => (if secLane e.typ then ls else [.a]).any (fun l => s.sliceDigest l e != e.digest))

/-! ### A whole load (R67, R81) -/

/-- The checks that follow the application of an image: its blocks, its slices, its root. `none` passes. -/
def State.loadCheck (s : State) (ls : List Lane) (i : Image) : Option (Nat × Nat) :=
  match i.sections.findIdx? (fun e => !s.blockGood e.typ) with
  | some j => some (0x0B, j)
  | none => match s.sliceBad ls i with
    | some j => some (0x0C, j)
    | none => if i.root = i.fp then none else some (0x0D, 0)
/-- The image of a bank loaded over a state whose image-loaded fields hold their reset values. -/
def State.bankLoad (s : State) (b : Bank) : Sum (Nat × Nat) (Image × State) :=
  match s.readImage b true with
  | .err c j => .inl (c, j)
  | .ok i =>
    let t := s.loadImage true [.a, .b] i
    match t.loadCheck [.a, .b] i with
    | some e => .inl e
    | none => .inr (i, t)

end Sys2Proof.Machine
end

