-- ==== Sys2Proof/Machine/Fabric.lean ====
section
/-! DEFINITION. The operations of a tile (R216 to R224, Tables 09-8 to 09-10). A command names the lane, the pair and the
fields of the operation word; it takes effect where the tile's program has that word at its position (log entry 30). -/
namespace Sys2Proof.Machine

/-! ### Operands -/

/-- The 64-bit operation word (Table 09-8). -/
def opWord (code : Nat) (i : OpIssue) : Nat :=
  code * 2 ^ 56 + i.d.val * 2 ^ 50 + i.a.val * 2 ^ 44 + i.b.val * 2 ^ 38 + i.k.val * 2 ^ 35 + i.m.val * 2 ^ 32 + i.pay.toNat
/-- M[32] SAT, M[33] BC, M[34]. -/
def mBit (i : OpIssue) (n : Nat) : Bool := i.m.val.testBit n
/-- Payload fields (Table 09-9). -/
def pAddr (i : OpIssue) : Nat := bitsOf i.pay.toNat 13 0
def pN (i : OpIssue) : Nat := bitsOf i.pay.toNat 31 16
def pSaddr (i : OpIssue) : Nat := bitsOf i.pay.toNat 29 16
def pC (i : OpIssue) : Nat := bitsOf i.pay.toNat 5 0
def pCh (i : OpIssue) : Nat := bitsOf i.pay.toNat 18 14
def pAge (i : OpIssue) : Nat := bitsOf i.pay.toNat 27 19
def pIn (i : OpIssue) : Nat := bitsOf i.pay.toNat 30 28
def pBn (i : OpIssue) : Nat := bitsOf i.pay.toNat 22 14 + 1
def pBch (i : OpIssue) : Nat := bitsOf i.pay.toNat 27 23
def pOffset (i : OpIssue) : Nat := bitsOf i.pay.toNat 15 0
def pBody (i : OpIssue) : Nat := bitsOf i.pay.toNat 24 16
def pItem (i : OpIssue) : Nat := bitsOf i.pay.toNat 11 0
def pSlot (i : OpIssue) : Nat := bitsOf i.pay.toNat 15 12
/-- An element of a vector register. -/
def Tile.vreg (t : Tile) (r c : Nat) : Nat := mapGet t.v (4 * r + c) 0
/-- A mask register; K0 always reads 0b1111 (R205). -/
def Tile.kreg (t : Tile) (n : Nat) : Nat := if n % 8 = 0 then 15 else mapGet t.k (n % 8) 0
/-- Bit c of a mask register. -/
def Tile.kbit (t : Tile) (n c : Nat) : Bool := (t.kreg n).testBit c
/-- The write mask selects element c (Table 09-8). -/
def Tile.sel (t : Tile) (i : OpIssue) (c : Nat) : Bool := t.kbit i.k.val c
def Tile.va (t : Tile) (i : OpIssue) (c : Nat) : Nat := t.vreg i.a.val c
/-- An element of B, or its element 0 with BC. -/
def Tile.vb (t : Tile) (i : OpIssue) (c : Nat) : Nat := t.vreg i.b.val (if mBit i 1 then 0 else c)
def Tile.vb1 (t : Tile) (i : OpIssue) (c : Nat) : Nat := t.vreg (i.b.val + 1) (if mBit i 1 then 0 else c)
def Tile.va1 (t : Tile) (i : OpIssue) (c : Nat) : Nat := t.vreg (i.a.val + 1) c
/-- A vector register takes values in the elements that the write mask selects. -/
def Tile.setV (t : Tile) (i : OpIssue) (r : Nat) (f : Nat → Nat) : Tile :=
  (List.range 4).foldl (fun u c => if t.sel i c then { u with v := mapPut u.v (4 * r + c) (f c % two32) } else u) t
/-- Mask register D takes bits in the elements that the write mask selects; K0 cannot be written. -/
def Tile.setK (t : Tile) (i : OpIssue) (f : Nat → Bool) : Tile :=
  let n := i.d.val % 8
  if n = 0 then t
  else
    let w := (List.range 4).foldl (fun w c => if t.sel i c then putBits w c c (b2n (f c)) else w) (t.kreg n)
    { t with k := mapPut t.k n w }
/-- What an operation reads beside its tile: the state, the lane, the run and the segment. -/
structure Env where
  s : State
  l : Lane
  r : Run
  g : Seg
/-- The frame of the running slot. -/
def Tile.frame (t : Tile) : List (Nat × Nat) := match t.slot (t.cur.getD false) with | some sl => sl.frame | none => []
def Tile.setFrame (t : Tile) (f : List (Nat × Nat)) : Tile :=
  match t.slot (t.cur.getD false) with
  | some sl => t.setSlot (t.cur.getD false) (some { sl with frame := f })
  | none => t
/-- A resident word as a run sees it: the old contents for runs below a pending exchange index (R231). -/
def Env.resident (e : Env) (a : Nat) : Nat :=
  match (e.s.lane e.l).oldRes with
  | some (x, old) => if idxBelow x e.r.idx then mapGet old a 0 else e.s.rd (R.FAB_RESIDENT e.l a)
  | none => e.s.rd (R.FAB_RESIDENT e.l a)
/-- A word of the local store (Table 09-2). -/
def Env.word (e : Env) (t : Tile) (a : Nat) : Nat :=
  if a < 0x1800 then mapGet t.frame a 0 else if 0x2000 ≤ a ∧ a < 0x3000 then e.resident (a - 0x2000) else 0
/-- A frame word is written. -/
def Tile.put (t : Tile) (a v : Nat) : Tile := if a < 0x1800 then t.setFrame (mapPut t.frame a (v % two32)) else t
/-- One word for each element that the write mask selects. -/
def Tile.puts (t : Tile) (i : OpIssue) (a : Nat) (f : Nat → Nat) : Tile :=
  (List.range 4).foldl (fun u c => if t.sel i c then u.put (a + c) (f c) else u) t
/-- The input entry that an operation names. -/
def Env.inp (e : Env) (n : Nat) : InEnt := nth e.g.ins n { kind := 0, id := 0, addr := 0, first := 0, nch := 0, depth := 0 }
/-- Value of a channel of an input at an age: 0.0 beyond the entry's channels (Table 09-7, R220). -/
def Env.chan (e : Env) (t : Tile) (n ch age : Nat) : Nat :=
  let p := e.inp n
  if p.nch ≤ ch then 0
  else if p.kind = 1 then e.word t (p.addr + 2 * (age * p.nch + ch))
  else if p.kind = 4 then e.word t (p.addr + (age * p.nch + ch)) else 0
/-- Quality word of a channel of an input at an age. -/
def Env.qual (e : Env) (t : Tile) (n ch age : Nat) : Nat :=
  let p := e.inp n
  if p.nch ≤ ch then 0x10001 else if p.kind = 1 then e.word t (p.addr + 2 * (age * p.nch + ch) + 1) else 0
/-- x(c, j) of a block operation (R220). -/
def Env.x (e : Env) (t : Tile) (i : OpIssue) (c j : Nat) : Nat := e.chan t (pIn i) (pBch i + c) j
/-- M[34:33] reduces a mask: element 0, any, all. -/
def Tile.reduce (t : Tile) (i : OpIssue) : Nat :=
  let k := t.kreg i.a.val
  match i.m.val / 2 with
  | 0 => b2n (k.testBit 0)
  | 1 => b2n (k != 0)
  | _ => b2n (k == 15)
/-- An int32 result, clamped with SAT (R218). -/
def intRes (i : OpIssue) (x : Int) : Nat := u32 (if mBit i 0 then clampI (-2147483648) 2147483647 x else x)
def fNaN : Nat := 0x7FC00000
def fOne : Nat := 0x3F800000

/-! ### Issue (R210, R219, R225, R226) -/

/-- The position after an operation, at the end of loop bodies. -/
def stepLoops (pos depth : Nat) : List (Nat × Nat × Nat × Nat) → Nat × List (Nat × Nat × Nat × Nat)
  | [] => (pos, [])
  | (a, e, n, d) :: rest =>
    if pos = e ∧ d = depth then
      if 1 < n then (a, (a, e, n - 1, d) :: rest) else stepLoops pos depth rest
    else (pos, (a, e, n, d) :: rest)
/-- The tile goes on at a position. -/
def Tile.goto (t : Tile) (pos : Nat) : Tile :=
  let r := stepLoops pos t.calls.length t.loops
  { t with pos := r.1, loops := r.2 }
def Tile.next (t : Tile) : Tile := t.goto (t.pos + 1)
/-- An item of the output record; a later write of the same item stands (R224). -/
def recPut (rec : List RecItem) (it : RecItem) : List RecItem :=
  rec.filter (fun q => !(q.op == it.op && q.slot == it.slot && q.item == it.item &&
    (it.op != 0x5D || q.vals.map (·.1) == it.vals.map (·.1)))) ++ [it]
/-- The operation reads words of the local store (Tables 09-2 and 09-10); END hands the state slice to write-back. -/
def opReads (c : Nat) : Bool :=
  [0x01, 0x06, 0x08, 0x0A, 0x53].contains c || decide (0x37 ≤ c ∧ c ≤ 0x3E) || decide (0x40 ≤ c ∧ c ≤ 0x44) ||
    decide (0x49 ≤ c ∧ c ≤ 0x52) || decide (0x54 ≤ c ∧ c ≤ 0x57)
/-- Single-bit errors corrected in local-store reads (R208). -/
def State.eccCorr (s : State) (l : Lane) (n : Nat) : State :=
  if n = 0 then s else (s.addSatF (R.FAB_ECC_COUNT l) 15 0 n).setB (R.FAB_EVENTS l) 2 true
/-- The operation issues: charged, or the run stopped at its budget (R226); `f` gives the tile after it and the items it writes. -/
def State.issueTo (s : State) (i : OpIssue) (code : Nat) (cost : Tile → Nat) (f : Env → Tile → Tile × List RecItem) : State :=
  let l := i.lane
  let p := i.pair.val
  match (s.lane l).running p with
  | none => s
  | some (k, r, g) =>
    let t := (s.lane l).tile p
    if s.pairFailed l p || !s.fastClk || g.code[t.pos]? != some (opWord code i) then s
    else if r.budget < r.charge + cost t then (s.stopOnTile l p k r).laneEnd l
    else
      let o := f { s := s, l := l, r := r, g := g } t
      (s.modLane l (fun x => (x.putRun { r with charge := r.charge + cost t, out := o.2.foldl recPut r.out }).putTile p
        { o.1 with ch := t.ch + cost t })).onIf (opReads code) (fun s => s.eccCorr l i.ecc.toNat)
/-- An operation of fixed cost that leaves the tile at the next position. -/
def State.issue (s : State) (i : OpIssue) (code cost : Nat) (f : Env → Tile → Tile) : State :=
  s.issueTo i code (fun _ => cost) (fun e t => ((f e t).next, []))
/-- An operation that writes an item of the output record (R224). -/
def State.issueOut (s : State) (i : OpIssue) (code cost : Nat) (f : Tile → RecItem) : State :=
  s.issueTo i code (fun _ => cost) (fun _ t => (t.next, [f t]))
/-- The tile has this operation at its position and issues it. -/
def State.issues (s : State) (i : OpIssue) (code cost : Nat) : Bool :=
  match (s.lane i.lane).running i.pair.val with
  | none => false
  | some (_, r, g) => !s.pairFailed i.lane i.pair.val && s.fastClk && g.code[((s.lane i.lane).tile i.pair.val).pos]? == some (opWord code i) &&
      decide (r.charge + cost ≤ r.budget)


/-! ### Computations -/

/-- FCMP's comparisons, by M. -/
def fcmpOp (m a b : Nat) : Bool :=
  match m with
  | 0 => f32.eq a b
  | 1 => !f32.eq a b
  | 2 => f32.lt a b
  | 3 => f32.le a b
  | 4 => f32.lt b a
  | 5 => f32.le b a
  | _ => f32.isNaN a || f32.isNaN b
/-- ICMP's comparisons, by M; 6 is unsigned <. -/
def icmpOp (m a b : Nat) : Bool :=
  let x := sgn32 a
  let y := sgn32 b
  match m with
  | 0 => x == y
  | 1 => x != y
  | 2 => decide (x < y)
  | 3 => decide (x ≤ y)
  | 4 => decide (y < x)
  | 5 => decide (y ≤ x)
  | _ => decide (a % two32 < b % two32)
/-- CMUL of two complex values (R221). -/
def cmulF (a b : Nat × Nat) : Nat × Nat :=
  (f32.fma (f32.neg a.2) b.2 (f32.mul a.1 b.1), f32.fma a.2 b.1 (f32.mul a.1 b.2))
/-- CDIV of two complex values (R221). -/
def cdivF (a b : Nat × Nat) : Nat × Nat :=
  let den := f32.fma b.1 b.1 (f32.mul b.2 b.2)
  (f32.div (f32.fma a.1 b.1 (f32.mul a.2 b.2)) den, f32.div (f32.fma a.2 b.1 (f32.neg (f32.mul a.1 b.2))) den)
def caddF (a b : Nat × Nat) : Nat × Nat := (f32.add a.1 b.1, f32.add a.2 b.2)
/-- The symmetrical components of three phasors, by element (R221). -/
def seqF (z : Nat → Nat × Nat) (c : Nat) : Nat × Nat :=
  let al : Nat × Nat := (0xBF000000, 0x3F5DB3D7)
  let al2 : Nat × Nat := (0xBF000000, 0xBF5DB3D7)
  let third := fun (v : Nat × Nat) => (f32.mul v.1 0x3EAAAAAB, f32.mul v.2 0x3EAAAAAB)
  match c with
  | 0 => third (caddF (caddF (z 0) (z 1)) (z 2))
  | 1 => third (caddF (caddF (z 0) (cmulF al (z 1))) (cmulF al2 (z 2)))
  | 2 => third (caddF (caddF (z 0) (cmulF al2 (z 1))) (cmulF al (z 2)))
  | _ => (0, 0)
/-- The piecewise-linear table (R220): breakpoints, values, slopes. -/
def lutF (w : Nat → Nat) (n a : Nat) : Nat :=
  if f32.isNaN a then fNaN
  else if f32.le a (w 0) then w n
  else if f32.le (w (n - 1)) a then w (n + (n - 1))
  else match (List.range (n - 1)).find? (fun j => f32.le (w j) a && f32.lt a (w (j + 1))) with
    | some j => f32.fma (f32.sub a (w j)) (w (2 * n + j)) (w (n + j))
    | none => fNaN
/-- One step of a timer's state word: flag, prev, elapsed, from the input, the preset and delta (R222); the output. -/
structure TimerW where
  flag : Bool
  prev : Bool
  elapsed : Nat
  out : Bool
def tonStep (inp : Bool) (pt d : Nat) (w : TimerW) : TimerW :=
  let e := if inp then min (w.elapsed + d) pt else 0
  { w with elapsed := e, out := inp && decide (pt ≤ e) }
def tofStep (inp : Bool) (pt d : Nat) (w : TimerW) : TimerW :=
  if inp then { w with elapsed := 0, flag := true, out := true }
  else if w.flag then
    let e := min (w.elapsed + d) pt
    { w with elapsed := e, flag := decide (e < pt), out := decide (e < pt) }
  else { w with out := false }
def pulseStep (inp : Bool) (pt d : Nat) (w : TimerW) : TimerW :=
  let e := if w.flag then min (w.elapsed + d) pt else w.elapsed
  let f := w.flag && decide (e < pt)
  let start := inp && !w.prev && !f
  { flag := f || start, prev := inp, elapsed := if start then 0 else e, out := f || start }
/-- A timer on every element: its state word at ADDR + c, its preset in B, its result in K[D] (R222). -/
def timerOp (e : Env) (t : Tile) (i : OpIssue) (f : Bool → Nat → Nat → TimerW → TimerW) : Tile :=
  let r := fun (c : Nat) =>
    let w := e.word t (pAddr i + c)
    let pt := (clampI 0 1073741823 (sgn32 (t.vb i c))).toNat
    f (t.kbit i.a.val c) pt e.r.delta { flag := w.testBit 31, prev := w.testBit 30, elapsed := bitsOf w 29 0, out := false }
  (t.puts i (pAddr i) (fun c =>
    min 1073741823 (r c).elapsed + b2n (r c).prev * 1073741824 + b2n (r c).flag * 2147483648)).setK i (fun c => (r c).out)
/-- The state of an inverse-time element after a run (R223): words A, B, P, TMS, TR, PKP, TS; multiple m; theta. -/
def idmtStep (w : Nat → Nat) (delta m th : Nat) : Nat :=
  let u := f32.mul (f32.ofInt delta) (w 6)
  if f32.lt (w 5) m then
    let q := f32.sub (f32.pow m (w 2)) fOne
    let t := f32.mul (w 3) (f32.add (f32.div (w 0) q) (w 1))
    if f32.lt 0 q && f32.lt 0 t && f32.finite t then f32.minN (f32.add th (f32.div u t)) fOne else th
  else if f32.eq (w 4) 0 then 0
  else if f32.lt m fOne then
    let trt := f32.div (f32.mul (w 3) (w 4)) (f32.sub fOne (f32.mul m m))
    f32.maxN (f32.sub th (f32.div u trt)) 0
  else th

/-! ### The operations (R219) -/


/-- NOP (Table 09-10). -/
def execOpNop (i : OpIssue) (s : State) : Host.Outcome State Fault Refusal :=
  finish s (s.issue i 0x00 1 (fun _ t => t))
/-- TBL reads a table word (Table 09-10). -/
def execOpTbl (i : OpIssue) (s : State) : Host.Outcome State Fault Refusal :=
  finish s (s.issue i 0x06 2 (fun e t => t.setV i i.d.val (fun c => e.word t (pAddr i + (clampI 0 ((pN i : Int) - 1) (sgn32 (t.va i c))).toNat))))
/-- CLR (Table 09-10). -/
def execOpClr (i : OpIssue) (s : State) : Host.Outcome State Fault Refusal :=
  finish s (s.issue i 0x07 ((pN i + 3) / 4 + 1) (fun _ t => (List.range (pN i)).foldl (fun u j => u.put (pAddr i + j) 0) t))
/-- LDV (Table 09-10). -/
def execOpLdv (i : OpIssue) (s : State) : Host.Outcome State Fault Refusal :=
  finish s (s.issue i 0x08 1 (fun e t => t.setV i i.d.val (fun c => e.word t (pAddr i + c))))
/-- STV (Table 09-10). -/
def execOpStv (i : OpIssue) (s : State) : Host.Outcome State Fault Refusal :=
  finish s (s.issue i 0x09 1 (fun _ t => t.puts i (pAddr i) (fun c => t.va i c)))
/-- LDS (Table 09-10). -/
def execOpLds (i : OpIssue) (s : State) : Host.Outcome State Fault Refusal :=
  finish s (s.issue i 0x0A 1 (fun e t => t.setV i i.d.val (fun _ => e.word t (pAddr i))))
/-- STS ignores K (Table 09-10). -/
def execOpSts (i : OpIssue) (s : State) : Host.Outcome State Fault Refusal :=
  finish s (s.issue i 0x0B 1 (fun _ t => t.put (pAddr i) (t.va i 0)))
/-- MOVI (Table 09-10). -/
def execOpMovi (i : OpIssue) (s : State) : Host.Outcome State Fault Refusal :=
  finish s (s.issue i 0x0C 1 (fun _ t => t.setV i i.d.val (fun _ => i.pay.toNat)))
/-- MOV (Table 09-10). -/
def execOpMov (i : OpIssue) (s : State) : Host.Outcome State Fault Refusal :=
  finish s (s.issue i 0x0D 1 (fun _ t => t.setV i i.d.val (fun c => t.va i c)))
/-- PERM (Table 09-10). -/
def execOpPerm (i : OpIssue) (s : State) : Host.Outcome State Fault Refusal :=
  finish s (s.issue i 0x0E 1 (fun _ t => t.setV i i.d.val (fun c => t.va i (bitsOf i.pay.toNat (2 * c + 1) (2 * c)))))
/-- SEL (Table 09-10). -/
def execOpSel (i : OpIssue) (s : State) : Host.Outcome State Fault Refusal :=
  finish s (s.issue i 0x0F 1 (fun _ t => t.setV i i.d.val (fun c => if t.kbit (pC i) c then t.va i c else t.vb i c)))
/-- FADD (Table 09-10). -/
def execOpFadd (i : OpIssue) (s : State) : Host.Outcome State Fault Refusal :=
  finish s (s.issue i 0x10 1 (fun _ t => t.setV i i.d.val (fun c => f32.add (t.va i c) (t.vb i c))))
/-- FSUB (Table 09-10). -/
def execOpFsub (i : OpIssue) (s : State) : Host.Outcome State Fault Refusal :=
  finish s (s.issue i 0x11 1 (fun _ t => t.setV i i.d.val (fun c => f32.sub (t.va i c) (t.vb i c))))
/-- FMUL (Table 09-10). -/
def execOpFmul (i : OpIssue) (s : State) : Host.Outcome State Fault Refusal :=
  finish s (s.issue i 0x12 1 (fun _ t => t.setV i i.d.val (fun c => f32.mul (t.va i c) (t.vb i c))))
/-- FMA (Table 09-10). -/
def execOpFma (i : OpIssue) (s : State) : Host.Outcome State Fault Refusal :=
  finish s (s.issue i 0x13 1 (fun _ t => t.setV i i.d.val (fun c => f32.fma (t.va i c) (t.vb i c) (t.vreg i.d.val c))))
/-- FMS (Table 09-10). -/
def execOpFms (i : OpIssue) (s : State) : Host.Outcome State Fault Refusal :=
  finish s (s.issue i 0x14 1 (fun _ t => t.setV i i.d.val (fun c => f32.fma (f32.neg (t.va i c)) (t.vb i c) (t.vreg i.d.val c))))
/-- FDIV (Table 09-10). -/
def execOpFdiv (i : OpIssue) (s : State) : Host.Outcome State Fault Refusal :=
  finish s (s.issue i 0x15 12 (fun _ t => t.setV i i.d.val (fun c => f32.div (t.va i c) (t.vb i c))))
/-- FSQRT (Table 09-10). -/
def execOpFsqrt (i : OpIssue) (s : State) : Host.Outcome State Fault Refusal :=
  finish s (s.issue i 0x16 12 (fun _ t => t.setV i i.d.val (fun c => f32.sqrt (t.va i c))))
/-- FABS (Table 09-10). -/
def execOpFabs (i : OpIssue) (s : State) : Host.Outcome State Fault Refusal :=
  finish s (s.issue i 0x17 1 (fun _ t => t.setV i i.d.val (fun c => f32.abs (t.va i c))))
/-- FNEG (Table 09-10). -/
def execOpFneg (i : OpIssue) (s : State) : Host.Outcome State Fault Refusal :=
  finish s (s.issue i 0x18 1 (fun _ t => t.setV i i.d.val (fun c => f32.neg (t.va i c))))
/-- FMIN (Table 09-10). -/
def execOpFmin (i : OpIssue) (s : State) : Host.Outcome State Fault Refusal :=
  finish s (s.issue i 0x19 1 (fun _ t => t.setV i i.d.val (fun c => f32.minN (t.va i c) (t.vb i c))))
/-- FMAX (Table 09-10). -/
def execOpFmax (i : OpIssue) (s : State) : Host.Outcome State Fault Refusal :=
  finish s (s.issue i 0x1A 1 (fun _ t => t.setV i i.d.val (fun c => f32.maxN (t.va i c) (t.vb i c))))
/-- FHSUM (Table 09-10). -/
def execOpFhsum (i : OpIssue) (s : State) : Host.Outcome State Fault Refusal :=
  finish s (s.issue i 0x1B 3 (fun _ t =>
    t.setV i i.d.val (fun _ => f32.add (f32.add (t.va i 0) (t.va i 1)) (f32.add (t.va i 2) (t.va i 3)))))
/-- FCVTI rounds to nearest even and saturates; a NaN converts to 0 (Table 09-10). -/
def execOpFcvti (i : OpIssue) (s : State) : Host.Outcome State Fault Refusal :=
  finish s (s.issue i 0x1C 1 (fun _ t => t.setV i i.d.val (fun c => u32 (sat32 ((f32.rne (t.va i c) 4294967296).getD 0)))))
/-- ICVTF (Table 09-10). -/
def execOpIcvtf (i : OpIssue) (s : State) : Host.Outcome State Fault Refusal :=
  finish s (s.issue i 0x1D 1 (fun _ t => t.setV i i.d.val (fun c => f32.ofInt (sgn32 (t.va i c)))))
/-- FATAN2 (Table 09-10). -/
def execOpFatan2 (i : OpIssue) (s : State) : Host.Outcome State Fault Refusal :=
  finish s (s.issue i 0x1E 10 (fun _ t => t.setV i i.d.val (fun c => f32.atan2 (t.va i c) (t.vb i c))))
/-- FSINCOS (Table 09-10). -/
def execOpFsincos (i : OpIssue) (s : State) : Host.Outcome State Fault Refusal :=
  finish s (s.issue i 0x1F 12 (fun _ t =>
    (t.setV i i.d.val (fun c => f32.sin (t.va i c))).setV i (i.d.val + 1) (fun c => f32.cos (t.va i c))))
/-- IADD (Table 09-10). -/
def execOpIadd (i : OpIssue) (s : State) : Host.Outcome State Fault Refusal :=
  finish s (s.issue i 0x20 1 (fun _ t => t.setV i i.d.val (fun c => intRes i (sgn32 (t.va i c) + sgn32 (t.vb i c)))))
/-- ISUB (Table 09-10). -/
def execOpIsub (i : OpIssue) (s : State) : Host.Outcome State Fault Refusal :=
  finish s (s.issue i 0x21 1 (fun _ t => t.setV i i.d.val (fun c => intRes i (sgn32 (t.va i c) - sgn32 (t.vb i c)))))
/-- IMUL (Table 09-10). -/
def execOpImul (i : OpIssue) (s : State) : Host.Outcome State Fault Refusal :=
  finish s (s.issue i 0x22 2 (fun _ t => t.setV i i.d.val (fun c => intRes i (sgn32 (t.va i c) * sgn32 (t.vb i c)))))
/-- IMULH (Table 09-10). -/
def execOpImulh (i : OpIssue) (s : State) : Host.Outcome State Fault Refusal :=
  finish s (s.issue i 0x23 2 (fun _ t => t.setV i i.d.val (fun c => u32 (sgn32 (t.va i c) * sgn32 (t.vb i c) / 4294967296))))
/-- IADDI (Table 09-10). -/
def execOpIaddi (i : OpIssue) (s : State) : Host.Outcome State Fault Refusal :=
  finish s (s.issue i 0x24 1 (fun _ t => t.setV i i.d.val (fun c => intRes i (sgn32 (t.va i c) + sgn32 i.pay.toNat))))
/-- ISHL (Table 09-10). -/
def execOpIshl (i : OpIssue) (s : State) : Host.Outcome State Fault Refusal :=
  finish s (s.issue i 0x25 1 (fun _ t => t.setV i i.d.val (fun c => intRes i (sgn32 (t.va i c) * (2 ^ (t.vb i c % 32) : Nat)))))
/-- ISHR; with M[34] the exact sum with 2^(s-1) is shifted (Table 09-10). -/
def execOpIshr (i : OpIssue) (s : State) : Host.Outcome State Fault Refusal :=
  finish s (s.issue i 0x26 1 (fun _ t => t.setV i i.d.val (fun c =>
    let n := t.vb i c % 32
    u32 ((sgn32 (t.va i c) + (if mBit i 2 && n != 0 then ((2 ^ (n - 1) : Nat) : Int) else 0)) / (2 ^ n : Nat)))))
/-- ILSR (Table 09-10). -/
def execOpIlsr (i : OpIssue) (s : State) : Host.Outcome State Fault Refusal :=
  finish s (s.issue i 0x27 1 (fun _ t => t.setV i i.d.val (fun c => t.va i c % two32 / 2 ^ (t.vb i c % 32))))
/-- IAND (Table 09-10). -/
def execOpIand (i : OpIssue) (s : State) : Host.Outcome State Fault Refusal :=
  finish s (s.issue i 0x28 1 (fun _ t => t.setV i i.d.val (fun c => t.va i c &&& t.vb i c)))
/-- IOR (Table 09-10). -/
def execOpIor (i : OpIssue) (s : State) : Host.Outcome State Fault Refusal :=
  finish s (s.issue i 0x29 1 (fun _ t => t.setV i i.d.val (fun c => t.va i c ||| t.vb i c)))
/-- IXOR (Table 09-10). -/
def execOpIxor (i : OpIssue) (s : State) : Host.Outcome State Fault Refusal :=
  finish s (s.issue i 0x2A 1 (fun _ t => t.setV i i.d.val (fun c => Nat.xor (t.va i c) (t.vb i c))))
/-- INOT (Table 09-10). -/
def execOpInot (i : OpIssue) (s : State) : Host.Outcome State Fault Refusal :=
  finish s (s.issue i 0x2B 1 (fun _ t => t.setV i i.d.val (fun c => 4294967295 - t.va i c % two32)))
/-- IMIN (Table 09-10). -/
def execOpImin (i : OpIssue) (s : State) : Host.Outcome State Fault Refusal :=
  finish s (s.issue i 0x2C 1 (fun _ t => t.setV i i.d.val (fun c => u32 (min (sgn32 (t.va i c)) (sgn32 (t.vb i c))))))
/-- IMAX (Table 09-10). -/
def execOpImax (i : OpIssue) (s : State) : Host.Outcome State Fault Refusal :=
  finish s (s.issue i 0x2D 1 (fun _ t => t.setV i i.d.val (fun c => u32 (max (sgn32 (t.va i c)) (sgn32 (t.vb i c))))))
/-- IABS (Table 09-10). -/
def execOpIabs (i : OpIssue) (s : State) : Host.Outcome State Fault Refusal :=
  finish s (s.issue i 0x2E 1 (fun _ t => t.setV i i.d.val (fun c => intRes i (sgn32 (t.va i c)).natAbs)))
/-- IBITS (Table 09-10). -/
def execOpIbits (i : OpIssue) (s : State) : Host.Outcome State Fault Refusal :=
  finish s (s.issue i 0x2F 1 (fun _ t => t.setV i i.d.val (fun c => t.va i c % two32 / 2 ^ bitsOf i.pay.toNat 4 0 % 2 ^ bitsOf i.pay.toNat 10 5)))
/-- FCMP (Table 09-10). -/
def execOpFcmp (i : OpIssue) (s : State) : Host.Outcome State Fault Refusal :=
  finish s (s.issue i 0x30 1 (fun _ t => t.setK i (fun c => fcmpOp i.m.val (t.va i c) (t.vreg i.b.val c))))
/-- ICMP (Table 09-10). -/
def execOpIcmp (i : OpIssue) (s : State) : Host.Outcome State Fault Refusal :=
  finish s (s.issue i 0x31 1 (fun _ t => t.setK i (fun c => icmpOp i.m.val (t.va i c) (t.vreg i.b.val c))))
/-- KAND (Table 09-10). -/
def execOpKand (i : OpIssue) (s : State) : Host.Outcome State Fault Refusal :=
  finish s (s.issue i 0x32 1 (fun _ t => t.setK i (fun c => t.kbit i.a.val c && t.kbit i.b.val c)))
/-- KOR (Table 09-10). -/
def execOpKor (i : OpIssue) (s : State) : Host.Outcome State Fault Refusal :=
  finish s (s.issue i 0x33 1 (fun _ t => t.setK i (fun c => t.kbit i.a.val c || t.kbit i.b.val c)))
/-- KXOR (Table 09-10). -/
def execOpKxor (i : OpIssue) (s : State) : Host.Outcome State Fault Refusal :=
  finish s (s.issue i 0x34 1 (fun _ t => t.setK i (fun c => t.kbit i.a.val c != t.kbit i.b.val c)))
/-- KNOT (Table 09-10). -/
def execOpKnot (i : OpIssue) (s : State) : Host.Outcome State Fault Refusal :=
  finish s (s.issue i 0x35 1 (fun _ t => t.setK i (fun c => !t.kbit i.a.val c)))
/-- KMOV, by M (Table 09-10). -/
def execOpKmov (i : OpIssue) (s : State) : Host.Outcome State Fault Refusal :=
  finish s (s.issue i 0x36 1 (fun _ t =>
    match i.m.val with
    | 0 => t.setK i (fun c => t.kbit i.a.val c)
    | 1 => t.setK i (fun _ => t.kreg i.a.val != 0)
    | 2 => t.setK i (fun _ => t.kreg i.a.val == 15)
    | 3 => t.setK i (fun c => t.va i c % two32 != 0)
    | _ => t.setV i i.d.val (fun c => b2n (t.kbit i.a.val c))))
/-- HYST (R220) (Table 09-10). -/
def execOpHyst (i : OpIssue) (s : State) : Host.Outcome State Fault Refusal :=
  finish s (s.issue i 0x37 3 (fun e t =>
    let r := e.word t (pAddr i)
    let st := fun (c : Nat) =>
      let a := t.va i c
      let b := t.vb i c
      if f32.isNaN a || f32.isNaN b then false
      else if e.word t (pSaddr i + c) % 2 = 0 then f32.lt b a else f32.lt (f32.mul r b) a
    (t.puts i (pSaddr i) (fun c => b2n (st c))).setK i st))
/-- SMP (Table 09-10). -/
def execOpSmp (i : OpIssue) (s : State) : Host.Outcome State Fault Refusal :=
  finish s (s.issue i 0x38 1 (fun e t => t.setV i i.d.val (fun c => e.chan t (pIn i) (pCh i + c) (pAge i))))
/-- SMPQ (Table 09-10). -/
def execOpSmpq (i : OpIssue) (s : State) : Host.Outcome State Fault Refusal :=
  finish s (s.issue i 0x39 1 (fun e t => t.setV i i.d.val (fun c => e.qual t (pIn i) (pCh i + c) (pAge i))))
/-- SMPV (Table 09-10). -/
def execOpSmpv (i : OpIssue) (s : State) : Host.Outcome State Fault Refusal :=
  finish s (s.issue i 0x3A 1 (fun e t => t.setK i (fun c => decide (pCh i + c < (e.inp (pIn i)).nch) && e.s.qGood (e.qual t (pIn i) (pCh i + c) (pAge i)))))
/-- MODS (Table 09-10). -/
def execOpMods (i : OpIssue) (s : State) : Host.Outcome State Fault Refusal :=
  finish s (s.issue i 0x3B 1 (fun e t =>
    let p := e.inp (pIn i)
    let n := e.s.mcSub p.id
    t.setV i i.d.val (fun c => if n ≤ pCh i + c then 0 else e.word t (p.addr + 2 * (pAge i * n + pCh i + c)))))
/-- GOIN (Table 09-10). -/
def execOpGoin (i : OpIssue) (s : State) : Host.Outcome State Fault Refusal :=
  finish s (s.issue i 0x3C 1 (fun e t =>
    let p := e.inp (pIn i)
    t.setV i i.d.val (fun c =>
      if e.word t (p.addr + 3) ≤ 4 * (pAge i + c) then 0 else e.word t (p.addr + 4 + pAge i + c))))
/-- GOST (Table 09-10). -/
def execOpGost (i : OpIssue) (s : State) : Host.Outcome State Fault Refusal :=
  finish s (s.issue i 0x3D 1 (fun e t =>
    let p := e.inp (pIn i)
    t.setV i i.d.val (fun c => if c = 0 then e.word t p.addr % 2 else e.word t (p.addr + c))))
/-- FRIN (Table 09-10). -/
def execOpFrin (i : OpIssue) (s : State) : Host.Outcome State Fault Refusal :=
  finish s (s.issue i 0x3E 1 (fun e t =>
    let p := e.inp (pIn i)
    let f := match t.slot (t.cur.getD false) with
      | some sl => (sl.fr.lookup (pIn i)).getD (0, 0)
      | none => (0, 0)
    t.setV i i.d.val (fun c => nth [e.word t p.addr, f.1, f.2, 0] c 0)))
/-- IDX (Table 09-10). -/
def execOpIdx (i : OpIssue) (s : State) : Host.Outcome State Fault Refusal :=
  finish s (s.issue i 0x3F 1 (fun e t => t.setV i i.d.val (fun c => nth [e.r.idx, e.r.delta, e.r.vi, 0] c 0)))
/-- FIR (R220): the oldest age first (Table 09-10). -/
def execOpFir (i : OpIssue) (s : State) : Host.Outcome State Fault Refusal :=
  finish s (s.issue i 0x40 (pBn i + 4) (fun e t => t.setV i i.d.val (fun c =>
    (List.range (pBn i)).reverse.foldl (fun acc j => f32.fma (e.word t (pAddr i + j)) (e.x t i c j) acc) 0)))
/-- PHASOR (R220) (Table 09-10). -/
def execOpPhasor (i : OpIssue) (s : State) : Host.Outcome State Fault Refusal :=
  finish s (s.issue i 0x41 (2 * pBn i + 6) (fun e t =>
    let sum := fun (o c : Nat) =>
      (List.range (pBn i)).reverse.foldl (fun acc j => f32.fma (e.word t (pAddr i + 2 * j + o)) (e.x t i c j) acc) 0
    (t.setV i i.d.val (sum 0)).setV i (i.d.val + 1) (sum 1)))
/-- RMS (R220) (Table 09-10). -/
def execOpRms (i : OpIssue) (s : State) : Host.Outcome State Fault Refusal :=
  finish s (s.issue i 0x42 (pBn i + 14) (fun e t => t.setV i i.d.val (fun c =>
    let q := (List.range (pBn i)).reverse.foldl (fun q j => f32.fma (e.x t i c j) (e.x t i c j) q) 0
    f32.sqrt (f32.mul q (f32.roundQ false 1 (pBn i) 0)))))
/-- PEAK (Table 09-10). -/
def execOpPeak (i : OpIssue) (s : State) : Host.Outcome State Fault Refusal :=
  finish s (s.issue i 0x43 (pBn i + 2) (fun e t => t.setV i i.d.val (fun c =>
    let xs := (List.range (pBn i)).map (fun j => e.x t i c j)
    if xs.any (fun x => f32.isNaN x) then fNaN else xs.foldl (fun m x => f32.maxN m (f32.abs x)) 0)))
/-- DIFF (Table 09-10). -/
def execOpDiff (i : OpIssue) (s : State) : Host.Outcome State Fault Refusal :=
  finish s (s.issue i 0x44 2 (fun e t => t.setV i i.d.val (fun c => f32.sub (e.x t i c 0) (e.x t i c (pBn i)))))
/-- PMAG (Table 09-10). -/
def execOpPmag (i : OpIssue) (s : State) : Host.Outcome State Fault Refusal :=
  finish s (s.issue i 0x45 14 (fun _ t =>
    (t.setV i i.d.val (fun c => f32.sqrt (f32.fma (t.va i c) (t.va i c) (f32.mul (t.va1 i c) (t.va1 i c))))).setV i (i.d.val + 1)
      (fun c => f32.atan2 (t.va1 i c) (t.va i c))))
/-- CMUL (R221) (Table 09-10). -/
def execOpCmul (i : OpIssue) (s : State) : Host.Outcome State Fault Refusal :=
  finish s (s.issue i 0x46 3 (fun _ t =>
    let z := fun (c : Nat) => cmulF (t.va i c, t.va1 i c) (t.vb i c, t.vb1 i c)
    (t.setV i i.d.val (fun c => (z c).1)).setV i (i.d.val + 1) (fun c => (z c).2)))
/-- CDIV (R221) (Table 09-10). -/
def execOpCdiv (i : OpIssue) (s : State) : Host.Outcome State Fault Refusal :=
  finish s (s.issue i 0x47 16 (fun _ t =>
    let z := fun (c : Nat) => cdivF (t.va i c, t.va1 i c) (t.vb i c, t.vb1 i c)
    (t.setV i i.d.val (fun c => (z c).1)).setV i (i.d.val + 1) (fun c => (z c).2)))
/-- SEQ (R221) (Table 09-10). -/
def execOpSeq (i : OpIssue) (s : State) : Host.Outcome State Fault Refusal :=
  finish s (s.issue i 0x48 8 (fun _ t =>
    let z := seqF (fun c => (t.va i c, t.va1 i c))
    (t.setV i i.d.val (fun c => (z c).1)).setV i (i.d.val + 1) (fun c => (z c).2)))
/-- HIST (R220) (Table 09-10). -/
def execOpHist (i : OpIssue) (s : State) : Host.Outcome State Fault Refusal :=
  finish s (s.issue i 0x49 3 (fun e t =>
    let p := e.word t (pAddr i) % max 1 (pN i)
    let base := pAddr i + 4 + 4 * p
    let u := t.setV i i.d.val (fun c => e.word t (base + c))
    (u.puts i base (fun c => t.va i c)).put (pAddr i) ((p + 1) % max 1 (pN i))))
/-- BIQUAD (R220) (Table 09-10). -/
def execOpBiquad (i : OpIssue) (s : State) : Host.Outcome State Fault Refusal :=
  finish s (s.issue i 0x4A 6 (fun e t =>
    let w := fun (j : Nat) => e.word t (pAddr i + j)
    let y := fun (c : Nat) => f32.fma (w 0) (t.va i c) (e.word t (pSaddr i + c))
    let s1 := fun (c : Nat) => f32.fma (f32.neg (w 3)) (y c) (f32.fma (w 1) (t.va i c) (e.word t (pSaddr i + 4 + c)))
    let s2 := fun (c : Nat) => f32.fma (w 2) (t.va i c) (f32.neg (f32.mul (w 4) (y c)))
    ((t.setV i i.d.val y).puts i (pSaddr i) s1).puts i (pSaddr i + 4) s2))
/-- RAMP (Table 09-10). -/
def execOpRamp (i : OpIssue) (s : State) : Host.Outcome State Fault Refusal :=
  finish s (s.issue i 0x4B 3 (fun e t =>
    let d := fun (c : Nat) =>
      let q := e.word t (pAddr i + c)
      f32.minN (f32.maxN (t.va i c) (f32.sub q (t.vb i c))) (f32.add q (t.vb i c))
    (t.setV i i.d.val d).puts i (pAddr i) d))
/-- POLY, coefficients highest first (Table 09-10). -/
def execOpPoly (i : OpIssue) (s : State) : Host.Outcome State Fault Refusal :=
  finish s (s.issue i 0x4C (pN i + 2) (fun e t => t.setV i i.d.val (fun c =>
    (List.range (pN i)).foldl (fun acc j => f32.fma acc (t.va i c) (e.word t (pAddr i + 1 + j))) (e.word t (pAddr i)))))
/-- LUT (R220) (Table 09-10). -/
def execOpLut (i : OpIssue) (s : State) : Host.Outcome State Fault Refusal :=
  finish s (s.issue i 0x4D (pN i + 6) (fun e t => t.setV i i.d.val (fun c => lutF (fun j => e.word t (pAddr i + j)) (pN i) (t.va i c))))
/-- QUAD (R221) (Table 09-10). -/
def execOpQuad (i : OpIssue) (s : State) : Host.Outcome State Fault Refusal :=
  finish s (s.issue i 0x4E 6 (fun e t => t.setK i (fun c =>
    (List.range 4).all (fun h =>
      let w := fun (j : Nat) => e.word t (pAddr i + 3 * h + j)
      f32.le (f32.fma (w 1) (t.va1 i c) (f32.mul (w 0) (t.va i c))) (w 2)))))
/-- MHO (R221) (Table 09-10). -/
def execOpMho (i : OpIssue) (s : State) : Host.Outcome State Fault Refusal :=
  finish s (s.issue i 0x4F 4 (fun e t => t.setK i (fun c =>
    let dr := f32.sub (t.va i c) (e.word t (pAddr i))
    let dx := f32.sub (t.va1 i c) (e.word t (pAddr i + 1))
    f32.le (f32.fma dr dr (f32.mul dx dx)) (e.word t (pAddr i + 2)))))
/-- TON (R222) (Table 09-10). -/
def execOpTon (i : OpIssue) (s : State) : Host.Outcome State Fault Refusal :=
  finish s (s.issue i 0x50 2 (fun e t => timerOp e t i tonStep))
/-- TOF (R222) (Table 09-10). -/
def execOpTof (i : OpIssue) (s : State) : Host.Outcome State Fault Refusal :=
  finish s (s.issue i 0x51 2 (fun e t => timerOp e t i tofStep))
/-- PULSE (R222) (Table 09-10). -/
def execOpPulse (i : OpIssue) (s : State) : Host.Outcome State Fault Refusal :=
  finish s (s.issue i 0x52 2 (fun e t => timerOp e t i pulseStep))
/-- IDMT (R223) (Table 09-10). -/
def execOpIdmt (i : OpIssue) (s : State) : Host.Outcome State Fault Refusal :=
  finish s (s.issue i 0x53 24 (fun e t =>
    let w := fun (j : Nat) => e.word t (pAddr i + j)
    let th := fun (c : Nat) => idmtStep w e.r.delta (t.va i c) (e.word t (pSaddr i + c))
    (t.puts i (pSaddr i) th).setK i (fun c => f32.le fOne (th c))))
/-- The state word of an edge detector is new: the run is the first of a changed VI, and no carry map names the word (R83). -/
def Env.edgeNew (e : Env) (a : Nat) : Bool :=
  e.r.fresh && !(decide (e.g.addr ≤ a ∧ a < e.g.addr + e.g.len) && (e.s.mapped e.r.vi (e.g.off + (a - e.g.addr))).isSome)
/-- EDGE (R222) (Table 09-10). -/
def execOpEdge (i : OpIssue) (s : State) : Host.Outcome State Fault Refusal :=
  finish s (s.issue i 0x54 2 (fun e t =>
    let old := fun (c : Nat) => e.word t (pAddr i + c) % 2 == 1
    let new := fun (c : Nat) => t.kbit i.a.val c
    let out := fun (c : Nat) => match i.m.val with
      | 0 => new c && !old c
      | 1 => !new c && old c
      | _ => new c != old c
    (t.puts i (pAddr i) (fun c => b2n (new c))).setK i (fun c => !e.edgeNew (pAddr i + c) && out c)))
/-- LATCH (R222) (Table 09-10). -/
def execOpLatch (i : OpIssue) (s : State) : Host.Outcome State Fault Refusal :=
  finish s (s.issue i 0x55 2 (fun e t =>
    let st := fun (c : Nat) =>
      let set := t.kbit i.a.val c
      let clr := t.kbit i.b.val c
      if set && clr then mBit i 0 else if set then true else if clr then false else e.word t (pAddr i + c) % 2 == 1
    (t.puts i (pAddr i) (fun c => b2n (st c))).setK i st))
/-- CNT (R222) (Table 09-10). -/
def execOpCnt (i : OpIssue) (s : State) : Host.Outcome State Fault Refusal :=
  finish s (s.issue i 0x56 2 (fun e t =>
    let n := fun (c : Nat) =>
      let w := e.word t (pAddr i + c)
      if t.kbit i.b.val c then 0
      else if t.kbit i.a.val c && !w.testBit 31 then min 2147483647 (w % 2147483648 + 1) else w % 2147483648
    (t.setV i i.d.val n).puts i (pAddr i) (fun c => n c + b2n (t.kbit i.a.val c) * 2147483648)))
/-- TVAL (Table 09-10). -/
def execOpTval (i : OpIssue) (s : State) : Host.Outcome State Fault Refusal :=
  finish s (s.issue i 0x57 1 (fun e t => t.setV i i.d.val (fun c => bitsOf (e.word t (pAddr i + c)) 29 0)))
/-- PUBW (Table 09-10). -/
def execOpPubw (i : OpIssue) (s : State) : Host.Outcome State Fault Refusal :=
  finish s (s.issueOut i 0x58 2 (fun t => { op := 0x58, slot := pSlot i, item := pItem i, vals := [(0, t.va i 0)] }))
/-- PUBB (Table 09-10). -/
def execOpPubb (i : OpIssue) (s : State) : Host.Outcome State Fault Refusal :=
  finish s (s.issueOut i 0x59 2 (fun t => { op := 0x59, slot := pSlot i, item := pItem i, vals := [(0, t.reduce i)] }))
/-- PUBQ (Table 09-10). -/
def execOpPubq (i : OpIssue) (s : State) : Host.Outcome State Fault Refusal :=
  finish s (s.issueOut i 0x5A 2 (fun t => { op := 0x5A, slot := pSlot i, item := pItem i, vals := [(0, t.va i 0 % 65536)] }))
/-- PUB (Table 09-10). -/
def execOpPub (i : OpIssue) (s : State) : Host.Outcome State Fault Refusal :=
  finish s (s.issueOut i 0x5B 4 (fun _ => { op := 0x5B, slot := pSlot i, item := pItem i, vals := [(0, 1)] }))
/-- DOUT (Table 09-10). -/
def execOpDout (i : OpIssue) (s : State) : Host.Outcome State Fault Refusal :=
  finish s (s.issueOut i 0x5C 2 (fun t => { op := 0x5C, slot := 0, item := pItem i, vals := [(0, t.reduce i)] }))
/-- XOUT (Table 09-10). -/
def execOpXout (i : OpIssue) (s : State) : Host.Outcome State Fault Refusal :=
  finish s (s.issueOut i 0x5D 2 (fun t => ⟨0x5D, 0, pItem i, (List.range 4).filterMap (fun c => if t.sel i c then some (c, t.va i c) else none)⟩))
/-- RECW (Table 09-10). -/
def execOpRecw (i : OpIssue) (s : State) : Host.Outcome State Fault Refusal :=
  finish s (s.issueOut i 0x5E 2 (fun t => ⟨0x5E, b2n (mBit i 0), pItem i, [(0, if mBit i 0 then t.reduce i else t.va i 0)]⟩))
/-- SIG (Table 09-10). -/
def execOpSig (i : OpIssue) (s : State) : Host.Outcome State Fault Refusal :=
  finish s (s.issueOut i 0x5F 2 (fun _ => { op := 0x5F, slot := b2n (mBit i 0), item := pItem i, vals := [(0, 1)] }))
/-- BRA skips OFFSET operations where its test of K[K] holds (Table 09-10). -/
def braTaken (i : OpIssue) (t : Tile) : Bool :=
  match i.m.val with
  | 0 => true
  | 1 => t.kreg i.k.val != 0
  | 2 => t.kreg i.k.val == 15
  | _ => t.kreg i.k.val == 0
/-- BRA: 1 cycle, or 2 taken (Table 09-10). -/
def execOpBra (i : OpIssue) (s : State) : Host.Outcome State Fault Refusal :=
  finish s (s.issueTo i 0x02 (fun t => if braTaken i t then 2 else 1)
    (fun _ t => (if braTaken i t then t.goto (t.pos + 1 + pOffset i) else t.next, [])))
/-- LOOP runs the next BODY operations COUNT times (Table 09-10). -/
def execOpLoop (i : OpIssue) (s : State) : Host.Outcome State Fault Refusal :=
  finish s (s.issueTo i 0x03 (fun _ => 2) (fun _ t =>
    (if pBody i = 0 then t.next
     else { t with pos := t.pos + 1, loops := (t.pos + 1, t.pos + 1 + pBody i, pOffset i, t.calls.length) :: t.loops }, [])))
/-- CALL (Table 09-10). -/
def execOpCall (i : OpIssue) (s : State) : Host.Outcome State Fault Refusal :=
  finish s (s.issueTo i 0x04 (fun _ => 2) (fun _ t => ({ t with pos := pOffset i, calls := (t.pos + 1) :: t.calls }, [])))
/-- RET (Table 09-10). -/
def execOpRet (i : OpIssue) (s : State) : Host.Outcome State Fault Refusal :=
  finish s (s.issueTo i 0x05 (fun _ => 2) (fun _ t => (({ t with calls := t.calls.tail }).goto (t.calls.headD 0), [])))

end Sys2Proof.Machine
end

