-- ==== Sys2Proof/Machine/Lanes.lean ====
section
/-! DEFINITION. A lane at its ingest link: boundaries and messages (R197, R198, R227, R237, R240, R270, R303, R309), the
step exchange (R362, R363), the scheduler's and the tiles' events, and lane stops (R207, R208, R365). -/
namespace Sys2Proof.Machine

/-! ### Lane stops (R207, R208, R365) -/

/-- The lowest index of which the lane has not handed every final result to its release link (R207). -/
def State.stopIdx (s : State) (l : Lane) : Nat :=
  match (s.lane l).sentIdx with | some d => idxAdd d 1 | none => 0
/-- Step 3 of Table 09-1: LANE_STOP(j) enters the release link, and the lane is HALTED. -/
def State.laneHalt (s : State) (l : Lane) : State :=
  if s.bit (R.FAB_STATUS l) 0 then s
  else
    let j := s.stopIdx l
    let s := s.relSend l 7 j 0 0 [] 0 0 []
    (s.setB (R.FAB_STATUS l) 0 true).wr (R.FAB_STOP_INDEX l) j
/-- A CRC failure or a missing SEQ: the lane stops consuming and sends LANE_STOP(h + 1) (R198, R365). -/
def State.laneDeaf (s : State) (l : Lane) : State :=
  let j := match (s.lane l).doneSent with | some h => idxAdd h 1 | none => 0
  let s := s.relSend l 7 j 0 0 [] 0 0 []
  (s.modLane l (fun x => { x with deaf := true })).healthBit l 2
/-- What follows from the failed pairs: their count, the capacity, the health bit above MAX_FAILED_PAIRS (R225, R364). -/
def State.pairsRefresh (s : State) (l : Lane) : State :=
  let n := s.failedPairs l
  let s := (s.setF (R.FAB_STATUS l) 15 8 n).wr (R.FAB_CAPACITY l) (s.capacity l)
  s.onIf (decide (s.fld R.WDN_CFG 15 8 < n)) (fun s => s.healthBit l 8)
/-- A pair fails: it gets no further task (R207). -/
def State.pairFail (s : State) (l : Lane) (p : Nat) : State := (s.setB (R.FAB_PAIR_FAIL l (p / 32)) (p % 32) true).pairsRefresh l
/-- The task that a pair holds: the segment it runs, else the one whose frame is being filled. -/
def LaneSt.pairTask (x : LaneSt) (p : Nat) : Option (Tok × Run) :=
  match x.running p with
  | some (k, r, _) => some (k, r)
  | none => (((x.tile p).slot0 <|> (x.tile p).slot1).bind (fun sl => x.tokOf sl.tok)).bind (fun k => (x.runOf k.rid).map (fun r => (k, r)))
/-- FAB_LS_TILE, FAB_LS_INDEX and FAB_LS_POS of a mismatch; what no running operation or task gives is free (log entry 4). -/
def State.mismatchAt (s : State) (l : Lane) (p : Nat) (wb : Bool) : State :=
  let x := s.lane l
  let f := fun (i : Nat) => Config.free (s.freeCtr + i)
  let s : State := { s with freeCtr := s.freeCtr + 4 }
  let (vi, idx, seg) := match x.pairTask p with
    | some (k, r) => (r.vi, r.idx, k.seg)
    | none => (f 0 % 4096, f 1 % two32, f 2 % 16)
  let pos := if (x.running p).isSome then (x.tile p).pos else f 3 % 512
  ((s.wr (R.FAB_LS_TILE l) (p + b2n wb * 256 + vi * 65536)).wr (R.FAB_LS_INDEX l) idx).wr (R.FAB_LS_POS l) (pos + seg * 65536)
/-- The halves of a pair differ: steps 1 to 3 of Table 09-1. Nothing further is done where the pair has failed before. -/
def State.mismatch (s : State) (l : Lane) (p hb : Nat) (wb : Bool) : State :=
  if s.pairFailed l p then s
  else
    let s := s.onIf (!s.bit (R.FAB_STATUS l) 0) (fun s => s.mismatchAt l p wb)
    (((s.pairFail l p).setB (R.FAB_EVENTS l) 0 true).healthBit l hb).laneHalt l

/-- The mismatch of a datapath beside the tiles: its record, its event, the health fault, the lane's stop (R281). -/
def State.dualStop (s : State) (l : Lane) (kInfo kIndex info idx kEv ev : Nat) : State :=
  ((((s.wr kInfo info).wr kIndex idx).setB kEv ev true).healthBit l 0).laneHalt l
/-- The halves of a datapath differ (R207, R281, R331). The loop engine, the optimiser or the energy unit then takes nothing further;
what no running work gives is free (log entry 4). -/
def State.dualMismatch (s : State) (l : Lane) : Dual → State
  | .tile t wb => s.mismatch l t.val 0 wb
  | .loop L step =>
    if s.bit (R.LPE_STATUS l) 0 then s
    else
      let (f, s) := s.takeFree
      let k := ((s.lane l).steps.find? (fun e => e.1 == L.val)).elim (f % two32) (·.2)
      (s.setB (R.LPE_STATUS l) 0 true).dualStop l (R.LPE_LS_INFO l) (R.LPE_LS_INDEX l) (L.val + step.val * 65536) k (R.LPE_EVENTS l) 0
  | .optimiser p =>
    if (s.opt l).halt then s
    else
      let (it, s) := s.takeFree
      let (f, s) := s.takeFree
      let k := (s.opt l).run.elim (f % two32) (·.1)
      (s.modOpt l (fun o => { o with halt := true })).dualStop l (R.OPT_LS_INFO l) (R.OPT_LS_INDEX l) (p.val + it % 65536 * 65536) k (R.OPT_EVENTS l) 6
  | .energy e =>
    if s.bit (R.NRG_STATUS l) 0 then s
    else
      let (f, s) := s.takeFree
      let k := (s.pt l e.val).next.getD (f % two32)
      (s.setB (R.NRG_STATUS l) 0 true).dualStop l (R.NRG_LS_INFO l) (R.NRG_LS_INDEX l) e.val k (R.NRG_EVENTS l) 7

/-! ### Consumers of final records in the lane (R224) -/

/-- A final record reaches the acquisition engine, the interrupt controller and the event tasks. Kind 1 is the completion of
a cyclic run, whose record is released with its next cycle as kind 3 (R302). -/
def State.finalOut (s : State) (l : Lane) (r : Run) : State :=
  if r.kind = 1 then s.evtSrc l 4 ((s.lane l).bnd.getD r.idx) (fun e => s.fld (R.CPE_EV1 l e) 25 21 == r.task)
  else
    let s := s.recRecord l r.vi r.idx r.out
    s.onIf (s.laneActive l && !s.mute l) (fun s =>
      (r.out.filter (fun i => i.op == 0x5F && i.slot == 0)).foldl (fun s i => s.vecEvent (.vi (Fin.ofNat 4096 r.vi) (Fin.ofNat 64 i.item))) s)
/-- Final records go to their consumers. -/
def State.finalsOut (s : State) (l : Lane) : State :=
  let rs := (s.lane l).finals
  rs.foldl (fun s r => s.finalOut l r) (s.modLane l (fun x => { x with finals := [] }))
/-- What follows every event of a lane: final records, metering, triggers, the scheduler. -/
def State.laneFollow (s : State) (l : Lane) : State :=
  let s := s.finalsOut l
  let s := (s.energyPoll l).trigPoll l 64
  ((s.evtRefresh l).ownFlush l).laneEnd l

/-! ### Mirroring into a joining lane (R375) -/

/-- The runs below the join index, as the joining lane holds them: without tokens, never its own work. -/
def LaneSt.ghostRuns (x : LaneSt) (j : Nat) : List Run :=
  ((x.runs ++ x.held).filter (fun r => r.dead == 0 && idxLater j r.idx)).map (fun r =>
    { r with rid := r.rid + 1099511627776, prov := [], wasProv := false, sent := true, done := false, stop := false })
/-- A run below the join index has become final in the active lane: the mirrored writes of its completion. -/
def State.mirrorFinal (s : State) (o : Lane) (r : Run) : State :=
  let live := (s.viLive o r.vi).words
  let s := s.onIf (r.kind != 3) (fun s => s.modLane o (fun x =>
    { x with vis := mapPut x.vis r.vi { words := mergeState live (r.words.getD live) r.prog, last := some r.idx, carry := (s.viLive o r.vi).carry } }))
  s.modLane o (fun x =>
    if r.kind = 1 then { x with tasks := mapPut x.tasks r.task { mapGet x.tasks r.task {} with fin := some r.out }, finals := x.finals ++ [r] }
    else { x.putExports r.vi r.idx r.out with finals := x.finals ++ [r] })
/-- Registers of one lane's view take the values of the other's. -/
def State.copyKeys (s : State) (o : Lane) (ks : List (Lane → Nat)) : State :=
  let a := match o with | .a => Lane.b | .b => Lane.a
  ks.foldl (fun s k => s.wrC (k o) (s.rd (k a))) s
/-- A loop step below the join index is complete in the active lane: the slot's state and its traces. -/
def State.mirrorSlot (s : State) (a o : Lane) (L : Nat) : State :=
  let s := s.modLane o (fun x => { x with slots := mapPut x.slots L (mapGet (s.lane a).slots L {}) })
  let s := s.copyKeys o ((List.range 13).map (fun i l => R.LPE_SLOT_SPPV l L + 4 * i))
  let s := s.onIf (s.slotGroup a L).isSome (fun s => s.copyKeys o [fun l => R.LPE_GROUP_STAT l ((s.slotGroup a L).getD 0)])
  ((List.range 16).filter (fun c => s.fld (R.LPE_TR0 a c) 11 2 == L)).foldl (fun s c =>
    let s := s.modLane o (fun x => { x with traces := mapPut x.traces c (mapGet (s.lane a).traces c {}) })
    s.copyKeys o ([fun l => R.LPE_TR2 l c, fun l => R.LPE_TR3 l c] ++ (List.range 16384).map (fun j l => R.LPE_TRACE l c j))) s
/-- A cycle below the join index has begun, or was an overrun, in the active lane. -/
def State.mirrorTask (s : State) (a o : Lane) (t : Nat) : State :=
  let v := s.fld (R.CPE_TASK0 a t) 15 4
  let s := s.modLane o (fun x => { x with
    tasks := mapPut x.tasks t (mapGet (s.lane a).tasks t {})
    vis := match (s.lane a).vis.lookup v with | some w => mapPut x.vis v w | none => mapDel x.vis v })
  s.copyKeys o ((List.range 4).map (fun i l => R.CPE_TSTAT0 l t + 4 * i))
/-- A solve that started below the join index is complete in the active lane: its results, and the transfer is decided from the active lane alone. -/
def State.mirrorOpt (s : State) (a o : Lane) : State :=
  let own := (s.lane a).opt.own
  let s := s.modLane a (fun x => { x with opt := { x.opt with other := own } })
  let s := s.modLane o (fun x => { x with opt := { (s.lane a).opt with cd := x.opt.cd, due := x.opt.due, held := x.opt.held } })
  s.copyKeys o ([R.OPT_STATUS, R.OPT_ITER, R.OPT_PRES, R.OPT_DRES, R.OPT_OBJ, R.OPT_SOLVE_NS] ++
    (List.range (s.optN a)).map (fun i l => R.OPT_X l i) ++ (List.range (s.optM a)).map (fun i l => R.OPT_Y l i))
/-- What the active lane has done below the join index since the last clock reaches the joining lane. -/
def State.mirrorJoin (s : State) (a : Lane) : State :=
  let o := otherLane a
  match (s.lane o).gj with
  | none => s
  | some j =>
    let low := fun (k : Nat) => idxLater j k
    let s := ((s.lane a).finals.filter (fun r => low r.idx)).foldl (fun s r => s.mirrorFinal o r) s
    let x := s.lane a
    let slots := ((s.lane o).steps.filter (fun e => low e.2 && !(x.steps.contains e || x.sdue.any (fun d => d.1 == e.1 && d.2.1 == e.2))))
    let s := slots.foldl (fun s e => (s.mirrorSlot a o e.1).modLane o (fun y => { y with steps := y.steps.erase e })) s
    let due := ((s.lane o).cdue.filter (fun e => low e.2.1 && !x.cdue.any (fun d => d.1 == e.1 && d.2.1 == e.2.1)))
    let s := due.foldl (fun s e => (s.mirrorTask a o e.1).modLane o (fun y => { y with cdue := y.cdue.erase e })) s
    let s := match (s.lane o).opt.run with
      | some r => s.onIf (low r.1 && (s.lane a).opt.run != some r) (fun s => s.mirrorOpt a o)
      | none => s
    let s := s.modLane o (fun y => { y with runs := x.ghostRuns j ++ y.runs.filter (fun r => !low r.idx) })
    s.laneFollow o
/-- Work below the join index is still outstanding in the active lane. -/
def State.mirrorOpen (s : State) (a : Lane) (j : Nat) : Bool :=
  let x := s.lane a
  let low := fun (k : Nat) => idxLater j k
  (x.runs ++ x.held).any (fun r => low r.idx) || x.steps.any (fun e => low e.2) || x.sdue.any (fun e => low e.2.1) ||
    x.cdue.any (fun e => low e.2.1) || (match x.opt.run with | some r => low r.1 | none => false)
/-- What follows every event of a lane: cycles that nothing holds back begin, a joining lane is mirrored, and the rest. -/
def State.laneTail (s : State) (l : Lane) : State := (((s.cyclePoll l).onIf (s.laneActive l) (fun s => s.mirrorJoin l))).laneFollow l

/-! ### A boundary in a lane (R227, R270, R300, R303) -/

/-- The VI takes part: its reset is not between the commit point and step 4 (R97). -/
def State.viRuns (s : State) (v : Nat) : Bool := !s.viResetting v
/-- The per-index VIs of which index k is skipped (R227). -/
def State.runSkips (s : State) (l : Lane) (k : Nat) : List Nat :=
  (s.perIndexVis l).filter (fun v => s.viRuns v &&
    decide (s.fld (R.FAB_VI_CFG0 l v) 12 10 ≤ (((s.lane l).runs ++ (s.lane l).held).filter (fun r =>
      r.dead == 0 && r.kind == 0 && r.vi == v && idxLater k r.idx)).length))
/-- A skipped index of a VI (R227). -/
def State.runSkip (s : State) (l : Lane) (v k : Nat) : State :=
  let s := (s.addSatF (R.FAB_VI_STAT2 l v) 31 16 1).addSat (R.FAB_SKIPS l) 1
  let s := (s.lastOvr l v 2 k).setB (R.FAB_EVENTS l) 4 true
  s.onIf (!(s.lane l).own.any (fun o => o.vi == v && o.idx == k)) (fun s => s.relSend l 5 k v (s.viGen v) [] 0 1 [])
/-- The sample period that ends at a boundary is accounted (R225, R229, R261, R264, R138). -/
def State.periodEnd (s : State) (l : Lane) : State :=
  let x := s.lane l
  let s := (s.wr (R.FAB_LOAD l) x.load).crest (R.FAB_LOAD_CREST l) x.load
  let s := (s.wr (R.LPE_LOAD l) (min 16777215 x.busy)).crest (R.LPE_LOAD_CREST l) (min 16777215 x.busy)
  let s := (List.range 64).foldl (fun s p => (s.wrC (R.SCH_PLD_LAST l p) (s.rd (R.SCH_PLD_CHARGE l p))).wrC (R.SCH_PLD_CHARGE l p) 0) s
  let s := s.onIf x.bpSeen (fun s => s.addSat (R.SCH_BP_PERIODS l) 1)
  s.modLane l (fun x => { x with load := 0, busy := 0, overs := [], bpSeen := s.bit (R.SCH_STATUS l) 0 })
/-- The descriptor of a token as its four words read (Table 11-2). -/
def Tok.words (t : Tok) : List Nat :=
  [t.vi + t.seg * 4096 + t.prio * 65536 + t.polder * 524288 + t.st * 134217728 + b2n t.prov * 268435456 + b2n t.reexec * 536870912 + t.kind * 1073741824,
   t.idx, t.deps.length + t.gen * 65536,
   t.next.getD 0 + b2n t.next.isSome * 65536 + t.pair * 131072 + b2n t.slot * 16777216]
/-- A write of SCH_DESC_SEL latches the four words of a token (R257). -/
def State.descSelect (s : State) (l : Lane) (v : Nat) : State :=
  let t := v % 65536
  (s.wr (R.SCH_DESC_SEL l) t).wrs (R.SCH_DESC l 0) (match (s.lane l).tokOf t with | some k => k.words | none => [0, 0, 0, 0])
/-- A command or write of boundary k takes effect in a lane (R10). -/
def State.cmdApply (s : State) (l : Lane) (k : Nat) (c : LaneCmd) : State :=
  match c with
  | .wr key v => if key = R.SCH_DESC_SEL .a then s.descSelect l v else s.writeFields (key + laneOff l) v
  | .traceTrig => s.traceTrig l k
  | .traceArm => s.traceArm l
  | .publish => s.optPublish l
  | .cold => s.optCold l
  | .solve => s.optSolve l k
  | .abort => s.optAbort l
  | .event e => s.onIf (s.bit (R.CPE_EV0 l e) 0 && s.fld (R.CPE_EV0 l e) 27 24 == 3) (fun s => s.evtTake l e k)
  | .restart t => s.taskRestart l t
  | .pw x => s.pwApply l x
  | .maxdemClear => s.maxdemClear l
  | .recCmd code u v => s.recApply l k code u v
  | .mode _ _ => s
  | .demEnd => s
  | .save => s
/-- The commands of boundary k that a test selects, in order. -/
def State.cmdsApply (s : State) (l : Lane) (k : Nat) (p : LaneCmd → Bool) : State :=
  let mine := (s.lane l).cmds.filter (fun c => idxGe k c.1 && p c.2)
  mine.foldl (fun s c => s.cmdApply l k c.2) (s.modLane l (fun x => { x with cmds := x.cmds.filter (fun c => !(idxGe k c.1 && p c.2)) }))
def LaneCmd.isMode (c : LaneCmd) : Bool := match c with | .mode _ _ => true | _ => false
/-- Commands of the optimiser that are taken after the others: a SOLVE, then the transfer, then an ABORT (R286, R291, R292). -/
def LaneCmd.isLate (c : LaneCmd) : Bool := match c with | .solve => true | .abort => true | _ => false
/-- The lane's work for boundary k is created. The lists name what is skipped; `due` slots and tasks are those whose countdowns end here. -/
def State.laneCreate (s : State) (l : Lane) (x : StepX) : State :=
  let k := x.k
  let s := s.cmdsApply l k (fun c => !c.isMode && !c.isLate)
  let s := (s.optHeld l k).cmdsApply l k (fun c => match c with | .solve => true | _ => false)
  let s := match x.xfer with | some code => s.optTransfer l k code | none => s
  let s := (s.cmdsApply l k (fun c => match c with | .abort => true | _ => false)).optCount l k
  -- slots (R270) and the records of their VIs (R279)
  let (due, s) := s.slotCount l
  let due := due.filter (fun L => s.viRuns (s.slotOwner l L))
  let steps := due.filter (fun L => !x.slotSkips.contains L)
  let vis := (s.perIndexVis l).filter (fun v => s.viRuns v)
  let owners := (due.map (fun L => s.slotOwner l L)).eraseDups
  let own := owners.map (fun v =>
    ({ vi := v, idx := k, gen := s.viGen v, fab := b2n (vis.contains v && !x.skips.contains v), items := []
       steps := (steps.filter (fun L => s.slotOwner l L == v)).map (fun L => (L, none)) } : OwnRec))
  let s := s.modLane l (fun y => { y with own := y.own ++ own, sdue := y.sdue ++ due.map (fun L => (L, k, x.slotSkips.contains L)) })
  -- runs (R227)
  let s := vis.foldl (fun s v => if x.skips.contains v then s.runSkip l v k else s.createRun l (s.mkRun l v k 0 0)) s
  -- cyclic tasks (R300, R303), highest TPRIO first, and event tasks (R312)
  let (cd, s) := s.taskCount l
  let cd := sortBy (fun a b => decide (s.taskPrio l b < s.taskPrio l a)) cd
  let s := s.modLane l (fun y => { y with cdue := y.cdue ++ cd.map (fun t => (t, k, x.overruns.contains t, false)) })
  let s := ((s.evtCreate l).evtPoll l).ownFlush l
  -- DONE (R243)
  match (s.lane l).sentIdx with
  | some h => (s.relSend l 6 h 0 0 [] 0 0 []).modLane l (fun y => { y with doneSent := some h })
  | none => s
/-- What the active lane decides for boundary k (R227, R270, R291, R303). -/
def State.laneDecide (s : State) (l : Lane) (k : Nat) : StepX :=
  let due := (s.slotCount l).1
  let tasks := (s.taskCount l).1
  { k := k, skips := s.runSkips l k, slotSkips := s.slotSkips l due, overruns := tasks.filter (fun t => s.taskOverrun l t),
    xfer := s.optReady l, at_ := s.now }
/-- The active lane's state of Table 16-3 at the join index, as the joining lane then holds it (R373, R375, R376): its scheduler's tokens are FREE, it has no prediction, and work below the index is the active lane's. -/
def State.laneJoin (s : State) (a : Lane) (k : Nat) : State :=
  let o := otherLane a
  if s.role a ≠ 0 ∨ s.role o ≠ 3 ∨ s.wdn.join ≠ some k ∨ (s.lane o).gj.isSome then s
  else
    let x := s.lane a
    let y := s.lane o
    let fresh : LaneSt := { mem := y.mem, seq := y.seq, gj := some k, bnd0 := x.bnd0, bnd := x.bnd, nextRid := x.nextRid
                            smp := x.smp, strs := x.strs, lost := x.lost, got := x.got, mods := x.mods, go := x.go, inbox := x.inbox, exps := x.exps, vis := x.vis
                            runs := x.ghostRuns k, slots := x.slots, traces := x.traces, opt := x.opt, tasks := x.tasks
                            steps := x.steps ++ x.sdue.map (fun e => (e.1, e.2.1))
                            cdue := x.cdue.map (fun e => (e.1, e.2.1, e.2.2.1, false)), stas := x.stas, evq := x.evq, mhist := x.mhist
                            cmds := x.cmds, doneSent := x.doneSent }
    let s := s.setLane o fresh
    let s : State := match o with
      | .a => { s with nrgA := s.nrgB, recA := s.recB }
      | .b => { s with nrgB := s.nrgA, recB := s.recA }
    -- registers of LPE, OPT, CPE, NRG and REC on the lane die
    let mine := fun (q : Nat) => isLaneKey q && decide (0x3000000 ≤ q)
    let s : State := { s with regs := (s.regs.filter (fun e => mine e.1 && laneOfKey e.1 == a)).map (fun e => (e.1 - laneOff a + laneOff o, e.2)) ++
                                       s.regs.filter (fun e => !(mine e.1 && laneOfKey e.1 == o)) }
    -- the sluice takes its link from its first message, and compares from the index on (R375)
    let s : State := match o with
      | .a => { s with slu := { s.slu with seqA := none, stopA := false, doneA := false } }
      | .b => { s with slu := { s.slu with seqB := none, stopB := false, doneB := false } }
    let s : State := { s with slu := { s.slu with joinAt := some k, cmpFrom := some k } }
    (((s.setB (R.SLU_STATUS) 4 true).setB (R.SLU_STATUS) 5 true).wr R.WDN_RSYNC_JOIN k).schedRefresh o
/-- BOUNDARY(k) is received: the engines of the lane take it; the active lane creates its work and sends the step exchange; a standby waits for it (R362). -/
def State.laneBoundary (s : State) (l : Lane) (m : IMsg) : State :=
  let k := m.idx
  let s := (s.modLane l (fun x => { x with bnd0 := some (x.bnd0.getD k), bnd := some k })).strsRefresh l k
  let s := (s.periodEnd l).recBoundary l k m.verdict
  let s := s.nrgBoundary l k (m.verdict.testBit 0)
  if s.role l = 1 ∨ (s.lane l).gj.isSome then s.modLane l (fun x => { x with bndWait := x.bndWait ++ [k] })
  else
    let s := s.laneJoin l k
    let x := s.laneDecide l k
    let s := s.onIf (s.role l == 0 && (s.role (otherLane l) == 1 || (s.lane (otherLane l)).gj.isSome)) (fun s => { s with xl := { s.xl with xq := s.xl.xq ++ [x] } })
    s.laneCreate l x

/-! ### Messages (R198, R237, R240) -/

/-- The front message of a lane's ingest link is received, if it is of this type: checked, and given to `f`; then the lane works
on, and `g`, given the state before too, keeps what waits for a later run. -/
def State.linkTake (s : State) (l : Lane) (typ : Nat) (ok : Bool) (f : IMsg → State → State) (g : State → IMsg → State → State := fun _ _ s => s) : State :=
  match s.link l with
  | [] => s
  | m :: q =>
    -- a lane under repair takes nothing before the active lane has reached the join index (R375)
    if m.typ != typ || !s.fastClk || (decide (3 ≤ s.role l) && (s.lane l).gj.isNone) then s
    else
      -- a lane that has stopped consuming leaves the queue as it is (R198)
      if (s.lane l).deaf then s
      else
      let s0 := s
      let s := (s.setLink l q).bpRefresh
      if !ok || m.seq != (s.lane l).seq then s.laneDeaf l
      else g s0 m ((f m (s.modLane l (fun x => { x with seq := idxAdd x.seq 1 }))).laneTail l)
/-- A message of a stream whose tag is not current is discarded (R95). -/
def State.fresh (s : State) (m : IMsg) (owner : Nat) (f : State → State) : State := if s.msgOld m owner then s.genDiscard 1 else f s
/-- The same for a SAMPLE message or GAP record of a stream, whose indices the lane no longer awaits. -/
def State.freshSv (s : State) (l : Lane) (m : IMsg) (ks : List Nat) (f : State → State) : State :=
  if s.msgOld m (s.svOwner m.set) then (s.genDiscard 1).modLane l (fun x => { x with lost := (ks.map (fun k => (m.set, k)) ++ x.lost).take 4096 })
  else f s
/-- A SAMPLE or MOD message of an index has been received (R258). -/
def LaneSt.seen (x : LaneSt) (k : Nat) : LaneSt := if x.got.contains k then x else { x with got := k :: x.got.take 400 }
/-- A lane receives BOUNDARY(k) (R227). -/
def execLaneBoundary (l : Lane) (ok : Bool) (s : State) : Host.Outcome State Fault Refusal :=
  finish s (s.linkTake l 1 ok (fun m s => s.laneBoundary l m))
/-- A lane receives a PREDICTION set (R234). -/
def execLanePrediction (l : Lane) (ok : Bool) (s : State) : Host.Outcome State Fault Refusal :=
  finish s (s.linkTake l 2 ok (fun m s => s.fresh m (s.svOwner m.set) (fun s =>
    s.modLane l (fun x => { x with preds := mapPut x.preds m.set ((m.idx, m.pay) :: (mapGet x.preds m.set []).take 15) }))))
/-- A lane receives a SAMPLE set: it meets conditions and forms the lane verdict (R237). -/
def execLaneSample (l : Lane) (ok : Bool) (s : State) : Host.Outcome State Fault Refusal :=
  finish s (s.linkTake l 3 ok (fun m s => s.freshSv l m [m.idx] (fun s =>
    let vals := (List.range (m.pay.length / 2)).map (fun c => nth m.pay (2 * c) 0)
    let quals := (List.range (m.pay.length / 2)).map (fun c => nth m.pay (2 * c + 1) 0)
    let v := s.laneVerdict l m quals
    (s.modLane l (fun x => (x.putSet m.set { key := m.idx, vals := vals, quals := quals, subst := false }).seen m.idx)).applyVerdict l m.set m.idx v)))
/-- A lane receives a MOD message (R258). -/
def execLaneMod (l : Lane) (ok : Bool) (s : State) : Host.Outcome State Fault Refusal :=
  finish s (s.linkTake l 4 ok (fun m s =>
    s.modLane l (fun x => { x.seen m.idx with mods := mapPut x.mods m.set ((m.idx, m.pay) :: ((mapGet x.mods m.set []).filter (fun e => e.1 != m.idx)).take 400) })))
/-- Provisional runs for index k or later of the VIs that read a GOOSE entry are squashed (R240). -/
def State.gooseSquash (s : State) (l : Lane) (g k : Nat) : State :=
  s.squashWhere l (fun r => if idxGe r.idx k && r.prog.any (fun q => q.ins.any (fun e => e.kind == 3 && e.id == g)) then some [4, 0, 0] else none)
/-- A GOOSE state effective at an index enters the lane. -/
def State.goosePut (s : State) (l : Lane) (g : Nat) (e : GoEff) : State :=
  (s.modLane l (fun x => { x with go := mapPut x.go g (e :: (mapGet x.go g []).take 15) })).gooseSquash l g e.idx
/-- A lane receives a GOOSE record (R240, R312). -/
def execLaneGoose (l : Lane) (ok : Bool) (s : State) : Host.Outcome State Fault Refusal :=
  finish s (s.linkTake l 5 ok (fun m s => s.fresh m (s.fld (R.ING_GO2 m.set) 27 16) (fun s =>
    let s := s.goosePut l m.set { idx := m.idx, alive := true, st := nth m.pay 0 0, sq := nth m.pay 1 0, len := nth m.pay 3 0, data := m.pay.drop 4 }
    s.evtSrc l 2 m.idx (fun e => s.fld (R.CPE_EV1 l e) 11 0 == m.set))))
/-- A lane receives a GOOSE_SUP record: the entry is not alive (R240). -/
def execLaneGooseSup (l : Lane) (ok : Bool) (s : State) : Host.Outcome State Fault Refusal :=
  finish s (s.linkTake l 6 ok (fun m s => s.fresh m (s.fld (R.ING_GO2 m.set) 27 16) (fun s =>
    s.goosePut l m.set { (s.lane l).goAt m.set m.idx with idx := m.idx, alive := false })))
/-- An index of a stream that a GAP record covers reads as held values that are MISSING (R213); its runs are squashed (R237). -/
def State.gapSet (s : State) (l : Lane) (i k : Nat) : State :=
  if ((s.lane l).setOf i k).isSome then s
  else
    let n := s.svNch i
    let hold := match mapGet (s.lane l).smp i [] with | e :: _ => e.vals | [] => List.replicate n 0
    let e : SvSet := { key := k, vals := hold, quals := List.replicate n missQ, subst := true }
    (s.modLane l (fun x => x.putSet i e)).applyVerdict l i k (some [3, i, 0])
/-- The same for a modulator channel. -/
def State.gapMod (s : State) (l : Lane) (c k : Nat) : State :=
  let q := mapGet (s.lane l).mods c []
  if (q.lookup k).isSome then s
  else
    let n := s.mcSub c
    let hold := match q with | e :: _ => nth e.2 (e.2.length - 2) 0 | [] => 0
    s.modLane l (fun x => { x with mods := mapPut x.mods c ((k, (List.range n).flatMap (fun _ => [hold, missQ])) :: q.take 400) })
/-- A lane receives a GAP record (R237, R213). -/
def execLaneGap (l : Lane) (ok : Bool) (s : State) : Host.Outcome State Fault Refusal :=
  finish s (s.linkTake l 7 ok (fun m s =>
    let w := nth m.pay 0 0
    let ks := (List.range (bitsOf w 15 8)).map (fun j => idxAdd m.idx j)
    match w % 256 with
    | 3 => s.freshSv l m ks (fun s => ks.foldl (fun s k => s.gapSet l m.set k) s)
    | 4 => ks.foldl (fun s k => s.gapMod l m.set k) s
    | _ => s))
/-- The program whose cycle engine takes a frame (R309). -/
def State.frameTask (s : State) (l : Lane) (m : IMsg) : Option Nat :=
  if frEt m.bytes = s.fld (R.CPE_CFG l) 15 0 then s.taskOfVi l m.set else none
/-- A lane receives a FRAME: a response for the cycle engine (R309), or a frame for the VI's inbox, where it waits for the next
run (R213). -/
def execLaneFrame (l : Lane) (ok : Bool) (s : State) : Host.Outcome State Fault Refusal :=
  finish s (s.linkTake l 8 ok
    (fun m s => s.fresh m m.set (fun s =>
      match s.frameTask l m with
      | some t => s.inCycle l t (fun s => s.cpeFrame l t m.idx m.bytes)
      | none => s))
    (fun s0 m s => s.onIf (!s0.msgOld m m.set && (s0.frameTask l m).isNone) (fun s =>
      s.modLane l (fun x => { x with inbox := mapPut x.inbox m.set (mapGet x.inbox m.set [] ++ [(m.idx, m.bytes)]) }))))

/-! ### Due work -/

/-- A due slot's step is created, or skipped (R270). -/
def execLoopSlotDue (l : Lane) (L : Slot) (s : State) : Host.Outcome State Fault Refusal := finish s ((s.slotDue l L.val).laneTail l)
/-- The solve timer is due (R286). -/
def execSolveTimerDue (l : Lane) (s : State) : Host.Outcome State Fault Refusal := finish s (s.optTimer l)
/-- The loop engine takes a ready step (R275). -/
def execLoopStep (l : Lane) (L : Slot) (s : State) : Host.Outcome State Fault Refusal := finish s ((s.loopStep l L.val).laneTail l)

/-! ### Scheduler and tiles -/

/-- A dispatch decision (R261). -/
def execDispatchDecision (l : Lane) (s : State) : Host.Outcome State Fault Refusal := finish s ((s.dispatchDecision l).laneEnd l)
/-- A held creation is made (R264). -/
def execHeldCreate (l : Lane) (s : State) : Host.Outcome State Fault Refusal := finish s (((s.heldCreate l).evtRefresh l).laneEnd l)
/-- A write of SCH_DESC_SEL (R257). -/
def execDescSelect (l : Lane) (v : Word) (s : State) : Host.Outcome State Fault Refusal := finish s (s.descSelect l v.toNat)
/-- A slot's frame is complete (R210). -/
def execFrameFillDone (l : Lane) (t : Pair) (slot : Bool) (s : State) : Host.Outcome State Fault Refusal :=
  finish s ((s.frameDone l t.val slot).laneEnd l)
/-- The halves of a pair differ (R205, R207, R281, R331). -/
def execLockstepMismatch (l : Lane) (d : Dual) (s : State) : Host.Outcome State Fault Refusal := finish s (s.dualMismatch l d)
/-- A word is read with an uncorrectable error (R208). -/
def execEccUncorrectable (l : Lane) (src : EccSrc) (s : State) : Host.Outcome State Fault Refusal :=
  finish s (
    let s := ((s.addSatF (R.FAB_ECC_COUNT l) 31 16 1).setB (R.FAB_EVENTS l) 1 true).healthBit l 1
    match src with
    | .store t => (s.mismatch l t.val 1 false).laneHalt l
    | .lpddr t => (s.mismatch l t.val 1 false).laneHalt l)
/-- END ends the segment (R210): one cycle, then step 3 of Table 09-3. -/
def execOpEnd (i : OpIssue) (s : State) : Host.Outcome State Fault Refusal :=
  finish s (if s.issues i 0x01 1 then
      ((s.issueTo i 0x01 (fun _ => 1) (fun _ t => (t, []))).segEnd i.lane i.pair.val).laneTail i.lane
    else s.issueTo i 0x01 (fun _ => 1) (fun _ t => (t, [])))

/-! ### The step exchange (R362, R363) -/

/-- The standby lane. -/
def State.standby (s : State) : Option Lane :=
  if s.role .a = 1 ∨ (s.lane .a).gj.isSome then some .a else if s.role .b = 1 ∨ (s.lane .b).gj.isSome then some .b else none
/-- A fault of the lane link, in the standby (R363). -/
def State.laneLink (s : State) : State := match s.standby with | some l => s.healthBit l 4 | none => s
/-- The standby receives the step exchange (R362). -/
def State.stepRx (s : State) (ok : Bool) : State :=
  match s.xl.xq, s.standby with
  | x :: q, some l =>
    if !ok then ({ s with xl := { s.xl with xq := q } } : State).laneLink
    else if !(s.lane l).bndWait.contains x.k then s
    else
      let s : State := { s with xl := { s.xl with xq := q, acks := s.xl.acks ++ [(x.k, x.at_)] } }
      ((s.modLane l (fun y => { y with bndWait := y.bndWait.filter (· != x.k) })).laneCreate l x).laneTail l
  | _, _ => s
/-- The standby receives the step exchange (R362). -/
def execStepExchangeRx (ok : Bool) (s : State) : Host.Outcome State Fault Refusal := finish s (s.stepRx ok)
/-- The active lane receives the acknowledgement: the skew (R362, R363). -/
def State.stepAck (s : State) (ok : Bool) : State :=
  match s.xl.acks with
  | [] => s
  | (_, t) :: q =>
    let s : State := { s with xl := { s.xl with acks := q } }
    if !ok then s
    else
      let sk := s.now - t - 600
      let s := (s.setF R.WDN_SKEW 15 0 (min 65535 sk)).onIf (decide (s.fld R.WDN_SKEW_CREST 15 0 < min 65535 sk)) (fun s => s.setF R.WDN_SKEW_CREST 15 0 (min 65535 sk))
      match s.standby with
      | some l => s.onIf (decide (2000 < sk)) (fun s => s.healthBit l 5)
      | none => s
/-- The acknowledgement of a step exchange (R362). -/
def execStepAckRx (ok : Bool) (s : State) : Host.Outcome State Fault Refusal := finish s (s.stepAck ok)
/-- No step exchange within 2 000 ns (R363). -/
def execStepExchangeTimeout (s : State) : Host.Outcome State Fault Refusal :=
  finish s (match s.standby with
    | some l => s.onIf (!(s.lane l).bndWait.isEmpty) State.laneLink
    | none => s)
/-- A finish report of the other lane (R291). -/
def execFinishReportRx (l : Lane) (ok : Bool) (s : State) : Host.Outcome State Fault Refusal :=
  finish s (match (match l with | .a => s.xl.repA | .b => s.xl.repB) with
    | [] => s
    | r :: q =>
      let s : State := match l with
        | .a => { s with xl := { s.xl with repA := q } }
        | .b => { s with xl := { s.xl with repB := q } }
      s.onIf ok (fun s => s.modOpt l (fun o => { o with other := some r })))

end Sys2Proof.Machine
end

