-- ==== Sys2Proof/Machine/Ports.lean ====
section
/-! DEFINITION. Ports and MACs, and the switch core's events (05_ports.md, 06_switch_core.md). -/
namespace Sys2Proof.Machine

/-! ### Modes (R117) -/

/-- Table 05-1 allows the mode for the port. -/
def modeAllowed (p m : Nat) : Bool :=
  m == 0 || (m == 1 && decide (p < 40)) || m == 2 || (m == 3 && decide (p < 40)) || ((m == 4 || m == 5) && decide (40 ≤ p))
/-- The mode allows the FEC code. -/
def fecAllowed (m f : Nat) : Bool := f == 0 || (f == 1 && (m == 4 || m == 5)) || (f == 2 && m == 5)
/-- The mode a port runs: a code or FEC that is not allowed runs as Disabled (R117). -/
def State.portMode (s : State) (p : Nat) : Nat :=
  let m := s.fld (R.PRT_MODE p) 3 0
  if modeAllowed p m && fecAllowed m (s.fld (R.PRT_MODE p) 9 8) then m else 0
/-- MODE_ERR follows the records of the port (R117). -/
def State.portConfigure (s : State) (p : Nat) : State :=
  let m := s.fld (R.PRT_MODE p) 3 0
  let bad := !(modeAllowed p m && fecAllowed m (s.fld (R.PRT_MODE p) 9 8))
  (s.setB (R.PRT_STATUS p) 7 bad).onIf bad (fun s => s.setB (R.PRT_EVENTS p) 4 true)
/-- The mode supports EEE (Table 05-1). -/
def eeeMode (m : Nat) : Bool := m == 1 || m == 4 || m == 5
/-- PRT_STATUS.EEE_ACTIVE: the first three conditions of R127. -/
def State.eeeRefresh (s : State) (p : Nat) : State :=
  s.setB (R.PRT_STATUS p) 11 (eeeMode (s.portMode p) && s.bit (R.PRT_EEE_CTRL p) 0 && s.fld (R.PRT_EEE_TW p) 15 0 != 0)
/-- STEP takes BASE_STEP, 7 used as 6 (Table 05-5). -/
def State.stepBase (s : State) (p : Nat) : State := s.wr (R.PRT_CT_THRESH p) (min 6 (s.fld (R.PRT_FWD p) 10 8))

/-! ### Links (R118, R127, R128, R134) -/

/-- The speed code of a link that comes up: fixed by the mode, or in SGMII by auto-negotiation or SPEED. -/
def State.upSpeed (s : State) (p : Nat) (an : Nat) : Nat :=
  match s.portMode p with
  | 1 => if s.bit (R.PRT_MODE p) 6 then min 2 an else min 2 (s.fld (R.PRT_MODE p) 5 4)
  | 2 => 2
  | 3 => 3
  | 4 => 4
  | _ => 5
/-- The link comes up (R118); ports are in service while the module runs, and down in low tide (R30). -/
def State.linkUp (s : State) (p an : Nat) : State :=
  if s.portMode p = 0 ∨ s.portUp p ∨ !s.active then s
  else
    let s0 := s
    let m := s.portMode p
    let anOn := s.bit (R.PRT_MODE p) 6 && (m == 1 || m == 2)
    let k := R.PRT_STATUS p
    let st := putBits (putBits (putBits (putBits (s.rd k) 0 0 1) 3 1 (s.upSpeed p an)) 6 4 (b2n anOn + 6)) 8 8 0
    let st := putBits st 17 16 (s.fld (R.PRT_MODE p) 9 8)
    let s := (s.wr k st).setB (R.PRT_EVENTS p) 0 true
    State.lagCheck s0 (s.eeeRefresh p)
/-- A copy in transmission is abandoned: its cells are returned (R118, R134). -/
def State.abandonTx (s : State) (p : Nat) (count : Bool) : State :=
  match s.net.tx.lookup p with
  | none => s
  | some c =>
    let s := ({ s with net := { s.net with tx := mapDel s.net.tx p } }).endCopy c
    s.onIf count (fun s => s.portCnt p 46 1)
/-- LPI state of a port ends with its link. -/
def State.lpiOff (s : State) (p : Nat) : State :=
  { s.setF (R.PRT_STATUS p) 10 9 0 with net := { s.net with waking := s.net.waking.filter (fun w => w.1 != p) } }
/-- The link goes down (R118); the port's learned FDB entries are removed (R143). Without half duplex it is synchronisation that
is lost (DEDUCED, log entry 27). -/
def State.linkDown (s : State) (p : Nat) (half : Bool) : State :=
  let s := s.onIf half (fun s => (s.setB (R.PRT_STATUS p) 8 true).setB (R.PRT_EVENTS p) 5 true)
  if !s.portUp p then s
  else
    let s0 := s
    let k := R.PRT_STATUS p
    let s := s.wr k (putBits (putBits (s.rd k) 6 0 (14 + (if half then s.fld k 6 5 * 32 else 0))) 17 16 0)
    let s := (s.setB (R.PRT_EVENTS p) 1 true).portCnt p 50 1
    let s := ((s.abandonTx p true).lpiOff p).fdbFlushPort p
    State.lagCheck s0 s
/-- A port reset (R134, R156). -/
def State.portReset (s : State) (p : Nat) : State :=
  let s0 := s
  let up := s.portUp p
  let s : State := (s.abandonTx p false).lpiOff p
  let s : State := { s with net := { s.net with
    copies := s.net.copies.map (fun (c : Copy) => if c.x = p then { c with held := 0, left := 0 } else c)
    tc := s.net.tc.filter (fun (t : TcEntry) => t.port != p)
    snapAcc := s.net.snapAcc.filter (fun (e : Nat × Nat) => e.1 / 24 != p) } }
  let s := s.restore (fun (k : RKind) a => k == .t && isPortKey p a)
  let s := ((s.stepBase p).portConfigure p).eeeRefresh p
  let s := s.onIf up (fun s => s.setB (R.PRT_EVENTS p) 1 true)
  State.lagCheck s0 (s.fdbFlushPort p)
/-- Port reset (R134). -/
def execPortReset (p : Port) (s : State) : Host.Outcome State Fault Refusal := finish s (s.portReset p.val)
/-- The link of a port comes up; `speed` is what in-band status or auto-negotiation gives (R118). -/
def execLinkUp (p : Port) (speed : Fin 8) (s : State) : Host.Outcome State Fault Refusal := finish s (s.linkUp p.val speed.val)
/-- The link of a port goes down; `half` says that half duplex was reported (R118). -/
def execLinkDown (p : Port) (half : Bool) (s : State) : Host.Outcome State Fault Refusal := finish s (s.linkDown p.val half)

/-! ### Reception (R119 to R124, R129, R136, R137) -/

/-- The counters of a received frame: octets, one of 2 to 5 and 13 to 19, one size bin (R129). -/
def State.rxCount (s : State) (p : Nat) (b : Bytes) (codeErr : Bool) : State :=
  let l := b.length
  let m := s.maxLen p
  let ok := fcsOk b
  let s := s.portCnt p 1 l
  let s := if 64 ≤ l ∧ l ≤ m then s.portCnt p (6 + sizeBin l) 1 else s
  if l < 64 then s.portCnt p (if ok then 13 else 14) 1
  else if m < l then s.portCnt p (if ok then 15 else 16) 1
  else if codeErr then s.portCnt p 19 1
  else if fcsStomped b then s.portCnt p 18 1
  else if !ok then s.portCnt p 17 1
  else if frEt b = 0x8808 then (s.portCnt p 5 1).portCnt p 0 l
  else (s.portCnt p (2 + addrKind (frDst b)) 1).portCnt p 0 l
/-- The admission of a good frame's copies, and learning (R137, R143). -/
def State.rxGood (s : State) (p : Nat) (b : Bytes) (vid cls id cells : Nat) : State :=
  let (ps, s) := s.plans p (noFcs b) vid cls
  let s := ps.foldl (fun s q => s.copyAdmit (s.mkCopy id cells cls q p)) s
  (s.settleCt id cells).fdbLearn p (frSrc b) vid none
/-- A frame that proves bad, too long or without a cell: only cut-through copies exist, and each ends with a stomped FCS
after `keep` bytes (R124, R136). -/
def State.rxBad (s : State) (p : Nat) (b : Bytes) (vid cls id cells stored keep : Nat) : State :=
  let (ps, s) := s.badPlans p b vid cls stored keep
  let s := ps.foldl (fun s q => s.copyAdmit { s.mkCopy id cells cls q p with stomp := true, bytes := withStomp q.bytes }) s
  s.settleCt id cells
/-- A frame received at a port, whole: it takes its cells and holds one reference until its reception ends, whatever becomes of it
(R124, R135, R136, R141). -/
def State.rxFrame (s : State) (p : Nat) (b : Bytes) (codeErr : Bool) : State :=
  let l := b.length
  let m := s.maxLen p
  let good := decide (64 ≤ l) && decide (l ≤ m) && fcsOk b && !codeErr
  let s := s.rxCount p b codeErr
  if good && frEt b == 0x8808 then s
  else
    let (vid, cls) := s.vidClass p b none
    let cells := cellsFor (min l m)
    let have_ := min (s.cellsAvail cls) cells
    let trunc := decide (have_ < cells)
    let stored := min (min l m) (128 * have_)
    let s := s.mirror1 p 0 b l (!fcsOk b) false trunc cls vid
    let s := s.onIf trunc (fun s => (s.addSat R.SWC_NOBUF_TRUNC 1).setB R.SWC_EVENTS 1 true)
    let (id, s) := s.newFrame (b.take stored) l p cls vid have_ none
    let s :=
      if !s.vlanTakes p vid then s.addSat (R.SWC_P_VLAN_DROP p) 1
      else if l < 64 then s
      else if trunc then s.rxBad p b vid cls id have_ stored stored
      else if m < l then s.rxBad p b vid cls id have_ stored (m - 4)
      else if !good then s.rxBad p b vid cls id have_ stored (l - 4)
      else s.rxGood p b vid cls id have_
    s.decRef id
/-- A port takes received frames: its link is up and no loopback keeps them away (Table 05-5). -/
def State.portListens (s : State) (p : Nat) : Bool := s.portUp p && s.fld (R.PRT_CTRL p) 1 0 == 0
/-- A frame that arrives on the mate link: a good one enters the switch whole (Table 06-2). -/
def State.mateFrame (s : State) (f : RxFrame) : State :=
  if s.active && decide (64 ≤ f.bytes.length) && fcsOk f.bytes && !f.codeErr then (s.enter 50 (noFcs f.bytes) none none none).2 else s
/-- A frame is received at a port (R124), or at P50 on the mate link (R145). Under far-end loopback it goes back on the wire and
no further (Table 05-5). P48 and P49 receive no frames from outside. -/
def execRxFrame (p : Xport) (f : RxFrame) (s : State) : Host.Outcome State Fault Refusal :=
  finish s (
    if p.val = 50 then s.mateFrame f
    else if 48 ≤ p.val then s
    else if s.portUp p.val && s.fld (R.PRT_CTRL p.val) 1 0 == 2 then s.emit (.frame p.val f.bytes)
    else s.onIf (s.portListens p.val) (fun s => s.rxFrame p.val f.bytes f.codeErr))

/-! ### Transmission (R122, R125, R126, R146) -/

/-- The queues of a port after discards at their heads. -/
def State.cleanPort (s : State) (x : Nat) : State :=
  (List.range 8).foldl (fun s c => s.cleanHead x c (s.queue x c).length) s
/-- The scheduler considers a port and a copy that `ok` accepts begins transmission (R146): its first cell has crossed, or a
credit lets it cross (R140). -/
def State.sched (s : State) (x : Nat) (ok : Copy → Bool) : State :=
  -- at an IO_FAULT the transmitters of P0 to P47 may be stopped (R379)
  if !s.canSend x || (decide (x < 48) && s.wdn.ioFault && s.bit R.WDN_CFG 4) then s
  else
    let s := s.cleanPort x
    match s.pick x (fun c => (s.queue x c).head?) with
    | (none, s) => s
    | (some c, s') => if ok c && (decide (c.held ≠ 0) || s.fld (R.SWC_P_CREDITS x) 5 0 != 0) then s'.beginTx c else s
/-- A cut-through copy starts (R122). -/
def execCutThroughStart (x : Xport) (s : State) : Host.Outcome State Fault Refusal := finish s (s.sched x.val (fun c => c.ct))
/-- A store-and-forward copy starts; copies for the host wait for RX_FRAME_DELIVER (R146, R106). -/
def execEgressStart (x : Xport) (s : State) : Host.Outcome State Fault Refusal :=
  finish s (s.onIf (x.val != 49) (fun s => s.sched x.val (fun c => !c.ct)))
/-- A copy ends at a port: its counters, its references, and where it went (R129, R135, R145, Table 05-5 LOOP). -/
def State.txEnd (s : State) (x : Nat) : State :=
  match s.net.tx.lookup x with
  | none => s
  | some c =>
    let s := { s with net := { s.net with tx := mapDel s.net.tx x } }
    let t := match s.frameOf c.fid with | some f => f.time | none => s.now
    let s := s.onIf c.ct (fun s => s.wireOut c c.bytes)
    let s := (s.txCount c).endCopy c
    let path := s.flowPath (noFcs c.bytes)
    if x = 48 then
      match c.vi with
      | some (n, g) =>
        if s.viGen n = g then { s with net := { s.net with inbox := s.net.inbox ++ [⟨noFcs c.bytes, n, g, t, path⟩] } } else s.genDiscard 1
      | none => { s with net := { s.net with inbox := s.net.inbox ++ [⟨noFcs c.bytes, 0, s.viGen 0, t, path⟩] } }
    else if x < 48 ∧ s.fld (R.PRT_CTRL x) 1 0 = 1 then s.rxFrame x c.bytes false
    else s
/-- A copy's transmission ends (R135). -/
def execCopyTxEnd (x : Xport) (s : State) : Host.Outcome State Fault Refusal := finish s (s.txEnd x.val)
/-- A cut-through copy lacks its next byte after `sent` bytes: those leave, and a stomped FCS, and no byte of the rest (R126). -/
def State.underrun (s : State) (p sent : Nat) : State :=
  match s.net.tx.lookup p with
  | none => s
  | some c =>
    if !c.ct then s
    else
      let s := { s with net := { s.net with tx := mapDel s.net.tx p } }
      let s := ((s.portCnt p 44 1).portCnt p 45 1).portCnt p (36 + sizeBin (sent + 4)) 1
      let s := ((s.setB (R.PRT_EVENTS p) 2 true).emit (.frame p (withStomp (c.bytes.take sent)))).emit (.stomped p)
      let s := s.setF (R.PRT_CT_THRESH p) 2 0 (min 6 (s.fld (R.PRT_CT_THRESH p) 2 0 + 1))
      s.endCopy c
/-- A cut-through copy underruns (R126). -/
def execTxUnderrun (p : Port) (sent : Fin 9216) (s : State) : Host.Outcome State Fault Refusal :=
  finish s (s.underrun p.val sent.val)

/-! ### Low-power idle (R127, R128) -/

/-- The conditions under which a port enters LPI (R127). -/
def State.lpiMay (s : State) (p : Nat) : Bool :=
  eeeMode (s.portMode p) && s.bit (R.PRT_EEE_CTRL p) 0 && s.fld (R.PRT_EEE_TW p) 15 0 != 0 && s.portUp p &&
    !s.net.copies.any (fun c => c.x == p) && (s.net.tx.lookup p).isNone && !s.bit (R.PRT_STATUS p) 9 &&
    !s.net.waking.any (fun w => w.1 == p)
/-- A port signals low-power idle (R127). -/
def execLpiEnter (p : Port) (s : State) : Host.Outcome State Fault Refusal :=
  finish s (s.onIf (s.lpiMay p.val) (fun s =>
    ((s.setB (R.PRT_STATUS p.val) 9 true).portCnt p.val 48 1).emit (.lpi p.val true)))
/-- The wait after LPI ends: the copy that ended it begins; without one, or once it is gone, the scheduler picks (R128). -/
def State.lpiWake (s : State) (p : Nat) : State :=
  match s.net.waking.find? (fun w => w.1 == p) with
  | none => s
  | some w =>
    let s : State := { s with net := { s.net with waking := s.net.waking.filter (fun v => v.1 != p) } }
    let s := s.cleanPort p
    match (if s.canSend p then s.net.copies.find? (fun c => c.x == p && some c.fid == w.2) else none) with
    | some c => s.beginTx c
    | none => s.sched p (fun _ => true)
/-- The wait after LPI ends and the waiting copy begins (R128). -/
def execLpiWakeEnd (p : Port) (s : State) : Host.Outcome State Fault Refusal := finish s (s.lpiWake p.val)
/-- The link partner enters low-power idle (R128). -/
def execLpiReceived (p : Port) (s : State) : Host.Outcome State Fault Refusal :=
  finish s (s.onIf (s.portUp p.val) (fun s => (s.setB (R.PRT_STATUS p.val) 10 true).portCnt p.val 20 1))
/-- EEE_EN is cleared during LPI: LPI ends at once, with the same wait (R128). -/
def State.eeeWritten (s : State) (p : Nat) : State :=
  let s := s.eeeRefresh p
  if s.bit (R.PRT_EEE_CTRL p) 0 then s else s.endLpi p none

/-! ### Snapshots and management buses (R131, R132) -/

/-- A statistics snapshot of a port (R131). -/
def State.snap (s : State) (p : Nat) : State :=
  let seq := (s.fld (R.PRT_SNAP_SEQ p) 15 0 + 1) % 65536
  let s := (List.range 23).foldl (fun s w => s.wr (R.PRT_SNAPWIN p w) (min 4294967295 (mapGet s.net.snapAcc (24 * p + w) 0))) s
  let s := { s with net := { s.net with snapAcc := s.net.snapAcc.filter (fun (e : Nat × Nat) => e.1 / 24 != p) } }
  ((s.wr (R.PRT_SNAPWIN p 23) seq).wr (R.PRT_SNAP_SEQ p) seq).setB (R.PRT_EVENTS p) 6 true
/-- PRT_SNAP.THIS (R131). -/
def execPortSnapThis (p : Port) (s : State) : Host.Outcome State Fault Refusal := finish s (s.snap p.val)
/-- PRT_SNAP.ALL: all 48 ports in the same clock (R131). -/
def execPortSnapAll (s : State) : Host.Outcome State Fault Refusal := finish s ((List.range 48).foldl (fun s p => s.snap p) s)
/-- A management frame begins on MDIO, unless BUSY (R132). -/
def State.mdioStart (s : State) (op word : Nat) : State :=
  if s.bit R.PRT_MDIO_STATUS 16 then s
  else
    let w := putBits word 1 0 op
    ((({ s with net := { s.net with mdioOp := some w } }).setB R.PRT_MDIO_STATUS 16 true)).emit (.mdio op w)
/-- A Clause 45 address frame (R132). -/
def execMdioAddress (v : Word) (s : State) : Host.Outcome State Fault Refusal := finish s (s.mdioStart 0 v.toNat)
/-- A management write frame (R132). -/
def execMdioWrite (v : Word) (s : State) : Host.Outcome State Fault Refusal := finish s (s.mdioStart 1 v.toNat)
/-- A management read frame (R132). -/
def execMdioRead (v : Word) (s : State) : Host.Outcome State Fault Refusal := finish s (s.mdioStart 2 v.toNat)
/-- An MDIO command ends; `data` is what a read returned (R132). -/
def execMdioDone (data : W16) (s : State) : Host.Outcome State Fault Refusal :=
  finish s (match s.net.mdioOp with
    | none => s
    | some w =>
      let s := ({ s with net := { s.net with mdioOp := none } }).setB R.PRT_MDIO_STATUS 16 false
      (s.onIf (bitsOf w 1 0 == 2) (fun s => s.setF R.PRT_MDIO_STATUS 15 0 data.toNat)).setB (R.PRT_EVENTS 0) 8 true)
/-- A transfer begins on the cage bus, unless BUSY (R132). -/
def State.cageStart (s : State) (read : Bool) (word : Nat) : State :=
  if s.bit R.PRT_CAGE_STATUS 8 then s
  else
    let w := putBits word 7 7 (b2n read)
    ((({ s with net := { s.net with cageOp := some w } }).setB R.PRT_CAGE_STATUS 8 true)).emit (.cage w)
/-- A cage bus read (R132). -/
def execCageRead (v : Word) (s : State) : Host.Outcome State Fault Refusal := finish s (s.cageStart true v.toNat)
/-- A cage bus write (R132). -/
def execCageWrite (v : Word) (s : State) : Host.Outcome State Fault Refusal := finish s (s.cageStart false v.toNat)
/-- A cage command ends, acknowledged or not: CAGE_DONE, and CAGE_NACK where it was not (R132, Table 05-7). -/
def execCageDone (data : Byte) (ack : Bool) (s : State) : Host.Outcome State Fault Refusal :=
  finish s (match s.net.cageOp with
    | none => s
    | some w =>
      let s := ({ s with net := { s.net with cageOp := none } }).setF R.PRT_CAGE_STATUS 9 8 (2 * b2n (!ack))
      let s := s.onIf (ack && w.testBit 7) (fun s => s.setF R.PRT_CAGE_STATUS 7 0 data.toNat)
      (s.setB (R.PRT_EVENTS 0) 9 true).onIf (!ack) (fun s => s.setB (R.PRT_EVENTS 0) 10 true))
/-- A falling edge on PHY_nINT (R132). -/
def execPhyInt (s : State) : Host.Outcome State Fault Refusal :=
  finish s ((s.setB (R.PRT_EVENTS 0) 7 true).setB R.PRT_PHY_CTRL 8 true)

/-! ### The crossbar (R139, R140) -/

/-- A copy whose next cell may cross: cells remain, and at P49 its VI has a receive descriptor (R106, R139). -/
def State.cellReady (s : State) (c : Copy) : Bool :=
  decide (c.held + c.left < c.charge) &&
    (c.x != 49 || (match c.vi with | some (n, _) => !(mapGet s.host.rings n {}).rxPosted.isEmpty | none => false))
/-- The copies whose cells cross: those in transmission, then those queued. -/
def State.liveCopies (s : State) : List Copy := s.net.tx.map (·.2) ++ s.net.copies
/-- The highest class an input holds for an output, if it holds an eligible cell and the output a credit. -/
def State.request (s : State) (i o : Nat) : Option Nat :=
  if s.fld (R.SWC_P_CREDITS o) 5 0 = 0 then none
  else (s.liveCopies.filter (fun c => c.x == o && s.cellReady c && (match s.frameOf c.fid with | some f => f.src == i | none => false))).foldl
    (fun m c => match m with | none => some c.cls | some k => some (max k c.cls)) none
/-- The first of the candidates at or after a pointer among those of the highest class: (port, class) pairs. -/
def firstOf (ptr : Nat) (l : List (Nat × Nat)) : Option Nat :=
  let top := l.foldl (fun m c => max m c.2) 0
  let best := (l.filter (fun c => c.2 == top)).map (·.1)
  ((List.range 51).map (fun d => (ptr + d) % 51)).find? (fun p => best.contains p)
/-- One round of matching: requests of unmatched inputs, grants, accepts; the answer adds (input, output) pairs. -/
def State.xbarRound (s : State) (done : List (Nat × Nat)) : List (Nat × Nat) :=
  let ins := (List.range 51).filter (fun i => !done.any (fun m => m.1 == i))
  let outs := (List.range 51).filter (fun o => !done.any (fun m => m.2 == o))
  let grants := outs.filterMap (fun o =>
    let reqs := ins.filterMap (fun i => (s.request i o).map (fun c => (i, c)))
    (firstOf (nth s.net.grant o 0) reqs).map (fun i => (i, o, ((s.request i o).getD 0))))
  ins.filterMap (fun i =>
    let gs := (grants.filter (fun g => g.1 == i)).map (fun g => (g.2.1, g.2.2))
    (firstOf (nth s.net.accept i 0) gs).map (fun o => (i, o)))
/-- A matched cell crosses: the output's credit is taken and its oldest eligible copy of the highest class moves on. -/
def State.crossCell (s : State) (m : Nat × Nat) : State :=
  let cls := (s.request m.1 m.2).getD 0
  match s.liveCopies.find? (fun c => c.x == m.2 && c.cls == cls && s.cellReady c &&
      (match s.frameOf c.fid with | some f => f.src == m.1 | none => false)) with
  | none => s
  | some c =>
    let up := fun (q : Copy) => if q = c then { q with held := q.held + 1 } else q
    ({ s with net := { s.net with copies := s.net.copies.map up, tx := s.net.tx.map (fun (e : Nat × Copy) => (e.1, up e.2)) } }).creditTake m.2
/-- The rate of a crossbar port in Mb/s: of its link, or of the internal port (Tables 05-6, 06-2). -/
def State.portRate (s : State) (x : Nat) : Nat :=
  if x < 48 then nth [10, 100, 1000, 2500, 10000, 25000] (s.portSpeed x) 10 else if x = 50 then 50000 else 64000
/-- Cells of a copy in transmission that have left its output's buffer by now, at the rate of the port. -/
def State.cellsGone (s : State) (c : Copy) : Nat := min c.held ((s.now - c.txAt) * s.portRate c.x / 8000 / 128 - c.left)
/-- The outputs return the credits of the cells that have left their buffers (R140, log entry 28). -/
def State.drain (s : State) : State :=
  s.net.tx.foldl (fun s e =>
    let n := s.cellsGone e.2
    if n = 0 then s
    else ({ s with net := { s.net with tx := mapPut s.net.tx e.1 { e.2 with held := e.2.held - n, left := e.2.left + n } } } : State).creditBack e.1 n) s
/-- One cell time of 16 ns: three rounds, the pointers of round-1 matches, the cells (R139). -/
def State.cellTime (s : State) : State :=
  let s := s.drain
  let r1 := s.xbarRound []
  let r2 := r1 ++ s.xbarRound r1
  let r3 := r2 ++ s.xbarRound r2
  let s := { s with net := { s.net with
    grant := r1.foldl (fun g m => modAt g m.2 (fun _ => (m.1 + 1) % 51)) s.net.grant
    accept := r1.foldl (fun a m => modAt a m.1 (fun _ => (m.2 + 1) % 51)) s.net.accept } }
  r3.foldl (fun s m => s.crossCell m) s
/-- A cell time of the crossbar (R139). -/
def execCrossbarCellTime (s : State) : Host.Outcome State Fault Refusal := finish s s.cellTime

/-! ### Timed removals (R143, R147, R151 to R153) -/

/-- A learned entry that has not been seen for SWC_FDB_AGE seconds is removed; 0 never ages. The clocks run up to the end of its
seconds (R143, log entry 2). -/
def State.fdbAgeOut (s : State) (e : Nat) : State :=
  let age := s.fld R.SWC_FDB_AGE 15 0
  if !s.bit (R.SWC_FDB1 e) 28 || s.bit (R.SWC_FDB1 e) 29 || s.bit (R.SWC_FDB1 e) 30 || age == 0 then s
  else (s.elapse ((age - s.fld (R.SWC_FDB3 e) 15 0) * 1000000000)).fdbRemove e
/-- A learned entry has not been seen for SWC_FDB_AGE seconds (R143). -/
def execFdbAgeOut (i : Fin 32768) (s : State) : Host.Outcome State Fault Refusal := finish s (s.fdbAgeOut i.val)
/-- The copies at the head of a queue that are older than their class allows are discarded (R147). -/
def State.sweepHead (s : State) (x c : Nat) : Nat → State
  | 0 => s
  | n + 1 =>
    match (s.queue x c).head? with
    | none => s
    | some q => if s.tooOld q then (((s.takeCopy q).endCopy q).addSat (R.SWC_P_AGEDROP x c) 1).sweepHead x c n else s
/-- The sweep visits the head of every queue (R147). -/
def execAgeSweep (s : State) : Host.Outcome State Fault Refusal :=
  finish s ((List.range 408).foldl (fun s q => s.sweepHead (q / 8) (q % 8) (s.queue (q / 8) (q % 8)).length) s)
/-- ENTRY_FORGET in ms, 0 used as 1 (Table 06-5). -/
def State.redForget (s : State) (n : Nat) : Nat := max 1 (s.fld (R.SWC_RED_TIMES n) 15 0)
/-- A duplicate-discard entry is forgotten ENTRY_FORGET ms after it was made; the clocks run up to that instant (R151, log entry 2). -/
def State.redEntryForget (s : State) (n src seq : Nat) : State :=
  match s.dupFind n src seq with
  | none => s
  | some d =>
    let s := s.elapse (d.made + s.redForget n * 1000000 - s.now)
    { s with net := { s.net with dups := s.net.dups.filter (fun e => !(e.set == n && e.src == src && e.seq == seq)) } }
/-- A duplicate-discard entry is forgotten (R151). -/
def execRedEntryForget (n : Fin 4) (src : BitVec 48) (seq : W16) (s : State) : Host.Outcome State Fault Refusal :=
  finish s (s.redEntryForget n.val src.toNat seq.toNat)
/-- The supervision frame of IEC 62439-3 of a set's own node (R152), without FCS (log). -/
def State.supFrame (s : State) (n seq : Nat) : Bytes :=
  let own := beBytes 6 (s.macAddr 48)
  let typ := if s.redMode n = 1 ∨ s.redMode n = 3 then 20 else 23
  beBytes 6 0x01154E000100 ++ own ++ beBytes 2 0x88FB ++ beBytes 2 1 ++ beBytes 2 seq ++
    beBytes 1 typ ++ beBytes 1 6 ++ own ++ beBytes 2 0
/-- A redundancy set sends its supervision frame while LIFE_CHECK is not 0 (R152, R249). -/
def execRedSupervisionSend (n : Fin 4) (s : State) : Host.Outcome State Fault Refusal :=
  finish s (
    if s.redMode n.val = 0 ∨ s.fld (R.SWC_RED_TIMES n.val) 31 16 = 0 then s
    else
      let seq := nth s.net.supSeq n.val 0
      let (_, a, b, _) := s.redRaw n.val
      let f := s.supFrame n.val seq
      let s := { s with net := { s.net with supSeq := modAt s.net.supSeq n.val (fun q => (q + 1) % 65536) } }
      (s.enter 48 f (some 7) (some [a, b]) none).2)
/-- A held two-step correction that was not used within 1 ms (R153). -/
def execTcFollowupTimeout (p : Port) (seq : W16) (s : State) : Host.Outcome State Fault Refusal :=
  finish s (match s.net.tc.find? (fun t => t.port == p.val && t.seqId == seq.toNat) with
    | none => s
    | some t =>
      let s := { s with net := { s.net with tc := s.net.tc.erase t } }
      (s.addSat (R.SWC_P_TC_MISS p.val) 1).setB R.SWC_EVENTS 5 true)

end Sys2Proof.Machine
end

