-- ==== Sys2Proof/Machine/Warden.lean ====
section
/-! DEFINITION. The wardens, the health of the lanes, switching and repair (16_redundancy.md, R360 to R386). -/
namespace Sys2Proof.Machine

/-! ### Lanes as the wardens see them (R360 to R366) -/

def laneOfIx (n : Nat) : Lane := if n = 1 then .b else .a
/-- FAULT bits of a lane's health word; LANE_LINK and SKEW are never faults of the active lane (R363, R364). -/
def State.laneFaults (s : State) (l : Lane) : Nat :=
  let h := s.fld (R.WDN_HEALTH (laneIx l)) 11 0
  if s.role l = 0 then h &&& 0xFCF else h
/-- The lane speaks for no index: HALTED, or no longer consuming, or its messages are not used (R207, R198, R244). -/
def State.laneStopped (s : State) (l : Lane) : Bool := s.sluStopped l || s.mute l
/-- Entries of a lane into REPAIRING within 3 600 s (R366 item 4). -/
def State.repairs (s : State) (l : Lane) : Nat :=
  (s.wdn.entries.filter (fun e => e.1 == laneIx l && decide (s.now ≤ e.2 + 3600000000000))).length
def State.repairLimit (s : State) (l : Lane) : Bool := decide (max 1 (s.fld R.WDN_CFG 23 16) ≤ s.repairs l)
/-- What a lane that faults becomes: FAILED, or RETIRED after too many repairs (R366). -/
def State.failRole (s : State) (l : Lane) : Nat := if s.repairLimit l then 4 else 2
/-- A repair is running (WDN_RSYNC_STATUS.BUSY), of which lane, in which phase. -/
def State.rsBusy (s : State) : Bool := s.bit R.WDN_RSYNC_STATUS 0
def State.rsLane (s : State) : Lane := laneOfBit (s.bit R.WDN_RSYNC_STATUS 1)
def State.rsPhase (s : State) : Nat := if s.rsBusy && s.fld R.WDN_RSYNC_STATUS 6 4 == 0 then 8 else s.fld R.WDN_RSYNC_STATUS 6 4
/-- The join index has been reached: the commit point of the resynchronisation (R375). -/
def State.rsJoined (s : State) : Bool := s.rsBusy && (s.lane s.rsLane).gj.isSome
/-- The lane named ACTIVE. -/
def State.activeOf (s : State) : Option Lane := if s.role .a = 0 then some .a else if s.role .b = 0 then some .b else none

/-! ### Wardens (R369 to R371) -/

def State.unfenced (s : State) (w : Nat) : Bool := s.bit R.WDN_STATUS (16 + w)
def State.wardens (s : State) : List Nat := [0, 1, 2].filter (fun w => s.unfenced w)
def State.isSplit (s : State) : Bool := s.bit R.WDN_STATUS 5
/-- Two wardens can agree (R370, R371). -/
def State.canVote (s : State) : Bool := decide (2 ≤ s.wardens.length) && !s.isSplit
/-- ARMED as the wardens want it (R361, R366, R370, R371, R375, R379). -/
def State.wantArmed (s : State) : Bool :=
  s.bit R.WDN_CFG 1 && s.bit R.WDN_STATUS 4 && !s.isSplit && !s.silent && !s.wdn.ioFault && s.role s.srcLane == 0 &&
    s.laneFaults .a == 0 && s.laneFaults .b == 0
/-- The roles, the lane to be repaired and the switch that R366 and R372 to R377 ask for as things stand. -/
def State.wantRoles (s : State) : (Lane → Nat) × Option Lane × Bool :=
  match s.activeOf with
  | none =>
    -- a lane can join only from an ACTIVE lane (R378)
    (fun l => if s.role l = 3 then 2 else s.role l, none, false)
  | some a =>
    let o := otherLane a
    let fa := s.laneFaults a
    let fo := s.laneFaults o
    let set := fun (x y : Nat) (l : Lane) => if l = a then x else y
    if s.srcLane == o && !s.silent && s.role o == 1 then
      -- the arbiter has changed the source: a take-over, or a SWITCH (R366 items 2 and 3, R372)
      (set (if fa ≠ 0 || s.laneStopped a then s.failRole a else 1) 0, none, false)
    else if s.silent && s.role o == 3 && !s.rsJoined then (set 2 2, none, false)
    else
      let sw := fa != 0 && !s.laneStopped a && s.armed && s.bit R.WDN_STATUS 4
      if s.role o = 1 ∧ fo ≠ 0 then (set 0 (s.failRole o), none, sw)
      else if s.role o = 3 ∧ fo ≠ 0 ∧ !s.rsJoined then
        if s.repairLimit o then (set 0 4, none, sw) else (set 0 3, some o, sw)
      else if s.role o = 3 ∧ fo ≠ 0 then (set 0 (s.failRole o), none, sw)
      else if s.role o = 2 ∧ s.bit R.WDN_CFG 0 ∧ !s.wdn.noRepair.contains (laneIx o) ∧ !s.silent ∧ !s.rsBusy ∧ !s.repairLimit o then
        (set 0 3, some o, sw)
      else (set 0 (s.role o), none, sw)
/-- The lane is lockstep-clean: it has not stopped, and its health word has neither LOCKSTEP nor ECC_UNCORR (R24, R250; DEDUCED, log
entry 36). -/
def State.lockClean (s : State) (l : Lane) : Bool := !s.laneStopped l && s.fld (R.WDN_HEALTH (laneIx l)) 1 0 == 0
/-- The source that the wardens name: the arbiter's, or the ACTIVE lane while it is SILENT (log entry 36). -/
def State.wantSource (s : State) : Lane := if s.silent then (s.activeOf).getD s.srcLane else s.srcLane
/-- The decision word of any working warden, but for its fence bits (R369). -/
def State.wdnWord (s : State) : WWord :=
  let r := s.wantRoles
  { roleA := r.1 .a, roleB := r.1 .b, src := laneIx s.wantSource, armed := s.wantArmed, repair := r.2.1.map laneIx
    phase := s.rsPhase, sw := if r.2.2 then some (s.afterDone s.srcLane) else none, fence := 0, sent := s.now }
/-- Two words differ in a field other than the fence bits of the two wardens themselves. -/
def wordDiffer (w v : Nat) (a b : WWord) : Bool :=
  let third := 3 - w - v
  a.roleA != b.roleA || a.roleB != b.roleB || a.src != b.src || a.armed != b.armed || a.repair != b.repair || a.phase != b.phase ||
    a.sw.isSome != b.sw.isSome || a.fence.testBit third != b.fence.testBit third
/-- A warden is fenced: lost, with its cause (R371). -/
def State.fenceWarden (s : State) (v cause : Nat) : State :=
  let s := (s.setB R.WDN_STATUS (16 + v) false).setF (R.WDN_WARDEN v) 3 0 (2 * cause)
  (s.setB R.WDN_EVENTS 4 true).eventOpen 0x30
/-- Warden `w` computes and sends its word; fences and SPLIT follow (R369, R371). -/
def State.wardenRound (s : State) (w : Nat) (island : Nat → Nat := fun _ => 0) : State :=
  let others := [0, 1, 2].filter (· != w)
  let base := s.wdnWord
  -- rounds without a word of each other warden
  let miss := others.foldl (fun m v => mapPut m (3 * w + v) (mapGet m (3 * w + v) 0 + 1)) s.wdn.miss
  let old := s.wdn.words.lookup w
  let keep := match old with | some o => o.fence | none => 0
  let word := { base with fence := keep }
  let differs := fun (v : Nat) => match s.wdn.words.lookup v with | some x => s.unfenced v && wordDiffer w v word x | none => false
  let dis := others.foldl (fun m v => mapPut m (3 * w + v) (if differs v then mapGet m (3 * w + v) 0 + 1 else 0)) s.wdn.dis
  let fence := others.foldl (fun f v =>
    if !s.unfenced v || island v ≠ 0 || 4 ≤ mapGet miss (3 * w + v) 0 || 8 ≤ mapGet dis (3 * w + v) 0 then f ||| 2 ^ v else f - (f &&& 2 ^ v)) 0
  let s := others.foldl (fun s v => s.onIf (differs v) (fun s => s.addSatF (R.WDN_WARDEN v) 15 8 1)) s
  let s : State := { s with wdn := { s.wdn with
    words := mapPut s.wdn.words w { word with fence := fence }
    -- the others have a word of this warden
    miss := others.foldl (fun m v => mapPut m (3 * v + w) 0) miss
    dis := dis } }
  if !s.unfenced w then s
  else
    let s := others.foldl (fun s v =>
      let u := 3 - w - v
      let both := match s.wdn.words.lookup u with | some x => s.unfenced u && x.fence.testBit v | none => false
      s.onIf (s.unfenced v && fence.testBit v && both) (fun s => s.fenceWarden v (if island v ≠ 0 then island v else if 4 ≤ mapGet miss (3 * w + v) 0 then 1 else 2))) s
    -- two wardens left that differ (R371)
    match s.wardens.filter (· != w) with
    | [v] => s.onIf (!s.isSplit && decide (8 ≤ mapGet dis (3 * w + v) 0)) (fun s => (s.setB R.WDN_STATUS 5 true).setB R.WDN_EVENTS 10 true)
    | _ => s
/-- A warden computes and sends its decision word (R369). A fenced warden's word is used only by its restart. `island` names a warden
whose island reports a fault of its supply (false) or of its clock (true) as this round sees it (R371). -/
def execWardenDecision (w : Warden) (island : Option (Warden × Bool)) (s : State) : Host.Outcome State Fault Refusal :=
  finish s (s.onIf (s.unfenced w.val || s.wdn.restarting.contains w.val) (fun s =>
    s.wardenRound w.val (fun v => match island with | some (u, clk) => if u.val = v then 3 + b2n clk else 0 | none => 0)))
/-- The words that a voter holds: of unfenced wardens, no older than 3 us (R370). -/
def State.curWords (s : State) : List WWord :=
  s.wdn.words.filterMap (fun e => if s.unfenced e.1 && decide (s.now ≤ e.2.sent + 3000) then some e.2 else none)
/-- The value on which two words agree. -/
def voted {α : Type} [DecidableEq α] (ws : List WWord) (f : WWord → α) : Option α :=
  (ws.find? (fun x => decide (2 ≤ (ws.filter (fun y => decide (f y = f x))).length))).map f

/-! ### Roles (R360, R366) -/

/-- A lane takes a role, with the event record of R366. -/
def State.roleSet (s : State) (l : Lane) (r : Nat) : State :=
  let old := s.role l
  if old = r then s
  else
    let s := match l with
      | .a => s.setF R.WDN_STATUS 10 8 r
      | .b => s.setF R.WDN_STATUS 14 12 r
    s.event 0x30 (laneIx l) [Config.rolePack old r, s.rd (R.WDN_HEALTH (laneIx l))]
/-- A lane that becomes ACTIVE decides the boundaries for which it still awaits an exchange: by the one on its way, or itself (R362). -/
def State.laneActivate (s : State) (l : Lane) : State :=
  let ks := (s.lane l).bndWait
  let xs := s.xl.xq
  let s : State := { s with xl := { s.xl with xq := [], acks := [] } }
  ks.foldl (fun s k =>
    let x := match xs.find? (fun x => x.k == k) with | some x => x | none => s.laneDecide l k
    (s.laneCreate l x).laneTail l) (s.modLane l (fun y => { y with bndWait := [] }))
/-- A lane reset (R11, R374 phase 1, R230, R254, R267, R297, R315): its memory stays. -/
def State.laneReset (s : State) (l : Lane) : State :=
  let s := s.rstDiscard.sluLaneReset l
  let s := s.setLane l { mem := (s.lane l).mem }
  let s : State := match l with
    | .a => { s with nrgA := {}, recA := {} }
    | .b => { s with nrgB := {}, recB := {} }
  let s : State := { s with xl := { s.xl with xq := [], acks := [], repA := [], repB := [] } }
  (s.restore (fun k q => k == .l && isLaneKey q && laneOfKey q == l)).holdLink l
/-- ARMED falls. -/
def State.disarm (s : State) : State := (s.setB R.SLU_STATUS 1 false).arbMirror
/-- A lane that has joined leaves its role before it has settled: the join stands, the resynchronisation is over (Table 16-5, at or after J). -/
def State.joinDrop (s : State) (l : Lane) : State :=
  if (s.lane l).gj.isNone then s
  else
    let s := ((s.modLane l (fun x => { x with gj := none })).wr R.WDN_RSYNC_RESULT 1).wr R.WDN_RSYNC_STATUS 0
    { s with wdn := { s.wdn with join := none, waits := none } }
/-- A lane takes the role the voters have agreed on, with what that role asks for (Table 16-1). -/
def State.roleTake (s : State) (l : Lane) (r : Nat) : State :=
  let old := s.role l
  if old = r then s
  else
    let s := (s.roleSet l r).onIf (decide (2 ≤ r)) (fun s => s.joinDrop l)
    if r = 0 then s.laneActivate l
    else if r = 4 then (s.disarm.laneReset l)
    else if r = 2 ∧ old ≠ 0 then s.disarm.laneOut l
    else s.onIf (r == 2) (fun s => s.setB R.SLU_STATUS (4 + laneIx l) false)

/-! ### Repair (R373 to R377) -/

/-- WDN_RSYNC_STATUS: BUSY, lane, phase, round; the phase field has three bits, so phase 8 reads 0 (log entry 31). -/
def State.rsSet (s : State) (l : Lane) (phase round : Nat) : State := s.wr R.WDN_RSYNC_STATUS (1 + 2 * laneIx l + 16 * (phase % 8) + 256 * round)
/-- A repair starts from phase 1 (R374): the lane enters REPAIRING and its FAULT bits are cleared (R364). -/
def State.repairStart (s : State) (l : Lane) : State :=
  let s := s.roleSet l 3
  let s := ((s.setF (R.WDN_HEALTH (laneIx l)) 11 0 0).wr R.WDN_RSYNC_PROGRESS 0).rsSet l 1 0
  let s : State := { s with wdn := { s.wdn with
    entries := (laneIx l, s.now) :: s.wdn.entries.filter (fun e => decide (s.now ≤ e.2 + 3600000000000))
    noRepair := s.wdn.noRepair.filter (· != laneIx l), waits := none, join := none } }
  s.disarm.laneReset l
/-- A repair restarts under Table 16-5. -/
def State.repairAgain (s : State) (l : Lane) : State := ((s.wr R.WDN_RSYNC_RESULT 2).addSat R.WDN_RSYNC_ATTEMPTS 1).repairStart l
/-- A repair ends without a join (R377). -/
def State.repairEnd (s : State) (result : Nat) : State :=
  let s := (s.wr R.WDN_RSYNC_RESULT result).addSat R.WDN_RSYNC_ATTEMPTS 1
  let s := (s.setB R.WDN_EVENTS 8 true).wr R.WDN_RSYNC_STATUS 0
  { s with wdn := { s.wdn with waits := none, join := none } }
/-- A repair fails: the lane is FAILED, with the health bit of the cause. -/
def State.repairFail (s : State) (l : Lane) (result hb : Nat) : State := ((s.healthBit l hb).repairEnd result).roleSet l (s.failRole l)
/-- A FAULT of the lane under repair: it restarts, or the lane is RETIRED (Table 16-5, R366 item 4). -/
def State.repairFault (s : State) (l : Lane) (hb : Nat) : State :=
  let s := s.healthBit l hb
  if s.repairLimit l then ((s.repairEnd 2).roleTake l 4) else s.repairAgain l
/-- The image whose lane-resident sections a lane reset reads: that of the bank the active-bank record names (R71, R84). -/
def State.laneImage (s : State) : Option Image := if s.ldr.xchg.isSome then s.ldr.staged else s.ldr.image
/-- Phase LOAD: the lane-resident sections are applied to the lane alone (R71). -/
def State.laneLoad (s : State) (l : Lane) : State :=
  let s := s.imgClear (fun q => isLaneKey q && laneOfKey q == l)
  let s := s.modLane l (fun x => { x with mem := [] })
  match s.laneImage with
  | some i => (s.loadImage false [l] i).laneLoaded l
  | none => s
/-- J (R375): the first boundary at least JOIN_LEAD away, and not before a pending exchange index. -/
def State.joinIndex (s : State) : Nat :=
  let lead := s.fld R.WDN_RSYNC_CFG 31 24 * 10000
  let j := s.indexAfter lead
  match s.ldr.xchg with
  | some x => if idxLater x j then x else j
  | none => j
/-- The lane is STANDBY from J (R375, phase 7 to 8). -/
def State.joinStandby (s : State) (l : Lane) : State :=
  s.onIf (s.role l == 3 && (s.lane l).gj.isSome) (fun s => (s.rsSet l 8 (s.fld R.WDN_RSYNC_STATUS 15 8)).roleSet l 1)
/-- The end of a phase, while two wardens agree (Table 16-4). -/
def State.phaseNext (s : State) (l : Lane) (ok : Bool) : State :=
  let round := s.fld R.WDN_RSYNC_STATUS 15 8
  match s.rsPhase with
  | 1 => s.rsSet l 2 0
  | 2 => if ok then (s.laneLoad l).rsSet l 3 0 else s.repairFault l 6
  | 3 =>
    if !ok then s.repairFail l 7 10
    else
      let s := s.pairsRefresh l
      if s.fld R.WDN_CFG 15 8 < s.failedPairs l then s.repairFail l 5 8 else s.rsSet l 4 0
  | 4 =>
    -- the bytes copied depend on what the lane uses
    if ok then (s.takeFree.2.wr R.WDN_RSYNC_PROGRESS s.takeFree.1).rsSet l 5 1 else s.repairFault l 4
  | 5 =>
    if !ok then s.repairFail l 4 11
    else
      let n := max 1 (s.fld R.WDN_RSYNC_CFG 23 16)
      s.takeFree.2.rsSet l 6 (1 + s.takeFree.1 % n)
  | 6 =>
    if !ok then s.repairFail l 4 11
    else (({ s with wdn := { s.wdn with join := some s.joinIndex } } : State).wr R.WDN_RSYNC_JOIN s.joinIndex).rsSet l 7 round
  | 7 => if (s.lane l).gj.isSome then s.joinStandby l else if ok then s else s.repairFail l 4 11
  | 8 =>
    match (s.lane l).gj with
    | some j =>
      if s.role l == 1 && s.bit R.WDN_STATUS 4 && !s.mirrorOpen (otherLane l) j then
        let s := ((s.modLane l (fun x => { x with gj := none })).wr R.WDN_RSYNC_RESULT 1).wr R.WDN_RSYNC_STATUS 0
        ({ s with wdn := { s.wdn with join := none } } : State).setB R.WDN_EVENTS 7 true
      else s
    | none => s
  | _ => s
/-- The pairs that a start-up self-test finds bad are set in FAB_PAIR_FAIL (R230, R374). -/
def State.testFails (s : State) (failed : List Nat) : State :=
  s.onIf (s.rsBusy && s.rsPhase == 3) (fun s => failed.foldl (fun s p => s.pairFail s.rsLane p) s)
/-- A repair phase ends; with fewer than two wardens the repair waits there (Table 16-5). -/
def State.phaseEnd (s : State) (ok : Bool) : State :=
  if !s.rsBusy then s
  else if s.canVote then ({ s with wdn := { s.wdn with waits := none } } : State).phaseNext s.rsLane ok
  else { s with wdn := { s.wdn with waits := some ok } }
/-- A repair phase completes (R374). -/
def execRsyncPhaseEnd (ok : Bool) (failed : List Pair) (s : State) : Host.Outcome State Fault Refusal :=
  finish s ((s.testFails (failed.map (·.val))).phaseEnd ok)

/-! ### The voters (R370) -/

/-- The arbiter: a source named while it is SILENT, ARMED, and SWITCH(b) with b after the source's last DONE (R250, R372). -/
def State.voteArbiter (s : State) (armed sw : Option Bool) (src : Option Nat := none) : State :=
  let s := match src with
    | some n => s.onIf (s.silent && !s.wdn.ioFault && s.lockClean (laneOfIx n)) (fun s => s.nameSource (laneOfIx n) (armed == some true))
    | none => s
  let s := s.onIf (sw == some true && s.armed && s.bit R.WDN_STATUS 4) (fun s => s.sluSwitch (s.afterDone s.srcLane))
  match armed with
  | some true => s.onIf (!s.armed && s.wantArmed) (fun s => s.nameSource s.srcLane true)
  | some false => s.onIf s.armed State.disarm
  | none => s
/-- The reset controller of a lane: its role (R366, R374). -/
def State.voteReset (s : State) (l : Lane) (r : Option Nat) : State :=
  match r with
  | some r =>
    if r = 3 then s
    else if s.role l = 3 ∧ s.rsBusy ∧ !s.rsJoined then
      -- a repair that ends: its source is lost, or the lane is retired (Table 16-5)
      if r = 2 then (s.repairEnd 6).roleTake l 2 else if r = 4 then (s.repairEnd 2).roleTake l 4 else s
    else s.roleTake l r
  | none => s
/-- The resynchronisation engine: a repair ordered, a phase that waits, a warm image reset requested (R374, R377, R378). -/
def State.voteRsync (s : State) (rep : Option (Option Nat)) : State :=
  let s := match s.wdn.waits with | some ok => s.phaseEnd ok | none => s
  let s := match rep with
    | some (some n) =>
      let l := laneOfIx n
      if s.role l = 3 then s.onIf (s.laneFaults l != 0) (fun s => s.repairAgain l)
      else s.onIf (s.role l == 2 && !s.rsBusy) (fun s => s.repairStart l)
    | _ => s
  s.onIf (s.role .a == 2 && s.role .b == 2 && s.bit R.WDN_CFG 3) (fun s => { s with wdn := { s.wdn with warmReq := true } })
/-- A voter applies each field on which two unfenced, current words agree; with fewer than two words ARMED is 0 (R370, R24). -/
def State.voteApply (s : State) (v : Voter) : State :=
  let ws := s.curWords
  if ws.length < 2 then s.onIf (v == .arbiter && s.armed) State.disarm
  else match v with
  | .arbiter => s.voteArbiter (voted ws (·.armed)) (voted ws (fun w => w.sw.isSome)) (voted ws (·.src))
  | .reset .a => s.voteReset .a (voted ws (·.roleA))
  | .reset .b => s.voteReset .b (voted ws (·.roleB))
  | .rsync => s.voteRsync (voted ws (·.repair))
/-- Every voter acts on what two working wardens decide from the state as it stands. -/
def State.wardensAct (s : State) : State :=
  if !s.canVote then s
  else
    let w := s.wdnWord
    let s := s.voteArbiter (some w.armed) (some w.sw.isSome) (some w.src)
    let r := s.wdnWord
    let s := (s.voteReset .a (some r.roleA)).voteReset .b (some r.roleB)
    let r := s.wdnWord
    (s.voteRsync (some r.repair)).voteArbiter (some s.wantArmed) none
/-- SPLIT ends once the two wardens' words agree (R371). -/
def execSplitEnd (s : State) : Host.Outcome State Fault Refusal :=
  finish s (
    let ws := s.wardens
    let open_ := ws.any (fun w => ws.any (fun v => w != v && mapGet s.wdn.dis (3 * w + v) 0 != 0))
    s.onIf (s.isSplit && !open_) (fun s => s.setB R.WDN_STATUS 5 false))

/-! ### Commands (R367, R371, R372, R377) -/

/-- A refused command (R385). -/
def State.wdnRefuse (s : State) (cause : Nat) : State := (s.wr R.WDN_REFUSED cause).setB R.WDN_EVENTS 13 true
/-- A command that passes the voting, or is refused for want of it (R370, R385). -/
def State.wdnCmd (s : State) (f : State → State) : State :=
  if s.wardens.length < 2 then s.wdnRefuse 3 else if s.isSplit then s.wdnRefuse 6 else f s
/-- WDN_CMD SWITCH (R372): the old source becomes STANDBY. -/
def State.wdnSwitch (s : State) : State :=
  s.wdnCmd (fun s =>
    if !s.armed then s.wdnRefuse 1
    else if !s.bit R.WDN_STATUS 4 then s.wdnRefuse 2
    else
      let old := s.srcLane
      ((s.sluSwitch (s.afterDone old)).roleTake old 1).roleTake (otherLane old) 0)
/-- WDN_CMD SWITCH. -/
def execWdnSwitch (s : State) : Host.Outcome State Fault Refusal := finish s s.wdnSwitch
/-- WDN_CMD REPAIR (R367). -/
def State.wdnRepair (s : State) (l : Lane) : State :=
  s.wdnCmd (fun s =>
    if s.role l ≤ 1 then s.wdnRefuse 7
    else if s.role l = 3 then s.repairAgain l
    else if s.rsBusy then s.wdnRefuse 4
    else ({ s with wdn := { s.wdn with entries := s.wdn.entries.filter (fun e => e.1 != laneIx l) } } : State).repairStart l)
/-- WDN_CMD REPAIR. -/
def execWdnRepair (l : Lane) (s : State) : Host.Outcome State Fault Refusal := finish s (s.wdnRepair l)
/-- WDN_CMD ABORT_RSYNC (R377). -/
def State.abortRsync (s : State) : State :=
  s.wdnCmd (fun s =>
    if s.rsBusy && !s.rsJoined then
      let l := s.rsLane
      let s := (s.repairEnd 3).roleSet l 2
      { s with wdn := { s.wdn with noRepair := laneIx l :: s.wdn.noRepair.filter (· != laneIx l) } }
    else s.onIf (s.rsJoined || s.fld R.WDN_RSYNC_RESULT 3 0 == 1) (fun s => s.setB R.WDN_STATUS 24 true))
/-- WDN_CMD ABORT_RSYNC. -/
def execAbortRsync (s : State) : Host.Outcome State Fault Refusal := finish s s.abortRsync
/-- WDN_CMD WARDEN_RESTART (R371): the island is power-cycled. -/
def State.wardenRestart (s : State) (w : Nat) : State :=
  if s.unfenced w then s.wdnRefuse 5
  else if s.isSplit then s.wdnRefuse 6
  else if s.wardens.length < 2 then s.wdnRefuse 3
  else
    let s := s.addSatF (R.WDN_WARDEN w) 31 16 1
    { s with wdn := { s.wdn with
      restarting := w :: s.wdn.restarting.filter (· != w)
      words := mapDel s.wdn.words w
      miss := s.wdn.miss.filter (fun e => e.1 / 3 != w && e.1 % 3 != w)
      dis := s.wdn.dis.filter (fun e => e.1 / 3 != w && e.1 % 3 != w) } }
/-- WDN_CMD WARDEN_RESTART. -/
def execWardenRestart (w : Warden) (s : State) : Host.Outcome State Fault Refusal := finish s (s.wardenRestart w.val)
/-- The restarted warden's words have agreed with the others' for 1 ms: it is unfenced (R371). -/
def State.wardenBack (s : State) (w : Nat) : State :=
  if !s.wdn.restarting.contains w || s.isSplit || decide (s.wardens.length < 2) then s
  else
    let s := (s.setB R.WDN_STATUS (16 + w) true).setB (R.WDN_WARDEN w) 0 true
    { s with wdn := { s.wdn with
      restarting := s.wdn.restarting.filter (· != w)
      words := s.wdn.words.map (fun e => (e.1, { e.2 with fence := e.2.fence - (e.2.fence &&& 2 ^ w) }))
      miss := s.wdn.miss.filter (fun e => e.1 / 3 != w && e.1 % 3 != w)
      dis := s.wdn.dis.filter (fun e => e.1 / 3 != w && e.1 % 3 != w) } }
/-- The end of a warden's restart (R371). -/
def execWardenRestartDone (w : Warden) (s : State) : Host.Outcome State Fault Refusal := finish s (s.wardenBack w.val)
/-- WDN_CMD DIV_CLEAR (R364). -/
def State.divClear (s : State) : State := s.wdnCmd (fun s => (s.setB (R.WDN_HEALTH 0) 16 false).setB (R.WDN_HEALTH 1) 16 false)
/-- WDN_CMD DIV_CLEAR. -/
def execDivClear (s : State) : Host.Outcome State Fault Refusal := finish s s.divClear
/-- WDN_CMD RETIRE (R367). -/
def State.wdnRetire (s : State) (l : Lane) : State :=
  s.wdnCmd (fun s =>
    if s.role l = 0 ∨ 4 ≤ s.role l then s.wdnRefuse 7
    else (s.onIf (s.rsBusy && s.rsLane == l) (fun s => s.repairEnd 3)).roleTake l 4)
/-- WDN_CMD RETIRE. -/
def execRetire (l : Lane) (s : State) : Host.Outcome State Fault Refusal := finish s (s.wdnRetire l)

/-! ### Continuous self-test (R368) -/

/-- The tests run in the active lane and the standby. -/
def State.tested (s : State) (l : Lane) : Bool := decide (s.role l ≤ 1)
/-- A pair has not completed a set within PATROL (R368). -/
def execPatrolLate (l : Lane) (t : Pair) (s : State) : Host.Outcome State Fault Refusal :=
  finish s (s.onIf (s.tested l && !s.pairFailed l t.val) (fun s => s.setB (R.WDN_HEALTH (laneIx l)) 25 true))

/-! ### What one module cannot mask (R379) -/

/-- An uncorrectable error in the I/O die or the supervisor common zone (R379). -/
def State.ioFail (s : State) : State :=
  if s.wdn.ioFault then s
  else
    let s : State := { s with wdn := { s.wdn with ioFault := true } }
    let s := s.onIf (!s.silent) (fun s => s.goSilent (s.afterDone s.srcLane))
    let s := s.onIf (s.bit R.WDN_CFG 4) (fun s => (List.range 48).foldl (fun s p => s.abandonTx p true) s)
    (s.setB R.WDN_EVENTS 12 true).eventOpen 0x30
/-- An IO_FAULT (R379). -/
def execIoFault (s : State) : Host.Outcome State Fault Refusal := finish s s.ioFail

/-! ### The mate (R381, R382) -/

/-- FLAGS of Table 16-7. -/
def State.mateFlags (s : State) : Nat :=
  let w := s.rd R.WDN_STATUS
  b2n (w.testBit 3) + b2n (w.testBit 2) * 2 + b2n (w.testBit 0) * 4 + b2n s.wdn.ioFault * 8 + b2n (w.testBit 5) * 16 + b2n (s.bit R.CFG_STATUS 9) * 32
/-- The mate status frame (R381). -/
def State.mateMessage (s : State) : Bytes :=
  [3#8, 0x47#8, 0x4C#8, 0#8, 0#8, 2#8] ++ beBytes 6 (s.macAddr 48) ++ beBytes 2 (s.rd R.CFG_BEACON_ETYPE) ++
    [0x81#8, BitVec.ofNat 8 s.mateFlags] ++ beBytes 2 s.wdn.mateSeq ++ beBytes 4 (s.rd R.IDN_SERIAL_HI) ++ beBytes 4 (s.rd R.IDN_SERIAL_LO) ++
    beBytes 4 (s.rd R.WDN_BREACH) ++ beBytes 4 (s.rd R.ING_INDEX) ++ beBytes 4 0
/-- A mate status frame leaves over P50 (R381). -/
def execMateStatusSend (s : State) : Host.Outcome State Fault Refusal :=
  finish s (
    if !s.bit R.WDN_MATE_CFG 0 then s
    else
      let s : State := { s with wdn := { s.wdn with mateSeq := (s.wdn.mateSeq + 1) % 65536 } }
      (s.enter 48 s.mateMessage (some 7) (some [50]) none).2)
/-- A mate status frame arrives (R382): the mate is present. -/
def execMateStatusRx (f : MateStatus) (s : State) : Host.Outcome State Fault Refusal :=
  finish s (
    let was := s.bit R.WDN_MATE_STATUS 0
    let s := ((s.setB R.WDN_MATE_STATUS 0 true).setF R.WDN_MATE_STATUS 15 8 f.flags.toNat).wr R.WDN_MATE_BREACH f.breach.toNat
    s.onIf (!was) (fun s => s.setB R.WDN_EVENTS 11 true))
/-- No mate status frame within 4 PERIODs (R382). -/
def execMateStatusLoss (s : State) : Host.Outcome State Fault Refusal :=
  finish s (s.onIf (s.bit R.WDN_MATE_STATUS 0) (fun s => (s.setB R.WDN_MATE_STATUS 0 false).setB R.WDN_EVENTS 11 true))

end Sys2Proof.Machine
end

