-- ==== Sys2Proof/Machine/Power.lean ====
section
/-! DEFINITION. Supplies, temperatures, power loss, low tide, the key switch and the tamper loops (02_connectors_supplies.md,
R30 to R34, R407 to R409). -/
namespace Sys2Proof.Machine

/-! ### Supplies (R41, R42, R50) -/

/-- A PCM event, while the always-on island is powered, which it is through a thermal trip too (R58). -/
def State.pcmEvent (s : State) (n : Nat) : State := s.onIf s.fed (fun s => s.setB R.PCM_EVENTS n true)
/-- Loss of VMAIN with VBKP valid: VBKP feeds (R42, Table 02-6). -/
def State.transferBkp (s : State) : State :=
  s.onIf (!s.bit R.PCM_STATUS 4 && s.bit R.PCM_STATUS 5 && !s.bit R.PCM_STATUS 6) (fun s => (s.setB R.PCM_STATUS 6 true).pcmEvent 0)
/-- A supply has become valid. VBKP feeds only where nothing feeds; VMAIN feeds at once where nothing feeds, and where the rails
are still to rise after both returned; in every other state, the hold of a thermal trip among them, it waits for the
transfer of R42 (log entry 23). -/
def State.supplyValid (s : State) (x : Supply) : State :=
  match x with
  | .vmain => if s.pwr.ovMain then s else s.onIf (!s.bit R.PCM_STATUS 4) (fun s =>
      (s.setB R.PCM_STATUS 4 true).onIf (!s.fed || (!s.pwr.pgood && !s.pwr.tripMark)) (fun t => t.setB R.PCM_STATUS 6 false))
  | .vbkp => if s.pwr.ovBkp then s else s.onIf (!s.bit R.PCM_STATUS 5) (fun s =>
      (s.setB R.PCM_STATUS 5 true).onIf (!s.fed) (fun t => t.setB R.PCM_STATUS 6 true))
  | .vrtc => s.onIf s.fed (fun s => s.setB R.PCM_STATUS 7 true)
/-- A supply has been in range for 1 us (R41). -/
def execSupplyValid (x : Supply) (s : State) : Host.Outcome State Fault Refusal := finish s (s.supplyValid x)
/-- With the rails off and no supply left, the always-on island stops: operating time restarts from its committed count (R58, R62). -/
def State.islandOff (s : State) : State := s.onIf (!s.pwr.pgood && !s.fed) (fun s => s.wr64 R.PCM_OP_HOURS_LO s.pwr.mHours)
/-- A supply becomes invalid; VBKP takes over from VMAIN (R41, R42). The loss of both is the row POWER_LOSS. -/
def State.supplyInvalid (s : State) (x : Supply) : State :=
  match x with
  | .vmain => ((s.setB R.PCM_STATUS 4 false).transferBkp).islandOff
  | .vbkp => (s.setB R.PCM_STATUS 5 false).islandOff
  | .vrtc => s
/-- A supply has been out of range for 1 us (R41). -/
def execSupplyInvalid (x : Supply) (s : State) : Host.Outcome State Fault Refusal := finish s (s.supplyInvalid x)
/-- The transfer back to VMAIN, 10 ms after its return or at the loss of VBKP (R42). -/
def State.transferMain (s : State) : State :=
  (s.onIf (s.bit R.PCM_STATUS 4 && s.bit R.PCM_STATUS 6) (fun s => (s.setB R.PCM_STATUS 6 false).pcmEvent 1)).transferBkp
/-- VMAIN feeds again (R42). -/
def execTransferToMain (s : State) : Host.Outcome State Fault Refusal := finish s s.transferMain
/-- An over-voltage input is disconnected, and so invalid (R41, Table 02-18). -/
def State.overVoltage (s : State) (x : Supply) : State :=
  match x with
  | .vmain => (({ s with pwr := { s.pwr with ovMain := true } } : State).pcmEvent 2).supplyInvalid .vmain
  | .vbkp => (({ s with pwr := { s.pwr with ovBkp := true } } : State).pcmEvent 3).supplyInvalid .vbkp
  | .vrtc => s
/-- VMAIN or VBKP above 17.0 V for 1 us (R41). -/
def execOverVoltageDisconnect (x : Supply) (s : State) : Host.Outcome State Fault Refusal := finish s (s.overVoltage x)
/-- A disconnected input has been below 16.5 V for 10 ms: it may become valid again (R41). -/
def execOverVoltageRecovery (x : Supply) (s : State) : Host.Outcome State Fault Refusal :=
  finish s (match x with
    | .vmain => { s with pwr := { s.pwr with ovMain := false } }
    | .vbkp => { s with pwr := { s.pwr with ovBkp := false } }
    | .vrtc => s)
/-- VRTC below 2.0 V, seen while a main supply is valid (R50). -/
def execVrtcLow (s : State) : Host.Outcome State Fault Refusal :=
  finish s (s.onIf (s.fed && s.bit R.PCM_STATUS 7) (fun s => (s.setB R.PCM_STATUS 7 false).pcmEvent 4))
/-- Operating time goes to MRAM (R62). -/
def execOpHoursCommit (s : State) : Host.Outcome State Fault Refusal :=
  finish s (s.onIf s.fed (fun s => { s with pwr := { s.pwr with mHours := s.opHours } }))

/-! ### What a reset clears (Table 00-5, and the reset rules of each chapter) -/

/-- Every output at its Start level: DOUT, DOUT_ARM, TRIG_OUT and PPS_OUT low (R48). -/
def State.startLevels (s : State) : State :=
  let s := (s.onIf s.pwr.ppsOut (fun s => s.emit (.pin 0 false))).trigOutSet 0
  { s with pwr := { s.pwr with doutPins := 0, doutArm := false, ppsOut := false } }
/-- A power-on or nRESET, before the boot: everything that is not held in MRAM, fuses, NOR banks or the backup domain goes,
and every field of the kinds `p` takes its reset value. PRESUMED: a tag store that nRESET meets is dropped with the accesses that
wait for it; R90 speaks of a loss of power only (log entry 13). -/
def State.cold (s : State) (p : RKind → Nat → Bool) : State :=
  let s := s.startLevels
  let s := s.restore p
  let s : State := { s with
    paths := [], held := []
    pwr := { s.pwr with heldWake := 0, ltWaitX := false }
    ldr := { bankA := s.ldr.bankA, bankB := s.ldr.bankB, recA := s.ldr.recA, recB := s.ldr.recB, active := s.ldr.active
             cut := if s.ldr.running = 0 then s.ldr.cut else s.ldr.running }
    host := { perst := s.host.perst }
    tmu := {}
    evt := { s.evt with queue := [], firstLoss := 0, lossSince := 0 }
    key := { s.key with op := none, allBlocked := false }
    net := {}, ing := {}, laneA := {}, laneB := {}, slu := {}
    xl := { retained := s.xl.retained }
    nrg := { s.nrg with cd := 0, due := none, run := none, held := none }
    nrgA := {}, nrgB := {}, rcd := {}, recA := {}, recB := {}, wdn := {}, sep := {}
    rtc := { s.rtc with synced := false, autoAt := none } }
  s.volatileClear.unsignedFlag
/-- The kinds that a power-on restores: all but those held elsewhere and those measured. -/
def powerKinds (k : RKind) : Bool :=
  match k with
  | .x | .m => false
  | _ => true
/-- Fuse slots whose burn was cut short read FAULTY (R398): a PROGRAM, or a GENERATE into fuses, that was running. -/
def State.burnCut (s : State) : State :=
  match s.key.op with
  | some o =>
    if (o.code = 1 ∨ o.code = 3) ∧ isFuseSlot o.slot ∧ !o.committed then
      { s.wr (R.KEY_SLOT_ATTR o.slot) 32 with key := { s.key with mat := mapDel s.key.mat o.slot } }
    else s
  | none => s
/-- A tag store cut short leaves the old word or the new one (R90). -/
def State.tagCut (s : State) : State :=
  match s.ldr.tagStore with
  | some (i, v) => let (f, s) := s.takeFree; s.onIf (f % 2 == 1) (fun s => s.wr (R.IDN_TAG i) v)
  | none => s

/-! ### Loss of supply and thermal trip (R43 to R45, R58) -/

/-- The event queue is closed at step 0: how many of its events are written by 150 us no rule states (R357, log entry 4). -/
def State.closeQueue (s : State) : State :=
  let f := s.takeFree
  (List.range (f.1 % (s.evt.queue.length + 1))).foldl (fun s _ => s.evtDrain) f.2
/-- The power-loss record goes straight into the ring, the count of the events that remain in DATA word 0 (R357, step 5). -/
def State.lossRecord (s : State) : State :=
  let f := fun (i : Nat) => Config.free (s.freeCtr + i)
  let s : State := { s with freeCtr := s.freeCtr + 4 }
  s.evtWrite { typ := 0x11, source := f 0, hours := s.opHours, cycles := s.rd R.PCM_POWER_CYCLES, time := s.evtTime,
               data := [s.evt.queue.length, f 1, f 2, f 3] }
/-- Every queued event is written. -/
def State.evtFlush (s : State) : State := (List.range (s.evt.queue.length + 2)).foldl (fun s _ => s.evtDrain) s
/-- The steps of Table 02-7 as far as the rails allow: `reached` is the last step reached, `tide` the tide records that arrive. -/
def State.lossSteps (s : State) (reached tide : Nat) : State :=
  let s := s.startLevels.closeQueue
  let measured := s.power == 2 || s.power == 4
  let n := if 4 ≤ reached then 2048 else if reached = 3 then min tide 2047 else 0
  let s := s.onIf (measured && decide (3 ≤ reached)) (fun s => s.tideSave n)
  let s : State := { s with pwr := { s.pwr with mSaveInc := measured && decide (reached < 4), mLossRec := decide (5 ≤ reached) } }
  let s := s.onIf (decide (5 ≤ reached)) (fun s =>
    let s := s.lossRecord
    { s with pwr := { s.pwr with mHours := s.opHours, mCycles := s.rd R.PCM_POWER_CYCLES } })
  (s.burnCut).tagCut
/-- Step 6: the rails are off, and the FAST outputs high-impedance (R40). -/
def State.railsOff (s : State) : State :=
  let s := s.cold (fun k _ => powerKinds k)
  ({ s with pwr := { s.pwr with pgood := false, fastZ := true } } : State).emit (.fastZ true)
/-- Both supplies are invalid: the sequence of Table 02-7 (R43, R44). -/
def State.powerLoss (s : State) (reached tide : Nat) : State :=
  if s.fed || !s.pwr.pgood then s
  else
    let s := (s.lossSteps reached tide).railsOff
    ({ s with pwr := { s.pwr with mThermal := false, mLoss := true } } : State).islandOff
/-- The power-loss detector asserts (R43). -/
def execPowerLoss (reached : Fin 8) (tide : TideReport) (s : State) : Host.Outcome State Fault Refusal := finish s (s.powerLoss reached.val tide)
/-- A die reads a temperature; above the limit it is a warning with its event record (R58). -/
def State.otw (s : State) (d : Die) (t : Temp) : State :=
  let s := s.wr (dieTemp d) t.toNat
  s.onIf (decide (sgnW 16 (s.fld R.PCM_OTW_LIMIT 15 0) < t.toInt)) (fun s => (s.pcmEvent 5).eventOpen 0x15)
/-- A die exceeds PCM_OTW_LIMIT (R58). -/
def execOtw (d : Die) (t : Temp) (s : State) : Host.Outcome State Fault Refusal := finish s (s.otw d t)
/-- A die reaches 115 C: THERM_nTRIP low, the mark in MRAM, steps 1 to 6 of Table 02-7 (R58). -/
def State.trip (s : State) (d : Die) (t : Temp) (reached tide : Nat) : State :=
  let s := s.wr (dieTemp d) t.toNat
  if t.toInt < 1840 || !s.pwr.pgood then s
  else
    let s : State := { s with pwr := { s.pwr with tripLow := true, tripMark := true } }
    let s := ((s.eventOpen 0x14).lossSteps reached tide).railsOff
    ({ s with pwr := { s.pwr with mThermal := true, mLoss := false } } : State).islandOff
/-- A thermal trip (R58). -/
def execThermalTrip (d : Die) (t : Temp) (reached : Fin 8) (tide : TideReport) (s : State) : Host.Outcome State Fault Refusal :=
  finish s (s.trip d t reached.val tide)

/-! ### Low tide (R30 to R32, R63) -/

/-- The refusal conditions of R31 as PCM_REFUSE reads them. -/
def State.ltRefusal (s : State) : Nat :=
  let prot := s.ldr.image.isSome && (s.listed R.VIR_VI 4096).any (fun n => s.viType n == 1)
  let loop := !(s.slotsOn .a).isEmpty || !(s.slotsOn .b).isEmpty
  b2n prot + 2 * b2n loop + 4 * b2n (!s.bit R.PCM_PINS 1) + 8 * b2n (s.power != 2)
/-- Entry proper: ingest has stopped, and the accumulators are saved with cause 3 (R31, R337). -/
def State.ltBegin (s : State) : State := s.saveBegin (s.rd R.ING_INDEX) 3
/-- A low-tide entry that waits for an exchange or a repair begins once neither is pending (R84, Table 16-5). -/
def State.ltPoke (s : State) : State :=
  s.onIf (s.power == 4 && s.pwr.ltWaitX && s.ldr.xchg.isNone && !s.rsBusy) (fun s =>
    ({ s with pwr := { s.pwr with ltWaitX := false } } : State).ltBegin)
/-- PCM_CMD enter low tide (R31, R63). -/
def State.ltEnter (s : State) : State :=
  let c := s.ltRefusal
  if c ≠ 0 then (s.wr R.PCM_REFUSE c).setB R.PCM_EVENTS 7 true
  else
    let s := s.setF R.PCM_STATUS 2 0 4
    ({ s with pwr := { s.pwr with heldWake := 0, ltWaitX := true } } : State).ltPoke
/-- PCM_CMD enter low tide (R31). -/
def execEnterLowTide (s : State) : Host.Outcome State Fault Refusal := finish s s.ltEnter
/-- The time unit after low tide: holdover in every time base, VALID lost in every view (R176). -/
def State.tmuWake (s : State) : State :=
  let s := (List.range 4).foldl (fun s b => s.holdEnter b) s
  (List.range 8).foldl (fun s v => s.validLost v) s
/-- The exit starts: PCM_WAKE_CAUSE takes the sources, the fast clocks run (R32). -/
def State.ltExit (s : State) (bits : Nat) : State := ((s.orR R.PCM_WAKE_CAUSE bits).setF R.PCM_STATUS 2 0 5).tmuWake
/-- A wake source: in low tide it starts the exit; during entry it is held (R32, R63). -/
def State.wake (s : State) (n : Nat) : State :=
  if s.power = 3 then s.ltExit (2 ^ n)
  else if s.power = 4 then { s with pwr := { s.pwr with heldWake := s.pwr.heldWake ||| 2 ^ n } }
  else s
/-- PCM_CMD wake over PCIe, I2C or UART (R32). -/
def execWake (p : Path) (s : State) : Host.Outcome State Fault Refusal :=
  finish s (s.wake (match p with | .i2c => 5 | .uart => 6 | _ => 7))
/-- Ingest gives up what low tide leaves behind: streams relock, GOOSE entries are not alive, both queues are empty (R202). -/
def State.ingWake (s : State) : State :=
  let s := s.svAll.foldl (fun s i => (s.setSvState i 0).setSv i {}) s
  let s := s.goAll.foldl (fun s g => s.setB (R.ING_GO_STAT0 g) 0 false) s
  let s := (List.range 24).foldl (fun s m => s.onIf (decide (2 ≤ s.mcState m)) (fun s =>
    let s := (s.setF (R.MC_STATUS m) 2 0 1).mcClear m
    s.setMc m { s.mcRt m with req := 1 })) s
  let q := s.ing.seq
  let s : State := { s with ing := { s.ing with linkA := [], linkB := [], gq := [], early := [] } }
  ((s.modLane .a (fun x => { x with seq := q })).modLane .b (fun x => { x with seq := q })).bpRefresh
/-- The energy has been saved: the record is written, the outputs fall, the ports go down and the fast clocks stop (R31, Table 01-7). -/
def State.ltEntered (s : State) : State :=
  let s := s.ltPoke
  if s.power ≠ 4 || s.pwr.ltWaitX || s.nrg.run.isSome then s
  else
    let s := s.seepLast
    let s := (s.eventOpen 0x12).evtFlush
    let s := (s.nrgStop .a).nrgStop .b
    let s := (List.range 48).foldl (fun s p => s.onIf (s.portUp p) (fun s => s.linkDown p false)) s
    let s := (s.setF R.PCM_STATUS 2 0 3).startLevels
    let h := s.pwr.heldWake
    s.onIf (h != 0) (fun s => ({ s with pwr := { s.pwr with heldWake := 0 } } : State).ltExit h)
/-- The module is in low tide (R31). -/
def execLowTideEntered (s : State) : Host.Outcome State Fault Refusal := finish s s.ltEntered
/-- The check of every ledger completes and the module is running again (R26, R32). -/
def State.ltLeft (s : State) : State :=
  if s.power ≠ 5 then s
  else
    let s := s.seepCheck.ingWake
    let s := (s.nrgStart .a).nrgStart .b
    ((s.setF R.PCM_STATUS 2 0 2).setB R.PCM_EVENTS 8 true).doutDrive.eventOpen 0x13
/-- The module has left low tide (R26, R32). -/
def execLowTideExitDone (s : State) : Host.Outcome State Fault Refusal := finish s s.ltLeft

/-! ### Key switch and tamper loops (R51, R52, R407 to R409) -/

/-- The mode of a key position, as CPE_STATUS.MODE codes it (Tables 02-10 and 13-6). -/
def keyMode (k1 k0 : Bool) : Nat := if k1 then (if k0 then 0 else 1) else if k0 then 3 else 2
/-- A position is accepted: it wakes the module, and the engine's mode follows at the first boundary 100 us later (R32, R306, R51). -/
def State.keySwitch (s : State) (k1 k0 : Bool) : State :=
  if s.fld R.PCM_PINS 1 0 = 2 * b2n k1 + b2n k0 then s
  else
    let s := (s.setF R.PCM_PINS 1 0 (2 * b2n k1 + b2n k0)).wake 8
    s.onIf (decide (2 ≤ s.power)) (fun s => { s with xl := { s.xl with modes := s.xl.modes ++ [(s.now + 100000, .mode (some (keyMode k1 k0)) none)] } })
/-- Both key inputs have been stable for 20 ms (R51). -/
def execKeySwitchChange (k1 k0 : Bool) (s : State) : Host.Outcome State Fault Refusal := finish s (s.keySwitch k1 k0)
/-- ACTION 2 or 3: the store is BLOCKED; a running command before its commit point ends with TAMPER, a later one completes
with ABORT_LATE (R408, R409). -/
def State.keyBlock (s : State) (all late : Bool) : State :=
  let s := match s.key.op with
    | none => s
    | some o => if late || o.committed then (s.keyMarkCommitted o).setB R.KEY_STATUS 2 true else s.keyStop 12
  let s := s.setB R.KEY_STATUS 1 true
  { s with key := { s.key with allBlocked := s.key.allBlocked || all } }
/-- A filtered alarm of a tamper input (R407). -/
def State.tamperAlarm (s : State) (n : Nat) (late : Bool) : State :=
  if !s.fed then s
  else
    let s := s.setB R.PCM_PINS (2 + n) true
    let a := tamperAction s.key.tamperCfg n
    if a = 0 || s.bit R.KEY_TAMPER_STATUS n then s
    else
      let s := (s.setB R.KEY_TAMPER_STATUS n true).setB R.KEY_TAMPER_STATUS (8 + n) true
      let s := ((s.setB R.KEY_EVENTS 2 true).addSat R.KEY_TAMPER_COUNT 1).tamperRecord n true
      let s := s.onIf (decide (2 ≤ a)) (fun s => s.keyBlock (a == 3) late)
      s.onIf (tamperWake s.key.tamperCfg n) (fun s => s.wake 9)
/-- A tamper loop reads open; `late`: the alarm reaches the key store at or after the running command's commit point (R407, R409). -/
def execTamperAlarm (n : Fin 4) (late : Bool) (s : State) : Host.Outcome State Fault Refusal := finish s (s.tamperAlarm n.val late)
/-- The filtered return of a loop to closed (R407). -/
def State.tamperReturn (s : State) (n : Nat) : State :=
  if !s.fed then s
  else
    let s := s.setB R.PCM_PINS (2 + n) false
    if tamperAction s.key.tamperCfg n = 0 || !s.bit R.KEY_TAMPER_STATUS n then s
    else (s.setB R.KEY_TAMPER_STATUS n false).tamperRecord n false
/-- A tamper loop returns to closed (R407). -/
def execTamperReturn (n : Fin 4) (s : State) : Host.Outcome State Fault Refusal := finish s (s.tamperReturn n.val)

end Sys2Proof.Machine
end

