-- ==== Sys2Proof/Machine/Boot.lean ====
section
/-! DEFINITION. Boot, resets and image commit (03_startup_and_images.md, R64 to R71; R44, R46, R47; the reset rules of every
chapter). A boot runs in the command that starts it, up to step 7 of Table 03-1 or the boot hold; image commit is a command. -/
namespace Sys2Proof.Machine

/-! ### Bank records (R64, R65) -/

def otherBank : Bank → Bank
  | .a => .b
  | .b => .a
def State.bankRecord (s : State) : Bank → TwoCopy BankRec
  | .a => s.ldr.recA
  | .b => s.ldr.recB
def State.setBankRecord (s : State) (b : Bank) (t : TwoCopy BankRec) : State :=
  match b with
  | .a => { s with ldr := { s.ldr with recA := t } }
  | .b => { s with ldr := { s.ldr with recB := t } }
/-- VALID of a bank's record. -/
def State.bankValid (s : State) (b : Bank) : Bool := (s.bankRecord b).read.elim false (·.valid)
/-- The bank that the active-bank record names; bank A where no record has been written. -/
def State.activeBank (s : State) : Bank := s.ldr.active.read.elim .a (·.bank)
/-- CFG_STATUS.ACTIVE_BANK, BANK_A_VALID and BANK_B_VALID follow the records (Table 03-10). -/
def State.bankFlags (s : State) : State :=
  s.setF R.CFG_STATUS 6 4 ((match s.activeBank with | .a => 0 | .b => 1) + 2 * b2n (s.bankValid .a) + 4 * b2n (s.bankValid .b))
/-- A bank record is written. -/
def State.writeBankRec (s : State) (b : Bank) (r : BankRec) : State := (s.setBankRecord b ((s.bankRecord b).write r)).bankFlags
/-- VALID of a bank's record is cleared. -/
def State.clearValid (s : State) (b : Bank) : State :=
  match (s.bankRecord b).read with
  | some r => s.writeBankRec b { r with valid := false }
  | none => s
/-- The active-bank record is written; its generation count goes up. -/
def State.writeActive (s : State) (b : Bank) : State :=
  let g := s.ldr.active.read.elim 0 (·.gen)
  ({ s with ldr := { s.ldr with active := s.ldr.active.write { bank := b, gen := (g + 1) % two32 } } } : State).bankFlags
/-- CFG_STATUS.OP. -/
def State.cfgOp (s : State) : Nat := s.fld R.CFG_STATUS 3 0
def State.setOp (s : State) (v : Nat) : State := s.setF R.CFG_STATUS 3 0 v
/-- CFG_ERROR: code, section index, command. -/
def State.cfgError (s : State) (code sec cmd : Nat) : State := s.wr R.CFG_ERROR (code + sec % 32 * 256 + cmd * 65536)

/-! ### A boot (R66 to R68) -/

/-- No bank is left with VALID set (R67, R68). -/
def State.unconfigured (s : State) : State :=
  let s := s.setOp 9
  { s with ldr := { s.ldr with committed := none, image := none, atHold := false } }
/-- A failed boot attempt: the load is undone, the code is reported, the bank's VALID is cleared with an event record (R67). -/
def State.bootFail (s : State) (b : Bank) (code sec : Nat) : State := ((s.cfgError code sec 0).clearValid b).eventOpen 0x20
/-- The registers of a fingerprint. -/
def State.putFp (s : State) (k : Nat) (fp : Bytes) : State := s.wrs k (digestWords fp)
/-- The host-bound VIs are numbered in ascending order: the k-th has VF k up to 1024, the others VF 0 (R92). -/
def State.numberVis (s : State) : State :=
  let vis := s.listed R.VIR_VI 4096
  let s := vis.foldl (fun s n => s.setF (R.VIR_VI n) 26 16 0) s
  ((vis.filter (fun n => s.viType n == 5)).take 1024).zipIdx.foldl (fun s e => s.setF (R.VIR_VI e.1) 26 16 (e.2 + 1)) s
/-- A bank has loaded and passed every check (steps 6 and 7): factor, charges, fingerprint; then the hold, or image commit (R70). -/
def State.booted (s : State) (b : Bank) (i : Image) : State :=
  let s := ((((s.optInit .a).optInit .b).laneLoaded .a |>.laneLoaded .b).fdbCount).setFree (s.rd R.SWC_FREE)
  let s := ((s.targetInit .a).targetInit .b).numberVis.ingLoaded
  let s := (s.putFp (R.CFG_FINGERPRINT 0) i.fp).wr R.CFG_IMAGE_SERIAL i.serial
  let s := (s.setB R.CFG_STATUS 8 (i.keySlot == 0xFF)).setB R.CFG_STATUS 9 true
  let s := s.setOp (if s.bit R.CFG_CTRL 0 then 8 else 7)
  { s with ldr := { s.ldr with image := some i, committed := some b, atHold := true } }
/-- The other bank is taken (R67 step 4). -/
def State.fallBack (s : State) (b : Bank) : State := ((s.writeActive b).setB R.CFG_STATUS 7 true).setB R.CFG_EVENTS 2 true
/-- Boot attempts from step 2 (R67). -/
def State.bootTry (s : State) (b : Bank) : Nat → State
  | 0 => s.unconfigured
  | f + 1 =>
    match s.bankLoad b with
    | .inr (i, t) => t.booted b i
    | .inl e =>
      let s := s.bootFail b e.1 e.2
      if s.bankValid (otherBank b) then (s.fallBack (otherBank b)).bootTry (otherBank b) f else s.unconfigured
/-- The boot, with the loaded fields at their reset values (R66). -/
def State.boot (s : State) : State :=
  let s := ((s.setF R.PCM_STATUS 2 0 1).setOp 7).bankFlags
  let b := s.activeBank
  if s.bankValid b then s.bootTry b 2
  else if s.bankValid (otherBank b) then (s.fallBack (otherBank b)).bootTry (otherBank b) 2
  else s.unconfigured
/-- A command that a reset has cut short reads ABORTED (R77). -/
def State.cutReport (s : State) : State :=
  if s.ldr.cut = 0 then s else { s.cfgError 0x13 0 s.ldr.cut with ldr := { s.ldr with cut := 0 } }
/-- What a power-on or nRESET does from the boot event record to step 7 (Table 03-1), with the restores of R334 and R313. -/
def State.coldBoot (s : State) (reset : Bool) (till : Nat) : State :=
  let s := (s.cutReport.wr R.KEY_TAMPER_CFG s.key.tamperCfg).eventOpen 0x10
  let s := s.boot
  let s := s.setPeriod s.paceNom
  ((s.energyRestore reset (some till)).retRestore .a).retRestore .b
/-- BLOCKED applies again from step 1 while an input of ACTION 2 or 3 is open (R408). -/
def State.blockAgain (s : State) : State :=
  (List.range 4).foldl (fun s n =>
    let a := tamperAction s.key.tamperCfg n
    s.onIf (s.bit R.PCM_PINS (2 + n) && decide (2 ≤ a)) (fun s => s.keyBlock (a == 3) false)) s

/-! ### Power-on and nRESET (R44, R46, R47, R62, R398) -/

/-- A power-on, with the fuse slots classified and the hold-up measured. -/
def State.powerOn (s : State) (b : BootInput) : State :=
  if s.pwr.pgood || !s.fed then s
  else if s.pwr.tripMark then { s with pwr := { s.pwr with tripLow := true } }
  else
    let q := s.evt.queue
    let s := s.cold (fun k _ => powerKinds k)
    let s := ({ s with pwr := { s.pwr with pgood := true, fastZ := false }, evt := { s.evt with queue := q } } : State).emit (.fastZ false)
    let s := s.wr R.PCM_RESET_CAUSE (1 + 4 * b2n s.pwr.mThermal + 8 * b2n s.pwr.mLoss + 16 * b2n s.pwr.mSaveInc)
    let s := s.addSat R.PCM_POWER_CYCLES 1
    let s : State := { s with pwr := { s.pwr with mCycles := s.rd R.PCM_POWER_CYCLES } }
    let s := s.wr R.PCM_HOLDUP b.holdup.toNat
    let s := s.onIf (decide (b.holdup.toNat < 200)) (fun s => (s.setB R.PCM_STATUS 9 true).setB R.PCM_EVENTS 6 true)
    let s := s.onIf ((List.range 16).any (fun n => s.slotFaulty n)) (fun s => s.setB R.KEY_EVENTS 4 true)
    let till := if s.pwr.mLossRec then s.pwr.mHours else s.opHours + 960
    (s.blockAgain).coldBoot s.pwr.mThermal till
/-- Power-on (R46). -/
def execPowerOn (b : BootInput) (s : State) : Host.Outcome State Fault Refusal := finish s (s.powerOn b)
/-- The dies as they read once each has stayed below 95 C: which temperature below it is free (log entry 4). -/
def State.cooled (s : State) : State :=
  [Die.laneA, Die.laneB, Die.io, Die.sup].foldl (fun s d => s.takeFree.2.wr (dieTemp d) ((s.takeFree.1 % 34288 + 32768) % 65536)) s
/-- Every die has stayed below 95 C for 10 s: the mark is cleared, THERM_nTRIP released, and the module starts (R58). -/
def execThermRelease (b : BootInput) (s : State) : Host.Outcome State Fault Refusal :=
  finish s (s.onIf (s.fed && s.pwr.tripMark) (fun s =>
    ({ s with pwr := { s.pwr with tripMark := false, tripLow := false } } : State).cooled.powerOn b))
/-- nRESET, and the boot when the pin returns high (R47, R71). A loader command that was running reads ABORTED (R77). -/
def State.nReset (s : State) : State :=
  if !s.pwr.pgood then s
  else
    let cause := s.rd R.PCM_RESET_CAUSE
    let s := s.cold (fun k _ => nresetKinds k)
    let s := s.wr R.PCM_RESET_CAUSE (cause &&& 0x1C ||| 2)
    (s.blockAgain).coldBoot true s.opHours
/-- nRESET (R47). -/
def execNreset (s : State) : Host.Outcome State Fault Refusal := finish s s.nReset

/-! ### Warm image reset (R71) -/

/-- Every point stops, and a save of cause 4 runs to its commit point (R337). -/
def State.warmSave (s : State) : State :=
  if !(s.power == 2 || s.power == 4) || !s.bit (R.NRG_CFG .a) 0 then s
  else
    let s := (s.nrgStop .a).nrgStop .b
    let s : State := { s with nrg := { s.nrg with run := none, held := none, due := none } }
    (s.saveBegin (s.rd R.ING_INDEX) 4).saveCommit
/-- What a warm image reset clears beside the fields of its kinds. The levels that follow cleared state go with it: DOUT_ARM, the
released requests and the comparison of the lanes (R71, R254); a committed reset of a VI or polder completes (R28, R98). -/
def State.warmClear (s : State) : State :=
  let s := s.startLevels
  let s : State := { s with
    pwr := { s.pwr with heldWake := 0, ltWaitX := false }
    ldr := { s.ldr with running := 0, cut := s.ldr.running, was := none, image := none, committed := none, staged := none, xchg := none
                        rwlLocked := false, atHold := false }
    host := { s.host with rstQ := [], flr := [], flrRetry := [], ingRem := [], ingLeft := [], tokens := [], coal := [], rings := [], descLedger := [] }
    net := { mdioOp := s.net.mdioOp, cageOp := s.net.cageOp, mirSeq := s.net.mirSeq, mirFresh := s.net.mirFresh }, ing := { shift := s.ing.shift }, slu := { divLatched := s.slu.divLatched }
    laneA := {}, laneB := {}
    xl := { retained := s.xl.retained, retPend := s.xl.retPend }
    nrg := { s.nrg with cd := 0, due := none, run := none, held := none }
    nrgA := {}, nrgB := {}, rcd := {}, recA := {}, recB := {}
    wdn := { s.wdn with live := false, noRepair := [], waits := none, join := none, ioFault := false, warmReq := false }
    sep := { s.sep with latch := [], bad := [], skip := 0, late := false } }
  let s := (s.restore (fun k _ => warmKinds k)).expWarmClear
  let s := [R.ING_STATUS, R.SLU_DOUT_STATE, R.WDN_BREACH, R.WDN_HEALTH 0, R.WDN_HEALTH 1, R.WDN_RSYNC_STATUS].foldl (fun s k => s.wr k 0) s
  let s := ((s.setF R.SLU_STATUS 5 3 0).setF R.WDN_STATUS 4 0 0).setF R.WDN_STATUS 14 8 16
  let s := s.setB R.SEP_STATUS 4 false
  s.wr R.KEY_TAMPER_CFG s.key.tamperCfg
/-- The complete records that a warm image reset keeps: those of units whose channels and OWNER the new image leaves as they are (R352). -/
def State.recKeep (s : State) (l : Lane) (old : RecLane) : State :=
  let keep := old.recs.filter (fun r => r.complete && s.unitEn l r.unit &&
    (let d := s.unitDef l r.unit; d.ach == r.df.ach && d.bch == r.df.bch && d.owner == r.df.owner))
  let s := s.modRec l (fun x => { x with recs := keep, units := old.units.map (fun u => (u.1, { count := u.2.count })) })
  (keep.foldl (fun s r => s.recShow l r) s).blkRefresh l
/-- A warm image reset: boot from step 2 (R71). -/
def State.warm (s : State) : State :=
  let saves := s.rd (R.NRG_SAVE_COUNT .a)
  let s := ((s.warmSave).recEndAll .a).recEndAll .b
  let saved := s.rd (R.NRG_SAVE_COUNT .a) != saves
  let ra := s.recA
  let rb := s.recB
  let keep := [Lane.a, Lane.b].flatMap (fun l => (s.tasksOn l).map (fun t => (l, t, s.retained l t, (s.task l t).cycle)))
  let maxdem := s.regs.filter (fun e => [Lane.a, Lane.b].any (fun l =>
    decide (R.NRG_PT_MAXDEM l 0 ≤ e.1) && decide (e.1 ≤ R.NRG_PT_MAXDEM_INDEX l 2047) && (e.1 % 256 == 0xEC || e.1 % 256 == 0xF0)))
  let bind := (List.range 8).map (fun v => s.rd (R.CV_BIND v))
  let s := (s.warmClear).cutReport.setB R.PCM_RESET_CAUSE 5 true
  let s := s.boot
  -- a view whose binding changes loses VALID (R166, R176)
  let s := (bind.zipIdx.filter (fun e => s.rd (R.CV_BIND e.2) != e.1)).foldl (fun s e => s.validLost e.2) s
  let s := s.setPeriod (s.paceClamp s.pacePeriod)
  let s := keep.foldl (fun s e =>
    s.onIf ((s.tasksOn e.1).contains e.2.1) (fun s =>
      (s.putRetained e.1 e.2.1 (e.2.2.1.take (s.fld (R.CPE_TASK5 e.1 e.2.1) 31 16))).setTask e.1 e.2.1 { cycle := e.2.2.2 })) s
  let s := s.energyRestore false none
  let s := (cellCanon (fun _ => (0 : Nat)) maxdem).foldl (fun s e => s.wr e.1 e.2) s
  let s := s.onIf saved (fun s => (s.setB (R.NRG_START_INFO .a) 3 true).setB (R.NRG_START_INFO .b) 3 true)
  (s.recKeep .a ra).recKeep .b rb
/-- A refused loader command (Table 03-11). -/
def State.cfgRefuse (s : State) (code cmd : Nat) : State := (s.cfgError code 0 cmd).setB R.CFG_EVENTS 1 true
/-- An operation of the loader runs, or a boot (R77). -/
def State.cfgBusy (s : State) : Bool := let o := s.cfgOp; (decide (1 ≤ o) && decide (o ≤ 4)) || o == 7 || s.ldr.running != 0
/-- CFG_CMD WARM (R71): refused while an operation runs. -/
def State.cmdWarm (s : State) : State :=
  if s.cfgBusy then s.cfgRefuse 0x10 7 else (s.setB R.CFG_EVENTS 0 true).warm
/-- CFG_CMD WARM (Table 03-11). -/
def execWarm (s : State) : Host.Outcome State Fault Refusal := finish s s.cmdWarm
/-- The warm image reset that the wardens have requested (R378). -/
def State.warmAsked (s : State) : State := s.onIf s.wdn.warmReq State.warm
/-- CFG_CMD RELEASE ends the boot hold (R70). DESIGN CHOICE: with no boot hold and nothing running it sets neither OP_DONE nor
OP_FAILED (log entry 17). -/
def State.cmdRelease (s : State) : State :=
  if s.cfgOp = 8 then (s.setOp 7).setB R.CFG_EVENTS 0 true
    else s.onIf s.cfgBusy (fun s => s.cfgRefuse 0x10 8)
/-- CFG_CMD RELEASE (Table 03-11). -/
def execRelease (s : State) : Host.Outcome State Fault Refusal := finish s s.cmdRelease

/-! ### Image commit (R66 step 9) -/

/-- The loader's image-commit record (R393). -/
def State.commitRecord (s : State) : State :=
  let (a, s) := s.takeFree
  let (b, s) := s.takeFree
  let (c, s) := s.takeFree
  let n := ((List.range 64).map (fun i => ((List.range 32).filter (fun j => s.bit (R.SEP_NRG_DIS i) j)).length)).sum
  s.event 0x20 a [b, c, s.rd R.SEP_DISABLE, n]
/-- The loader's MRAM copy of KEY_TAMPER_CFG (R407). -/
def State.tamperCopy (s : State) (v : Nat) : State := { s with key := { s.key with tamperCfg := v } }
/-- The operating mode of the key position and RUN_INIT, as a lane starts with them (R305, R315). -/
def State.modeInit (s : State) (l : Lane) : State :=
  let m := keyMode (s.bit R.PCM_PINS 1) (s.bit R.PCM_PINS 0)
  let r := s.bit (R.CPE_CFG l) 16
  let s := (s.setF (R.CPE_STATUS l) 1 0 m).setB (R.CPE_STATUS l) 3 r
  s.setB (R.CPE_STATUS l) 2 (m == 2 || (m == 3 && r))
/-- A lane starts: mode, slots, tasks, points, units (R269, R300, R315, R337, R352). -/
def State.laneStart (s : State) (l : Lane) : State :=
  let s := s.modeInit l
  let s := (s.slotsOn l).foldl (fun s L => s.slotStart l L) s
  let s := (s.tasksOn l).foldl (fun s t => s.taskStart l t false) s
  ((s.nrgStart l).recAuto l).pairsRefresh l
/-- A lane that has failed its start-up self-test is FAILED (R360): it consumes nothing, and its link is held. -/
def State.laneUnfit (s : State) (l : Lane) : State :=
  let s := (s.healthBit l 10).modLane l (fun x => { x with deaf := true })
  s.holdLink l
/-- The roles at step 9 (R66, R360): lane A is ACTIVE unless it has failed; with neither fit the arbiter is SILENT. -/
def State.namesLanes (s : State) (d : DiagResult) : State :=
  let s : State := { s with wdn := { s.wdn with live := true } }
  let s := (s.onIf (!d.laneA) (fun s => s.laneUnfit .a)).onIf (!d.laneB) (fun s => s.laneUnfit .b)
  let s := (s.roleSet .a (if d.laneA then 0 else 2)).roleSet .b (if d.laneB then (if d.laneA then 1 else 0) else 2)
  let both := d.laneA && d.laneB
  let s := ((s.setB R.WDN_STATUS 4 both).setB R.SLU_STATUS 4 both).setB R.SLU_STATUS 5 both
  if !d.laneA && !d.laneB then s.goSilent 0
  else
    let s := s.nameSource (if d.laneA then .a else .b) false
    s.onIf s.wantArmed (fun s => s.nameSource s.srcLane true)
/-- Ports, chains and instances come into service, and AUTO_RELEASE releases the PHYs (R66, R69, R117, R132, R202). -/
def State.ioStart (s : State) : State :=
  let s := (List.range 48).foldl (fun s p => ((s.stepBase p).portConfigure p).eeeRefresh p) s
  let s := s.onIf (s.bit R.PRT_PHY_CTRL 1) (fun s => s.setB R.PRT_PHY_CTRL 0 true)
  let s := (List.range 24).foldl (fun s m => s.onIf (s.bit (R.MC_CFG m) 31) (fun s => (s.setF (R.MC_STATUS m) 2 0 1).mcEnterSettling m)) s
  ((List.range 4096).foldl (fun s n => s.viState n) s).swcFlags
/-- Image commit (Table 03-1 step 9). -/
def State.imageCommit (s : State) (d : DiagResult) : State :=
  if s.ldr.image.isNone || s.cfgOp ≠ 7 then s
  else
    let s := s.ioStart
    let s := (s.laneStart .a).laneStart .b
    let s := s.namesLanes d
    let s : State := { s with ldr := { s.ldr with rwlLocked := true, atHold := false } }
    let s := ((s.setF R.PCM_STATUS 2 0 2).setOp 0).doutDrive
    (s.tamperCopy (s.rd R.KEY_TAMPER_CFG)).commitRecord
/-- Image commit, with the outcome of the lanes' start-up self-tests (R66, R360). -/
def execImageCommit (d : DiagResult) (s : State) : Host.Outcome State Fault Refusal := finish s (s.imageCommit d)

end Sys2Proof.Machine
end

