-- ==== Sys2Proof/Machine/Loader.lean ====
section
/-! DEFINITION. The configuration loader's commands (03_startup_and_images.md, R65, R68, R77, R80 to R82, R84 to R90): bank
commands, staging, the commit of an exchange, slice rechecks, beacons, and the user tag area. The swap itself is in Boundary.lean. -/
namespace Sys2Proof.Machine

/-! ### Bank commands (R65, R68, R77) -/

/-- The bank on which ERASE, WRITE, VERIFY and INVALIDATE act: the one named while no image is committed, else the inactive bank. -/
def State.targetBank (s : State) (b : Bank) : Bank := if s.ldr.committed.isNone then b else otherBank s.activeBank
/-- CFG_STATUS.OP once no operation runs. -/
def State.restOp (s : State) : Nat := if s.ldr.committed.isNone then 9 else if s.ldr.staged.isSome then 5 else 0
/-- A command of the loader starts. -/
def State.jobStart (s : State) (code op : Nat) (b : Bank) : State :=
  ({ s with ldr := { s.ldr with running := code, opBank := b } } : State).setOp op |>.wr R.CFG_PROGRESS 0
/-- The running command ends. -/
def State.jobEnd (s : State) : State :=
  let s : State := { s with ldr := { s.ldr with running := 0 } }
  s.setOp s.restOp
/-- It completes (Table 03-11). -/
def State.jobDone (s : State) : State := s.jobEnd.setB R.CFG_EVENTS 0 true
/-- It fails with a code and a section index. -/
def State.jobFail (s : State) (code sec : Nat) : State := ((s.cfgError code sec s.ldr.running).setB R.CFG_EVENTS 1 true).jobEnd
/-- Another operation runs: a boot, its hold, a command or a pending exchange. -/
def State.jobBusy (s : State) : Bool := s.cfgBusy || s.cfgOp == 6 || s.cfgOp == 8
/-- ERASE and WRITE meet BUSY also while their bank is staged (R81). -/
def State.bankBusy (s : State) : Bool := s.jobBusy || s.ldr.staged.isSome
/-- A command that the loader refuses without a stated code: the code is free (log entry 4). -/
def State.cfgRefuseOpen (s : State) (cmd : Nat) : State := s.takeFree.2.cfgRefuse (s.takeFree.1 % 256) cmd
def State.setBank (s : State) (b : Bank) (c : List Host.Cell) : State :=
  match b with
  | .a => { s with ldr := { s.ldr with bankA := c } }
  | .b => { s with ldr := { s.ldr with bankB := c } }
/-- CFG_CMD ERASE: the bank's VALID is cleared first (R77). -/
def State.cmdErase (s : State) (b : Bank) : State :=
  if s.bankBusy then s.cfgRefuse 0x10 1 else (s.clearValid (s.targetBank b)).jobStart 1 1 (s.targetBank b)
/-- CFG_CMD ERASE (Table 03-11). -/
def execErase (b : Bank) (s : State) : Host.Outcome State Fault Refusal := finish s (s.cmdErase b)
/-- The erase completes: every byte of the bank reads 0xFF. -/
def execEraseDone (s : State) : Host.Outcome State Fault Refusal :=
  finish s (if s.ldr.running ≠ 1 then s else ((s.setBank s.ldr.opBank []).wr R.CFG_PROGRESS 0x8000000).jobDone)
/-- The ranges of Table 03-9 for a WRITE. -/
def State.writeGood (s : State) : Bool :=
  let n := s.rd R.CFG_DMA_LEN
  let o := s.rd R.CFG_BANK_OFFSET
  decide (4 ≤ n) && decide (n ≤ 16777216) && n % 4 == 0 && s.rd64 R.CFG_DMA_ADDR_LO % 4 == 0 && o % 4 == 0 && decide (o + n ≤ 0x8000000)
/-- CFG_CMD WRITE (R77). A length, address or offset outside the ranges of Table 03-9 fails with BOUNDS. DESIGN CHOICE: the bank's
VALID is cleared at the start, as R77 says of ERASE only (log entry 16). -/
def State.cmdWrite (s : State) (b : Bank) : State :=
  if s.bankBusy then s.cfgRefuse 0x10 2
    else if !s.writeGood then s.cfgRefuse 4 2
    else (s.clearValid (s.targetBank b)).jobStart 2 2 (s.targetBank b)
/-- CFG_CMD WRITE (Table 03-11). -/
def execCfgWrite (b : Bank) (s : State) : Host.Outcome State Fault Refusal := finish s (s.cmdWrite b)
/-- The bytes of the host reach the bank, or the host read fails (DMA). -/
def State.bankWriteDone (s : State) (data : Bytes) (ok : Bool) : State :=
  if s.ldr.running ≠ 2 then s
  else
    let n := s.rd R.CFG_DMA_LEN
    let (go, s) := s.dmaRead 0 (s.rd64 R.CFG_DMA_ADDR_LO) n
    if !go || !ok || decide (data.length < n) then s.jobFail 0x12 0
    else
      let o := s.rd R.CFG_BANK_OFFSET
      let c := (data.take n).zipIdx.foldl (fun c (w : Byte × Nat) => cellPut c (o + w.2) w.1) (s.bank s.ldr.opBank)
      ((s.setBank s.ldr.opBank c).wr R.CFG_PROGRESS n).jobDone
/-- A bank write ends (R77). -/
def execCfgWriteDone (data : Bytes) (ok : Bool) (s : State) : Host.Outcome State Fault Refusal := finish s (s.bankWriteDone data ok)
/-- CFG_CMD VERIFY: VALID is clear until every check has passed (R77). -/
def State.cmdVerify (s : State) (b : Bank) : State :=
  if s.jobBusy then s.cfgRefuse 0x10 3 else (s.clearValid (s.targetBank b)).jobStart 3 3 (s.targetBank b)
/-- CFG_CMD VERIFY (Table 03-11). -/
def execVerify (b : Bank) (s : State) : Host.Outcome State Fault Refusal := finish s (s.cmdVerify b)
/-- The checks of VERIFY end; the bank record is the commit point of writing an image (R77). On a module without a committed
image the active-bank record names the bank too (R68). -/
def State.verifyDone (s : State) : State :=
  if s.ldr.running ≠ 3 then s
  else
    let b := s.ldr.opBank
    match s.readImage b false with
    | .err c j => s.jobFail c j
    | .ok i =>
      if i.root ≠ i.fp then s.jobFail 0x0D 0
      else
        let s := s.writeBankRec b { valid := true, serial := i.serial, fp := i.fp }
        ((s.onIf s.ldr.committed.isNone (fun s => s.writeActive b)).wr R.CFG_PROGRESS (bankWord (s.bank b) 0x10)).jobDone
/-- A VERIFY ends (R77). -/
def execVerifyDone (s : State) : Host.Outcome State Fault Refusal := finish s s.verifyDone
/-- CFG_CMD INVALIDATE (Table 03-11). -/
def State.cmdInvalidate (s : State) (b : Bank) : State :=
  if s.bankBusy then s.cfgRefuse 0x10 9 else (s.clearValid (s.targetBank b)).setB R.CFG_EVENTS 0 true
/-- CFG_CMD INVALIDATE (R77). -/
def execCfgInvalidate (b : Bank) (s : State) : Host.Outcome State Fault Refusal := finish s (s.cmdInvalidate b)

/-! ### Staging and the commit of an exchange (R81, R82, R84) -/

/-- The shadows: every image-loaded field at its reset value, the lanes' program memory empty. -/
def State.shadowBase (s : State) : State :=
  let s := s.imgClear (fun _ => true)
  let s := (s.modLane .a (fun x => { x with mem := [] })).modLane .b (fun x => { x with mem := [] })
  s.wr R.KEY_TAMPER_CFG s.key.tamperCfg
/-- The shadows are dropped. -/
def State.dropStaged (s : State) : State := { s with ldr := { s.ldr with staged := none } }
/-- CFG_CMD STAGE (R81). -/
def State.cmdStage (s : State) : State :=
  if s.jobBusy then s.cfgRefuse 0x10 4
    else if s.ldr.committed.isNone then s.cfgRefuseOpen 4
    else if !s.bankValid (otherBank s.activeBank) then s.cfgRefuse 0x0F 4
    else s.dropStaged.jobStart 4 4 (otherBank s.activeBank)
/-- CFG_CMD STAGE (Table 03-11). -/
def execStage (s : State) : Host.Outcome State Fault Refusal := finish s s.cmdStage
/-- The index of a section type in an image. -/
def Image.secIx (i : Image) (typ : Nat) : Nat := (i.sections.findIdx? (fun e => e.typ == typ)).getD 0
/-- Staging ends (R81): every check of a boot, the rate condition of R179 and the optimiser's new factor (R284). -/
def State.stageDone (s : State) : State :=
  if s.ldr.running ≠ 4 then s
  else
    match s.shadowBase.bankLoad s.ldr.opBank with
    | .inl e => s.jobFail e.1 e.2
    | .inr (i, t) =>
      if t.fs ≠ s.fs then s.jobFail 0x0B (i.secIx 0x23)
      else if t.bit (R.OPT_CFG .a) 0 && !(t.optModel .a).factorOk (t.optModel .a).factorise then s.jobFail 0x0B (i.secIx 0x33)
      else
        let s := (s.putFp (R.CFG_STAGED_FP 0) i.root).wr R.CFG_PROGRESS (bankWord (s.bank s.ldr.opBank) 0x10)
        ({ s with ldr := { s.ldr with staged := some i } } : State).jobDone
/-- Staging ends (R81). -/
def execStageDone (s : State) : Host.Outcome State Fault Refusal := finish s s.stageDone
/-- CFG_CMD EXCHANGE: a refusal discards the shadows (R82, R84). X is fixed with the commit point. -/
def State.cmdExchange (s : State) : State :=
  if s.jobBusy then
    -- a refusal before the commit point discards the shadows (R84)
    (s.onIf (s.ldr.xchg.isNone && s.ldr.running != 5) State.dropStaged).cfgRefuse 0x10 5
    else if s.ldr.staged.isNone then s.cfgRefuseOpen 5
    else if !s.bit R.WDN_STATUS 4 then
      let s := (s.cfgRefuse 0x11 5).dropStaged
      s.setOp s.restOp
    else { s with ldr := { s.ldr with running := 5 } }
/-- CFG_CMD EXCHANGE (Table 03-11). -/
def execExchange (s : State) : Host.Outcome State Fault Refusal := finish s s.cmdExchange
/-- X (R82): the first index whose boundary falls at least 2 000 000 ns after now, and not earlier than CFG_XCHG_INDEX. -/
def State.xchgIndex (s : State) : Nat :=
  let j := s.indexAfter 2000000
  if idxLater (s.rd R.CFG_XCHG_INDEX) j then s.rd R.CFG_XCHG_INDEX else j
/-- The commit point of the exchange: the active-bank record names the staged bank (R82). DESIGN CHOICE: the command EXCHANGE
completes, with OP_DONE, here and not after the swap (log entry 18). -/
def State.xchgCommit (s : State) : State :=
  if s.ldr.running ≠ 5 then s
  else
    let x := s.xchgIndex
    let s := (s.writeActive (otherBank s.activeBank)).wr R.CFG_XCHG_INDEX x
    -- the MRAM copy of KEY_TAMPER_CFG is rewritten here (R412)
    let s := s.tamperCopy (s.ldr.staged.elim s.key.tamperCfg (fun i => (s.shadowBase.loadImage true [.a, .b] i).rd R.KEY_TAMPER_CFG))
    let s : State := { s with ldr := { s.ldr with running := 0, xchg := some x, mateSusp := 2 } }
    ((s.setOp 6).setB R.CFG_EVENTS 0 true).setB R.CFG_MATE_STATUS 2 false
/-- The commit of an exchange (R82). -/
def execExchangeCommit (s : State) : Host.Outcome State Fault Refusal := finish s s.xchgCommit
/-- CFG_CMD ABORT (R27, R77, R81, R84). `late`: it arrives at or after the commit point of a command that has just completed. An
aborted ERASE or WRITE has not reached the NOR: the bank is as it was, which is the residue chosen here (DESIGN CHOICE, log entry 15).
With nothing running and nothing staged it has no effect and sets no event (DESIGN CHOICE, log entry 17). -/
def State.cfgAbort (s : State) (late : Bool) : State :=
  if s.cfgOp = 6 then s.setB R.CFG_STATUS 11 true
  else if s.ldr.running ≠ 0 then s.dropStaged.jobFail 0x13 0
  else if late then s.setB R.CFG_STATUS 11 true
  else if s.ldr.staged.isSome then
    let s := s.dropStaged.setB R.CFG_EVENTS 0 true
    s.setOp s.restOp
  else s
/-- CFG_CMD ABORT (R84). -/
def execCfgAbort (late : Bool) (s : State) : Host.Outcome State Fault Refusal := finish s (s.cfgAbort late)

/-! ### Slice rechecks (R80) -/

/-- The lanes that recompute their slice digests: those in service. -/
def State.sliceLanes (s : State) : List Lane := [Lane.a, Lane.b].filter (fun l => decide (s.role l ≤ 1))
/-- The slices whose digest over the live state differs from the directory's; a slice outside the lanes is named with lane A. -/
def State.sliceHits (s : State) (i : Image) : List (Nat × Lane) :=
  i.sections.zipIdx.flatMap (fun (e : ImgSection × Nat) =>
    ((if secLane e.1.typ then s.sliceLanes else [.a]).filter (fun l => s.sliceDigest l e.1 != e.1.digest)).map (fun l => (e.2, l)))
/-- A complete pass of slice rechecks. `bad` names the slices whose storage an upset has corrupted, a lane-resident one with its lane. -/
def State.recheck (s : State) (bad : List (Nat × Lane)) : State :=
  match s.ldr.image with
  | none => s
  | some i =>
    if !s.ldr.rwlLocked then s
    else
      let lane := fun (j : Nat) => secLane ((i.sections.map (·.typ)).getD j 0)
      let upset := bad.filter (fun e => decide (e.1 < i.sections.length))
      let live := s.sliceHits i
      let hit := live ++ upset.filter (fun e => !live.any (fun h => h.1 == e.1 && (!lane e.1 || h.2 == e.2)))
      let act := s.activeOf.getD .a
      -- the digest of a corrupted slice is some other value
      let digs := i.sections.zipIdx.map (fun (e : ImgSection × Nat) =>
        if upset.any (fun h => h.1 == e.2 && (!lane h.1 || h.2 == act)) then
          (e.1.typ, (List.range 32).map (fun q => BitVec.ofNat 8 (Config.free (s.freeCtr + 32 * e.2 + q))))
        else (e.1.typ, s.sliceDigest act e.1))
      let s : State := s.onIf (!upset.isEmpty) (fun s => { s with freeCtr := s.freeCtr + 1024 })
      let s := s.putFp (R.CFG_FINGERPRINT 0) (fpRoot digs)
      let s := s.wr R.CFG_SLICE_FAULT (hit.foldl (fun m h => m ||| 2 ^ h.1) 0)
      hit.foldl (fun s h =>
        ((s.setB R.CFG_EVENTS 3 true).eventOpen 0x20).onIf (lane h.1) (fun s => s.healthBit h.2 6)) s
/-- A pass of slice rechecks (R80). -/
def execSliceRecheck (bad : List (Nat × Lane)) (s : State) : Host.Outcome State Fault Refusal := finish s (s.recheck bad)

/-! ### The fingerprint beacon (R85, R86) -/

/-- The payload of a beacon (Table 03-8). DESIGN CHOICE: STATION_TAG holds each tag word with its low byte first (log entry 19). -/
def State.beaconBody (s : State) (seq sec ns : Nat) : Bytes :=
  let pend := s.ldr.xchg.isSome
  let fl := b2n (s.bit R.CFG_STATUS 9) + b2n pend * 2 + b2n (s.activeOf == some .b) * 4 + b2n (s.bit R.WDN_STATUS 3) * 8 +
    b2n (s.cfgOp == 8) * 16 + b2n (s.viewValid (s.fld R.CFG_BEACON_CFG 3 1)) * 32 + b2n (s.bit R.WDN_MATE_STATUS 1) * 64 +
    b2n (s.bit R.CFG_STATUS 10) * 128
  let words := fun (k n : Nat) => wordsBytes (s.rds k n)
  beBytes 1 1 ++ beBytes 1 fl ++ beBytes 2 seq ++ beBytes 4 (s.rd R.IDN_SERIAL_HI) ++ beBytes 4 (s.rd R.IDN_SERIAL_LO) ++
    beBytes 6 sec ++ beBytes 4 ns ++ beBytes 4 (s.rd R.CFG_IMAGE_SERIAL) ++ words (R.CFG_FINGERPRINT 0) 8 ++
    (if pend then words (R.CFG_STAGED_FP 0) 8 else List.replicate 32 0#8) ++ beBytes 4 (s.ldr.xchg.getD 0) ++
    words (R.IDN_TAG 0) 8 ++ [0#8, 0#8]
/-- A beacon is sent (R85). While the view is not valid no second boundary causes it, and its TIME is free. It enters at P48 as a
frame without a template, in class 7 (R249); DESIGN CHOICE: steps 7 and 8 of R141 are applied to it with P48's own settings (log entry 20). -/
def State.beaconSend (s : State) : State :=
  if !s.bit R.CFG_BEACON_CFG 0 then s
  else
    let v := s.fld R.CFG_BEACON_CFG 3 1
    let (f, s) := s.takeFree
    let sec := if s.viewValid v then (s.viewTime v).2.1 else f / two32 % 2 ^ 48
    let ns := if s.viewValid v then 0 else f % two32
    let seq := (s.fld R.CFG_BEACON_SEQ 15 0 + 1) % 65536
    let s := s.wr R.CFG_BEACON_SEQ seq
    let tag := if s.bit R.CFG_BEACON_CFG 8 then
        beBytes 2 0x8100 ++ beBytes 2 (s.fld R.CFG_BEACON_CFG 11 9 * 8192 + s.fld R.CFG_BEACON_CFG 27 16)
      else []
    let fr := [3#8, 0x47#8, 0x4C#8, 0#8, 0#8, 1#8] ++ beBytes 6 (s.macAddr 48) ++ tag ++ beBytes 2 (s.rd R.CFG_BEACON_ETYPE) ++
      s.beaconBody seq sec ns
    let ps := (List.range 32).filter (fun p => s.bit R.CFG_BEACON_PORTS_LO p) ++
      ((List.range 16).filter (fun p => s.bit R.CFG_BEACON_PORTS_HI p)).map (· + 32) ++
      (if s.bit R.CFG_BEACON_PORTS_HI 18 || s.bit R.WDN_MATE_STATUS 1 then [50] else [])
    (s.enter 48 fr (some 7) (some ps) none).2
/-- A beacon is sent (R85). -/
def execBeaconSend (s : State) : Host.Outcome State Fault Refusal := finish s s.beaconSend
/-- The warning bit MATE_FP of both health words (Table 16-2). -/
def State.mateFp (s : State) (b : Bool) : State := (s.setB (R.WDN_HEALTH 0) 17 b).setB (R.WDN_HEALTH 1) 17 b
/-- A beacon of the mate is compared with the module's own fingerprint (R86). DESIGN CHOICE: with MATE_CMP_EN 0, PRESENT and the
mate's fingerprint still follow, and MATE_LOST is still reported; nothing is compared (log entry 21). -/
def State.mateBeacon (s : State) (f : Beacon) : State :=
  let s := (s.setB R.CFG_MATE_STATUS 0 true).putFp (R.CFG_MATE_FP 0) f.fp
  if !s.bit R.CFG_CTRL 1 then s.setB R.CFG_MATE_STATUS 2 false
  else
    let theirs := f.flags.toNat.testBit 1
    let s := match s.ldr.xchg with
      | some x => s.onIf (theirs && f.index.toNat != x) (fun s => (s.setB R.CFG_MATE_STATUS 3 true).setB R.CFG_EVENTS 8 true)
      | none => s
    if theirs || s.ldr.xchg.isSome then
      ({ s with ldr := { s.ldr with mateSusp := 2, matePend := theirs } } : State).setB R.CFG_MATE_STATUS 2 false
    else if s.ldr.mateSusp ≠ 0 then
      ({ s with ldr := { s.ldr with mateSusp := s.ldr.mateSusp - 1, matePend := false } } : State).setB R.CFG_MATE_STATUS 2 false
    else
      let s := s.setB R.CFG_MATE_STATUS 2 true
      if s.rds (R.CFG_MATE_FP 0) 8 = s.rds (R.CFG_FINGERPRINT 0) 8 then
        let s := s.onIf (!s.bit R.CFG_MATE_STATUS 1) (fun s => s.setB R.CFG_EVENTS 7 true)
        (({ s with ldr := { s.ldr with mateDiffers := false } } : State).mateFp false).setF R.CFG_MATE_STATUS 15 8 0 |>.setB R.CFG_MATE_STATUS 1 true
      else
        let s := s.addSatF R.CFG_MATE_STATUS 15 8 1
        s.onIf (s.fld R.CFG_MATE_STATUS 15 8 == 3) (fun s =>
          let s : State := ({ s with ldr := { s.ldr with mateDiffers := true } } : State).mateFp true
          ((s.setB R.CFG_MATE_STATUS 1 false).setB R.CFG_EVENTS 6 true).eventOpen 0x20)
/-- A beacon of the mate arrives over P50 (R86). -/
def execMateBeaconRx (f : Beacon) (s : State) : Host.Outcome State Fault Refusal := finish s (s.mateBeacon f)
/-- No beacon of the mate for 3 s (R86). -/
def execMateBeaconLoss (s : State) : Host.Outcome State Fault Refusal :=
  finish s (s.onIf (s.bit R.CFG_MATE_STATUS 0) (fun s => (s.setF R.CFG_MATE_STATUS 1 0 0).setB R.CFG_EVENTS 5 true))

/-! ### Answers of the access paths (R59, R60) -/

/-- The bytes of an address or data word on the management paths, least significant first. -/
def mgmtBytes (v : Nat) : Bytes := leBytes 4 v
/-- The answer to a read on a path. -/
def State.answer (s : State) (p : Path) (off v : Nat) : State :=
  match p with
  | .i2c =>
    let head := 0xA4#8 :: mgmtBytes off
    let all := head ++ [BitVec.ofNat 8 (crc8 head), 0xA5#8] ++ mgmtBytes v
    s.emit (.i2c (mgmtBytes v ++ [BitVec.ofNat 8 (crc8 all)]))
  | .uart =>
    let r := [0x5A#8, 0#8] ++ mgmtBytes v
    s.emit (.uart (r ++ [BitVec.ofNat 8 (crc8 r)]))
  | p => s.emit (.read p off v)
/-- The UART answers a write with a status (R60); the other paths do not answer. -/
def State.answerWrite (s : State) (p : Path) : State :=
  match p with
  | .uart => s.answer .uart 0 0
  | _ => s

/-! ### The user tag area (R90) -/

/-- A store is under way: IDN_TAG_CTRL.BUSY. -/
def State.tagBusy (s : State) : Bool := s.ldr.tagStore.isSome
/-- A store starts. -/
def State.tagStart (s : State) (i v : Nat) : State :=
  if s.bit R.IDN_TAG_CTRL 0 then s
  else ({ s with ldr := { s.ldr with tagStore := some (i, v) } } : State).setB R.IDN_TAG_CTRL 1 true
/-- A write to the IDN block is performed. -/
def State.idnWrite (s : State) (off v : Nat) : State :=
  if off = R.IDN_TAG_CTRL then s.onIf (v % 2 == 1) (fun s => s.setB R.IDN_TAG_CTRL 0 true)
  else if R.IDN_TAG 0 ≤ off ∧ off < R.IDN_TAG 64 ∧ off % 4 = 0 then s.tagStart ((off - R.IDN_TAG 0) / 4) (v % two32)
  else s
/-- An access to the IDN block is performed, or waits for the store under way (R90). -/
def State.idnAccess (s : State) (a : IdnAccess) : State :=
  if s.tagBusy then { s with ldr := { s.ldr with tagWait := s.ldr.tagWait ++ [a] } }
  else match a with
  | .rd p off => (s.readKey p off).2.answer p off (s.readKey p off).1
  | .wr p off v => (s.idnWrite off v).answerWrite p
/-- The waiting accesses are performed in order, until one starts a store. -/
def State.idnNext (s : State) : Nat → State
  | 0 => s
  | n + 1 =>
    match s.ldr.tagWait with
    | [] => s
    | a :: q =>
      if s.tagBusy then s
      else (({ s with ldr := { s.ldr with tagWait := q } } : State).idnAccess a).idnNext n
/-- A write of a tag register on a path; the paths of virtual functions reach no IDN register. -/
def execTagWrite (p : Path) (i : Fin 64) (v : Word) (s : State) : Host.Outcome State Fault Refusal :=
  finish s (match p with
    | .vf _ => s
    | p => s.idnAccess (.wr p (R.IDN_TAG i.val) v.toNat))
/-- The store completes (R90). -/
def execTagStoreDone (s : State) : Host.Outcome State Fault Refusal :=
  finish s (match s.ldr.tagStore with
    | none => s
    | some (i, v) =>
      let s := (s.wr (R.IDN_TAG i) v).addSat R.IDN_TAG_WRITES 1
      let s := ({ s with ldr := { s.ldr with tagStore := none } } : State).setB R.IDN_TAG_CTRL 1 false
      s.idnNext s.ldr.tagWait.length)
/-- A write of 1 to IDN_TAG_CTRL.LOCK (R90). -/
def execTagLock (s : State) : Host.Outcome State Fault Refusal := finish s (s.idnAccess (.wr .pf0 R.IDN_TAG_CTRL 1))

end Sys2Proof.Machine
end

