-- ==== Sys2Proof/Machine/Rtc.lean ====
section
/-! DEFINITION. The real-time clock and its backup domain (19_rtc.md, R413 to R425). The oscillator's edges have no command
of their own: the prescaler stands at some value it can have reached whenever it is observed. -/
namespace Sys2Proof.Machine

/-! ### The calendar (R416, R417) -/

/-- Seconds from 2000-01-01 to 2200-01-01, in which 2100 is not a leap year. -/
def calEnd : Nat := 73049 * 86400
def leapYear (y : Nat) : Bool := y % 4 == 0 && y != 100
/-- Year since 2000 and day of the year, counted from 0, of a day since 2000-01-01. -/
def yearOf : Nat → Nat → Nat → Nat × Nat
  | 0, y, d => (y, d)
  | f + 1, y, d =>
    let n := if leapYear y then 366 else 365
    if d < n then (y, d) else yearOf f (y + 1) (d - n)
/-- Month from 1 and day from 1 of a day of the year, given the lengths of the months from `m` on. -/
def monthOf : List Nat → Nat → Nat → Nat × Nat
  | [], m, d => (m, d + 1)
  | n :: t, m, d => if d < n then (m, d + 1) else monthOf t (m + 1) (d - n)
/-- RTC_CAL0 without WDAY, and RTC_CAL1, of a count. -/
def calWords (c : Nat) : Nat × Nat :=
  let t := c % 86400
  let (y, d) := yearOf 200 0 (c / 86400)
  let (m, day) := monthOf [31, if leapYear y then 29 else 28, 31, 30, 31, 30, 31, 31, 30, 31, 30, 31] 1 d
  (t % 60 + t / 60 % 60 * 256 + t / 3600 * 65536, day + m * 256 + y * 65536)
def State.rtcCount (s : State) : Nat := s.rd64 R.RTC_SEC_LO
/-- RTC_STATUS.MODE is calendar. -/
def State.rtcCal (s : State) : Bool := s.bit R.RTC_STATUS 1
/-- The calendar registers follow the count, the mode and WDAY; in binary mode they read 0. -/
def State.rtcShow (s : State) : State :=
  if s.rtcCal then
    let w := calWords s.rtcCount
    (s.wr R.RTC_CAL0 (w.1 + s.rtc.wday * 16777216)).wr R.RTC_CAL1 w.2
  else (s.wr R.RTC_CAL0 0).wr R.RTC_CAL1 0
/-- The count takes a value. -/
def State.rtcPut (s : State) (c : Nat) : State := (s.wr64 R.RTC_SEC_LO (c % 2 ^ 48)).rtcShow
/-- WDAY steps at a transition of the count to a multiple of 86 400 (R417). -/
def State.wdayStep (s : State) (c0 c1 : Nat) : State :=
  s.onIf (c1 != c0 && c1 % 86400 == 0) (fun s => { s with rtc := { s.rtc with wday := if 6 ≤ s.rtc.wday then 0 else s.rtc.wday + 1 } })
/-! ### Alarms (R423, R424) -/

def State.almT (s : State) (a : Nat) : Nat := s.rd64 (R.RTC_ALM_T_LO a)
def State.almPast (s : State) (a : Nat) : Bool := if a = 0 then s.rtc.past0 else s.rtc.past1
def State.setPast (s : State) (a : Nat) (b : Bool) : State :=
  if a = 0 then { s with rtc := { s.rtc with past0 := b } } else { s with rtc := { s.rtc with past1 := b } }
/-- The period of a REPEAT code, 0 for none. -/
def almPeriod (r : Nat) : Nat := nth [0, 60, 3600, 86400, 604800] r 0
/-- An alarm fires at the count c. -/
def State.almFire (s : State) (a c : Nat) (passed : Bool) : State :=
  let s := (s.setB R.RTC_EVENTS a true).onIf passed (fun s => s.setB R.RTC_EVENTS (2 + a) true)
  let p := almPeriod (s.fld (R.RTC_ALM_CTRL a) 3 1)
  let s := s.setPast a false
  let s := if p = 0 then s.setB (R.RTC_ALM_CTRL a) 0 false
    else
      let n := (c - s.almT a) / p + 1
      (s.setF (R.RTC_ALM_CTRL a) 15 8 (min 255 (n - 1))).wr64 (R.RTC_ALM_T_LO a) ((s.almT a + n * p) % 2 ^ 48)
  s.onIf (s.bit R.PCM_WAKE_EN 4) (fun s => s.wake 4)
/-- The test of an alarm at an edge that takes the count from c0 to c1; `jump` under a SET or a sync. -/
def State.almTest (s : State) (jump : Bool) (c0 c1 a : Nat) : State :=
  let T := s.almT a
  let past := s.almPast a
  let s := s.onIf (decide (c1 < T)) (fun s => s.setPast a false)
  if !s.bit (R.RTC_ALM_CTRL a) 0 then s
  else if c1 = T ∧ c0 ≠ T then s.almFire a c1 false
  else if jump ∧ c0 < T ∧ T < c1 then s.almFire a c1 true
  else if T ≤ c0 ∧ c1 = c0 + 1 ∧ past then s.almFire a c1 true
  else s
/-- Both alarms. -/
def State.almTests (s : State) (jump : Bool) (c0 c1 : Nat) : State := (s.almTest jump c0 c1 0).almTest jump c0 c1 1

/-! ### Rows -/

/-- A key of the RTC block. -/
def isRtcKey (k : Nat) : Bool := decide (0x200000 ≤ k) && decide (k < 0x300000)
/-- The backup domain starts after it has lost its contents (R413). -/
def execRtcDomainStart (s : State) : Host.Outcome State Fault Refusal :=
  finish s (
    let s := s.restore (fun k q => k == .x && isRtcKey q)
    let s : State := { s with rtc := { s.rtc with osc := true, past0 := false, past1 := false, wday := 0 } }
    (s.setB R.RTC_STATUS 0 true).setB R.RTC_EVENTS 4 true)
/-- The prescaler wraps (R416, R417, R423). -/
def State.rtcSecond (s : State) : State :=
  if !s.rtc.osc then s
  else
    let c0 := s.rtcCount
    let c1 := if s.rtcCal && decide (calEnd ≤ c0 + 1) then 0 else (c0 + 1) % 2 ^ 48
    (((s.wr R.RTC_SUB 0).wdayStep c0 c1).rtcPut c1).almTests false c0 c1
/-- A second of the RTC (R416). -/
def execRtcSecond (s : State) : Host.Outcome State Fault Refusal := finish s s.rtcSecond
/-- The temperature sensor takes a sample (R414). -/
def execRtcTempSample (t : Temp) (s : State) : Host.Outcome State Fault Refusal :=
  finish s (s.onIf s.rtc.osc (fun s => s.wr R.RTC_TEMP t.toNat))
/-- curve(T) at a temperature in 1/16 degree (R419). -/
def State.curveAt (s : State) (t : Int) : Int :=
  let e := fun (i : Nat) => sgnW 13 (s.fld (R.RTC_CURVE i) 12 0)
  if t < -640 then e 0
  else if 1520 ≤ t then e 15
  else
    let i := ((t + 640) / 144).toNat
    let x := (e (i + 1) - e i) * (t + 640 - 144 * i)
    e i + (2 * x + 144) / 288
/-- The correction of the next compensation period (R418). -/
def State.trimN (s : State) : Int :=
  let o := sgnW 13 (s.fld R.RTC_OFFSET 12 0)
  clampI (-4095) 4095 (if s.bit R.RTC_CFG 0 then o + s.curveAt (sgnW 16 (s.fld R.RTC_TEMP 15 0)) else o)
/-- A compensation period begins (R418). -/
def execTrimPeriod (s : State) : Host.Outcome State Fault Refusal :=
  finish s (s.onIf s.rtc.osc (fun s => s.wr R.RTC_CORR (unsgnW 13 s.trimN)))
/-- The oscillator shows no edge for 1 ms (R415). -/
def execOscStop (s : State) : Host.Outcome State Fault Refusal :=
  finish s (if !s.rtc.osc then s
    else
      let s := s.rtcSub
      let s : State := { s with rtc := { s.rtc with osc := false } }
      (s.setB R.RTC_STATUS 0 true).setB R.RTC_EVENTS 4 true)
/-- The oscillator runs again: counting resumes from the held value (R415). -/
def execOscResume (s : State) : Host.Outcome State Fault Refusal := finish s { s with rtc := { s.rtc with osc := true } }
/-- RTC_CMD SET; a further SET while one is outstanding is ignored (R421). -/
def execRtcSet (s : State) : Host.Outcome State Fault Refusal := finish s (s.setB R.RTC_STATUS 4 true)
/-- The second oscillator edge after a SET (R421). -/
def State.rtcSetApply (s : State) : State :=
  if !s.bit R.RTC_STATUS 4 || !s.rtc.osc then s
  else
    let c0 := s.rtcCount
    let cal := s.bit R.RTC_SET_CTRL 0
    let v := s.rd64 R.RTC_SET_SEC_LO
    let c1 := if cal && decide (calEnd ≤ v) then 0 else v
    let s := (s.setB R.RTC_STATUS 1 cal).setB R.RTC_STATUS 4 false
    let s : State := { s with rtc := { s.rtc with wday := s.fld R.RTC_SET_CTRL 6 4 } }
    (((s.wr R.RTC_SUB 0).rtcPut c1).setB R.RTC_EVENTS 6 true).almTests true c0 c1
/-- A staged time is applied (R421). -/
def execRtcSetApply (s : State) : Host.Outcome State Fault Refusal := finish s s.rtcSetApply
/-- RTC_CMD SYNC (R422). -/
def execRtcSync (s : State) : Host.Outcome State Fault Refusal := finish s s.syncArm
/-- RTC_CMD CANCEL_SYNC: before the boundary it disarms; at or after it, it is late (R422). -/
def State.cancelSync (s : State) : State :=
  if s.bit R.RTC_STATUS 2 then s.setB R.RTC_STATUS 2 false
    else s.onIf s.rtc.synced (fun s => s.setB R.RTC_STATUS 3 true)
/-- RTC_CMD CANCEL_SYNC (R422). -/
def execCancelSync (s : State) : Host.Outcome State Fault Refusal := finish s s.cancelSync
/-- The sync at a second boundary of the view, which reads `sec` (R422). A set time outside the count's range has no stated
value: it is free (log entry 4). -/
def State.rtcSyncApply (s : State) (sec : Nat) : State :=
  let s := s.rtcSub
  let c0 := s.rtcCount
  let t : Int := sec + sgn32 (s.rd R.RTC_SYNC_OFF)
  let lim := if s.rtcCal then calEnd else 2 ^ 48
  let c1 := if 0 ≤ t ∧ t < lim then t.toNat else s.takeFree.1 % lim
  let s := s.takeFree.2
  let d := clampI (-2147483648) 2147483647 (((c0 : Int) - t) * 32768 + s.fld R.RTC_SUB 14 0)
  let s := (s.wr R.RTC_SYNC_DIFF (unsgnW 32 d)).wr R.RTC_SUB 0
  let s := ((s.wdayStep c0 c1).rtcPut c1).setB R.RTC_STATUS 2 false
  let s : State := { s with rtc := { s.rtc with synced := true } }
  (s.setB R.RTC_EVENTS 5 true).almTests true c0 c1
/-- A second boundary of the system clock view: the hourly automatic sync is armed, and an armed sync is applied while the view is valid (R422). -/
def State.rtcViewSecond (s : State) (v : Nat) : State :=
  if v ≠ s.sysView then s
  else
    let sec := (s.viewTime v).2.1
    let due := s.bit R.RTC_CFG 8 && s.rtc.autoAt.elim false (fun t => decide (t ≤ sec))
    let s := s.onIf due (fun s => ({ s with rtc := { s.rtc with autoAt := some (sec + 3600) } } : State).syncArm)
    s.onIf (s.bit R.RTC_STATUS 2 && s.viewValid v && s.rtc.osc) (fun s => s.rtcSyncApply sec)
/-- A target takes a value (R424). -/
def State.almTarget (s : State) (a t : Nat) : State :=
  (s.wr64 (R.RTC_ALM_T_LO a) (t % 2 ^ 48)).setPast a (decide (t % 2 ^ 48 ≤ s.rtcCount))
/-- A write of an alarm's target (R424). -/
def execAlarmTargetWrite (n : Fin 2) (t : BitVec 48) (s : State) : Host.Outcome State Fault Refusal := finish s (s.almTarget n.val t.toNat)
/-- A write of RTC_ALM_CTRL: EN, and REPEAT unless its code is reserved (R6, R424). -/
def State.almCtrl (s : State) (a v : Nat) : State :=
  let set := v.testBit 0 && !s.bit (R.RTC_ALM_CTRL a) 0
  let s := (s.setB (R.RTC_ALM_CTRL a) 0 (v.testBit 0)).onIf (decide (bitsOf v 3 1 ≤ 4)) (fun s => s.setF (R.RTC_ALM_CTRL a) 3 1 (bitsOf v 3 1))
  s.onIf (set && decide (s.almT a ≤ s.rtcCount)) (fun s => s.setPast a true)
/-- A write of RTC_ALM_CTRL (R424). -/
def execAlarmCtrlWrite (n : Fin 2) (v : Word) (s : State) : Host.Outcome State Fault Refusal := finish s (s.almCtrl n.val v.toNat)

end Sys2Proof.Machine
end

