-- ==== Sys2Proof/Machine/WardenRows.lean ====
section
/-! DEFINITION. The rows of the wardens that can end in the warm image reset of R378. -/
namespace Sys2Proof.Machine

/-- A voter acts on the words it holds (R370). -/
def execVoteApply (v : Voter) (s : State) : Host.Outcome State Fault Refusal := finish s (s.voteApply v).warmAsked
/-- A health bit of a lane is set and the wardens act on it (R366). -/
def execHealthFault (l : Lane) (b : Fin 12) (s : State) : Host.Outcome State Fault Refusal :=
  finish s (
    if s.role l = 0 ∧ (b.val = 4 ∨ b.val = 5) then s
    else ((s.healthBit l b.val).syncHold.wardensAct).warmAsked)
/-- A pair completes its patrol test set, or fails and is retired (R368). -/
def execPatrolSetDone (l : Lane) (t : Pair) (ok : Bool) (s : State) : Host.Outcome State Fault Refusal :=
  finish s (
    if !s.tested l || s.pairFailed l t.val then s
    else if ok then s.addWrap (R.WDN_TEST_SETS (laneIx l)) 1
    else
      let s := (s.addSat (R.WDN_TEST_RETIRED (laneIx l)) 1).setB (R.WDN_HEALTH (laneIx l)) 24 true
      ((s.pairFail l t.val).wardensAct).warmAsked)
/-- The scrub has found an uncorrectable word in a region in use: ECC_UNCORR, and LANE_STOP (Table 16-2, R378). -/
def State.scrubHit (s : State) (l : Lane) : State := (((s.healthBit l 1).laneHalt l).syncHold.wardensAct).warmAsked
/-- The scrub completes a pass in which it corrected `errs` words and found `bad` that it cannot correct; `used` says that one of
these lies in a region in use (R368, Table 16-2). -/
def execScrubPassDone (l : Lane) (errs bad : W16) (used : Bool) (s : State) : Host.Outcome State Fault Refusal :=
  finish s (
    if !s.tested l then s
    else
      let s := ((s.addWrap (R.WDN_TEST_SCRUBS (laneIx l)) 1).addSatF (R.WDN_TEST_SCRUB_ERR (laneIx l)) 15 0 errs.toNat).addSatF
        (R.WDN_TEST_SCRUB_ERR (laneIx l)) 31 16 bad.toNat
      let s := s.onIf (errs.toNat != 0) (fun s => s.setB (R.WDN_HEALTH (laneIx l)) 26 true)
      s.onIf (used && bad.toNat != 0) (fun s => s.scrubHit l))
/-- A forced difference tests the comparators (R368). -/
def execCompSelfCheck (l : Lane) (ok : Bool) (s : State) : Host.Outcome State Fault Refusal :=
  finish s (
    if !s.tested l then s
    else
      let s := s.addSatF (R.WDN_TEST_COMP (laneIx l)) 15 0 1
      if ok then s else (((s.addSatF (R.WDN_TEST_COMP (laneIx l)) 31 16 1).healthBit l 9).syncHold.wardensAct).warmAsked)

end Sys2Proof.Machine
end

