-- ==== Sys2Proof/Machine/Boundary.lean ====
section
/-! DEFINITION. A sample boundary on the I/O die: the lane A view writes, the commit of resets, the image swap and the boundary itself
(R10, R82 to R84, R96, R97, R157, R177, R203, R231, R255, R298, R314, R338); the end of a VI reset; the instants of a clock view's second and of TRIG_IN. -/
namespace Sys2Proof.Machine

/-! ### VI and polder resets (R96, R97, R230, R254, R267, R297, R315, R337, R352) -/

/-- The registers that hold a polder's counters (R96, R267). -/
def isPolderKey (p k : Nat) : Bool :=
  let f := foldLane k
  (decide (R.PLD_TILES p ≤ k) && decide (k < R.PLD_TILES (p + 1)) && decide (k < R.PLD_TILES 64)) ||
    (decide (R.SCH_PLD_CHARGE .a p ≤ f) && decide (f < R.SCH_PLD_CHARGE .a (p + 1)) && decide (f < R.SCH_PLD_CHARGE .a 64))
/-- The registers beside its page that a reset of VI n clears: its statistics in the fabric and the sluice, those of its cyclic and event
tasks and of the points it owns. -/
def State.isViKey (s : State) (n k : Nat) : Bool :=
  let f := foldLane k
  let l := laneOfKey k
  let inA := fun (b w c : Nat) => decide (b ≤ f) && decide (f < b + w * c)
  if inA (R.FAB_VI_STAT0 .a 0) 16 4096 then (f - R.FAB_VI_STAT0 .a 0) / 16 == n
  else if inA (R.SLU_VI_SPEC0 0) 32 4096 then (f - R.SLU_VI_SPEC0 0) / 32 == n
  else if inA (R.CPE_TSTAT0 .a 0) 32 32 then s.taskVi l ((f - R.CPE_TSTAT0 .a 0) / 32) == n
  else if inA (R.CPE_ESTAT0 .a 0) 16 64 then s.fld (R.CPE_EV0 l ((f - R.CPE_ESTAT0 .a 0) / 16)) 15 4 == n
  else if inA (R.NRG_PT0 .a 0) 256 2048 then s.fld (R.NRG_PT0 l ((f - R.NRG_PT0 .a 0) / 256)) 27 16 == n
  else false
/-- Step 1 of Table 04-5 for a VI, on the I/O die, in the sluice and in both lanes. -/
def State.viCommit (s : State) (n : Nat) : State :=
  let s := (s.viCommitIo n).sluPurgeVi n
  [Lane.a, Lane.b].foldl (fun s l => (((s.lanePurgeVi l n).slotViPurge l n).taskViHold l n).recViEnd l n) s
/-- The commit of one request; a polder reset also clears the polder's counters. -/
def State.rstCommit (s : State) (r : RstReq) : State :=
  let vis := s.reqVis r
  let parts : List RstReq := match r with
    | .polder p => .polder p :: vis.map RstReq.part
    | q => [q]
  let s := vis.foldl (fun s n => s.viCommit n) s
  let s := match r with
    | .polder p => (s.restore (fun (k : RKind) (q : Nat) => k == RKind.d && isPolderKey p q)).addSat (R.PLD_RESETS p) 1
    | _ => s
  let s : State := { s with host := { s.host with rstRun := s.host.rstRun ++ parts.filter (fun q => !s.host.rstRun.contains q) } }
  vis.foldl (fun s n => s.viState n) s
/-- Step 4 of a polder reset that has no VI to wait for is reached by the boundary after its commit (R97). -/
def State.rstEmpty (s : State) : State :=
  let busy := s.host.rstRun.filterMap (fun r => match r with | .part m => some (s.viPolder m) | _ => none)
  let run := s.host.rstRun.filter (fun r => match r with | .polder p => busy.contains p | _ => true)
  if run.length = s.host.rstRun.length then s
  else ({ s with host := { s.host with rstRun := run } } : State).setB R.VIR_EVENTS 0 true
/-- The queued requests commit together once the newest has been accepted for 10 000 ns (R96). -/
def State.rstCommits (s : State) : State :=
  let s := s.rstEmpty
  let q := s.host.rstQ
  if q.isEmpty || decide (s.now < s.host.rstAt + 10000) then s
  else
    let s : State := { s with host := { s.host with rstQ := [] } }
    let s := q.foldl (fun s r => s.rstCommit r) s
    ((s.laneEnd .a).laneEnd .b).rstRetry
/-- Steps 3 and 4 of Table 04-5: the VI has its initial state, and runs from the next boundary. -/
def State.viResetDone (s : State) (n : Nat) : State :=
  if !s.viResetting n then s
  else
    let s := s.restore (fun k q => k == .v && s.isViKey n q)
    let s := [Lane.a, Lane.b].foldl (fun s l => (((s.taskViInit l n).slotViStart l n).taskViStart l n).recViStart l n) s
    let p := s.viPolder n
    let run := s.host.rstRun.filter (fun r => r != .vi n && r != .part n)
    let left := run.any (fun r => match r with | .part m => s.viPolder m == p | _ => false)
    let s : State := { s with host := { s.host with rstRun := if left then run else run.filter (· != .polder p) } }
    let s := s.viState n
    (s.setB (R.VI_EVENTS n) 0 true).setB R.VIR_EVENTS 0 true
/-- Step 4 of a VI reset (R97). -/
def execViResetDone (vi : Vi) (s : State) : Host.Outcome State Fault Refusal := finish s (s.viResetDone vi.val)

/-! ### The swap of an exchange (R82, R83) -/

/-- The image-loaded fields of consecutive registers are the same in two states. -/
def cfgSame (o n : State) (k w : Nat) : Bool :=
  (List.range w).all (fun i => (o.rd (k + 4 * i) &&& imgMask (k + 4 * i)) == (n.rd (k + 4 * i) &&& imgMask (k + 4 * i)))
/-- The registers of a range keep only their image-loaded fields. -/
def State.clearRun (s : State) (lo hi : Nat) : State :=
  { s with regs := (cellCanon resetVal s.regs).map (fun e => (e.1, if lo ≤ e.1 ∧ e.1 < hi then e.2 &&& imgMask e.1 else e.2)) }

/-- The FDB (R157): learned entries stay where no static entry has taken their place, unless they name a disabled port or a VLAN that is not valid. -/
def State.swapFdb (s : State) (o : State) : State :=
  let learned := o.fdbUsed.filter (fun e => !o.bit (R.SWC_FDB1 e) 29 && !o.bit (R.SWC_FDB1 e) 30)
  let keep := learned.filter (fun e => !s.bit (R.SWC_FDB1 e) 28 && s.portMode (o.fld (R.SWC_FDB2 e) 5 0) != 0 &&
    s.vlanValid (o.fld (R.SWC_FDB1 e) 27 16))
  let s := learned.foldl (fun s e => s.onIf (!keep.contains e) (fun s => s.wr (R.SWC_FDB3 e) 0)) s
  (keep.foldl (fun s e => s.wrs (R.SWC_FDB0 e) (o.rds (R.SWC_FDB0 e) 4)) s).fdbCount
/-- Ports, redundancy sets and views (R134, R157, R166). -/
def State.swapNet (s : State) (o : State) : State :=
  let s := s.swapFdb o
  let s := (List.range 48).foldl (fun s p =>
    if !(cfgSame o s (R.PRT_MODE p) 1 && cfgSame o s (R.PRT_SERDES_TX p) 2) then s.portReset p
    else s.onIf (o.fld (R.PRT_FWD p) 10 8 != s.fld (R.PRT_FWD p) 10 8) (fun s => s.stepBase p)) s
  let s := ((List.range 4).filter (fun n => !cfgSame o s (R.SWC_RED_CFG n) 1)).foldl (fun (s : State) n =>
    ({ s with net := { s.net with dups := s.net.dups.filter (fun d => d.set != n), supSeq := modAt s.net.supSeq n (fun _ => 0) } } : State).wr
      (R.SWC_RED_SEQ n) 0) s
  let s := ((List.range 8).filter (fun v => !cfgSame o s (R.CV_BIND v) 1)).foldl (fun s v => s.validLost v) s
  let s := (List.range 4096).foldl (fun s n =>
    if s.viExists n then s.viState n else s.onIf (o.viExists n) (fun s => s.setF (R.VI_STATUS n) 1 0 0)) s
  State.lagCheck o (s.swcFlags.setFree (s.rd R.SWC_FREE))
/-- A stream ends or relocks at X: its indices below X go on as before until their deadlines, without predictions of X or later (R83, R203). -/
def State.svLeave (s : State) (i x : Nat) : State :=
  let r := { s.svRt i with predFrom := some (idxAdd x 1073741824) }
  let s : State := { s with ing := { s.ing with svOld := mapPut s.ing.svOld i (r, s.svState i) } }
  (s.setSvState i 0).setSv i {}
/-- The sets of X and later that came before X are formed anew from their inputs (R203). -/
def State.svRebuild (s : State) (i x : Nat) : State :=
  s.setSv i { s.svRt i with sets := (s.svRt i).sets.map (fun e => if idxGe e.key x then s.svBuild i e.key else e) }
/-- Streams, GOOSE entries and chains (R203). -/
def State.swapIng (s : State) (o : State) (x : Nat) : State :=
  let s := (List.range 1024).foldl (fun s i =>
    if !s.svEn i && !o.svEn i then s
    else if !o.svEn i then (s.setSvState i 0).setSv i {}
    else if !s.svEn i then s.svLeave i x
    else
      let chans := (List.range (s.svNch i)).all (fun c => cfgSame o s (R.ING_CH_SCALE (s.svCh i c)) 4)
      if cfgSame o s (R.ING_SV0 i) 7 && chans then s
      else if o.fld (R.ING_SV0 i) 17 0 == s.fld (R.ING_SV0 i) 17 0 && o.rd (R.ING_SV1 i) == s.rd (R.ING_SV1 i) &&
          o.fld (R.ING_SV2 i) 5 0 == s.fld (R.ING_SV2 i) 5 0 && o.fld (R.ING_SV6 i) 15 0 == s.fld (R.ING_SV6 i) 15 0 then
        (s.setSv i { s.svRt i with predFrom := some x }).svRebuild i x
      else s.svLeave i x) s
  let s := (List.range 4096).foldl (fun s g =>
    let was := o.bit (R.ING_GO0 g) 31
    let is := s.bit (R.ING_GO0 g) 31
    if !was && !is then s
    else if was && is && o.fld (R.ING_GO0 g) 15 0 == s.fld (R.ING_GO0 g) 15 0 && o.rd (R.ING_GO1 g) == s.rd (R.ING_GO1 g) &&
        o.fld (R.ING_GO2 g) 7 0 == s.fld (R.ING_GO2 g) 7 0 then s
    else
      let s : State := { s with ing := { s.ing with go := mapDel s.ing.go g, gq := s.ing.gq.filter (fun q => q.2.1 != g) } }
      s.wrs (R.ING_GO_STAT0 g) [0, 0, 0]) s
  let s : State := { s with ing := { s.ing with early := s.ing.early.filter (fun e => s.svEn e.1 && s.svState e.1 == 2) } }
  (List.range 24).foldl (fun s m =>
    let was := o.bit (R.MC_CFG m) 31
    let is := s.bit (R.MC_CFG m) 31
    let c := s.fld (R.MC_CTRL m) 1 0
    if !is then s.onIf was (fun s => (s.setF (R.MC_STATUS m) 2 0 0).setMc m {})
    -- the boundary's own work starts it, after BOUNDARY(X) (R197)
    else if !was then (s.setMc m { req := 1 }).setF (R.MC_STATUS m) 2 0 1
    else if cfgSame o s (R.MC_CFG m) 5 && cfgSame o s (R.ING_MCLK_CFG (m / 4)) 1 && cfgSame o s (R.ING_MC_COEF c 0) 64 then s
    else s.onIf (decide (2 ≤ s.mcState m)) (fun s => (s.setF (R.MC_STATUS m) 2 0 1).setMc m { s.mcRt m with req := 1 })) s

/-- The VI's program or initial state is another one. -/
def State.viChanged (o n : State) (l : Lane) (v : Nat) : Bool :=
  o.viProg l v != n.viProg l v || o.viInit l v != n.viInit l v
/-- The VIs of a lane (R83, R231): a changed one takes its new initial words once its last run below X has ended. -/
def State.swapVis (s : State) (o : State) (l : Lane) (x : Nat) : State :=
  let s := s.modLane l (fun y => { y with oldRes := some (x, (o.regs.filter (fun e =>
    decide (R.FAB_RESIDENT l 0 ≤ e.1) && decide (e.1 < R.FAB_RESIDENT l 4096))).map (fun e => ((e.1 - R.FAB_RESIDENT l 0) / 4, e.2))) })
  (List.range 4096).foldl (fun s v =>
    let was := o.fabEn l v
    let is := s.fabEn l v
    if !was && !is then s
    else if !was then s.laneViInit l v
    else
      let lv := o.viLive l v
      if is && State.viChanged o s l v then (s.modLane l (fun y => { y with vis := mapPut y.vis v { lv with carry := some (x, false) } })).carryPoll l v
      else s.modLane l (fun y => { y with vis := mapPut y.vis v lv })) s
/-- The loop slots of a lane (R298). -/
def State.swapSlots (s : State) (o : State) (l : Lane) : State :=
  (List.range 1024).foldl (fun s L =>
    let was := o.slotEn l L
    let is := s.slotEn l L
    if !is then s
    else if !was then
      ((((s.setSlotRt l L {}).wrs (R.LPE_SLOT_SPPV l L) (List.replicate 13 0)).wr (R.LPE_SLOT_SP_TARGET l L) (s.rd (R.LPE_SLOT_SP_INIT l L))).slotStart l L)
    else if cfgSame o s (R.LPE_SLOT0 l L) 30 then s
    else
      let moved := !cfgSame o s (R.LPE_SLOT_PERIOD l L) 2
      let r := s.slotRt l L
      s.setSlotRt l L { r with changed := true, cd := if moved then s.fld (R.LPE_SLOT_PHASE l L) 19 0 else r.cd }) s
/-- What makes an optimiser model: the fields and arrays of Table 12-3. -/
def State.optImage (s : State) (l : Lane) : List (List Nat) :=
  let n := s.optN l
  let m := s.optM l
  let np := s.rd (R.OPT_NNZ_P l)
  let na := s.rd (R.OPT_NNZ_A l)
  let lens := [n + 1, np, np, n + 1, na, na, m, n, m, n, m, m, n + m, n + m + 1, s.rd (R.OPT_NNZ_L l)]
  s.rds (R.OPT_CFG l) 12 :: lens.zipIdx.map (fun e => s.optArr l e.2 e.1)
/-- The optimiser of a lane (R298). -/
def State.swapOpt (s : State) (o : State) (l : Lane) : State :=
  if o.optImage l = s.optImage l then s
  else
    let p := o.opt l
    let st := o.optState l
    let busy := decide (st = 1) || decide (st = 2)
    let s := s.optInit l
    let s := s.onIf (busy && (decide (st = 2) || !s.bit (R.OPT_CFG l) 0)) (fun s => s.optLast l 7)
    if !s.bit (R.OPT_CFG l) 0 then s
    else
      let s := s.modOpt l (fun q => { q with held := p.held, cd := p.cd, due := p.due })
      let s := s.setB (R.OPT_STATUS l) 10 p.held
      if st = 1 then (s.modOpt l (fun q => { q with run := p.run, discard := true })).setOptState l 1 else s
/-- Cyclic tasks, event tasks and stations of a lane (R300, R314). -/
def State.swapTasks (s : State) (o : State) (l : Lane) : State :=
  let s := (List.range 32).foldl (fun s t =>
    let was := (o.tasksOn l).contains t
    let is := (s.tasksOn l).contains t
    if !was && !is then s
    else if !is then s.setTaskState l t 0
    else if !was then (s.setTask l t {}).taskStart l t false
    else if cfgSame o s (R.CPE_TASK_PERIOD l t) 2 then s
    else (s.setTask l t { s.task l t with cd := s.fld (R.CPE_TASK_PHASE l t) 17 0 }).setF (R.CPE_TSTAT0 l t) 15 8 0) s
  let s := ((List.range 64).filter (fun e => !s.bit (R.CPE_EV0 l e) 0)).foldl (fun s e => s.modLane l (fun y => { y with evq := mapDel y.evq e })) s
  ((List.range 1024).filter (fun i => s.bit (R.CPE_STA0 l i) 0 && !o.bit (R.CPE_STA0 l i) 0)).foldl (fun s i =>
    (s.modLane l (fun y => { y with stas := mapDel y.stas i })).wrs (R.CPE_SSTAT0 l i) [0, 0, 0, 0]) s
/-- Metering points of a lane (R338): an added one starts at X; one that is removed or changed takes its indices below X first. -/
def State.swapPoints (s : State) (o : State) (l : Lane) (x : Nat) : State :=
  let f0 := o.f0 l != s.f0 l
  let s := (List.range 2048).foldl (fun s e =>
    let was := (o.ptsOn l).contains e
    let is := (s.ptsOn l).contains e
    if !was && !is then s
    else if !was then ((((s.setPt l e {}).clearRun (R.NRG_PT0 l e) (R.NRG_PT0 l (e + 1))).clearRun (R.NRG_QUANT l e 0) (R.NRG_QUANT l (e + 1) 0)).ptRegs l e).ptStart l e
    else if is && cfgSame o s (R.NRG_PT0 l e) 7 && !f0 then s
    else (s.setPt l e { s.pt l e with x := some x }).ptSwitch l e) s
  s.nrgStatus l
/-- Capture units of a lane (R352): what is armed is armed anew from X, a removed unit is not armed again. -/
def State.swapUnits (s : State) (o : State) (l : Lane) (x : Nat) : State :=
  (List.range 16).foldl (fun s u =>
    let was := o.unitEn l u
    let is := s.unitEn l u
    let st := s.unitState l u
    let armed := decide (st = 1) || decide (st = 2)
    if !was && is then s.onIf (s.bit (R.REC_UNIT0 l u) 4) (fun s => s.recArm l u (some x))
    else if was && armed && !(is && o.unitDef l u == s.unitDef l u) then
      let s := match s.openRec l u with | some r => s.recDrop l r | none => s
      (s.setUnitState l u 0).onIf is (fun s => s.recArm l u (some x))
    else s.onIf (was && !is && st == 4) (fun s => s.setUnitState l u 0)) s
/-- A lane at X. -/
def State.swapLane (s : State) (o : State) (l : Lane) (x : Nat) : State :=
  let s := (s.swapVis o l x).laneLoaded l
  let s := ((s.swapSlots o l).swapOpt o l).swapTasks o l
  (s.swapPoints o l x).swapUnits o l x
/-- The loader after the swap (R82, R393). -/
def State.swapDone (s : State) (i : Image) : State :=
  let s : State := { s with ldr := { s.ldr with image := some i, committed := some s.activeBank, staged := none, xchg := none } }
  let s := (s.putFp (R.CFG_FINGERPRINT 0) i.root).wr R.CFG_IMAGE_SERIAL i.serial
  let s := (s.setB R.CFG_STATUS 8 (i.keySlot == 0xFF)).setB R.CFG_STATUS 9 true
  let s := ((s.setOp 0).setB R.CFG_EVENTS 4 true).addWrap R.CFG_XCHG_COUNT 1
  s.commitRecord
/-- Every subsystem swaps its shadow in at X (R82): templates and DOUT configuration wait in the sluice (R255). -/
def State.imageSwap (o : State) (i : Image) (x : Nat) : State :=
  let n := o.shadowBase.loadImage true [.a, .b] i
  let keep := (cellCanon resetVal o.regs).filter (fun e => isSluCfg e.1)
  let s : State := { n with ldr := { n.ldr with was := some (x, (cellCanon resetVal o.regs).filter (fun e => isIndexCfg e.1)) }
                            regs := keep ++ n.regs.filter (fun e => !isSluCfg e.1),
                            slu := { n.slu with nextCfg := some (x, (cellCanon resetVal n.regs).filter (fun e => isSluCfg e.1)) } }
  let s := ((s.numberVis.swapNet o).swapIng o x).ingLoaded
  let s := (s.swapLane o .a x).swapLane o .b x
  let s : State := s.onIf (!cfgSame o s (R.NRG_SAVE_INT .a) 1) (fun s => { s with nrg := { s.nrg with cd := 0 } })
  (s.swapDone i).cfgSwap

/-! ### The boundary (R10, R13, R82, R177, R197, R306, R331, R375) -/

/-- Writes and commands of the lane A view, and due changes of mode, go to both lanes for boundary k (R10, R306). -/
def State.viewWrites (s : State) (k : Nat) : State :=
  let due := s.xl.modes.filter (fun m => decide (m.1 ≤ s.now))
  let cs := (s.xl.cmds ++ due.map (·.2)).map (fun c => (k, c))
  let s : State := { s with xl := { s.xl with cmds := [], modes := s.xl.modes.filter (fun m => decide (s.now < m.1)) } }
  [Lane.a, Lane.b].foldl (fun s l => s.modLane l (fun x => { x with cmds := x.cmds ++ cs })) s
/-- A command register's write that sets state of its block and starts no work of the boundary. -/
def LaneCmd.sets (c : LaneCmd) : Bool :=
  match c with
  | .wr _ _ | .publish | .cold | .pw _ | .maxdemClear => true
  | _ => false
/-- The lane A view writes of boundary X are applied before the resets and the swap (R82); the work that a command starts follows the swap. -/
def State.swapWrites (s : State) (k : Nat) : State := [Lane.a, Lane.b].foldl (fun s l => s.cmdsApply l k LaneCmd.sets) s
/-- The ingest link of a lane that joins at J is released, and its first message carries the next SEQ (R201, R375). -/
def State.joinLink (s : State) (k : Nat) : State :=
  if s.wdn.join ≠ some k || !s.rsBusy then s
  else
    let l := s.rsLane
    s.onIf (s.role l == 3) (fun s =>
      let q := s.ing.seq
      (s.setB R.ING_STATUS (1 + laneIx l) false).modLane l (fun x => { x with seq := q, deaf := false }))
/-- The clock reaches the next boundary, and the boundary is issued: lane A view writes, resets, the swap, then the work of the boundary. -/
def State.sampleBoundary (s : State) : State :=
  if !(s.power == 2 || (s.power == 4 && s.pwr.ltWaitX)) then s
  else
    let k := s.nextIndex
    let s := (s.paceNext).viewWrites k
    let s := match s.ldr.xchg, s.ldr.staged with
      | some x, some i => if x = k then ((s.swapWrites k).rstCommits).imageSwap i k else s.rstCommits
      | _, _ => s.rstCommits
    (((s.joinLink k).ingBoundary k).saveCount k).ltPoke
/-- A sample boundary (R177). -/
def execSampleBoundary (s : State) : Host.Outcome State Fault Refusal := finish s s.sampleBoundary

/-! ### Seconds of a clock view, trigger inputs (R164, R173, R422, R343, R32) -/

/-- The clock reaches the next second of a view by running; nothing happens while it does not run. -/
def State.viewRuns (s : State) (v : Nat) : State :=
  if !s.bit (R.CV_BIND v) 4 || s.lowTide then s
  else
    -- the offset from which the view runs on is the one that the next edge leaves
    let s := s.onIf (!s.tmu.edge.isEmpty) (fun s => s.elapse 1)
    match s.edgesToSecond v with
    | none => s
    | some n => ((s.elapse n).viewSecond v).rtcViewSecond v
/-- A second of a view (R164, R173, R422). -/
def execViewSecond (c : Cv) (s : State) : Host.Outcome State Fault Refusal := finish s (s.viewRuns c.val)
/-- An edge of TRIG_INn: its level, the edge for the next boundary, and a wake at a rising edge that PCM_WAKE_EN selects (R32, R343). -/
def State.trigEdge (s : State) (n : Nat) (rising : Bool) : State :=
  let s := (s.setB R.PCM_PINS (6 + n) rising).trigInEdge n rising
  s.onIf (rising && s.bit R.PCM_WAKE_EN n) (fun s => s.wake n)
/-- An edge of a trigger input (R343). -/
def execTrigInEdge (n : Fin 4) (rising : Bool) (s : State) : Host.Outcome State Fault Refusal := finish s (s.trigEdge n.val rising)

end Sys2Proof.Machine
end

