-- ==== Sys2Proof/Machine/Access.lean ====
section
/-! DEFINITION. Software accesses (00_scope.md R4 to R10, 02_connectors_supplies.md R59 to R61, 03_startup_and_images.md R69):
what a write of each register does beside its fields, what a read returns, and the paths by which software reaches them. -/
namespace Sys2Proof.Machine

/-! ### Writes, block by block -/

/-- The KEY of a command register is 0x4896. -/
def keyOk (v : Nat) : Bool := bitsOf v 31 16 == 0x4896
/-- A command that acts only with its KEY, by its CODE in bits [3:0]. -/
def State.byCode (s : State) (v : Nat) (f : Nat → State → State) : State := if keyOk v then f (v % 16) s else s
/-- The wake bit of a path (R32, Table 02-16). -/
def wakeBit : Path → Nat | .i2c => 5 | .uart => 6 | _ => 7
/-- PCM (Tables 02-16, 02-19). -/
def State.wrPcm (s : State) (p : Path) (k v : Nat) : State :=
  if k = R.PCM_CMD then s.byCode v (fun c s => match c with
    | 1 => s.ltEnter
    | 2 => s.wake (wakeBit p)
    | _ => s)
  else s.writeFields k v
/-- The word held on a path for the low register of a pair, else the register's own. -/
def State.lowWord (s : State) (p : Path) (lo : Nat) : Nat := (s.heldGet p lo).getD (s.rd lo)
/-- RTC (Table 19-1): commands, staged words that a running SET protects (R421), alarms (R424). -/
def State.wrRtc (s : State) (p : Path) (k v : Nat) : State :=
  let busy := s.bit R.RTC_STATUS 4
  if k = R.RTC_CMD then s.byCode v (fun c s => match c with
    | 1 => s.setB R.RTC_STATUS 4 true
    | 2 => s.syncArm
    | 3 => s.cancelSync
    | _ => s)
  else if k = R.RTC_SET_SEC_LO then (if busy then s else s.heldPut p k v)
  else if k = R.RTC_SET_SEC_HI then (if busy then s else (s.heldApply p R.RTC_SET_SEC_LO).writeFields k v)
  else if k = R.RTC_SET_CTRL then (if busy then s else s.writeFields k v)
  else if k = R.RTC_ALM_T_LO 0 ∨ k = R.RTC_ALM_T_LO 1 then s.heldPut p k v
  else if k = R.RTC_ALM_T_HI 0 ∨ k = R.RTC_ALM_T_HI 1 then
    let a := b2n (k == R.RTC_ALM_T_HI 1)
    (s.almTarget a (s.lowWord p (k - 4) + two32 * (v % 65536))).heldDel p (k - 4)
  else if k = R.RTC_ALM_CTRL 0 ∨ k = R.RTC_ALM_CTRL 1 then s.almCtrl (b2n (k == R.RTC_ALM_CTRL 1)) v
  else s.writeFields k v
/-- WDN (Table 16-9): the commands. -/
def State.wrWdn (s : State) (k v : Nat) : State :=
  if k = R.WDN_CMD then s.byCode v (fun c s => match c with
    | 1 => s.wdnSwitch
    | 2 => s.wdnRepair (laneOfIx (bitsOf v 4 4))
    | 3 => s.abortRsync
    | 4 => s.onIf (decide (bitsOf v 6 5 < 3)) (fun s => s.wardenRestart (bitsOf v 6 5))
    | 5 => s.divClear
    | 6 => s.wdnRetire (laneOfIx (bitsOf v 4 4))
    | _ => s)
  else s.writeFields k v
/-- ICU (Table 04-13): VEC_EOI, the addresses of the MSI-X table. -/
def State.wrIcu (s : State) (p : Path) (k v : Nat) : State :=
  if 0x412000 ≤ k ∧ k < 0x413000 ∧ k % 16 = 8 then
    s.onIf (v % 2 == 1) (fun s => s.vecEoi (.pf0 (Fin.ofNat 256 ((k - 0x412000) / 16))))
  else if isHeldLow k then s.heldPut p k v
  else (s.onIf (isHeldLow (k - 4)) (fun s => s.heldApply p (k - 4))).writeFields k v
/-- VIR (Table 04-9): reset requests, the pairs of the windows and of dirty logging, SWAP (R96, R103). -/
def State.wrVir (s : State) (p : Path) (k v : Nat) : State :=
  if k = R.VIR_RESET_REQ then
    let t := bitsOf v 11 0
    if !keyOk v then s
    else match bitsOf v 13 12 with
      | 1 => (s.rstRequest (.vi t)).2
      | 2 => (s.rstRequest (.polder t)).2
      | 3 => s.rstCancel (if bitsOf v 14 14 = 1 then .polder t else .vi t) false
      | _ => s
  else if isHeldLow k then s.heldPut p k v
  else
    let s := (s.onIf (isHeldLow (k - 4)) (fun s => s.heldApply p (k - 4))).writeFields k v
    s.onIf (decide (0x5D0000 ≤ k) && decide (k < 0x5D8000) && k % 32 == 0 && v.testBit 1) (fun s => s.dirtySwap ((k - 0x5D0000) / 32 + 1))
/-- CFG (Table 03-11): the loader's commands. -/
def State.wrCfg (s : State) (p : Path) (k v : Nat) : State :=
  if k = R.CFG_CMD then
    let b : Bank := if v.testBit 4 then .b else .a
    s.byCode v (fun c s => match c with
      | 1 => s.cmdErase b
      | 2 => s.cmdWrite b
      | 3 => s.cmdVerify b
      | 4 => s.cmdStage
      | 5 => s.cmdExchange
      | 6 => s.cfgAbort false
      | 7 => s.cmdWarm
      | 8 => s.cmdRelease
      | 9 => s.cmdInvalidate b
      | _ => s)
  else if isHeldLow k then s.heldPut p k v
  else (s.onIf (isHeldLow (k - 4)) (fun s => s.heldApply p (k - 4))).writeFields k v
/-- KEY (Table 18-7): commands, from PF0 only. Whether an ABORT arrives before the running command's commit point is a free
value (log entry 4). -/
def State.wrKey (s : State) (p : Path) (k v : Nat) : State :=
  if p ≠ .pf0 then s
  else if k = R.KEY_CMD then s.byCode v (fun c s =>
    if c = 10 then s.takeFree.2.keyAbort (s.takeFree.1 % 2 == 1)
    else if 1 ≤ c ∧ c ≤ 9 then s.keyStart c (bitsOf v 11 4) else s)
  else s.writeFields k v
/-- PRT (Tables 05-5, 07-5): loopback and reset, snapshots, EEE, the management buses. -/
def State.wrPrt (s : State) (k v : Nat) : State :=
  let p := (k - 0x1000000) / 0x10000
  let o := k % 0x10000
  if o = 0xC then (if keyOk v then (s.writeFields k v).onIf (v.testBit 8) (fun s => s.portReset p) else s)
  else if o = 0x50 then
    if v.testBit 1 then (List.range 48).foldl (fun s q => s.snap q) s else s.onIf (v.testBit 0) (fun s => s.snap p)
  else if o = 0x20 ∨ o = 0x24 then (s.writeFields k v).eeeWritten p
  else if k = R.PRT_MDIO_CMD then (if v % 4 < 3 then s.mdioStart (v % 4) v else s)
  else if k = R.PRT_CAGE_CMD then s.cageStart (v.testBit 7) v
  else s.writeFields k v
/-- SWC: the mirror ring's base; a write of SWC_LAG_UP can move buckets (R144). -/
def State.wrSwc (s : State) (p : Path) (k v : Nat) : State :=
  if isHeldLow k then s.heldPut p k v
  else
    let s1 := (s.onIf (isHeldLow (k - 4)) (fun s => s.heldApply p (k - 4))).writeFields k v
    if 0x1400400 ≤ k ∧ k < 0x1400C00 then s.lagCheck s1 else s1
/-- TMU (Table 07-4): commands, the reference, increments, slews, offsets, steps, the words an armed set protects. -/
def State.wrTmu (s : State) (p : Path) (k v : Nat) : State :=
  let b := (k - 0x1800100) / 0x40
  let c := (k - 0x1800400) / 0x40
  let o := k % 0x40
  if k = R.TMU_CMD then s.byCode v (fun d s => match d with
    | 1 => s.setView (bitsOf v 6 4)
    | 2 => s.cancelSet
    | 3 => s.atEdge (.hold (bitsOf v 5 4))
    | _ => s)
  else if k = R.TMU_CLK_CFG then
    let s := s.writeFields k v
    s.setB R.TMU_STATUS 16 (v.testBit 0 && s.bit R.TMU_STATUS 17)
  else if R.TMU_SET_NS ≤ k ∧ k ≤ R.TMU_SET_CFG then s.onIf (!s.bit R.TMU_SET_CFG 31) (fun s => s.writeFields k v)
  else if 0x1800100 ≤ k ∧ k < 0x1800200 then
    if isHeldLow k then s.heldPut p k v
    else if o = 4 then s.tbIncr p b v
    else if o = 0x10 then s.slewStart b v
    else (s.onIf (isHeldLow (k - 4)) (fun s => s.heldApply p (k - 4))).writeFields k v
  else if 0x1800400 ≤ k ∧ k < 0x1800600 then
    if o = 8 then { s with tmu := { s.tmu with staged := mapPut s.tmu.staged (2 * c) (min 999999999 (v % 2 ^ 30)) } }
    else if o = 0xC then { s with tmu := { s.tmu with staged := mapPut s.tmu.staged (2 * c + 1) v } }
    else if o = 0x10 then s.offsetWrite c v
    else if o = 0x14 then s.viewStep c v
    -- VALID of a view whose EN is 0 is 0 (R161)
    else if k = R.CV_CTRL c then (s.writeFields k v).onIf (!s.bit (R.CV_BIND c) 4) (fun s => s.setB k 0 false)
    else s.writeFields k v
  else s.writeFields k v
/-- ING (Table 08-12): commands, the pacer, the filter banks. -/
def State.wrIng (s : State) (p : Path) (k v : Nat) : State :=
  if k = R.ING_CMD then s.byCode v (fun c s => match c with
    | 1 => s.syncReq
    | 2 => s.mcStart
    | 3 => s.mcStop
    | _ => s)
  else if k = R.ING_PACE_PERIOD_LO then s.heldPut p k v
  else if k = R.ING_PACE_PERIOD_HI then s.periodWrite p v
  else if k = R.ING_PACE_SHIFT then s.setShift (sgn32 v * 4294967296)
  else if 0x1C00100 ≤ k ∧ k < 0x1C00700 ∧ k % 0x40 = 0x14 then s.mcCtrl ((k - 0x1C00100) / 0x40) v
  else s.writeFields k v
/-- SLU (Table 10-7): DIV_REARM. -/
def State.wrSlu (s : State) (k v : Nat) : State :=
  if k = R.SLU_CMD then s.byCode v (fun c s => if c = 1 then s.divRearm else s) else s.writeFields k v
/-- A lane-resident block, through its lane A view: commands, and writes for the next boundary of both lanes; the lane B view
is read-only (R10). -/
def State.wrLane (s : State) (p : Path) (k v : Nat) : State :=
  if laneOfKey k = .b then s
  else if k = R.LPE_CMD .a then s.byCode v (fun c s => match c with
    | 1 => s.atBoundary .traceTrig
    | 2 => s.atBoundary .traceArm
    | _ => s)
  else if k = R.OPT_CMD .a then s.byCode v (fun c s => match c with
    | 1 => s.atBoundary .solve
    | 2 => s.atBoundary .publish
    | 3 => s.atBoundary .abort
    | 4 => s.atBoundary .cold
    | _ => s)
  else if k = R.CPE_CMD .a then s.byCode v (fun c s => match c with
    | 1 => s.cpeRun true
    | 2 => s.cpeRun false
    | 3 => s.atBoundary (.event (bitsOf v 9 4))
    | 4 => s.onIf (decide (bitsOf v 9 4 < 32)) (fun s => s.atBoundary (.restart (bitsOf v 9 4)))
    | _ => s)
  else if k = R.CPE_PW_DATA .a then s.pwWrite v
  else if k = R.NRG_CMD .a then s.byCode v (fun c s => match c with
    | 1 => s.saveBegin (idxAdd (s.rd R.ING_INDEX) 1) 2
    | 2 => s.demEnd
    | 3 => s.atBoundary .maxdemClear
    | _ => s)
  else if k = R.NRG_AN_SEL .a then s.pathPut p k (v % 64)
  else if k = R.REC_CMD .a then s.byCode v (fun c s =>
    s.onIf (decide (1 ≤ c) && decide (c ≤ 7)) (fun s => s.atBoundary (.recCmd c (bitsOf v 7 4) (bitsOf v 10 8))))
  else if isHeldLow k then s.heldPut p k v
  else
    let s := match (if isHeldLow (k - 4) then s.heldGet p (k - 4) else none) with
      | some w => (s.atBoundary (.wr (k - 4) w)).heldDel p (k - 4)
      | none => s
    s.onIf (rowAt k).isSome (fun s => s.atBoundary (.wr k v))
/-- EVT (Table 15-9): software events from PF0, the path's cursor. -/
def State.wrEvt (s : State) (p : Path) (k v : Nat) : State :=
  if k = R.EVT_SW_CMD then s.onIf (p == .pf0) (fun s => s.evtSw v)
  else if k = R.EVT_CURSOR then s.setCursor p v
  else if k = R.EVT_CUR_STEP then
    let s := s.onIf (v.testBit 0) (fun s => s.setCursor p (idxAdd (s.pathGet p R.EVT_CURSOR) 1))
    s.onIf (v.testBit 1) (fun s => s.setCursor p (idxSub (s.pathGet p R.EVT_CURSOR) 1))
  else s.writeFields k v
/-- SEP (Table 17-4): the commands. -/
def State.wrSep (s : State) (k v : Nat) : State :=
  if k = R.SEP_CMD then s.byCode v (fun c s => match c with
    | 1 => s.seepUnfreeze
    | 2 => s.seepClear
    | _ => s)
  else s.writeFields k v
/-- A free transmit descriptor: what stands in host memory at a TAIL that a plain register write moves (log entry 4). -/
def State.freeTx (s : State) (i : Nat) : HostTxDesc :=
  let f := fun (j : Nat) => Config.free (s.freeCtr + 5 * i + j)
  { addr := BitVec.ofNat 64 (f 0), len := BitVec.ofNat 16 (f 1), flags := BitVec.ofNat 16 (f 2)
    data := leBytes (f 1 % 65536) (f 3), ok := f 4 % 2 == 1 }
/-- The number of descriptors that a write of TAIL posts. -/
def State.postedBy (s : State) (n r tail : Nat) : Nat :=
  let len := s.ringLen n r
  (postedPos len (s.fld (if r = 0 then R.VI_RX_TAIL n else R.VI_TX_TAIL n) 11 0 % len) (tail % len)).length
/-- A VI page (Table 04-7): a VI that does not exist has none (R91); the rings of a VI that is not host-bound ignore writes. -/
def State.wrVi (s : State) (p : Path) (k v : Nat) : State :=
  let n := (k - 0x8000000) / 0x1000
  let o := k % 0x1000
  if o = 0xC then
    if !keyOk v || (!s.viExists n && v % 4 != 1) then s
    else match v % 4 with
      | 1 => (s.rstRequest (.vi n)).2
      | 2 => s.rstCancel (.vi n) true
      | _ => s
  else if !s.viExists n then s
  else if 0x100 ≤ o ∧ o < 0x150 ∧ !s.hostBound n then s
  else if o = 0x110 then
    let m := s.postedBy n 1 (v % 4096)
    ({ s with freeCtr := s.freeCtr + 5 * m } : State).txTail n (v % 4096) ((List.range m).map s.freeTx)
  else if o = 0x130 then
    let m := s.postedBy n 0 (v % 4096)
    ({ s with freeCtr := s.freeCtr + m } : State).rxTail n (v % 4096) ((List.range m).map (fun i => Config.free (s.freeCtr + i) % 2 ^ 64))
  else if o = 0x114 then
    let was := s.bit (R.VI_TX_CTRL n) 0
    if was && !v.testBit 0 then s.txAbort n else if !was && v.testBit 0 then s.txEnable n else s
  else if 0x400 ≤ o ∧ o < 0x800 ∧ o % 16 = 8 then
    s.onIf (v % 2 == 1) (fun s => s.vecEoi (.vi (Fin.ofNat 4096 n) (Fin.ofNat 64 ((o - 0x400) / 16))))
  else if isHeldLow k then s.heldPut p k v
  else (s.onIf (isHeldLow (k - 4)) (fun s => s.heldApply p (k - 4))).writeFields k v
/-- A software write of a register, by the block that holds it (Table 00-4). -/
def State.swWrite (s : State) (p : Path) (k v : Nat) : State :=
  if 0x8000000 ≤ k then s.wrVi p k v
  else if 0x5000000 ≤ k then s.wrSep k v
  else if 0x4C00000 ≤ k then s.wrEvt p k v
  else if isLaneKey k then s.wrLane p k v
  else if 0x2400000 ≤ k then s.wrSlu k v
  else if 0x1C00000 ≤ k then s.wrIng p k v
  else if 0x1800000 ≤ k then s.wrTmu p k v
  else if 0x1400000 ≤ k then s.wrSwc p k v
  else if 0x1000000 ≤ k then (if (rowAt k).isSome then s.wrPrt k v else s)
  else if 0x700000 ≤ k then s.wrKey p k v
  else if 0x600000 ≤ k then s.wrCfg p k v
  else if 0x500000 ≤ k then s.wrVir p k v
  else if 0x400000 ≤ k then s.wrIcu p k v
  else if 0x300000 ≤ k then s.wrWdn k v
  else if 0x200000 ≤ k then s.wrRtc p k v
  else if 0x100000 ≤ k then s.wrPcm p k v
  else s.idnAccess (.wr p k v)

/-! ### Reads -/

/-- What a crest mark restarts from when it is read (R138); none for other registers. -/
def State.crestNow (s : State) (k : Nat) : Option Nat :=
  let f := foldLane k
  if k = R.SWC_USED_CREST then some (524288 - s.rd R.SWC_FREE)
  else if 0x1410000 ≤ k ∧ k < 0x1413300 ∧ 0x60 ≤ k % 0x100 ∧ k % 0x100 < 0x80 then some (s.rd (k - 0x20))
  else if k = R.ING_Q_CREST 0 then some (s.linkFill .a)
  else if k = R.ING_Q_CREST 1 then some (s.linkFill .b)
  else if f = R.FAB_LOAD_CREST .a ∨ f = R.LPE_LOAD_CREST .a ∨ f = R.REC_BLK_CREST .a then some (s.rd (k - 4))
  else if f = R.SCH_TOK_CREST .a then some (65536 - s.rd (k - 0x18))
  else if f = R.SCH_READY_CREST .a then some (s.rd (k - 0x14))
  else none
/-- A software read of a register on a path: its value, and what the read does. The event window, the cursor and the analyser
window are the path's own (R358, R335). Measured supplies, and the levels of SYNC_IN and PPS_IN, whose falling edges no row
tells, read free values (log entry 4); so does the level of PHY_nINT once it has fallen, until it is seen high. -/
def State.swRead (s : State) (p : Path) (k : Nat) : Nat × State :=
  if R.EVT_WIN 0 ≤ k ∧ k < R.EVT_WIN 16 ∧ k % 4 = 0 then
    let s := s.onIf (k == R.EVT_WIN 0) (fun s => s.winLatch p)
    (s.pathGet p k, s)
  else if k = R.EVT_CURSOR then (s.pathGet p k, s)
  else if k = R.PCM_VMAIN ∨ k = R.PCM_VBKP ∨ k = R.PCM_VRTC then (s.takeFree.1 % 65536, s.takeFree.2)
  else if k = R.PCM_INPUT_POWER then (s.takeFree.1 % 1048576, s.takeFree.2)
  else if k = R.PRT_PHY_CTRL ∧ s.bit k 8 then
    let s := s.takeFree.2.setB k 8 (s.takeFree.1 % 2 == 1)
    (s.rd k, s)
  else if k = R.PCM_PINS then (putBits (s.rd k) 11 10 s.takeFree.1, s.takeFree.2)
  else if k = R.EVT_CUR_STATUS then (s.curStatus p, s)
  else if foldLane k = R.NRG_AN_SEL .a then (s.pathGet p (R.NRG_AN_SEL .a), s)
  else if R.NRG_AN_WIN .a 0 ≤ foldLane k ∧ foldLane k < R.NRG_AN_WIN .a 4096 then
    let a := (s.nrgL (laneOfKey k)).ans.lookup (s.pathGet p (R.NRG_AN_SEL .a))
    (mapGet (a.elim [] (fun a => a.res)) (foldLane k - R.NRG_AN_WIN .a 0) 0, s)
  else
    let s := s.onIf (k == R.RTC_SUB) State.rtcSub
    let crest := s.crestNow k
    let (v, s) := s.readKey p k
    let s := match crest with
      | some c => s.wr k c
      | none => s
    (v, s.onIf (k == R.TMU_PPSIN_NS) (fun s => { s with tmu := { s.tmu with ppsUnread := false } }))
/-- A software read with its answer; a read of the IDN block waits for a store under way (R90). -/
def State.swAnswer (s : State) (p : Path) (k : Nat) : State :=
  if k < 0x100000 then s.idnAccess (.rd p k)
  else (s.swRead p k).2.answer p k (s.swRead p k).1

/-! ### Paths -/

/-- The key lies in a block that BAR0 reaches while the module starts (R69). -/
def startBlock (k : Nat) : Bool :=
  decide (k < 0x400000) || (decide (0x600000 ≤ k) && decide (k < 0x700000)) || (decide (0x4C00000 ≤ k) && decide (k < 0x8000000))
/-- The blocks that I2C and UART reach, and what they read there (Table 02-15). Of CFG they read CFG_STATUS, CFG_MATE_STATUS and
the fingerprint: which registers are the block's status registers no rule says (DESIGN CHOICE, log entry 11). -/
def mgmtReads (k : Nat) : Bool :=
  decide (k < 0x400000) || (decide (0x5000000 ≤ k) && decide (k < 0x8000000)) || (decide (0x1800000 ≤ k) && decide (k < 0x1C00000)) ||
    k == R.CFG_STATUS || k == R.CFG_MATE_STATUS || (List.range 8).any (fun i => k == R.CFG_FINGERPRINT i) ||
    (decide (R.EVT_CURSOR ≤ k) && decide (k ≤ R.EVT_CUR_STEP)) || (decide (R.EVT_WIN 0 ≤ k) && decide (k < R.EVT_WIN 16))
/-- What I2C and UART write (Table 02-15). -/
def mgmtWrites (k : Nat) : Bool :=
  let soft := match rowAt k with
    | some r => r.flds.any (fun f => f.acc == .rw || f.acc == .w1c || f.acc == .w1s || f.acc == .wo)
    | none => false
  (decide (R.IDN_TAG 0 ≤ k) && decide (k < R.IDN_TAG 64) && soft) || (decide (0x100000 ≤ k) && decide (k < 0x300000) && soft) ||
    k == R.EVT_CURSOR || k == R.EVT_CUR_STEP
/-- The register that an access names on its path, if the path reaches it: PF0 the blocks and the VI pages, a VF its own page
(R9, R69, R99, R101). -/
def State.keyOf (s : State) (a : Access) : Option Nat :=
  let k := a.off.toNat
  let run := decide (2 ≤ s.power)
  match a.path with
  | .pf0 =>
    match a.bar with
    | .bar0 => if k < 0x8000000 ∧ (run || startBlock k) then some k else none
    | .bar2 => if k < 0x1000000 ∧ run then some (0x8000000 + k) else none
  | .vf f =>
    match s.viOfVf f.val with
    | some n => if s.vfExists f.val && decide (k < 0x1000) && run then some (0x8000000 + 0x1000 * n + k) else none
    | none => none
  | .i2c => if mgmtReads k || mgmtWrites k then some k else none
  | .uart => if mgmtReads k || mgmtWrites k then some k else none
/-- The path may write the register: the management paths only where Table 02-15 says so. -/
def pathWrites (p : Path) (k : Nat) : Bool := match p with | .i2c => mgmtWrites k | .uart => mgmtWrites k | _ => true
/-- A whole aligned word (R4). -/
def wholeWord (a : Access) : Bool := a.be == 15#4 && a.off.toNat % 4 == 0
/-- A field as it stood before the command whose clock an access shares. -/
def State.fldWas (s : State) (k hi lo : Nat) : Nat := bitsOf (cellGet resetVal s.was k) hi lo
/-- A write in the clock of the command before it has gone into register k of `t`; `s` is the state that the command left. What the
hardware has done in that clock stands over it: a W1C bit that the command has set stays set (R8; `again` are the bits it has set
although they stood), and a field that it has updated keeps its update (R427). A W1S bit is set (R8). -/
def State.raceWrite (s t : State) (k again : Nat) : State :=
  match rowAt k with
  | none => t
  | some r => r.flds.foldl (fun t f =>
      let cur := s.fld k f.hi f.lo
      let was := s.fldWas k f.hi f.lo
      match f.acc with
      | .w1c => t.setF k f.hi f.lo (t.fld k f.hi f.lo ||| (cur &&& (cur ^^^ was)) ||| (cur &&& bitsOf again f.hi f.lo))
      | .rw => if cur = was then t else t.setF k f.hi f.lo cur
      | _ => t) t
/-- A read in the clock of the command before it, which gave `v` and left `t`: an RC field returns its value before that clock's
increment, and the increment remains in it (R8). A crest mark restarts as always. -/
def State.raceRead (s t : State) (k v : Nat) : Nat × State :=
  match rowAt k with
  | none => (v, t)
  | some r => if (s.crestNow k).isSome then (v, t) else r.flds.foldl (fun a f =>
      if f.acc == .rc then
        let w := 2 ^ (f.hi + 1 - f.lo)
        let was := s.fldWas k f.hi f.lo
        (putBits a.1 f.hi f.lo was, a.2.setF k f.hi f.lo ((s.fld k f.hi f.lo + w - was) % w))
      else a) (v, t)
/-- A write of one word: discarded if it is narrow or misaligned, ignored where its path does not reach a register (R4, R6, R69). -/
def State.accessWrite (s : State) (a : Access) (v : Nat) : State :=
  if !s.fed || !wholeWord a then s
  else match s.keyOf a with
    | some k =>
      if !pathWrites a.path k then s
      else match a.same with
        | none => s.swWrite a.path k v
        | some again => s.raceWrite (s.swWrite a.path k v) k again.toNat
    | none => s
/-- A read of one word: 0 if it is narrow or misaligned, or where its path reaches no register. -/
def State.accessRead (s : State) (a : Access) : State :=
  if !s.fed then s
  else if !wholeWord a then s.answer a.path a.off.toNat 0
  else match s.keyOf a with
    | some k => match a.same with
      | none => s.swAnswer a.path k
      | some _ =>
        if k < 0x100000 then s.swAnswer a.path k
        else
          let r := s.swRead a.path k
          let q := s.raceRead r.2 k r.1
          q.2.answer a.path k q.1
    | none => s.answer a.path a.off.toNat 0

/-- A software write of a register (R7). -/
def execRegisterWrite (a : Access) (v : Word) (s : State) : Host.Outcome State Fault Refusal := finish s (s.accessWrite a v.toNat)
/-- A write of the low word of a pair is held on its path (R5). -/
def execLowWordWrite (a : Access) (v : Word) (s : State) : Host.Outcome State Fault Refusal := finish s (s.accessWrite a v.toNat)
/-- A write of the high word applies both words, or the high word alone (R5). -/
def execHighWordWrite (a : Access) (v : Word) (s : State) : Host.Outcome State Fault Refusal := finish s (s.accessWrite a v.toNat)
/-- A read of the low word latches the high word for its path (R5, R12). -/
def execLowWordRead (a : Access) (s : State) : Host.Outcome State Fault Refusal := finish s (s.accessRead a)
/-- A read of RC fields returns them and clears them (R7). -/
def execRcRead (a : Access) (s : State) : Host.Outcome State Fault Refusal := finish s (s.accessRead a)

/-! ### I2C and UART (R59 to R61) -/

/-- A bit of PCM_MGMT_STATUS is set, with MGMT_ERR (Tables 02-16, 02-18). -/
def State.mgmtErr (s : State) (i : Nat) : State := (s.setB R.PCM_MGMT_STATUS i true).setB R.PCM_EVENTS 9 true
/-- The four data bytes and the PEC of an I2C read, after the bytes that the transaction has carried. -/
def State.i2cBytes (s : State) (before : Bytes) (v : Nat) : State :=
  s.emit (.i2c (mgmtBytes v ++ [BitVec.ofNat 8 (crc8 (before ++ [0xA5#8] ++ mgmtBytes v))]))
/-- An I2C write transaction: a bad PEC is not acknowledged and discards it; a write outside Table 02-15 is denied (R59, R61). -/
def execI2cWrite (a : Word) (v : Word) (pec : Byte) (s : State) : Host.Outcome State Fault Refusal :=
  finish s (
    if !s.fed then s
    else if crc8 (0xA4#8 :: mgmtBytes a.toNat ++ mgmtBytes v.toNat) ≠ pec.toNat then (s.mgmtErr 0).emit .i2cNack
    else if mgmtWrites a.toNat then s.swWrite .i2c a.toNat v.toNat else s.mgmtErr 1)
/-- An I2C read transaction: a bad PEC is not acknowledged and the read returns 0, as a denied read does (R59, R61). -/
def execI2cRead (a : Word) (pec : Byte) (s : State) : Host.Outcome State Fault Refusal :=
  finish s (
    let before := 0xA4#8 :: mgmtBytes a.toNat ++ [pec]
    if !s.fed then s
    else if crc8 (0xA4#8 :: mgmtBytes a.toNat) ≠ pec.toNat then ((s.mgmtErr 0).emit .i2cNack).i2cBytes before 0
    else if mgmtReads a.toNat then s.swAnswer .i2c a.toNat else (s.mgmtErr 1).i2cBytes before 0)
/-- A UART response frame (R60). -/
def State.uartReply (s : State) (status v : Nat) : State :=
  let r := [0x5A#8, BitVec.ofNat 8 status] ++ mgmtBytes v
  s.emit (.uart (r ++ [BitVec.ofNat 8 (crc8 r)]))
/-- A UART read command: answered with the data, or with status 1 (CRC) or 2 (denied) (R60, R61). -/
def execUartRead (a : Word) (crc : W16) (s : State) : Host.Outcome State Fault Refusal :=
  finish s (
    if !s.fed then s
    else if crc8 ([0xA5#8, 1#8] ++ mgmtBytes a.toNat) ≠ crc.toNat then (s.mgmtErr 2).uartReply 1 0
    else if mgmtReads a.toNat then s.swAnswer .uart a.toNat else (s.mgmtErr 3).uartReply 2 0)
/-- A UART write command: answered with status 0, 1 or 2; a write to the IDN block is answered once it has been performed
(R60, R61, R90). -/
def execUartWrite (a : Word) (v : Word) (crc : W16) (s : State) : Host.Outcome State Fault Refusal :=
  finish s (
    if !s.fed then s
    else if crc8 ([0xA5#8, 2#8] ++ mgmtBytes a.toNat ++ mgmtBytes v.toNat) ≠ crc.toNat then (s.mgmtErr 2).uartReply 1 0
    else if !mgmtWrites a.toNat then (s.mgmtErr 3).uartReply 2 0
    else if a.toNat < 0x100000 then s.swWrite .uart a.toNat v.toNat
    else (s.swWrite .uart a.toNat v.toNat).uartReply 0 0)
/-- A UART frame whose command byte is neither 0x01 nor 0x02: status 4 (R60). -/
def execUartUnknownCommand (c : Byte) (s : State) : Host.Outcome State Fault Refusal :=
  finish s (s.onIf (s.fed && c != 1#8 && c != 2#8) (fun s => (s.mgmtErr 6).uartReply 4 0))
/-- A gap of more than 10 ms between bytes: the frame is discarded, status 3 (R60). -/
def execUartByteGap (s : State) : Host.Outcome State Fault Refusal :=
  finish s (s.onIf s.fed (fun s => (s.mgmtErr 4).uartReply 3 0))

/-! ### The PCIe link (R69) -/

/-- PCIE_nPERST goes high: link training begins. -/
def execPciePerstRelease (s : State) : Host.Outcome State Fault Refusal :=
  finish s (s.onIf s.fed (fun s => { s with host := { s.host with perst := true } }))
/-- Link training completes. -/
def execPcieLinkUp (s : State) : Host.Outcome State Fault Refusal :=
  finish s (s.onIf (s.fed && s.host.perst) (fun s => { s with host := { s.host with linkUp := true } }))

end Sys2Proof.Machine
end

