-- ==== Sys2Proof/Machine/Dispatch.lean ====
section
/-! DEFINITION. One arm per command: a direct call of its meaning, or its rejection by name. -/
namespace Sys2Proof.Machine

/-- The effect of a command on everything but the queue. -/
def exec (i : Instr) (s : State) : Host.Outcome State Fault Refusal :=
  match i with
  | .registerWrite a v => Sys2Proof.Machine.execRegisterWrite a v s
  | .lowWordWrite a v => Sys2Proof.Machine.execLowWordWrite a v s
  | .highWordWrite a v => Sys2Proof.Machine.execHighWordWrite a v s
  | .lowWordRead a => Sys2Proof.Machine.execLowWordRead a s
  | .rcRead a => Sys2Proof.Machine.execRcRead a s
  | .supplyValid x => Sys2Proof.Machine.execSupplyValid x s
  | .supplyInvalid x => Sys2Proof.Machine.execSupplyInvalid x s
  | .transferToMain => Sys2Proof.Machine.execTransferToMain s
  | .overVoltageDisconnect x => Sys2Proof.Machine.execOverVoltageDisconnect x s
  | .overVoltageRecovery x => Sys2Proof.Machine.execOverVoltageRecovery x s
  | .powerLoss reached tide => Sys2Proof.Machine.execPowerLoss reached tide s
  | .powerOn b => Sys2Proof.Machine.execPowerOn b s
  | .imageCommit diag => Sys2Proof.Machine.execImageCommit diag s
  | .nreset => Sys2Proof.Machine.execNreset s
  | .otw d t => Sys2Proof.Machine.execOtw d t s
  | .thermalTrip d t reached tide => Sys2Proof.Machine.execThermalTrip d t reached tide s
  | .thermRelease b => Sys2Proof.Machine.execThermRelease b s
  | .opHoursCommit => Sys2Proof.Machine.execOpHoursCommit s
  | .i2cWrite a v pec => Sys2Proof.Machine.execI2cWrite a v pec s
  | .i2cRead a pec => Sys2Proof.Machine.execI2cRead a pec s
  | .uartRead a crc => Sys2Proof.Machine.execUartRead a crc s
  | .uartWrite a v crc => Sys2Proof.Machine.execUartWrite a v crc s
  | .uartUnknownCommand c => Sys2Proof.Machine.execUartUnknownCommand c s
  | .uartByteGap => Sys2Proof.Machine.execUartByteGap s
  | .keySwitchChange k1 k0 => Sys2Proof.Machine.execKeySwitchChange k1 k0 s
  | .enterLowTide => Sys2Proof.Machine.execEnterLowTide s
  | .lowTideEntered => Sys2Proof.Machine.execLowTideEntered s
  | .wake p => Sys2Proof.Machine.execWake p s
  | .lowTideExitDone => Sys2Proof.Machine.execLowTideExitDone s
  | .pciePerstRelease => Sys2Proof.Machine.execPciePerstRelease s
  | .pcieLinkUp => Sys2Proof.Machine.execPcieLinkUp s
  | .erase b => Sys2Proof.Machine.execErase b s
  | .eraseDone => Sys2Proof.Machine.execEraseDone s
  | .cfgWrite b => Sys2Proof.Machine.execCfgWrite b s
  | .cfgWriteDone data ok => Sys2Proof.Machine.execCfgWriteDone data ok s
  | .verify b => Sys2Proof.Machine.execVerify b s
  | .verifyDone => Sys2Proof.Machine.execVerifyDone s
  | .stage => Sys2Proof.Machine.execStage s
  | .stageDone => Sys2Proof.Machine.execStageDone s
  | .exchange => Sys2Proof.Machine.execExchange s
  | .exchangeCommit => Sys2Proof.Machine.execExchangeCommit s
  | .cfgAbort late => Sys2Proof.Machine.execCfgAbort late s
  | .warm => Sys2Proof.Machine.execWarm s
  | .release => Sys2Proof.Machine.execRelease s
  | .cfgInvalidate b => Sys2Proof.Machine.execCfgInvalidate b s
  | .sliceRecheck bad => Sys2Proof.Machine.execSliceRecheck bad s
  | .beaconSend => Sys2Proof.Machine.execBeaconSend s
  | .mateBeaconRx f => Sys2Proof.Machine.execMateBeaconRx f s
  | .mateBeaconLoss => Sys2Proof.Machine.execMateBeaconLoss s
  | .tagWrite p n v => Sys2Proof.Machine.execTagWrite p n v s
  | .tagStoreDone => Sys2Proof.Machine.execTagStoreDone s
  | .tagLock => Sys2Proof.Machine.execTagLock s
  | .viResetReq vi => Sys2Proof.Machine.execViResetReq vi s
  | .polderResetReq p => Sys2Proof.Machine.execPolderResetReq p s
  | .resetCancel polder n => Sys2Proof.Machine.execResetCancel polder n s
  | .viCtrlReset vi => Sys2Proof.Machine.execViCtrlReset vi s
  | .viCtrlCancel vi => Sys2Proof.Machine.execViCtrlCancel vi s
  | .vfFlr k => Sys2Proof.Machine.execVfFlr k s
  | .pf0Flr => Sys2Proof.Machine.execPf0Flr s
  | .viResetDone vi => Sys2Proof.Machine.execViResetDone vi s
  | .txTailWrite vi tail descs => Sys2Proof.Machine.execTxTailWrite vi tail descs s
  | .txFetchDone vi => Sys2Proof.Machine.execTxFetchDone vi s
  | .txWriteback vi => Sys2Proof.Machine.execTxWriteback vi s
  | .txAbort vi => Sys2Proof.Machine.execTxAbort vi s
  | .txAbortDone vi => Sys2Proof.Machine.execTxAbortDone vi s
  | .rxTailWrite vi tail bufs => Sys2Proof.Machine.execRxTailWrite vi tail bufs s
  | .rxFrameDeliver vi => Sys2Proof.Machine.execRxFrameDeliver vi s
  | .rxWaitExpire vi => Sys2Proof.Machine.execRxWaitExpire vi s
  | .dirtySwap f => Sys2Proof.Machine.execDirtySwap f s
  | .dirtySwapDone f => Sys2Proof.Machine.execDirtySwapDone f s
  | .ingestWindow => Sys2Proof.Machine.execIngestWindow s
  | .irqTokenRefill => Sys2Proof.Machine.execIrqTokenRefill s
  | .vectorEvent v => Sys2Proof.Machine.execVectorEvent v s
  | .coalTimeout v => Sys2Proof.Machine.execCoalTimeout v s
  | .interruptArbitration e => Sys2Proof.Machine.execInterruptArbitration e s
  | .vectorMask v same => Sys2Proof.Machine.execVectorMask v same s
  | .vecEoi v => Sys2Proof.Machine.execVecEoi v s
  | .portReset p => Sys2Proof.Machine.execPortReset p s
  | .linkUp p speed => Sys2Proof.Machine.execLinkUp p speed s
  | .linkDown p half => Sys2Proof.Machine.execLinkDown p half s
  | .rxFrame p f => Sys2Proof.Machine.execRxFrame p f s
  | .cutThroughStart x => Sys2Proof.Machine.execCutThroughStart x s
  | .egressStart x => Sys2Proof.Machine.execEgressStart x s
  | .copyTxEnd x => Sys2Proof.Machine.execCopyTxEnd x s
  | .txUnderrun p sent => Sys2Proof.Machine.execTxUnderrun p sent s
  | .lpiEnter p => Sys2Proof.Machine.execLpiEnter p s
  | .lpiWakeEnd p => Sys2Proof.Machine.execLpiWakeEnd p s
  | .portSnapThis p => Sys2Proof.Machine.execPortSnapThis p s
  | .portSnapAll => Sys2Proof.Machine.execPortSnapAll s
  | .mdioAddress v => Sys2Proof.Machine.execMdioAddress v s
  | .mdioWrite v => Sys2Proof.Machine.execMdioWrite v s
  | .mdioRead v => Sys2Proof.Machine.execMdioRead v s
  | .mdioDone data => Sys2Proof.Machine.execMdioDone data s
  | .cageRead v => Sys2Proof.Machine.execCageRead v s
  | .cageWrite v => Sys2Proof.Machine.execCageWrite v s
  | .cageDone data ack => Sys2Proof.Machine.execCageDone data ack s
  | .phyInt => Sys2Proof.Machine.execPhyInt s
  | .crossbarCellTime => Sys2Proof.Machine.execCrossbarCellTime s
  | .fdbAgeOut n => Sys2Proof.Machine.execFdbAgeOut n s
  | .ageSweep => Sys2Proof.Machine.execAgeSweep s
  | .redEntryForget n src seq => Sys2Proof.Machine.execRedEntryForget n src seq s
  | .redSupervisionSend n => Sys2Proof.Machine.execRedSupervisionSend n s
  | .tcFollowupTimeout p seq => Sys2Proof.Machine.execTcFollowupTimeout p seq s
  | .tbIncrWrite p b v => Sys2Proof.Machine.execTbIncrWrite p b v s
  | .slewStart b v => Sys2Proof.Machine.execSlewStart b v s
  | .slewDone b => Sys2Proof.Machine.execSlewDone b s
  | .holdTimeout b => Sys2Proof.Machine.execHoldTimeout b s
  | .forceHold b => Sys2Proof.Machine.execForceHold b s
  | .validLimit c => Sys2Proof.Machine.execValidLimit c s
  | .offsetWrite c v => Sys2Proof.Machine.execOffsetWrite c v s
  | .viewStep c v => Sys2Proof.Machine.execViewStep c v s
  | .setView c => Sys2Proof.Machine.execSetView c s
  | .cancelSet => Sys2Proof.Machine.execCancelSet s
  | .ppsInEdge => Sys2Proof.Machine.execPpsInEdge s
  | .viewSecond c => Sys2Proof.Machine.execViewSecond c s
  | .ppsOutEnd => Sys2Proof.Machine.execPpsOutEnd s
  | .refLost => Sys2Proof.Machine.execRefLost s
  | .refBack => Sys2Proof.Machine.execRefBack s
  | .sampleBoundary => Sys2Proof.Machine.execSampleBoundary s
  | .pacePeriodWrite p v => Sys2Proof.Machine.execPacePeriodWrite p v s
  | .paceShiftWrite v => Sys2Proof.Machine.execPaceShiftWrite v s
  | .svFrame f => Sys2Proof.Machine.execSvFrame f s
  | .sampleDeadline => Sys2Proof.Machine.execSampleDeadline s
  | .streamLost n => Sys2Proof.Machine.execStreamLost n s
  | .gooseFrame f => Sys2Proof.Machine.execGooseFrame f s
  | .gooseTalExpire g => Sys2Proof.Machine.execGooseTalExpire g s
  | .ingestFrame => Sys2Proof.Machine.execIngestFrame s
  | .modMessage m bits => Sys2Proof.Machine.execModMessage m bits s
  | .mcStart => Sys2Proof.Machine.execMcStart s
  | .mcStop => Sys2Proof.Machine.execMcStop s
  | .ingSync => Sys2Proof.Machine.execIngSync s
  | .syncInEdge => Sys2Proof.Machine.execSyncInEdge s
  | .mcFault m => Sys2Proof.Machine.execMcFault m s
  | .mcLevelChange m => Sys2Proof.Machine.execMcLevelChange m s
  | .mcSettled m => Sys2Proof.Machine.execMcSettled m s
  | .coefSelWrite m v => Sys2Proof.Machine.execCoefSelWrite m v s
  | .ingestLinkHold l => Sys2Proof.Machine.execIngestLinkHold l s
  | .laneBoundary l ok => Sys2Proof.Machine.execLaneBoundary l ok s
  | .loopSlotDue l k => Sys2Proof.Machine.execLoopSlotDue l k s
  | .cycleDue l t => Sys2Proof.Machine.execCycleDue l t s
  | .inputLatch l t => Sys2Proof.Machine.execInputLatch l t s
  | .solveTimerDue l => Sys2Proof.Machine.execSolveTimerDue l s
  | .energySaveDue => Sys2Proof.Machine.execEnergySaveDue s
  | .lanePrediction l ok => Sys2Proof.Machine.execLanePrediction l ok s
  | .laneSample l ok => Sys2Proof.Machine.execLaneSample l ok s
  | .laneMod l ok => Sys2Proof.Machine.execLaneMod l ok s
  | .laneGoose l ok => Sys2Proof.Machine.execLaneGoose l ok s
  | .laneGooseSup l ok => Sys2Proof.Machine.execLaneGooseSup l ok s
  | .laneGap l ok => Sys2Proof.Machine.execLaneGap l ok s
  | .laneFrame l ok => Sys2Proof.Machine.execLaneFrame l ok s
  | .dispatchDecision l => Sys2Proof.Machine.execDispatchDecision l s
  | .heldCreate l => Sys2Proof.Machine.execHeldCreate l s
  | .descSelect l v => Sys2Proof.Machine.execDescSelect l v s
  | .frameFillDone l t slot => Sys2Proof.Machine.execFrameFillDone l t slot s
  | .lockstepMismatch l d => Sys2Proof.Machine.execLockstepMismatch l d s
  | .eccUncorrectable l src => Sys2Proof.Machine.execEccUncorrectable l src s
  | .opNop n => Sys2Proof.Machine.execOpNop n s
  | .opEnd n => Sys2Proof.Machine.execOpEnd n s
  | .opBra n => Sys2Proof.Machine.execOpBra n s
  | .opLoop n => Sys2Proof.Machine.execOpLoop n s
  | .opCall n => Sys2Proof.Machine.execOpCall n s
  | .opRet n => Sys2Proof.Machine.execOpRet n s
  | .opTbl n => Sys2Proof.Machine.execOpTbl n s
  | .opClr n => Sys2Proof.Machine.execOpClr n s
  | .opLdv n => Sys2Proof.Machine.execOpLdv n s
  | .opStv n => Sys2Proof.Machine.execOpStv n s
  | .opLds n => Sys2Proof.Machine.execOpLds n s
  | .opSts n => Sys2Proof.Machine.execOpSts n s
  | .opMovi n => Sys2Proof.Machine.execOpMovi n s
  | .opMov n => Sys2Proof.Machine.execOpMov n s
  | .opPerm n => Sys2Proof.Machine.execOpPerm n s
  | .opSel n => Sys2Proof.Machine.execOpSel n s
  | .opFadd n => Sys2Proof.Machine.execOpFadd n s
  | .opFsub n => Sys2Proof.Machine.execOpFsub n s
  | .opFmul n => Sys2Proof.Machine.execOpFmul n s
  | .opFma n => Sys2Proof.Machine.execOpFma n s
  | .opFms n => Sys2Proof.Machine.execOpFms n s
  | .opFdiv n => Sys2Proof.Machine.execOpFdiv n s
  | .opFsqrt n => Sys2Proof.Machine.execOpFsqrt n s
  | .opFabs n => Sys2Proof.Machine.execOpFabs n s
  | .opFneg n => Sys2Proof.Machine.execOpFneg n s
  | .opFmin n => Sys2Proof.Machine.execOpFmin n s
  | .opFmax n => Sys2Proof.Machine.execOpFmax n s
  | .opFhsum n => Sys2Proof.Machine.execOpFhsum n s
  | .opFcvti n => Sys2Proof.Machine.execOpFcvti n s
  | .opIcvtf n => Sys2Proof.Machine.execOpIcvtf n s
  | .opFatan2 n => Sys2Proof.Machine.execOpFatan2 n s
  | .opFsincos n => Sys2Proof.Machine.execOpFsincos n s
  | .opIadd n => Sys2Proof.Machine.execOpIadd n s
  | .opIsub n => Sys2Proof.Machine.execOpIsub n s
  | .opImul n => Sys2Proof.Machine.execOpImul n s
  | .opImulh n => Sys2Proof.Machine.execOpImulh n s
  | .opIaddi n => Sys2Proof.Machine.execOpIaddi n s
  | .opIshl n => Sys2Proof.Machine.execOpIshl n s
  | .opIshr n => Sys2Proof.Machine.execOpIshr n s
  | .opIlsr n => Sys2Proof.Machine.execOpIlsr n s
  | .opIand n => Sys2Proof.Machine.execOpIand n s
  | .opIor n => Sys2Proof.Machine.execOpIor n s
  | .opIxor n => Sys2Proof.Machine.execOpIxor n s
  | .opInot n => Sys2Proof.Machine.execOpInot n s
  | .opImin n => Sys2Proof.Machine.execOpImin n s
  | .opImax n => Sys2Proof.Machine.execOpImax n s
  | .opIabs n => Sys2Proof.Machine.execOpIabs n s
  | .opIbits n => Sys2Proof.Machine.execOpIbits n s
  | .opFcmp n => Sys2Proof.Machine.execOpFcmp n s
  | .opIcmp n => Sys2Proof.Machine.execOpIcmp n s
  | .opKand n => Sys2Proof.Machine.execOpKand n s
  | .opKor n => Sys2Proof.Machine.execOpKor n s
  | .opKxor n => Sys2Proof.Machine.execOpKxor n s
  | .opKnot n => Sys2Proof.Machine.execOpKnot n s
  | .opKmov n => Sys2Proof.Machine.execOpKmov n s
  | .opHyst n => Sys2Proof.Machine.execOpHyst n s
  | .opSmp n => Sys2Proof.Machine.execOpSmp n s
  | .opSmpq n => Sys2Proof.Machine.execOpSmpq n s
  | .opSmpv n => Sys2Proof.Machine.execOpSmpv n s
  | .opMods n => Sys2Proof.Machine.execOpMods n s
  | .opGoin n => Sys2Proof.Machine.execOpGoin n s
  | .opGost n => Sys2Proof.Machine.execOpGost n s
  | .opFrin n => Sys2Proof.Machine.execOpFrin n s
  | .opIdx n => Sys2Proof.Machine.execOpIdx n s
  | .opFir n => Sys2Proof.Machine.execOpFir n s
  | .opPhasor n => Sys2Proof.Machine.execOpPhasor n s
  | .opRms n => Sys2Proof.Machine.execOpRms n s
  | .opPeak n => Sys2Proof.Machine.execOpPeak n s
  | .opDiff n => Sys2Proof.Machine.execOpDiff n s
  | .opPmag n => Sys2Proof.Machine.execOpPmag n s
  | .opCmul n => Sys2Proof.Machine.execOpCmul n s
  | .opCdiv n => Sys2Proof.Machine.execOpCdiv n s
  | .opSeq n => Sys2Proof.Machine.execOpSeq n s
  | .opHist n => Sys2Proof.Machine.execOpHist n s
  | .opBiquad n => Sys2Proof.Machine.execOpBiquad n s
  | .opRamp n => Sys2Proof.Machine.execOpRamp n s
  | .opPoly n => Sys2Proof.Machine.execOpPoly n s
  | .opLut n => Sys2Proof.Machine.execOpLut n s
  | .opQuad n => Sys2Proof.Machine.execOpQuad n s
  | .opMho n => Sys2Proof.Machine.execOpMho n s
  | .opTon n => Sys2Proof.Machine.execOpTon n s
  | .opTof n => Sys2Proof.Machine.execOpTof n s
  | .opPulse n => Sys2Proof.Machine.execOpPulse n s
  | .opIdmt n => Sys2Proof.Machine.execOpIdmt n s
  | .opEdge n => Sys2Proof.Machine.execOpEdge n s
  | .opLatch n => Sys2Proof.Machine.execOpLatch n s
  | .opCnt n => Sys2Proof.Machine.execOpCnt n s
  | .opTval n => Sys2Proof.Machine.execOpTval n s
  | .opPubw n => Sys2Proof.Machine.execOpPubw n s
  | .opPubb n => Sys2Proof.Machine.execOpPubb n s
  | .opPubq n => Sys2Proof.Machine.execOpPubq n s
  | .opPub n => Sys2Proof.Machine.execOpPub n s
  | .opDout n => Sys2Proof.Machine.execOpDout n s
  | .opXout n => Sys2Proof.Machine.execOpXout n s
  | .opRecw n => Sys2Proof.Machine.execOpRecw n s
  | .opSig n => Sys2Proof.Machine.execOpSig n s
  | .stepExchangeRx ok => Sys2Proof.Machine.execStepExchangeRx ok s
  | .stepAckRx ok => Sys2Proof.Machine.execStepAckRx ok s
  | .stepExchangeTimeout => Sys2Proof.Machine.execStepExchangeTimeout s
  | .loopStep l k => Sys2Proof.Machine.execLoopStep l k s
  | .traceTrig => Sys2Proof.Machine.execTraceTrig s
  | .traceArm => Sys2Proof.Machine.execTraceArm s
  | .solve => Sys2Proof.Machine.execSolve s
  | .publish => Sys2Proof.Machine.execPublish s
  | .optAbort => Sys2Proof.Machine.execOptAbort s
  | .cold => Sys2Proof.Machine.execCold s
  | .solveEnd l => Sys2Proof.Machine.execSolveEnd l s
  | .finishReportRx l ok => Sys2Proof.Machine.execFinishReportRx l ok s
  | .cpeRun => Sys2Proof.Machine.execCpeRun s
  | .cpeHalt => Sys2Proof.Machine.execCpeHalt s
  | .cpeEvent n => Sys2Proof.Machine.execCpeEvent n s
  | .cpeRestart t => Sys2Proof.Machine.execCpeRestart t s
  | .pwDataWrite v => Sys2Proof.Machine.execPwDataWrite v s
  | .modeChange l => Sys2Proof.Machine.execModeChange l s
  | .retainedSave t => Sys2Proof.Machine.execRetainedSave t s
  | .nrgSave => Sys2Proof.Machine.execNrgSave s
  | .demEnd => Sys2Proof.Machine.execDemEnd s
  | .maxdemClear => Sys2Proof.Machine.execMaxdemClear s
  | .energySaveCommit => Sys2Proof.Machine.execEnergySaveCommit s
  | .energySaveFail => Sys2Proof.Machine.execEnergySaveFail s
  | .harmWindowDone l an => Sys2Proof.Machine.execHarmWindowDone l an s
  | .recArm u => Sys2Proof.Machine.execRecArm u s
  | .recTrigger => Sys2Proof.Machine.execRecTrigger s
  | .recStop u => Sys2Proof.Machine.execRecStop u s
  | .recDiscard u b => Sys2Proof.Machine.execRecDiscard u b s
  | .recRelease u b => Sys2Proof.Machine.execRecRelease u b s
  | .recExport u b => Sys2Proof.Machine.execRecExport u b s
  | .recDisarm u => Sys2Proof.Machine.execRecDisarm u s
  | .acqFrameWrite l u => Sys2Proof.Machine.execAcqFrameWrite l u s
  | .recordCommit l u => Sys2Proof.Machine.execRecordCommit l u s
  | .exportDone => Sys2Proof.Machine.execExportDone s
  | .holdoffDone l u => Sys2Proof.Machine.execHoldoffDone l u s
  | .trigOutPulseEnd n => Sys2Proof.Machine.execTrigOutPulseEnd n s
  | .sluProvRx l ok => Sys2Proof.Machine.execSluProvRx l ok s
  | .sluFinalRx l ok => Sys2Proof.Machine.execSluFinalRx l ok s
  | .sluConfirmRx l ok => Sys2Proof.Machine.execSluConfirmRx l ok s
  | .sluSquashRx l ok => Sys2Proof.Machine.execSluSquashRx l ok s
  | .sluNoneRx l ok => Sys2Proof.Machine.execSluNoneRx l ok s
  | .sluDoneRx l ok => Sys2Proof.Machine.execSluDoneRx l ok s
  | .sluLaneStopRx l ok => Sys2Proof.Machine.execSluLaneStopRx l ok s
  | .sluTrigRx l ok => Sys2Proof.Machine.execSluTrigRx l ok s
  | .gooseRetransmit t => Sys2Proof.Machine.execGooseRetransmit t s
  | .doutMinOnEnd n => Sys2Proof.Machine.execDoutMinOnEnd n s
  | .cmpWindowExpire l v k => Sys2Proof.Machine.execCmpWindowExpire l v k s
  | .divRearm => Sys2Proof.Machine.execDivRearm s
  | .wardenDecision w island => Sys2Proof.Machine.execWardenDecision w island s
  | .voteApply v => Sys2Proof.Machine.execVoteApply v s
  | .splitEnd => Sys2Proof.Machine.execSplitEnd s
  | .healthFault l b => Sys2Proof.Machine.execHealthFault l b s
  | .wdnSwitch => Sys2Proof.Machine.execWdnSwitch s
  | .wdnRepair l => Sys2Proof.Machine.execWdnRepair l s
  | .abortRsync => Sys2Proof.Machine.execAbortRsync s
  | .wardenRestart w => Sys2Proof.Machine.execWardenRestart w s
  | .wardenRestartDone w => Sys2Proof.Machine.execWardenRestartDone w s
  | .divClear => Sys2Proof.Machine.execDivClear s
  | .retire l => Sys2Proof.Machine.execRetire l s
  | .rsyncPhaseEnd ok failed => Sys2Proof.Machine.execRsyncPhaseEnd ok failed s
  | .patrolSetDone l t ok => Sys2Proof.Machine.execPatrolSetDone l t ok s
  | .patrolLate l t => Sys2Proof.Machine.execPatrolLate l t s
  | .scrubPassDone l errs bad used => Sys2Proof.Machine.execScrubPassDone l errs bad used s
  | .compSelfCheck l ok => Sys2Proof.Machine.execCompSelfCheck l ok s
  | .ioFault => Sys2Proof.Machine.execIoFault s
  | .mateStatusSend => Sys2Proof.Machine.execMateStatusSend s
  | .mateStatusRx f => Sys2Proof.Machine.execMateStatusRx f s
  | .mateStatusLoss => Sys2Proof.Machine.execMateStatusLoss s
  | .seepageTick => Sys2Proof.Machine.execSeepageTick s
  | .seepageEvaluate => Sys2Proof.Machine.execSeepageEvaluate s
  | .unfreeze => Sys2Proof.Machine.execUnfreeze s
  | .sepClear => Sys2Proof.Machine.execSepClear s
  | .program slot => Sys2Proof.Machine.execProgram slot s
  | .revoke slot => Sys2Proof.Machine.execRevoke slot s
  | .generate slot => Sys2Proof.Machine.execGenerate slot s
  | .load slot => Sys2Proof.Machine.execLoad slot s
  | .loadWrapped slot => Sys2Proof.Machine.execLoadWrapped slot s
  | .invalidate slot => Sys2Proof.Machine.execInvalidate slot s
  | .sign slot => Sys2Proof.Machine.execSign slot s
  | .attest slot => Sys2Proof.Machine.execAttest slot s
  | .pubkey slot => Sys2Proof.Machine.execPubkey slot s
  | .keyAbort late => Sys2Proof.Machine.execKeyAbort late s
  | .keyOpDone burned => Sys2Proof.Machine.execKeyOpDone burned s
  | .tamperAlarm n late => Sys2Proof.Machine.execTamperAlarm n late s
  | .tamperReturn n => Sys2Proof.Machine.execTamperReturn n s
  | .eventRecordWrite => Sys2Proof.Machine.execEventRecordWrite s
  | .evtSwCmd v => Sys2Proof.Machine.execEvtSwCmd v s
  | .cursorWrite p v => Sys2Proof.Machine.execCursorWrite p v s
  | .cursorNext p => Sys2Proof.Machine.execCursorNext p s
  | .cursorPrev p => Sys2Proof.Machine.execCursorPrev p s
  | .windowLatch p => Sys2Proof.Machine.execWindowLatch p s
  | .rtcDomainStart => Sys2Proof.Machine.execRtcDomainStart s
  | .rtcSecond => Sys2Proof.Machine.execRtcSecond s
  | .rtcTempSample t => Sys2Proof.Machine.execRtcTempSample t s
  | .trimPeriod => Sys2Proof.Machine.execTrimPeriod s
  | .oscStop => Sys2Proof.Machine.execOscStop s
  | .oscResume => Sys2Proof.Machine.execOscResume s
  | .rtcSet => Sys2Proof.Machine.execRtcSet s
  | .rtcSetApply => Sys2Proof.Machine.execRtcSetApply s
  | .rtcSync => Sys2Proof.Machine.execRtcSync s
  | .cancelSync => Sys2Proof.Machine.execCancelSync s
  | .alarmTargetWrite n t => Sys2Proof.Machine.execAlarmTargetWrite n t s
  | .alarmCtrlWrite n v => Sys2Proof.Machine.execAlarmCtrlWrite n v s
  | .trigInEdge n rising => Sys2Proof.Machine.execTrigInEdge n rising s
  | .vrtcLow => Sys2Proof.Machine.execVrtcLow s
  | .lpiReceived p => Sys2Proof.Machine.execLpiReceived p s
  | .pcieConfigWrite w => Sys2Proof.Machine.execPcieConfigWrite w s

end Sys2Proof.Machine
end

