-- ==== Sys2Proof/Safety.lean ====
section
/-! DEFINITION. What the statements ask of a state: tables in canonical form, the status words and pins that the spec defines as
functions of other state, what a command answers, and what it leaves as it was. -/
namespace Sys2Proof.Machine

/-- Registers, NOR banks and lane memories stand in canonical form. -/
def State.tablesWf (s : State) : Bool :=
  cellWf resetVal s.regs && cellWf (fun _ => 255#8) s.ldr.bankA && cellWf (fun _ => 255#8) s.ldr.bankB &&
    cellWf (fun _ => 0#8) s.laneA.mem && cellWf (fun _ => 0#8) s.laneB.mem

/-! ### Registers that follow other state -/

/-- The state words of the vectors, of which PENDING follows a level (R111). -/
def pendKey (k : Nat) : Bool :=
  (decide (0x412000 ≤ k) && decide (k < 0x413000) && k % 16 == 12) || (decide (0x8000000 ≤ k) && k % 0x1000 == 0x42C)
/-- The registers that follow other state at the end of every command: the status words that mirror it, BREACH and the events
it raises, the levels of the interrupt sources, and the vectors' states. -/
def settleKey (k : Nat) : Bool :=
  [R.WDN_STATUS, R.WDN_BREACH, R.WDN_EVENTS, R.WDN_MATE_STATUS, R.RTC_STATUS, R.TMU_STATUS, R.VIR_STATUS, R.EVT_STATUS, R.SEP_STATUS,
   R.CFG_STATUS, R.EVT_LOST, R.EVT_EVENTS, R.ICU_SRC_LEVEL 0, R.ICU_SRC_LEVEL 1, R.ICU_SRC_LEVEL 2].contains k || pendKey k

/-! ### What a command answers, and its frame -/

/-- The command answers a next state of which `P` holds, with the queue as it was. -/
def Answers (c : Instr) (s : State) (P : State → Prop) : Prop := ∃ t, exec c s = .next t ∧ t.pending = s.pending ∧ P t

/-- The parts of the state beside the registers. -/
inductive Part where
  | paths | held | now | out | pwr | ldr | host | tmu | evt | key | net | ing | laneA | laneB | slu | xl | nrg | nrgA | nrgB
  | rcd | recA | recB | wdn | sep | rtc
deriving DecidableEq, Repr

/-- A part is as it was: the power state but for MGMT_nALERT and PHY_nRST, memories by what every address reads as, the event queue unless
the command has changed BREACH, the clock's own state but for the automatic sync. -/
def Part.same (s t : State) : Part → Prop
  | .paths => t.paths = s.paths
  | .held => t.held = s.held
  | .now => t.now = s.now
  | .out => t.out = s.out
  | .pwr => { t.pwr with alert := s.pwr.alert, phyRun := s.pwr.phyRun } = s.pwr
  | .ldr => { t.ldr with bankA := s.ldr.bankA, bankB := s.ldr.bankB } = s.ldr ∧
      (∀ a, cellGet (fun _ => 255#8) t.ldr.bankA a = cellGet (fun _ => 255#8) s.ldr.bankA a) ∧
      ∀ a, cellGet (fun _ => 255#8) t.ldr.bankB a = cellGet (fun _ => 255#8) s.ldr.bankB a
  | .host => t.host = s.host
  | .tmu => t.tmu = s.tmu
  | .evt => t.bit R.WDN_STATUS 3 = s.bit R.WDN_STATUS 3 → t.evt = s.evt
  | .key => t.key = s.key
  | .net => t.net = s.net
  | .ing => t.ing = s.ing
  | .laneA => { t.laneA with mem := s.laneA.mem } = s.laneA ∧
      ∀ a, cellGet (fun _ => 0#8) t.laneA.mem a = cellGet (fun _ => 0#8) s.laneA.mem a
  | .laneB => { t.laneB with mem := s.laneB.mem } = s.laneB ∧
      ∀ a, cellGet (fun _ => 0#8) t.laneB.mem a = cellGet (fun _ => 0#8) s.laneB.mem a
  | .slu => t.slu = s.slu
  | .xl => t.xl = s.xl
  | .nrg => t.nrg = s.nrg
  | .nrgA => t.nrgA = s.nrgA
  | .nrgB => t.nrgB = s.nrgB
  | .rcd => t.rcd = s.rcd
  | .recA => t.recA = s.recA
  | .recB => t.recB = s.recB
  | .wdn => t.wdn = s.wdn
  | .sep => t.sep = s.sep
  | .rtc => { t.rtc with synced := s.rtc.synced, autoAt := s.rtc.autoAt } = s.rtc

/-- From `s` to `t` every register but those of `f`, and those that follow other state, reads as before, and every part but
those listed is as it was. -/
def Only (f : Nat → Bool) (ps : List Part) (s t : State) : Prop :=
  (∀ k, f k = false → settleKey k = false → t.rd k = s.rd k) ∧ ∀ p, p ∉ ps → p.same s t

/-- The parts of the state that the engines of a lane work on. -/
def laneParts : List Part := [.evt, .host, .ing, .laneA, .laneB, .xl, .nrg, .nrgA, .nrgB, .rcd, .recA, .recB]
/-- The registers of a list. -/
def among (l : List Nat) (k : Nat) : Bool := l.contains k
/-- The registers from `a` up to, and not including, `b`. -/
def between (a b k : Nat) : Bool := decide (a ≤ k) && decide (k < b)

/-- The registers that the passing of clocks changes: operating time, what a TUCLK edge writes (the offsets of the views and
their counts, TMU_EVENTS, the state of the time bases), TX_LPI_TIME with what follows it, the tokens in DONE, the ages of
FDB entries. -/
def clockKey (k : Nat) : Bool :=
  k == R.PCM_OP_HOURS_LO || k == R.PCM_OP_HOURS_HI || k == R.TMU_EVENTS ||
    (decide (0x1800110 ≤ k) && decide (k < 0x1800200) && (k % 64 == 16 || k % 64 == 24 || k % 64 == 28)) ||
    (decide (0x1800400 ≤ k) && decide (k < 0x1800600) && (k % 64 == 8 || k % 64 == 12 || k % 64 == 16 || k % 64 == 44)) ||
    (decide (0x1000000 ≤ k) && decide (k < 0x1300000) && (k % 65536 == R.PRT_EVENTS 0 % 65536 || k % 65536 == 0x44 || k % 65536 == 0x8C4)) ||
    k == R.SCH_TOK_FREE .a || k == R.SCH_TOK_FREE .b || k == R.SCH_TOK_DONE .a || k == R.SCH_TOK_DONE .b ||
    (decide (0x1480000 ≤ k) && decide (k < 0x1500000))
/-- The parts of the state that it changes. -/
def clockParts : List Part := [.now, .pwr, .tmu, .net, .laneA, .laneB]

/-- While the event queue has room, a record of the type has entered it behind those that waited (R357). -/
def Recorded (typ : Nat) (s t : State) : Prop :=
  s.evt.queue.length < 256 → ∃ it l, t.evt.queue = s.evt.queue ++ it :: l ∧ it.typ = typ

/-! ### Vocabulary of single chapters -/

/-- An offset, in units of 2^-32 ns, that a view's registers hold exactly: 48-bit seconds, 16 bits of fraction (R161). -/
def offFits (o : Int) : Prop :=
  -140737488355328 * 1000000000 * 4294967296 ≤ o ∧ o < 140737488355328 * 1000000000 * 4294967296 ∧ o % 65536 = 0
/-- From `s` to `t` view `c` takes the offset `o`: its STEP event and CV_STEPS follow exactly where that moves it (R163). -/
def ViewMoved (s t : State) (c : Nat) (o : Int) : Prop :=
  t.viewOff c = o ∧ t.rd (R.CV_STEPS c) = (if s.viewOff c = o then s.rd (R.CV_STEPS c) else (s.rd (R.CV_STEPS c) + 1) % 4294967296) ∧
    t.bit R.TMU_EVENTS (4 + c) = (s.bit R.TMU_EVENTS (4 + c) || decide (s.viewOff c ≠ o))
/-- The registers of a view's offset, its count of steps, and TMU_EVENTS. -/
def viewKeys (c : Nat) : List Nat := [R.CV_OFF_NS c, R.CV_OFF_SEC_LO c, R.CV_OFF_SEC_HI c, R.CV_STEPS c, R.TMU_EVENTS]

/-- A software write of `v` has gone into every field of register `k` as its access code states (R6, R7). -/
def Written (k v : Nat) (s t : State) : Prop :=
  ∀ r, rowAt k = some r → ∀ f ∈ r.flds,
    let old := s.fld k f.hi f.lo
    let put := match swCode k f (bitsOf v f.hi f.lo) with
      | some c => c % 2 ^ (f.hi + 1 - f.lo)
      | none => old
    t.fld k f.hi f.lo = match f.acc with
      | .rw => put
      | .rwl => if s.ldr.rwlLocked then old else put
      | .w1c => old - (old &&& bitsOf v f.hi f.lo)
      | .w1s => old ||| bitsOf v f.hi f.lo
      | _ => old
/-- A software write of `v` in the clock of the command before it (R8, R427): a W1C bit that the command has set, or sets again,
stays set; a field of which it has changed the value keeps that; every other field takes the write. -/
def WrittenAgain (k v again : Nat) (s t : State) : Prop :=
  ∀ r, rowAt k = some r → ∀ f ∈ r.flds,
    let cur := s.fld k f.hi f.lo
    let was := s.fldWas k f.hi f.lo
    let put := match swCode k f (bitsOf v f.hi f.lo) with
      | some c => c % 2 ^ (f.hi + 1 - f.lo)
      | none => cur
    t.fld k f.hi f.lo = match f.acc with
      | .rw => if cur = was then put else cur
      | .rwl => if s.ldr.rwlLocked then cur else put
      | .w1c => (cur - (cur &&& bitsOf v f.hi f.lo)) ||| (cur &&& (cur ^^^ was)) ||| (cur &&& bitsOf again f.hi f.lo)
      | .w1s => cur ||| bitsOf v f.hi f.lo
      | _ => cur
/-- Every byte of bank `b` reads as before. -/
def BankKept (s t : State) (b : Bank) : Prop := ∀ a, cellGet (fun _ => 255#8) (t.bank b) a = cellGet (fun _ => 255#8) (s.bank b) a
/-- The ABORT_LATE bit of a vector (R113). -/
def lateKey : Vec → Nat × Nat
  | .pf0 _ => (R.ICU_STATUS, 0)
  | .vi n _ => (R.VI_STATUS n.val, 4)
/-- Registers of PCM, WDN and SEP that have no effect of their own beside their fields'. -/
def plainKey (k : Nat) : Bool :=
  !settleKey k && ((decide (0x100000 ≤ k) && decide (k < 0x200000) && k != R.PCM_CMD) ||
    (decide (0x300000 ≤ k) && decide (k < 0x400000) && k != R.WDN_CMD) || (decide (0x5000000 ≤ k) && decide (k < 0x6000000) && k != R.SEP_CMD))

/-! ### Operations of a tile (R216 to R226) -/

/-- The part of the state that holds a lane. -/
def lanePart : Lane → Part
  | .a => .laneA
  | .b => .laneB
/-- The fast clocks run, the pair has not failed, its running segment has the operation at its position, and its run's budget
covers the cost. -/
def Issuable (s : State) (i : OpIssue) (code cost : Nat) (e : Env) (t : Tile) : Prop :=
  e.s = s ∧ e.l = i.lane ∧ t = (s.lane i.lane).tile i.pair ∧ s.pairFailed i.lane i.pair = false ∧ s.fastClk = true ∧
    (∃ k, (s.lane i.lane).running i.pair = some (k, e.r, e.g)) ∧ e.g.code[t.pos]? = some (opWord code i) ∧ e.r.charge + cost ≤ e.r.budget
/-- What an operation does: its row of Table 09-10, its cost, the values it gives elements of vector registers, mask bits and
frame words, the items of the record, and where the tile goes on. -/
structure OpRow where
  cmd : Instr
  code : Nat
  cost : Nat
  vec : Nat → Nat → Option Nat := fun _ _ => none
  mask : Nat → Nat → Option Bool := fun _ _ => none
  word : Nat → Option Nat := fun _ => none
  items : List RecItem := []
  dest : Tile
/-- The tile after an operation: every register element, mask bit and frame word that the row does not name is as it was. -/
def OpRow.On (o : OpRow) (t u : Tile) : Prop :=
  u.pos = o.dest.pos ∧ u.loops = o.dest.loops ∧ u.calls = o.dest.calls ∧ u.cur = t.cur ∧ u.ch = t.ch + o.cost ∧
    (∀ r c, c < 4 → u.vreg r c = (o.vec r c).getD (t.vreg r c)) ∧ (∀ n c, n < 8 → c < 4 → u.kbit n c = (o.mask n c).getD (t.kbit n c)) ∧
    ∀ a, mapGet u.frame a 0 = (o.word a).getD (mapGet t.frame a 0)
/-- The single-bit errors that the reads of the local store correct (R208). -/
def OpRow.ecc (o : OpRow) (i : OpIssue) : Nat := if opReads o.code then i.ecc.toNat else 0
/-- Corrected errors are counted and raise their event (R208). -/
def Corrected (l : Lane) (n : Nat) (s u : State) : Prop :=
  u.fld (R.FAB_ECC_COUNT l) 15 0 = min 65535 (s.fld (R.FAB_ECC_COUNT l) 15 0 + n) ∧
    ∀ j, j < 32 → u.bit (R.FAB_EVENTS l) j = (s.bit (R.FAB_EVENTS l) j || (j == 2 && n != 0))
/-- The registers that corrected errors change. -/
def eccKeys (l : Lane) (n k : Nat) : Bool := n != 0 && (k == R.FAB_ECC_COUNT l || k == R.FAB_EVENTS l)
/-- The operation has issued: the run is charged and its record holds the items, the tile has changed as the row says, corrected
errors are counted, and nothing but the lane has changed, no other pair of it. -/
def OpRow.Done (o : OpRow) (i : OpIssue) (e : Env) (t : Tile) (s u : State) : Prop :=
  (u.lane i.lane).runOf e.r.rid = some { e.r with charge := e.r.charge + o.cost, out := o.items.foldl recPut e.r.out } ∧
    o.On t ((u.lane i.lane).tile i.pair) ∧ (∀ p, p ≠ i.pair.val → (u.lane i.lane).tile p = (s.lane i.lane).tile p) ∧
    (u.lane i.lane).toks = (s.lane i.lane).toks ∧ Corrected i.lane (o.ecc i) s u ∧ Only (eccKeys i.lane (o.ecc i)) [lanePart i.lane] s u
/-- Elements of vector register `r` that the write mask selects. -/
def atVec (i : OpIssue) (t : Tile) (r : Nat) (f : Nat → Nat) (q c : Nat) : Option Nat := if q = r ∧ t.sel i c then some (f c % two32) else none
/-- Bits of mask register D that the write mask selects; K0 takes none. -/
def atMask (i : OpIssue) (t : Tile) (f : Nat → Bool) (n c : Nat) : Option Bool := if n = i.d.val % 8 ∧ n ≠ 0 ∧ t.sel i c then some (f c) else none
/-- Frame words `a` to `a + 3` that the write mask selects. -/
def atWords (i : OpIssue) (t : Tile) (a : Nat) (f : Nat → Nat) (q : Nat) : Option Nat :=
  if a ≤ q ∧ q < a + 4 ∧ q < 0x1800 ∧ t.sel i (q - a) then some (f (q - a) % two32) else none
/-- An operation that writes register D. -/
def vecRow (i : OpIssue) (t : Tile) (cmd : Instr) (code cost : Nat) (f : Nat → Nat) : OpRow :=
  { cmd := cmd, code := code, cost := cost, vec := atVec i t i.d f, dest := t.next }
/-- An operation that writes registers D and D + 1. -/
def pairRow (i : OpIssue) (t : Tile) (cmd : Instr) (code cost : Nat) (f g : Nat → Nat) : OpRow :=
  { cmd := cmd, code := code, cost := cost, vec := fun q c => (atVec i t (i.d + 1) g q c).or (atVec i t i.d f q c), dest := t.next }
/-- An operation that writes mask register D. -/
def maskRow (i : OpIssue) (t : Tile) (cmd : Instr) (code cost : Nat) (f : Nat → Bool) : OpRow :=
  { cmd := cmd, code := code, cost := cost, mask := atMask i t f, dest := t.next }
/-- An operation that writes an item of the output record. -/
def itemRow (t : Tile) (cmd : Instr) (code cost : Nat) (it : RecItem) : OpRow := { cmd := cmd, code := code, cost := cost, items := [it], dest := t.next }
/-- Every row of a list, where it can issue, does what it says. -/
def RowsHold (rows : OpIssue → Env → Tile → List OpRow) : Prop :=
  ∀ (s : State) (i : OpIssue) (e : Env) (t : Tile), ∀ o ∈ rows i e t, Issuable s i o.code o.cost e t → Answers o.cmd s (o.Done i e t s)

/-! ### The sluice and the key store -/

/-- The front message of a lane's release link is `m`, of the type and in sequence, of a VI's current generation, from a lane in use (R243, R244). -/
def SluFront (s : State) (l : Lane) (typ : Nat) (m : RMsg) (q : List RMsg) : Prop :=
  (s.lane l).rel = m :: q ∧ m.typ = typ ∧ s.sluStopped l = false ∧ s.role l < 3 ∧ (s.sluSeq l = none ∨ s.sluSeq l = some m.seq) ∧
    (typ ≤ 5 → m.gen = s.viGen m.vi)
/-- The message has left the link, and the next one's number is awaited. -/
def SluTaken (s t : State) (l : Lane) (m : RMsg) (q : List RMsg) : Prop :=
  (t.lane l).rel = q ∧ t.sluSeq l = some (idxAdd m.seq 1) ∧ t.sluStopped l = s.sluStopped l
/-- Provisional items of a lane, VI and index. -/
def provOf (l : Lane) (m : RMsg) (p : Lane × Nat × Nat × List (Nat × Nat)) : Bool := p.1 == l && p.2.1 == m.vi && p.2.2.1 == m.idx

/-- The operation that an accepted key command runs, with its inputs latched (R400). -/
def keyOpOf (s : State) (code slot : Nat) : KeyOp :=
  { code := code, slot := slot, typ := s.fld R.KEY_ATTR 3 0, keyId := if code = 2 ∨ code = 6 then s.rd (R.KEY_SLOT_ID slot) else s.rd R.KEY_ID,
    uses := s.rd R.KEY_USES, expWarm := s.bit R.KEY_ATTR 4, kek := s.fld R.KEY_ATTR 15 8, input := s.keyIn, committed := false }

/-! ### What holds after every command -/

/-- Tables in canonical form; the levels of the interrupt sources and nALERT (R109); PHY_nRST (R132); the status words that follow other state: TMU, VIR, EVT,
SEP, CFG; BREACH once the wardens work (R371); the mate's PAIRED and COVERING (R382). -/
def State.Steady (s : State) : Prop :=
  s.tablesWf = true ∧ (∀ k, k < 3 → s.rd (R.ICU_SRC_LEVEL k) = s.srcWord k) ∧ s.pwr.alert = s.srcLevel 0 ∧ s.pwr.phyRun = s.bit R.PRT_PHY_CTRL 0 ∧
  (∀ n, n < 4 → s.bit R.TMU_STATUS n = s.bit (R.TB_STATUS n) 0) ∧ (∀ v, v < 8 → s.bit R.TMU_STATUS (4 + v) = s.viewValid v) ∧
  s.fld R.VIR_STATUS 14 8 = s.host.rstQ.length % 128 ∧ s.bit R.VIR_STATUS 1 = decide (s.host.rstQ ≠ [] ∨ s.host.rstRun ≠ []) ∧
  s.rd R.EVT_STATUS = s.evt.queue.length % 4294967296 ∧
  s.bit R.SEP_STATUS 3 = decide (s.rd R.SEP_DISABLE ≠ 0 ∨ ∃ i ∈ List.range 64, s.rd (R.SEP_NRG_DIS i) ≠ 0) ∧
  s.bit R.CFG_STATUS 10 = decide (s.rd R.CFG_SLICE_FAULT ≠ 0) ∧
  (s.wdn.live = true → s.rd R.WDN_BREACH = s.breachWord ∧ s.bit R.WDN_STATUS 3 = decide (s.breachWord ≠ 0)) ∧
  s.bit R.WDN_MATE_STATUS 1 = (s.bit R.WDN_MATE_STATUS 0 && s.bit R.CFG_MATE_STATUS 1) ∧
  s.bit R.WDN_MATE_STATUS 2 = (s.bit R.WDN_MATE_STATUS 1 && !s.bit R.WDN_MATE_STATUS 8 && !s.bit R.WDN_MATE_STATUS 9 &&
    !s.bit R.WDN_MATE_STATUS 11 && s.bit R.WDN_MATE_CFG 1)

end Sys2Proof.Machine
end

