-- ==== Sys2Proof/Certificates/Slice0/Obligations.lean ====
section
/-! DEFINITION. The statements for the provers. -/
open Sys2Proof Sys2Proof.Machine

/-- A step runs the command at the front of the queue, with the rest of the queue. -/
def Obligations.QueueFirstInFirstOut : Prop :=
  ∀ (c : Instr) (s : State) (rest : List Instr), step { s with pending := c :: rest } = exec c { s with pending := rest }

/-- The model's choice (log entry 1): with no command waiting, a step lets one clock go by; in low tide operating time alone counts. -/
def Obligations.EmptyQueueIsOneClock : Prop :=
  ∀ s : State, s.pending = [] →
    (s.lowTide = false → ∃ t, step s = .next t ∧ t.pending = [] ∧ t.now = s.now + 1 ∧
      Only clockKey clockParts s t) ∧
    (s.lowTide = true → ∃ t, step s = .next t ∧ t.pending = [] ∧ t.now = s.now ∧
      t.pwr.opNs = (if s.fed then (s.pwr.opNs + 1) % 62500000 else s.pwr.opNs) ∧
      Only (among [R.PCM_OP_HOURS_LO, R.PCM_OP_HOURS_HI]) [.pwr] s t)

/-- Every command answers a next state, keeps the queue, and leaves every table in canonical form. -/
def Obligations.EveryCommandAnswers : Prop :=
  ∀ (c : Instr) (s : State), Answers c s (fun t => t.tablesWf = true)

/-- R109, R371, R382 and the status words that follow other state: they hold after every step, from any state. -/
def Obligations.StepsKeepSteady : Prop :=
  ∀ s t : State, step s = .next t → t.Steady

/-- The state right after reset is steady, and reset values of the tables, over the arrays of registers. -/
def Obligations.ResetState : Prop :=
  State.reset.Steady ∧ State.reset.pending = [] ∧ State.reset.rd R.IDN_PARTNUM = 0x4896 ∧ State.reset.rd R.IDN_REVISION = 0x20001 ∧
  State.reset.fld R.WDN_STATUS 18 16 = 7 ∧ State.reset.role .a = 0 ∧ State.reset.role .b = 1 ∧
  (∀ n, n < 4096 → State.reset.viGen n = 0 ∧ State.reset.fld (R.VI_STATUS n) 1 0 = 1) ∧ (∀ x, x < 51 → State.reset.fld (R.SWC_P_CREDITS x) 5 0 = 32) ∧
  State.reset.rd R.SWC_FREE = 524288 ∧ (∀ l, State.reset.rd (R.SCH_TOK_FREE l) = 65536) ∧ (∀ l, State.reset.rd (R.REC_BLK_FREE l) = 32768) ∧
  (∀ n, n < 48 → State.reset.rd (R.PRT_MAXLEN n) = 1536) ∧ State.reset.bit R.RTC_STATUS 0 = true ∧ State.reset.rd R.RTC_CAL1 = 0x101 ∧
  (∀ n, n < 144 → State.reset.slotEmpty n = true) ∧ (∀ n, n < 16 → State.reset.bit R.SLU_DOUT_STATE n = false) ∧
  State.reset.pwr.doutPins = 0 ∧ State.reset.silent = false

/-- R41, R42, R50, R62: exec answers a next state for every form of the commands of the supplies, and what that state holds. -/
def Obligations.SupplyCommands : Prop :=
  (∀ s : State, s.pwr.ovMain = false → ∃ t, exec (.supplyValid .vmain) s = .next t ∧ t.pending = s.pending ∧
    t.bit R.PCM_STATUS 4 = true ∧
    t.bit R.PCM_STATUS 6 = (s.bit R.PCM_STATUS 6 && (s.bit R.PCM_STATUS 4 || (s.fed && (s.pwr.pgood || s.pwr.tripMark)))) ∧
    Only (among [R.PCM_STATUS]) [] s t) ∧
  (∀ s : State, s.pwr.ovBkp = false → ∃ t, exec (.supplyValid .vbkp) s = .next t ∧ t.pending = s.pending ∧
    t.bit R.PCM_STATUS 5 = true ∧ t.bit R.PCM_STATUS 6 = (s.bit R.PCM_STATUS 6 || !s.fed) ∧ Only (among [R.PCM_STATUS]) [] s t) ∧
  (∀ s : State, ∃ t, exec (.supplyValid .vrtc) s = .next t ∧ t.pending = s.pending ∧
    t.bit R.PCM_STATUS 7 = (s.bit R.PCM_STATUS 7 || s.fed) ∧ Only (among [R.PCM_STATUS]) [] s t) ∧
  (∀ (s : State) (x : Supply), (x = .vmain ∧ s.pwr.ovMain = true ∨ x = .vbkp ∧ s.pwr.ovBkp = true) →
    ∃ t, exec (.supplyValid x) s = .next t ∧ t.pending = s.pending ∧ Only (fun _ => false) [] s t) ∧
  (∀ s : State, ∃ t, exec (.supplyInvalid .vmain) s = .next t ∧ t.pending = s.pending ∧
    t.bit R.PCM_STATUS 4 = false ∧ t.bit R.PCM_STATUS 6 = (s.bit R.PCM_STATUS 6 || s.bit R.PCM_STATUS 5) ∧
    t.bit R.PCM_EVENTS 0 = (s.bit R.PCM_EVENTS 0 || (s.bit R.PCM_STATUS 5 && !s.bit R.PCM_STATUS 6)) ∧
    Only (among [R.PCM_STATUS, R.PCM_EVENTS, R.PCM_OP_HOURS_LO, R.PCM_OP_HOURS_HI]) [] s t) ∧
  (∀ s : State, ∃ t, exec (.supplyInvalid .vbkp) s = .next t ∧ t.pending = s.pending ∧
    t.bit R.PCM_STATUS 5 = false ∧ t.bit R.PCM_STATUS 4 = s.bit R.PCM_STATUS 4 ∧
    Only (among [R.PCM_STATUS, R.PCM_OP_HOURS_LO, R.PCM_OP_HOURS_HI]) [] s t) ∧
  (∀ s : State, ∃ t, exec (.supplyInvalid .vrtc) s = .next t ∧ t.pending = s.pending ∧ Only (fun _ => false) [] s t) ∧
  (∀ s : State, s.bit R.PCM_STATUS 4 = true → s.bit R.PCM_STATUS 6 = true → ∃ t, exec .transferToMain s = .next t ∧ t.pending = s.pending ∧
    t.bit R.PCM_STATUS 6 = false ∧ t.bit R.PCM_EVENTS 1 = true ∧ Only (among [R.PCM_STATUS, R.PCM_EVENTS]) [] s t) ∧
  (∀ s : State, s.bit R.PCM_STATUS 4 = true → s.bit R.PCM_STATUS 6 = false → ∃ t, exec .transferToMain s = .next t ∧ t.pending = s.pending ∧
    Only (fun _ => false) [] s t) ∧
  (∀ s : State, ∃ t, exec (.overVoltageDisconnect .vmain) s = .next t ∧ t.pending = s.pending ∧
    t.pwr.ovMain = true ∧ t.pwr.ovBkp = s.pwr.ovBkp ∧ t.bit R.PCM_STATUS 4 = false ∧ t.bit R.PCM_EVENTS 2 = (s.bit R.PCM_EVENTS 2 || s.fed) ∧
    Only (among [R.PCM_STATUS, R.PCM_EVENTS, R.PCM_OP_HOURS_LO, R.PCM_OP_HOURS_HI]) [.pwr] s t) ∧
  (∀ s : State, ∃ t, exec (.overVoltageDisconnect .vbkp) s = .next t ∧ t.pending = s.pending ∧
    t.pwr.ovBkp = true ∧ t.pwr.ovMain = s.pwr.ovMain ∧ t.bit R.PCM_STATUS 5 = false ∧ t.bit R.PCM_EVENTS 3 = (s.bit R.PCM_EVENTS 3 || s.fed) ∧
    Only (among [R.PCM_STATUS, R.PCM_EVENTS, R.PCM_OP_HOURS_LO, R.PCM_OP_HOURS_HI]) [.pwr] s t) ∧
  (∀ s : State, ∃ t, exec (.overVoltageRecovery .vmain) s = .next t ∧ t.pending = s.pending ∧
    t.pwr.ovMain = false ∧ t.pwr.ovBkp = s.pwr.ovBkp ∧ Only (fun _ => false) [.pwr] s t) ∧
  (∀ s : State, ∃ t, exec (.overVoltageRecovery .vbkp) s = .next t ∧ t.pending = s.pending ∧
    t.pwr.ovBkp = false ∧ t.pwr.ovMain = s.pwr.ovMain ∧ Only (fun _ => false) [.pwr] s t) ∧
  (∀ s : State, ∀ c ∈ [Instr.overVoltageDisconnect .vrtc, .overVoltageRecovery .vrtc], ∃ t, exec c s = .next t ∧ t.pending = s.pending ∧
    Only (fun _ => false) [] s t) ∧
  (∀ s : State, ∃ t, exec .vrtcLow s = .next t ∧ t.pending = s.pending ∧ t.bit R.PCM_STATUS 7 = (s.bit R.PCM_STATUS 7 && !s.fed) ∧
    t.bit R.PCM_EVENTS 4 = (s.bit R.PCM_EVENTS 4 || (s.fed && s.bit R.PCM_STATUS 7)) ∧ Only (among [R.PCM_STATUS, R.PCM_EVENTS]) [] s t) ∧
  (∀ s : State, ∃ t, exec .opHoursCommit s = .next t ∧ t.pending = s.pending ∧
    t.pwr.mHours = (if s.fed then s.opHours else s.pwr.mHours) ∧ t.pwr.mCycles = s.pwr.mCycles ∧ Only (fun _ => false) [.pwr] s t)

/-- R43, R44, R58: exec answers a next state for a warning, a trip and the power-loss sequence, and what that state holds. -/
def Obligations.TemperatureAndPowerLoss : Prop :=
  (∀ (s : State) (d : Die) (t : Temp), sgnW 16 (s.fld R.PCM_OTW_LIMIT 15 0) < t.toInt → ∃ u, exec (.otw d t) s = .next u ∧
    u.pending = s.pending ∧ u.rd (dieTemp d) = t.toNat ∧ u.bit R.PCM_EVENTS 5 = (s.bit R.PCM_EVENTS 5 || s.fed) ∧ Recorded 0x15 s u ∧
    Only (among [dieTemp d, R.PCM_EVENTS]) [.evt] s u) ∧
  (∀ (s : State) (d : Die) (t : Temp), t.toInt ≤ sgnW 16 (s.fld R.PCM_OTW_LIMIT 15 0) → ∃ u, exec (.otw d t) s = .next u ∧
    u.pending = s.pending ∧ u.rd (dieTemp d) = t.toNat ∧ Only (among [dieTemp d]) [] s u) ∧
  (∀ (s : State) (d : Die) (t : Temp) (r : Fin 8) (n : TideReport), 1840 ≤ t.toInt → s.pwr.pgood = true →
    ∃ u, exec (.thermalTrip d t r n) s = .next u ∧ u.pending = s.pending ∧
      u.pwr.tripLow = true ∧ u.pwr.tripMark = true ∧ u.pwr.mThermal = true ∧ u.pwr.mLoss = false ∧ u.pwr.pgood = false ∧ u.pwr.fastZ = true ∧
      u.pwr.doutPins = 0 ∧ u.pwr.doutArm = false ∧ u.net = {} ∧ u.slu = {}) ∧
  (∀ (s : State) (d : Die) (t : Temp) (r : Fin 8) (n : TideReport), t.toInt < 1840 ∨ s.pwr.pgood = false →
    ∃ u, exec (.thermalTrip d t r n) s = .next u ∧ u.pending = s.pending ∧ u.rd (dieTemp d) = t.toNat ∧ Only (among [dieTemp d]) [] s u) ∧
  (∀ (s : State) (r : Fin 8) (n : TideReport), s.fed = false → s.pwr.pgood = true → ∃ u, exec (.powerLoss r n) s = .next u ∧
    u.pending = s.pending ∧ u.pwr.mLoss = true ∧ u.pwr.mThermal = false ∧ u.pwr.pgood = false ∧ u.pwr.fastZ = true ∧
    u.pwr.mLossRec = decide (5 ≤ r.val) ∧ u.pwr.doutPins = 0 ∧ u.pwr.doutArm = false ∧ u.net = {} ∧ u.slu = {}) ∧
  (∀ (s : State) (r : Fin 8) (n : TideReport), s.fed = true ∨ s.pwr.pgood = false → ∃ u, exec (.powerLoss r n) s = .next u ∧
    u.pending = s.pending ∧ Only (fun _ => false) [] s u)

/-- R31, R32, R51, R63: exec answers a next state for the entry into low tide, wakes, the exit and the key switch, and what that
state holds. -/
def Obligations.LowTideAndKeySwitch : Prop :=
  (∀ s : State, s.ltRefusal ≠ 0 → ∃ t, exec .enterLowTide s = .next t ∧ t.pending = s.pending ∧
    t.rd R.PCM_REFUSE = s.ltRefusal ∧ t.bit R.PCM_EVENTS 7 = true ∧ Only (among [R.PCM_REFUSE, R.PCM_EVENTS]) [] s t) ∧
  (∀ s : State, s.ltRefusal = 0 → ∃ t, exec .enterLowTide s = .next t ∧ t.pending = s.pending ∧
    t.fld R.PCM_STATUS 2 0 = 4 ∧ t.pwr.heldWake = 0 ∧ t.pwr.ltWaitX = (s.ldr.xchg.isSome || s.rsBusy) ∧
    (t.pwr.ltWaitX = false → t.nrg.run.isSome = true)) ∧
  (∀ s : State, s.power = 4 → s.pwr.ltWaitX = false → s.nrg.run = none → ∃ t, exec .lowTideEntered s = .next t ∧ t.pending = s.pending ∧
    (t.fld R.PCM_STATUS 2 0 = 3 ∨ t.fld R.PCM_STATUS 2 0 = 5) ∧ t.pwr.heldWake = 0 ∧ t.pwr.doutPins = 0 ∧ t.pwr.doutArm = false ∧
    t.pwr.ppsOut = false) ∧
  (∀ s : State, s.power ≠ 4 ∨ s.pwr.ltWaitX = false ∧ s.nrg.run.isSome = true → ∃ t, exec .lowTideEntered s = .next t ∧
    t.pending = s.pending ∧ Only (fun _ => false) [] s t) ∧
  (∀ (s : State) (p : Path), s.power = 3 → ∃ t, exec (.wake p) s = .next t ∧ t.pending = s.pending ∧
    t.fld R.PCM_STATUS 2 0 = 5 ∧ t.bit R.PCM_WAKE_CAUSE (match p with | .i2c => 5 | .uart => 6 | _ => 7) = true ∧
    (∀ b : Tb, t.bit (R.TB_STATUS b) 0 = true) ∧ (∀ c : Cv, t.bit (R.CV_CTRL c) 0 = false)) ∧
  (∀ (s : State) (p : Path), s.power = 4 → ∃ t, exec (.wake p) s = .next t ∧ t.pending = s.pending ∧
    t.pwr.heldWake = s.pwr.heldWake ||| (match p with | .i2c => 32 | .uart => 64 | _ => 128) ∧ Only (fun _ => false) [.pwr] s t) ∧
  (∀ (s : State) (p : Path), s.power ≠ 3 → s.power ≠ 4 → ∃ t, exec (.wake p) s = .next t ∧ t.pending = s.pending ∧ Only (fun _ => false) [] s t) ∧
  (∀ s : State, s.power = 5 → ∃ t, exec .lowTideExitDone s = .next t ∧ t.pending = s.pending ∧
    t.fld R.PCM_STATUS 2 0 = 2 ∧ t.bit R.PCM_EVENTS 8 = true) ∧
  (∀ s : State, s.power ≠ 5 → ∃ t, exec .lowTideExitDone s = .next t ∧ t.pending = s.pending ∧ Only (fun _ => false) [] s t) ∧
  (∀ (s : State) (k1 k0 : Bool), s.fld R.PCM_PINS 1 0 ≠ 2 * b2n k1 + b2n k0 → s.power = 2 → ∃ t, exec (.keySwitchChange k1 k0) s = .next t ∧
    t.pending = s.pending ∧ t.fld R.PCM_PINS 1 0 = 2 * b2n k1 + b2n k0 ∧
    t.xl.modes = s.xl.modes ++ [(s.now + 100000, .mode (some (keyMode k1 k0)) none)] ∧ Only (among [R.PCM_PINS]) [.xl] s t) ∧
  (∀ (s : State) (k1 k0 : Bool), s.fld R.PCM_PINS 1 0 ≠ 2 * b2n k1 + b2n k0 → s.power = 3 → ∃ t, exec (.keySwitchChange k1 k0) s = .next t ∧
    t.pending = s.pending ∧ t.fld R.PCM_PINS 1 0 = 2 * b2n k1 + b2n k0 ∧ t.fld R.PCM_STATUS 2 0 = 5 ∧ t.bit R.PCM_WAKE_CAUSE 8 = true) ∧
  (∀ (s : State) (k1 k0 : Bool), s.fld R.PCM_PINS 1 0 = 2 * b2n k1 + b2n k0 → ∃ t, exec (.keySwitchChange k1 k0) s = .next t ∧
    t.pending = s.pending ∧ Only (fun _ => false) [] s t)

/-- R407 to R409: the tamper loops. -/
def Obligations.TamperLoops : Prop :=
  (∀ (s : State) (n : Fin 4) (late : Bool), s.fed = true → tamperAction s.key.tamperCfg n = 1 → tamperWake s.key.tamperCfg n = false →
    s.bit R.KEY_TAMPER_STATUS n = false → Answers (.tamperAlarm n late) s (fun t =>
      t.bit R.PCM_PINS (2 + n) = true ∧ t.bit R.KEY_TAMPER_STATUS n = true ∧ t.bit R.KEY_TAMPER_STATUS (8 + n) = true ∧
      t.bit R.KEY_EVENTS 2 = true ∧ t.rd R.KEY_TAMPER_COUNT = min 4294967295 (s.rd R.KEY_TAMPER_COUNT + 1) ∧ Recorded 0x60 s t ∧
      Only (among [R.PCM_PINS, R.KEY_TAMPER_STATUS, R.KEY_EVENTS, R.KEY_TAMPER_COUNT]) [.evt] s t)) ∧
  (∀ (s : State) (n : Fin 4) (late : Bool), s.fed = true → 2 ≤ tamperAction s.key.tamperCfg n → tamperWake s.key.tamperCfg n = false →
    s.bit R.KEY_TAMPER_STATUS n = false → s.key.op = none → Answers (.tamperAlarm n late) s (fun t =>
      t.bit R.KEY_STATUS 1 = true ∧ t.bit R.KEY_TAMPER_STATUS n = true ∧
      t.key.allBlocked = (s.key.allBlocked || tamperAction s.key.tamperCfg n == 3))) ∧
  (∀ (s : State) (n : Fin 4), s.fed = true → tamperAction s.key.tamperCfg n ≠ 0 → s.bit R.KEY_TAMPER_STATUS n = true →
    Answers (.tamperReturn n) s (fun t =>
      t.bit R.PCM_PINS (2 + n) = false ∧ t.bit R.KEY_TAMPER_STATUS n = false ∧ Recorded 0x60 s t ∧
      Only (among [R.PCM_PINS, R.KEY_TAMPER_STATUS]) [.evt] s t)) ∧
  (∀ (s : State) (n : Fin 4) (late : Bool), s.fed = true → tamperAction s.key.tamperCfg n = 0 → Answers (.tamperAlarm n late) s (fun t =>
    t.bit R.PCM_PINS (2 + n) = true ∧ Only (among [R.PCM_PINS]) [] s t))

/-- R65, R77: the bank commands of the loader, and their refusal while it is busy. -/
def Obligations.BankCommands : Prop :=
  (∀ (s : State) (k : Bank), s.bankBusy = false → Answers (.erase k) s (fun t =>
    t.fld R.CFG_STATUS 3 0 = 1 ∧ t.rd R.CFG_PROGRESS = 0 ∧ t.ldr.running = 1 ∧ t.ldr.opBank = s.targetBank k ∧
    t.bankValid (s.targetBank k) = false ∧ (∀ b, BankKept s t b) ∧ Only (among [R.CFG_PROGRESS]) [.ldr] s t)) ∧
  (∀ (s : State) (k : Bank), s.bankBusy = true → Answers (.erase k) s (fun t =>
    t.rd R.CFG_ERROR = 0x10010 ∧ t.bit R.CFG_EVENTS 1 = true ∧ Only (among [R.CFG_ERROR, R.CFG_EVENTS]) [] s t)) ∧
  (∀ s : State, s.ldr.running = 1 → Answers .eraseDone s (fun t =>
    (∀ a, cellGet (fun _ => 255#8) (t.bank s.ldr.opBank) a = 255#8) ∧ BankKept s t (otherBank s.ldr.opBank) ∧
    t.rd R.CFG_PROGRESS = 0x8000000 ∧ t.ldr.running = 0 ∧ t.bit R.CFG_EVENTS 0 = true ∧ Only (among [R.CFG_PROGRESS, R.CFG_EVENTS]) [.ldr] s t)) ∧
  (∀ (s : State) (k : Bank), s.bankBusy = false → s.writeGood = true → Answers (.cfgWrite k) s (fun t =>
    t.fld R.CFG_STATUS 3 0 = 2 ∧ t.rd R.CFG_PROGRESS = 0 ∧ t.ldr.running = 2 ∧ t.ldr.opBank = s.targetBank k ∧
    t.bankValid (s.targetBank k) = false ∧ (∀ b, BankKept s t b) ∧ Only (among [R.CFG_PROGRESS]) [.ldr] s t)) ∧
  (∀ (s : State) (k : Bank), s.bankBusy = false → s.writeGood = false → Answers (.cfgWrite k) s (fun t =>
    t.rd R.CFG_ERROR = 0x20004 ∧ t.bit R.CFG_EVENTS 1 = true ∧ Only (among [R.CFG_ERROR, R.CFG_EVENTS]) [] s t)) ∧
  (∀ (s : State) (data : Bytes), s.ldr.running = 2 → (s.dmaRead 0 (s.rd64 R.CFG_DMA_ADDR_LO) (s.rd R.CFG_DMA_LEN)).1 = true →
    s.rd R.CFG_DMA_LEN ≤ data.length → Answers (.cfgWriteDone data true) s (fun t =>
      (∀ i, i < s.rd R.CFG_DMA_LEN → cellGet (fun _ => 255#8) (t.bank s.ldr.opBank) (s.rd R.CFG_BANK_OFFSET + i) = data.getD i 0#8) ∧
      (∀ a, a < s.rd R.CFG_BANK_OFFSET ∨ s.rd R.CFG_BANK_OFFSET + s.rd R.CFG_DMA_LEN ≤ a →
        cellGet (fun _ => 255#8) (t.bank s.ldr.opBank) a = cellGet (fun _ => 255#8) (s.bank s.ldr.opBank) a) ∧
      BankKept s t (otherBank s.ldr.opBank) ∧ t.ldr.running = 0 ∧ t.bit R.CFG_EVENTS 0 = true)) ∧
  (∀ (s : State) (data : Bytes) (ok : Bool), s.ldr.running = 2 → (s.dmaRead 0 (s.rd64 R.CFG_DMA_ADDR_LO) (s.rd R.CFG_DMA_LEN)).1 = false ∨ ok = false ∨ data.length < s.rd R.CFG_DMA_LEN →
    Answers (.cfgWriteDone data ok) s (fun t =>
      (∀ b, BankKept s t b) ∧ t.ldr.running = 0 ∧ t.rd R.CFG_ERROR = 0x20012 ∧ t.bit R.CFG_EVENTS 1 = true)) ∧
  (∀ (s : State) (k : Bank), s.jobBusy = false → Answers (.verify k) s (fun t =>
    t.fld R.CFG_STATUS 3 0 = 3 ∧ t.rd R.CFG_PROGRESS = 0 ∧ t.ldr.running = 3 ∧ t.ldr.opBank = s.targetBank k ∧
    t.bankValid (s.targetBank k) = false ∧ (∀ b, BankKept s t b) ∧ Only (among [R.CFG_PROGRESS]) [.ldr] s t)) ∧
  (∀ (s : State) (i : Image), s.ldr.running = 3 → s.readImage s.ldr.opBank false = .ok i → i.root = i.fp → Answers .verifyDone s (fun t =>
    t.bankValid s.ldr.opBank = true ∧ (∀ b, BankKept s t b) ∧ (s.ldr.committed = none → t.activeBank = s.ldr.opBank) ∧ t.ldr.running = 0 ∧
    t.bit R.CFG_EVENTS 0 = true ∧ Only (among [R.CFG_PROGRESS, R.CFG_EVENTS]) [.ldr] s t)) ∧
  (∀ (s : State) (k : Bank), s.bankBusy = false → Answers (.cfgInvalidate k) s (fun t =>
    t.bankValid (s.targetBank k) = false ∧ (∀ b, BankKept s t b) ∧ t.bit R.CFG_EVENTS 0 = true ∧ Only (among [R.CFG_EVENTS]) [.ldr] s t))

/-- R70, R77, R81, R82, R84: staging, the commit of an exchange, abort, and the release of the boot hold. -/
def Obligations.ExchangeCommands : Prop :=
  (∀ s : State, s.jobBusy = false → s.ldr.committed.isSome = true → s.bankValid (otherBank s.activeBank) = true → Answers .stage s (fun t =>
    t.fld R.CFG_STATUS 3 0 = 4 ∧ t.ldr.running = 4 ∧ t.ldr.staged = none ∧ t.ldr.opBank = otherBank s.activeBank ∧ t.rd R.CFG_PROGRESS = 0 ∧
    Only (among [R.CFG_PROGRESS]) [.ldr] s t)) ∧
  (∀ (s t0 : State) (i : Image), s.ldr.running = 4 → s.ldr.committed.isSome = true → s.shadowBase.bankLoad s.ldr.opBank = .inr (i, t0) →
    t0.fs = s.fs → (t0.bit (R.OPT_CFG .a) 0 && !(t0.optModel .a).factorOk (t0.optModel .a).factorise) = false → Answers .stageDone s (fun t =>
      t.ldr.staged = some i ∧ t.fld R.CFG_STATUS 3 0 = 5 ∧ t.ldr.running = 0 ∧ t.bit R.CFG_EVENTS 0 = true ∧
      Only (fun k => among [R.CFG_PROGRESS, R.CFG_EVENTS] k || between (R.CFG_STAGED_FP 0) (R.CFG_STAGED_FP 8) k) [.ldr] s t)) ∧
  (∀ (s : State) (e : Nat × Nat), s.ldr.running = 4 → s.ldr.committed.isSome = true → s.ldr.staged = none →
    s.shadowBase.bankLoad s.ldr.opBank = .inl e → Answers .stageDone s (fun t =>
      t.ldr.staged = none ∧ t.fld R.CFG_STATUS 3 0 = 0 ∧ t.ldr.running = 0 ∧ t.bit R.CFG_EVENTS 1 = true ∧
      t.rd R.CFG_ERROR = (e.1 + e.2 % 32 * 256 + 0x40000) % 4294967296 ∧ Only (among [R.CFG_ERROR, R.CFG_EVENTS]) [.ldr] s t)) ∧
  (∀ s : State, s.jobBusy = false → s.ldr.staged.isSome = true → s.bit R.WDN_STATUS 4 = true → Answers .exchange s (fun t =>
    t.ldr.running = 5 ∧ t.ldr.staged = s.ldr.staged ∧ Only (fun _ => false) [.ldr] s t)) ∧
  (∀ s : State, s.jobBusy = false → s.ldr.staged.isSome = true → s.bit R.WDN_STATUS 4 = false → Answers .exchange s (fun t =>
    t.ldr.staged = none ∧ t.rd R.CFG_ERROR = 0x50011 ∧ t.bit R.CFG_EVENTS 1 = true ∧ Only (among [R.CFG_ERROR, R.CFG_EVENTS]) [.ldr] s t)) ∧
  (∀ s : State, s.ldr.running = 5 → Answers .exchangeCommit s (fun t =>
    t.ldr.xchg = some s.xchgIndex ∧ t.activeBank = otherBank s.activeBank ∧ t.fld R.CFG_STATUS 3 0 = 6 ∧ t.ldr.running = 0 ∧
    t.rd R.CFG_XCHG_INDEX = s.xchgIndex % 4294967296 ∧ t.bit R.CFG_EVENTS 0 = true ∧
    Only (among [R.CFG_XCHG_INDEX, R.CFG_EVENTS, R.CFG_MATE_STATUS]) [.ldr, .key] s t)) ∧
  (∀ s : State, s.jobBusy = true → s.ldr.xchg = none → s.ldr.running ≠ 5 → Answers .exchange s (fun t =>
    t.ldr.staged = none ∧ t.rd R.CFG_ERROR = 0x50010 ∧ t.bit R.CFG_EVENTS 1 = true ∧ Only (among [R.CFG_ERROR, R.CFG_EVENTS]) [.ldr] s t)) ∧
  (∀ (s : State) (late : Bool), s.cfgOp = 6 → Answers (.cfgAbort late) s (fun t =>
    t.bit R.CFG_STATUS 11 = true ∧ t.fld R.CFG_STATUS 3 0 = 6 ∧ Only (fun _ => false) [] s t)) ∧
  (∀ s : State, s.cfgOp ≠ 6 → s.ldr.running = 0 → Answers (.cfgAbort true) s (fun t =>
    t.bit R.CFG_STATUS 11 = true ∧ t.fld R.CFG_STATUS 3 0 = s.fld R.CFG_STATUS 3 0 ∧ Only (fun _ => false) [] s t)) ∧
  (∀ (s : State) (late : Bool), s.cfgOp ≠ 6 → s.ldr.running = 1 ∨ s.ldr.running = 2 ∨ s.ldr.running = 3 → Answers (.cfgAbort late) s (fun t =>
    t.ldr.running = 0 ∧ t.ldr.staged = none ∧ t.rd R.CFG_ERROR = 0x13 + s.ldr.running * 65536 ∧ t.bit R.CFG_EVENTS 1 = true ∧
    Only (among [R.CFG_ERROR, R.CFG_EVENTS]) [.ldr] s t)) ∧
  (∀ s : State, s.cfgOp = 8 → Answers .release s (fun t =>
    t.fld R.CFG_STATUS 3 0 = 7 ∧ t.bit R.CFG_EVENTS 0 = true ∧ Only (among [R.CFG_EVENTS]) [] s t))

/-- R80, R86, R90: slice rechecks, the mate's beacons, and the tag area. -/
def Obligations.RecheckBeaconAndTags : Prop :=
  (∀ (s : State) (bad : List (Nat × Lane)) (i : Image), s.ldr.image = some i → s.ldr.rwlLocked = true → Answers (.sliceRecheck bad) s (fun t =>
    (∀ j, j < 32 → t.bit R.CFG_SLICE_FAULT j = ((s.sliceHits i).any (fun e => e.1 == j) || bad.any (fun e => e.1 == j && decide (j < i.sections.length)))) ∧
    (s.sliceHits i ≠ [] ∨ bad.any (fun e => decide (e.1 < i.sections.length)) = true → t.bit R.CFG_EVENTS 3 = true))) ∧
  (∀ (s : State) (f : Beacon), s.bit R.CFG_CTRL 1 = true → s.ldr.xchg = none → f.flags.toNat.testBit 1 = false → s.ldr.mateSusp = 0 →
    digestWords f.fp = s.rds (R.CFG_FINGERPRINT 0) 8 → Answers (.mateBeaconRx f) s (fun t =>
      t.fld R.CFG_MATE_STATUS 2 0 = 7 ∧ t.fld R.CFG_MATE_STATUS 15 8 = 0 ∧ t.rds (R.CFG_MATE_FP 0) 8 = digestWords f.fp ∧
      t.bit (R.WDN_HEALTH 0) 17 = false ∧ t.bit (R.WDN_HEALTH 1) 17 = false)) ∧
  (∀ s : State, s.bit R.CFG_MATE_STATUS 0 = true → Answers .mateBeaconLoss s (fun t =>
    t.fld R.CFG_MATE_STATUS 1 0 = 0 ∧ t.bit R.CFG_EVENTS 5 = true ∧ Only (among [R.CFG_MATE_STATUS, R.CFG_EVENTS]) [] s t)) ∧
  (∀ (s : State), s.bit R.CFG_BEACON_CFG 0 = false → Answers .beaconSend s (fun t => Only (fun _ => false) [] s t)) ∧
  (∀ (s : State), s.bit R.CFG_BEACON_CFG 0 = true → Answers .beaconSend s (fun t =>
    t.rd R.CFG_BEACON_SEQ = (s.fld R.CFG_BEACON_SEQ 15 0 + 1) % 65536)) ∧
  (∀ (s : State) (p : Path) (i : Fin 64) (v : Word), (∀ k, p ≠ .vf k) → s.ldr.tagStore = none → s.bit R.IDN_TAG_CTRL 0 = false →
    Answers (.tagWrite p i v) s (fun t =>
      t.ldr.tagStore = some (i.val, v.toNat) ∧ t.bit R.IDN_TAG_CTRL 1 = true ∧ Only (among [R.IDN_TAG_CTRL]) [.ldr, .out] s t)) ∧
  (∀ (s : State) (p : Path) (i : Fin 64) (v : Word), (∀ k, p ≠ .vf k) → s.ldr.tagStore ≠ none → Answers (.tagWrite p i v) s (fun t =>
      t.ldr.tagStore = s.ldr.tagStore ∧ t.ldr.tagWait = s.ldr.tagWait ++ [.wr p (R.IDN_TAG i) v.toNat] ∧ Only (fun _ => false) [.ldr] s t)) ∧
  (∀ (s : State) (i v : Nat), s.ldr.tagStore = some (i, v) → i < 64 → s.ldr.tagWait = [] → Answers .tagStoreDone s (fun t =>
    t.rd (R.IDN_TAG i) = v % 4294967296 ∧ t.rd R.IDN_TAG_WRITES = min 4294967295 (s.rd R.IDN_TAG_WRITES + 1) ∧
    t.ldr.tagStore = none ∧ t.bit R.IDN_TAG_CTRL 1 = false ∧ Only (among [R.IDN_TAG i, R.IDN_TAG_WRITES, R.IDN_TAG_CTRL]) [.ldr] s t)) ∧
  (∀ s : State, s.ldr.tagStore = none → Answers .tagLock s (fun t =>
    t.bit R.IDN_TAG_CTRL 0 = true ∧ Only (among [R.IDN_TAG_CTRL]) [] s t))

/-- R46, R47, R58, R67, R68, R71: power-on, nRESET, the release of a thermal trip, a warm image reset, where no bank has VALID set. -/
def Obligations.StartsWithoutImage : Prop :=
  (∀ (s : State) (x : BootInput), s.fed = true → s.pwr.pgood = false → s.pwr.tripMark = false → s.bankValid .a = false → s.bankValid .b = false →
    Answers (.powerOn x) s (fun t => t.pwr.pgood = true ∧ t.fld R.CFG_STATUS 3 0 = 9 ∧ t.ldr.image = none ∧ t.ldr.committed = none ∧
      t.rd R.PCM_RESET_CAUSE = 1 + 4 * b2n s.pwr.mThermal + 8 * b2n s.pwr.mLoss + 16 * b2n s.pwr.mSaveInc)) ∧
  (∀ (s : State) (x : BootInput), s.fed = true → s.pwr.pgood = false → s.pwr.tripMark = true → Answers (.powerOn x) s (fun t =>
    t.pwr.tripLow = true ∧ Only (fun _ => false) [.pwr] s t)) ∧
  (∀ (s : State) (x : BootInput), s.fed = true → s.pwr.pgood = false → s.pwr.tripMark = true → s.bankValid .a = false → s.bankValid .b = false →
    Answers (.thermRelease x) s (fun t => t.pwr.pgood = true ∧ t.pwr.tripMark = false ∧ t.pwr.tripLow = false ∧ t.fld R.CFG_STATUS 3 0 = 9)) ∧
  (∀ s : State, s.pwr.pgood = true → s.bankValid .a = false → s.bankValid .b = false → Answers .nreset s (fun t =>
    t.fld R.CFG_STATUS 3 0 = 9 ∧ t.ldr.image = none ∧ t.ldr.committed = none ∧ t.ldr.running = 0 ∧
    t.rd R.PCM_RESET_CAUSE = ((s.rd R.PCM_RESET_CAUSE &&& 0x1C) ||| 2))) ∧
  (∀ s : State, s.cfgBusy = false → s.bankValid .a = false → s.bankValid .b = false → Answers .warm s (fun t =>
    t.fld R.CFG_STATUS 3 0 = 9 ∧ t.bit R.PCM_RESET_CAUSE 5 = true ∧ t.ldr.image = none ∧ t.ldr.committed = none)) ∧
  (∀ s : State, s.cfgBusy = true → Answers .warm s (fun t =>
    t.rd R.CFG_ERROR = 0x70010 ∧ t.bit R.CFG_EVENTS 1 = true ∧ Only (among [R.CFG_ERROR, R.CFG_EVENTS]) [] s t)) ∧
  (∀ (s : State) (d : DiagResult), s.ldr.image.isSome = true → s.cfgOp = 7 → Answers (.imageCommit d) s (fun t =>
    t.fld R.PCM_STATUS 2 0 = 2 ∧ t.fld R.CFG_STATUS 3 0 = 0 ∧ t.ldr.rwlLocked = true ∧ t.key.tamperCfg = t.rd R.KEY_TAMPER_CFG ∧
    t.pwr.doutArm = t.bit R.SLU_STATUS 3))

/-- R4 to R7, R10: writes and reads of registers by software. -/
def Obligations.SoftwareAccess : Prop :=
  (∀ (s : State) (a : Access) (v : Word) (k : Nat), s.fed = true → wholeWord a = true → a.same = none → s.keyOf a = some k → pathWrites a.path k = true →
    plainKey k = true → Answers (.registerWrite a v) s (fun t => Written k v.toNat s t ∧ Only (among [k]) [] s t)) ∧
  (∀ (s : State) (a : Access) (v again : Word) (k : Nat), s.fed = true → wholeWord a = true → a.same = some again → s.keyOf a = some k →
    pathWrites a.path k = true → plainKey k = true → Answers (.registerWrite a v) s (fun t =>
      WrittenAgain k v.toNat again.toNat s t ∧ Only (among [k]) [] s t)) ∧
  (∀ (s : State) (a : Access) (v : Word), wholeWord a = false ∨ s.keyOf a = none → Answers (.registerWrite a v) s (fun t =>
    Only (fun _ => false) [] s t)) ∧
  (∀ (s : State) (a : Access) (v : Word) (k : Nat), s.fed = true → wholeWord a = true → a.same = none → s.keyOf a = some k → a.path = .pf0 → isHeldLow k = true →
    k < 0x8000000 → k ≠ R.RTC_SET_SEC_LO → Answers (.lowWordWrite a v) s (fun t =>
      t.heldGet .pf0 k = some v.toNat ∧ (∀ p j, (p, j) ≠ (Path.pf0, k) → t.heldGet p j = s.heldGet p j) ∧ Only (fun _ => false) [.held] s t)) ∧
  (∀ (s : State) (a : Access) (v : Word) (k : Nat), s.fed = true → wholeWord a = true → a.same = none → s.keyOf a = some k → isHeldLow k = true →
    0x8000000 ≤ k → s.viExists ((k - 0x8000000) / 0x1000) = true → s.hostBound ((k - 0x8000000) / 0x1000) = true → Answers (.lowWordWrite a v) s (fun t =>
      t.heldGet a.path k = some v.toNat ∧ (∀ p j, (p, j) ≠ (a.path, k) → t.heldGet p j = s.heldGet p j) ∧ Only (fun _ => false) [.held] s t)) ∧
  (∀ (s : State) (a : Access) (v : Word) (w : Nat), s.fed = true → wholeWord a = true → a.same = none → s.keyOf a = some R.CFG_DMA_ADDR_HI → a.path = .pf0 →
    s.heldGet .pf0 R.CFG_DMA_ADDR_LO = some w → Answers (.highWordWrite a v) s (fun t =>
      t.rd R.CFG_DMA_ADDR_LO = w % 4294967296 ∧ t.rd R.CFG_DMA_ADDR_HI = v.toNat ∧ t.heldGet .pf0 R.CFG_DMA_ADDR_LO = none ∧
      Only (among [R.CFG_DMA_ADDR_LO, R.CFG_DMA_ADDR_HI]) [.held] s t)) ∧
  (∀ (s : State) (a : Access), s.fed = true → wholeWord a = true → a.same = none → s.keyOf a = some R.CFG_DMA_ADDR_LO → a.path = .pf0 →
    Answers (.lowWordRead a) s (fun t =>
      t.out = .read .pf0 R.CFG_DMA_ADDR_LO (s.rd R.CFG_DMA_ADDR_LO) :: s.out ∧ t.pathGet .pf0 R.CFG_DMA_ADDR_HI = s.rd R.CFG_DMA_ADDR_HI ∧
      Only (fun _ => false) [.paths, .out] s t)) ∧
  (∀ (s : State) (a : Access) (k : Nat) (r : Row), s.fed = true → wholeWord a = true → a.same = none → s.keyOf a = some k → a.path = .pf0 → plainKey k = true →
    rowAt k = some r → r.flds.all (fun f => f.acc == .rc) = true → Answers (.rcRead a) s (fun t =>
      t.out = .read .pf0 k (s.rd k) :: s.out ∧ (∀ f ∈ r.flds, t.fld k f.hi f.lo = 0) ∧ Only (among [k]) [.out] s t)) ∧
  (∀ (s : State) (a : Access) (again : Word) (k : Nat) (r : Row), s.fed = true → wholeWord a = true → a.same = some again → s.keyOf a = some k →
    a.path = .pf0 → plainKey k = true → s.crestNow k = none → rowAt k = some r → r.flds.all (fun f => f.acc == .rc) = true →
    Answers (.rcRead a) s (fun t =>
      (∃ x, t.out = .read .pf0 k x :: s.out ∧ ∀ f ∈ r.flds, bitsOf x f.hi f.lo = s.fldWas k f.hi f.lo) ∧
      (∀ f ∈ r.flds, t.fld k f.hi f.lo = (s.fld k f.hi f.lo + 2 ^ (f.hi + 1 - f.lo) - s.fldWas k f.hi f.lo) % 2 ^ (f.hi + 1 - f.lo)) ∧
      Only (among [k]) [.out] s t))

/-- R59 to R61, R69: the management buses and the PCIe link. -/
def Obligations.ManagementAccess : Prop :=
  (∀ (s : State) (a v : Word) (pec : Byte), s.fed = true → crc8 (0xA4#8 :: mgmtBytes a.toNat ++ mgmtBytes v.toNat) = pec.toNat →
    mgmtWrites a.toNat = true → plainKey a.toNat = true → Answers (.i2cWrite a v pec) s (fun t =>
      Written a.toNat v.toNat s t ∧ Only (among [a.toNat]) [] s t)) ∧
  (∀ (s : State) (a v : Word) (pec : Byte), s.fed = true → crc8 (0xA4#8 :: mgmtBytes a.toNat ++ mgmtBytes v.toNat) ≠ pec.toNat →
    Answers (.i2cWrite a v pec) s (fun t =>
      t.out = .i2cNack :: s.out ∧ t.bit R.PCM_MGMT_STATUS 0 = true ∧ t.bit R.PCM_EVENTS 9 = true ∧
      Only (among [R.PCM_MGMT_STATUS, R.PCM_EVENTS]) [.out] s t)) ∧
  (∀ (s : State) (a : Word) (pec : Byte), s.fed = true → crc8 (0xA4#8 :: mgmtBytes a.toNat) = pec.toNat → a.toNat = R.PCM_OTW_LIMIT →
    Answers (.i2cRead a pec) s (fun t =>
      (∃ c, t.out = .i2c (mgmtBytes (s.rd R.PCM_OTW_LIMIT) ++ [c]) :: s.out) ∧ Only (fun _ => false) [.out] s t)) ∧
  (∀ (s : State) (a : Word) (pec : Byte), s.fed = true → crc8 (0xA4#8 :: mgmtBytes a.toNat) = pec.toNat → mgmtReads a.toNat = false →
    Answers (.i2cRead a pec) s (fun t =>
      (∃ c, t.out = .i2c [0#8, 0#8, 0#8, 0#8, c] :: s.out) ∧ t.bit R.PCM_MGMT_STATUS 1 = true ∧ t.bit R.PCM_EVENTS 9 = true ∧
      Only (among [R.PCM_MGMT_STATUS, R.PCM_EVENTS]) [.out] s t)) ∧
  (∀ (s : State) (a v : Word) (crc : W16), s.fed = true → crc8 ([0xA5#8, 2#8] ++ mgmtBytes a.toNat ++ mgmtBytes v.toNat) = crc.toNat →
    mgmtWrites a.toNat = true → plainKey a.toNat = true → Answers (.uartWrite a v crc) s (fun t =>
      Written a.toNat v.toNat s t ∧ (∃ c, t.out = .uart [0x5A#8, 0#8, 0#8, 0#8, 0#8, 0#8, c] :: s.out) ∧ Only (among [a.toNat]) [.out] s t)) ∧
  (∀ (s : State) (a : Word) (crc : W16), s.fed = true → crc8 ([0xA5#8, 1#8] ++ mgmtBytes a.toNat) = crc.toNat → a.toNat = R.PCM_OTW_LIMIT →
    Answers (.uartRead a crc) s (fun t =>
      (∃ c, t.out = .uart ([0x5A#8, 0#8] ++ mgmtBytes (s.rd R.PCM_OTW_LIMIT) ++ [c]) :: s.out) ∧ Only (fun _ => false) [.out] s t)) ∧
  (∀ (s : State) (a : Word) (crc : W16), s.fed = true → crc8 ([0xA5#8, 1#8] ++ mgmtBytes a.toNat) ≠ crc.toNat → Answers (.uartRead a crc) s (fun t =>
    (∃ c, t.out = .uart [0x5A#8, 1#8, 0#8, 0#8, 0#8, 0#8, c] :: s.out) ∧ t.bit R.PCM_MGMT_STATUS 2 = true ∧ t.bit R.PCM_EVENTS 9 = true)) ∧
  (∀ (s : State) (c : Byte), s.fed = true → c ≠ 1#8 → c ≠ 2#8 → Answers (.uartUnknownCommand c) s (fun t =>
    (∃ c, t.out = .uart [0x5A#8, 4#8, 0#8, 0#8, 0#8, 0#8, c] :: s.out) ∧ t.bit R.PCM_MGMT_STATUS 6 = true ∧ t.bit R.PCM_EVENTS 9 = true ∧
    Only (among [R.PCM_MGMT_STATUS, R.PCM_EVENTS]) [.out] s t)) ∧
  (∀ s : State, s.fed = true → Answers .uartByteGap s (fun t =>
    (∃ c, t.out = .uart [0x5A#8, 3#8, 0#8, 0#8, 0#8, 0#8, c] :: s.out) ∧ t.bit R.PCM_MGMT_STATUS 4 = true ∧ t.bit R.PCM_EVENTS 9 = true ∧
    Only (among [R.PCM_MGMT_STATUS, R.PCM_EVENTS]) [.out] s t)) ∧
  (∀ s : State, s.fed = true → Answers .pciePerstRelease s (fun t => t.host.perst = true ∧ Only (fun _ => false) [.host] s t)) ∧
  (∀ s : State, s.fed = true → s.host.perst = true → Answers .pcieLinkUp s (fun t => t.host.linkUp = true ∧ Only (fun _ => false) [.host] s t))

/-- R96, R97, R100: reset requests of VIs and polders, cancels, and function-level resets. -/
def Obligations.ResetRequests : Prop :=
  (∀ (s : State) (n : Vi), s.viExists n = true → s.host.rstQ.contains (.vi n) = false → s.host.rstQ.contains (.polder (s.viPolder n)) = false →
    s.host.rstQ.length < 64 → ∀ c, c = .viResetReq n ∨ c = .viCtrlReset n → Answers c s (fun t =>
      t.host = { s.host with rstQ := s.host.rstQ ++ [.vi n], rstAt := s.now } ∧
      t.fld (R.VI_STATUS n) 1 0 = (if s.viResetting n then 3 else 2) ∧ Only (among [R.VI_STATUS n]) [.host] s t)) ∧
  (∀ (s : State) (n : Vi), s.viExists n = false → ∀ c, c = .viResetReq n ∨ c = .viCtrlReset n → Answers c s (fun t =>
    t.bit R.VIR_EVENTS 1 = true ∧ Only (among [R.VIR_EVENTS]) [] s t)) ∧
  (∀ (s : State) (n : Vi), s.viExists n = true → s.host.rstQ.contains (.vi n) = true → Answers (.viResetReq n) s (fun t =>
    t.host = { s.host with rstAt := s.now } ∧ Only (fun _ => false) [.host] s t)) ∧
  (∀ (s : State) (p : Fin 4096), p.val < 64 → s.host.rstQ.contains (.polder p) = false → s.host.rstQ.length < 64 →
    Answers (.polderResetReq p) s (fun t =>
      t.host.rstQ = s.host.rstQ.filter (fun e => match e with | .vi n => s.viPolder n != p | _ => true) ++ [.polder p] ∧ t.host.rstAt = s.now ∧
      Only (fun k => decide (0x8000000 ≤ k) && k % 0x1000 == 8) [.host] s t)) ∧
  (∀ (s : State) (p : Fin 4096), 64 ≤ p.val → Answers (.polderResetReq p) s (fun t =>
    t.bit R.VIR_EVENTS 1 = true ∧ Only (among [R.VIR_EVENTS]) [] s t)) ∧
  (∀ (s : State) (n : Vi), s.host.rstQ.contains (.vi n) = true → s.host.flrRetry = [] → Answers (.resetCancel false n) s (fun t =>
    t.host.rstQ = s.host.rstQ.filter (· != .vi n) ∧ t.rd R.VIR_RESET_CANCELS = min 4294967295 (s.rd R.VIR_RESET_CANCELS + 1) ∧
    Only (among [R.VIR_RESET_CANCELS, R.VI_STATUS n]) [.host] s t)) ∧
  (∀ (s : State) (n : Vi), s.host.rstQ.contains (.vi n) = false → s.host.rstRun.contains (.vi n) = true → s.viExists n = true →
    Answers (.viCtrlCancel n) s (fun t => t.bit (R.VI_STATUS n) 4 = true ∧ Only (among [R.VI_STATUS n]) [] s t)) ∧
  (∀ (s : State) (n : Vi), s.viExists n = true → s.host.rstQ.contains (.vi n) = true → s.host.flrRetry = [] →
    Answers (.viCtrlCancel n) s (fun t => t.host.rstQ = s.host.rstQ.filter (· != .vi n) ∧ Only (among [R.VIR_RESET_CANCELS, R.VI_STATUS n]) [.host] s t)) ∧
  (∀ (s : State) (f : Vf) (n : Nat), s.viOfVf f = some n → s.vfExists f = true → s.viExists n = true → s.host.rstQ.contains (.vi n) = false →
    s.host.rstQ.contains (.polder (s.viPolder n)) = false → s.host.rstQ.length < 64 → Answers (.vfFlr f) s (fun t =>
      t.host.flr.contains n = true ∧ t.host.rstQ = s.host.rstQ ++ [.vi n] ∧ t.host.rstAt = s.now ∧ Only (among [R.VI_STATUS n]) [.host] s t)) ∧
  (∀ s : State, Answers .pf0Flr s (fun t =>
    t.host.vfEnable = false ∧ t.host.ari = false ∧ t.host.numVfs = 0 ∧ t.host.msixEn = [] ∧ t.host.fnMask = [] ∧ t.host.d3 = [])) ∧
  (∀ (s : State) (n : Vi), s.viResetting n = true → Answers (.viResetDone n) s (fun t =>
    t.host.rstRun.contains (.vi n) = false ∧ t.host.rstRun.contains (.part n) = false ∧ t.bit (R.VI_EVENTS n) 0 = true ∧ t.bit R.VIR_EVENTS 0 = true))

/-- R99, R110 to R115, R93: configuration space, interrupt vectors, and the polders' budgets. -/
def Obligations.VectorsAndBudgets : Prop :=
  (∀ (s : State) (f : Vf) (en mask same : Bool), Answers (.pcieConfigWrite (.msix f en mask same)) s (fun t =>
    t.host.msixEn.contains f.val = en ∧ t.host.fnMask.contains f.val = mask ∧
    (∀ j, j ≠ f.val → t.host.msixEn.contains j = s.host.msixEn.contains j ∧ t.host.fnMask.contains j = s.host.fnMask.contains j) ∧
    match (if mask && same then s.host.lastPick.lookup (lastSent f.val) else none) with
    | some i => t.bit (lateKey (numVec i)).1 (lateKey (numVec i)).2 = true ∧ Only (among [(lateKey (numVec i)).1]) [.host] s t
    | none => Only (fun _ => false) [.host] s t)) ∧
  (∀ (s : State) (ari en : Bool), Answers (.pcieConfigWrite (.sriov ari en)) s (fun t =>
    t.host = (if en && !ari then s.host else { s.host with ari := ari, vfEnable := en }) ∧ Only (fun _ => false) [.host] s t)) ∧
  (∀ (s : State) (n : Fin 1025), Answers (.pcieConfigWrite (.numVfs n)) s (fun t =>
    t.host = { s.host with numVfs := n.val } ∧ Only (fun _ => false) [.host] s t)) ∧
  (∀ (s : State) (f : Vf) (d3 : Bool), Answers (.pcieConfigWrite (.power f d3)) s (fun t =>
    t.host.d3.contains f.val = d3 ∧ (∀ j, j ≠ f.val → t.host.d3.contains j = s.host.d3.contains j) ∧ Only (fun _ => false) [.host] s t)) ∧
  (∀ (s : State) (n : Vi) (v : Fin 64), v.val ≠ 2 → s.vecLive (.vi n v) = true → s.fld (R.VI_VEC_CFG n v) 15 8 = 0 →
    s.fld (R.VI_VEC_CFG n v) 31 16 = 0 → Answers (.vectorEvent (.vi n v)) s (fun t =>
      t.bit (R.VI_VEC_CFG n v + 12) 0 = true ∧
      t.fld (R.VI_VEC_CFG n v + 4) 15 0 = min 65535 (s.fld (R.VI_VEC_CFG n v + 4) 15 0 + 1) ∧
      t.fld (R.VI_VEC_CFG n v + 12) 15 8 = min 255 (s.fld (R.VI_VEC_CFG n v + 12) 15 8 + 1) ∧
      Only (among [R.VI_VEC_CFG n v + 4, R.VI_VEC_CFG n v + 12]) [] s t)) ∧
  (∀ (s : State) (n : Vi), s.vecLive (.vi n 2) = true → Answers (.vectorEvent (.vi n 2)) s (fun t =>
      t.fld (R.VI_VEC_CFG n 2 + 4) 15 0 = min 65535 (s.fld (R.VI_VEC_CFG n 2 + 4) 15 0 + 1) ∧
      t.fld (R.VI_VEC_CFG n 2 + 12) 15 8 = min 255 (s.fld (R.VI_VEC_CFG n 2 + 12) 15 8 + 1) ∧
      t.bit (R.VI_VEC_CFG n 2 + 12) 0 = (s.vecLevel (.vi n 2) && !s.bit (R.VI_VEC_CFG n 2 + 12) 1) ∧
      Only (among [R.VI_VEC_CFG n 2 + 4]) [] s t)) ∧
  (∀ (s : State) (v : Vec), s.vecLive v = false → Answers (.vectorEvent v) s (fun t =>
    t.fld (vecCfg v + 4) 15 0 = min 65535 (s.fld (vecCfg v + 4) 15 0 + 1) ∧ Only (among [vecCfg v + 4]) [] s t)) ∧
  (∀ (s : State) (n : Vi) (v : Fin 64), v.val ≠ 2 → s.vecLive (.vi n v) = true → s.host.coal.contains (.vi n v) = true →
    s.fld (R.VI_VEC_CFG n v + 12) 15 8 ≠ 0 → Answers (.coalTimeout (.vi n v)) s (fun t =>
      t.bit (R.VI_VEC_CFG n v + 12) 0 = true ∧ t.host.coal = s.host.coal.filter (· != .vi n v) ∧
      Only (among [R.VI_VEC_CFG n v + 12]) [.host] s t)) ∧
  (∀ (s : State) (f : Vf) (v : Vec), (s.vecsHeld.filter (fun w => s.vecFn w == f.val && s.vecEligible w)).eraseDups = [v] →
    (s.irqTake v).1 = true → Answers (.interruptArbitration f) s (fun t =>
      t.out = .message (s.vecFn v) (s.rd (vecMsix v) + 4294967296 * s.rd (vecMsix v + 4)) (s.rd (vecMsix v + 8)) :: s.out ∧
      t.rd R.ICU_DELIVERED = (s.rd R.ICU_DELIVERED + 1) % 4294967296 ∧ mapGet t.host.lastPick (lastSent (s.vecFn v)) 0 = vecNum v ∧
      mapGet t.host.lastPick (16 * s.vecFn v + s.fld (vecCfg v) 2 0) 0 = vecNum v ∧
      t.host.coal = s.host.coal.filter (· != v) ∧ Only (among [vecCfg v + 12, R.ICU_DELIVERED]) [.out, .host] s t)) ∧
  (∀ (s : State) (v : Vec) (same : Bool), Answers (.vectorMask v same) s (fun t => t.bit (vecMsix v + 12) 0 = true ∧
    (same = true → s.host.lastPick.lookup (lastSent (s.vecFn v)) = some (vecNum v) → t.bit (lateKey v).1 (lateKey v).2 = true))) ∧
  (∀ (s : State) (v : Vec), Answers (.vectorMask v false) s (fun t => Only (among [vecMsix v + 12]) [] s t)) ∧
  (∀ (s : State) (n : Vi) (v : Fin 64), v.val ≠ 2 → Answers (.vecEoi (.vi n v)) s (fun t =>
    t.bit (R.VI_VEC_CFG n v + 12) 1 = false ∧ Only (among [R.VI_VEC_CFG n v + 12]) [] s t)) ∧
  (∀ s : State, Answers .ingestWindow s (fun t =>
    (∀ p, p < 64 → mapGet t.host.ingLeft p 0 = (s.fld (R.PLD_INGEST p) 15 0 + mapGet s.host.ingRem p 0) / 10 ∧
      mapGet t.host.ingRem p 0 = (s.fld (R.PLD_INGEST p) 15 0 + mapGet s.host.ingRem p 0) % 10) ∧ Only (fun _ => false) [.host] s t)) ∧
  (∀ s : State, Answers .irqTokenRefill s (fun t =>
    (∀ p, p < 64 → t.irqTokens p = min (s.irqDepth p) (s.irqTokens p + s.irqRate p)) ∧ Only (fun _ => false) [.host] s t))

/-- R103 to R108: the rings of a host-bound VI, and dirty logging. -/
def Obligations.RingsAndDirtyLogging : Prop :=
  (∀ (s : State) (n : Vi) (tail : W16) (ds : List HostTxDesc), s.hostBound n = true → s.viFn n = 0 → s.bit R.VIR_CTRL 0 = true →
    s.bit (R.VI_TX_CTRL n) 0 = false → Answers (.txTailWrite n tail ds) s (fun t =>
      t.fld (R.VI_TX_TAIL n) 11 0 = tail.toNat % 4096 ∧
      (t.ringOf n).txPosted.map (·.1) = (s.ringOf n).txPosted.map (·.1) ++
        (postedPos (s.ringLen n 1) (s.fld (R.VI_TX_TAIL n) 11 0) (tail.toNat % s.ringLen n 1)).take ds.length ∧
      Only (among [R.VI_TX_TAIL n]) [.host, .out] s t)) ∧
  (∀ (s : State) (n : Vi) (p : Nat) (d : TxDesc), (s.ringOf n).txCur = [(p, d)] → d.eop = true → d.ok = true → d.data.length ≤ 9212 →
    s.viFn n = 0 → s.bit R.VIR_CTRL 0 = true → (s.ringOf n).txPosted = [] → Answers (.txFetchDone n) s (fun t =>
      (t.ringOf n).txCur = [] ∧ ∃ f, (t.ringOf n).txWb = (s.ringOf n).txWb ++ [f] ∧ f.pos = [p] ∧ f.gen = s.viGen n ∧ f.status = 0)) ∧
  (∀ (s : State) (n : Vi) (p : Nat) (f : TxFrame) (l : List TxFrame), (s.ringOf n).txWb = f :: l → s.txReady f = true → f.gen = s.viGen n →
    f.pos = [p] → s.viFn n = 0 → s.bit R.VIR_CTRL 0 = true → Answers (.txWriteback n) s (fun t =>
      (t.ringOf n).txWb = l ∧ t.fld (R.VI_VEC_CFG n 0 + 4) 15 0 = min 65535 (s.fld (R.VI_VEC_CFG n 0 + 4) 15 0 + 1))) ∧
  (∀ (s : State) (n : Vi), s.hostBound n = true → s.bit (R.VI_TX_CTRL n) 0 = true → (s.ringOf n).txCur = [] → (s.ringOf n).txWb = [] →
    Answers (.txAbort n) s (fun t =>
      t.bit (R.VI_TX_CTRL n) 0 = false ∧ (t.ringOf n).txAborting = true ∧ (t.ringOf n).txPosted = (s.ringOf n).txPosted ∧
      Only (among [R.VI_TX_CTRL n]) [.host] s t)) ∧
  (∀ (s : State) (n : Vi), (s.ringOf n).txAborting = true → (s.ringOf n).txWb = [] → Answers (.txAbortDone n) s (fun t =>
    (t.ringOf n).txAborting = false ∧ t.bit (R.VI_TX_CTRL n) 8 = true ∧ t.bit (R.VI_EVENTS n) 3 = true ∧
    Only (among [R.VI_TX_CTRL n, R.VI_EVENTS n]) [.host] s t)) ∧
  (∀ (s : State) (n : Vi) (tail : W16) (bs : List (BitVec 64)), s.hostBound n = true → s.viFn n = 0 → s.bit R.VIR_CTRL 0 = true →
    (s.ringOf n).rxCur = none → Answers (.rxTailWrite n tail bs) s (fun t =>
      t.fld (R.VI_RX_TAIL n) 11 0 = tail.toNat % 4096 ∧
      (t.ringOf n).rxPosted = (s.ringOf n).rxPosted ++
        (postedPos (s.ringLen n 0) (s.fld (R.VI_RX_TAIL n) 11 0) (tail.toNat % s.ringLen n 0)).zip (bs.map (·.toNat)) ∧
      Only (among [R.VI_RX_TAIL n]) [.host, .out] s t)) ∧
  (∀ (s : State) (n : Vi) (p a : Nat) (m : List (Nat × Nat)) (q : Copy), s.hostBound n = true → s.bit (R.VI_RX_CTRL n) 0 = true →
    (s.ringOf n).rxPosted = (p, a) :: m → (s.ringOf n).rxCur = none → s.rxNext n = (some q, s) →
    (noFcs q.bytes).length ≤ s.rxBuf n → Answers (.rxFrameDeliver n) s (fun t =>
      (t.ringOf n).rxPosted = m ∧ (t.ringOf n).rxCur = none ∧ t.fld (R.VI_RX_HEAD n) 11 0 = (p + 1) % s.ringLen n 0 % 4096)) ∧
  (∀ (s : State) (n : Vi) (p : RxProg), (s.ringOf n).rxCur = some p → Answers (.rxWaitExpire n) s (fun t =>
    (t.ringOf n).rxCur = none ∧ t.bit (R.VI_EVENTS n) 4 = true)) ∧
  (∀ (s : State) (f : Vf), f.val ≠ 0 → Answers (.dirtySwap f) s (fun t =>
    t.bit (R.DIRTY_STATUS (f - 1)) 0 = !s.bit (R.DIRTY_STATUS (f - 1)) 0 ∧ t.bit (R.DIRTY_STATUS (f - 1)) 1 = true ∧
    Only (among [R.DIRTY_STATUS (f - 1)]) [] s t)) ∧
  (∀ (s : State) (f : Vf), f.val ≠ 0 → Answers (.dirtySwapDone f) s (fun t =>
    t.bit (R.DIRTY_STATUS (f - 1)) 1 = false ∧ t.bit (R.DIRTY_STATUS (f - 1)) 0 = s.bit (R.DIRTY_STATUS (f - 1)) 0 ∧
    Only (among [R.DIRTY_STATUS (f - 1)]) [] s t))

/-- R117, R118, R127 to R129, R134: ports, links, received control frames, low-power idle. -/
def Obligations.PortsAndLinks : Prop :=
  (∀ (s : State) (p : Port) (an : Fin 8), s.portMode p ≠ 0 → s.portUp p = false → s.active = true → Answers (.linkUp p an) s (fun t =>
    t.portUp p = true ∧ t.fld (R.PRT_STATUS p) 3 1 = s.upSpeed p an ∧ t.bit (R.PRT_EVENTS p) 0 = true ∧
    Only (among [R.PRT_STATUS p, R.PRT_EVENTS p, R.SWC_EVENTS]) [] s t)) ∧
  (∀ (s : State) (p : Port) (half : Bool), s.portUp p = true → Answers (.linkDown p half) s (fun t =>
    t.portUp p = false ∧ t.bit (R.PRT_EVENTS p) 1 = true ∧ t.fld (R.PRT_STATUS p) 10 9 = 0 ∧ t.net.tx.lookup p.val = none ∧
    t.net.waking.any (fun w => w.1 == p.val) = false)) ∧
  (∀ (s : State) (p : Port), Answers (.portReset p) s (fun t =>
    t.net.tx.lookup p.val = none ∧ (∀ c ∈ t.net.copies, c.x = p → c.held = 0 ∧ c.left = 0) ∧
    t.net.waking.any (fun w => w.1 == p.val) = false ∧
    t.net.tc = s.net.tc.filter (fun e => e.port != p.val))) ∧
  (∀ (s : State) (p : Xport) (f : RxFrame), p.val < 48 → s.portListens p = true → fcsOk f.bytes = true → f.codeErr = false → 64 ≤ f.bytes.length →
    f.bytes.length ≤ s.maxLen p → frEt f.bytes = 0x8808 → Answers (.rxFrame p f) s (fun t =>
      t.rd (R.PRT_CNT p 1) = (s.rd (R.PRT_CNT p 1) + f.bytes.length) % 4294967296 ∧
      t.rd (R.PRT_CNT p 0) = (s.rd (R.PRT_CNT p 0) + f.bytes.length) % 4294967296 ∧
      t.rd (R.PRT_CNT p 5) = (s.rd (R.PRT_CNT p 5) + 1) % 4294967296 ∧
      t.rd (R.PRT_CNT p (6 + sizeBin f.bytes.length)) = (s.rd (R.PRT_CNT p (6 + sizeBin f.bytes.length)) + 1) % 4294967296)) ∧
  (∀ (s : State) (p : Xport) (f : RxFrame), p.val < 48 → s.portUp p = true → s.fld (R.PRT_CTRL p) 1 0 = 2 → Answers (.rxFrame p f) s (fun t =>
    t.out = .frame p f.bytes :: s.out ∧ Only (fun _ => false) [.out] s t)) ∧
  (∀ (s : State) (p : Xport) (f : RxFrame), p.val ≠ 50 → (48 ≤ p.val ∨ s.portUp p = false ∨ s.fld (R.PRT_CTRL p) 1 0 = 1) →
    Answers (.rxFrame p f) s (fun t => Only (fun _ => false) [] s t)) ∧
  (∀ (s : State) (f : RxFrame), (s.active = false ∨ f.bytes.length < 64 ∨ fcsOk f.bytes = false ∨ f.codeErr = true) →
    Answers (.rxFrame 50 f) s (fun t => Only (fun _ => false) [] s t)) ∧
  (∀ (s : State) (p : Port), s.lpiMay p = true → Answers (.lpiEnter p) s (fun t =>
    t.bit (R.PRT_STATUS p) 9 = true ∧ t.out = .lpi p true :: s.out ∧
    t.rd (R.PRT_CNT p 48) = (s.rd (R.PRT_CNT p 48) + 1) % 4294967296)) ∧
  (∀ (s : State) (p : Port), s.net.waking.any (fun w => w.1 == p.val) = true → (∀ c, s.queue p c = []) → Answers (.lpiWakeEnd p) s (fun t =>
    t.net = { s.net with waking := s.net.waking.filter (fun w => w.1 != p.val) } ∧ Only (fun _ => false) [.net] s t)) ∧
  (∀ (s u : State) (p : Port) (w : Nat × Option Nat) (c : Copy) (f : Sys2Proof.Machine.Frm), s.net.waking.find? (fun w => w.1 == p.val) = some w →
    u = { s with net := { s.net with waking := s.net.waking.filter (fun v => v.1 != p.val) } } → u.cleanPort p = u → u.canSend p = true →
    s.net.copies.find? (fun c => c.x == p.val && some c.fid == w.2) = some c → s.frameOf c.fid = some f → Answers (.lpiWakeEnd p) s (fun t =>
      ∃ d, t.net.tx.lookup p.val = some d ∧ d.fid = c.fid ∧ d.cls = c.cls)) ∧
  (∀ (s : State) (p : Port), s.portUp p = true → Answers (.lpiReceived p) s (fun t =>
    t.bit (R.PRT_STATUS p) 10 = true ∧ t.rd (R.PRT_CNT p 20) = (s.rd (R.PRT_CNT p 20) + 1) % 4294967296))

/-- R126, R135, R146: transmission. -/
def Obligations.Transmission : Prop :=
  (∀ (s s' : State) (x : Xport) (c : Copy) (f : Sys2Proof.Machine.Frm), s.canSend x = true → s.wdn.ioFault = false →
    (s.cleanPort x).pick x (fun k => ((s.cleanPort x).queue x k).head?) = (some c, s') →
    (c.held ≠ 0 ∨ (s.cleanPort x).fld (R.SWC_P_CREDITS x) 5 0 ≠ 0) → c.x = x → c.ct = true → (s'.takeCopy c).frameOf c.fid = some f →
    Answers (.cutThroughStart x) s (fun t => ∃ d, t.net.tx.lookup x.val = some d ∧ d.fid = c.fid ∧ d.cls = c.cls ∧ d.ct = true)) ∧
  (∀ (s s' : State) (x : Xport) (c : Copy) (f : Sys2Proof.Machine.Frm), x.val ≠ 49 → s.canSend x = true → s.wdn.ioFault = false →
    (s.cleanPort x).pick x (fun k => ((s.cleanPort x).queue x k).head?) = (some c, s') →
    (c.held ≠ 0 ∨ (s.cleanPort x).fld (R.SWC_P_CREDITS x) 5 0 ≠ 0) → c.x = x → c.ct = false → (s'.takeCopy c).frameOf c.fid = some f →
    Answers (.egressStart x) s (fun t => ∃ d, t.net.tx.lookup x.val = some d ∧ d.fid = c.fid ∧ d.cls = c.cls ∧ d.ct = false)) ∧
  (∀ (s : State) (x : Xport), s.canSend x = false → ∀ c, c = .cutThroughStart x ∨ c = .egressStart x → Answers c s (fun t =>
    Only (fun _ => false) [] s t)) ∧
  (∀ (s : State) (x : Xport) (c : Copy), x.val = 48 → s.net.tx.lookup x.val = some c → ∀ n g, c.vi = some (n, g) → s.viGen n = g →
    Answers (.copyTxEnd x) s (fun t =>
      t.net.tx.lookup x.val = none ∧ ∃ m, t.net.inbox = s.net.inbox ++ [m] ∧ m.bytes = noFcs c.bytes ∧ m.vi = n ∧ m.gen = g)) ∧
  (∀ (s : State) (x : Xport) (c : Copy), x.val < 48 → c.x = x → s.fld (R.PRT_CTRL x) 1 0 ≠ 1 → c.stomp = false →
    s.net.tx.lookup x.val = some c → Answers (.copyTxEnd x) s (fun t =>
      t.net.tx.lookup x.val = none ∧ t.rd (R.PRT_CNT x 32) = (s.rd (R.PRT_CNT x 32) + c.bytes.length) % 4294967296)) ∧
  (∀ (s : State) (p : Port) (n : Fin 9216) (c : Copy), s.net.tx.lookup p.val = some c → c.ct = true → Answers (.txUnderrun p n) s (fun t =>
    t.net.tx.lookup p.val = none ∧ t.out = .stomped p :: .frame p (withStomp (c.bytes.take n)) :: s.out ∧ t.bit (R.PRT_EVENTS p) 2 = true ∧
    t.fld (R.PRT_CT_THRESH p) 2 0 = min 6 (s.fld (R.PRT_CT_THRESH p) 2 0 + 1) ∧
    t.rd (R.PRT_CNT p 44) = (s.rd (R.PRT_CNT p 44) + 1) % 4294967296))

/-- R131, R132: statistics snapshots and the management buses. -/
def Obligations.SnapshotsAndBuses : Prop :=
  (∀ (s : State) (p : Port), Answers (.portSnapThis p) s (fun t =>
    t.rd (R.PRT_SNAP_SEQ p) = (s.fld (R.PRT_SNAP_SEQ p) 15 0 + 1) % 65536 ∧ t.rd (R.PRT_SNAPWIN p 23) = t.rd (R.PRT_SNAP_SEQ p) ∧
    t.bit (R.PRT_EVENTS p) 6 = true ∧
    (∀ w, w < 23 → t.rd (R.PRT_SNAPWIN p w) = min 4294967295 (mapGet s.net.snapAcc (24 * p + w) 0) ∧ mapGet t.net.snapAcc (24 * p + w) 0 = 0) ∧
    Only (fun k => among [R.PRT_SNAP_SEQ p, R.PRT_EVENTS p] k || between (R.PRT_SNAPWIN p 0) (R.PRT_SNAPWIN p 24) k) [.net] s t)) ∧
  (∀ s : State, Answers .portSnapAll s (fun t => ∀ p : Port,
    t.rd (R.PRT_SNAP_SEQ p) = (s.fld (R.PRT_SNAP_SEQ p) 15 0 + 1) % 65536 ∧ t.bit (R.PRT_EVENTS p) 6 = true ∧
    ∀ w, w < 23 → t.rd (R.PRT_SNAPWIN p w) = min 4294967295 (mapGet s.net.snapAcc (24 * p + w) 0))) ∧
  (∀ (s : State) (v : Word) (op : Nat) (c : Instr), (op, c) ∈ [(0, .mdioAddress v), (1, .mdioWrite v), (2, .mdioRead v)] →
    s.bit R.PRT_MDIO_STATUS 16 = false → Answers c s (fun t =>
      t.net.mdioOp = some (putBits v.toNat 1 0 op) ∧ t.bit R.PRT_MDIO_STATUS 16 = true ∧ t.out = .mdio op (putBits v.toNat 1 0 op) :: s.out ∧
      Only (among [R.PRT_MDIO_STATUS]) [.net, .out] s t)) ∧
  (∀ (s : State) (v : Word) (c : Instr), c ∈ [.mdioAddress v, .mdioWrite v, .mdioRead v] → s.bit R.PRT_MDIO_STATUS 16 = true →
    Answers c s (fun t => Only (fun _ => false) [] s t)) ∧
  (∀ (s : State) (d : W16) (w : Nat), s.net.mdioOp = some w → Answers (.mdioDone d) s (fun t =>
    t.net.mdioOp = none ∧ t.bit R.PRT_MDIO_STATUS 16 = false ∧ t.bit (R.PRT_EVENTS 0) 8 = true ∧
    t.fld R.PRT_MDIO_STATUS 15 0 = (if w % 4 = 2 then d.toNat else s.fld R.PRT_MDIO_STATUS 15 0) ∧
    Only (among [R.PRT_MDIO_STATUS, R.PRT_EVENTS 0]) [.net] s t)) ∧
  (∀ (s : State) (v : Word) (read : Bool) (c : Instr), (read, c) ∈ [(true, .cageRead v), (false, .cageWrite v)] →
    s.bit R.PRT_CAGE_STATUS 8 = false → Answers c s (fun t =>
      t.net.cageOp = some (putBits v.toNat 7 7 (b2n read)) ∧ t.bit R.PRT_CAGE_STATUS 8 = true ∧
      t.out = .cage (putBits v.toNat 7 7 (b2n read)) :: s.out ∧ Only (among [R.PRT_CAGE_STATUS]) [.net, .out] s t)) ∧
  (∀ (s : State) (d : Byte) (ack : Bool) (w : Nat), s.net.cageOp = some w → Answers (.cageDone d ack) s (fun t =>
    t.net.cageOp = none ∧ t.bit R.PRT_CAGE_STATUS 8 = false ∧ t.bit R.PRT_CAGE_STATUS 9 = !ack ∧
    t.bit (R.PRT_EVENTS 0) 9 = true ∧ t.bit (R.PRT_EVENTS 0) 10 = (s.bit (R.PRT_EVENTS 0) 10 || !ack) ∧
    t.fld R.PRT_CAGE_STATUS 7 0 = (if ack && w.testBit 7 then d.toNat else s.fld R.PRT_CAGE_STATUS 7 0) ∧
    Only (among [R.PRT_CAGE_STATUS, R.PRT_EVENTS 0]) [.net] s t)) ∧
  (∀ s : State, Answers .phyInt s (fun t =>
    t.bit (R.PRT_EVENTS 0) 7 = true ∧ t.bit R.PRT_PHY_CTRL 8 = true ∧ Only (among [R.PRT_EVENTS 0, R.PRT_PHY_CTRL]) [] s t))

/-- R139, R143, R147, R151 to R153: the crossbar, and the timed removals of the switch core. -/
def Obligations.SwitchCore : Prop :=
  (∀ s : State, Answers .crossbarCellTime s (fun t =>
    t.net.grant = (s.drain.xbarRound []).foldl (fun g m => modAt g m.2 (fun _ => (m.1 + 1) % 51)) s.net.grant ∧
    t.net.accept = (s.drain.xbarRound []).foldl (fun a m => modAt a m.1 (fun _ => (m.2 + 1) % 51)) s.net.accept ∧
    t.net.copies.map (fun c => (c.fid, c.x, c.cls)) = s.net.copies.map (fun c => (c.fid, c.x, c.cls)))) ∧
  (∀ (s : State) (i : Fin 32768), s.bit (R.SWC_FDB1 i) 28 = true → s.bit (R.SWC_FDB1 i) 29 = false → s.bit (R.SWC_FDB1 i) 30 = false →
    s.fld R.SWC_FDB_AGE 15 0 ≠ 0 → Answers (.fdbAgeOut i) s (fun t =>
      t.rd (R.SWC_FDB0 i) = 0 ∧ t.rd (R.SWC_FDB1 i) = 0 ∧ t.rd (R.SWC_FDB2 i) = 0 ∧ t.rd (R.SWC_FDB3 i) = 0 ∧
      t.rd R.SWC_FDB_COUNT = (s.rd R.SWC_FDB_COUNT - 1) % 4294967296 ∧
      (s.lowTide = false → t.now = s.now + (s.fld R.SWC_FDB_AGE 15 0 - s.fld (R.SWC_FDB3 i) 15 0) * 1000000000) ∧
      Only (fun k => clockKey k || among [R.SWC_FDB0 i, R.SWC_FDB1 i, R.SWC_FDB2 i, R.SWC_FDB_COUNT] k) clockParts s t)) ∧
  (∀ (s : State) (i : Fin 32768), s.fld R.SWC_FDB_AGE 15 0 = 0 → Answers (.fdbAgeOut i) s (fun t => Only (fun _ => false) [] s t)) ∧
  (∀ (s : State) (q : Copy), s.net.copies = [q] → q.x < 51 → q.cls < 8 → s.tooOld q = true → Answers .ageSweep s (fun t =>
    t.net.copies = [] ∧ t.rd (R.SWC_P_AGEDROP q.x q.cls) = min 4294967295 (s.rd (R.SWC_P_AGEDROP q.x q.cls) + 1))) ∧
  (∀ (s : State) (n : Fin 4) (src : BitVec 48) (seq : W16), Answers (.redEntryForget n src seq) s (fun t =>
    t.net.dups = s.net.dups.filter (fun d => !(d.set == n.val && d.src == src.toNat && d.seq == seq.toNat)) ∧
    match s.dupFind n src.toNat seq.toNat with
    | some d => (s.lowTide = false → t.now = max s.now (d.made + s.redForget n * 1000000)) ∧ Only clockKey clockParts s t
    | none => Only (fun _ => false) [] s t)) ∧
  (∀ (s : State) (n : Fin 4), s.redMode n ≠ 0 → s.fld (R.SWC_RED_TIMES n) 31 16 ≠ 0 → Answers (.redSupervisionSend n) s (fun t =>
    t.net.supSeq = modAt s.net.supSeq n (fun q => (q + 1) % 65536))) ∧
  (∀ (s : State) (p : Port) (seq : W16) (e : TcEntry), s.net.tc.find? (fun t => t.port == p.val && t.seqId == seq.toNat) = some e →
    Answers (.tcFollowupTimeout p seq) s (fun t =>
      t.net = { s.net with tc := s.net.tc.erase e } ∧ t.rd (R.SWC_P_TC_MISS p) = min 4294967295 (s.rd (R.SWC_P_TC_MISS p) + 1) ∧
      t.bit R.SWC_EVENTS 5 = true ∧ Only (among [R.SWC_P_TC_MISS p, R.SWC_EVENTS]) [.net] s t))

/-- R159, R160, R165: what the commands of a time base do. -/
def Obligations.TimeBaseCommands : Prop :=
  (∀ (s : State) (p : Path) (b : Tb) (v : Word), Answers (.tbIncrWrite p b v) s (fun t =>
    t.rd (R.TB_INCR_HI b) = v.toNat % 256 ∧
    t.rd (R.TB_INCR_LO b) = (match s.heldGet p (R.TB_INCR_LO b) with | some w => w % 4294967296 | none => s.rd (R.TB_INCR_LO b)) ∧
    t.rd (R.TB_HOLD_TIME b) = 0 ∧ t.bit (R.TB_STATUS b) 0 = false ∧ t.bit (R.TB_STATUS b) 1 = s.bit (R.TB_STATUS b) 1 ∧
    Only (among [R.TB_INCR_LO b, R.TB_INCR_HI b, R.TB_HOLD_TIME b, R.TB_STATUS b]) [.held, .tmu] s t)) ∧
  (∀ (s : State) (b : Tb) (v : Word), Answers (.slewStart b v) s (fun t =>
    t.rd (R.TB_SLEW_COUNT b) = v.toNat ∧ t.bit (R.TB_STATUS b) 1 = (v != 0#32) ∧
    t.bit (R.TB_STATUS b) 0 = s.bit (R.TB_STATUS b) 0 ∧
    Only (among [R.TB_SLEW_COUNT b, R.TB_STATUS b]) [] s t)) ∧
  (∀ (s : State) (b : Tb), s.bit (R.TB_STATUS b) 1 = true → s.lowTide = false → Answers (.slewDone b) s (fun t =>
    t.bit (R.TB_STATUS b) 1 = false ∧ t.bit R.TMU_EVENTS (25 + b) = true ∧ t.rd (R.TB_SLEW_COUNT b) = 0 ∧
    t.now = s.now + s.rd (R.TB_SLEW_COUNT b) ∧
    (b.val < s.tmu.acc.length →
      nth t.tmu.acc b 0 = (nth s.tmu.acc b 0 + s.rd (R.TB_SLEW_COUNT b) * s.tbSlew b) % 79228162514264337593543950336))) ∧
  (∀ (s : State) (b : Tb), s.fld (R.TB_HOLD_CFG b) 15 0 ≠ 0 → s.bit (R.TB_STATUS b) 0 = false → Answers (.holdTimeout b) s (fun t =>
    t.bit (R.TB_STATUS b) 0 = true ∧ t.bit R.TMU_EVENTS b = true)) ∧
  (∀ (s : State) (b : Tb), Answers (.forceHold b) s (fun t =>
    t.tmu = { s.tmu with edge := s.tmu.edge ++ [.hold b] } ∧ Only (fun _ => false) [.tmu] s t)) ∧
  (∀ (s : State) (b : Tb), s.pending = [] → s.lowTide = false → .hold b.val ∈ s.tmu.edge → .incr b.val ∉ s.tmu.edge → ∃ t, step s = .next t ∧
    t.tmu.edge = [] ∧ t.bit (R.TB_STATUS b) 0 = true ∧
    t.bit R.TMU_EVENTS b = (s.bit R.TMU_EVENTS b || !s.bit (R.TB_STATUS b) 0)) ∧
  (∀ (s : State) (b : Tb), s.pending = [] → s.lowTide = false → .incr b.val ∈ s.tmu.edge → ∃ t, step s = .next t ∧
    t.tmu.edge = [] ∧ t.bit (R.TB_STATUS b) 0 = s.bit (R.TB_STATUS b) 0 ∧ t.bit R.TMU_EVENTS b = s.bit R.TMU_EVENTS b)

/-- R161, R163: what a write of a view's offset and a step of it do. -/
def Obligations.ViewOffsetCommands : Prop :=
  (∀ (s : State) (c : Cv) (v : Word), Answers (.offsetWrite c v) s (fun t =>
    t.tmu.edge = s.tmu.edge ++ [.off c (s.stagedOff c v.toNat)] ∧ t.tmu.acc = s.tmu.acc ∧ Only (fun _ => false) [.tmu] s t)) ∧
  (∀ (s : State) (c : Cv) (v : Word), Answers (.viewStep c v) s (fun t =>
    t.tmu = { s.tmu with edge := s.tmu.edge ++ [.step c (v.toInt * 4294967296 + (s.fld (R.CV_STEP_FRAC c) 15 0 : Nat) * 65536)] } ∧
    t.rd (R.CV_STEP_FRAC c) = 0 ∧ Only (among [R.CV_STEP_FRAC c]) [.tmu] s t)) ∧
  (∀ (s : State) (c : Cv), s.fld R.TMU_SET_CFG 1 0 = 0 → Answers (.setView c) s (fun t =>
    t.tmu = { s.tmu with edge := s.tmu.edge ++ [.set c s.setTime], armed := none, setJustDone := false } ∧
    t.bit R.TMU_SET_CFG 31 = false ∧ Only (among [R.TMU_SET_CFG]) [.tmu] s t)) ∧
  (∀ (s : State) (c : Cv) (o d : Int) (e : List TmuEdge), s.pending = [] → s.lowTide = false → s.tmu.edge = e →
    (e = [.off c o] ∧ d = 0) ∨ (e = [.step c d] ∧ o = s.viewOff c) ∨ e = [.off c o, .step c d] ∨ e = [.step c d, .off c o] → offFits (o + d) →
    ∃ t, step s = .next t ∧ t.tmu.edge = [] ∧ ViewMoved s t c (o + d)) ∧
  (∀ (s : State) (c : Cv) (T : Nat), s.pending = [] → s.lowTide = false → s.tmu.edge = [.set c T] → ∃ t, step s = .next t ∧
    t.tmu.edge = [] ∧ t.bit R.TMU_EVENTS 24 = true ∧
    (offFits (((T : Int) - (nth t.tmu.acc (s.fld (R.CV_BIND c) 1 0) 0 / 65536 : Nat)) * 65536) → t.viewV c / 65536 = T)) ∧
  (∀ (s : State) (c : Cv),
    s.fld R.TMU_SET_CFG 1 0 = 1 ∨ (s.fld R.TMU_SET_CFG 1 0 = 2 ∧ s.fld R.TMU_SET_CFG 6 4 ≠ c) → Answers (.setView c) s (fun t =>
      t.tmu.armed = some c.val ∧ t.bit R.TMU_SET_CFG 31 = true ∧ Only (among [R.TMU_SET_CFG]) [.tmu] s t)) ∧
  (∀ (s : State), s.tmu.armed.isSome = true → Answers .cancelSet s (fun t =>
    t.tmu.armed = none ∧ t.bit R.TMU_SET_CFG 31 = false ∧ Only (among [R.TMU_SET_CFG]) [.tmu] s t)) ∧
  (∀ (s : State), s.tmu.armed = none → s.tmu.setJustDone = true → Answers .cancelSet s (fun t =>
    t.bit R.TMU_STATUS 18 = true ∧ Only (fun _ => false) [.tmu] s t)) ∧
  (∀ (s : State) (c : Cv), s.fld (R.CV_CTRL c) 31 16 ≠ 0 → s.bit (R.CV_BIND c) 4 = true → s.bit (R.CV_CTRL c) 0 = true →
    s.rd (R.TB_HOLD_TIME (s.fld (R.CV_BIND c) 1 0)) ≤ s.fld (R.CV_CTRL c) 31 16 → Answers (.validLimit c) s (fun t =>
      t.bit (R.CV_CTRL c) 0 = false ∧ t.bit R.TMU_EVENTS (16 + c) = true))

/-- R158, R164, R172, R173: captures and pulses of PPS, seconds of a view, and the reference. -/
def Obligations.PpsAndReferenceCommands : Prop :=
  (∀ (s : State), s.bit R.TMU_PPS_IN_CFG 0 = true → s.tmu.armed = none → Answers .ppsInEdge s (fun t =>
    let w := s.viewTime (s.fld R.TMU_PPS_IN_CFG 3 1)
    t.rd R.TMU_PPSIN_NS = w.1 ∧ t.rd R.TMU_PPSIN_SEC_LO + 4294967296 * t.rd R.TMU_PPSIN_SEC_HI = w.2.1 ∧
    t.fld R.TMU_PPSIN_INFO 15 0 = w.2.2 ∧ t.fld R.TMU_PPSIN_INFO 31 16 = (s.fld R.TMU_PPSIN_INFO 31 16 + 1) % 65536 ∧
    t.bit R.TMU_EVENTS 12 = true ∧ t.bit R.TMU_EVENTS 13 = (s.bit R.TMU_EVENTS 13 || s.tmu.ppsUnread) ∧ t.tmu.ppsUnread = true ∧
    Only (among [R.TMU_PPSIN_NS, R.TMU_PPSIN_SEC_LO, R.TMU_PPSIN_SEC_HI, R.TMU_PPSIN_INFO, R.TMU_EVENTS]) [.tmu] s t)) ∧
  (∀ (s : State), s.bit R.TMU_PPS_IN_CFG 0 = false → s.tmu.armed = none → Answers .ppsInEdge s (fun t => Only (fun _ => false) [] s t)) ∧
  (∀ (s : State) (c : Cv) (n : Nat), s.bit (R.CV_BIND c) 4 = true → s.lowTide = false → s.active = true → s.tmu.edge = [] → s.edgesToSecond c = some n →
    s.bit R.TMU_PPS_OUT_CFG 0 = true → s.fld R.TMU_PPS_OUT_CFG 3 1 = c → s.bit R.TMU_PPS_OUT_CFG 4 = false → s.tmu.ppsRuns = [] →
    s.tmu.armed = none → Answers (.viewSecond c) s (fun t =>
      t.now = s.now + n ∧ t.pwr.ppsOut = true ∧ t.out = .pin 0 true :: s.out)) ∧
  (∀ (s : State), s.pwr.ppsOut = true → Answers .ppsOutEnd s (fun t =>
    t.pwr.ppsOut = false ∧ t.out = .pin 0 false :: s.out ∧ Only (fun _ => false) [.pwr, .out] s t)) ∧
  (∀ (s : State), s.bit R.TMU_CLK_CFG 0 = true → Answers .refLost s (fun t =>
    t.bit R.TMU_STATUS 17 = false ∧ t.bit R.TMU_STATUS 16 = false ∧ t.bit R.TMU_EVENTS 14 = true ∧
    Only (among [R.TMU_EVENTS]) [] s t)) ∧
  (∀ (s : State), s.bit R.TMU_CLK_CFG 0 = true → Answers .refBack s (fun t =>
    t.bit R.TMU_STATUS 17 = true ∧ t.bit R.TMU_STATUS 16 = true ∧ t.bit R.TMU_EVENTS 15 = true ∧
    Only (among [R.TMU_EVENTS]) [] s t)) ∧
  (∀ (s : State), s.bit R.TMU_CLK_CFG 0 = false → Answers .refLost s (fun t =>
    t.bit R.TMU_STATUS 17 = false ∧ t.bit R.TMU_STATUS 16 = s.bit R.TMU_STATUS 16 ∧ Only (fun _ => false) [] s t))

/-- R13, R177, R178, R201: boundaries, the pacer, and the hold of an ingest link. -/
def Obligations.BoundaryAndPacer : Prop :=
  (∀ s : State, s.power = 2 → s.host.rstQ = [] → s.ldr.xchg = none → Answers .sampleBoundary s (fun t =>
    t.rd R.ING_INDEX = s.nextIndex % 4294967296 ∧ t.bit R.ING_STATUS 0 = true)) ∧
  (∀ s : State, s.power ≠ 2 → s.power ≠ 4 → Answers .sampleBoundary s (fun t => Only (fun _ => false) [] s t)) ∧
  (∀ (s : State) (p : Path) (v : Word), Answers (.pacePeriodWrite p v) s (fun t =>
    t.pacePeriod = s.paceClamp ((match s.heldGet p R.ING_PACE_PERIOD_LO with | some w => w % 4294967296 | none => s.rd R.ING_PACE_PERIOD_LO) +
      4294967296 * (v.toNat % 1048576)) ∧
    s.paceNom - s.paceNom / 10000 ≤ t.pacePeriod ∧ t.pacePeriod ≤ s.paceNom + s.paceNom / 10000 ∧
    Only (among [R.ING_PACE_PERIOD_LO, R.ING_PACE_PERIOD_HI]) [.held] s t)) ∧
  (∀ (s : State) (v : Word), Answers (.paceShiftWrite v) s (fun t =>
    t.ing.shift = sgn32 v.toNat * 4294967296 ∧ t.rd R.ING_PACE_SHIFT = v.toNat ∧ Only (among [R.ING_PACE_SHIFT]) [.ing] s t)) ∧
  (∀ (s : State) (l : Lane), s.linkHeld l = false → Answers (.ingestLinkHold l) s (fun t =>
    t.bit R.ING_STATUS (1 + laneIx l) = true ∧ t.bit R.ING_EVENTS 8 = true ∧ t.linkHeld l = true ∧
    t.bit (R.WDN_HEALTH (laneIx l)) 2 = true)) ∧
  (∀ (s : State) (l : Lane), s.linkHeld l = true → Answers (.ingestLinkHold l) s (fun t => Only (fun _ => false) [] s t))

/-- R180 to R184, R189, R190, R197: streams, GOOSE subscriptions, and frames for lane-resident VIs. -/
def Obligations.StreamsAndGoose : Prop :=
  (∀ (s : State) (f : SvFrame) (appid : Nat) (sim : Bool) (a : Asdu) (i : Nat), i < 1024 → s.ingLive = true → s.ing.svOld = [] →
    decodeSv f.bytes = some (appid, sim, [a]) → s.svMatch appid a.svid = some i → s.bit (R.ING_SV0 i) 27 = false →
    a.confRev = s.rd (R.ING_SV3 i) → a.data.length = 8 * s.svNch i → sim = s.bit (R.ING_SV0 i) 26 → s.bit (R.ING_SV0 i) 25 = true →
    s.fld (R.PLD_INGEST (s.viPolder (s.svOwner i))) 15 0 = 0 → s.svState i = 0 ∨ s.svState i = 3 → Answers (.svFrame f) s (fun t =>
      t.svState i = 1 ∧ t.fld (R.ING_SV_STAT0 i) 31 16 = a.cnt % 65536 ∧ (t.svRt i).run = 1 ∧ (t.svRt i).cnt = a.cnt % 65536 ∧
      Only (among [R.ING_SV_STAT0 i]) [.ing, .net] s t)) ∧
  (∀ (s : State) (f : SvFrame), s.ingLive = true → decodeSv f.bytes = none → Answers (.svFrame f) s (fun t =>
    t.rd R.ING_UNDECODED = min 4294967295 (s.rd R.ING_UNDECODED + 1) ∧ Only (among [R.ING_UNDECODED]) [.net] s t)) ∧
  (∀ (s : State) (k : Nat), s.bit R.ING_STATUS 0 = true → s.lowTide = false → (match s.ing.dead with | some d => idxAdd d 1 | none => 0) = k →
    idxLater k (s.rd R.ING_INDEX) = false → Answers .sampleDeadline s (fun t =>
      t.ing.dead = some k ∧ ∀ d, s.deadlineOf k = some d → t.now = max s.now (ceilDiv d 4294967296))) ∧
  (∀ (s : State) (i : Fin 1024), s.svState i = 2 → 64 ≤ (s.svRt i).nomiss → Answers (.streamLost i) s (fun t =>
    t.svState i = 3 ∧ t.bit R.ING_EVENTS 0 = true ∧ Only (among [R.ING_SV_STAT0 i, R.ING_EVENTS]) [] s t)) ∧
  (∀ (s : State) (f : GooseFrame) (m : Goose) (g : Nat), g < 4096 → s.ingLive = true → decodeGoose f.bytes = some m →
    (s.listed R.ING_GO0 4096).find? (fun g => s.bit (R.ING_GO0 g) 31 && s.fld (R.ING_GO0 g) 15 0 == m.appid &&
      s.fld (R.ING_GO2 g) 7 0 == m.ref.length && s.rd (R.ING_GO1 g) == crc32Raw m.ref) = some g →
    m.confRev = s.rd (R.ING_GO3 g) → m.nds = false → m.test = false → m.sim = s.bit (R.ING_GO0 g) 17 → s.bit (R.ING_GO0 g) 18 = false →
    (s.goRt g).seen = false → Answers (.gooseFrame f) s (fun t =>
      t.bit (R.ING_GO_STAT0 g) 0 = true ∧ t.rd (R.ING_GO_STAT1 g) = m.st % 4294967296 ∧ t.rd (R.ING_GO_STAT2 g) = m.sq % 4294967296 ∧
      (t.goRt g).seen = true ∧ t.ing.gq = s.ing.gq ++ [(5, g, [m.st, m.sq, m.tal, (m.data.take 1472).length] ++ wordsAll (m.data.take 1472))] ∧
      Only (among [R.ING_GO_STAT0 g, R.ING_GO_STAT1 g, R.ING_GO_STAT2 g]) [.ing, .net] s t)) ∧
  (∀ (s : State) (g : Fin 4096), s.bit (R.ING_GO_STAT0 g) 0 = true → Answers (.gooseTalExpire g) s (fun t =>
    t.bit (R.ING_GO_STAT0 g) 0 = false ∧ t.fld (R.ING_GO_STAT3 g) 15 0 = min 65535 (s.fld (R.ING_GO_STAT3 g) 15 0 + 1) ∧
    t.bit R.ING_EVENTS 7 = true ∧ t.ing.gq = s.ing.gq ++ [(6, g.val, [1])] ∧
    Only (among [R.ING_GO_STAT0 g, R.ING_GO_STAT3 g, R.ING_EVENTS]) [.ing] s t)) ∧
  (∀ (s : State) (f : InFrame), s.net.inbox.find? (fun f => frEt f.bytes != 0x88BA && frEt f.bytes != 0x88B8) = some f →
    Answers .ingestFrame s (fun t =>
      t.net = { s.net with inbox := s.net.inbox.erase f } ∧
      (s.viGen f.vi ≠ f.gen → s.ingLive = true → t.rd R.VIR_GEN_DISCARDS = min 4294967295 (s.rd R.VIR_GEN_DISCARDS + 1) ∧
        t.bit R.VIR_EVENTS 3 = true ∧ Only (among [R.VIR_GEN_DISCARDS, R.VIR_EVENTS]) [.net] s t)))

/-- R191 to R196: modulator chains. -/
def Obligations.ModulatorChains : Prop :=
  (∀ (s : State) (m : Mc) (bits : List Bool), s.mcState m = 3 → s.ingLive = true → (s.mcRt m).last ≠ some (s.rd R.ING_INDEX) →
    bits.length = s.mcNeed m → Answers (.modMessage m bits) s (fun t =>
      (t.mcRt m).last = some (s.rd R.ING_INDEX) ∧ (t.mcRt m).fresh = false ∧ t.mcState m = 3 ∧
      Only (among [R.MC_STATUS m, R.MC_DC m, R.MC_COUNTS m, R.ING_LINK_SEQ, R.ING_STATUS, R.ING_Q_CREST 0, R.ING_Q_CREST 1, R.ING_EVENTS,
        R.ING_GAP_COUNT]) [.ing] s t)) ∧
  (∀ (s : State) (m : Mc) (bits : List Bool), (s.mcState m < 2 ∨ s.ingLive = false ∨ (s.mcRt m).last = some (s.rd R.ING_INDEX) ∨
    bits.length ≠ s.mcNeed m) → Answers (.modMessage m bits) s (fun t => Only (fun _ => false) [] s t)) ∧
  (∀ (s : State) (m : Mc) (x : Bool), (s.mcRt m).sincPhase + 1 < s.mcR m → (s.mcRt m).ints.length = s.mcOrder m →
    State.mcBit m ([], s) x = ([], s.setMc m { s.mcRt m with
      ints := integrate (if x then 1 else -1) (s.mcRt m).ints, sincPhase := (s.mcRt m).sincPhase + 1 })) ∧
  (∀ s : State, Answers .mcStart s (fun t =>
    (∀ m : Mc, (t.mcRt m).req = (if s.bit R.ING_MC_MASK m && s.mcState m == 1 then 1 else (s.mcRt m).req)) ∧ Only (fun _ => false) [.ing] s t)) ∧
  (∀ s : State, Answers .mcStop s (fun t =>
    (∀ m : Mc, (t.mcRt m).req = (if s.bit R.ING_MC_MASK m && (decide (2 ≤ s.mcState m) || (s.mcRt m).req == 1) then 2 else (s.mcRt m).req)) ∧
    Only (fun _ => false) [.ing] s t)) ∧
  (∀ s : State, Answers .ingSync s (fun t => t.ing = { s.ing with sync := true } ∧ Only (fun _ => false) [.ing] s t)) ∧
  (∀ s : State, Answers .syncInEdge s (fun t =>
    t.ing = { s.ing with sync := s.ing.sync || s.bit R.ING_SYNC_CFG 0 } ∧ Only (fun _ => false) [.ing] s t)) ∧
  (∀ (s : State) (m : Mc), s.mcState m = 2 ∨ s.mcState m = 3 → Answers (.mcFault m) s (fun t =>
    t.mcState m = 4 ∧ t.fld (R.MC_COUNTS m) 31 16 = min 65535 (s.fld (R.MC_COUNTS m) 31 16 + 1) ∧ t.bit R.ING_EVENTS 4 = true ∧
    Only (among [R.MC_STATUS m, R.MC_COUNTS m, R.ING_EVENTS]) [] s t)) ∧
  (∀ (s : State) (m : Mc), s.mcState m = 4 → Answers (.mcLevelChange m) s (fun t =>
    t.mcState m = 2 ∧ t.fld (R.MC_STATUS m) 23 16 = s.mcSettle m % 256)) ∧
  (∀ (s : State) (m : Mc), s.mcState m = 2 → s.fld (R.MC_STATUS m) 23 16 = 0 → Answers (.mcSettled m) s (fun t =>
    t.mcState m = 3 ∧ Only (among [R.MC_STATUS m]) [] s t)) ∧
  (∀ (s : State) (m : Mc), (s.mcState m ≠ 2 ∨ s.fld (R.MC_STATUS m) 23 16 ≠ 0) → Answers (.mcSettled m) s (fun t => Only (fun _ => false) [] s t)) ∧
  (∀ (s : State) (m : Mc) (v : Word), s.mcState m < 2 → Answers (.coefSelWrite m v) s (fun t =>
    t.fld (R.MC_CTRL m) 1 0 = v.toNat % 4 ∧ t.bit (R.MC_CTRL m) 8 = v.toNat.testBit 8 ∧
    t.bit (R.MC_STATUS m) 8 = (v.toNat.testBit 8 || (s.mcRt m).autoFrz.isSome) ∧ Only (among [R.MC_CTRL m, R.MC_STATUS m]) [] s t)) ∧
  (∀ (s : State) (m : Mc) (v : Word), 2 ≤ s.mcState m → Answers (.coefSelWrite m v) s (fun t =>
    t.fld (R.MC_CTRL m) 1 0 = s.fld (R.MC_CTRL m) 1 0 ∧ t.bit (R.MC_CTRL m) 8 = v.toNat.testBit 8 ∧
    t.bit (R.MC_STATUS m) 8 = (v.toNat.testBit 8 || (s.mcRt m).autoFrz.isSome) ∧ t.bit R.ING_EVENTS 5 = true ∧
    Only (among [R.MC_CTRL m, R.MC_STATUS m, R.ING_EVENTS]) [] s t))

/-- R216 to R219, Table 09-10: moves, loads and floating-point operations. -/
def Obligations.FabricMovesAndFloats : Prop := RowsHold (fun i e t =>
  let v := vecRow i t
  let a := t.va i
  let b := t.vb i
  let d := t.vreg i.d
  [v (.opTbl i) 0x06 2 (fun c => e.word t (pAddr i + (clampI 0 ((pN i : Int) - 1) (sgn32 (a c))).toNat)),
   v (.opLdv i) 0x08 1 (fun c => e.word t (pAddr i + c)), v (.opLds i) 0x0A 1 (fun _ => e.word t (pAddr i)),
   v (.opMovi i) 0x0C 1 (fun _ => i.pay.toNat), v (.opMov i) 0x0D 1 a, v (.opPerm i) 0x0E 1 (fun c => a (bitsOf i.pay.toNat (2 * c + 1) (2 * c))),
   v (.opSel i) 0x0F 1 (fun c => if t.kbit (pC i) c then a c else b c), v (.opFadd i) 0x10 1 (fun c => f32.add (a c) (b c)),
   v (.opFsub i) 0x11 1 (fun c => f32.sub (a c) (b c)), v (.opFmul i) 0x12 1 (fun c => f32.mul (a c) (b c)),
   v (.opFma i) 0x13 1 (fun c => f32.fma (a c) (b c) (d c)), v (.opFms i) 0x14 1 (fun c => f32.fma (f32.neg (a c)) (b c) (d c)),
   v (.opFdiv i) 0x15 12 (fun c => f32.div (a c) (b c)), v (.opFsqrt i) 0x16 12 (fun c => f32.sqrt (a c)),
   v (.opFabs i) 0x17 1 (fun c => f32.abs (a c)), v (.opFneg i) 0x18 1 (fun c => f32.neg (a c)),
   v (.opFmin i) 0x19 1 (fun c => f32.minN (a c) (b c)), v (.opFmax i) 0x1A 1 (fun c => f32.maxN (a c) (b c)),
   v (.opFhsum i) 0x1B 3 (fun _ => f32.add (f32.add (a 0) (a 1)) (f32.add (a 2) (a 3))),
   v (.opFcvti i) 0x1C 1 (fun c => u32 (sat32 ((f32.rne (a c) 4294967296).getD 0))), v (.opIcvtf i) 0x1D 1 (fun c => f32.ofInt (sgn32 (a c))),
   v (.opFatan2 i) 0x1E 10 (fun c => f32.atan2 (a c) (b c)), pairRow i t (.opFsincos i) 0x1F 12 (fun c => f32.sin (a c)) (fun c => f32.cos (a c))])

/-- R218, R219, Table 09-10: integer operations. -/
def Obligations.FabricIntegers : Prop := RowsHold (fun i _ t =>
  let v := vecRow i t
  let a := t.va i
  let b := t.vb i
  let x := fun (c : Nat) => sgn32 (a c)
  let y := fun (c : Nat) => sgn32 (b c)
  [v (.opIadd i) 0x20 1 (fun c => intRes i (x c + y c)), v (.opIsub i) 0x21 1 (fun c => intRes i (x c - y c)),
   v (.opImul i) 0x22 2 (fun c => intRes i (x c * y c)), v (.opImulh i) 0x23 2 (fun c => u32 (x c * y c / 4294967296)),
   v (.opIaddi i) 0x24 1 (fun c => intRes i (x c + sgn32 i.pay.toNat)), v (.opIshl i) 0x25 1 (fun c => intRes i (x c * (2 ^ (b c % 32) : Nat))),
   v (.opIshr i) 0x26 1 (fun c => u32 ((x c + (if mBit i 2 && b c % 32 != 0 then ((2 ^ (b c % 32 - 1) : Nat) : Int) else 0)) / (2 ^ (b c % 32) : Nat))),
   v (.opIlsr i) 0x27 1 (fun c => a c % 4294967296 / 2 ^ (b c % 32)), v (.opIand i) 0x28 1 (fun c => a c &&& b c),
   v (.opIor i) 0x29 1 (fun c => a c ||| b c), v (.opIxor i) 0x2A 1 (fun c => Nat.xor (a c) (b c)),
   v (.opInot i) 0x2B 1 (fun c => 4294967295 - a c % 4294967296), v (.opImin i) 0x2C 1 (fun c => u32 (min (x c) (y c))),
   v (.opImax i) 0x2D 1 (fun c => u32 (max (x c) (y c))), v (.opIabs i) 0x2E 1 (fun c => intRes i (x c).natAbs),
   v (.opIbits i) 0x2F 1 (fun c => a c % 4294967296 / 2 ^ bitsOf i.pay.toNat 4 0 % 2 ^ bitsOf i.pay.toNat 10 5)])

/-- R219 to R221, Table 09-10: comparisons, mask operations and the characteristics that answer a mask. -/
def Obligations.FabricMasks : Prop := RowsHold (fun i e t =>
  let m := maskRow i t
  let a := t.va i
  let w := fun (j : Nat) => e.word t (pAddr i + j)
  let k := t.kbit i.a
  [m (.opFcmp i) 0x30 1 (fun c => fcmpOp i.m (a c) (t.vreg i.b c)), m (.opIcmp i) 0x31 1 (fun c => icmpOp i.m (a c) (t.vreg i.b c)),
   m (.opKand i) 0x32 1 (fun c => k c && t.kbit i.b c), m (.opKor i) 0x33 1 (fun c => k c || t.kbit i.b c),
   m (.opKxor i) 0x34 1 (fun c => k c != t.kbit i.b c), m (.opKnot i) 0x35 1 (fun c => !k c),
   m (.opSmpv i) 0x3A 1 (fun c => decide (pCh i + c < (e.inp (pIn i)).nch) && e.s.qGood (e.qual t (pIn i) (pCh i + c) (pAge i))),
   m (.opQuad i) 0x4E 6 (fun c => (List.range 4).all (fun h => f32.le (f32.fma (w (3 * h + 1)) (t.va1 i c) (f32.mul (w (3 * h)) (a c))) (w (3 * h + 2)))),
   m (.opMho i) 0x4F 4 (fun c => f32.le (f32.fma (f32.sub (a c) (w 0)) (f32.sub (a c) (w 0))
     (f32.mul (f32.sub (t.va1 i c) (w 1)) (f32.sub (t.va1 i c) (w 1)))) (w 2))] ++
  (match i.m.val with
   | 0 => [m (.opKmov i) 0x36 1 k]
   | 1 => [m (.opKmov i) 0x36 1 (fun _ => t.kreg i.a != 0)]
   | 2 => [m (.opKmov i) 0x36 1 (fun _ => t.kreg i.a == 15)]
   | 3 => [m (.opKmov i) 0x36 1 (fun c => a c % 4294967296 != 0)]
   | _ => [vecRow i t (.opKmov i) 0x36 1 (fun c => b2n (k c))]))

/-- R213, R219, Table 09-10: operations that read the segment's inputs. -/
def Obligations.FabricInputs : Prop := RowsHold (fun i e t =>
  let v := vecRow i t
  let p := e.inp (pIn i)
  let n := e.s.mcSub p.id
  [v (.opSmp i) 0x38 1 (fun c => e.chan t (pIn i) (pCh i + c) (pAge i)), v (.opSmpq i) 0x39 1 (fun c => e.qual t (pIn i) (pCh i + c) (pAge i)),
   v (.opMods i) 0x3B 1 (fun c => if n ≤ pCh i + c then 0 else e.word t (p.addr + 2 * (pAge i * n + pCh i + c))),
   v (.opGoin i) 0x3C 1 (fun c => if e.word t (p.addr + 3) ≤ 4 * (pAge i + c) then 0 else e.word t (p.addr + 4 + pAge i + c)),
   v (.opGost i) 0x3D 1 (fun c => if c = 0 then e.word t p.addr % 2 else e.word t (p.addr + c)),
   v (.opFrin i) 0x3E 1 (fun c =>
     let f := match t.slot (t.cur.getD false) with | some sl => (sl.fr.lookup (pIn i)).getD (0, 0) | none => (0, 0)
     nth [e.word t p.addr, f.1, f.2, 0] c 0),
   v (.opIdx i) 0x3F 1 (fun c => nth [e.r.idx, e.r.delta, e.r.vi, 0] c 0)])

/-- R220, R221, Table 09-10: filters, phasors, complex and piecewise operations. -/
def Obligations.FabricSignalOperations : Prop := RowsHold (fun i e t =>
  let v := vecRow i t
  let z := pairRow i t
  let a := t.va i
  let a1 := t.va1 i
  let w := fun (j : Nat) => e.word t (pAddr i + j)
  let n := pBn i
  let sum := fun (h : Nat → Nat) (c : Nat) => (List.range n).reverse.foldl (fun acc j => f32.fma (h j) (e.x t i c j) acc) 0
  let cm := fun (c : Nat) => cmulF (a c, a1 c) (t.vb i c, t.vb1 i c)
  let cd := fun (c : Nat) => cdivF (a c, a1 c) (t.vb i c, t.vb1 i c)
  let sq := seqF (fun c => (a c, a1 c))
  let xs := fun (c : Nat) => (List.range n).map (fun j => e.x t i c j)
  [v (.opFir i) 0x40 (n + 4) (sum w), z (.opPhasor i) 0x41 (2 * n + 6) (sum (fun j => w (2 * j))) (sum (fun j => w (2 * j + 1))),
   v (.opRms i) 0x42 (n + 14) (fun c => f32.sqrt (f32.mul ((List.range n).reverse.foldl (fun q j => f32.fma (e.x t i c j) (e.x t i c j) q) 0) (f32.roundQ false 1 n 0))),
   v (.opPeak i) 0x43 (n + 2) (fun c => if (xs c).any (fun x => f32.isNaN x) then fNaN else (xs c).foldl (fun m x => f32.maxN m (f32.abs x)) 0),
   v (.opDiff i) 0x44 2 (fun c => f32.sub (e.x t i c 0) (e.x t i c n)),
   z (.opPmag i) 0x45 14 (fun c => f32.sqrt (f32.fma (a c) (a c) (f32.mul (a1 c) (a1 c)))) (fun c => f32.atan2 (a1 c) (a c)),
   z (.opCmul i) 0x46 3 (fun c => (cm c).1) (fun c => (cm c).2), z (.opCdiv i) 0x47 16 (fun c => (cd c).1) (fun c => (cd c).2),
   z (.opSeq i) 0x48 8 (fun c => (sq c).1) (fun c => (sq c).2),
   v (.opPoly i) 0x4C (pN i + 2) (fun c => (List.range (pN i)).foldl (fun acc j => f32.fma acc (a c) (w (1 + j))) (w 0)),
   v (.opLut i) 0x4D (pN i + 6) (fun c => lutF w (pN i) (a c)), v (.opTval i) 0x57 1 (fun c => bitsOf (w c) 29 0)])

/-- R220, R222, R223, Table 09-10: operations that write frame words, which hold their state. -/
def Obligations.FabricStatefulOperations : Prop := RowsHold (fun i e t =>
  let a := t.va i
  let b := t.vb i
  let w := fun (j : Nat) => e.word t (pAddr i + j)
  let q := fun (j : Nat) => e.word t (pSaddr i + j)
  let ka := t.kbit i.a
  let kb := t.kbit i.b
  let st := fun (cmd : Instr) (code cost ad : Nat) (f : Nat → Bool) (g : Nat → Nat) => { maskRow i t cmd code cost f with word := atWords i t ad g }
  let sv := fun (cmd : Instr) (code cost ad : Nat) (f : Nat → Nat) (g : Nat → Nat) => { vecRow i t cmd code cost f with word := atWords i t ad g }
  let tm := fun (f : Bool → Nat → Nat → TimerW → TimerW) (c : Nat) =>
    f (ka c) (clampI 0 1073741823 (sgn32 (b c))).toNat e.r.delta { flag := (w c).testBit 31, prev := (w c).testBit 30, elapsed := bitsOf (w c) 29 0, out := false }
  let tw := fun (r : TimerW) => min 1073741823 r.elapsed + b2n r.prev * 1073741824 + b2n r.flag * 2147483648
  let hy := fun (c : Nat) => if f32.isNaN (a c) || f32.isNaN (b c) then false
    else if q c % 2 = 0 then f32.lt (b c) (a c) else f32.lt (f32.mul (w 0) (b c)) (a c)
  let ramp := fun (c : Nat) => f32.minN (f32.maxN (a c) (f32.sub (w c) (b c))) (f32.add (w c) (b c))
  let th := fun (c : Nat) => idmtStep w e.r.delta (a c) (q c)
  let ed := fun (c : Nat) => match i.m.val with | 0 => ka c && !(w c % 2 == 1) | 1 => !ka c && w c % 2 == 1 | _ => ka c != (w c % 2 == 1)
  let la := fun (c : Nat) => if ka c && kb c then mBit i 0 else if ka c then true else if kb c then false else w c % 2 == 1
  let cn := fun (c : Nat) => if kb c then 0 else if ka c && !(w c).testBit 31 then min 2147483647 (w c % 2147483648 + 1) else w c % 2147483648
  [{ cmd := .opClr i, code := 0x07, cost := (pN i + 3) / 4 + 1, dest := t.next,
     word := fun x => if pAddr i ≤ x ∧ x < pAddr i + pN i ∧ x < 0x1800 then some 0 else none },
   { cmd := .opStv i, code := 0x09, cost := 1, dest := t.next, word := atWords i t (pAddr i) a },
   { cmd := .opSts i, code := 0x0B, cost := 1, dest := t.next, word := fun x => if x = pAddr i ∧ x < 0x1800 then some (a 0 % 4294967296) else none },
   st (.opHyst i) 0x37 3 (pSaddr i) hy (fun c => b2n (hy c)), sv (.opRamp i) 0x4B 3 (pAddr i) ramp ramp,
   st (.opTon i) 0x50 2 (pAddr i) (fun c => (tm tonStep c).out) (fun c => tw (tm tonStep c)),
   st (.opTof i) 0x51 2 (pAddr i) (fun c => (tm tofStep c).out) (fun c => tw (tm tofStep c)),
   st (.opPulse i) 0x52 2 (pAddr i) (fun c => (tm pulseStep c).out) (fun c => tw (tm pulseStep c)),
   st (.opIdmt i) 0x53 24 (pSaddr i) (fun c => f32.le fOne (th c)) th,
   st (.opEdge i) 0x54 2 (pAddr i) (fun c => !e.edgeNew (pAddr i + c) && ed c) (fun c => b2n (ka c)), st (.opLatch i) 0x55 2 (pAddr i) la (fun c => b2n (la c)),
   sv (.opCnt i) 0x56 2 (pAddr i) cn (fun c => cn c + b2n (ka c) * 2147483648)]) ∧
  -- HIST and BIQUAD write several groups of frame words
  RowsHold (fun i e t =>
  let a := t.va i
  let w := fun (j : Nat) => e.word t (pAddr i + j)
  let p := w 0 % max 1 (pN i)
  let base := pAddr i + 4 + 4 * p
  let y := fun (c : Nat) => f32.fma (w 0) (a c) (e.word t (pSaddr i + c))
  [{ vecRow i t (.opHist i) 0x49 3 (fun c => e.word t (base + c)) with
     word := fun x => if x = pAddr i ∧ x < 0x1800 then some ((p + 1) % max 1 (pN i)) else atWords i t base a x },
   { vecRow i t (.opBiquad i) 0x4A 6 y with
     word := fun x => (atWords i t (pSaddr i + 4) (fun c => f32.fma (w 2) (a c) (f32.neg (f32.mul (w 4) (y c)))) x).or
       (atWords i t (pSaddr i) (fun c => f32.fma (f32.neg (w 3)) (y c) (f32.fma (w 1) (a c) (e.word t (pSaddr i + 4 + c)))) x) }])

/-- R224, Table 09-10: operations that write the output record. -/
def Obligations.FabricOutputs : Prop := RowsHold (fun i _ t =>
  let o := itemRow t
  let a := t.va i
  [o (.opPubw i) 0x58 2 ⟨0x58, pSlot i, pItem i, [(0, a 0)]⟩, o (.opPubb i) 0x59 2 ⟨0x59, pSlot i, pItem i, [(0, t.reduce i)]⟩,
   o (.opPubq i) 0x5A 2 ⟨0x5A, pSlot i, pItem i, [(0, a 0 % 65536)]⟩, o (.opPub i) 0x5B 4 ⟨0x5B, pSlot i, pItem i, [(0, 1)]⟩,
   o (.opDout i) 0x5C 2 ⟨0x5C, 0, pItem i, [(0, t.reduce i)]⟩,
   o (.opXout i) 0x5D 2 ⟨0x5D, 0, pItem i, (List.range 4).filterMap (fun c => if t.sel i c then some (c, a c) else none)⟩,
   o (.opRecw i) 0x5E 2 ⟨0x5E, b2n (mBit i 0), pItem i, [(0, if mBit i 0 then t.reduce i else a 0)]⟩,
   o (.opSig i) 0x5F 2 ⟨0x5F, b2n (mBit i 0), pItem i, [(0, 1)]⟩])

/-- R210, R219, Table 09-10: the flow of a segment. -/
def Obligations.FabricControl : Prop :=
  RowsHold (fun i _ t =>
    [{ cmd := .opNop i, code := 0x00, cost := 1, dest := t.next },
     { cmd := .opBra i, code := 0x02, cost := if braTaken i t then 2 else 1, dest := t.goto (t.pos + 1 + (if braTaken i t then pOffset i else 0)) },
     { cmd := .opLoop i, code := 0x03, cost := 2, dest := if pBody i = 0 then t.next
       else { t with pos := t.pos + 1, loops := (t.pos + 1, t.pos + 1 + pBody i, pOffset i, t.calls.length) :: t.loops } },
     { cmd := .opCall i, code := 0x04, cost := 2, dest := { t with pos := pOffset i, calls := (t.pos + 1) :: t.calls } },
     { cmd := .opRet i, code := 0x05, cost := 2, dest := ({ t with calls := t.calls.tail } : Tile).goto (t.calls.headD 0) }]) ∧
  (∀ (s : State) (i : OpIssue) (e : Env) (t : Tile), Issuable s i 0x01 1 e t → e.r.dead = 0 → Answers (.opEnd i) s (fun u =>
    (u.lane i.lane).load = (s.lane i.lane).load + t.ch + 1))

/-- R198, R213, R227, R237, R240, R258, R309, R365: a lane takes the messages of its ingest link. -/
def Obligations.LaneMessages : Prop :=
  ∀ (s : State) (l : Lane) (m : IMsg) (q : List IMsg), s.link l = m :: q → (s.lane l).deaf = false → s.role l < 3 → s.fastClk = true →
    let took := fun (t : State) => t.link l = q ∧ (t.lane l).seq = idxAdd m.seq 1 ∧ (t.lane l).deaf = false ∧ Only (fun _ => true) laneParts s t
    let hold := match mapGet (s.lane l).smp m.set [] with | e :: _ => e.vals | [] => List.replicate (s.svNch m.set) 0
    (m.seq = (s.lane l).seq →
      (m.typ = 1 → s.wdn.join ≠ some m.idx → Answers (.laneBoundary l true) s (fun t => took t ∧ (t.lane l).bnd = some m.idx)) ∧
      (m.typ = 2 → m.gen = s.viGen (s.svOwner m.set) → Answers (.lanePrediction l true) s (fun t => took t ∧
        (t.lane l).preds = mapPut (s.lane l).preds m.set ((m.idx, m.pay) :: (mapGet (s.lane l).preds m.set []).take 15))) ∧
      (m.typ = 3 → m.gen = s.viGen (s.svOwner m.set) → Answers (.laneSample l true) s (fun t => took t ∧
        (t.lane l).setOf m.set m.idx = some { key := m.idx, vals := (List.range (m.pay.length / 2)).map (fun c => nth m.pay (2 * c) 0)
                                              quals := (List.range (m.pay.length / 2)).map (fun c => nth m.pay (2 * c + 1) 0), subst := false })) ∧
      (m.typ = 4 → Answers (.laneMod l true) s (fun t => took t ∧ (mapGet (t.lane l).mods m.set []).lookup m.idx = some m.pay)) ∧
      (m.typ = 5 → m.gen = s.viGen (s.fld (R.ING_GO2 m.set) 27 16) → Answers (.laneGoose l true) s (fun t => took t ∧
        (mapGet (t.lane l).go m.set []).head? =
          some { idx := m.idx, alive := true, st := nth m.pay 0 0, sq := nth m.pay 1 0, len := nth m.pay 3 0, data := m.pay.drop 4 })) ∧
      (m.typ = 6 → m.gen = s.viGen (s.fld (R.ING_GO2 m.set) 27 16) → Answers (.laneGooseSup l true) s (fun t => took t ∧
        (mapGet (t.lane l).go m.set []).head? = some { (s.lane l).goAt m.set m.idx with idx := m.idx, alive := false })) ∧
      (m.typ = 7 → m.idx < 4294967296 → m.gen = s.viGen (s.svOwner m.set) → nth m.pay 0 0 = 3 + 256 → (s.lane l).setOf m.set m.idx = none → Answers (.laneGap l true) s (fun t =>
        took t ∧ (t.lane l).setOf m.set m.idx =
          some { key := m.idx, vals := hold, quals := List.replicate (s.svNch m.set) missQ, subst := true })) ∧
      (m.typ = 8 → m.gen = s.viGen m.set → s.frameTask l m = none → Answers (.laneFrame l true) s (fun t => took t ∧
        ∃ b, mapGet (t.lane l).inbox m.set [] = b ++ [(m.idx, m.bytes)]))) ∧
    (∀ ok, ok = false ∨ m.seq ≠ (s.lane l).seq →
      ∀ c ∈ [(1, Instr.laneBoundary l ok), (2, .lanePrediction l ok), (3, .laneSample l ok), (4, .laneMod l ok), (5, .laneGoose l ok), (6, .laneGooseSup l ok),
        (7, .laneGap l ok), (8, .laneFrame l ok)], m.typ = c.1 → Answers c.2 s (fun t =>
          t.link l = q ∧ (t.lane l).deaf = true ∧ t.bit (R.WDN_HEALTH (laneIx l)) 2 = true))

/-- R205, R207, R208, R210, R257, R261, R264: the scheduler's decisions, and the faults of a pair. -/
def Obligations.SchedulerAndTiles : Prop :=
  (∀ (s : State) (l : Lane) (p q : Nat) (e : Nat × Tok) (r : Run), s.choosePair l = some p → s.fastClk = true → (s.lane l).oldRes = none → q < 8 →
    (∀ h, q < h → h < 8 → ((s.lane l).heads h).any (fun e => s.inBudget l e.1) = false) →
    ((s.lane l).heads q).filter (fun e => s.inBudget l e.1) = [e] → (s.lane l).runOf e.2.rid = some r → Answers (.dispatchDecision l) s (fun t =>
      ((t.lane l).tile p).slot (((s.lane l).tile p).slot0.isSome) = some (s.fillSlot l r e.2).1 ∧ (t.lane l).lastPair = p ∧
      t.rd (R.SCH_DISPATCHED l) = (s.rd (R.SCH_DISPATCHED l) + 1) % 4294967296 ∧ Only (fun _ => true) [lanePart l] s t)) ∧
  (∀ (s : State) (l : Lane) (r : Run) (q : List Run), (s.lane l).held = r :: q → s.mayAlloc l r = true → s.fastClk = true →
    (s.lane l).oldRes = none → Answers (.heldCreate l) s (fun t =>
    (t.lane l).held = q ∧ (t.lane l).runs = (s.lane l).runs ++ [{ r with rid := (s.lane l).nextRid }] ∧ (t.lane l).nextRid = (s.lane l).nextRid + 1 ∧
    Only (fun _ => true) [lanePart l] s t)) ∧
  (∀ (s : State) (l : Lane) (v : Word), Answers (.descSelect l v) s (fun t =>
    t.rd (R.SCH_DESC_SEL l) = v.toNat % 65536 ∧
    (∀ j, j < 4 → t.rd (R.SCH_DESC l j) = nth (match (s.lane l).tokOf (v.toNat % 65536) with | some k => k.words | none => [0, 0, 0, 0]) j 0 % 4294967296) ∧
    Only (among [R.SCH_DESC_SEL l, R.SCH_DESC l 0, R.SCH_DESC l 1, R.SCH_DESC l 2, R.SCH_DESC l 3]) [] s t)) ∧
  (∀ (s : State) (l : Lane) (p : Pair) (b : Bool) (sl : SlotSt), s.fastClk = true → (s.lane l).oldRes = none → ((s.lane l).tile p).slot b = some sl → ((s.lane l).tile p).cur.isSome = true →
    Answers (.frameFillDone l p b) s (fun t =>
      (t.lane l).tile p = ((s.lane l).tile p).setSlot b (some { sl with filled := true }) ∧ Only (fun _ => true) [lanePart l] s t)) ∧
  (∀ (s : State) (l : Lane) (p : Pair) (b : Bool) (sl : SlotSt) (k : Tok) (r : Run), s.fastClk = true → (s.lane l).oldRes = none → ((s.lane l).tile p).slot b = some sl →
    ((s.lane l).tile p).cur = none → s.pairFailed l p = false → (s.lane l).tokOf sl.tok = some k → (s.lane l).runOf k.rid = some r →
    r.charge + 24 ≤ r.budget → Answers (.frameFillDone l p b) s (fun t =>
      (t.lane l).tile p = { ((s.lane l).tile p).setSlot b (some { sl with filled := true }) with
        cur := some b, v := [], k := [], pos := 0, calls := [], loops := [], ch := 24 } ∧
      (t.lane l).runOf r.rid = some { r with charge := r.charge + 24 } ∧ Only (fun _ => true) [lanePart l] s t)) ∧
  (∀ (s : State) (l : Lane) (p : Pair) (wb : Bool), s.pairFailed l p = false → Answers (.lockstepMismatch l (.tile p wb)) s (fun t =>
    t.pairFailed l p = true ∧ t.bit (R.FAB_EVENTS l) 0 = true ∧ t.bit (R.FAB_STATUS l) 0 = true ∧ t.bit (R.WDN_HEALTH (laneIx l)) 0 = true ∧
    (s.bit (R.FAB_STATUS l) 0 = false → t.fld (R.FAB_LS_TILE l) 7 0 = p.val ∧ t.bit (R.FAB_LS_TILE l) 8 = wb) ∧
    Only (among [R.FAB_STATUS l, R.FAB_EVENTS l, R.FAB_STOP_INDEX l, R.FAB_LS_TILE l, R.FAB_LS_INDEX l, R.FAB_LS_POS l, R.FAB_PAIR_FAIL l (p / 32),
      R.FAB_CAPACITY l, R.WDN_HEALTH (laneIx l)]) [lanePart l] s t)) ∧
  (∀ (s : State) (l : Lane) (p : Pair) (wb : Bool), s.pairFailed l p = true → Answers (.lockstepMismatch l (.tile p wb)) s (fun t => Only (fun _ => false) [] s t)) ∧
  (∀ (s : State) (l : Lane) (L : Slot) (step : Fin 8), s.bit (R.LPE_STATUS l) 0 = false → Answers (.lockstepMismatch l (.loop L step)) s (fun t =>
    t.bit (R.LPE_STATUS l) 0 = true ∧ t.rd (R.LPE_LS_INFO l) = L.val + step.val * 65536 ∧
    (∀ k, (s.lane l).steps.lookup L.val = some k → t.rd (R.LPE_LS_INDEX l) = k % 4294967296) ∧ t.bit (R.LPE_EVENTS l) 0 = true ∧
    t.bit (R.FAB_STATUS l) 0 = true ∧ t.bit (R.WDN_HEALTH (laneIx l)) 0 = true ∧
    Only (among [R.LPE_STATUS l, R.LPE_LS_INFO l, R.LPE_LS_INDEX l, R.LPE_EVENTS l, R.FAB_STATUS l, R.FAB_STOP_INDEX l, R.WDN_HEALTH (laneIx l)]) [lanePart l] s t)) ∧
  (∀ (s : State) (l : Lane) (p : Fin 16), (s.opt l).halt = false → Answers (.lockstepMismatch l (.optimiser p)) s (fun t =>
    (t.opt l).halt = true ∧ t.rd (R.OPT_LS_INFO l) % 65536 = p.val ∧ (∀ k, (s.opt l).run.map (·.1) = some k → t.rd (R.OPT_LS_INDEX l) = k % 4294967296) ∧
    t.bit (R.OPT_EVENTS l) 6 = true ∧ t.bit (R.FAB_STATUS l) 0 = true ∧ t.bit (R.WDN_HEALTH (laneIx l)) 0 = true ∧
    Only (among [R.OPT_LS_INFO l, R.OPT_LS_INDEX l, R.OPT_EVENTS l, R.FAB_STATUS l, R.FAB_STOP_INDEX l, R.WDN_HEALTH (laneIx l)]) [lanePart l] s t)) ∧
  (∀ (s : State) (l : Lane) (e : Fin 2048), s.bit (R.NRG_STATUS l) 0 = false → Answers (.lockstepMismatch l (.energy e)) s (fun t =>
    t.bit (R.NRG_STATUS l) 0 = true ∧ t.rd (R.NRG_LS_INFO l) = e.val ∧ (∀ k, (s.pt l e).next = some k → t.rd (R.NRG_LS_INDEX l) = k % 4294967296) ∧
    t.bit (R.NRG_EVENTS l) 7 = true ∧ t.bit (R.FAB_STATUS l) 0 = true ∧ t.bit (R.WDN_HEALTH (laneIx l)) 0 = true ∧
    Only (among [R.NRG_STATUS l, R.NRG_LS_INFO l, R.NRG_LS_INDEX l, R.NRG_EVENTS l, R.FAB_STATUS l, R.FAB_STOP_INDEX l, R.WDN_HEALTH (laneIx l)]) [lanePart l] s t)) ∧
  (∀ (s : State) (l : Lane) (x : EccSrc), Answers (.eccUncorrectable l x) s (fun t =>
    t.fld (R.FAB_ECC_COUNT l) 31 16 = min 65535 (s.fld (R.FAB_ECC_COUNT l) 31 16 + 1) ∧ t.bit (R.FAB_EVENTS l) 1 = true ∧
    t.bit (R.FAB_EVENTS l) 0 = (s.bit (R.FAB_EVENTS l) 0 || match x with | .store p | .lpddr p => !s.pairFailed l p) ∧
    t.bit (R.WDN_HEALTH (laneIx l)) 1 = true ∧ t.bit (R.FAB_STATUS l) 0 = true ∧
    (∀ p, x = .store p ∨ x = .lpddr p → t.pairFailed l p = true) ∧ Only (fun _ => true) [lanePart l] s t))

/-- R291, R362, R363: the step exchange between the lanes, and finish reports. -/
def Obligations.StepExchange : Prop :=
  (∀ (s : State) (l : Lane) (x : StepX) (q : List StepX), s.xl.xq = x :: q → s.standby = some l → (s.lane l).bndWait.contains x.k = true →
    Answers (.stepExchangeRx true) s (fun t => (t.lane l).bndWait = (s.lane l).bndWait.filter (· != x.k) ∧ Only (fun _ => true) laneParts s t)) ∧
  (∀ (s : State) (l : Lane) (x : StepX) (q : List StepX), s.xl.xq = x :: q → s.standby = some l → Answers (.stepExchangeRx false) s (fun t =>
    t.xl = { s.xl with xq := q } ∧ t.bit (R.WDN_HEALTH (laneIx l)) 4 = true ∧ Only (among [R.WDN_HEALTH (laneIx l)]) [.xl] s t)) ∧
  (∀ (s : State) (k t0 : Nat) (q : List (Nat × Nat)), s.xl.acks = (k, t0) :: q → Answers (.stepAckRx true) s (fun t =>
    t.xl = { s.xl with acks := q } ∧ t.fld R.WDN_SKEW 15 0 = min 65535 (s.now - t0 - 600) ∧
    t.fld R.WDN_SKEW_CREST 15 0 = max (s.fld R.WDN_SKEW_CREST 15 0) (min 65535 (s.now - t0 - 600)) ∧
    (∀ l, s.standby = some l → 2000 < s.now - t0 - 600 → t.bit (R.WDN_HEALTH (laneIx l)) 5 = true) ∧
    Only (among [R.WDN_SKEW, R.WDN_SKEW_CREST, R.WDN_HEALTH 0, R.WDN_HEALTH 1]) [.xl] s t)) ∧
  (∀ (s : State) (k t0 : Nat) (q : List (Nat × Nat)), s.xl.acks = (k, t0) :: q → Answers (.stepAckRx false) s (fun t =>
    t.xl = { s.xl with acks := q } ∧ Only (fun _ => false) [.xl] s t)) ∧
  (∀ (s : State) (l : Lane), s.standby = some l → (s.lane l).bndWait ≠ [] → Answers .stepExchangeTimeout s (fun t =>
    t.bit (R.WDN_HEALTH (laneIx l)) 4 = true ∧ Only (among [R.WDN_HEALTH (laneIx l)]) [] s t)) ∧
  (∀ s : State, (∀ l, s.standby = some l → (s.lane l).bndWait = []) → Answers .stepExchangeTimeout s (fun t => Only (fun _ => false) [] s t)) ∧
  (∀ (s : State) (r : OptReport) (q : List OptReport), s.xl.repA = r :: q → Answers (.finishReportRx .a true) s (fun t =>
    t.xl = { s.xl with repA := q } ∧ t.laneA.opt = { s.laneA.opt with other := some r } ∧ Only (fun _ => false) [.xl, .laneA] s t)) ∧
  (∀ (s : State) (r : OptReport) (q : List OptReport), s.xl.repB = r :: q → Answers (.finishReportRx .b true) s (fun t =>
    t.xl = { s.xl with repB := q } ∧ t.laneB.opt = { s.laneB.opt with other := some r } ∧ Only (fun _ => false) [.xl, .laneB] s t))

/-- R236, R239, R243 to R248, R251, R252: messages on the release links, in a sluice that compares the lanes and still waits for
the other lane's record. -/
def Obligations.SluiceMessages : Prop :=
  (∀ (s : State) (l : Lane) (m : RMsg) (q : List RMsg), SluFront s l 1 m q → m.vi < 4096 → Answers (.sluProvRx l true) s (fun t =>
    SluTaken s t l m q ∧ t.slu.provs = (l, m.vi, m.idx, m.items) :: s.slu.provs.filter (fun p => !provOf l m p) ∧
    (s.isSource l = true → t.rd (R.SLU_VI_SPEC0 m.vi) = (s.rd (R.SLU_VI_SPEC0 m.vi) + 1) % 4294967296 ∧
      t.rd R.SLU_SPEC_RUNS = (s.rd R.SLU_SPEC_RUNS + 1) % 4294967296) ∧
    Only (among [R.SLU_VI_SPEC0 m.vi, R.SLU_SPEC_RUNS, R.SLU_NO_TPL, R.SLU_EVENTS]) [lanePart l, .slu] s t)) ∧
  (∀ (s : State) (l : Lane) (m : RMsg) (q : List RMsg), SluFront s l 2 m q → s.compared m.idx = true →
    (∀ r ∈ s.slu.recs, r.vi = m.vi → r.idx = m.idx → r.lane = l) → Answers (.sluFinalRx l true) s (fun t =>
      SluTaken s t l m q ∧
      (∃ r, t.slu.recs = s.slu.recs ++ [r] ∧ r.lane = l ∧ r.vi = m.vi ∧ r.idx = m.idx ∧ r.none = false ∧ r.items = m.items ∧
        r.digest = m.digest ∧ r.done = decide (s.srcFor m.idx = some l)) ∧
      (s.srcFor m.idx = some l →
        (∀ n ∈ s.tplsOf m.vi, slotPub m.items (s.fld (R.SLU_TPL0 n) 19 16) = true → laterThan m.idx (s.tplRt n).last = true →
          (t.tplRt n).last = some m.idx ∧ t.rd (R.SLU_TPL_STAT0 n) = m.idx % 4294967296) ∧
        (∀ p ∈ m.items, bitsOf p.1 18 16 = 4 → laterThan m.idx (s.doutLast m.vi (bitsOf p.1 15 4 % 16)) = true →
          t.doutLast m.vi (bitsOf p.1 15 4 % 16) = some m.idx)))) ∧
  (∀ (s : State) (l : Lane) (m : RMsg) (q : List RMsg) (items : List (Nat × Nat)), SluFront s l 3 m q → s.compared m.idx = true → m.vi < 4096 →
    s.slu.provs.find? (provOf l m) = some (l, m.vi, m.idx, items) → (∀ r ∈ s.slu.recs, r.vi = m.vi → r.idx = m.idx → r.lane = l) →
    Answers (.sluConfirmRx l true) s (fun t =>
      SluTaken s t l m q ∧ t.slu.provs = s.slu.provs.filter (· != (l, m.vi, m.idx, items)) ∧
      (∃ r, t.slu.recs = s.slu.recs ++ [r] ∧ r.lane = l ∧ r.vi = m.vi ∧ r.idx = m.idx ∧ r.none = false ∧ r.items = items ∧
        r.digest = m.digest ∧ r.done = decide (s.srcFor m.idx = some l)) ∧
      (s.isSource l = true → t.rd R.SLU_SPEC_CONFIRMS = (s.rd R.SLU_SPEC_CONFIRMS + 1) % 4294967296 ∧
        t.rd (R.SLU_VI_SPEC1 m.vi) = (s.rd (R.SLU_VI_SPEC1 m.vi) + 1) % 4294967296))) ∧
  (∀ (s : State) (l : Lane) (m : RMsg) (q : List RMsg), SluFront s l 4 m q → m.vi < 4096 → 1 ≤ nth m.stat 0 0 → nth m.stat 0 0 ≤ 6 →
    Answers (.sluSquashRx l true) s (fun t =>
      SluTaken s t l m q ∧ t.slu.provs = s.slu.provs.filter (fun p => !provOf l m p) ∧ t.slu.recs = s.slu.recs ∧
      (s.isSource l = true → t.rd R.SLU_SPEC_SQUASHES = (s.rd R.SLU_SPEC_SQUASHES + 1) % 4294967296 ∧
        t.rd (R.SLU_VI_SPEC6 m.vi) = m.idx % 4294967296) ∧
      Only (among [R.SLU_SPEC_SQUASHES, R.SLU_VI_SPEC2 m.vi, R.SLU_VI_SPEC3 m.vi, R.SLU_VI_SPEC4 m.vi, R.SLU_VI_SPEC6 m.vi, R.SLU_VI_SPEC7 m.vi])
        [lanePart l, .slu] s t)) ∧
  (∀ (s : State) (l : Lane) (m : RMsg) (q : List RMsg), SluFront s l 5 m q → s.compared m.idx = true →
    (∀ r ∈ s.slu.recs, r.vi = m.vi → r.idx = m.idx → r.lane = l) → Answers (.sluNoneRx l true) s (fun t =>
      SluTaken s t l m q ∧ t.slu.provs = s.slu.provs.filter (fun p => !provOf l m p) ∧
      t.slu.recs = s.slu.recs ++ [{ lane := l, vi := m.vi, idx := m.idx, gen := m.gen, none := true, items := [], digest := 0, bufs := [],
                                    done := decide (s.srcFor m.idx = some l) }] ∧
      Only (fun _ => false) [lanePart l, .slu] s t)) ∧
  (∀ (s : State) (l : Lane) (m : RMsg) (q : List RMsg), SluFront s l 6 m q → s.slu.nextCfg = none → Answers (.sluDoneRx l true) s (fun t =>
    SluTaken s t l m q ∧ t.rd (R.SLU_DONE (laneIx l)) = m.idx % 4294967296 ∧ t.sluDone l = true ∧
    Only (among [R.SLU_DONE (laneIx l)]) [lanePart l, .slu] s t)) ∧
  (∀ (s : State) (l : Lane) (m : RMsg) (q : List RMsg), SluFront s l 7 m q → l ≠ s.srcLane ∨ s.silent = true → Answers (.sluLaneStopRx l true) s (fun t =>
    (t.lane l).rel = q ∧ t.sluStopped l = true ∧ t.comparing l = false ∧ t.armed = false ∧ t.srcLane = s.srcLane ∧ t.silent = s.silent ∧
    Only (among [R.SLU_STATUS]) [lanePart l, .slu] s t)) ∧
  (∀ (s : State) (l : Lane) (m : RMsg) (q : List RMsg), SluFront s l 7 m q → l = s.srcLane → s.silent = false → s.armed = true →
    Answers (.sluLaneStopRx l true) s (fun t =>
      (t.lane l).rel = q ∧ t.sluStopped l = true ∧ t.srcLane = otherLane l ∧ t.armed = false ∧ t.silent = false ∧
      t.rd R.SLU_STOP_INDEX = m.idx % 4294967296 ∧ t.rd R.SLU_TAKEOVERS = min 4294967295 (s.rd R.SLU_TAKEOVERS + 1) ∧
      t.bit R.SLU_EVENTS 0 = true ∧ t.rd R.WDN_LAST_INDEX = m.idx % 4294967296 ∧
      t.rd R.WDN_SWITCHES = min 4294967295 (s.rd R.WDN_SWITCHES + 1))) ∧
  (∀ (s : State) (l : Lane) (m : RMsg) (q : List RMsg), SluFront s l 7 m q → l = s.srcLane → s.silent = false → s.armed = false →
    Answers (.sluLaneStopRx l true) s (fun t =>
      (t.lane l).rel = q ∧ t.sluStopped l = true ∧ t.silent = true ∧ t.armed = false ∧ t.bit R.SLU_STATUS 3 = false ∧
      t.pwr.doutPins = 0 ∧ t.pwr.doutArm = false ∧ t.rd R.SLU_STOP_INDEX = m.idx % 4294967296 ∧ t.bit R.SLU_EVENTS 2 = true ∧
      Only (among [R.SLU_STATUS, R.SLU_STOP_INDEX, R.SLU_EVENTS]) [lanePart l, .slu, .pwr] s t)) ∧
  (∀ (s : State) (l : Lane) (m : RMsg) (q : List RMsg), SluFront s l 8 m q → l = s.srcLane →
    s.rcd.lastTrig = none ∨ (∃ k, s.rcd.lastTrig = some k ∧ idxLater m.idx k = true) → s.trigSilent = false → Answers (.sluTrigRx l true) s (fun t =>
      SluTaken s t l m q ∧ t.rcd = { s.rcd with lastTrig := some m.idx } ∧ t.pwr.trigOut = s.pwr.trigOut ||| (m.pay % 16) ∧
      Only (fun _ => false) [lanePart l, .slu, .rcd, .pwr, .out] s t)) ∧
  (∀ (s : State) (l : Lane) (m : RMsg) (q : List RMsg), SluFront s l m.typ m q →
    ∀ c ∈ [(.sluProvRx l false, 1), (.sluFinalRx l false, 2), (.sluConfirmRx l false, 3), (.sluSquashRx l false, 4), (.sluNoneRx l false, 5),
      (.sluDoneRx l false, 6), (.sluLaneStopRx l false, 7), ((.sluTrigRx l false : Instr), 8)], m.typ = c.2 → Answers c.1 s (fun t =>
        (t.lane l).rel = q ∧ t.sluStopped l = true ∧ t.bit R.SLU_EVENTS 4 = true ∧ t.bit (R.WDN_HEALTH (laneIx l)) 3 = true))

/-- R247, R248, R252: retransmissions of a GOOSE template, the minimum time of a line, and the comparison's window and latch. -/
def Obligations.SluiceCommands : Prop :=
  (∀ (s : State) (n : Tpl) (e : Nat) (b : Bytes), (s.tplRt n).retx = some e → (s.tplRt n).rel = some b →
    let sq := if s.rd (R.SLU_TPL_STAT2 n) = 4294967295 then 1 else s.rd (R.SLU_TPL_STAT2 n) + 1
    let gap := if e = 0 then s.tMin n else min e (s.tMax n)
    Answers (.gooseRetransmit n) s (fun t =>
      t.rd (R.SLU_TPL_STAT2 n) = sq % 4294967296 ∧
      t.slu = { s.slu with tpl := mapPut s.slu.tpl n.val { s.tplRt n with
        rel := some (s.gooseStamp n (s.rd (R.SLU_TPL_STAT1 n)) sq (2 * gap) b), retx := some (min (e + gap) (2 * s.tMax n)) } })) ∧
  (∀ (s : State) (n : Tpl), (s.tplRt n).retx = none ∨ (s.tplRt n).rel = none → Answers (.gooseRetransmit n) s (Only (fun _ => false) [] s)) ∧
  (∀ (s : State) (n : Fin 16), Answers (.doutMinOnEnd n) s (fun t =>
    t.slu = { s.slu with minOn := s.slu.minOn.filter (· != n.val) } ∧
    (∀ m, m < 16 → t.pwr.doutPins.testBit m = (s.bit R.SLU_STATUS 3 && (s.fld R.PCM_STATUS 2 0 == 2 || s.fld R.PCM_STATUS 2 0 == 4) &&
      s.bit (R.SLU_DOUT_CFG m) 0 && (s.bit R.SLU_DOUT_STATE m || t.slu.minOn.contains m))) ∧
    Only (fun _ => false) [.slu, .pwr] s t)) ∧
  (∀ (s : State) (l : Lane) (v : Vi) (k : Word) (r : SluRec), s.slu.recs.find? (fun r => r.lane == l && r.vi == v.val && r.idx == k.toNat) = some r →
    s.compared k.toNat = true → Answers (.cmpWindowExpire l v k) s (fun t =>
      t.slu.recs = s.slu.recs.filter (fun q => !(q == r && q.done)) ∧ t.slu.divLatched = true ∧
      t.rd R.SLU_DIV_COUNT = min 4294967295 (s.rd R.SLU_DIV_COUNT + 1) ∧ t.bit R.SLU_EVENTS 3 = true ∧
      (s.slu.divLatched = false → t.rd R.SLU_DIV_INFO = v.val + 3 * 1048576 ∧ t.rd R.SLU_DIV_INDEX = k.toNat) ∧
      (s.slu.divLatched = true → t.rd R.SLU_DIV_INFO = s.rd R.SLU_DIV_INFO ∧ t.rd R.SLU_DIV_INDEX = s.rd R.SLU_DIV_INDEX) ∧
      Only (among [R.SLU_DIV_COUNT, R.SLU_EVENTS, R.SLU_DIV_INFO, R.SLU_DIV_INDEX, R.WDN_HEALTH 0, R.WDN_HEALTH 1]) [.slu] s t)) ∧
  (∀ s : State, Answers .divRearm s (fun t => t.slu = { s.slu with divLatched := false } ∧ Only (fun _ => false) [.slu] s t))

/-- R10: commands of the engines and the recorders wait for the next boundary, where both lanes take them. -/
def Obligations.BoundaryCommands : Prop :=
  ∀ (s : State) (e : Fin 64) (k : Task) (u : RecUnit) (b : Fin 8), ∀ c ∈ ([(.traceTrig, .traceTrig), (.traceArm, .traceArm), (.solve, .solve),
    (.publish, .publish), (.optAbort, .abort), (.cold, .cold), (.cpeEvent e, .event e), (.cpeRestart k, .restart k), (.maxdemClear, .maxdemClear),
    (.recArm u, .recCmd 1 u 0), (.recTrigger, .recCmd 2 0 0), (.recStop u, .recCmd 3 u 0), (.recDiscard u b, .recCmd 4 u b),
    (.recRelease u b, .recCmd 5 u b), (.recExport u b, .recCmd 6 u b), (.recDisarm u, .recCmd 7 u 0)] : List (Instr × LaneCmd)),
    Answers c.1 s (fun t => t.xl = { s.xl with cmds := s.xl.cmds ++ [c.2] } ∧ Only (fun _ => false) [.xl] s t)

/-- R282, R285, R286, R289, R292, R300, R306, R312, R327, R345 to R348: what the commands of a boundary k do in a lane, and to the
capture units and records of it. -/
def Obligations.BoundaryCommandEffects : Prop :=
  (∀ (s : State) (l : Lane) (k c : Nat), c < 16 → let t := s.cmdApply l k .traceTrig
    let hit := s.bit (R.LPE_TR_SEL l) c && s.bit (R.LPE_TR0 l c) 0 && !s.bit (R.LPE_TR2 l c) 30
    t.bit (R.LPE_TR2 l c) 30 = (s.bit (R.LPE_TR2 l c) 30 || hit) ∧ t.rd (R.LPE_TR3 l c) = (if hit then k % 4294967296 else s.rd (R.LPE_TR3 l c)) ∧
    t.fld (R.LPE_TR2 l c) 29 16 = (if hit then s.fld (R.LPE_TR2 l c) 13 0 else s.fld (R.LPE_TR2 l c) 29 16)) ∧
  (∀ (s : State) (l : Lane) (k c : Nat), c < 16 → s.bit (R.LPE_TR_SEL l) c = true → let t := s.cmdApply l k .traceArm
    t.bit (R.LPE_TR2 l c) 30 = false ∧ t.bit (R.LPE_TR2 l c) 31 = false ∧ t.fld (R.LPE_TR2 l c) 13 0 = s.fld (R.LPE_TR2 l c) 13 0) ∧
  (∀ (s : State) (l : Lane) (k : Nat), (s.cmdApply l k .publish).opt l = { s.opt l with
    pub := some (s.rds (R.OPT_Q_STAGE l 0) (s.optN l), s.rds (R.OPT_L_STAGE l 0) (s.optM l), s.rds (R.OPT_U_STAGE l 0) (s.optM l)) }) ∧
  (∀ (s : State) (l : Lane) (k : Nat), (s.cmdApply l k .cold).bit (R.OPT_STATUS l) 9 = false ∧
    ∀ q, q ≠ R.OPT_STATUS l → (s.cmdApply l k .cold).rd q = s.rd q) ∧
  (∀ (s : State) (l : Lane) (k : Nat), s.bit (R.OPT_CFG l) 0 = true → s.optState l = 0 → let t := s.cmdApply l k .solve
    t.optState l = 1 ∧ t.rd (R.OPT_START_INDEX l) = k % 4294967296 ∧
    (t.opt l).run = some (k, ((s.opt l).pub.getD (s.optDefaults l)).1, ((s.opt l).pub.getD (s.optDefaults l)).2.1, ((s.opt l).pub.getD (s.optDefaults l)).2.2)) ∧
  (∀ (s : State) (l : Lane) (k : Nat), s.bit (R.OPT_CFG l) 0 = true → s.optState l = 1 ∨ s.optState l = 2 → let t := s.cmdApply l k .solve
    t.optState l = s.optState l ∧ t.bit (R.OPT_STATUS l) 10 = true ∧ t.opt l = { s.opt l with held := true }) ∧
  (∀ (s : State) (l : Lane) (k : Nat), s.optState l = 1 ∨ s.optState l = 2 → let t := s.cmdApply l k .abort
    t.optState l = 0 ∧ t.fld (R.OPT_STATUS l) 7 4 = 6 ∧ t.bit (R.OPT_STATUS l) 10 = false ∧ t.bit (R.OPT_EVENTS l) 5 = true ∧ (t.opt l).run = none ∧
    (t.opt l).own = none ∧ (t.opt l).held = false ∧ (t.opt l).pub = (s.opt l).pub) ∧
  (∀ (s : State) (l : Lane) (k e : Nat), s.bit (R.CPE_EV0 l e) 0 = true → s.fld (R.CPE_EV0 l e) 27 24 = 3 → s.programsRun l = true →
    (mapGet (s.lane l).evq e []).length < max 1 (s.fld (R.CPE_EV0 l e) 30 28) →
    mapGet ((s.cmdApply l k (.event e)).lane l).evq e [] = mapGet (s.lane l).evq e [] ++ [k]) ∧
  (∀ (s : State) (l : Lane) (k x : Nat), x < 32 → s.bit (R.CPE_TASK0 l x) 0 = true → let t := s.cmdApply l k (.restart x)
    t.fld (R.CPE_TSTAT0 l x) 1 0 = (if s.programsRun l then 1 else 2) ∧ t.fld (R.CPE_TSTAT0 l x) 15 8 = 0 ∧ (t.task l x).first = true ∧
    (t.task l x).cd = s.fld (R.CPE_TASK_PHASE l x) 17 0 ∧ (t.task l x).cycle = (s.task l x).cycle) ∧
  (∀ (s : State) (l : Lane) (k e : Nat), e ∈ s.ptsOn l → (s.cmdApply l k .maxdemClear).rd (R.NRG_PT_MAXDEM l e) = 0) ∧
  (∀ (s : State) (l : Lane) (b code : Nat), let t := s.optTransfer l b code
    t.optState l = 0 ∧ (t.opt l).run = none ∧ (t.opt l).own = none ∧ (t.opt l).other = none ∧
    (code = 1 → (∃ r, (s.opt l).own = some r ∧ r.code = 1) → t.bit (R.OPT_EVENTS l) 0 = true ∧ t.rd (R.OPT_XFER_INDEX l) = b % 4294967296 ∧
      t.rd (R.OPT_SOLVES l) = (s.rd (R.OPT_SOLVES l) + 1) % 4294967296) ∧
    (code ≠ 1 → t.bit (R.OPT_EVENTS l) 1 = true ∧ t.rd (R.OPT_FAILS l) = min 4294967295 (s.rd (R.OPT_FAILS l) + 1))) ∧
  (∀ (s : State) (l : Lane) (k u : Nat), u < 16 → s.unitEn l u = true → s.unitState l u = 0 ∨ s.unitState l u = 5 → let t := s.cmdApply l k (.recCmd 1 u 0)
    (t.unitState l u = 2 ∧ (t.unit l u).next = some k ∧ ∃ r ∈ (t.recL l).recs, r.unit = u ∧ r.complete = false) ∨
    (t.unitState l u = 1 ∧ t.bit (R.REC_EVENTS l) 3 = true ∧ (t.recL l).recs = (s.recL l).recs)) ∧
  (∀ (s : State) (l : Lane) (k u v : Nat), (s.cmdApply l k (.recCmd 2 u v)).recL l =
    { s.recL l with ext := (s.recL l).ext ++ [(k, 0, s.fld (R.REC_TRIG_SEL l) 15 0)] }) ∧
  (∀ (s : State) (l : Lane) (k u v : Nat), (s.recL l).trigNext = none →
    ((s.cmdApply l k (.recCmd 3 u v)).unit l u) = { s.unit l u with stop := some (idxSub k 1) }) ∧
  (∀ (s : State) (l : Lane) (k u b : Nat) (r : RecRt), u < 16 → b < 8 → s.recAt l u b = some r → r.complete = true → let t := s.cmdApply l k (.recCmd 4 u b)
    t.bit (R.REC_STATUS l) 8 = true ∧ (t.recL l).recs = (s.recL l).recs) ∧
  (∀ (s : State) (l : Lane) (k u b : Nat) (r : RecRt), u < 16 → b < 8 → s.recAt l u b = some r → r.complete = false →
    (s.cmdApply l k (.recCmd 4 u b)).recAt l u b = none) ∧
  (∀ (s : State) (l : Lane) (k u b : Nat) (r : RecRt), u < 16 → b < 8 → s.recAt l u b = some r → r.complete = true → s.rcd.exp ≠ some (u, b) →
    (s.cmdApply l k (.recCmd 5 u b)).recAt l u b = none ∧ ((s.cmdApply l k (.recCmd 5 u b)).recL l).freed = true) ∧
  (∀ (s : State) (l : Lane) (k u b : Nat) (r : RecRt), u < 16 → b < 8 → s.recAt l u b = some r → r.complete = true → s.rcd.exp = none → s.laneActive l = true →
    let t := s.cmdApply l k (.recCmd 6 u b)
    t.rcd.exp = some (u, b) ∧ t.bit (R.REC_STATUS l) 0 = true ∧ t.rd (R.REC_EXP_DONE l) = 0 ∧ t.recL l = s.recL l) ∧
  (∀ (s : State) (l : Lane) (k u v : Nat), s.unitState l u = 1 → (s.cmdApply l k (.recCmd 7 u v)).unitState l u = 5)

/-- R270 to R272, R280, R286, R288, R291: due slots, steps, and the solves of the optimiser. -/
def Obligations.LoopsAndSolves : Prop :=
  (∀ (s : State) (l : Lane) (L : Slot) (e : Nat × Nat × Bool), (s.lane l).sdue.find? (fun e => e.1 == L.val) = some e → Answers (.loopSlotDue l L) s (fun t =>
    (t.lane l).sdue = (s.lane l).sdue.erase e ∧ Only (fun _ => true) laneParts s t)) ∧
  (∀ (s : State) (l : Lane) (L : Slot) (e : Nat × Nat), s.bit (R.LPE_STATUS l) 0 = false → s.fastClk = true → s.nextStep l = some e → s.below e.2 = false →
    (s.unitSlots l e.1).contains L.val = true → Answers (.loopStep l L) s (fun t =>
    (t.lane l).busy = (s.lane l).busy + ((s.unitSlots l e.1).map (fun M => 60 + 28 * (s.stepN l M e.2 - 1))).sum + (if (s.slotGroup l L).isSome then 8 else 0) ∧
    Only (fun _ => true) laneParts s t)) ∧
  (∀ (s : State) (l : Lane) (L : Slot), Answers (.loopStep l L) s (Only (fun _ => true) laneParts s)) ∧
  (∀ (s : State) (l : Lane) (k : Nat), (s.opt l).due = some k → s.bit (R.OPT_CFG l) 0 = true → s.optState l = 0 → (s.opt l).held = false →
    Answers (.solveTimerDue l) s (fun t =>
      t.optState l = 1 ∧ t.rd (R.OPT_START_INDEX l) = k % 4294967296 ∧ (t.opt l).due = none ∧
      (t.opt l).run = some (k, ((s.opt l).pub.getD (s.optDefaults l)).1, ((s.opt l).pub.getD (s.optDefaults l)).2.1, ((s.opt l).pub.getD (s.optDefaults l)).2.2) ∧
      Only (among [R.OPT_STATUS l, R.OPT_START_INDEX l]) [lanePart l] s t)) ∧
  (∀ (s : State) (l : Lane) (k : Nat), (s.opt l).due = some k → s.bit (R.OPT_CFG l) 0 = true → s.optState l = 1 ∨ s.optState l = 2 →
    Answers (.solveTimerDue l) s (fun t =>
      t.opt l = { s.opt l with due := none } ∧ t.rd (R.OPT_OVERRUNS l) = min 4294967295 (s.rd (R.OPT_OVERRUNS l) + 1) ∧ t.bit (R.OPT_EVENTS l) 2 = true ∧
      Only (among [R.OPT_OVERRUNS l, R.OPT_EVENTS l]) [lanePart l] s t)) ∧
  (∀ (s : State) (l : Lane) (r : Nat × List Nat × List Nat × List Nat), (s.opt l).run = some r → (s.opt l).factor.isSome = true → (s.lane l).gj = none →
    (s.opt l).halt = false → (s.opt l).discard = false → Answers (.solveEnd l) s (fun t =>
      t.optState l = 2 ∧ (t.opt l).run = none ∧ (∃ p, (t.opt l).own = some p ∧ t.fld (R.OPT_STATUS l) 7 4 = p.code % 16 ∧
        t.rd (R.OPT_ITER l) = p.iters % 4294967296 ∧ t.bit (R.OPT_STATUS l) 9 = (decide (p.code = 1) || decide (p.code = 2)) ∧
        (l = .a → t.xl = { s.xl with repB := s.xl.repB ++ [p] }) ∧ (l = .b → t.xl = { s.xl with repA := s.xl.repA ++ [p] })) ∧
      Only (fun _ => true) [lanePart l, .xl] s t)) ∧
  (∀ (s : State) (l : Lane) (r : Nat × List Nat × List Nat × List Nat), (s.opt l).run = some r → (s.opt l).factor.isSome = true → (s.lane l).gj = none →
    (s.opt l).halt = false → (s.opt l).discard = true → Answers (.solveEnd l) s (fun t =>
      t.optState l = 0 ∧ t.fld (R.OPT_STATUS l) 7 4 = 7 ∧ t.opt l = { s.opt l with run := none, discard := false } ∧
      Only (among [R.OPT_STATUS l]) [lanePart l] s t)) ∧
  (∀ (s : State) (l : Lane), (s.opt l).halt = true → Answers (.solveEnd l) s (Only (fun _ => false) [] s))

/-- R274, R275: the arithmetic of a step of a slot in automatic mode, outside a group, without a notch, that is not its first. -/
def Obligations.LoopStepArithmetic : Prop :=
  ∀ (s : State) (l : Lane) (L k : Nat), L < 1024 → (s.slotRt l L).first = false → (s.slotRt l L).changed = false → s.fld (R.LPE_SLOT0 l L) 27 26 = 0 →
    s.bit (R.LPE_SLOT_MODE l L) 0 = true → (s.slotPv l L k).1.2 = true →
    let t := s.slotStep l L k
    let f := fun (j : Nat) => s.s16 (R.LPE_SLOT_K l L j) 15 0
    let sh := fun (j : Nat) => ((2 ^ s.fld (R.LPE_SLOT_K l L j) 19 16 : Nat) : Int)
    let lo := s.s16 (R.LPE_SLOT_OUT_LIM l L) 15 0
    let hi := s.s16 (R.LPE_SLOT_OUT_LIM l L) 31 16
    let pv := (s.slotPv l L k).1.1
    let tgt := (s.slotPv l L k).2.slotTgt l L
    let prof := tgt.2.profile l L (s.stepN l L k) false pv tgt.1
    let sp := match scaleInt f64 prof.1 30 with | some i => clampI (-1073741824) 1073741823 i | none => 0
    let e := sp - pv * 32768
    let p := sat40 (rsh15 (f 0 * e) * sh 0)
    let dr := ((s.slotRt l L).pvPrev - pv) * 32768
    let df := sat40 ((s.slotRt l L).df + rsh15 (s.fld (R.LPE_SLOT_DF l L) 15 0 * (dr - (s.slotRt l L).df)))
    let d := sat40 (rsh15 (f 2 * df) * sh 2)
    let di := sat40 (s.stepN l L k * (rsh15 (f 1 * e) * sh 1))
    let i := s.slotI l L
    let ic := sat40 (i + di)
    let u := sat16 (rsh15 (sat40 (p + ic + d)))
    let uo := min (max u lo) hi
    let aw := s.bit (R.LPE_SLOT0 l L) 29
    (t.slotRt l L).df = df ∧ (t.slotRt l L).pvPrev = pv ∧ (t.slotRt l L).last = some k ∧
    t.s16 (R.LPE_SLOT_OUTREL l L) 15 0 = uo ∧ t.s16 (R.LPE_SLOT_OUTREL l L) 31 16 = uo ∧ t.s16 (R.LPE_SLOT_SPPV l L) 31 16 = pv ∧
    t.slotI l L = (if aw ∧ uo ≠ u then sat40 (uo * 32768 - p - d) else if !aw ∧ ((hi < u ∧ 0 < di) ∨ (u < lo ∧ di < 0)) then i else ic) ∧
    t.bit (R.LPE_SLOT_STATUS l L) 0 = decide (uo ≠ u) ∧ t.bit (R.LPE_SLOT_STATUS l L) 1 = false ∧ t.rd (R.LPE_SLOT_LAST l L) = k % 4294967296

/-- R299 to R306, R309, R310, R313: cyclic program tasks. -/
def Obligations.CyclicPrograms : Prop :=
  (∀ (s : State) (l : Lane) (x : Task) (e : Nat × Nat × Bool × Bool), (s.lane l).cdue.find? (fun e => !e.2.2.2) = some e → e.1 = x.val → e.2.2.1 = true →
    (s.lane l).gj = none → Answers (.cycleDue l x) s (fun t =>
      let n := min 255 (s.fld (R.CPE_TSTAT0 l x) 15 8 + 1)
      let lim := s.fld (R.CPE_TASK6 l x) 23 16
      (t.lane l).cdue = (s.lane l).cdue.erase e ∧ t.fld (R.CPE_TSTAT_CNT l x) 15 0 = min 65535 (s.fld (R.CPE_TSTAT_CNT l x) 15 0 + 1) ∧
      t.bit (R.CPE_EVENTS l) 0 = true ∧ t.fld (R.CPE_TSTAT0 l x) 15 8 = n ∧
      t.fld (R.CPE_TSTAT0 l x) 1 0 = (if lim ≠ 0 ∧ lim ≤ n then 3 else s.fld (R.CPE_TSTAT0 l x) 1 0) ∧ Only (fun _ => true) [lanePart l] s t)) ∧
  (∀ (s : State) (l : Lane) (x : Task) (k : Nat), (s.lane l).cdue = [(x.val, k, false, false)] → (s.lane l).gj = none → s.cycleReady l x k = true →
    s.below k = false → (s.lane l).cmds = [] → Answers (.cycleDue l x) s (fun t =>
      let bus := s.taskBus l x
      (t.lane l).cdue = [] ∧ (t.task l x).kc = some k ∧ (t.task l x).first = false ∧ (t.task l x).acc = [] ∧ (t.task l x).fin = none ∧
      (t.task l x).cycle = (if bus then idxAdd (s.task l x).cycle 1 else (s.task l x).cycle) ∧
      (t.task l x).latch = (if bus then some (idxAdd k (s.fld (R.CPE_TASK6 l x) 15 8)) else none) ∧ t.rd (R.CPE_TSTAT_KC l x) = k % 4294967296 ∧
      Only (fun _ => true) [lanePart l, .xl] s t)) ∧
  (∀ (s : State) (l : Lane) (x : Task) (k : Nat), (s.lane l).cdue = [(x.val, k, false, false)] → (s.lane l).gj = none →
    (s.cfgAt k).cycleReady l x k = true → Answers (.cycleDue l x) s (fun t =>
      (t.lane l).cdue = [] ∧ Only (fun _ => true) [lanePart l, .xl] s t)) ∧
  (∀ (s : State) (l : Lane) (x : Task) (k : Nat), (s.lane l).cdue = [(x.val, k, false, false)] → (s.lane l).gj = none →
    (s.cfgAt k).cycleReady l x k = false → Answers (.cycleDue l x) s (fun t =>
      (t.lane l).cdue = [(x.val, k, false, true)] ∧ Only (fun _ => true) [lanePart l] s t)) ∧
  (∀ (s : State) (l : Lane) (x : Task) (b k : Nat), (s.task l x).latch = some b → (s.lane l).bnd = some k → idxGe k b = true → Answers (.inputLatch l x) s (fun t =>
    (t.task l x).latch = none ∧ ((t.task l x).imgs.head?.map (fun i => (i.1, i.2.2))) = some (b, (s.task l x).acc.map (·.1)) ∧
    (∀ r ∈ (t.lane l).runs, r.kind = 1 → r.task = x.val → r.released = true) ∧ Only (fun _ => true) [lanePart l] s t)) ∧
  (∀ (s : State) (l : Lane) (k b : Nat) (pos : Option Nat) (run : Option Bool), (s.lane l).cmds = [(b, .mode pos run)] → (s.lane l).bnd = some k → idxGe k b = true →
    (∀ p, pos = some p → p < 4) → Answers (.modeChange l) s (fun t =>
      let p := pos.getD (s.fld (R.CPE_STATUS l) 1 0)
      let r := run.getD (s.bit (R.CPE_STATUS l) 3)
      t.fld (R.CPE_STATUS l) 1 0 = p ∧ t.bit (R.CPE_STATUS l) 2 = (decide (p = 2) || (decide (p = 3) && r)) ∧ t.bit (R.CPE_STATUS l) 3 = r ∧
      t.bit (R.CPE_EVENTS l) 5 = true ∧ t.rd (R.CPE_MODE_INDEX l) = b % 4294967296 ∧ (t.lane l).cmds = [] ∧
      Only (among [R.CPE_STATUS l, R.CPE_EVENTS l, R.CPE_MODE_INDEX l]) [lanePart l] s t)) ∧
  (∀ (s : State), s.cpeMode = 3 → Answers .cpeRun s (fun t =>
    t.xl = { s.xl with modes := s.xl.modes ++ [(s.now, .mode none (some true))] } ∧ Only (fun _ => false) [.xl] s t)) ∧
  (∀ (s : State), s.cpeMode = 3 → Answers .cpeHalt s (fun t =>
    t.xl = { s.xl with modes := s.xl.modes ++ [(s.now, .mode none (some false))] } ∧ Only (fun _ => false) [.xl] s t)) ∧
  (∀ (s : State) (v : Word), s.cpeMode = 1 → Answers (.pwDataWrite v) s (fun t =>
    t.xl = { s.xl with cmds := s.xl.cmds ++ [.pw v.toNat] } ∧ Only (fun _ => false) [.xl] s t)) ∧
  (∀ (s : State) (v : Word), ∀ c ∈ [(Instr.cpeRun, 3), (.cpeHalt, 3), (.pwDataWrite v, 1)], s.cpeMode ≠ c.2 → Answers c.1 s (fun t =>
    (∀ l, t.rd (R.CPE_REFUSED l) = min 4294967295 (s.rd (R.CPE_REFUSED l) + 1) ∧ t.bit (R.CPE_EVENTS l) 6 = true) ∧
    Only (among [R.CPE_REFUSED .a, R.CPE_REFUSED .b, R.CPE_EVENTS .a, R.CPE_EVENTS .b]) [] s t)) ∧
  (∀ (s : State) (x : Task) (ws : List Nat), s.xl.retPend.lookup x.val = some ws → Answers (.retainedSave x) s (fun t =>
    t.xl = { s.xl with retPend := mapDel s.xl.retPend x.val, retained := mapPut s.xl.retained x.val ((mapGet s.xl.retained x.val {}).write ws) } ∧
    Only (fun _ => false) [.xl] s t))

/-- R326, R330 to R332: demand ends, saves, and harmonic windows. -/
def Obligations.EnergyCommands : Prop :=
  (∀ s : State, Answers .demEnd s (fun t => t.ing = { s.ing with demForce := true } ∧ Only (fun _ => false) [.ing] s t)) ∧
  (∀ (s : State) (r : Nat × Nat × Nat), s.nrg.run = some r → Answers .nrgSave s (fun t =>
    t.nrg = { s.nrg with held := some (s.nrg.held.getD 2) } ∧ (∀ l, t.bit (R.NRG_SAVE_STATUS l) 4 = true) ∧
    Only (among [R.NRG_SAVE_STATUS .a, R.NRG_SAVE_STATUS .b]) [.nrg] s t)) ∧
  (∀ s : State, s.nrg.run = none → s.nrgA.dems = [] → s.nrgB.dems = [] → Answers .nrgSave s (fun t =>
    t.nrg = { s.nrg with run := some (idxAdd (s.rd R.ING_INDEX) 1, 2, s.opHours) } ∧ (∀ l, t.bit (R.NRG_SAVE_STATUS l) 0 = true) ∧
    Only (among [R.NRG_SAVE_STATUS .a, R.NRG_SAVE_STATUS .b, R.NRG_STATUS .a, R.NRG_STATUS .b]) [.nrg, .nrgA, .nrgB] s t)) ∧
  (∀ (s : State) (k : Nat), s.nrg.due = some k → s.nrg.run = none → s.nrgA.dems = [] → s.nrgB.dems = [] → Answers .energySaveDue s (fun t =>
    t.nrg = { s.nrg with due := none, run := some (k, 1, s.opHours) } ∧ (∀ l, t.bit (R.NRG_SAVE_STATUS l) 0 = true) ∧
    Only (among [R.NRG_SAVE_STATUS .a, R.NRG_SAVE_STATUS .b, R.NRG_STATUS .a, R.NRG_STATUS .b]) [.nrg, .nrgA, .nrgB] s t)) ∧
  (∀ (s : State) (k : Nat) (r : Nat × Nat × Nat), s.nrg.due = some k → s.nrg.run = some r → Answers .energySaveDue s (fun t =>
    t.nrg = { s.nrg with due := none, held := some (s.nrg.held.getD 1) } ∧ (∀ l, t.bit (R.NRG_SAVE_STATUS l) 4 = true) ∧
    Only (among [R.NRG_SAVE_STATUS .a, R.NRG_SAVE_STATUS .b]) [.nrg] s t)) ∧
  (∀ (s : State) (sv cause hours : Nat) (recs : List (Nat × List Nat)), s.nrg.run = some (sv, cause, hours) → s.snapOf s.activeLane sv = some recs →
    s.nrg.held = none → (s.lanesCompared = true → (s.snapOther sv).isSome = true) → Answers .energySaveCommit s (fun t =>
      t.nrg = { s.nrg with banks := s.nrg.banks.write { idx := sv, hours := hours, cause := cause, recs := recs.map (fun r => (r.1, some r.2)) }
                           measured := s.measuredPast sv, exc := s.nrg.exc.filter (fun x => idxGe x.2 sv), run := none } ∧
      (∀ l, t.rd (R.NRG_SAVE_INDEX l) = sv % 4294967296 ∧ t.rd (R.NRG_SAVE_COUNT l) = (s.rd (R.NRG_SAVE_COUNT l) + 1) % 4294967296 ∧
        t.bit (R.NRG_EVENTS l) 0 = true ∧ t.bit (R.NRG_SAVE_STATUS l) 0 = false ∧ t.fld (R.NRG_SAVE_STATUS l) 3 1 = 1))) ∧
  (∀ (s : State) (sv cause hours : Nat), s.nrg.run = some (sv, cause, hours) → s.nrg.held = none → Answers .energySaveFail s (fun t =>
    t.nrg = { s.nrg with run := none } ∧ Recorded 0x50 s t ∧ (∀ l, t.bit (R.NRG_EVENTS l) 1 = true ∧ t.bit (R.NRG_SAVE_STATUS l) 0 = false ∧
      t.fld (R.NRG_SAVE_STATUS l) 3 1 = 2) ∧
    Only (among [R.NRG_EVENTS .a, R.NRG_EVENTS .b, R.NRG_SAVE_STATUS .a, R.NRG_SAVE_STATUS .b, R.NRG_STATUS .a, R.NRG_STATUS .b]) [.nrg, .evt] s t)) ∧
  (∀ (s : State) (l : Lane) (a : Fin 64) (e k : Nat) (xs : List (List Nat)), (mapGet (s.nrgL l).ans a.val {}).full = some (e, k, xs) → Answers (.harmWindowDone l a) s (fun t =>
    (mapGet (t.nrgL l).ans a.val {}).full = none ∧ mapGet (mapGet (t.nrgL l).ans a.val {}).res 0x3028 0 = k ∧
    mapGet (mapGet (t.nrgL l).ans a.val {}).res 0x3024 0 = (mapGet (mapGet (s.nrgL l).ans a.val {}).res 0x3024 0 + 1) % 4294967296 ∧
    t.bit (R.NRG_EVENTS l) 6 = true ∧ Only (among [R.NRG_EVENTS l]) [match l with | .a => .nrgA | .b => .nrgB] s t))

/-- R341, R343, R346, R348, R349: frames, commits, exports, hold-offs, and the trigger pins. -/
def Obligations.RecordsAndTriggers : Prop :=
  (∀ (s : State) (l : Lane) (u : RecUnit) (r : RecRt) (k : Nat), s.recording l u = some r → (s.unit l u).next = some k → s.unitSettled l r.df k = true →
    Answers (.acqFrameWrite l u) s (fun t => (t.unit l u).next = some (idxAdd k 1) ∧
      Only (fun _ => true) [lanePart l, match l with | .a => .recA | .b => .recB] s t)) ∧
  (∀ (s : State) (l : Lane) (u : RecUnit) (r : RecRt), s.openRec l u = some r → r.endc ≠ 0 → r.buf < 8 → Answers (.recordCommit l u) s (fun t =>
    (∃ q, t.recAt l u r.buf = some q ∧ q.complete = true ∧ q.frames = r.frames ∧ q.endc = r.endc ∧ q.trig = r.trig) ∧
    t.bit (R.REC_EVENTS l) 1 = true ∧ t.unitState l u = (if !r.df.hold || !s.unitEn l u then 5 else 4))) ∧
  (∀ (s : State) (u b : Nat), u < 16 → b < 8 → s.rcd.exp = some (u, b) → s.rcd.expRelease = false → Answers .exportDone s (fun t =>
    t.rcd = { s.rcd with exp := none } ∧ t.bit (R.REC_STATUS s.expLane) 0 = false ∧
    (∀ r, s.recAt s.expLane u b = some r → t.bit (R.REC_EVENTS s.expLane) 4 = true ∧ t.rd (R.REC_EXP_DONE s.expLane) = (s.recStream r).length % 4294967296 ∨
      t.bit (R.REC_EVENTS s.expLane) 7 = true))) ∧
  (∀ (s : State) (l : Lane) (u : RecUnit), s.unitState l u = 4 → s.fld (R.REC_USTAT_HOLD l u) 23 0 = 0 → Answers (.holdoffDone l u) s (fun t =>
    (t.unitState l u = 2 ∨ t.unitState l u = 1) ∧ Only (fun _ => true) [match l with | .a => .recA | .b => .recB] s t)) ∧
  (∀ (s : State) (n : Fin 4), s.pwr.trigOut.testBit n = true → Answers (.trigOutPulseEnd n) s (fun t =>
    { t.pwr with alert := s.pwr.alert, phyRun := s.pwr.phyRun } = { s.pwr with trigOut := s.pwr.trigOut - 2 ^ n.val } ∧ t.pwr.trigOut.testBit n = false ∧
    t.out = .pin (n.val + 1) false :: s.out ∧ Only (fun _ => false) [.pwr, .out] s t)) ∧
  (∀ (s : State) (n : Fin 4) (rising : Bool), (rising && s.bit R.PCM_WAKE_EN n) = false → Answers (.trigInEdge n rising) s (fun t =>
    t.bit R.PCM_PINS (6 + n.val) = rising ∧ t.ing = { s.ing with trigIn := s.ing.trigIn ||| 2 ^ (n.val + if rising then 0 else 4) } ∧
    Only (among [R.PCM_PINS]) [.ing] s t)) ∧
  (∀ (s : State) (n : Fin 4), s.bit R.PCM_WAKE_EN n = true → s.power = 3 → Answers (.trigInEdge n true) s (fun t =>
    t.fld R.PCM_STATUS 2 0 = 5 ∧ t.bit R.PCM_WAKE_CAUSE n = true ∧ t.bit R.PCM_PINS (6 + n.val) = true))

/-- R353 to R359: the event recorder writes its queue, software writes events, and paths read records through their cursors. -/
def Obligations.EventRecorderCommands : Prop :=
  (∀ s : State, s.evt.queue = [] → Answers .eventRecordWrite s (Only (fun _ => false) [] s)) ∧
  (∀ (s : State) (it : EvtItem) (q : List EvtItem), s.evt.queue = it :: q → s.evt.lossSince = 0 → s.evt.ring = [] → s.snapRegs it.typ = [] →
    s.wdn.live = false → Answers .eventRecordWrite s (fun t =>
      t.evt.queue = q ∧ (∃ r, t.evt.ring = [r] ∧ r.valid = true ∧ r.seq = s.rd R.EVT_HEAD ∧
        r.words.take 15 = ([s.rd R.EVT_HEAD, it.typ + it.source * 65536, it.hours % 4294967296, it.hours / 4294967296, it.cycles] ++
          (it.time ++ [0, 0, 0]).take 3 ++ [0, it.hours % 4294967296, 0] ++ it.data ++ List.replicate 14 0).take 15) ∧
      t.rd R.EVT_HEAD = (s.rd R.EVT_HEAD + 1) % 4294967296 ∧ t.rd R.EVT_OLDEST = 0 ∧
      Only (among [R.EVT_HEAD, R.EVT_OLDEST]) [.evt] s t)) ∧
  (∀ (s : State) (it : EvtItem) (q : List EvtItem) (r : EvtRec) (rs : List EvtRec), s.evt.queue = it :: q → s.evt.lossSince = 0 →
    s.evt.ring = r :: rs → r.valid = true → nth r.words 1 0 = it.typ + it.source * 65536 → (r.words.drop 11).take 4 = it.data →
    nth r.words 10 0 = 0 → nth r.words 8 0 < 65535 → s.snapRegs it.typ = [] → idxAdd r.seq 1 = s.rd R.EVT_HEAD → s.wdn.live = false →
    Answers .eventRecordWrite s (fun t =>
      t.evt.queue = q ∧ t.evt.ring = { r with words := modAt (modAt r.words 8 (· + 1)) 9 (fun _ => it.hours % 4294967296) } :: rs ∧
      Only (fun _ => false) [.evt] s t)) ∧
  (∀ (s : State) (v : Word), v.toNat / 65536 = 0x4896 → Answers (.evtSwCmd v) s (fun t =>
    Recorded (0x100 + v.toNat % 256) s t ∧ Only (fun _ => false) [.evt] s t)) ∧
  (∀ (s : State) (v : Word), v.toNat / 65536 ≠ 0x4896 → Answers (.evtSwCmd v) s (Only (fun _ => false) [] s)) ∧
  (∀ (s : State) (p : Path) (v : Word), Answers (.cursorWrite p v) s (fun t =>
    t.pathGet p R.EVT_CURSOR = v.toNat ∧ t.curStatus p = s.pathGet p R.EVT_CUR_STATUS % 8 ∧
    (∀ o k, o ≠ p → t.pathGet o k = s.pathGet o k) ∧ Only (fun _ => false) [.paths] s t)) ∧
  (∀ (s : State) (p : Path), Answers (.cursorNext p) s (fun t =>
    t.pathGet p R.EVT_CURSOR = (s.pathGet p R.EVT_CURSOR + 1) % 4294967296 ∧ (∀ o k, o ≠ p → t.pathGet o k = s.pathGet o k) ∧
    Only (fun _ => false) [.paths] s t)) ∧
  (∀ (s : State) (p : Path), Answers (.cursorPrev p) s (fun t =>
    t.pathGet p R.EVT_CURSOR = (s.pathGet p R.EVT_CURSOR + 4294967295) % 4294967296 ∧ (∀ o k, o ≠ p → t.pathGet o k = s.pathGet o k) ∧
    Only (fun _ => false) [.paths] s t)) ∧
  (∀ (s : State) (p : Path) (r : EvtRec), s.evt.ring.find? (fun r => r.seq % 131072 == s.pathGet p R.EVT_CURSOR % 131072) = some r →
    r.valid = true → r.seq = s.pathGet p R.EVT_CURSOR → idxGe (s.pathGet p R.EVT_CURSOR) (s.rd R.EVT_HEAD) = false →
    idxLater s.evtOldest (s.pathGet p R.EVT_CURSOR) = false → r.words.length = 16 → Answers (.windowLatch p) s (fun t =>
      (∀ i, i < 16 → t.pathGet p (R.EVT_WIN i) = nth r.words i 0) ∧ t.curStatus p = 1 ∧
      t.out = .read p (R.EVT_WIN 0) (nth r.words 0 0) :: s.out ∧ Only (fun _ => false) [.paths, .out] s t)) ∧
  (∀ (s : State) (p : Path), s.evt.ring.find? (fun r => r.seq % 131072 == s.pathGet p R.EVT_CURSOR % 131072) = none →
    idxGe (s.pathGet p R.EVT_CURSOR) (s.rd R.EVT_HEAD) = true → Answers (.windowLatch p) s (fun t =>
      (∀ i, i < 16 → t.pathGet p (R.EVT_WIN i) = 0) ∧ t.curStatus p = 4 ∧ t.out = .read p (R.EVT_WIN 0) 0 :: s.out ∧
      Only (fun _ => false) [.paths, .out] s t))

/-- R369 to R371: the wardens' words, the voters, fencing and restart. -/
def Obligations.WardensAndVoters : Prop :=
  (∀ (s : State) (w : Warden) (i : Option (Warden × Bool)), s.unfenced w = true ∨ s.wdn.restarting.contains w.val = true → Answers (.wardenDecision w i) s (fun t =>
    (∃ f, t.wdn.words.lookup w.val = some { s.wdnWord with fence := f }) ∧ t.wdn.restarting = s.wdn.restarting ∧
    Only (among [R.WDN_WARDEN 0, R.WDN_WARDEN 1, R.WDN_WARDEN 2]) [.wdn, .evt] s t)) ∧
  (∀ (s : State) (w : Warden) (i : Option (Warden × Bool)), s.unfenced w = false → s.wdn.restarting.contains w.val = false →
    Answers (.wardenDecision w i) s (Only (fun _ => false) [] s)) ∧
  (∀ (s : State) (w u v : Warden) (clk : Bool) (x : WWord), w ≠ u → w ≠ v → u ≠ v → (∀ k : Warden, s.unfenced k = true) →
    s.wdn.words.lookup u.val = some x → x.fence.testBit v = true → (∀ y, s.wdn.words.lookup v.val = some y → y.fence.testBit u = false) →
    Answers (.wardenDecision w (some (v, clk))) s (fun t =>
      t.unfenced v = false ∧ t.unfenced u = true ∧ t.unfenced w = true ∧ t.fld (R.WDN_WARDEN v) 3 0 = 6 + 2 * b2n clk ∧ Recorded 0x30 s t)) ∧
  (∀ s : State, s.curWords.length < 2 → s.armed = true → s.wdn.warmReq = false → Answers (.voteApply .arbiter) s (fun t =>
    t.armed = false ∧ Only (among [R.SLU_STATUS]) [] s t)) ∧
  (∀ s : State, 2 ≤ s.curWords.length → voted s.curWords (·.armed) = some true → voted s.curWords (fun w => w.sw.isSome) ≠ some true →
    s.armed = false → s.wantArmed = true → s.wdn.warmReq = false → Answers (.voteApply .arbiter) s (fun t =>
      t.armed = true ∧ t.srcLane = s.srcLane ∧ t.silent = false ∧ t.bit R.SLU_STATUS 3 = true ∧ Only (among [R.SLU_STATUS]) [.pwr] s t)) ∧
  (∀ (s : State) (n : Nat), 2 ≤ s.curWords.length → s.silent = true → s.wdn.ioFault = false → voted s.curWords (·.src) = some n →
    s.lockClean (laneOfIx n) = true → voted s.curWords (fun w => w.sw.isSome) ≠ some true → s.wdn.warmReq = false →
    Answers (.voteApply .arbiter) s (fun t =>
      t.silent = false ∧ t.srcLane = laneOfIx n ∧ t.armed = decide (voted s.curWords (·.armed) = some true) ∧ t.bit R.SLU_STATUS 3 = true ∧
      Only (among [R.SLU_STATUS]) [.pwr] s t)) ∧
  (∀ (s : State) (l : Lane), 2 ≤ s.curWords.length → voted s.curWords (fun w => match l with | .a => w.roleA | .b => w.roleB) = some 1 →
    s.role l = 0 → s.wdn.warmReq = false → Answers (.voteApply (.reset l)) s (fun t =>
      t.role l = 1 ∧ t.role (otherLane l) = s.role (otherLane l) ∧ Recorded 0x30 s t ∧ Only (fun _ => false) [.evt] s t)) ∧
  (∀ s : State, s.curWords.length < 2 → s.wdn.warmReq = false → ∀ v, v ≠ .arbiter → Answers (.voteApply v) s (Only (fun _ => false) [] s)) ∧
  (∀ s : State, s.isSplit = true → (∀ w ∈ s.wardens, ∀ v ∈ s.wardens, w ≠ v → mapGet s.wdn.dis (3 * w + v) 0 = 0) → Answers .splitEnd s (fun t =>
    t.isSplit = false ∧ t.wardens = s.wardens ∧ Only (fun _ => false) [] s t)) ∧
  (∀ (s : State) (w : Warden), s.unfenced w = false → s.isSplit = false → 2 ≤ s.wardens.length → Answers (.wardenRestart w) s (fun t =>
    t.wdn.restarting.contains w.val = true ∧ t.wdn.words.lookup w.val = none ∧ t.unfenced w = false ∧
    t.fld (R.WDN_WARDEN w) 31 16 = min 65535 (s.fld (R.WDN_WARDEN w) 31 16 + 1) ∧ Only (among [R.WDN_WARDEN w]) [.wdn] s t)) ∧
  (∀ (s : State) (w : Warden), s.wdn.restarting.contains w.val = true → s.isSplit = false → 2 ≤ s.wardens.length →
    Answers (.wardenRestartDone w) s (fun t =>
      t.unfenced w = true ∧ t.bit (R.WDN_WARDEN w) 0 = true ∧ t.wdn.restarting = s.wdn.restarting.filter (· != w.val) ∧
      Only (among [R.WDN_WARDEN w]) [.wdn] s t)) ∧
  (∀ (s : State) (w : Warden), s.wdn.restarting.contains w.val = false → Answers (.wardenRestartDone w) s (Only (fun _ => false) [] s))

/-- R364, R366, R368, R379: health of the lanes, the continuous tests, and an I/O fault; where fewer than two wardens agree, a fault is
recorded and nothing else is decided. -/
def Obligations.LaneHealth : Prop :=
  (∀ (s : State) (l : Lane) (b : Fin 12), s.role l = 0 → b.val = 4 ∨ b.val = 5 → Answers (.healthFault l b) s (Only (fun _ => false) [] s)) ∧
  (∀ (s : State) (l : Lane) (b : Fin 12), ¬ (s.role l = 0 ∧ (b.val = 4 ∨ b.val = 5)) → s.canVote = false → s.wdn.warmReq = false →
    Answers (.healthFault l b) s (fun t =>
      t.bit (R.WDN_HEALTH (laneIx l)) b = true ∧ (∀ m, t.role m = s.role m) ∧ Only (among [R.WDN_HEALTH (laneIx l)]) [] s t)) ∧
  (∀ (s : State) (l : Lane) (b : Fin 12), s.role l = 1 → s.role (otherLane l) = 0 → s.srcLane = otherLane l → s.canVote = true →
    s.repairLimit l = false → s.bit R.WDN_CFG 0 = false → (s.lane l).gj = none → s.wdn.waits = none → s.wdn.warmReq = false →
    Answers (.healthFault l b) s (fun t =>
      t.bit (R.WDN_HEALTH (laneIx l)) b = true ∧ t.role l = 2 ∧ t.role (otherLane l) = 0 ∧ t.armed = false ∧ t.srcLane = s.srcLane ∧
      t.comparing l = false ∧ Recorded 0x30 s t)) ∧
  (∀ (s : State) (l : Lane) (p : Pair), s.role l ≤ 1 → s.pairFailed l p = false → Answers (.patrolSetDone l p true) s (fun t =>
    t.rd (R.WDN_TEST_SETS (laneIx l)) = (s.rd (R.WDN_TEST_SETS (laneIx l)) + 1) % 4294967296 ∧
    Only (among [R.WDN_TEST_SETS (laneIx l)]) [] s t)) ∧
  (∀ (s : State) (l : Lane) (p : Pair), s.role l ≤ 1 → s.pairFailed l p = false → s.canVote = false → s.wdn.warmReq = false →
    Answers (.patrolSetDone l p false) s (fun t =>
      t.pairFailed l p = true ∧ t.bit (R.WDN_HEALTH (laneIx l)) 24 = true ∧
      t.rd (R.WDN_TEST_RETIRED (laneIx l)) = min 4294967295 (s.rd (R.WDN_TEST_RETIRED (laneIx l)) + 1))) ∧
  (∀ (s : State) (l : Lane) (p : Pair), s.role l ≤ 1 → s.pairFailed l p = false → Answers (.patrolLate l p) s (fun t =>
    t.bit (R.WDN_HEALTH (laneIx l)) 25 = true ∧ Only (among [R.WDN_HEALTH (laneIx l)]) [] s t)) ∧
  (∀ (s : State) (l : Lane) (n m : W16), s.role l ≤ 1 → Answers (.scrubPassDone l n m false) s (fun t =>
    t.rd (R.WDN_TEST_SCRUBS (laneIx l)) = (s.rd (R.WDN_TEST_SCRUBS (laneIx l)) + 1) % 4294967296 ∧
    t.fld (R.WDN_TEST_SCRUB_ERR (laneIx l)) 15 0 = min 65535 (s.fld (R.WDN_TEST_SCRUB_ERR (laneIx l)) 15 0 + n.toNat) ∧
    t.fld (R.WDN_TEST_SCRUB_ERR (laneIx l)) 31 16 = min 65535 (s.fld (R.WDN_TEST_SCRUB_ERR (laneIx l)) 31 16 + m.toNat) ∧
    t.bit (R.WDN_HEALTH (laneIx l)) 26 = (s.bit (R.WDN_HEALTH (laneIx l)) 26 || decide (n ≠ 0)) ∧
    Only (among [R.WDN_TEST_SCRUBS (laneIx l), R.WDN_TEST_SCRUB_ERR (laneIx l), R.WDN_HEALTH (laneIx l)]) [] s t)) ∧
  (∀ (s : State) (l : Lane) (n m : W16), s.role l ≤ 1 → m ≠ 0 → s.canVote = false → s.wdn.warmReq = false →
    Answers (.scrubPassDone l n m true) s (fun t =>
      t.fld (R.WDN_TEST_SCRUB_ERR (laneIx l)) 31 16 = min 65535 (s.fld (R.WDN_TEST_SCRUB_ERR (laneIx l)) 31 16 + m.toNat) ∧
      t.bit (R.WDN_HEALTH (laneIx l)) 1 = true ∧ t.bit (R.FAB_STATUS l) 0 = true)) ∧
  (∀ (s : State) (l : Lane), s.role l ≤ 1 → Answers (.compSelfCheck l true) s (fun t =>
    t.fld (R.WDN_TEST_COMP (laneIx l)) 15 0 = min 65535 (s.fld (R.WDN_TEST_COMP (laneIx l)) 15 0 + 1) ∧
    Only (among [R.WDN_TEST_COMP (laneIx l)]) [] s t)) ∧
  (∀ (s : State) (l : Lane), s.role l ≤ 1 → s.canVote = false → s.wdn.warmReq = false → Answers (.compSelfCheck l false) s (fun t =>
    t.fld (R.WDN_TEST_COMP (laneIx l)) 15 0 = min 65535 (s.fld (R.WDN_TEST_COMP (laneIx l)) 15 0 + 1) ∧
    t.fld (R.WDN_TEST_COMP (laneIx l)) 31 16 = min 65535 (s.fld (R.WDN_TEST_COMP (laneIx l)) 31 16 + 1) ∧
    t.bit (R.WDN_HEALTH (laneIx l)) 9 = true ∧ Only (among [R.WDN_TEST_COMP (laneIx l), R.WDN_HEALTH (laneIx l)]) [] s t)) ∧
  (∀ (s : State) (l : Lane), 2 ≤ s.role l → (∀ p ok, Answers (.patrolSetDone l p ok) s (Only (fun _ => false) [] s)) ∧
    (∀ p, Answers (.patrolLate l p) s (Only (fun _ => false) [] s)) ∧ (∀ n m b, Answers (.scrubPassDone l n m b) s (Only (fun _ => false) [] s)) ∧
    ∀ ok, Answers (.compSelfCheck l ok) s (Only (fun _ => false) [] s)) ∧
  (∀ s : State, s.wdn.ioFault = false → s.silent = false → s.bit R.WDN_CFG 4 = false → Answers .ioFault s (fun t =>
    t.wdn = { s.wdn with ioFault := true } ∧ t.silent = true ∧ t.armed = false ∧ t.bit R.SLU_STATUS 3 = false ∧ t.pwr.doutPins = 0 ∧
    t.rd R.SLU_STOP_INDEX = s.afterDone s.srcLane % 4294967296 ∧ Recorded 0x30 s t ∧
    Only (among [R.SLU_STATUS, R.SLU_STOP_INDEX, R.SLU_EVENTS]) [.wdn, .pwr, .evt] s t)) ∧
  (∀ s : State, s.wdn.ioFault = true → Answers .ioFault s (Only (fun _ => false) [] s))

/-- R367, R372 to R377, R385: switching, repair and retirement of a lane, the phases of a repair, and refused commands. -/
def Obligations.SwitchAndRepair : Prop :=
  (∀ s : State, s.canVote = true → s.armed = true → s.bit R.WDN_STATUS 4 = true → s.role s.srcLane = 0 → s.role (otherLane s.srcLane) = 1 →
    s.slu.recs = [] → (s.lane (otherLane s.srcLane)).bndWait = [] → Answers .wdnSwitch s (fun t =>
      t.srcLane = otherLane s.srcLane ∧ t.armed = true ∧ t.role s.srcLane = 1 ∧ t.role (otherLane s.srcLane) = 0 ∧
      t.rd R.SLU_SWITCH_INDEX = s.afterDone s.srcLane % 4294967296 ∧ t.rd R.WDN_LAST_INDEX = s.afterDone s.srcLane % 4294967296 ∧
      t.rd R.WDN_SWITCHES = min 4294967295 (s.rd R.WDN_SWITCHES + 1) ∧ t.bit R.SLU_EVENTS 1 = true ∧
      t.slu.split = some (s.afterDone s.srcLane, s.srcLane) ∧ Recorded 0x30 s t)) ∧
  (∀ (s : State) (l : Lane), s.canVote = true → s.role l = 2 → s.rsBusy = false → Answers (.wdnRepair l) s (fun t =>
    t.role l = 3 ∧ t.role (otherLane l) = s.role (otherLane l) ∧ t.fld (R.WDN_HEALTH (laneIx l)) 11 0 = 0 ∧ t.armed = false ∧
    t.rd R.WDN_RSYNC_STATUS = 17 + 2 * laneIx l ∧ t.rd R.WDN_RSYNC_PROGRESS = 0 ∧ t.wdn.noRepair.contains (laneIx l) = false ∧
    Recorded 0x30 s t)) ∧
  (∀ s : State, s.canVote = true → s.rsBusy = true → s.rsJoined = false → Answers .abortRsync s (fun t =>
    t.role s.rsLane = 2 ∧ t.rd R.WDN_RSYNC_RESULT = 3 ∧ t.rd R.WDN_RSYNC_STATUS = 0 ∧
    t.rd R.WDN_RSYNC_ATTEMPTS = min 4294967295 (s.rd R.WDN_RSYNC_ATTEMPTS + 1) ∧ t.wdn.noRepair.contains (laneIx s.rsLane) = true ∧
    Only (among [R.WDN_RSYNC_RESULT, R.WDN_RSYNC_STATUS, R.WDN_RSYNC_ATTEMPTS]) [.wdn, .evt] s t)) ∧
  (∀ s : State, s.canVote = true → s.rsJoined = true → Answers .abortRsync s (fun t =>
    t.bit R.WDN_STATUS 24 = true ∧ Only (fun _ => false) [] s t)) ∧
  (∀ (s : State) (l : Lane), s.canVote = true → 1 ≤ s.role l → s.role l ≤ 3 → ¬ (s.rsBusy = true ∧ s.rsLane = l) → Answers (.retire l) s (fun t =>
    t.role l = 4 ∧ t.role (otherLane l) = s.role (otherLane l) ∧ t.armed = false ∧ t.comparing l = false ∧ Recorded 0x30 s t)) ∧
  (∀ s : State, s.canVote = true → Answers .divClear s (fun t =>
    t.bit (R.WDN_HEALTH 0) 16 = false ∧ t.bit (R.WDN_HEALTH 1) 16 = false ∧ Only (among [R.WDN_HEALTH 0, R.WDN_HEALTH 1]) [] s t)) ∧
  (∀ (s : State) (c : Instr) (code : Nat),
    (s.wardens.length < 2 ∧ code = 3 ∧ (c = .wdnSwitch ∨ (∃ l, c = .wdnRepair l) ∨ c = .abortRsync ∨ c = .divClear ∨ ∃ l, c = .retire l)) ∨
    (2 ≤ s.wardens.length ∧ s.isSplit = true ∧ code = 6 ∧
      (c = .wdnSwitch ∨ (∃ l, c = .wdnRepair l) ∨ c = .abortRsync ∨ c = .divClear ∨ ∃ l, c = .retire l)) ∨
    (s.canVote = true ∧ s.armed = false ∧ code = 1 ∧ c = .wdnSwitch) ∨
    (s.canVote = true ∧ s.armed = true ∧ s.bit R.WDN_STATUS 4 = false ∧ code = 2 ∧ c = .wdnSwitch) ∨
    (∃ l, s.canVote = true ∧ s.role l ≤ 1 ∧ code = 7 ∧ c = .wdnRepair l) ∨
    (∃ l, s.canVote = true ∧ (s.role l = 2 ∨ s.role l = 4) ∧ s.rsBusy = true ∧ code = 4 ∧ c = .wdnRepair l) ∨
    (∃ l, s.canVote = true ∧ (s.role l = 0 ∨ s.role l = 4) ∧ code = 7 ∧ c = .retire l) ∨
    (∃ w : Warden, s.unfenced w = true ∧ code = 5 ∧ c = .wardenRestart w) → Answers c s (fun t =>
      t.rd R.WDN_REFUSED = code ∧ Only (among [R.WDN_REFUSED]) [] s t)) ∧
  (∀ (s : State) (ok : Bool) (fs : List Pair), s.rsBusy = false → Answers (.rsyncPhaseEnd ok fs) s (Only (fun _ => false) [] s)) ∧
  (∀ (s : State) (ok : Bool) (fs : List Pair), s.rsBusy = true → s.canVote = false → s.rsPhase ≠ 3 → Answers (.rsyncPhaseEnd ok fs) s (fun t =>
    t.wdn = { s.wdn with waits := some ok } ∧ Only (fun _ => false) [.wdn] s t)) ∧
  (∀ (s : State) (ok : Bool) (fs : List Pair), s.rsBusy = true → s.rsPhase = 3 → Answers (.rsyncPhaseEnd ok fs) s (fun t =>
    (∀ p ∈ fs, t.pairFailed s.rsLane p = true) ∧ (∀ p : Pair, s.pairFailed s.rsLane p = true → t.pairFailed s.rsLane p = true) ∧
    (s.canVote = false → t.wdn.waits = some ok))) ∧
  (∀ (s : State) (ok : Bool) (fs : List Pair), s.rsBusy = true → s.canVote = true → s.rsPhase = 1 → Answers (.rsyncPhaseEnd ok fs) s (fun t =>
    t.rd R.WDN_RSYNC_STATUS = 33 + 2 * laneIx s.rsLane ∧ t.wdn = { s.wdn with waits := none } ∧ Only (among [R.WDN_RSYNC_STATUS]) [.wdn] s t)) ∧
  (∀ s : State, s.rsBusy = true → s.canVote = true → s.rsPhase = 4 → ∀ fs, Answers (.rsyncPhaseEnd true fs) s (fun t =>
    t.rd R.WDN_RSYNC_STATUS = 337 + 2 * laneIx s.rsLane ∧ Only (among [R.WDN_RSYNC_STATUS, R.WDN_RSYNC_PROGRESS]) [.wdn] s t)) ∧
  (∀ s : State, s.rsBusy = true → s.canVote = true → s.rsPhase = 5 → ∀ fs, Answers (.rsyncPhaseEnd true fs) s (fun t =>
    t.fld R.WDN_RSYNC_STATUS 6 4 = 6 ∧ 1 ≤ t.fld R.WDN_RSYNC_STATUS 15 8 ∧
    t.fld R.WDN_RSYNC_STATUS 15 8 ≤ max 1 (s.fld R.WDN_RSYNC_CFG 23 16) ∧ Only (among [R.WDN_RSYNC_STATUS]) [.wdn] s t)) ∧
  (∀ s : State, s.rsBusy = true → s.canVote = true → s.rsPhase = 6 → ∀ fs, Answers (.rsyncPhaseEnd true fs) s (fun t =>
    t.fld R.WDN_RSYNC_STATUS 6 4 = 7 ∧ t.rd R.WDN_RSYNC_JOIN = s.joinIndex % 4294967296 ∧
    t.wdn = { s.wdn with waits := none, join := some s.joinIndex } ∧ Only (among [R.WDN_RSYNC_STATUS, R.WDN_RSYNC_JOIN]) [.wdn] s t)) ∧
  (∀ (s : State) (j : Nat), s.rsBusy = true → s.canVote = true → s.rsPhase = 8 → (s.lane s.rsLane).gj = some j → s.role s.rsLane = 1 →
    s.bit R.WDN_STATUS 4 = true → s.mirrorOpen (otherLane s.rsLane) j = false → ∀ fs, Answers (.rsyncPhaseEnd true fs) s (fun t =>
      t.rd R.WDN_RSYNC_RESULT = 1 ∧ t.rd R.WDN_RSYNC_STATUS = 0 ∧ (t.lane s.rsLane).gj = none ∧ t.wdn = { s.wdn with waits := none, join := none } ∧
      Only (among [R.WDN_RSYNC_RESULT, R.WDN_RSYNC_STATUS]) [.wdn, lanePart s.rsLane] s t))

/-- R381, R382: the mate's status frames, and what they make of PAIRED and COVERING. -/
def Obligations.MateStatusFrames : Prop :=
  (∀ s t : State, step s = .next t →
    t.bit R.WDN_MATE_STATUS 1 = (t.bit R.WDN_MATE_STATUS 0 && t.bit R.CFG_MATE_STATUS 1) ∧
    t.bit R.WDN_MATE_STATUS 2 = (t.bit R.WDN_MATE_STATUS 1 && !t.bit R.WDN_MATE_STATUS 8 && !t.bit R.WDN_MATE_STATUS 9 &&
      !t.bit R.WDN_MATE_STATUS 11 && t.bit R.WDN_MATE_CFG 1)) ∧
  (∀ s : State, s.bit R.WDN_MATE_CFG 0 = true → Answers .mateStatusSend s (fun t =>
    let u : State := { s with wdn := { s.wdn with mateSeq := (s.wdn.mateSeq + 1) % 65536 } }
    t.wdn = u.wdn ∧ t.net = (u.enter 48 u.mateMessage (some 7) (some [50]) none).2.net)) ∧
  (∀ s : State, s.bit R.WDN_MATE_CFG 0 = false → Answers .mateStatusSend s (Only (fun _ => false) [] s)) ∧
  (∀ (s : State) (f : MateStatus), Answers (.mateStatusRx f) s (fun t =>
    t.bit R.WDN_MATE_STATUS 0 = true ∧ t.fld R.WDN_MATE_STATUS 15 8 = f.flags.toNat ∧ t.rd R.WDN_MATE_BREACH = f.breach.toNat ∧
    Only (among [R.WDN_MATE_BREACH]) [] s t)) ∧
  (∀ s : State, Answers .mateStatusLoss s (fun t => t.bit R.WDN_MATE_STATUS 0 = false ∧ Only (fun _ => false) [] s t))

/-- R387 to R392, R395: the seepage monitor's tick, its check, and its commands. -/
def Obligations.SeepageCommands : Prop :=
  (∀ s : State, s.seepRuns = false → Answers .seepageTick s (Only (fun _ => false) [] s)) ∧
  (∀ s : State, s.seepRuns = true → s.bit R.SEP_STATUS 4 = true → Answers .seepageTick s (fun t =>
    t.sep = { s.sep with late := true } ∧ t.bit R.SEP_EVENTS 1 = true ∧ t.bit R.SEP_STATUS 4 = true ∧ Only (among [R.SEP_EVENTS]) [.sep] s t)) ∧
  (∀ s : State, s.seepRuns = true → s.bit R.SEP_STATUS 4 = false → Answers .seepageTick s (fun t =>
    t.bit R.SEP_STATUS 4 = true ∧ t.sep.late = false ∧ t.sep.skip = b2n (!s.seepLane .a) + 2 * b2n (!s.seepLane .b) ∧
    mapGet t.sep.latch R.SEP_CELLS 0 = (s.net.frames.map (·.cells)).sum ∧ mapGet t.sep.latch R.SEP_CELLS_FREE 0 = s.rd R.SWC_FREE ∧
    (∀ x, x < 51 → mapGet t.sep.latch (R.SEP_CRED x) 0 = s.fld (R.SWC_P_CREDITS x) 5 0 + 65536 * s.creditsHeld x) ∧
    Only (fun _ => false) [.sep] s t)) ∧
  (∀ s : State, s.bit R.SEP_STATUS 4 = false ∨ s.power = 3 → Answers .seepageEvaluate s (Only (fun _ => false) [] s)) ∧
  (∀ s : State, s.bit R.SEP_STATUS 4 = true → s.power ≠ 3 → s.sep.late = false → s.bit R.SEP_STATUS 1 = true → s.seepBad s.sep.latch = [] →
    Answers .seepageEvaluate s (fun t =>
      t.rd R.SEP_CHECKS = (s.rd R.SEP_CHECKS + 1) % 4294967296 ∧ t.bit R.SEP_STATUS 4 = false ∧ t.bit R.SEP_STATUS 2 = false ∧
      t.rd R.SEP_LANE_SKIP = s.sep.skip % 4294967296 ∧ t.sep = { s.sep with latch := [], bad := [] } ∧
      Only (among [R.SEP_CHECKS, R.SEP_LANE_SKIP]) [.sep] s t)) ∧
  (∀ (s : State) (b : SeepBad) (q : List SeepBad), s.bit R.SEP_STATUS 4 = true → s.power ≠ 3 → s.sep.late = false → s.bit R.SEP_STATUS 0 = false →
    s.bit R.SEP_STATUS 1 = true → s.seepBad s.sep.latch = b :: q → b.ledger < 7 → Answers .seepageEvaluate s (fun t =>
      t.rd R.SEP_CHECKS = (s.rd R.SEP_CHECKS + 1) % 4294967296 ∧ t.bit R.SEP_STATUS 4 = false ∧ t.bit R.SEP_STATUS 2 = true ∧
      t.bit R.SEP_STATUS 0 = true ∧ t.bit R.SEP_STATUS 1 = true ∧ t.bit R.SEP_EVENTS 0 = true ∧
      t.rd R.SEP_FIRST = (b.ledger + b.lane * 16 + b.row * 256 + b.inst * 65536) % 4294967296 ∧ t.rd R.SEP_FIRST_CHECK = t.rd R.SEP_CHECKS ∧
      t.rd (R.SEP_VIOL b.ledger) = min 4294967295 (s.rd (R.SEP_VIOL b.ledger) + 1) ∧
      t.sep.bad = (b :: q).map SeepBad.key ∧ t.sep.latch = [] ∧ (s.sep.bad.contains b.key = false → Recorded 0x40 s t))) ∧
  (∀ s : State, Answers .unfreeze s (fun t =>
    t.bit R.SEP_STATUS 1 = false ∧ t.bit R.SEP_STATUS 0 = s.bit R.SEP_STATUS 0 ∧ Only (fun _ => false) [] s t)) ∧
  (∀ s : State, Answers .sepClear s (fun t =>
    t.bit R.SEP_STATUS 0 = false ∧ t.rd R.SEP_FIRST = 0 ∧ t.rd R.SEP_FIRST_CHECK = 0 ∧
    Only (among [R.SEP_FIRST, R.SEP_FIRST_CHECK]) [] s t))

/-- Table 17-1: what the ledgers of the buffer cells, the credits and the tokens require of the counts latched. -/
def Obligations.LedgersRequire : Prop :=
  ∀ (s : State) (g : List (Nat × Nat)),
    (mapGet g R.SEP_CELLS 0 + mapGet g R.SEP_CELLS_FREE 0 = 524288 ↔ ∀ b ∈ s.seepBad g, b.ledger ≠ 0) ∧
    (∀ x, x < 51 → (bitsOf (mapGet g (R.SEP_CRED x) 0) 5 0 + bitsOf (mapGet g (R.SEP_CRED x) 0) 13 8 + bitsOf (mapGet g (R.SEP_CRED x) 0) 21 16 = 32 ↔
      ∀ b ∈ s.seepBad g, ¬ (b.ledger = 1 ∧ b.inst = x))) ∧
    (∀ l : Lane, s.sep.skip.testBit (laneIx l) = false → (((List.range 6).map (fun i => mapGet g (R.SEP_TOK (laneIx l) i) 0)).sum = 65536 ↔
      ∀ b ∈ s.seepBad g, ¬ (b.ledger = 3 ∧ b.lane = laneIx l)))

/-- R400, R401, R404, R412: key commands are accepted or refused, aborted, and complete. -/
def Obligations.KeyCommands : Prop :=
  (∀ (s : State) (slot : Byte), ∀ c ∈ [(1, (.program slot : Instr)), (2, .revoke slot), (3, .generate slot), (4, .load slot), (5, .loadWrapped slot),
    (6, .invalidate slot), (7, .sign slot), (8, .attest slot), (9, .pubkey slot)],
      (s.keyCheck c.1 slot.toNat = 0 → Answers c.2 s (fun t =>
        t.key = { s.key with op := some (keyOpOf s c.1 slot.toNat) } ∧ t.bit R.KEY_STATUS 0 = true ∧ Only (among [R.KEY_STATUS]) [.key] s t)) ∧
      (s.keyCheck c.1 slot.toNat ≠ 0 → Answers c.2 s (fun t =>
        t.rd R.KEY_RESULT = s.keyCheck c.1 slot.toNat ∧ t.bit R.KEY_EVENTS 1 = true ∧
        (s.keyCheck c.1 slot.toNat = 8 → Recorded 0x61 s t) ∧ Only (among [R.KEY_RESULT, R.KEY_EVENTS]) [.evt] s t))) ∧
  (∀ s : State, s.key.op = none → (∀ late, Answers (.keyAbort late) s (Only (fun _ => false) [] s)) ∧
    ∀ b, Answers (.keyOpDone b) s (Only (fun _ => false) [] s)) ∧
  (∀ (s : State) (o : KeyOp), s.key.op = some o → o.committed = false → Answers (.keyAbort false) s (fun t =>
    t.key = { s.key with op := none } ∧ t.bit R.KEY_STATUS 0 = false ∧ t.rd R.KEY_RESULT = 11 ∧ t.bit R.KEY_EVENTS 1 = true ∧
    Only (among [R.KEY_STATUS, R.KEY_RESULT, R.KEY_EVENTS]) [] s t)) ∧
  (∀ (s : State) (o : KeyOp) (late : Bool), s.key.op = some o → o.committed = true → Answers (.keyAbort late) s (fun t =>
    t.bit R.KEY_STATUS 2 = true ∧ t.bit R.KEY_STATUS 0 = s.bit R.KEY_STATUS 0 ∧ Only (among [R.KEY_STATUS]) [] s t)) ∧
  (∀ (s : State) (o : KeyOp), s.key.op = some o → o.committed = true → ∀ b, o.burns = false ∨ b = true → Answers (.keyOpDone b) s (fun t =>
    t.key = { s.key with op := none } ∧ t.bit R.KEY_STATUS 0 = false ∧ t.rd R.KEY_RESULT = 1 ∧ t.bit R.KEY_EVENTS 0 = true ∧
    (1 ≤ o.code → o.code ≤ 6 → Recorded 0x61 s t) ∧ Only (among [R.KEY_STATUS, R.KEY_RESULT, R.KEY_EVENTS]) [.evt] s t)) ∧
  (∀ (s : State) (o : KeyOp), s.key.op = some o → o.committed = false → o.code = 1 → 1 ≤ o.slot → o.slot < 0x10 →
    o.typ = 1 ∨ o.typ = 3 ∨ o.typ = 4 ∨ o.typ = 5 → Answers (.keyOpDone true) s (fun t =>
      t.slotType o.slot = o.typ ∧ t.slotValid o.slot = true ∧ t.slotRevoked o.slot = false ∧ t.rd (R.KEY_SLOT_ID o.slot) = o.keyId % 4294967296 ∧
      (t.keyMat o.slot).bytes = o.input.take (if o.typ = 1 then 64 else if o.typ = 3 then 16 else 32) ∧ (o.typ = 1 → t.bit R.KEY_STATUS 3 = false) ∧
      t.bit R.KEY_STATUS 0 = false ∧ t.rd R.KEY_RESULT = 1 ∧ Recorded 0x61 s t)) ∧
  (∀ (s : State) (o : KeyOp), s.key.op = some o → o.burns = true → Answers (.keyOpDone false) s (fun t =>
    t.slotFaulty o.slot = true ∧ t.slotValid o.slot = false ∧ t.keyMat o.slot = ⟨[], 0⟩ ∧ t.bit R.KEY_EVENTS 4 = true ∧ t.bit R.KEY_EVENTS 1 = true ∧
    t.rd R.KEY_RESULT = 10 ∧ t.bit R.KEY_STATUS 0 = false ∧ Recorded 0x61 s t)) ∧
  (∀ (s : State) (o : KeyOp), s.key.op = some o → o.committed = false → o.code = 2 → o.slot < 0x90 → ∀ b, Answers (.keyOpDone b) s (fun t =>
    t.slotRevoked o.slot = true ∧ t.key = { s.key with op := none } ∧ t.bit R.KEY_STATUS 0 = false ∧ t.rd R.KEY_RESULT = 1 ∧
    Recorded 0x61 s t ∧ Only (among [R.KEY_SLOT_ATTR o.slot, R.KEY_STATUS, R.KEY_RESULT, R.KEY_EVENTS]) [.key, .evt] s t)) ∧
  (∀ (s : State) (o : KeyOp), s.key.op = some o → o.committed = false → o.code = 4 → o.slot < 0x90 → o.typ = 3 ∨ o.typ = 4 →
    ∀ b, Answers (.keyOpDone b) s (fun t =>
      t.slotType o.slot = o.typ ∧ t.slotValid o.slot = true ∧ t.slotRevoked o.slot = false ∧ t.bit (R.KEY_SLOT_ATTR o.slot) 8 = o.expWarm ∧
      t.rd (R.KEY_SLOT_ID o.slot) = o.keyId % 4294967296 ∧ t.rd (R.KEY_SLOT_USES o.slot) = o.uses % 4294967296 ∧
      (t.keyMat o.slot).bytes = o.input.take (if o.typ = 3 then 16 else 32) ∧ t.bit R.KEY_STATUS 0 = false ∧ t.rd R.KEY_RESULT = 1 ∧
      Recorded 0x61 s t)) ∧
  (∀ (s : State) (o : KeyOp), s.key.op = some o → o.committed = false → o.code = 6 → o.slot < 0x90 → ∀ b, Answers (.keyOpDone b) s (fun t =>
    t.slotEmpty o.slot = true ∧ t.keyMat o.slot = ⟨[], 0⟩ ∧ t.rd (R.KEY_SLOT_ID o.slot) = 0 ∧ t.rd (R.KEY_SLOT_USES o.slot) = 0 ∧
    t.bit R.KEY_STATUS 0 = false ∧ t.rd R.KEY_RESULT = 1 ∧ Recorded 0x61 s t)) ∧
  (∀ (s : State) (o : KeyOp), s.key.op = some o → o.committed = false → o.code = 9 → (s.keyMat o.slot).bytes.length = 64 → ∀ b, Answers (.keyOpDone b) s (fun t =>
    (∀ i, i < 16 → t.rd (R.KEY_OUT i) = leNat (sliceB (s.keyMat o.slot).bytes (4 * i) 4)) ∧ t.key = { s.key with op := none } ∧
    t.bit R.KEY_STATUS 0 = false ∧ t.rd R.KEY_RESULT = 1 ∧ t.bit R.KEY_EVENTS 0 = true))

/-- Table 18-3, R400: the refusals of a key command: one that runs, a slot out of range, a blocked one, and the types and slots of
LOAD, REVOKE and INVALIDATE. -/
def Obligations.KeyRefusals : Prop :=
  ∀ (s : State) (code slot : Nat),
    (s.bit R.KEY_STATUS 0 = true → s.keyCheck code slot = 2) ∧
    (s.bit R.KEY_STATUS 0 = false → 0x8F < slot → s.keyCheck code slot = 3) ∧
    (s.bit R.KEY_STATUS 0 = false → slot ≤ 0x8F → s.bit R.KEY_STATUS 1 = true →
      code = 3 ∨ code = 4 ∨ code = 5 ∨ code = 7 ∨ code = 8 ∨ (code = 1 ∧ s.fld R.KEY_ATTR 3 0 ≠ 1) → s.keyCheck code slot = 8) ∧
    (s.bit R.KEY_STATUS 0 = false → s.bit R.KEY_STATUS 1 = false → 0x10 ≤ slot → slot ≤ 0x8F →
      s.keyCheck 4 slot = (if s.fld R.KEY_ATTR 3 0 = 3 ∨ s.fld R.KEY_ATTR 3 0 = 4 then (if s.bit R.KEY_POLICY 1 then 0 else 6) else 4)) ∧
    (s.bit R.KEY_STATUS 0 = false → 1 ≤ slot → slot < 0x10 → s.keyCheck 2 slot = (if s.slotValid slot then 0 else 4)) ∧
    (s.bit R.KEY_STATUS 0 = false → s.keyCheck 2 0 = 3) ∧
    (s.bit R.KEY_STATUS 0 = false → 0x10 ≤ slot → slot ≤ 0x8F → s.keyCheck 6 slot = 0 ∧ s.keyCheck 2 slot = 3) ∧
    (s.bit R.KEY_STATUS 0 = false → slot < 0x10 → s.keyCheck 6 slot = 3)

/-- R412: while the queue has room, a committed key command and a refusal with BLOCKED or TAMPER write a record of TYPE 0x61, with the
slot in SOURCE and the code, the KEY_ID and, for a refusal, KEY_RESULT in DATA. -/
def Obligations.KeyRecords : Prop :=
  (∀ (s : State) (o : KeyOp), s.key.op = some o → o.committed = true ∨ (s.keyCommit o).1 = 1 → 1 ≤ o.code → o.code ≤ 6 →
    s.evt.queue.length < 256 → ∀ b, Answers (.keyOpDone b) s (fun t => ∃ it l, t.evt.queue = s.evt.queue ++ it :: l ∧ it.typ = 0x61 ∧
      it.source = o.slot ∧ it.data = [o.code, o.keyId, 0, 0])) ∧
  (∀ (s : State) (slot : Byte), ∀ c ∈ [(1, (.program slot : Instr)), (2, .revoke slot), (3, .generate slot), (4, .load slot), (5, .loadWrapped slot),
    (6, .invalidate slot), (7, .sign slot), (8, .attest slot), (9, .pubkey slot)], s.keyCheck c.1 slot.toNat = 8 → s.evt.queue.length < 256 →
      Answers c.2 s (fun t => ∃ it l, t.evt.queue = s.evt.queue ++ it :: l ∧ it.typ = 0x61 ∧ it.source = slot.toNat ∧
        it.data = [c.1, s.rd R.KEY_ID, 8, 0])) ∧
  (∀ (s : State) (n : Fin 4) (o : KeyOp), s.fed = true → 2 ≤ tamperAction s.key.tamperCfg n → s.bit R.KEY_TAMPER_STATUS n = false →
    s.key.op = some o → o.committed = false → s.evt.queue.length < 255 → tamperWake s.key.tamperCfg n = false →
    Answers (.tamperAlarm n false) s (fun t => ∃ a it l, t.evt.queue = s.evt.queue ++ a :: it :: l ∧ a.typ = 0x60 ∧ it.typ = 0x61 ∧
      it.source = o.slot ∧ it.data = [o.code, o.keyId, 12, 0]))

/-- R413 to R424: the commands of the real-time clock, with the alarms off but where an alarm is named. -/
def Obligations.ClockCommands : Prop :=
  (∀ s : State, Answers .rtcDomainStart s (fun t =>
    t.rtc.osc = true ∧ t.rtc.past0 = false ∧ t.rtc.past1 = false ∧ t.rtc.wday = 0 ∧ t.bit R.RTC_STATUS 0 = true ∧ t.bit R.RTC_EVENTS 4 = true ∧
    t.fld R.RTC_SEC_LO 31 0 = 0 ∧ t.fld R.RTC_SEC_HI 15 0 = 0 ∧ t.fld R.RTC_CAL1 4 0 = 1 ∧ t.fld R.RTC_CAL1 11 8 = 1 ∧ t.fld R.RTC_CAL1 23 16 = 0 ∧ (∀ n, n < 2 → t.bit (R.RTC_ALM_CTRL n) 0 = false) ∧
    Only isRtcKey [.rtc] s t)) ∧
  (∀ s : State, s.rtc.osc = true → s.bit (R.RTC_ALM_CTRL 0) 0 = false → s.bit (R.RTC_ALM_CTRL 1) 0 = false →
    let c := if s.bit R.RTC_STATUS 1 = true ∧ 73049 * 86400 ≤ s.rtcCount + 1 then 0 else (s.rtcCount + 1) % 2 ^ 48
    Answers .rtcSecond s (fun t =>
      t.rtcCount = c ∧ t.rd R.RTC_SUB = 0 ∧
      t.rtc.wday = (if c % 86400 = 0 then (if 6 ≤ s.rtc.wday then 0 else s.rtc.wday + 1) else s.rtc.wday) ∧
      (s.bit R.RTC_STATUS 1 = false → t.rd R.RTC_CAL0 = 0 ∧ t.rd R.RTC_CAL1 = 0) ∧
      (s.bit R.RTC_STATUS 1 = true → t.fld R.RTC_CAL0 5 0 = c % 60 ∧ t.fld R.RTC_CAL0 13 8 = c / 60 % 60 ∧ t.fld R.RTC_CAL0 20 16 = c / 3600 % 24) ∧
      Only (among [R.RTC_SUB, R.RTC_SEC_LO, R.RTC_SEC_HI, R.RTC_CAL0, R.RTC_CAL1]) [.rtc] s t)) ∧
  (∀ (s : State) (n : Fin 2), s.rtc.osc = true → s.bit (R.RTC_ALM_CTRL n) 0 = true → s.bit (R.RTC_ALM_CTRL (1 - n)) 0 = false →
    s.bit R.RTC_STATUS 1 = false → s.rtcCount + 1 < 2 ^ 48 → s.almT n = s.rtcCount + 1 → s.fld (R.RTC_ALM_CTRL n) 3 1 = 0 →
    s.bit R.PCM_WAKE_EN 4 = false → Answers .rtcSecond s (fun t =>
      t.rtcCount = s.rtcCount + 1 ∧ t.bit R.RTC_EVENTS n = true ∧ t.bit (R.RTC_ALM_CTRL n) 0 = false ∧ t.almPast n = false)) ∧
  (∀ (s : State) (n : Fin 2), s.rtc.osc = true → s.bit (R.RTC_ALM_CTRL n) 0 = true → s.bit (R.RTC_ALM_CTRL (1 - n)) 0 = false →
    s.bit R.RTC_STATUS 1 = false → s.rtcCount + 1 < 2 ^ 47 → s.almT n = s.rtcCount + 1 → s.fld (R.RTC_ALM_CTRL n) 3 1 = 2 →
    s.bit R.PCM_WAKE_EN 4 = false → Answers .rtcSecond s (fun t =>
      t.rtcCount = s.rtcCount + 1 ∧ t.bit R.RTC_EVENTS n = true ∧ t.bit (R.RTC_ALM_CTRL n) 0 = true ∧ t.almT n = s.almT n + 3600 ∧
      t.fld (R.RTC_ALM_CTRL n) 15 8 = 0)) ∧
  (∀ s : State, s.rtc.osc = false → Answers .rtcSecond s (Only (fun _ => false) [] s) ∧ (∀ x, Answers (.rtcTempSample x) s (Only (fun _ => false) [] s)) ∧
    Answers .trimPeriod s (Only (fun _ => false) [] s) ∧ Answers .oscStop s (Only (fun _ => false) [] s) ∧
    Answers .rtcSetApply s (Only (fun _ => false) [] s)) ∧
  (∀ (s : State) (x : Temp), s.rtc.osc = true → Answers (.rtcTempSample x) s (fun t =>
    t.rd R.RTC_TEMP = x.toNat ∧ Only (among [R.RTC_TEMP]) [] s t)) ∧
  (∀ s : State, s.rtc.osc = true → Answers .trimPeriod s (fun t =>
    sgnW 13 (t.fld R.RTC_CORR 12 0) = clampI (-4095) 4095 (sgnW 13 (s.fld R.RTC_OFFSET 12 0) +
      if s.bit R.RTC_CFG 0 then s.curveAt (sgnW 16 (s.fld R.RTC_TEMP 15 0)) else 0) ∧ Only (among [R.RTC_CORR]) [] s t)) ∧
  (∀ s : State, s.rtc.osc = true → Answers .oscStop s (fun t =>
    t.rtc.osc = false ∧ t.bit R.RTC_STATUS 0 = true ∧ t.bit R.RTC_EVENTS 4 = true ∧ t.rtcCount = s.rtcCount ∧
    Only (among [R.RTC_SUB, R.RTC_EVENTS]) [.rtc] s t)) ∧
  (∀ s : State, Answers .oscResume s (fun t => t.rtc.osc = true ∧ t.rtcCount = s.rtcCount ∧ Only (fun _ => false) [.rtc] s t)) ∧
  (∀ s : State, Answers .rtcSet s (fun t => t.bit R.RTC_STATUS 4 = true ∧ t.rtcCount = s.rtcCount ∧ Only (fun _ => false) [] s t)) ∧
  (∀ s : State, s.rtc.osc = true → s.bit R.RTC_STATUS 4 = true → s.bit (R.RTC_ALM_CTRL 0) 0 = false → s.bit (R.RTC_ALM_CTRL 1) 0 = false →
    Answers .rtcSetApply s (fun t =>
      t.rtcCount = (if s.bit R.RTC_SET_CTRL 0 = true ∧ 73049 * 86400 ≤ s.rd64 R.RTC_SET_SEC_LO then 0 else s.rd64 R.RTC_SET_SEC_LO % 2 ^ 48) ∧
      t.bit R.RTC_STATUS 1 = s.bit R.RTC_SET_CTRL 0 ∧ t.bit R.RTC_STATUS 4 = false ∧ t.rtc.wday = s.fld R.RTC_SET_CTRL 6 4 ∧
      t.rd R.RTC_SUB = 0 ∧ t.bit R.RTC_EVENTS 6 = true ∧
      Only (among [R.RTC_SUB, R.RTC_SEC_LO, R.RTC_SEC_HI, R.RTC_CAL0, R.RTC_CAL1, R.RTC_EVENTS]) [.rtc] s t)) ∧
  (∀ s : State, s.bit R.RTC_STATUS 4 = false → Answers .rtcSetApply s (Only (fun _ => false) [] s)) ∧
  (∀ s : State, Answers .rtcSync s (fun t => t.bit R.RTC_STATUS 2 = true ∧ t.rtc.synced = false ∧ Only (fun _ => false) [.rtc] s t)) ∧
  (∀ s : State, s.bit R.RTC_CFG 8 = false → s.bit R.RTC_STATUS 2 = true → Answers .cancelSync s (fun t =>
    t.bit R.RTC_STATUS 2 = false ∧ t.bit R.RTC_STATUS 3 = s.bit R.RTC_STATUS 3 ∧ Only (fun _ => false) [] s t)) ∧
  (∀ s : State, s.bit R.RTC_STATUS 2 = false → s.rtc.synced = true → Answers .cancelSync s (fun t =>
    t.bit R.RTC_STATUS 3 = true ∧ t.rtcCount = s.rtcCount ∧ Only (fun _ => false) [] s t)) ∧
  (∀ (s : State) (n : Fin 2) (x : BitVec 48), Answers (.alarmTargetWrite n x) s (fun t =>
    t.almT n = x.toNat ∧ t.almPast n = decide (x.toNat ≤ s.rtcCount) ∧ t.almPast (1 - n) = s.almPast (1 - n) ∧
    Only (among [R.RTC_ALM_T_LO n, R.RTC_ALM_T_HI n]) [.rtc] s t)) ∧
  (∀ (s : State) (n : Fin 2) (v : Word), Answers (.alarmCtrlWrite n v) s (fun t =>
    t.bit (R.RTC_ALM_CTRL n) 0 = v.toNat.testBit 0 ∧
    t.fld (R.RTC_ALM_CTRL n) 3 1 = (if bitsOf v.toNat 3 1 ≤ 4 then bitsOf v.toNat 3 1 else s.fld (R.RTC_ALM_CTRL n) 3 1) ∧
    t.almPast n = (s.almPast n || (v.toNat.testBit 0 && !s.bit (R.RTC_ALM_CTRL n) 0 && decide (s.almT n ≤ s.rtcCount))) ∧
    Only (among [R.RTC_ALM_CTRL n]) [.rtc] s t))

/-- R417: WDAY steps, in both modes, at each transition of the count to a multiple of 86 400; a SET gives it. -/
def Obligations.WeekdayCounter : Prop :=
  let steps := fun (s t : State) =>
    t.rtc.wday = (if t.rtcCount ≠ s.rtcCount ∧ t.rtcCount % 86400 = 0 then (if 6 ≤ s.rtc.wday then 0 else s.rtc.wday + 1) else s.rtc.wday)
  (∀ s : State, Answers .rtcSecond s (fun t =>
    steps s t ∧ (s.rtc.osc = true → s.bit R.RTC_STATUS 1 = true → t.fld R.RTC_CAL0 26 24 = t.rtc.wday % 8))) ∧
  (∀ (s : State) (v : Cv), Answers (.viewSecond v) s (steps s)) ∧
  (∀ s : State, s.rtc.osc = true → s.bit R.RTC_STATUS 4 = true → Answers .rtcSetApply s (fun t =>
    t.rtc.wday = s.fld R.RTC_SET_CTRL 6 4 ∧ (s.bit R.RTC_SET_CTRL 0 = true → t.fld R.RTC_CAL0 26 24 = t.rtc.wday)))
end

