-- ==== Sys2Proof/Laws/Table.lean ====
section
/-! SUPPORT. The tables: reading after writing, and the canonical form, which every settled state has. -/
namespace Sys2Proof.Machine

variable {β : Type}

@[simp] theorem cellGet_nil (d : Nat → β) (k : Nat) : cellGet d [] k = d k := rfl
theorem cellGet_cons (d : Nat → β) (j : Nat) (v : β) (t : List (Nat × β)) (k : Nat) :
    cellGet d ((j, v) :: t) k = if j = k then v else cellGet d t k := rfl
/-- A read after a write: the value written, and every other key as before. -/
theorem cellGet_put (d : Nat → β) (l : List (Nat × β)) (k j : Nat) (v : β) :
    cellGet d (cellPut l k v) j = if k = j then v else cellGet d l j := rfl
@[simp] theorem cellGet_put_same (d : Nat → β) (l : List (Nat × β)) (k : Nat) (v : β) : cellGet d (cellPut l k v) k = v := by
  simp [cellGet_put]
@[simp] theorem cellGet_put_other (d : Nat → β) (l : List (Nat × β)) {k j : Nat} (v : β) (h : k ≠ j) :
    cellGet d (cellPut l k v) j = cellGet d l j := by
  simp [cellGet_put, h]

variable [DecidableEq β]

/-- The keys of a canonical table lie above `b`. -/
def cellAbove (b : Nat) (l : List (Nat × β)) : Prop := ∀ e ∈ l, b < e.1

theorem cellWf_cons (d : Nat → β) (k : Nat) (v : β) (t : List (Nat × β)) :
    cellWf d ((k, v) :: t) = true ↔ v ≠ d k ∧ cellAbove k t ∧ cellWf d t = true := by
  induction t generalizing k v with
  | nil => simp [cellWf, cellAbove]
  | cons e t ih =>
    obtain ⟨j, w⟩ := e
    constructor
    · intro h
      simp only [cellWf, Bool.and_eq_true, decide_eq_true_eq] at h
      refine ⟨h.1.1, ?_, h.2⟩
      intro x hx
      rcases List.mem_cons.1 hx with rfl | hx
      · exact h.1.2
      · exact lt_trans h.1.2 (((ih j w).1 h.2).2.1 x hx)
    · rintro ⟨h1, h2, h3⟩
      simp only [cellWf, Bool.and_eq_true, decide_eq_true_eq]
      exact ⟨⟨h1, h2 (j, w) (List.mem_cons_self)⟩, h3⟩

theorem cellAbove_ins (d : Nat → β) (b k : Nat) (v : β) (l : List (Nat × β)) (hk : b < k) (h : cellAbove b l) :
    cellAbove b (cellIns d k v l) := by
  induction l with
  | nil => unfold cellIns; split <;> simp [cellAbove, hk]
  | cons e t ih =>
    obtain ⟨j, w⟩ := e
    have ht : cellAbove b t := fun x hx => h x (List.mem_cons_of_mem _ hx)
    have hj : b < j := h (j, w) List.mem_cons_self
    unfold cellIns
    split
    · split
      · exact h
      · intro x hx
        rcases List.mem_cons.1 hx with rfl | hx
        · exact hk
        · exact h x hx
    · split
      · split
        · exact ht
        · intro x hx
          rcases List.mem_cons.1 hx with rfl | hx
          · exact hk
          · exact ht x hx
      · intro x hx
        rcases List.mem_cons.1 hx with rfl | hx
        · exact hj
        · exact ih ht x hx

/-- Inserting keeps the canonical form. -/
theorem cellWf_ins (d : Nat → β) (k : Nat) (v : β) (l : List (Nat × β)) (h : cellWf d l = true) :
    cellWf d (cellIns d k v l) = true := by
  induction l with
  | nil => unfold cellIns; split <;> simp_all [cellWf]
  | cons e t ih =>
    obtain ⟨j, w⟩ := e
    have hw := (cellWf_cons d j w t).1 h
    unfold cellIns
    split
    · rename_i hkj
      split
      · exact h
      · rename_i hv
        rw [cellWf_cons]
        refine ⟨hv, ?_, h⟩
        intro x hx
        rcases List.mem_cons.1 hx with rfl | hx
        · exact hkj
        · exact lt_trans hkj (hw.2.1 x hx)
    · split
      · rename_i hkj
        subst hkj
        split
        · exact hw.2.2
        · rename_i hv
          rw [cellWf_cons]
          exact ⟨hv, hw.2.1, hw.2.2⟩
      · rw [cellWf_cons]
        exact ⟨hw.1, cellAbove_ins d j k v t (by omega) hw.2.1, ih hw.2.2⟩

/-- The canonical form has the canonical form. -/
@[simp] theorem cellWf_canon (d : Nat → β) (l : List (Nat × β)) : cellWf d (cellCanon d l) = true := by
  induction l with
  | nil => rfl
  | cons e t ih => exact cellWf_ins d e.1 e.2 _ ih

theorem cellGet_above (d : Nat → β) (b : Nat) (l : List (Nat × β)) (h : cellAbove b l) : cellGet d l b = d b := by
  induction l with
  | nil => rfl
  | cons e t ih =>
    obtain ⟨j, w⟩ := e
    have hj : b < j := h (j, w) List.mem_cons_self
    rw [cellGet_cons, if_neg (by omega)]
    exact ih (fun x hx => h x (List.mem_cons_of_mem _ hx))

/-- An insertion reads as a write. -/
theorem cellGet_ins (d : Nat → β) (k : Nat) (v : β) (l : List (Nat × β)) (h : cellWf d l = true) (x : Nat) :
    cellGet d (cellIns d k v l) x = if k = x then v else cellGet d l x := by
  induction l with
  | nil =>
    unfold cellIns
    split
    · rename_i hv
      subst hv
      simp only [cellGet_nil]
      split
      · rename_i e; rw [e]
      · rfl
    · rfl
  | cons e t ih =>
    obtain ⟨j, w⟩ := e
    have hw := (cellWf_cons d j w t).1 h
    unfold cellIns
    split
    · rename_i hkj
      split
      · rename_i hv
        by_cases hx : k = x
        · subst hx
          rw [if_pos rfl, cellGet_cons, if_neg (by omega), cellGet_above d k t (fun y hy => lt_trans hkj (hw.2.1 y hy)), hv]
        · rw [if_neg hx]
      · rfl
    · split
      · rename_i hkj
        subst hkj
        split
        · rename_i hv
          by_cases hx : k = x
          · subst hx
            rw [if_pos rfl, cellGet_above d k t hw.2.1, hv]
          · rw [if_neg hx, cellGet_cons, if_neg hx]
        · by_cases hx : k = x
          · rw [if_pos hx, cellGet_cons, if_pos hx]
          · rw [if_neg hx, cellGet_cons, if_neg hx, cellGet_cons, if_neg hx]
      · rename_i hn hne
        rw [cellGet_cons, ih hw.2.2, cellGet_cons]
        by_cases hx : k = x
        · subst hx
          rw [if_neg (fun e => hne e.symm), if_pos rfl, if_pos rfl]
        · simp only [if_neg hx]

/-- The canonical form reads as the table does. -/
@[simp] theorem cellGet_canon (d : Nat → β) (l : List (Nat × β)) (k : Nat) : cellGet d (cellCanon d l) k = cellGet d l k := by
  induction l with
  | nil => rfl
  | cons e t ih =>
    obtain ⟨j, w⟩ := e
    show cellGet d (cellIns d j w (cellCanon d t)) k = _
    rw [cellGet_ins d j w _ (cellWf_canon d t), ih, cellGet_cons]

end Sys2Proof.Machine
end

