-- ==== Sys2Proof/Laws/Word.lean ====
section
/-! SUPPORT. Fields of numbers: the bits of a field read and of a field replaced. -/
namespace Sys2Proof

/-- The bits of a field. -/
theorem testBit_bitsOf (n hi lo i : Nat) : (bitsOf n hi lo).testBit i = (decide (i < hi + 1 - lo) && n.testBit (lo + i)) := by
  simp [bitsOf, Nat.testBit_mod_two_pow, Nat.testBit_div_two_pow, Nat.add_comm]

/-- A number cut at a field. -/
theorem bitsOf_split (n hi lo : Nat) (h : lo ≤ hi) :
    n = (n / 2 ^ (hi + 1)) * 2 ^ (hi + 1) + bitsOf n hi lo * 2 ^ lo + n % 2 ^ lo := by
  have h1 := Nat.div_add_mod n (2 ^ lo)
  have h2 := Nat.div_add_mod (n / 2 ^ lo) (2 ^ (hi + 1 - lo))
  have h4 : (2 : Nat) ^ (hi + 1) = 2 ^ (hi + 1 - lo) * 2 ^ lo := by rw [← Nat.pow_add, Nat.sub_add_cancel (by omega)]
  have h3 : n / 2 ^ lo / 2 ^ (hi + 1 - lo) = n / 2 ^ (hi + 1) := by rw [Nat.div_div_eq_div_mul, Nat.mul_comm, h4]
  rw [h3] at h2
  have h5 : (n / 2 ^ (hi + 1) * 2 ^ (hi + 1 - lo) + n / 2 ^ lo % 2 ^ (hi + 1 - lo)) * 2 ^ lo + n % 2 ^ lo = n := by
    rw [Nat.mul_comm (n / 2 ^ (hi + 1)), h2, Nat.mul_comm]; exact h1
  unfold bitsOf
  rw [Nat.add_mul, Nat.mul_assoc, ← h4] at h5
  exact h5.symm

/-- The bits of a number with a field replaced. -/
theorem testBit_putBits (n hi lo v i : Nat) (h : lo ≤ hi) :
    (putBits n hi lo v).testBit i = if lo ≤ i ∧ i ≤ hi then v.testBit (i - lo) else n.testBit i := by
  have e := bitsOf_split n hi lo h
  have e2 : putBits n hi lo v = 2 ^ (hi + 1) * (n / 2 ^ (hi + 1)) + (2 ^ lo * (v % 2 ^ (hi + 1 - lo)) + n % 2 ^ lo) := by
    unfold putBits
    have : n - bitsOf n hi lo * 2 ^ lo = (n / 2 ^ (hi + 1)) * 2 ^ (hi + 1) + n % 2 ^ lo := by omega
    rw [this, Nat.mul_comm (2 ^ (hi + 1)), Nat.mul_comm (2 ^ lo)]; omega
  have b1 : n % 2 ^ lo < 2 ^ lo := Nat.mod_lt _ (Nat.two_pow_pos _)
  have b2 : v % 2 ^ (hi + 1 - lo) < 2 ^ (hi + 1 - lo) := Nat.mod_lt _ (Nat.two_pow_pos _)
  have b3 : 2 ^ lo * (v % 2 ^ (hi + 1 - lo)) + n % 2 ^ lo < 2 ^ (hi + 1) := by
    have h4 : (2 : Nat) ^ (hi + 1) = 2 ^ lo * 2 ^ (hi + 1 - lo) := by rw [← Nat.pow_add, Nat.add_sub_cancel' (by omega)]
    have h6 : 2 ^ lo * (v % 2 ^ (hi + 1 - lo) + 1) ≤ 2 ^ lo * 2 ^ (hi + 1 - lo) := Nat.mul_le_mul_left _ b2
    rw [h4]; rw [Nat.mul_add] at h6; omega
  rw [e2, Nat.testBit_two_pow_mul_add _ b3, Nat.testBit_two_pow_mul_add _ b1]
  by_cases hl : i < lo
  · rw [if_pos (by omega), if_pos hl, if_neg (by omega), Nat.testBit_mod_two_pow]; simp [hl]
  · by_cases hh : i < hi + 1
    · rw [if_pos hh, if_neg hl, if_pos (by omega), Nat.testBit_mod_two_pow]
      simp only [Bool.and_eq_right_iff_imp, decide_eq_true_eq]; omega
    · rw [if_neg hh, if_neg (by omega), Nat.testBit_div_two_pow]
      congr 1; omega

/-- A field reads as what was put into it. -/
theorem bitsOf_putBits_same (n hi lo v : Nat) (h : lo ≤ hi) : bitsOf (putBits n hi lo v) hi lo = v % 2 ^ (hi + 1 - lo) := by
  apply Nat.eq_of_testBit_eq; intro i
  rw [testBit_bitsOf, testBit_putBits _ _ _ _ _ h, Nat.testBit_mod_two_pow]
  by_cases hi' : i < hi + 1 - lo
  · rw [if_pos (by omega), Nat.add_sub_cancel_left]
  · simp [hi']

/-- A field that does not meet the one replaced reads as before. -/
theorem bitsOf_putBits_other (n hi lo v hi' lo' : Nat) (h : lo ≤ hi) (hd : hi' < lo ∨ hi < lo') :
    bitsOf (putBits n hi lo v) hi' lo' = bitsOf n hi' lo' := by
  apply Nat.eq_of_testBit_eq; intro i
  rw [testBit_bitsOf, testBit_putBits _ _ _ _ _ h, testBit_bitsOf]
  by_cases hw : i < hi' + 1 - lo'
  · rw [if_neg (by omega)]
  · simp [hw]

/-- A field below bit 32 does not see what lies above. -/
theorem bitsOf_mod_two32 (n hi lo : Nat) (h : hi < 32) : bitsOf (n % 4294967296) hi lo = bitsOf n hi lo := by
  apply Nat.eq_of_testBit_eq; intro i
  rw [testBit_bitsOf, testBit_bitsOf, show (4294967296 : Nat) = 2 ^ 32 from rfl, Nat.testBit_mod_two_pow]
  by_cases hw : i < hi + 1 - lo
  · simp only [hw, decide_true, Bool.true_and, Bool.and_eq_right_iff_imp, decide_eq_true_eq]; omega
  · simp [hw]

/-- A bit below bit 32 does not see what lies above. -/
theorem testBit_mod_two32 (n i : Nat) (h : i < 32) : (n % 4294967296).testBit i = n.testBit i := by
  rw [show (4294967296 : Nat) = 2 ^ 32 from rfl, Nat.testBit_mod_two_pow]; simp [h]

@[simp] theorem b2n_true : b2n true = 1 := rfl
@[simp] theorem b2n_false : b2n false = 0 := rfl
theorem b2n_testBit_zero (b : Bool) : (b2n b).testBit 0 = b := by cases b <;> rfl
theorem b2n_lt (b : Bool) : b2n b < 2 := by cases b <;> decide

end Sys2Proof
end

