-- ==== Sys2Proof/Laws/State.lean ====
section
/-! SUPPORT. The state under its named operations: one lemma for each field and each operation that leaves it, and what a
register reads as after a write. -/
namespace Sys2Proof.Machine

/-- A fold keeps what each of its steps keeps. -/
theorem foldl_keep {α β γ : Type} (f : β → α → β) (g : β → γ) (h : ∀ b a, g (f b a) = g b) (l : List α) (b : β) :
    g (l.foldl f b) = g b := by
  induction l generalizing b with
  | nil => rfl
  | cons a t ih => exact (ih (f b a)).trans (h b a)

/-! ### The fields under wr -/

@[simp] theorem State.wr_pending (s : State) (k v : Nat) : (s.wr k v).pending = s.pending := rfl
@[simp] theorem State.wr_paths (s : State) (k v : Nat) : (s.wr k v).paths = s.paths := rfl
@[simp] theorem State.wr_held (s : State) (k v : Nat) : (s.wr k v).held = s.held := rfl
@[simp] theorem State.wr_now (s : State) (k v : Nat) : (s.wr k v).now = s.now := rfl
@[simp] theorem State.wr_freeCtr (s : State) (k v : Nat) : (s.wr k v).freeCtr = s.freeCtr := rfl
@[simp] theorem State.wr_out (s : State) (k v : Nat) : (s.wr k v).out = s.out := rfl
@[simp] theorem State.wr_pwr (s : State) (k v : Nat) : (s.wr k v).pwr = s.pwr := rfl
@[simp] theorem State.wr_ldr (s : State) (k v : Nat) : (s.wr k v).ldr = s.ldr := rfl
@[simp] theorem State.wr_host (s : State) (k v : Nat) : (s.wr k v).host = s.host := rfl
@[simp] theorem State.wr_tmu (s : State) (k v : Nat) : (s.wr k v).tmu = s.tmu := rfl
@[simp] theorem State.wr_evt (s : State) (k v : Nat) : (s.wr k v).evt = s.evt := rfl
@[simp] theorem State.wr_key (s : State) (k v : Nat) : (s.wr k v).key = s.key := rfl
@[simp] theorem State.wr_net (s : State) (k v : Nat) : (s.wr k v).net = s.net := rfl
@[simp] theorem State.wr_ing (s : State) (k v : Nat) : (s.wr k v).ing = s.ing := rfl
@[simp] theorem State.wr_laneA (s : State) (k v : Nat) : (s.wr k v).laneA = s.laneA := rfl
@[simp] theorem State.wr_laneB (s : State) (k v : Nat) : (s.wr k v).laneB = s.laneB := rfl
@[simp] theorem State.wr_slu (s : State) (k v : Nat) : (s.wr k v).slu = s.slu := rfl
@[simp] theorem State.wr_xl (s : State) (k v : Nat) : (s.wr k v).xl = s.xl := rfl
@[simp] theorem State.wr_nrg (s : State) (k v : Nat) : (s.wr k v).nrg = s.nrg := rfl
@[simp] theorem State.wr_nrgA (s : State) (k v : Nat) : (s.wr k v).nrgA = s.nrgA := rfl
@[simp] theorem State.wr_nrgB (s : State) (k v : Nat) : (s.wr k v).nrgB = s.nrgB := rfl
@[simp] theorem State.wr_rcd (s : State) (k v : Nat) : (s.wr k v).rcd = s.rcd := rfl
@[simp] theorem State.wr_recA (s : State) (k v : Nat) : (s.wr k v).recA = s.recA := rfl
@[simp] theorem State.wr_recB (s : State) (k v : Nat) : (s.wr k v).recB = s.recB := rfl
@[simp] theorem State.wr_wdn (s : State) (k v : Nat) : (s.wr k v).wdn = s.wdn := rfl
@[simp] theorem State.wr_sep (s : State) (k v : Nat) : (s.wr k v).sep = s.sep := rfl
@[simp] theorem State.wr_rtc (s : State) (k v : Nat) : (s.wr k v).rtc = s.rtc := rfl

/-! ### The fields under setF -/

@[simp] theorem State.setF_pending (s : State) (k hi lo v : Nat) : (s.setF k hi lo v).pending = s.pending := rfl
@[simp] theorem State.setF_paths (s : State) (k hi lo v : Nat) : (s.setF k hi lo v).paths = s.paths := rfl
@[simp] theorem State.setF_held (s : State) (k hi lo v : Nat) : (s.setF k hi lo v).held = s.held := rfl
@[simp] theorem State.setF_now (s : State) (k hi lo v : Nat) : (s.setF k hi lo v).now = s.now := rfl
@[simp] theorem State.setF_freeCtr (s : State) (k hi lo v : Nat) : (s.setF k hi lo v).freeCtr = s.freeCtr := rfl
@[simp] theorem State.setF_out (s : State) (k hi lo v : Nat) : (s.setF k hi lo v).out = s.out := rfl
@[simp] theorem State.setF_pwr (s : State) (k hi lo v : Nat) : (s.setF k hi lo v).pwr = s.pwr := rfl
@[simp] theorem State.setF_ldr (s : State) (k hi lo v : Nat) : (s.setF k hi lo v).ldr = s.ldr := rfl
@[simp] theorem State.setF_host (s : State) (k hi lo v : Nat) : (s.setF k hi lo v).host = s.host := rfl
@[simp] theorem State.setF_tmu (s : State) (k hi lo v : Nat) : (s.setF k hi lo v).tmu = s.tmu := rfl
@[simp] theorem State.setF_evt (s : State) (k hi lo v : Nat) : (s.setF k hi lo v).evt = s.evt := rfl
@[simp] theorem State.setF_key (s : State) (k hi lo v : Nat) : (s.setF k hi lo v).key = s.key := rfl
@[simp] theorem State.setF_net (s : State) (k hi lo v : Nat) : (s.setF k hi lo v).net = s.net := rfl
@[simp] theorem State.setF_ing (s : State) (k hi lo v : Nat) : (s.setF k hi lo v).ing = s.ing := rfl
@[simp] theorem State.setF_laneA (s : State) (k hi lo v : Nat) : (s.setF k hi lo v).laneA = s.laneA := rfl
@[simp] theorem State.setF_laneB (s : State) (k hi lo v : Nat) : (s.setF k hi lo v).laneB = s.laneB := rfl
@[simp] theorem State.setF_slu (s : State) (k hi lo v : Nat) : (s.setF k hi lo v).slu = s.slu := rfl
@[simp] theorem State.setF_xl (s : State) (k hi lo v : Nat) : (s.setF k hi lo v).xl = s.xl := rfl
@[simp] theorem State.setF_nrg (s : State) (k hi lo v : Nat) : (s.setF k hi lo v).nrg = s.nrg := rfl
@[simp] theorem State.setF_nrgA (s : State) (k hi lo v : Nat) : (s.setF k hi lo v).nrgA = s.nrgA := rfl
@[simp] theorem State.setF_nrgB (s : State) (k hi lo v : Nat) : (s.setF k hi lo v).nrgB = s.nrgB := rfl
@[simp] theorem State.setF_rcd (s : State) (k hi lo v : Nat) : (s.setF k hi lo v).rcd = s.rcd := rfl
@[simp] theorem State.setF_recA (s : State) (k hi lo v : Nat) : (s.setF k hi lo v).recA = s.recA := rfl
@[simp] theorem State.setF_recB (s : State) (k hi lo v : Nat) : (s.setF k hi lo v).recB = s.recB := rfl
@[simp] theorem State.setF_wdn (s : State) (k hi lo v : Nat) : (s.setF k hi lo v).wdn = s.wdn := rfl
@[simp] theorem State.setF_sep (s : State) (k hi lo v : Nat) : (s.setF k hi lo v).sep = s.sep := rfl
@[simp] theorem State.setF_rtc (s : State) (k hi lo v : Nat) : (s.setF k hi lo v).rtc = s.rtc := rfl

/-! ### The fields under orR -/

@[simp] theorem State.orR_pending (s : State) (k m : Nat) : (s.orR k m).pending = s.pending := rfl
@[simp] theorem State.orR_paths (s : State) (k m : Nat) : (s.orR k m).paths = s.paths := rfl
@[simp] theorem State.orR_held (s : State) (k m : Nat) : (s.orR k m).held = s.held := rfl
@[simp] theorem State.orR_now (s : State) (k m : Nat) : (s.orR k m).now = s.now := rfl
@[simp] theorem State.orR_freeCtr (s : State) (k m : Nat) : (s.orR k m).freeCtr = s.freeCtr := rfl
@[simp] theorem State.orR_out (s : State) (k m : Nat) : (s.orR k m).out = s.out := rfl
@[simp] theorem State.orR_pwr (s : State) (k m : Nat) : (s.orR k m).pwr = s.pwr := rfl
@[simp] theorem State.orR_ldr (s : State) (k m : Nat) : (s.orR k m).ldr = s.ldr := rfl
@[simp] theorem State.orR_host (s : State) (k m : Nat) : (s.orR k m).host = s.host := rfl
@[simp] theorem State.orR_tmu (s : State) (k m : Nat) : (s.orR k m).tmu = s.tmu := rfl
@[simp] theorem State.orR_evt (s : State) (k m : Nat) : (s.orR k m).evt = s.evt := rfl
@[simp] theorem State.orR_key (s : State) (k m : Nat) : (s.orR k m).key = s.key := rfl
@[simp] theorem State.orR_net (s : State) (k m : Nat) : (s.orR k m).net = s.net := rfl
@[simp] theorem State.orR_ing (s : State) (k m : Nat) : (s.orR k m).ing = s.ing := rfl
@[simp] theorem State.orR_laneA (s : State) (k m : Nat) : (s.orR k m).laneA = s.laneA := rfl
@[simp] theorem State.orR_laneB (s : State) (k m : Nat) : (s.orR k m).laneB = s.laneB := rfl
@[simp] theorem State.orR_slu (s : State) (k m : Nat) : (s.orR k m).slu = s.slu := rfl
@[simp] theorem State.orR_xl (s : State) (k m : Nat) : (s.orR k m).xl = s.xl := rfl
@[simp] theorem State.orR_nrg (s : State) (k m : Nat) : (s.orR k m).nrg = s.nrg := rfl
@[simp] theorem State.orR_nrgA (s : State) (k m : Nat) : (s.orR k m).nrgA = s.nrgA := rfl
@[simp] theorem State.orR_nrgB (s : State) (k m : Nat) : (s.orR k m).nrgB = s.nrgB := rfl
@[simp] theorem State.orR_rcd (s : State) (k m : Nat) : (s.orR k m).rcd = s.rcd := rfl
@[simp] theorem State.orR_recA (s : State) (k m : Nat) : (s.orR k m).recA = s.recA := rfl
@[simp] theorem State.orR_recB (s : State) (k m : Nat) : (s.orR k m).recB = s.recB := rfl
@[simp] theorem State.orR_wdn (s : State) (k m : Nat) : (s.orR k m).wdn = s.wdn := rfl
@[simp] theorem State.orR_sep (s : State) (k m : Nat) : (s.orR k m).sep = s.sep := rfl
@[simp] theorem State.orR_rtc (s : State) (k m : Nat) : (s.orR k m).rtc = s.rtc := rfl

/-! ### The fields under addSat -/

@[simp] theorem State.addSat_pending (s : State) (k n : Nat) : (s.addSat k n).pending = s.pending := rfl
@[simp] theorem State.addSat_paths (s : State) (k n : Nat) : (s.addSat k n).paths = s.paths := rfl
@[simp] theorem State.addSat_held (s : State) (k n : Nat) : (s.addSat k n).held = s.held := rfl
@[simp] theorem State.addSat_now (s : State) (k n : Nat) : (s.addSat k n).now = s.now := rfl
@[simp] theorem State.addSat_freeCtr (s : State) (k n : Nat) : (s.addSat k n).freeCtr = s.freeCtr := rfl
@[simp] theorem State.addSat_out (s : State) (k n : Nat) : (s.addSat k n).out = s.out := rfl
@[simp] theorem State.addSat_pwr (s : State) (k n : Nat) : (s.addSat k n).pwr = s.pwr := rfl
@[simp] theorem State.addSat_ldr (s : State) (k n : Nat) : (s.addSat k n).ldr = s.ldr := rfl
@[simp] theorem State.addSat_host (s : State) (k n : Nat) : (s.addSat k n).host = s.host := rfl
@[simp] theorem State.addSat_tmu (s : State) (k n : Nat) : (s.addSat k n).tmu = s.tmu := rfl
@[simp] theorem State.addSat_evt (s : State) (k n : Nat) : (s.addSat k n).evt = s.evt := rfl
@[simp] theorem State.addSat_key (s : State) (k n : Nat) : (s.addSat k n).key = s.key := rfl
@[simp] theorem State.addSat_net (s : State) (k n : Nat) : (s.addSat k n).net = s.net := rfl
@[simp] theorem State.addSat_ing (s : State) (k n : Nat) : (s.addSat k n).ing = s.ing := rfl
@[simp] theorem State.addSat_laneA (s : State) (k n : Nat) : (s.addSat k n).laneA = s.laneA := rfl
@[simp] theorem State.addSat_laneB (s : State) (k n : Nat) : (s.addSat k n).laneB = s.laneB := rfl
@[simp] theorem State.addSat_slu (s : State) (k n : Nat) : (s.addSat k n).slu = s.slu := rfl
@[simp] theorem State.addSat_xl (s : State) (k n : Nat) : (s.addSat k n).xl = s.xl := rfl
@[simp] theorem State.addSat_nrg (s : State) (k n : Nat) : (s.addSat k n).nrg = s.nrg := rfl
@[simp] theorem State.addSat_nrgA (s : State) (k n : Nat) : (s.addSat k n).nrgA = s.nrgA := rfl
@[simp] theorem State.addSat_nrgB (s : State) (k n : Nat) : (s.addSat k n).nrgB = s.nrgB := rfl
@[simp] theorem State.addSat_rcd (s : State) (k n : Nat) : (s.addSat k n).rcd = s.rcd := rfl
@[simp] theorem State.addSat_recA (s : State) (k n : Nat) : (s.addSat k n).recA = s.recA := rfl
@[simp] theorem State.addSat_recB (s : State) (k n : Nat) : (s.addSat k n).recB = s.recB := rfl
@[simp] theorem State.addSat_wdn (s : State) (k n : Nat) : (s.addSat k n).wdn = s.wdn := rfl
@[simp] theorem State.addSat_sep (s : State) (k n : Nat) : (s.addSat k n).sep = s.sep := rfl
@[simp] theorem State.addSat_rtc (s : State) (k n : Nat) : (s.addSat k n).rtc = s.rtc := rfl

/-! ### The fields under addWrap -/

@[simp] theorem State.addWrap_pending (s : State) (k n : Nat) : (s.addWrap k n).pending = s.pending := rfl
@[simp] theorem State.addWrap_paths (s : State) (k n : Nat) : (s.addWrap k n).paths = s.paths := rfl
@[simp] theorem State.addWrap_held (s : State) (k n : Nat) : (s.addWrap k n).held = s.held := rfl
@[simp] theorem State.addWrap_now (s : State) (k n : Nat) : (s.addWrap k n).now = s.now := rfl
@[simp] theorem State.addWrap_freeCtr (s : State) (k n : Nat) : (s.addWrap k n).freeCtr = s.freeCtr := rfl
@[simp] theorem State.addWrap_out (s : State) (k n : Nat) : (s.addWrap k n).out = s.out := rfl
@[simp] theorem State.addWrap_pwr (s : State) (k n : Nat) : (s.addWrap k n).pwr = s.pwr := rfl
@[simp] theorem State.addWrap_ldr (s : State) (k n : Nat) : (s.addWrap k n).ldr = s.ldr := rfl
@[simp] theorem State.addWrap_host (s : State) (k n : Nat) : (s.addWrap k n).host = s.host := rfl
@[simp] theorem State.addWrap_tmu (s : State) (k n : Nat) : (s.addWrap k n).tmu = s.tmu := rfl
@[simp] theorem State.addWrap_evt (s : State) (k n : Nat) : (s.addWrap k n).evt = s.evt := rfl
@[simp] theorem State.addWrap_key (s : State) (k n : Nat) : (s.addWrap k n).key = s.key := rfl
@[simp] theorem State.addWrap_net (s : State) (k n : Nat) : (s.addWrap k n).net = s.net := rfl
@[simp] theorem State.addWrap_ing (s : State) (k n : Nat) : (s.addWrap k n).ing = s.ing := rfl
@[simp] theorem State.addWrap_laneA (s : State) (k n : Nat) : (s.addWrap k n).laneA = s.laneA := rfl
@[simp] theorem State.addWrap_laneB (s : State) (k n : Nat) : (s.addWrap k n).laneB = s.laneB := rfl
@[simp] theorem State.addWrap_slu (s : State) (k n : Nat) : (s.addWrap k n).slu = s.slu := rfl
@[simp] theorem State.addWrap_xl (s : State) (k n : Nat) : (s.addWrap k n).xl = s.xl := rfl
@[simp] theorem State.addWrap_nrg (s : State) (k n : Nat) : (s.addWrap k n).nrg = s.nrg := rfl
@[simp] theorem State.addWrap_nrgA (s : State) (k n : Nat) : (s.addWrap k n).nrgA = s.nrgA := rfl
@[simp] theorem State.addWrap_nrgB (s : State) (k n : Nat) : (s.addWrap k n).nrgB = s.nrgB := rfl
@[simp] theorem State.addWrap_rcd (s : State) (k n : Nat) : (s.addWrap k n).rcd = s.rcd := rfl
@[simp] theorem State.addWrap_recA (s : State) (k n : Nat) : (s.addWrap k n).recA = s.recA := rfl
@[simp] theorem State.addWrap_recB (s : State) (k n : Nat) : (s.addWrap k n).recB = s.recB := rfl
@[simp] theorem State.addWrap_wdn (s : State) (k n : Nat) : (s.addWrap k n).wdn = s.wdn := rfl
@[simp] theorem State.addWrap_sep (s : State) (k n : Nat) : (s.addWrap k n).sep = s.sep := rfl
@[simp] theorem State.addWrap_rtc (s : State) (k n : Nat) : (s.addWrap k n).rtc = s.rtc := rfl

/-! ### The fields under addSatF -/

@[simp] theorem State.addSatF_pending (s : State) (k hi lo n : Nat) : (s.addSatF k hi lo n).pending = s.pending := rfl
@[simp] theorem State.addSatF_paths (s : State) (k hi lo n : Nat) : (s.addSatF k hi lo n).paths = s.paths := rfl
@[simp] theorem State.addSatF_held (s : State) (k hi lo n : Nat) : (s.addSatF k hi lo n).held = s.held := rfl
@[simp] theorem State.addSatF_now (s : State) (k hi lo n : Nat) : (s.addSatF k hi lo n).now = s.now := rfl
@[simp] theorem State.addSatF_freeCtr (s : State) (k hi lo n : Nat) : (s.addSatF k hi lo n).freeCtr = s.freeCtr := rfl
@[simp] theorem State.addSatF_out (s : State) (k hi lo n : Nat) : (s.addSatF k hi lo n).out = s.out := rfl
@[simp] theorem State.addSatF_pwr (s : State) (k hi lo n : Nat) : (s.addSatF k hi lo n).pwr = s.pwr := rfl
@[simp] theorem State.addSatF_ldr (s : State) (k hi lo n : Nat) : (s.addSatF k hi lo n).ldr = s.ldr := rfl
@[simp] theorem State.addSatF_host (s : State) (k hi lo n : Nat) : (s.addSatF k hi lo n).host = s.host := rfl
@[simp] theorem State.addSatF_tmu (s : State) (k hi lo n : Nat) : (s.addSatF k hi lo n).tmu = s.tmu := rfl
@[simp] theorem State.addSatF_evt (s : State) (k hi lo n : Nat) : (s.addSatF k hi lo n).evt = s.evt := rfl
@[simp] theorem State.addSatF_key (s : State) (k hi lo n : Nat) : (s.addSatF k hi lo n).key = s.key := rfl
@[simp] theorem State.addSatF_net (s : State) (k hi lo n : Nat) : (s.addSatF k hi lo n).net = s.net := rfl
@[simp] theorem State.addSatF_ing (s : State) (k hi lo n : Nat) : (s.addSatF k hi lo n).ing = s.ing := rfl
@[simp] theorem State.addSatF_laneA (s : State) (k hi lo n : Nat) : (s.addSatF k hi lo n).laneA = s.laneA := rfl
@[simp] theorem State.addSatF_laneB (s : State) (k hi lo n : Nat) : (s.addSatF k hi lo n).laneB = s.laneB := rfl
@[simp] theorem State.addSatF_slu (s : State) (k hi lo n : Nat) : (s.addSatF k hi lo n).slu = s.slu := rfl
@[simp] theorem State.addSatF_xl (s : State) (k hi lo n : Nat) : (s.addSatF k hi lo n).xl = s.xl := rfl
@[simp] theorem State.addSatF_nrg (s : State) (k hi lo n : Nat) : (s.addSatF k hi lo n).nrg = s.nrg := rfl
@[simp] theorem State.addSatF_nrgA (s : State) (k hi lo n : Nat) : (s.addSatF k hi lo n).nrgA = s.nrgA := rfl
@[simp] theorem State.addSatF_nrgB (s : State) (k hi lo n : Nat) : (s.addSatF k hi lo n).nrgB = s.nrgB := rfl
@[simp] theorem State.addSatF_rcd (s : State) (k hi lo n : Nat) : (s.addSatF k hi lo n).rcd = s.rcd := rfl
@[simp] theorem State.addSatF_recA (s : State) (k hi lo n : Nat) : (s.addSatF k hi lo n).recA = s.recA := rfl
@[simp] theorem State.addSatF_recB (s : State) (k hi lo n : Nat) : (s.addSatF k hi lo n).recB = s.recB := rfl
@[simp] theorem State.addSatF_wdn (s : State) (k hi lo n : Nat) : (s.addSatF k hi lo n).wdn = s.wdn := rfl
@[simp] theorem State.addSatF_sep (s : State) (k hi lo n : Nat) : (s.addSatF k hi lo n).sep = s.sep := rfl
@[simp] theorem State.addSatF_rtc (s : State) (k hi lo n : Nat) : (s.addSatF k hi lo n).rtc = s.rtc := rfl

/-! ### The fields under addWrapF -/

@[simp] theorem State.addWrapF_pending (s : State) (k hi lo n : Nat) : (s.addWrapF k hi lo n).pending = s.pending := rfl
@[simp] theorem State.addWrapF_paths (s : State) (k hi lo n : Nat) : (s.addWrapF k hi lo n).paths = s.paths := rfl
@[simp] theorem State.addWrapF_held (s : State) (k hi lo n : Nat) : (s.addWrapF k hi lo n).held = s.held := rfl
@[simp] theorem State.addWrapF_now (s : State) (k hi lo n : Nat) : (s.addWrapF k hi lo n).now = s.now := rfl
@[simp] theorem State.addWrapF_freeCtr (s : State) (k hi lo n : Nat) : (s.addWrapF k hi lo n).freeCtr = s.freeCtr := rfl
@[simp] theorem State.addWrapF_out (s : State) (k hi lo n : Nat) : (s.addWrapF k hi lo n).out = s.out := rfl
@[simp] theorem State.addWrapF_pwr (s : State) (k hi lo n : Nat) : (s.addWrapF k hi lo n).pwr = s.pwr := rfl
@[simp] theorem State.addWrapF_ldr (s : State) (k hi lo n : Nat) : (s.addWrapF k hi lo n).ldr = s.ldr := rfl
@[simp] theorem State.addWrapF_host (s : State) (k hi lo n : Nat) : (s.addWrapF k hi lo n).host = s.host := rfl
@[simp] theorem State.addWrapF_tmu (s : State) (k hi lo n : Nat) : (s.addWrapF k hi lo n).tmu = s.tmu := rfl
@[simp] theorem State.addWrapF_evt (s : State) (k hi lo n : Nat) : (s.addWrapF k hi lo n).evt = s.evt := rfl
@[simp] theorem State.addWrapF_key (s : State) (k hi lo n : Nat) : (s.addWrapF k hi lo n).key = s.key := rfl
@[simp] theorem State.addWrapF_net (s : State) (k hi lo n : Nat) : (s.addWrapF k hi lo n).net = s.net := rfl
@[simp] theorem State.addWrapF_ing (s : State) (k hi lo n : Nat) : (s.addWrapF k hi lo n).ing = s.ing := rfl
@[simp] theorem State.addWrapF_laneA (s : State) (k hi lo n : Nat) : (s.addWrapF k hi lo n).laneA = s.laneA := rfl
@[simp] theorem State.addWrapF_laneB (s : State) (k hi lo n : Nat) : (s.addWrapF k hi lo n).laneB = s.laneB := rfl
@[simp] theorem State.addWrapF_slu (s : State) (k hi lo n : Nat) : (s.addWrapF k hi lo n).slu = s.slu := rfl
@[simp] theorem State.addWrapF_xl (s : State) (k hi lo n : Nat) : (s.addWrapF k hi lo n).xl = s.xl := rfl
@[simp] theorem State.addWrapF_nrg (s : State) (k hi lo n : Nat) : (s.addWrapF k hi lo n).nrg = s.nrg := rfl
@[simp] theorem State.addWrapF_nrgA (s : State) (k hi lo n : Nat) : (s.addWrapF k hi lo n).nrgA = s.nrgA := rfl
@[simp] theorem State.addWrapF_nrgB (s : State) (k hi lo n : Nat) : (s.addWrapF k hi lo n).nrgB = s.nrgB := rfl
@[simp] theorem State.addWrapF_rcd (s : State) (k hi lo n : Nat) : (s.addWrapF k hi lo n).rcd = s.rcd := rfl
@[simp] theorem State.addWrapF_recA (s : State) (k hi lo n : Nat) : (s.addWrapF k hi lo n).recA = s.recA := rfl
@[simp] theorem State.addWrapF_recB (s : State) (k hi lo n : Nat) : (s.addWrapF k hi lo n).recB = s.recB := rfl
@[simp] theorem State.addWrapF_wdn (s : State) (k hi lo n : Nat) : (s.addWrapF k hi lo n).wdn = s.wdn := rfl
@[simp] theorem State.addWrapF_sep (s : State) (k hi lo n : Nat) : (s.addWrapF k hi lo n).sep = s.sep := rfl
@[simp] theorem State.addWrapF_rtc (s : State) (k hi lo n : Nat) : (s.addWrapF k hi lo n).rtc = s.rtc := rfl

/-! ### The fields under wr64 -/

@[simp] theorem State.wr64_pending (s : State) (k v : Nat) : (s.wr64 k v).pending = s.pending := rfl
@[simp] theorem State.wr64_paths (s : State) (k v : Nat) : (s.wr64 k v).paths = s.paths := rfl
@[simp] theorem State.wr64_held (s : State) (k v : Nat) : (s.wr64 k v).held = s.held := rfl
@[simp] theorem State.wr64_now (s : State) (k v : Nat) : (s.wr64 k v).now = s.now := rfl
@[simp] theorem State.wr64_freeCtr (s : State) (k v : Nat) : (s.wr64 k v).freeCtr = s.freeCtr := rfl
@[simp] theorem State.wr64_out (s : State) (k v : Nat) : (s.wr64 k v).out = s.out := rfl
@[simp] theorem State.wr64_pwr (s : State) (k v : Nat) : (s.wr64 k v).pwr = s.pwr := rfl
@[simp] theorem State.wr64_ldr (s : State) (k v : Nat) : (s.wr64 k v).ldr = s.ldr := rfl
@[simp] theorem State.wr64_host (s : State) (k v : Nat) : (s.wr64 k v).host = s.host := rfl
@[simp] theorem State.wr64_tmu (s : State) (k v : Nat) : (s.wr64 k v).tmu = s.tmu := rfl
@[simp] theorem State.wr64_evt (s : State) (k v : Nat) : (s.wr64 k v).evt = s.evt := rfl
@[simp] theorem State.wr64_key (s : State) (k v : Nat) : (s.wr64 k v).key = s.key := rfl
@[simp] theorem State.wr64_net (s : State) (k v : Nat) : (s.wr64 k v).net = s.net := rfl
@[simp] theorem State.wr64_ing (s : State) (k v : Nat) : (s.wr64 k v).ing = s.ing := rfl
@[simp] theorem State.wr64_laneA (s : State) (k v : Nat) : (s.wr64 k v).laneA = s.laneA := rfl
@[simp] theorem State.wr64_laneB (s : State) (k v : Nat) : (s.wr64 k v).laneB = s.laneB := rfl
@[simp] theorem State.wr64_slu (s : State) (k v : Nat) : (s.wr64 k v).slu = s.slu := rfl
@[simp] theorem State.wr64_xl (s : State) (k v : Nat) : (s.wr64 k v).xl = s.xl := rfl
@[simp] theorem State.wr64_nrg (s : State) (k v : Nat) : (s.wr64 k v).nrg = s.nrg := rfl
@[simp] theorem State.wr64_nrgA (s : State) (k v : Nat) : (s.wr64 k v).nrgA = s.nrgA := rfl
@[simp] theorem State.wr64_nrgB (s : State) (k v : Nat) : (s.wr64 k v).nrgB = s.nrgB := rfl
@[simp] theorem State.wr64_rcd (s : State) (k v : Nat) : (s.wr64 k v).rcd = s.rcd := rfl
@[simp] theorem State.wr64_recA (s : State) (k v : Nat) : (s.wr64 k v).recA = s.recA := rfl
@[simp] theorem State.wr64_recB (s : State) (k v : Nat) : (s.wr64 k v).recB = s.recB := rfl
@[simp] theorem State.wr64_wdn (s : State) (k v : Nat) : (s.wr64 k v).wdn = s.wdn := rfl
@[simp] theorem State.wr64_sep (s : State) (k v : Nat) : (s.wr64 k v).sep = s.sep := rfl
@[simp] theorem State.wr64_rtc (s : State) (k v : Nat) : (s.wr64 k v).rtc = s.rtc := rfl

/-! ### The fields under setB -/

@[simp] theorem State.setB_pending (s : State) (k i : Nat) (b : Bool) : (s.setB k i b).pending = s.pending := rfl
@[simp] theorem State.setB_paths (s : State) (k i : Nat) (b : Bool) : (s.setB k i b).paths = s.paths := rfl
@[simp] theorem State.setB_held (s : State) (k i : Nat) (b : Bool) : (s.setB k i b).held = s.held := rfl
@[simp] theorem State.setB_now (s : State) (k i : Nat) (b : Bool) : (s.setB k i b).now = s.now := rfl
@[simp] theorem State.setB_freeCtr (s : State) (k i : Nat) (b : Bool) : (s.setB k i b).freeCtr = s.freeCtr := rfl
@[simp] theorem State.setB_out (s : State) (k i : Nat) (b : Bool) : (s.setB k i b).out = s.out := rfl
@[simp] theorem State.setB_pwr (s : State) (k i : Nat) (b : Bool) : (s.setB k i b).pwr = s.pwr := rfl
@[simp] theorem State.setB_ldr (s : State) (k i : Nat) (b : Bool) : (s.setB k i b).ldr = s.ldr := rfl
@[simp] theorem State.setB_host (s : State) (k i : Nat) (b : Bool) : (s.setB k i b).host = s.host := rfl
@[simp] theorem State.setB_tmu (s : State) (k i : Nat) (b : Bool) : (s.setB k i b).tmu = s.tmu := rfl
@[simp] theorem State.setB_evt (s : State) (k i : Nat) (b : Bool) : (s.setB k i b).evt = s.evt := rfl
@[simp] theorem State.setB_key (s : State) (k i : Nat) (b : Bool) : (s.setB k i b).key = s.key := rfl
@[simp] theorem State.setB_net (s : State) (k i : Nat) (b : Bool) : (s.setB k i b).net = s.net := rfl
@[simp] theorem State.setB_ing (s : State) (k i : Nat) (b : Bool) : (s.setB k i b).ing = s.ing := rfl
@[simp] theorem State.setB_laneA (s : State) (k i : Nat) (b : Bool) : (s.setB k i b).laneA = s.laneA := rfl
@[simp] theorem State.setB_laneB (s : State) (k i : Nat) (b : Bool) : (s.setB k i b).laneB = s.laneB := rfl
@[simp] theorem State.setB_slu (s : State) (k i : Nat) (b : Bool) : (s.setB k i b).slu = s.slu := rfl
@[simp] theorem State.setB_xl (s : State) (k i : Nat) (b : Bool) : (s.setB k i b).xl = s.xl := rfl
@[simp] theorem State.setB_nrg (s : State) (k i : Nat) (b : Bool) : (s.setB k i b).nrg = s.nrg := rfl
@[simp] theorem State.setB_nrgA (s : State) (k i : Nat) (b : Bool) : (s.setB k i b).nrgA = s.nrgA := rfl
@[simp] theorem State.setB_nrgB (s : State) (k i : Nat) (b : Bool) : (s.setB k i b).nrgB = s.nrgB := rfl
@[simp] theorem State.setB_rcd (s : State) (k i : Nat) (b : Bool) : (s.setB k i b).rcd = s.rcd := rfl
@[simp] theorem State.setB_recA (s : State) (k i : Nat) (b : Bool) : (s.setB k i b).recA = s.recA := rfl
@[simp] theorem State.setB_recB (s : State) (k i : Nat) (b : Bool) : (s.setB k i b).recB = s.recB := rfl
@[simp] theorem State.setB_wdn (s : State) (k i : Nat) (b : Bool) : (s.setB k i b).wdn = s.wdn := rfl
@[simp] theorem State.setB_sep (s : State) (k i : Nat) (b : Bool) : (s.setB k i b).sep = s.sep := rfl
@[simp] theorem State.setB_rtc (s : State) (k i : Nat) (b : Bool) : (s.setB k i b).rtc = s.rtc := rfl
/-! ### The fields under crest -/

@[simp] theorem State.crest_pending (s : State) (k v : Nat) : (s.crest k v).pending = s.pending := by unfold State.crest; split <;> rfl
@[simp] theorem State.crest_paths (s : State) (k v : Nat) : (s.crest k v).paths = s.paths := by unfold State.crest; split <;> rfl
@[simp] theorem State.crest_held (s : State) (k v : Nat) : (s.crest k v).held = s.held := by unfold State.crest; split <;> rfl
@[simp] theorem State.crest_now (s : State) (k v : Nat) : (s.crest k v).now = s.now := by unfold State.crest; split <;> rfl
@[simp] theorem State.crest_freeCtr (s : State) (k v : Nat) : (s.crest k v).freeCtr = s.freeCtr := by unfold State.crest; split <;> rfl
@[simp] theorem State.crest_out (s : State) (k v : Nat) : (s.crest k v).out = s.out := by unfold State.crest; split <;> rfl
@[simp] theorem State.crest_pwr (s : State) (k v : Nat) : (s.crest k v).pwr = s.pwr := by unfold State.crest; split <;> rfl
@[simp] theorem State.crest_ldr (s : State) (k v : Nat) : (s.crest k v).ldr = s.ldr := by unfold State.crest; split <;> rfl
@[simp] theorem State.crest_host (s : State) (k v : Nat) : (s.crest k v).host = s.host := by unfold State.crest; split <;> rfl
@[simp] theorem State.crest_tmu (s : State) (k v : Nat) : (s.crest k v).tmu = s.tmu := by unfold State.crest; split <;> rfl
@[simp] theorem State.crest_evt (s : State) (k v : Nat) : (s.crest k v).evt = s.evt := by unfold State.crest; split <;> rfl
@[simp] theorem State.crest_key (s : State) (k v : Nat) : (s.crest k v).key = s.key := by unfold State.crest; split <;> rfl
@[simp] theorem State.crest_net (s : State) (k v : Nat) : (s.crest k v).net = s.net := by unfold State.crest; split <;> rfl
@[simp] theorem State.crest_ing (s : State) (k v : Nat) : (s.crest k v).ing = s.ing := by unfold State.crest; split <;> rfl
@[simp] theorem State.crest_laneA (s : State) (k v : Nat) : (s.crest k v).laneA = s.laneA := by unfold State.crest; split <;> rfl
@[simp] theorem State.crest_laneB (s : State) (k v : Nat) : (s.crest k v).laneB = s.laneB := by unfold State.crest; split <;> rfl
@[simp] theorem State.crest_slu (s : State) (k v : Nat) : (s.crest k v).slu = s.slu := by unfold State.crest; split <;> rfl
@[simp] theorem State.crest_xl (s : State) (k v : Nat) : (s.crest k v).xl = s.xl := by unfold State.crest; split <;> rfl
@[simp] theorem State.crest_nrg (s : State) (k v : Nat) : (s.crest k v).nrg = s.nrg := by unfold State.crest; split <;> rfl
@[simp] theorem State.crest_nrgA (s : State) (k v : Nat) : (s.crest k v).nrgA = s.nrgA := by unfold State.crest; split <;> rfl
@[simp] theorem State.crest_nrgB (s : State) (k v : Nat) : (s.crest k v).nrgB = s.nrgB := by unfold State.crest; split <;> rfl
@[simp] theorem State.crest_rcd (s : State) (k v : Nat) : (s.crest k v).rcd = s.rcd := by unfold State.crest; split <;> rfl
@[simp] theorem State.crest_recA (s : State) (k v : Nat) : (s.crest k v).recA = s.recA := by unfold State.crest; split <;> rfl
@[simp] theorem State.crest_recB (s : State) (k v : Nat) : (s.crest k v).recB = s.recB := by unfold State.crest; split <;> rfl
@[simp] theorem State.crest_wdn (s : State) (k v : Nat) : (s.crest k v).wdn = s.wdn := by unfold State.crest; split <;> rfl
@[simp] theorem State.crest_sep (s : State) (k v : Nat) : (s.crest k v).sep = s.sep := by unfold State.crest; split <;> rfl
@[simp] theorem State.crest_rtc (s : State) (k v : Nat) : (s.crest k v).rtc = s.rtc := by unfold State.crest; split <;> rfl
/-! ### The fields under wrs -/

@[simp] theorem State.wrs_pending (s : State) (k : Nat) (ws : List Nat) : (s.wrs k ws).pending = s.pending := by unfold State.wrs; exact foldl_keep (fun (s : State) (w : Nat × Nat) => s.wr (k + 4 * w.2) w.1) State.pending (fun _ _ => rfl) _ _
@[simp] theorem State.wrs_paths (s : State) (k : Nat) (ws : List Nat) : (s.wrs k ws).paths = s.paths := by unfold State.wrs; exact foldl_keep (fun (s : State) (w : Nat × Nat) => s.wr (k + 4 * w.2) w.1) State.paths (fun _ _ => rfl) _ _
@[simp] theorem State.wrs_held (s : State) (k : Nat) (ws : List Nat) : (s.wrs k ws).held = s.held := by unfold State.wrs; exact foldl_keep (fun (s : State) (w : Nat × Nat) => s.wr (k + 4 * w.2) w.1) State.held (fun _ _ => rfl) _ _
@[simp] theorem State.wrs_now (s : State) (k : Nat) (ws : List Nat) : (s.wrs k ws).now = s.now := by unfold State.wrs; exact foldl_keep (fun (s : State) (w : Nat × Nat) => s.wr (k + 4 * w.2) w.1) State.now (fun _ _ => rfl) _ _
@[simp] theorem State.wrs_freeCtr (s : State) (k : Nat) (ws : List Nat) : (s.wrs k ws).freeCtr = s.freeCtr := by unfold State.wrs; exact foldl_keep (fun (s : State) (w : Nat × Nat) => s.wr (k + 4 * w.2) w.1) State.freeCtr (fun _ _ => rfl) _ _
@[simp] theorem State.wrs_out (s : State) (k : Nat) (ws : List Nat) : (s.wrs k ws).out = s.out := by unfold State.wrs; exact foldl_keep (fun (s : State) (w : Nat × Nat) => s.wr (k + 4 * w.2) w.1) State.out (fun _ _ => rfl) _ _
@[simp] theorem State.wrs_pwr (s : State) (k : Nat) (ws : List Nat) : (s.wrs k ws).pwr = s.pwr := by unfold State.wrs; exact foldl_keep (fun (s : State) (w : Nat × Nat) => s.wr (k + 4 * w.2) w.1) State.pwr (fun _ _ => rfl) _ _
@[simp] theorem State.wrs_ldr (s : State) (k : Nat) (ws : List Nat) : (s.wrs k ws).ldr = s.ldr := by unfold State.wrs; exact foldl_keep (fun (s : State) (w : Nat × Nat) => s.wr (k + 4 * w.2) w.1) State.ldr (fun _ _ => rfl) _ _
@[simp] theorem State.wrs_host (s : State) (k : Nat) (ws : List Nat) : (s.wrs k ws).host = s.host := by unfold State.wrs; exact foldl_keep (fun (s : State) (w : Nat × Nat) => s.wr (k + 4 * w.2) w.1) State.host (fun _ _ => rfl) _ _
@[simp] theorem State.wrs_tmu (s : State) (k : Nat) (ws : List Nat) : (s.wrs k ws).tmu = s.tmu := by unfold State.wrs; exact foldl_keep (fun (s : State) (w : Nat × Nat) => s.wr (k + 4 * w.2) w.1) State.tmu (fun _ _ => rfl) _ _
@[simp] theorem State.wrs_evt (s : State) (k : Nat) (ws : List Nat) : (s.wrs k ws).evt = s.evt := by unfold State.wrs; exact foldl_keep (fun (s : State) (w : Nat × Nat) => s.wr (k + 4 * w.2) w.1) State.evt (fun _ _ => rfl) _ _
@[simp] theorem State.wrs_key (s : State) (k : Nat) (ws : List Nat) : (s.wrs k ws).key = s.key := by unfold State.wrs; exact foldl_keep (fun (s : State) (w : Nat × Nat) => s.wr (k + 4 * w.2) w.1) State.key (fun _ _ => rfl) _ _
@[simp] theorem State.wrs_net (s : State) (k : Nat) (ws : List Nat) : (s.wrs k ws).net = s.net := by unfold State.wrs; exact foldl_keep (fun (s : State) (w : Nat × Nat) => s.wr (k + 4 * w.2) w.1) State.net (fun _ _ => rfl) _ _
@[simp] theorem State.wrs_ing (s : State) (k : Nat) (ws : List Nat) : (s.wrs k ws).ing = s.ing := by unfold State.wrs; exact foldl_keep (fun (s : State) (w : Nat × Nat) => s.wr (k + 4 * w.2) w.1) State.ing (fun _ _ => rfl) _ _
@[simp] theorem State.wrs_laneA (s : State) (k : Nat) (ws : List Nat) : (s.wrs k ws).laneA = s.laneA := by unfold State.wrs; exact foldl_keep (fun (s : State) (w : Nat × Nat) => s.wr (k + 4 * w.2) w.1) State.laneA (fun _ _ => rfl) _ _
@[simp] theorem State.wrs_laneB (s : State) (k : Nat) (ws : List Nat) : (s.wrs k ws).laneB = s.laneB := by unfold State.wrs; exact foldl_keep (fun (s : State) (w : Nat × Nat) => s.wr (k + 4 * w.2) w.1) State.laneB (fun _ _ => rfl) _ _
@[simp] theorem State.wrs_slu (s : State) (k : Nat) (ws : List Nat) : (s.wrs k ws).slu = s.slu := by unfold State.wrs; exact foldl_keep (fun (s : State) (w : Nat × Nat) => s.wr (k + 4 * w.2) w.1) State.slu (fun _ _ => rfl) _ _
@[simp] theorem State.wrs_xl (s : State) (k : Nat) (ws : List Nat) : (s.wrs k ws).xl = s.xl := by unfold State.wrs; exact foldl_keep (fun (s : State) (w : Nat × Nat) => s.wr (k + 4 * w.2) w.1) State.xl (fun _ _ => rfl) _ _
@[simp] theorem State.wrs_nrg (s : State) (k : Nat) (ws : List Nat) : (s.wrs k ws).nrg = s.nrg := by unfold State.wrs; exact foldl_keep (fun (s : State) (w : Nat × Nat) => s.wr (k + 4 * w.2) w.1) State.nrg (fun _ _ => rfl) _ _
@[simp] theorem State.wrs_nrgA (s : State) (k : Nat) (ws : List Nat) : (s.wrs k ws).nrgA = s.nrgA := by unfold State.wrs; exact foldl_keep (fun (s : State) (w : Nat × Nat) => s.wr (k + 4 * w.2) w.1) State.nrgA (fun _ _ => rfl) _ _
@[simp] theorem State.wrs_nrgB (s : State) (k : Nat) (ws : List Nat) : (s.wrs k ws).nrgB = s.nrgB := by unfold State.wrs; exact foldl_keep (fun (s : State) (w : Nat × Nat) => s.wr (k + 4 * w.2) w.1) State.nrgB (fun _ _ => rfl) _ _
@[simp] theorem State.wrs_rcd (s : State) (k : Nat) (ws : List Nat) : (s.wrs k ws).rcd = s.rcd := by unfold State.wrs; exact foldl_keep (fun (s : State) (w : Nat × Nat) => s.wr (k + 4 * w.2) w.1) State.rcd (fun _ _ => rfl) _ _
@[simp] theorem State.wrs_recA (s : State) (k : Nat) (ws : List Nat) : (s.wrs k ws).recA = s.recA := by unfold State.wrs; exact foldl_keep (fun (s : State) (w : Nat × Nat) => s.wr (k + 4 * w.2) w.1) State.recA (fun _ _ => rfl) _ _
@[simp] theorem State.wrs_recB (s : State) (k : Nat) (ws : List Nat) : (s.wrs k ws).recB = s.recB := by unfold State.wrs; exact foldl_keep (fun (s : State) (w : Nat × Nat) => s.wr (k + 4 * w.2) w.1) State.recB (fun _ _ => rfl) _ _
@[simp] theorem State.wrs_wdn (s : State) (k : Nat) (ws : List Nat) : (s.wrs k ws).wdn = s.wdn := by unfold State.wrs; exact foldl_keep (fun (s : State) (w : Nat × Nat) => s.wr (k + 4 * w.2) w.1) State.wdn (fun _ _ => rfl) _ _
@[simp] theorem State.wrs_sep (s : State) (k : Nat) (ws : List Nat) : (s.wrs k ws).sep = s.sep := by unfold State.wrs; exact foldl_keep (fun (s : State) (w : Nat × Nat) => s.wr (k + 4 * w.2) w.1) State.sep (fun _ _ => rfl) _ _
@[simp] theorem State.wrs_rtc (s : State) (k : Nat) (ws : List Nat) : (s.wrs k ws).rtc = s.rtc := by unfold State.wrs; exact foldl_keep (fun (s : State) (w : Nat × Nat) => s.wr (k + 4 * w.2) w.1) State.rtc (fun _ _ => rfl) _ _
/-! ### The fields under emit, takeFree and the words of a path -/

@[simp] theorem State.emit_pending (s : State) (x : Out) : (s.emit x).pending = s.pending := rfl
@[simp] theorem State.takeFree_pending (s : State) : s.takeFree.2.pending = s.pending := rfl
@[simp] theorem State.pathPut_pending (s : State) (p : Path) (k v : Nat) : (s.pathPut p k v).pending = s.pending := rfl
@[simp] theorem State.heldPut_pending (s : State) (p : Path) (k v : Nat) : (s.heldPut p k v).pending = s.pending := rfl
@[simp] theorem State.heldDel_pending (s : State) (p : Path) (k : Nat) : (s.heldDel p k).pending = s.pending := rfl
@[simp] theorem State.emit_regs (s : State) (x : Out) : (s.emit x).regs = s.regs := rfl
@[simp] theorem State.takeFree_regs (s : State) : s.takeFree.2.regs = s.regs := rfl
@[simp] theorem State.pathPut_regs (s : State) (p : Path) (k v : Nat) : (s.pathPut p k v).regs = s.regs := rfl
@[simp] theorem State.heldPut_regs (s : State) (p : Path) (k v : Nat) : (s.heldPut p k v).regs = s.regs := rfl
@[simp] theorem State.heldDel_regs (s : State) (p : Path) (k : Nat) : (s.heldDel p k).regs = s.regs := rfl
@[simp] theorem State.emit_paths (s : State) (x : Out) : (s.emit x).paths = s.paths := rfl
@[simp] theorem State.takeFree_paths (s : State) : s.takeFree.2.paths = s.paths := rfl
@[simp] theorem State.heldPut_paths (s : State) (p : Path) (k v : Nat) : (s.heldPut p k v).paths = s.paths := rfl
@[simp] theorem State.heldDel_paths (s : State) (p : Path) (k : Nat) : (s.heldDel p k).paths = s.paths := rfl
@[simp] theorem State.emit_held (s : State) (x : Out) : (s.emit x).held = s.held := rfl
@[simp] theorem State.takeFree_held (s : State) : s.takeFree.2.held = s.held := rfl
@[simp] theorem State.pathPut_held (s : State) (p : Path) (k v : Nat) : (s.pathPut p k v).held = s.held := rfl
@[simp] theorem State.emit_now (s : State) (x : Out) : (s.emit x).now = s.now := rfl
@[simp] theorem State.takeFree_now (s : State) : s.takeFree.2.now = s.now := rfl
@[simp] theorem State.pathPut_now (s : State) (p : Path) (k v : Nat) : (s.pathPut p k v).now = s.now := rfl
@[simp] theorem State.heldPut_now (s : State) (p : Path) (k v : Nat) : (s.heldPut p k v).now = s.now := rfl
@[simp] theorem State.heldDel_now (s : State) (p : Path) (k : Nat) : (s.heldDel p k).now = s.now := rfl
@[simp] theorem State.emit_freeCtr (s : State) (x : Out) : (s.emit x).freeCtr = s.freeCtr := rfl
@[simp] theorem State.pathPut_freeCtr (s : State) (p : Path) (k v : Nat) : (s.pathPut p k v).freeCtr = s.freeCtr := rfl
@[simp] theorem State.heldPut_freeCtr (s : State) (p : Path) (k v : Nat) : (s.heldPut p k v).freeCtr = s.freeCtr := rfl
@[simp] theorem State.heldDel_freeCtr (s : State) (p : Path) (k : Nat) : (s.heldDel p k).freeCtr = s.freeCtr := rfl
@[simp] theorem State.takeFree_out (s : State) : s.takeFree.2.out = s.out := rfl
@[simp] theorem State.pathPut_out (s : State) (p : Path) (k v : Nat) : (s.pathPut p k v).out = s.out := rfl
@[simp] theorem State.heldPut_out (s : State) (p : Path) (k v : Nat) : (s.heldPut p k v).out = s.out := rfl
@[simp] theorem State.heldDel_out (s : State) (p : Path) (k : Nat) : (s.heldDel p k).out = s.out := rfl
@[simp] theorem State.emit_pwr (s : State) (x : Out) : (s.emit x).pwr = s.pwr := rfl
@[simp] theorem State.takeFree_pwr (s : State) : s.takeFree.2.pwr = s.pwr := rfl
@[simp] theorem State.pathPut_pwr (s : State) (p : Path) (k v : Nat) : (s.pathPut p k v).pwr = s.pwr := rfl
@[simp] theorem State.heldPut_pwr (s : State) (p : Path) (k v : Nat) : (s.heldPut p k v).pwr = s.pwr := rfl
@[simp] theorem State.heldDel_pwr (s : State) (p : Path) (k : Nat) : (s.heldDel p k).pwr = s.pwr := rfl
@[simp] theorem State.emit_ldr (s : State) (x : Out) : (s.emit x).ldr = s.ldr := rfl
@[simp] theorem State.takeFree_ldr (s : State) : s.takeFree.2.ldr = s.ldr := rfl
@[simp] theorem State.pathPut_ldr (s : State) (p : Path) (k v : Nat) : (s.pathPut p k v).ldr = s.ldr := rfl
@[simp] theorem State.heldPut_ldr (s : State) (p : Path) (k v : Nat) : (s.heldPut p k v).ldr = s.ldr := rfl
@[simp] theorem State.heldDel_ldr (s : State) (p : Path) (k : Nat) : (s.heldDel p k).ldr = s.ldr := rfl
@[simp] theorem State.emit_host (s : State) (x : Out) : (s.emit x).host = s.host := rfl
@[simp] theorem State.takeFree_host (s : State) : s.takeFree.2.host = s.host := rfl
@[simp] theorem State.pathPut_host (s : State) (p : Path) (k v : Nat) : (s.pathPut p k v).host = s.host := rfl
@[simp] theorem State.heldPut_host (s : State) (p : Path) (k v : Nat) : (s.heldPut p k v).host = s.host := rfl
@[simp] theorem State.heldDel_host (s : State) (p : Path) (k : Nat) : (s.heldDel p k).host = s.host := rfl
@[simp] theorem State.emit_tmu (s : State) (x : Out) : (s.emit x).tmu = s.tmu := rfl
@[simp] theorem State.takeFree_tmu (s : State) : s.takeFree.2.tmu = s.tmu := rfl
@[simp] theorem State.pathPut_tmu (s : State) (p : Path) (k v : Nat) : (s.pathPut p k v).tmu = s.tmu := rfl
@[simp] theorem State.heldPut_tmu (s : State) (p : Path) (k v : Nat) : (s.heldPut p k v).tmu = s.tmu := rfl
@[simp] theorem State.heldDel_tmu (s : State) (p : Path) (k : Nat) : (s.heldDel p k).tmu = s.tmu := rfl
@[simp] theorem State.emit_evt (s : State) (x : Out) : (s.emit x).evt = s.evt := rfl
@[simp] theorem State.takeFree_evt (s : State) : s.takeFree.2.evt = s.evt := rfl
@[simp] theorem State.pathPut_evt (s : State) (p : Path) (k v : Nat) : (s.pathPut p k v).evt = s.evt := rfl
@[simp] theorem State.heldPut_evt (s : State) (p : Path) (k v : Nat) : (s.heldPut p k v).evt = s.evt := rfl
@[simp] theorem State.heldDel_evt (s : State) (p : Path) (k : Nat) : (s.heldDel p k).evt = s.evt := rfl
@[simp] theorem State.emit_key (s : State) (x : Out) : (s.emit x).key = s.key := rfl
@[simp] theorem State.takeFree_key (s : State) : s.takeFree.2.key = s.key := rfl
@[simp] theorem State.pathPut_key (s : State) (p : Path) (k v : Nat) : (s.pathPut p k v).key = s.key := rfl
@[simp] theorem State.heldPut_key (s : State) (p : Path) (k v : Nat) : (s.heldPut p k v).key = s.key := rfl
@[simp] theorem State.heldDel_key (s : State) (p : Path) (k : Nat) : (s.heldDel p k).key = s.key := rfl
@[simp] theorem State.emit_net (s : State) (x : Out) : (s.emit x).net = s.net := rfl
@[simp] theorem State.takeFree_net (s : State) : s.takeFree.2.net = s.net := rfl
@[simp] theorem State.pathPut_net (s : State) (p : Path) (k v : Nat) : (s.pathPut p k v).net = s.net := rfl
@[simp] theorem State.heldPut_net (s : State) (p : Path) (k v : Nat) : (s.heldPut p k v).net = s.net := rfl
@[simp] theorem State.heldDel_net (s : State) (p : Path) (k : Nat) : (s.heldDel p k).net = s.net := rfl
@[simp] theorem State.emit_ing (s : State) (x : Out) : (s.emit x).ing = s.ing := rfl
@[simp] theorem State.takeFree_ing (s : State) : s.takeFree.2.ing = s.ing := rfl
@[simp] theorem State.pathPut_ing (s : State) (p : Path) (k v : Nat) : (s.pathPut p k v).ing = s.ing := rfl
@[simp] theorem State.heldPut_ing (s : State) (p : Path) (k v : Nat) : (s.heldPut p k v).ing = s.ing := rfl
@[simp] theorem State.heldDel_ing (s : State) (p : Path) (k : Nat) : (s.heldDel p k).ing = s.ing := rfl
@[simp] theorem State.emit_laneA (s : State) (x : Out) : (s.emit x).laneA = s.laneA := rfl
@[simp] theorem State.takeFree_laneA (s : State) : s.takeFree.2.laneA = s.laneA := rfl
@[simp] theorem State.pathPut_laneA (s : State) (p : Path) (k v : Nat) : (s.pathPut p k v).laneA = s.laneA := rfl
@[simp] theorem State.heldPut_laneA (s : State) (p : Path) (k v : Nat) : (s.heldPut p k v).laneA = s.laneA := rfl
@[simp] theorem State.heldDel_laneA (s : State) (p : Path) (k : Nat) : (s.heldDel p k).laneA = s.laneA := rfl
@[simp] theorem State.emit_laneB (s : State) (x : Out) : (s.emit x).laneB = s.laneB := rfl
@[simp] theorem State.takeFree_laneB (s : State) : s.takeFree.2.laneB = s.laneB := rfl
@[simp] theorem State.pathPut_laneB (s : State) (p : Path) (k v : Nat) : (s.pathPut p k v).laneB = s.laneB := rfl
@[simp] theorem State.heldPut_laneB (s : State) (p : Path) (k v : Nat) : (s.heldPut p k v).laneB = s.laneB := rfl
@[simp] theorem State.heldDel_laneB (s : State) (p : Path) (k : Nat) : (s.heldDel p k).laneB = s.laneB := rfl
@[simp] theorem State.emit_slu (s : State) (x : Out) : (s.emit x).slu = s.slu := rfl
@[simp] theorem State.takeFree_slu (s : State) : s.takeFree.2.slu = s.slu := rfl
@[simp] theorem State.pathPut_slu (s : State) (p : Path) (k v : Nat) : (s.pathPut p k v).slu = s.slu := rfl
@[simp] theorem State.heldPut_slu (s : State) (p : Path) (k v : Nat) : (s.heldPut p k v).slu = s.slu := rfl
@[simp] theorem State.heldDel_slu (s : State) (p : Path) (k : Nat) : (s.heldDel p k).slu = s.slu := rfl
@[simp] theorem State.emit_xl (s : State) (x : Out) : (s.emit x).xl = s.xl := rfl
@[simp] theorem State.takeFree_xl (s : State) : s.takeFree.2.xl = s.xl := rfl
@[simp] theorem State.pathPut_xl (s : State) (p : Path) (k v : Nat) : (s.pathPut p k v).xl = s.xl := rfl
@[simp] theorem State.heldPut_xl (s : State) (p : Path) (k v : Nat) : (s.heldPut p k v).xl = s.xl := rfl
@[simp] theorem State.heldDel_xl (s : State) (p : Path) (k : Nat) : (s.heldDel p k).xl = s.xl := rfl
@[simp] theorem State.emit_nrg (s : State) (x : Out) : (s.emit x).nrg = s.nrg := rfl
@[simp] theorem State.takeFree_nrg (s : State) : s.takeFree.2.nrg = s.nrg := rfl
@[simp] theorem State.pathPut_nrg (s : State) (p : Path) (k v : Nat) : (s.pathPut p k v).nrg = s.nrg := rfl
@[simp] theorem State.heldPut_nrg (s : State) (p : Path) (k v : Nat) : (s.heldPut p k v).nrg = s.nrg := rfl
@[simp] theorem State.heldDel_nrg (s : State) (p : Path) (k : Nat) : (s.heldDel p k).nrg = s.nrg := rfl
@[simp] theorem State.emit_nrgA (s : State) (x : Out) : (s.emit x).nrgA = s.nrgA := rfl
@[simp] theorem State.takeFree_nrgA (s : State) : s.takeFree.2.nrgA = s.nrgA := rfl
@[simp] theorem State.pathPut_nrgA (s : State) (p : Path) (k v : Nat) : (s.pathPut p k v).nrgA = s.nrgA := rfl
@[simp] theorem State.heldPut_nrgA (s : State) (p : Path) (k v : Nat) : (s.heldPut p k v).nrgA = s.nrgA := rfl
@[simp] theorem State.heldDel_nrgA (s : State) (p : Path) (k : Nat) : (s.heldDel p k).nrgA = s.nrgA := rfl
@[simp] theorem State.emit_nrgB (s : State) (x : Out) : (s.emit x).nrgB = s.nrgB := rfl
@[simp] theorem State.takeFree_nrgB (s : State) : s.takeFree.2.nrgB = s.nrgB := rfl
@[simp] theorem State.pathPut_nrgB (s : State) (p : Path) (k v : Nat) : (s.pathPut p k v).nrgB = s.nrgB := rfl
@[simp] theorem State.heldPut_nrgB (s : State) (p : Path) (k v : Nat) : (s.heldPut p k v).nrgB = s.nrgB := rfl
@[simp] theorem State.heldDel_nrgB (s : State) (p : Path) (k : Nat) : (s.heldDel p k).nrgB = s.nrgB := rfl
@[simp] theorem State.emit_rcd (s : State) (x : Out) : (s.emit x).rcd = s.rcd := rfl
@[simp] theorem State.takeFree_rcd (s : State) : s.takeFree.2.rcd = s.rcd := rfl
@[simp] theorem State.pathPut_rcd (s : State) (p : Path) (k v : Nat) : (s.pathPut p k v).rcd = s.rcd := rfl
@[simp] theorem State.heldPut_rcd (s : State) (p : Path) (k v : Nat) : (s.heldPut p k v).rcd = s.rcd := rfl
@[simp] theorem State.heldDel_rcd (s : State) (p : Path) (k : Nat) : (s.heldDel p k).rcd = s.rcd := rfl
@[simp] theorem State.emit_recA (s : State) (x : Out) : (s.emit x).recA = s.recA := rfl
@[simp] theorem State.takeFree_recA (s : State) : s.takeFree.2.recA = s.recA := rfl
@[simp] theorem State.pathPut_recA (s : State) (p : Path) (k v : Nat) : (s.pathPut p k v).recA = s.recA := rfl
@[simp] theorem State.heldPut_recA (s : State) (p : Path) (k v : Nat) : (s.heldPut p k v).recA = s.recA := rfl
@[simp] theorem State.heldDel_recA (s : State) (p : Path) (k : Nat) : (s.heldDel p k).recA = s.recA := rfl
@[simp] theorem State.emit_recB (s : State) (x : Out) : (s.emit x).recB = s.recB := rfl
@[simp] theorem State.takeFree_recB (s : State) : s.takeFree.2.recB = s.recB := rfl
@[simp] theorem State.pathPut_recB (s : State) (p : Path) (k v : Nat) : (s.pathPut p k v).recB = s.recB := rfl
@[simp] theorem State.heldPut_recB (s : State) (p : Path) (k v : Nat) : (s.heldPut p k v).recB = s.recB := rfl
@[simp] theorem State.heldDel_recB (s : State) (p : Path) (k : Nat) : (s.heldDel p k).recB = s.recB := rfl
@[simp] theorem State.emit_wdn (s : State) (x : Out) : (s.emit x).wdn = s.wdn := rfl
@[simp] theorem State.takeFree_wdn (s : State) : s.takeFree.2.wdn = s.wdn := rfl
@[simp] theorem State.pathPut_wdn (s : State) (p : Path) (k v : Nat) : (s.pathPut p k v).wdn = s.wdn := rfl
@[simp] theorem State.heldPut_wdn (s : State) (p : Path) (k v : Nat) : (s.heldPut p k v).wdn = s.wdn := rfl
@[simp] theorem State.heldDel_wdn (s : State) (p : Path) (k : Nat) : (s.heldDel p k).wdn = s.wdn := rfl
@[simp] theorem State.emit_sep (s : State) (x : Out) : (s.emit x).sep = s.sep := rfl
@[simp] theorem State.takeFree_sep (s : State) : s.takeFree.2.sep = s.sep := rfl
@[simp] theorem State.pathPut_sep (s : State) (p : Path) (k v : Nat) : (s.pathPut p k v).sep = s.sep := rfl
@[simp] theorem State.heldPut_sep (s : State) (p : Path) (k v : Nat) : (s.heldPut p k v).sep = s.sep := rfl
@[simp] theorem State.heldDel_sep (s : State) (p : Path) (k : Nat) : (s.heldDel p k).sep = s.sep := rfl
@[simp] theorem State.emit_rtc (s : State) (x : Out) : (s.emit x).rtc = s.rtc := rfl
@[simp] theorem State.takeFree_rtc (s : State) : s.takeFree.2.rtc = s.rtc := rfl
@[simp] theorem State.pathPut_rtc (s : State) (p : Path) (k v : Nat) : (s.pathPut p k v).rtc = s.rtc := rfl
@[simp] theorem State.heldPut_rtc (s : State) (p : Path) (k v : Nat) : (s.heldPut p k v).rtc = s.rtc := rfl
@[simp] theorem State.heldDel_rtc (s : State) (p : Path) (k : Nat) : (s.heldDel p k).rtc = s.rtc := rfl
/-! ### The fields under an event record -/

@[simp] theorem State.event_pending (s : State) (t r : Nat) (d : List Nat) : (s.event t r d).pending = s.pending := by unfold State.event; split <;> rfl
@[simp] theorem State.event_paths (s : State) (t r : Nat) (d : List Nat) : (s.event t r d).paths = s.paths := by unfold State.event; split <;> rfl
@[simp] theorem State.event_held (s : State) (t r : Nat) (d : List Nat) : (s.event t r d).held = s.held := by unfold State.event; split <;> rfl
@[simp] theorem State.event_now (s : State) (t r : Nat) (d : List Nat) : (s.event t r d).now = s.now := by unfold State.event; split <;> rfl
@[simp] theorem State.event_freeCtr (s : State) (t r : Nat) (d : List Nat) : (s.event t r d).freeCtr = s.freeCtr := by unfold State.event; split <;> rfl
@[simp] theorem State.event_out (s : State) (t r : Nat) (d : List Nat) : (s.event t r d).out = s.out := by unfold State.event; split <;> rfl
@[simp] theorem State.event_pwr (s : State) (t r : Nat) (d : List Nat) : (s.event t r d).pwr = s.pwr := by unfold State.event; split <;> rfl
@[simp] theorem State.event_ldr (s : State) (t r : Nat) (d : List Nat) : (s.event t r d).ldr = s.ldr := by unfold State.event; split <;> rfl
@[simp] theorem State.event_host (s : State) (t r : Nat) (d : List Nat) : (s.event t r d).host = s.host := by unfold State.event; split <;> rfl
@[simp] theorem State.event_tmu (s : State) (t r : Nat) (d : List Nat) : (s.event t r d).tmu = s.tmu := by unfold State.event; split <;> rfl
@[simp] theorem State.event_key (s : State) (t r : Nat) (d : List Nat) : (s.event t r d).key = s.key := by unfold State.event; split <;> rfl
@[simp] theorem State.event_net (s : State) (t r : Nat) (d : List Nat) : (s.event t r d).net = s.net := by unfold State.event; split <;> rfl
@[simp] theorem State.event_ing (s : State) (t r : Nat) (d : List Nat) : (s.event t r d).ing = s.ing := by unfold State.event; split <;> rfl
@[simp] theorem State.event_laneA (s : State) (t r : Nat) (d : List Nat) : (s.event t r d).laneA = s.laneA := by unfold State.event; split <;> rfl
@[simp] theorem State.event_laneB (s : State) (t r : Nat) (d : List Nat) : (s.event t r d).laneB = s.laneB := by unfold State.event; split <;> rfl
@[simp] theorem State.event_slu (s : State) (t r : Nat) (d : List Nat) : (s.event t r d).slu = s.slu := by unfold State.event; split <;> rfl
@[simp] theorem State.event_xl (s : State) (t r : Nat) (d : List Nat) : (s.event t r d).xl = s.xl := by unfold State.event; split <;> rfl
@[simp] theorem State.event_nrg (s : State) (t r : Nat) (d : List Nat) : (s.event t r d).nrg = s.nrg := by unfold State.event; split <;> rfl
@[simp] theorem State.event_nrgA (s : State) (t r : Nat) (d : List Nat) : (s.event t r d).nrgA = s.nrgA := by unfold State.event; split <;> rfl
@[simp] theorem State.event_nrgB (s : State) (t r : Nat) (d : List Nat) : (s.event t r d).nrgB = s.nrgB := by unfold State.event; split <;> rfl
@[simp] theorem State.event_rcd (s : State) (t r : Nat) (d : List Nat) : (s.event t r d).rcd = s.rcd := by unfold State.event; split <;> rfl
@[simp] theorem State.event_recA (s : State) (t r : Nat) (d : List Nat) : (s.event t r d).recA = s.recA := by unfold State.event; split <;> rfl
@[simp] theorem State.event_recB (s : State) (t r : Nat) (d : List Nat) : (s.event t r d).recB = s.recB := by unfold State.event; split <;> rfl
@[simp] theorem State.event_wdn (s : State) (t r : Nat) (d : List Nat) : (s.event t r d).wdn = s.wdn := by unfold State.event; split <;> rfl
@[simp] theorem State.event_sep (s : State) (t r : Nat) (d : List Nat) : (s.event t r d).sep = s.sep := by unfold State.event; split <;> rfl
@[simp] theorem State.event_rtc (s : State) (t r : Nat) (d : List Nat) : (s.event t r d).rtc = s.rtc := by unfold State.event; split <;> rfl
@[simp] theorem State.eventOpen_pending (s : State) (t : Nat) : (s.eventOpen t).pending = s.pending := by unfold State.eventOpen; simp
@[simp] theorem State.eventOpen_paths (s : State) (t : Nat) : (s.eventOpen t).paths = s.paths := by unfold State.eventOpen; simp
@[simp] theorem State.eventOpen_held (s : State) (t : Nat) : (s.eventOpen t).held = s.held := by unfold State.eventOpen; simp
@[simp] theorem State.eventOpen_now (s : State) (t : Nat) : (s.eventOpen t).now = s.now := by unfold State.eventOpen; simp
@[simp] theorem State.eventOpen_out (s : State) (t : Nat) : (s.eventOpen t).out = s.out := by unfold State.eventOpen; simp
@[simp] theorem State.eventOpen_pwr (s : State) (t : Nat) : (s.eventOpen t).pwr = s.pwr := by unfold State.eventOpen; simp
@[simp] theorem State.eventOpen_ldr (s : State) (t : Nat) : (s.eventOpen t).ldr = s.ldr := by unfold State.eventOpen; simp
@[simp] theorem State.eventOpen_host (s : State) (t : Nat) : (s.eventOpen t).host = s.host := by unfold State.eventOpen; simp
@[simp] theorem State.eventOpen_tmu (s : State) (t : Nat) : (s.eventOpen t).tmu = s.tmu := by unfold State.eventOpen; simp
@[simp] theorem State.eventOpen_key (s : State) (t : Nat) : (s.eventOpen t).key = s.key := by unfold State.eventOpen; simp
@[simp] theorem State.eventOpen_net (s : State) (t : Nat) : (s.eventOpen t).net = s.net := by unfold State.eventOpen; simp
@[simp] theorem State.eventOpen_ing (s : State) (t : Nat) : (s.eventOpen t).ing = s.ing := by unfold State.eventOpen; simp
@[simp] theorem State.eventOpen_laneA (s : State) (t : Nat) : (s.eventOpen t).laneA = s.laneA := by unfold State.eventOpen; simp
@[simp] theorem State.eventOpen_laneB (s : State) (t : Nat) : (s.eventOpen t).laneB = s.laneB := by unfold State.eventOpen; simp
@[simp] theorem State.eventOpen_slu (s : State) (t : Nat) : (s.eventOpen t).slu = s.slu := by unfold State.eventOpen; simp
@[simp] theorem State.eventOpen_xl (s : State) (t : Nat) : (s.eventOpen t).xl = s.xl := by unfold State.eventOpen; simp
@[simp] theorem State.eventOpen_nrg (s : State) (t : Nat) : (s.eventOpen t).nrg = s.nrg := by unfold State.eventOpen; simp
@[simp] theorem State.eventOpen_nrgA (s : State) (t : Nat) : (s.eventOpen t).nrgA = s.nrgA := by unfold State.eventOpen; simp
@[simp] theorem State.eventOpen_nrgB (s : State) (t : Nat) : (s.eventOpen t).nrgB = s.nrgB := by unfold State.eventOpen; simp
@[simp] theorem State.eventOpen_rcd (s : State) (t : Nat) : (s.eventOpen t).rcd = s.rcd := by unfold State.eventOpen; simp
@[simp] theorem State.eventOpen_recA (s : State) (t : Nat) : (s.eventOpen t).recA = s.recA := by unfold State.eventOpen; simp
@[simp] theorem State.eventOpen_recB (s : State) (t : Nat) : (s.eventOpen t).recB = s.recB := by unfold State.eventOpen; simp
@[simp] theorem State.eventOpen_wdn (s : State) (t : Nat) : (s.eventOpen t).wdn = s.wdn := by unfold State.eventOpen; simp
@[simp] theorem State.eventOpen_sep (s : State) (t : Nat) : (s.eventOpen t).sep = s.sep := by unfold State.eventOpen; simp
@[simp] theorem State.eventOpen_rtc (s : State) (t : Nat) : (s.eventOpen t).rtc = s.rtc := by unfold State.eventOpen; simp
/-! ### The fields under a change of a lane -/

@[simp] theorem State.setLane_pending (s : State) (l : Lane) (x : LaneSt) : (s.setLane l x).pending = s.pending := by cases l <;> rfl
@[simp] theorem State.modLane_pending (s : State) (l : Lane) (g : LaneSt → LaneSt) : (s.modLane l g).pending = s.pending := by cases l <;> rfl
@[simp] theorem State.setLane_regs (s : State) (l : Lane) (x : LaneSt) : (s.setLane l x).regs = s.regs := by cases l <;> rfl
@[simp] theorem State.modLane_regs (s : State) (l : Lane) (g : LaneSt → LaneSt) : (s.modLane l g).regs = s.regs := by cases l <;> rfl
@[simp] theorem State.setLane_paths (s : State) (l : Lane) (x : LaneSt) : (s.setLane l x).paths = s.paths := by cases l <;> rfl
@[simp] theorem State.modLane_paths (s : State) (l : Lane) (g : LaneSt → LaneSt) : (s.modLane l g).paths = s.paths := by cases l <;> rfl
@[simp] theorem State.setLane_held (s : State) (l : Lane) (x : LaneSt) : (s.setLane l x).held = s.held := by cases l <;> rfl
@[simp] theorem State.modLane_held (s : State) (l : Lane) (g : LaneSt → LaneSt) : (s.modLane l g).held = s.held := by cases l <;> rfl
@[simp] theorem State.setLane_now (s : State) (l : Lane) (x : LaneSt) : (s.setLane l x).now = s.now := by cases l <;> rfl
@[simp] theorem State.modLane_now (s : State) (l : Lane) (g : LaneSt → LaneSt) : (s.modLane l g).now = s.now := by cases l <;> rfl
@[simp] theorem State.setLane_freeCtr (s : State) (l : Lane) (x : LaneSt) : (s.setLane l x).freeCtr = s.freeCtr := by cases l <;> rfl
@[simp] theorem State.modLane_freeCtr (s : State) (l : Lane) (g : LaneSt → LaneSt) : (s.modLane l g).freeCtr = s.freeCtr := by cases l <;> rfl
@[simp] theorem State.setLane_out (s : State) (l : Lane) (x : LaneSt) : (s.setLane l x).out = s.out := by cases l <;> rfl
@[simp] theorem State.modLane_out (s : State) (l : Lane) (g : LaneSt → LaneSt) : (s.modLane l g).out = s.out := by cases l <;> rfl
@[simp] theorem State.setLane_pwr (s : State) (l : Lane) (x : LaneSt) : (s.setLane l x).pwr = s.pwr := by cases l <;> rfl
@[simp] theorem State.modLane_pwr (s : State) (l : Lane) (g : LaneSt → LaneSt) : (s.modLane l g).pwr = s.pwr := by cases l <;> rfl
@[simp] theorem State.setLane_ldr (s : State) (l : Lane) (x : LaneSt) : (s.setLane l x).ldr = s.ldr := by cases l <;> rfl
@[simp] theorem State.modLane_ldr (s : State) (l : Lane) (g : LaneSt → LaneSt) : (s.modLane l g).ldr = s.ldr := by cases l <;> rfl
@[simp] theorem State.setLane_host (s : State) (l : Lane) (x : LaneSt) : (s.setLane l x).host = s.host := by cases l <;> rfl
@[simp] theorem State.modLane_host (s : State) (l : Lane) (g : LaneSt → LaneSt) : (s.modLane l g).host = s.host := by cases l <;> rfl
@[simp] theorem State.setLane_tmu (s : State) (l : Lane) (x : LaneSt) : (s.setLane l x).tmu = s.tmu := by cases l <;> rfl
@[simp] theorem State.modLane_tmu (s : State) (l : Lane) (g : LaneSt → LaneSt) : (s.modLane l g).tmu = s.tmu := by cases l <;> rfl
@[simp] theorem State.setLane_evt (s : State) (l : Lane) (x : LaneSt) : (s.setLane l x).evt = s.evt := by cases l <;> rfl
@[simp] theorem State.modLane_evt (s : State) (l : Lane) (g : LaneSt → LaneSt) : (s.modLane l g).evt = s.evt := by cases l <;> rfl
@[simp] theorem State.setLane_key (s : State) (l : Lane) (x : LaneSt) : (s.setLane l x).key = s.key := by cases l <;> rfl
@[simp] theorem State.modLane_key (s : State) (l : Lane) (g : LaneSt → LaneSt) : (s.modLane l g).key = s.key := by cases l <;> rfl
@[simp] theorem State.setLane_net (s : State) (l : Lane) (x : LaneSt) : (s.setLane l x).net = s.net := by cases l <;> rfl
@[simp] theorem State.modLane_net (s : State) (l : Lane) (g : LaneSt → LaneSt) : (s.modLane l g).net = s.net := by cases l <;> rfl
@[simp] theorem State.setLane_ing (s : State) (l : Lane) (x : LaneSt) : (s.setLane l x).ing = s.ing := by cases l <;> rfl
@[simp] theorem State.modLane_ing (s : State) (l : Lane) (g : LaneSt → LaneSt) : (s.modLane l g).ing = s.ing := by cases l <;> rfl
@[simp] theorem State.setLane_slu (s : State) (l : Lane) (x : LaneSt) : (s.setLane l x).slu = s.slu := by cases l <;> rfl
@[simp] theorem State.modLane_slu (s : State) (l : Lane) (g : LaneSt → LaneSt) : (s.modLane l g).slu = s.slu := by cases l <;> rfl
@[simp] theorem State.setLane_xl (s : State) (l : Lane) (x : LaneSt) : (s.setLane l x).xl = s.xl := by cases l <;> rfl
@[simp] theorem State.modLane_xl (s : State) (l : Lane) (g : LaneSt → LaneSt) : (s.modLane l g).xl = s.xl := by cases l <;> rfl
@[simp] theorem State.setLane_nrg (s : State) (l : Lane) (x : LaneSt) : (s.setLane l x).nrg = s.nrg := by cases l <;> rfl
@[simp] theorem State.modLane_nrg (s : State) (l : Lane) (g : LaneSt → LaneSt) : (s.modLane l g).nrg = s.nrg := by cases l <;> rfl
@[simp] theorem State.setLane_nrgA (s : State) (l : Lane) (x : LaneSt) : (s.setLane l x).nrgA = s.nrgA := by cases l <;> rfl
@[simp] theorem State.modLane_nrgA (s : State) (l : Lane) (g : LaneSt → LaneSt) : (s.modLane l g).nrgA = s.nrgA := by cases l <;> rfl
@[simp] theorem State.setLane_nrgB (s : State) (l : Lane) (x : LaneSt) : (s.setLane l x).nrgB = s.nrgB := by cases l <;> rfl
@[simp] theorem State.modLane_nrgB (s : State) (l : Lane) (g : LaneSt → LaneSt) : (s.modLane l g).nrgB = s.nrgB := by cases l <;> rfl
@[simp] theorem State.setLane_rcd (s : State) (l : Lane) (x : LaneSt) : (s.setLane l x).rcd = s.rcd := by cases l <;> rfl
@[simp] theorem State.modLane_rcd (s : State) (l : Lane) (g : LaneSt → LaneSt) : (s.modLane l g).rcd = s.rcd := by cases l <;> rfl
@[simp] theorem State.setLane_recA (s : State) (l : Lane) (x : LaneSt) : (s.setLane l x).recA = s.recA := by cases l <;> rfl
@[simp] theorem State.modLane_recA (s : State) (l : Lane) (g : LaneSt → LaneSt) : (s.modLane l g).recA = s.recA := by cases l <;> rfl
@[simp] theorem State.setLane_recB (s : State) (l : Lane) (x : LaneSt) : (s.setLane l x).recB = s.recB := by cases l <;> rfl
@[simp] theorem State.modLane_recB (s : State) (l : Lane) (g : LaneSt → LaneSt) : (s.modLane l g).recB = s.recB := by cases l <;> rfl
@[simp] theorem State.setLane_wdn (s : State) (l : Lane) (x : LaneSt) : (s.setLane l x).wdn = s.wdn := by cases l <;> rfl
@[simp] theorem State.modLane_wdn (s : State) (l : Lane) (g : LaneSt → LaneSt) : (s.modLane l g).wdn = s.wdn := by cases l <;> rfl
@[simp] theorem State.setLane_sep (s : State) (l : Lane) (x : LaneSt) : (s.setLane l x).sep = s.sep := by cases l <;> rfl
@[simp] theorem State.modLane_sep (s : State) (l : Lane) (g : LaneSt → LaneSt) : (s.modLane l g).sep = s.sep := by cases l <;> rfl
@[simp] theorem State.setLane_rtc (s : State) (l : Lane) (x : LaneSt) : (s.setLane l x).rtc = s.rtc := by cases l <;> rfl
@[simp] theorem State.modLane_rtc (s : State) (l : Lane) (g : LaneSt → LaneSt) : (s.modLane l g).rtc = s.rtc := by cases l <;> rfl

@[simp] theorem State.lane_setLane_same (s : State) (l : Lane) (x : LaneSt) : (s.setLane l x).lane l = x := by cases l <;> rfl
theorem State.lane_setLane_other (s : State) {l m : Lane} (x : LaneSt) (h : l ≠ m) : (s.setLane l x).lane m = s.lane m := by
  cases l <;> cases m <;> first | rfl | exact absurd rfl h
@[simp] theorem State.lane_modLane_same (s : State) (l : Lane) (g : LaneSt → LaneSt) : (s.modLane l g).lane l = g (s.lane l) := by
  cases l <;> rfl
theorem State.lane_modLane_other (s : State) {l m : Lane} (g : LaneSt → LaneSt) (h : l ≠ m) : (s.modLane l g).lane m = s.lane m := by
  cases l <;> cases m <;> first | rfl | exact absurd rfl h

/-! ### Conditions -/

@[simp] theorem State.onIf_true (s : State) (f : State → State) : s.onIf true f = f s := rfl
@[simp] theorem State.onIf_false (s : State) (f : State → State) : s.onIf false f = s := rfl
/-- What a step keeps, a step under a condition keeps. -/
theorem State.onIf_keep {γ : Type} (s : State) (c : Bool) (f : State → State) (g : State → γ) (h : g (f s) = g s) :
    g (s.onIf c f) = g s := by
  cases c
  · rfl
  · exact h

/-! ### Registers -/

/-- A register after a write. -/
theorem State.rd_wr (s : State) (k v j : Nat) : (s.wr k v).rd j = if k = j then v % 4294967296 else s.rd j := rfl
@[simp] theorem State.rd_wr_same (s : State) (k v : Nat) : (s.wr k v).rd k = v % 4294967296 := by simp [State.rd_wr]
theorem State.rd_wr_other (s : State) {k j : Nat} (v : Nat) (h : k ≠ j) : (s.wr k v).rd j = s.rd j := by simp [State.rd_wr, h]
theorem State.rd_setF (s : State) (k hi lo v j : Nat) :
    (s.setF k hi lo v).rd j = if k = j then putBits (s.rd k) hi lo v % 4294967296 else s.rd j := rfl
theorem State.rd_setB (s : State) (k i : Nat) (b : Bool) (j : Nat) :
    (s.setB k i b).rd j = if k = j then putBits (s.rd k) i i (b2n b) % 4294967296 else s.rd j := rfl
theorem State.rd_orR (s : State) (k m j : Nat) : (s.orR k m).rd j = if k = j then (s.rd k ||| m) % 4294967296 else s.rd j := rfl
theorem State.rd_addSat (s : State) (k n j : Nat) :
    (s.addSat k n).rd j = if k = j then min 4294967295 (s.rd k + n) else s.rd j := by
  show (if k = j then _ % _ else _) = _
  split
  · exact Nat.mod_eq_of_lt (by omega)
  · rfl
theorem State.rd_addWrap (s : State) (k n j : Nat) :
    (s.addWrap k n).rd j = if k = j then (s.rd k + n) % 4294967296 else s.rd j := rfl
/-- An operation on one register leaves every other. -/
theorem State.rd_addSatF_other (s : State) {k j : Nat} (hi lo n : Nat) (h : k ≠ j) : (s.addSatF k hi lo n).rd j = s.rd j := by
  simp [State.addSatF, State.rd_setF, h]
theorem State.rd_addWrapF_other (s : State) {k j : Nat} (hi lo n : Nat) (h : k ≠ j) : (s.addWrapF k hi lo n).rd j = s.rd j := by
  simp [State.addWrapF, State.rd_setF, h]
theorem State.rd_crest_other (s : State) {k j : Nat} (v : Nat) (h : k ≠ j) : (s.crest k v).rd j = s.rd j := by
  unfold State.crest; split
  · exact s.rd_wr_other v h
  · rfl

/-- A field of a register after the field has been set. -/
theorem State.fld_setF_same (s : State) (k hi lo v : Nat) (h : lo ≤ hi) (h32 : hi < 32) :
    (s.setF k hi lo v).fld k hi lo = v % 2 ^ (hi + 1 - lo) := by
  simp only [State.fld, State.rd_setF, if_true, bitsOf_mod_two32 _ _ _ h32, bitsOf_putBits_same _ _ _ _ h]
/-- A field of the register that does not meet the one set. -/
theorem State.fld_setF_apart (s : State) (k hi lo v hi' lo' : Nat) (h : lo ≤ hi) (h32 : hi' < 32) (hd : hi' < lo ∨ hi < lo') :
    (s.setF k hi lo v).fld k hi' lo' = s.fld k hi' lo' := by
  simp only [State.fld, State.rd_setF, if_true, bitsOf_mod_two32 _ _ _ h32, bitsOf_putBits_other _ _ _ _ _ _ h hd]
theorem State.fld_setF_other (s : State) {k j : Nat} (hi lo v hi' lo' : Nat) (h : k ≠ j) :
    (s.setF k hi lo v).fld j hi' lo' = s.fld j hi' lo' := by
  simp only [State.fld, State.rd_setF, if_neg h]
theorem State.bit_setB_same (s : State) (k i : Nat) (b : Bool) (h : i < 32) : (s.setB k i b).bit k i = b := by
  simp only [State.bit, State.rd_setB, if_true, testBit_mod_two32 _ _ h, testBit_putBits _ _ _ _ _ (Nat.le_refl i), le_refl,
    and_self, Nat.sub_self, b2n_testBit_zero]
theorem State.bit_setB_apart (s : State) (k : Nat) {i j : Nat} (b : Bool) (h : j < 32) (hd : i ≠ j) : (s.setB k i b).bit k j = s.bit k j := by
  simp only [State.bit, State.rd_setB, if_true, testBit_mod_two32 _ _ h, testBit_putBits _ _ _ _ _ (Nat.le_refl i)]
  rw [if_neg (by omega)]
theorem State.bit_setB_other (s : State) {k j : Nat} (i n : Nat) (b : Bool) (h : k ≠ j) : (s.setB k i b).bit j n = s.bit j n := by
  simp only [State.bit, State.rd_setB, if_neg h]
theorem State.bit_wr_other (s : State) {k j : Nat} (v n : Nat) (h : k ≠ j) : (s.wr k v).bit j n = s.bit j n := by
  simp only [State.bit, State.rd_wr, if_neg h]

/-- Registers and their fields depend on the table alone. -/
theorem State.rd_congr {s t : State} (h : s.regs = t.regs) (k : Nat) : s.rd k = t.rd k := by unfold State.rd; rw [h]

/-! ### Registers do not see the other fields -/

@[simp] theorem State.rd_emit (s : State) (x : Out) (k : Nat) : (s.emit x).rd k = s.rd k := rfl
@[simp] theorem State.rd_takeFree (s : State) (k : Nat) : s.takeFree.2.rd k = s.rd k := rfl
@[simp] theorem State.rd_pathPut (s : State) (p : Path) (j v k : Nat) : (s.pathPut p j v).rd k = s.rd k := rfl
@[simp] theorem State.rd_heldPut (s : State) (p : Path) (j v k : Nat) : (s.heldPut p j v).rd k = s.rd k := rfl
@[simp] theorem State.rd_heldDel (s : State) (p : Path) (j k : Nat) : (s.heldDel p j).rd k = s.rd k := rfl
@[simp] theorem State.rd_setLane (s : State) (l : Lane) (x : LaneSt) (k : Nat) : (s.setLane l x).rd k = s.rd k := by cases l <;> rfl
@[simp] theorem State.rd_modLane (s : State) (l : Lane) (g : LaneSt → LaneSt) (k : Nat) : (s.modLane l g).rd k = s.rd k := by cases l <;> rfl
@[simp] theorem State.bit_emit (s : State) (x : Out) (k i : Nat) : (s.emit x).bit k i = s.bit k i := rfl
@[simp] theorem State.bit_takeFree (s : State)  (k i : Nat) : s.takeFree.2.bit k i = s.bit k i := rfl
@[simp] theorem State.bit_pathPut (s : State) (p : Path) (j v : Nat) (k i : Nat) : (s.pathPut p j v).bit k i = s.bit k i := rfl
@[simp] theorem State.bit_heldPut (s : State) (p : Path) (j v : Nat) (k i : Nat) : (s.heldPut p j v).bit k i = s.bit k i := rfl
@[simp] theorem State.bit_heldDel (s : State) (p : Path) (j : Nat) (k i : Nat) : (s.heldDel p j).bit k i = s.bit k i := rfl
@[simp] theorem State.bit_setLane (s : State) (l : Lane) (x : LaneSt) (k i : Nat) : (s.setLane l x).bit k i = s.bit k i := by cases l <;> rfl
@[simp] theorem State.bit_modLane (s : State) (l : Lane) (g : LaneSt → LaneSt) (k i : Nat) : (s.modLane l g).bit k i = s.bit k i := by cases l <;> rfl
@[simp] theorem State.fld_emit (s : State) (x : Out) (k hi lo : Nat) : (s.emit x).fld k hi lo = s.fld k hi lo := rfl
@[simp] theorem State.fld_takeFree (s : State)  (k hi lo : Nat) : s.takeFree.2.fld k hi lo = s.fld k hi lo := rfl
@[simp] theorem State.fld_pathPut (s : State) (p : Path) (j v : Nat) (k hi lo : Nat) : (s.pathPut p j v).fld k hi lo = s.fld k hi lo := rfl
@[simp] theorem State.fld_heldPut (s : State) (p : Path) (j v : Nat) (k hi lo : Nat) : (s.heldPut p j v).fld k hi lo = s.fld k hi lo := rfl
@[simp] theorem State.fld_heldDel (s : State) (p : Path) (j : Nat) (k hi lo : Nat) : (s.heldDel p j).fld k hi lo = s.fld k hi lo := rfl
@[simp] theorem State.fld_setLane (s : State) (l : Lane) (x : LaneSt) (k hi lo : Nat) : (s.setLane l x).fld k hi lo = s.fld k hi lo := by cases l <;> rfl
@[simp] theorem State.fld_modLane (s : State) (l : Lane) (g : LaneSt → LaneSt) (k hi lo : Nat) : (s.modLane l g).fld k hi lo = s.fld k hi lo := by cases l <;> rfl
@[simp] theorem State.rd_with_pending (s : State) (x) (k : Nat) : ({ s with pending := x } : State).rd k = s.rd k := rfl
@[simp] theorem State.rd_with_paths (s : State) (x) (k : Nat) : ({ s with paths := x } : State).rd k = s.rd k := rfl
@[simp] theorem State.rd_with_held (s : State) (x) (k : Nat) : ({ s with held := x } : State).rd k = s.rd k := rfl
@[simp] theorem State.rd_with_now (s : State) (x) (k : Nat) : ({ s with now := x } : State).rd k = s.rd k := rfl
@[simp] theorem State.rd_with_freeCtr (s : State) (x) (k : Nat) : ({ s with freeCtr := x } : State).rd k = s.rd k := rfl
@[simp] theorem State.rd_with_out (s : State) (x) (k : Nat) : ({ s with out := x } : State).rd k = s.rd k := rfl
@[simp] theorem State.rd_with_pwr (s : State) (x) (k : Nat) : ({ s with pwr := x } : State).rd k = s.rd k := rfl
@[simp] theorem State.rd_with_ldr (s : State) (x) (k : Nat) : ({ s with ldr := x } : State).rd k = s.rd k := rfl
@[simp] theorem State.rd_with_host (s : State) (x) (k : Nat) : ({ s with host := x } : State).rd k = s.rd k := rfl
@[simp] theorem State.rd_with_tmu (s : State) (x) (k : Nat) : ({ s with tmu := x } : State).rd k = s.rd k := rfl
@[simp] theorem State.rd_with_evt (s : State) (x) (k : Nat) : ({ s with evt := x } : State).rd k = s.rd k := rfl
@[simp] theorem State.rd_with_key (s : State) (x) (k : Nat) : ({ s with key := x } : State).rd k = s.rd k := rfl
@[simp] theorem State.rd_with_net (s : State) (x) (k : Nat) : ({ s with net := x } : State).rd k = s.rd k := rfl
@[simp] theorem State.rd_with_ing (s : State) (x) (k : Nat) : ({ s with ing := x } : State).rd k = s.rd k := rfl
@[simp] theorem State.rd_with_laneA (s : State) (x) (k : Nat) : ({ s with laneA := x } : State).rd k = s.rd k := rfl
@[simp] theorem State.rd_with_laneB (s : State) (x) (k : Nat) : ({ s with laneB := x } : State).rd k = s.rd k := rfl
@[simp] theorem State.rd_with_slu (s : State) (x) (k : Nat) : ({ s with slu := x } : State).rd k = s.rd k := rfl
@[simp] theorem State.rd_with_was (s : State) (x) (k : Nat) : ({ s with was := x } : State).rd k = s.rd k := rfl
@[simp] theorem State.rd_with_xl (s : State) (x) (k : Nat) : ({ s with xl := x } : State).rd k = s.rd k := rfl
@[simp] theorem State.rd_with_nrg (s : State) (x) (k : Nat) : ({ s with nrg := x } : State).rd k = s.rd k := rfl
@[simp] theorem State.rd_with_nrgA (s : State) (x) (k : Nat) : ({ s with nrgA := x } : State).rd k = s.rd k := rfl
@[simp] theorem State.rd_with_nrgB (s : State) (x) (k : Nat) : ({ s with nrgB := x } : State).rd k = s.rd k := rfl
@[simp] theorem State.rd_with_rcd (s : State) (x) (k : Nat) : ({ s with rcd := x } : State).rd k = s.rd k := rfl
@[simp] theorem State.rd_with_recA (s : State) (x) (k : Nat) : ({ s with recA := x } : State).rd k = s.rd k := rfl
@[simp] theorem State.rd_with_recB (s : State) (x) (k : Nat) : ({ s with recB := x } : State).rd k = s.rd k := rfl
@[simp] theorem State.rd_with_wdn (s : State) (x) (k : Nat) : ({ s with wdn := x } : State).rd k = s.rd k := rfl
@[simp] theorem State.rd_with_sep (s : State) (x) (k : Nat) : ({ s with sep := x } : State).rd k = s.rd k := rfl
@[simp] theorem State.rd_with_rtc (s : State) (x) (k : Nat) : ({ s with rtc := x } : State).rd k = s.rd k := rfl

/-- An event record leaves every register but EVT_LOST and EVT_EVENTS. -/
theorem State.rd_event (s : State) (t r : Nat) (d : List Nat) {k : Nat} (h1 : k ≠ R.EVT_LOST) (h2 : k ≠ R.EVT_EVENTS) :
    (s.event t r d).rd k = s.rd k := by
  unfold State.event; split
  · rfl
  · rw [State.rd_setB, if_neg h2.symm, State.rd_addSat, if_neg h1.symm]; rfl
theorem State.rd_eventOpen (s : State) (t : Nat) {k : Nat} (h1 : k ≠ R.EVT_LOST) (h2 : k ≠ R.EVT_EVENTS) :
    (s.eventOpen t).rd k = s.rd k := by
  unfold State.eventOpen; exact State.rd_event _ _ _ _ h1 h2

/-! ### A state written out, and back to the names of its registers -/

@[simp] theorem State.rd_mk (f0 r f2 f3 f4 f5 f6 f7 f8 f9 f10 f11 f12 f13 f14 f15 f16 f17 f18 f19 f20 f21 f22 f23 f24 f25 f26 f27 f28) (k : Nat) :
    (State.mk f0 r f2 f3 f4 f5 f6 f7 f8 f9 f10 f11 f12 f13 f14 f15 f16 f17 f18 f19 f20 f21 f22 f23 f24 f25 f26 f27 f28).rd k = cellGet resetVal r k := rfl
@[simp] theorem State.bit_mk (f0 r f2 f3 f4 f5 f6 f7 f8 f9 f10 f11 f12 f13 f14 f15 f16 f17 f18 f19 f20 f21 f22 f23 f24 f25 f26 f27 f28) (k i : Nat) :
    (State.mk f0 r f2 f3 f4 f5 f6 f7 f8 f9 f10 f11 f12 f13 f14 f15 f16 f17 f18 f19 f20 f21 f22 f23 f24 f25 f26 f27 f28).bit k i = (cellGet resetVal r k).testBit i := rfl
@[simp] theorem State.fld_mk (f0 r f2 f3 f4 f5 f6 f7 f8 f9 f10 f11 f12 f13 f14 f15 f16 f17 f18 f19 f20 f21 f22 f23 f24 f25 f26 f27 f28) (k hi lo : Nat) :
    (State.mk f0 r f2 f3 f4 f5 f6 f7 f8 f9 f10 f11 f12 f13 f14 f15 f16 f17 f18 f19 f20 f21 f22 f23 f24 f25 f26 f27 f28).fld k hi lo = bitsOf (cellGet resetVal r k) hi lo := rfl
@[simp] theorem State.cellGet_regs (s : State) (k : Nat) : cellGet resetVal s.regs k = s.rd k := rfl
theorem State.testBit_rd (s : State) (k i : Nat) : (s.rd k).testBit i = s.bit k i := rfl
theorem State.bitsOf_rd (s : State) (k hi lo : Nat) : bitsOf (s.rd k) hi lo = s.fld k hi lo := rfl

end Sys2Proof.Machine
end

