-- ==== Sys2Proof/Laws/Settle.lean ====
section
/-! SUPPORT. The end of a command: what `settle` leaves as it was, what it makes true, and the answer of `finish`. -/
namespace Sys2Proof.Machine

/-! ### The parts of settle -/

@[simp] theorem State.syncHold_pending (s : State) : s.syncHold.pending = s.pending := rfl
@[simp] theorem State.syncHold_paths (s : State) : s.syncHold.paths = s.paths := rfl
@[simp] theorem State.syncHold_held (s : State) : s.syncHold.held = s.held := rfl
@[simp] theorem State.syncHold_now (s : State) : s.syncHold.now = s.now := rfl
@[simp] theorem State.syncHold_freeCtr (s : State) : s.syncHold.freeCtr = s.freeCtr := rfl
@[simp] theorem State.syncHold_out (s : State) : s.syncHold.out = s.out := rfl
@[simp] theorem State.syncHold_pwr (s : State) : s.syncHold.pwr = s.pwr := rfl
@[simp] theorem State.syncHold_ldr (s : State) : s.syncHold.ldr = s.ldr := rfl
@[simp] theorem State.syncHold_host (s : State) : s.syncHold.host = s.host := rfl
@[simp] theorem State.syncHold_tmu (s : State) : s.syncHold.tmu = s.tmu := rfl
@[simp] theorem State.syncHold_evt (s : State) : s.syncHold.evt = s.evt := rfl
@[simp] theorem State.syncHold_key (s : State) : s.syncHold.key = s.key := rfl
@[simp] theorem State.syncHold_net (s : State) : s.syncHold.net = s.net := rfl
@[simp] theorem State.syncHold_ing (s : State) : s.syncHold.ing = s.ing := rfl
@[simp] theorem State.syncHold_laneA (s : State) : s.syncHold.laneA = s.laneA := rfl
@[simp] theorem State.syncHold_laneB (s : State) : s.syncHold.laneB = s.laneB := rfl
@[simp] theorem State.syncHold_slu (s : State) : s.syncHold.slu = s.slu := rfl
@[simp] theorem State.syncHold_xl (s : State) : s.syncHold.xl = s.xl := rfl
@[simp] theorem State.syncHold_nrg (s : State) : s.syncHold.nrg = s.nrg := rfl
@[simp] theorem State.syncHold_nrgA (s : State) : s.syncHold.nrgA = s.nrgA := rfl
@[simp] theorem State.syncHold_nrgB (s : State) : s.syncHold.nrgB = s.nrgB := rfl
@[simp] theorem State.syncHold_rcd (s : State) : s.syncHold.rcd = s.rcd := rfl
@[simp] theorem State.syncHold_recA (s : State) : s.syncHold.recA = s.recA := rfl
@[simp] theorem State.syncHold_recB (s : State) : s.syncHold.recB = s.recB := rfl
@[simp] theorem State.syncHold_wdn (s : State) : s.syncHold.wdn = s.wdn := rfl
@[simp] theorem State.syncHold_sep (s : State) : s.syncHold.sep = s.sep := rfl
@[simp] theorem State.syncHold_rtc (s : State) : s.syncHold.rtc = s.rtc := rfl

@[simp] theorem State.breachHold_pending (s : State) : s.breachHold.pending = s.pending := by unfold State.breachHold; dsimp only; split <;> [rfl; (split <;> simp)]
@[simp] theorem State.breachHold_paths (s : State) : s.breachHold.paths = s.paths := by unfold State.breachHold; dsimp only; split <;> [rfl; (split <;> simp)]
@[simp] theorem State.breachHold_held (s : State) : s.breachHold.held = s.held := by unfold State.breachHold; dsimp only; split <;> [rfl; (split <;> simp)]
@[simp] theorem State.breachHold_now (s : State) : s.breachHold.now = s.now := by unfold State.breachHold; dsimp only; split <;> [rfl; (split <;> simp)]
@[simp] theorem State.breachHold_out (s : State) : s.breachHold.out = s.out := by unfold State.breachHold; dsimp only; split <;> [rfl; (split <;> simp)]
@[simp] theorem State.breachHold_pwr (s : State) : s.breachHold.pwr = s.pwr := by unfold State.breachHold; dsimp only; split <;> [rfl; (split <;> simp)]
@[simp] theorem State.breachHold_ldr (s : State) : s.breachHold.ldr = s.ldr := by unfold State.breachHold; dsimp only; split <;> [rfl; (split <;> simp)]
@[simp] theorem State.breachHold_host (s : State) : s.breachHold.host = s.host := by unfold State.breachHold; dsimp only; split <;> [rfl; (split <;> simp)]
@[simp] theorem State.breachHold_tmu (s : State) : s.breachHold.tmu = s.tmu := by unfold State.breachHold; dsimp only; split <;> [rfl; (split <;> simp)]
@[simp] theorem State.breachHold_key (s : State) : s.breachHold.key = s.key := by unfold State.breachHold; dsimp only; split <;> [rfl; (split <;> simp)]
@[simp] theorem State.breachHold_net (s : State) : s.breachHold.net = s.net := by unfold State.breachHold; dsimp only; split <;> [rfl; (split <;> simp)]
@[simp] theorem State.breachHold_ing (s : State) : s.breachHold.ing = s.ing := by unfold State.breachHold; dsimp only; split <;> [rfl; (split <;> simp)]
@[simp] theorem State.breachHold_laneA (s : State) : s.breachHold.laneA = s.laneA := by unfold State.breachHold; dsimp only; split <;> [rfl; (split <;> simp)]
@[simp] theorem State.breachHold_laneB (s : State) : s.breachHold.laneB = s.laneB := by unfold State.breachHold; dsimp only; split <;> [rfl; (split <;> simp)]
@[simp] theorem State.breachHold_slu (s : State) : s.breachHold.slu = s.slu := by unfold State.breachHold; dsimp only; split <;> [rfl; (split <;> simp)]
@[simp] theorem State.breachHold_xl (s : State) : s.breachHold.xl = s.xl := by unfold State.breachHold; dsimp only; split <;> [rfl; (split <;> simp)]
@[simp] theorem State.breachHold_nrg (s : State) : s.breachHold.nrg = s.nrg := by unfold State.breachHold; dsimp only; split <;> [rfl; (split <;> simp)]
@[simp] theorem State.breachHold_nrgA (s : State) : s.breachHold.nrgA = s.nrgA := by unfold State.breachHold; dsimp only; split <;> [rfl; (split <;> simp)]
@[simp] theorem State.breachHold_nrgB (s : State) : s.breachHold.nrgB = s.nrgB := by unfold State.breachHold; dsimp only; split <;> [rfl; (split <;> simp)]
@[simp] theorem State.breachHold_rcd (s : State) : s.breachHold.rcd = s.rcd := by unfold State.breachHold; dsimp only; split <;> [rfl; (split <;> simp)]
@[simp] theorem State.breachHold_recA (s : State) : s.breachHold.recA = s.recA := by unfold State.breachHold; dsimp only; split <;> [rfl; (split <;> simp)]
@[simp] theorem State.breachHold_recB (s : State) : s.breachHold.recB = s.recB := by unfold State.breachHold; dsimp only; split <;> [rfl; (split <;> simp)]
@[simp] theorem State.breachHold_wdn (s : State) : s.breachHold.wdn = s.wdn := by unfold State.breachHold; dsimp only; split <;> [rfl; (split <;> simp)]
@[simp] theorem State.breachHold_sep (s : State) : s.breachHold.sep = s.sep := by unfold State.breachHold; dsimp only; split <;> [rfl; (split <;> simp)]
@[simp] theorem State.breachHold_rtc (s : State) : s.breachHold.rtc = s.rtc := by unfold State.breachHold; dsimp only; split <;> [rfl; (split <;> simp)]

@[simp] theorem State.mateHold_pending (s : State) : s.mateHold.pending = s.pending := by unfold State.mateHold; dsimp only; split <;> rfl
@[simp] theorem State.mateHold_paths (s : State) : s.mateHold.paths = s.paths := by unfold State.mateHold; dsimp only; split <;> rfl
@[simp] theorem State.mateHold_held (s : State) : s.mateHold.held = s.held := by unfold State.mateHold; dsimp only; split <;> rfl
@[simp] theorem State.mateHold_now (s : State) : s.mateHold.now = s.now := by unfold State.mateHold; dsimp only; split <;> rfl
@[simp] theorem State.mateHold_freeCtr (s : State) : s.mateHold.freeCtr = s.freeCtr := by unfold State.mateHold; dsimp only; split <;> rfl
@[simp] theorem State.mateHold_out (s : State) : s.mateHold.out = s.out := by unfold State.mateHold; dsimp only; split <;> rfl
@[simp] theorem State.mateHold_pwr (s : State) : s.mateHold.pwr = s.pwr := by unfold State.mateHold; dsimp only; split <;> rfl
@[simp] theorem State.mateHold_ldr (s : State) : s.mateHold.ldr = s.ldr := by unfold State.mateHold; dsimp only; split <;> rfl
@[simp] theorem State.mateHold_host (s : State) : s.mateHold.host = s.host := by unfold State.mateHold; dsimp only; split <;> rfl
@[simp] theorem State.mateHold_tmu (s : State) : s.mateHold.tmu = s.tmu := by unfold State.mateHold; dsimp only; split <;> rfl
@[simp] theorem State.mateHold_evt (s : State) : s.mateHold.evt = s.evt := by unfold State.mateHold; dsimp only; split <;> rfl
@[simp] theorem State.mateHold_key (s : State) : s.mateHold.key = s.key := by unfold State.mateHold; dsimp only; split <;> rfl
@[simp] theorem State.mateHold_net (s : State) : s.mateHold.net = s.net := by unfold State.mateHold; dsimp only; split <;> rfl
@[simp] theorem State.mateHold_ing (s : State) : s.mateHold.ing = s.ing := by unfold State.mateHold; dsimp only; split <;> rfl
@[simp] theorem State.mateHold_laneA (s : State) : s.mateHold.laneA = s.laneA := by unfold State.mateHold; dsimp only; split <;> rfl
@[simp] theorem State.mateHold_laneB (s : State) : s.mateHold.laneB = s.laneB := by unfold State.mateHold; dsimp only; split <;> rfl
@[simp] theorem State.mateHold_slu (s : State) : s.mateHold.slu = s.slu := by unfold State.mateHold; dsimp only; split <;> rfl
@[simp] theorem State.mateHold_xl (s : State) : s.mateHold.xl = s.xl := by unfold State.mateHold; dsimp only; split <;> rfl
@[simp] theorem State.mateHold_nrg (s : State) : s.mateHold.nrg = s.nrg := by unfold State.mateHold; dsimp only; split <;> rfl
@[simp] theorem State.mateHold_nrgA (s : State) : s.mateHold.nrgA = s.nrgA := by unfold State.mateHold; dsimp only; split <;> rfl
@[simp] theorem State.mateHold_nrgB (s : State) : s.mateHold.nrgB = s.nrgB := by unfold State.mateHold; dsimp only; split <;> rfl
@[simp] theorem State.mateHold_rcd (s : State) : s.mateHold.rcd = s.rcd := by unfold State.mateHold; dsimp only; split <;> rfl
@[simp] theorem State.mateHold_recA (s : State) : s.mateHold.recA = s.recA := by unfold State.mateHold; dsimp only; split <;> rfl
@[simp] theorem State.mateHold_recB (s : State) : s.mateHold.recB = s.recB := by unfold State.mateHold; dsimp only; split <;> rfl
@[simp] theorem State.mateHold_wdn (s : State) : s.mateHold.wdn = s.wdn := by unfold State.mateHold; dsimp only; split <;> rfl
@[simp] theorem State.mateHold_sep (s : State) : s.mateHold.sep = s.sep := by unfold State.mateHold; dsimp only; split <;> rfl
@[simp] theorem State.mateHold_rtc (s : State) : s.mateHold.rtc = s.rtc := by unfold State.mateHold; dsimp only; split <;> rfl

@[simp] theorem State.autoSync_pending (s : State) : s.autoSync.pending = s.pending := by unfold State.autoSync; dsimp only; split <;> rfl
@[simp] theorem State.autoSync_paths (s : State) : s.autoSync.paths = s.paths := by unfold State.autoSync; dsimp only; split <;> rfl
@[simp] theorem State.autoSync_held (s : State) : s.autoSync.held = s.held := by unfold State.autoSync; dsimp only; split <;> rfl
@[simp] theorem State.autoSync_now (s : State) : s.autoSync.now = s.now := by unfold State.autoSync; dsimp only; split <;> rfl
@[simp] theorem State.autoSync_freeCtr (s : State) : s.autoSync.freeCtr = s.freeCtr := by unfold State.autoSync; dsimp only; split <;> rfl
@[simp] theorem State.autoSync_out (s : State) : s.autoSync.out = s.out := by unfold State.autoSync; dsimp only; split <;> rfl
@[simp] theorem State.autoSync_pwr (s : State) : s.autoSync.pwr = s.pwr := by unfold State.autoSync; dsimp only; split <;> rfl
@[simp] theorem State.autoSync_ldr (s : State) : s.autoSync.ldr = s.ldr := by unfold State.autoSync; dsimp only; split <;> rfl
@[simp] theorem State.autoSync_host (s : State) : s.autoSync.host = s.host := by unfold State.autoSync; dsimp only; split <;> rfl
@[simp] theorem State.autoSync_tmu (s : State) : s.autoSync.tmu = s.tmu := by unfold State.autoSync; dsimp only; split <;> rfl
@[simp] theorem State.autoSync_evt (s : State) : s.autoSync.evt = s.evt := by unfold State.autoSync; dsimp only; split <;> rfl
@[simp] theorem State.autoSync_key (s : State) : s.autoSync.key = s.key := by unfold State.autoSync; dsimp only; split <;> rfl
@[simp] theorem State.autoSync_net (s : State) : s.autoSync.net = s.net := by unfold State.autoSync; dsimp only; split <;> rfl
@[simp] theorem State.autoSync_ing (s : State) : s.autoSync.ing = s.ing := by unfold State.autoSync; dsimp only; split <;> rfl
@[simp] theorem State.autoSync_laneA (s : State) : s.autoSync.laneA = s.laneA := by unfold State.autoSync; dsimp only; split <;> rfl
@[simp] theorem State.autoSync_laneB (s : State) : s.autoSync.laneB = s.laneB := by unfold State.autoSync; dsimp only; split <;> rfl
@[simp] theorem State.autoSync_slu (s : State) : s.autoSync.slu = s.slu := by unfold State.autoSync; dsimp only; split <;> rfl
@[simp] theorem State.autoSync_xl (s : State) : s.autoSync.xl = s.xl := by unfold State.autoSync; dsimp only; split <;> rfl
@[simp] theorem State.autoSync_nrg (s : State) : s.autoSync.nrg = s.nrg := by unfold State.autoSync; dsimp only; split <;> rfl
@[simp] theorem State.autoSync_nrgA (s : State) : s.autoSync.nrgA = s.nrgA := by unfold State.autoSync; dsimp only; split <;> rfl
@[simp] theorem State.autoSync_nrgB (s : State) : s.autoSync.nrgB = s.nrgB := by unfold State.autoSync; dsimp only; split <;> rfl
@[simp] theorem State.autoSync_rcd (s : State) : s.autoSync.rcd = s.rcd := by unfold State.autoSync; dsimp only; split <;> rfl
@[simp] theorem State.autoSync_recA (s : State) : s.autoSync.recA = s.recA := by unfold State.autoSync; dsimp only; split <;> rfl
@[simp] theorem State.autoSync_recB (s : State) : s.autoSync.recB = s.recB := by unfold State.autoSync; dsimp only; split <;> rfl
@[simp] theorem State.autoSync_wdn (s : State) : s.autoSync.wdn = s.wdn := by unfold State.autoSync; dsimp only; split <;> rfl
@[simp] theorem State.autoSync_sep (s : State) : s.autoSync.sep = s.sep := by unfold State.autoSync; dsimp only; split <;> rfl

theorem State.pendLevels_keep {γ : Type} (g : State → γ) (h : ∀ (s : State) (k v : Nat), g (s.wr k v) = g s) (s : State) :
    g s.pendLevels = g s :=
  (foldl_keep (fun (s : State) (n : Fin 4096) => s.levelPend (.vi n 2)) g (fun _ _ => h _ _ _) _ _).trans
    (foldl_keep (fun (s : State) (v : Fin 256) => s.levelPend (.pf0 v)) g (fun _ _ => h _ _ _) _ _)

@[simp] theorem State.pendLevels_pending (s : State) : s.pendLevels.pending = s.pending := State.pendLevels_keep State.pending (fun _ _ _ => rfl) s
@[simp] theorem State.pendLevels_paths (s : State) : s.pendLevels.paths = s.paths := State.pendLevels_keep State.paths (fun _ _ _ => rfl) s
@[simp] theorem State.pendLevels_held (s : State) : s.pendLevels.held = s.held := State.pendLevels_keep State.held (fun _ _ _ => rfl) s
@[simp] theorem State.pendLevels_now (s : State) : s.pendLevels.now = s.now := State.pendLevels_keep State.now (fun _ _ _ => rfl) s
@[simp] theorem State.pendLevels_freeCtr (s : State) : s.pendLevels.freeCtr = s.freeCtr := State.pendLevels_keep State.freeCtr (fun _ _ _ => rfl) s
@[simp] theorem State.pendLevels_out (s : State) : s.pendLevels.out = s.out := State.pendLevels_keep State.out (fun _ _ _ => rfl) s
@[simp] theorem State.pendLevels_pwr (s : State) : s.pendLevels.pwr = s.pwr := State.pendLevels_keep State.pwr (fun _ _ _ => rfl) s
@[simp] theorem State.pendLevels_ldr (s : State) : s.pendLevels.ldr = s.ldr := State.pendLevels_keep State.ldr (fun _ _ _ => rfl) s
@[simp] theorem State.pendLevels_host (s : State) : s.pendLevels.host = s.host := State.pendLevels_keep State.host (fun _ _ _ => rfl) s
@[simp] theorem State.pendLevels_tmu (s : State) : s.pendLevels.tmu = s.tmu := State.pendLevels_keep State.tmu (fun _ _ _ => rfl) s
@[simp] theorem State.pendLevels_evt (s : State) : s.pendLevels.evt = s.evt := State.pendLevels_keep State.evt (fun _ _ _ => rfl) s
@[simp] theorem State.pendLevels_key (s : State) : s.pendLevels.key = s.key := State.pendLevels_keep State.key (fun _ _ _ => rfl) s
@[simp] theorem State.pendLevels_net (s : State) : s.pendLevels.net = s.net := State.pendLevels_keep State.net (fun _ _ _ => rfl) s
@[simp] theorem State.pendLevels_ing (s : State) : s.pendLevels.ing = s.ing := State.pendLevels_keep State.ing (fun _ _ _ => rfl) s
@[simp] theorem State.pendLevels_laneA (s : State) : s.pendLevels.laneA = s.laneA := State.pendLevels_keep State.laneA (fun _ _ _ => rfl) s
@[simp] theorem State.pendLevels_laneB (s : State) : s.pendLevels.laneB = s.laneB := State.pendLevels_keep State.laneB (fun _ _ _ => rfl) s
@[simp] theorem State.pendLevels_slu (s : State) : s.pendLevels.slu = s.slu := State.pendLevels_keep State.slu (fun _ _ _ => rfl) s
@[simp] theorem State.pendLevels_xl (s : State) : s.pendLevels.xl = s.xl := State.pendLevels_keep State.xl (fun _ _ _ => rfl) s
@[simp] theorem State.pendLevels_nrg (s : State) : s.pendLevels.nrg = s.nrg := State.pendLevels_keep State.nrg (fun _ _ _ => rfl) s
@[simp] theorem State.pendLevels_nrgA (s : State) : s.pendLevels.nrgA = s.nrgA := State.pendLevels_keep State.nrgA (fun _ _ _ => rfl) s
@[simp] theorem State.pendLevels_nrgB (s : State) : s.pendLevels.nrgB = s.nrgB := State.pendLevels_keep State.nrgB (fun _ _ _ => rfl) s
@[simp] theorem State.pendLevels_rcd (s : State) : s.pendLevels.rcd = s.rcd := State.pendLevels_keep State.rcd (fun _ _ _ => rfl) s
@[simp] theorem State.pendLevels_recA (s : State) : s.pendLevels.recA = s.recA := State.pendLevels_keep State.recA (fun _ _ _ => rfl) s
@[simp] theorem State.pendLevels_recB (s : State) : s.pendLevels.recB = s.recB := State.pendLevels_keep State.recB (fun _ _ _ => rfl) s
@[simp] theorem State.pendLevels_wdn (s : State) : s.pendLevels.wdn = s.wdn := State.pendLevels_keep State.wdn (fun _ _ _ => rfl) s
@[simp] theorem State.pendLevels_sep (s : State) : s.pendLevels.sep = s.sep := State.pendLevels_keep State.sep (fun _ _ _ => rfl) s
@[simp] theorem State.pendLevels_rtc (s : State) : s.pendLevels.rtc = s.rtc := State.pendLevels_keep State.rtc (fun _ _ _ => rfl) s

@[simp] theorem State.mirror_pending (s : State) : s.mirror.pending = s.pending := rfl
@[simp] theorem State.mirror_paths (s : State) : s.mirror.paths = s.paths := rfl
@[simp] theorem State.mirror_held (s : State) : s.mirror.held = s.held := rfl
@[simp] theorem State.mirror_now (s : State) : s.mirror.now = s.now := rfl
@[simp] theorem State.mirror_freeCtr (s : State) : s.mirror.freeCtr = s.freeCtr := rfl
@[simp] theorem State.mirror_out (s : State) : s.mirror.out = s.out := rfl
@[simp] theorem State.mirror_pwr (s : State) : s.mirror.pwr = s.pwr := rfl
@[simp] theorem State.mirror_ldr (s : State) : s.mirror.ldr = s.ldr := rfl
@[simp] theorem State.mirror_host (s : State) : s.mirror.host = s.host := rfl
@[simp] theorem State.mirror_tmu (s : State) : s.mirror.tmu = s.tmu := rfl
@[simp] theorem State.mirror_evt (s : State) : s.mirror.evt = s.evt := rfl
@[simp] theorem State.mirror_key (s : State) : s.mirror.key = s.key := rfl
@[simp] theorem State.mirror_net (s : State) : s.mirror.net = s.net := rfl
@[simp] theorem State.mirror_ing (s : State) : s.mirror.ing = s.ing := rfl
@[simp] theorem State.mirror_laneA (s : State) : s.mirror.laneA = s.laneA := rfl
@[simp] theorem State.mirror_laneB (s : State) : s.mirror.laneB = s.laneB := rfl
@[simp] theorem State.mirror_slu (s : State) : s.mirror.slu = s.slu := rfl
@[simp] theorem State.mirror_xl (s : State) : s.mirror.xl = s.xl := rfl
@[simp] theorem State.mirror_nrg (s : State) : s.mirror.nrg = s.nrg := rfl
@[simp] theorem State.mirror_nrgA (s : State) : s.mirror.nrgA = s.nrgA := rfl
@[simp] theorem State.mirror_nrgB (s : State) : s.mirror.nrgB = s.nrgB := rfl
@[simp] theorem State.mirror_rcd (s : State) : s.mirror.rcd = s.rcd := rfl
@[simp] theorem State.mirror_recA (s : State) : s.mirror.recA = s.recA := rfl
@[simp] theorem State.mirror_recB (s : State) : s.mirror.recB = s.recB := rfl
@[simp] theorem State.mirror_wdn (s : State) : s.mirror.wdn = s.wdn := rfl
@[simp] theorem State.mirror_sep (s : State) : s.mirror.sep = s.sep := rfl
@[simp] theorem State.mirror_rtc (s : State) : s.mirror.rtc = s.rtc := rfl

@[simp] theorem State.levels_pending (s : State) : s.levels.pending = s.pending := rfl
@[simp] theorem State.levels_paths (s : State) : s.levels.paths = s.paths := rfl
@[simp] theorem State.levels_held (s : State) : s.levels.held = s.held := rfl
@[simp] theorem State.levels_now (s : State) : s.levels.now = s.now := rfl
@[simp] theorem State.levels_freeCtr (s : State) : s.levels.freeCtr = s.freeCtr := rfl
@[simp] theorem State.levels_out (s : State) : s.levels.out = s.out := rfl
@[simp] theorem State.levels_ldr (s : State) : s.levels.ldr = s.ldr := rfl
@[simp] theorem State.levels_host (s : State) : s.levels.host = s.host := rfl
@[simp] theorem State.levels_tmu (s : State) : s.levels.tmu = s.tmu := rfl
@[simp] theorem State.levels_evt (s : State) : s.levels.evt = s.evt := rfl
@[simp] theorem State.levels_key (s : State) : s.levels.key = s.key := rfl
@[simp] theorem State.levels_net (s : State) : s.levels.net = s.net := rfl
@[simp] theorem State.levels_ing (s : State) : s.levels.ing = s.ing := rfl
@[simp] theorem State.levels_laneA (s : State) : s.levels.laneA = s.laneA := rfl
@[simp] theorem State.levels_laneB (s : State) : s.levels.laneB = s.laneB := rfl
@[simp] theorem State.levels_slu (s : State) : s.levels.slu = s.slu := rfl
@[simp] theorem State.levels_xl (s : State) : s.levels.xl = s.xl := rfl
@[simp] theorem State.levels_nrg (s : State) : s.levels.nrg = s.nrg := rfl
@[simp] theorem State.levels_nrgA (s : State) : s.levels.nrgA = s.nrgA := rfl
@[simp] theorem State.levels_nrgB (s : State) : s.levels.nrgB = s.nrgB := rfl
@[simp] theorem State.levels_rcd (s : State) : s.levels.rcd = s.rcd := rfl
@[simp] theorem State.levels_recA (s : State) : s.levels.recA = s.recA := rfl
@[simp] theorem State.levels_recB (s : State) : s.levels.recB = s.recB := rfl
@[simp] theorem State.levels_wdn (s : State) : s.levels.wdn = s.wdn := rfl
@[simp] theorem State.levels_sep (s : State) : s.levels.sep = s.sep := rfl
@[simp] theorem State.levels_rtc (s : State) : s.levels.rtc = s.rtc := rfl

/-- Everything settle does before it puts the tables into canonical form. -/
def State.settled (s : State) : State := ((s.syncHold.breachHold.mateHold.autoSync).pendLevels.mirror).levels
theorem State.settle_eq (s : State) : s.settle =
    { s.settled with
      regs := cellCanon resetVal s.settled.regs
      ldr := { s.settled.ldr with
        bankA := cellCanon (fun _ => 255#8) s.settled.ldr.bankA
        bankB := cellCanon (fun _ => 255#8) s.settled.ldr.bankB }
      laneA := { s.settled.laneA with mem := cellCanon (fun _ => 0#8) s.settled.laneA.mem }
      laneB := { s.settled.laneB with mem := cellCanon (fun _ => 0#8) s.settled.laneB.mem } } := rfl
/-! ### What settle leaves -/

@[simp] theorem State.settled_pending (s : State) : s.settled.pending = s.pending := by simp [State.settled]
@[simp] theorem State.settled_paths (s : State) : s.settled.paths = s.paths := by simp [State.settled]
@[simp] theorem State.settled_held (s : State) : s.settled.held = s.held := by simp [State.settled]
@[simp] theorem State.settled_now (s : State) : s.settled.now = s.now := by simp [State.settled]
@[simp] theorem State.settled_out (s : State) : s.settled.out = s.out := by simp [State.settled]
@[simp] theorem State.settled_ldr (s : State) : s.settled.ldr = s.ldr := by simp [State.settled]
@[simp] theorem State.settled_host (s : State) : s.settled.host = s.host := by simp [State.settled]
@[simp] theorem State.settled_tmu (s : State) : s.settled.tmu = s.tmu := by simp [State.settled]
@[simp] theorem State.settled_key (s : State) : s.settled.key = s.key := by simp [State.settled]
@[simp] theorem State.settled_net (s : State) : s.settled.net = s.net := by simp [State.settled]
@[simp] theorem State.settled_ing (s : State) : s.settled.ing = s.ing := by simp [State.settled]
@[simp] theorem State.settled_laneA (s : State) : s.settled.laneA = s.laneA := by simp [State.settled]
@[simp] theorem State.settled_laneB (s : State) : s.settled.laneB = s.laneB := by simp [State.settled]
@[simp] theorem State.settled_slu (s : State) : s.settled.slu = s.slu := by simp [State.settled]
@[simp] theorem State.settled_xl (s : State) : s.settled.xl = s.xl := by simp [State.settled]
@[simp] theorem State.settled_nrg (s : State) : s.settled.nrg = s.nrg := by simp [State.settled]
@[simp] theorem State.settled_nrgA (s : State) : s.settled.nrgA = s.nrgA := by simp [State.settled]
@[simp] theorem State.settled_nrgB (s : State) : s.settled.nrgB = s.nrgB := by simp [State.settled]
@[simp] theorem State.settled_rcd (s : State) : s.settled.rcd = s.rcd := by simp [State.settled]
@[simp] theorem State.settled_recA (s : State) : s.settled.recA = s.recA := by simp [State.settled]
@[simp] theorem State.settled_recB (s : State) : s.settled.recB = s.recB := by simp [State.settled]
@[simp] theorem State.settled_wdn (s : State) : s.settled.wdn = s.wdn := by simp [State.settled]
@[simp] theorem State.settled_sep (s : State) : s.settled.sep = s.sep := by simp [State.settled]
@[simp] theorem State.settle_pending (s : State) : s.settle.pending = s.pending := by rw [State.settle_eq]; simp only [State.settled_pending]
@[simp] theorem State.settle_paths (s : State) : s.settle.paths = s.paths := by rw [State.settle_eq]; simp only [State.settled_paths]
@[simp] theorem State.settle_held (s : State) : s.settle.held = s.held := by rw [State.settle_eq]; simp only [State.settled_held]
@[simp] theorem State.settle_now (s : State) : s.settle.now = s.now := by rw [State.settle_eq]; simp only [State.settled_now]
@[simp] theorem State.settle_out (s : State) : s.settle.out = s.out := by rw [State.settle_eq]; simp only [State.settled_out]
@[simp] theorem State.settle_host (s : State) : s.settle.host = s.host := by rw [State.settle_eq]; simp only [State.settled_host]
@[simp] theorem State.settle_tmu (s : State) : s.settle.tmu = s.tmu := by rw [State.settle_eq]; simp only [State.settled_tmu]
@[simp] theorem State.settle_key (s : State) : s.settle.key = s.key := by rw [State.settle_eq]; simp only [State.settled_key]
@[simp] theorem State.settle_net (s : State) : s.settle.net = s.net := by rw [State.settle_eq]; simp only [State.settled_net]
@[simp] theorem State.settle_ing (s : State) : s.settle.ing = s.ing := by rw [State.settle_eq]; simp only [State.settled_ing]
@[simp] theorem State.settle_slu (s : State) : s.settle.slu = s.slu := by rw [State.settle_eq]; simp only [State.settled_slu]
@[simp] theorem State.settle_xl (s : State) : s.settle.xl = s.xl := by rw [State.settle_eq]; simp only [State.settled_xl]
@[simp] theorem State.settle_nrg (s : State) : s.settle.nrg = s.nrg := by rw [State.settle_eq]; simp only [State.settled_nrg]
@[simp] theorem State.settle_nrgA (s : State) : s.settle.nrgA = s.nrgA := by rw [State.settle_eq]; simp only [State.settled_nrgA]
@[simp] theorem State.settle_nrgB (s : State) : s.settle.nrgB = s.nrgB := by rw [State.settle_eq]; simp only [State.settled_nrgB]
@[simp] theorem State.settle_rcd (s : State) : s.settle.rcd = s.rcd := by rw [State.settle_eq]; simp only [State.settled_rcd]
@[simp] theorem State.settle_recA (s : State) : s.settle.recA = s.recA := by rw [State.settle_eq]; simp only [State.settled_recA]
@[simp] theorem State.settle_recB (s : State) : s.settle.recB = s.recB := by rw [State.settle_eq]; simp only [State.settled_recB]
@[simp] theorem State.settle_wdn (s : State) : s.settle.wdn = s.wdn := by rw [State.settle_eq]; simp only [State.settled_wdn]
@[simp] theorem State.settle_sep (s : State) : s.settle.sep = s.sep := by rw [State.settle_eq]; simp only [State.settled_sep]
/-- Lane A but for the form of its memory. -/
theorem State.settle_laneA (s : State) : s.settle.laneA = { s.laneA with mem := cellCanon (fun _ => 0#8) s.laneA.mem } := by
  rw [State.settle_eq]; simp only [State.settled_laneA]
/-- Lane B but for the form of its memory. -/
theorem State.settle_laneB (s : State) : s.settle.laneB = { s.laneB with mem := cellCanon (fun _ => 0#8) s.laneB.mem } := by
  rw [State.settle_eq]; simp only [State.settled_laneB]
theorem State.settle_lane (s : State) (l : Lane) : s.settle.lane l = { s.lane l with mem := cellCanon (fun _ => 0#8) (s.lane l).mem } := by
  cases l
  · exact s.settle_laneA
  · exact s.settle_laneB
/-- The loader but for the form of the banks. -/
theorem State.settle_ldr (s : State) : s.settle.ldr = { s.ldr with
    bankA := cellCanon (fun _ => 255#8) s.ldr.bankA, bankB := cellCanon (fun _ => 255#8) s.ldr.bankB } := by
  rw [State.settle_eq]; simp only [State.settled_ldr]
/-- The power state but for MGMT_nALERT and PHY_nRST. -/
theorem State.settle_pwr (s : State) : ∃ a b, s.settle.pwr = { s.pwr with alert := a, phyRun := b } := by
  have h : ∀ t : State, ∃ a b, t.levels.pwr = { t.pwr with alert := a, phyRun := b } := fun t => ⟨_, _, rfl⟩
  obtain ⟨a, b, ha⟩ := h (s.syncHold.breachHold.mateHold.autoSync).pendLevels.mirror
  refine ⟨a, b, ?_⟩
  rw [State.settle_eq]
  refine (show s.settled.pwr = _ from ha).trans ?_
  simp

theorem settleKey_ne {k j : Nat} (h : settleKey k = false) (hj : settleKey j = true) : j ≠ k := by
  rintro rfl; rw [h] at hj; exact Bool.false_ne_true hj
theorem settleKey_pend {k : Nat} (h : settleKey k = false) : pendKey k = false := (Bool.or_eq_false_iff.1 h).2

theorem State.rd_levelPend (s : State) (v : Vec) {k : Nat} (h : vecCfg v + 12 ≠ k) : (s.levelPend v).rd k = s.rd k := by
  unfold State.levelPend; rw [State.rd_setB, if_neg h]
theorem State.foldl_rd {α : Type} (f : State → α → State) (k : Nat) (h : ∀ s a, (f s a).rd k = s.rd k) (l : List α) (s : State) :
    (l.foldl f s).rd k = s.rd k := foldl_keep f (fun s => s.rd k) h l s

theorem State.rd_pendLevels (s : State) {k : Nat} (h : pendKey k = false) : s.pendLevels.rd k = s.rd k := by
  unfold State.pendLevels
  simp only [pendKey, Bool.or_eq_false_iff, Bool.and_eq_false_iff, decide_eq_false_iff_not, beq_eq_false_iff_ne] at h
  rw [State.foldl_rd, State.foldl_rd]
  · intro s v; apply State.rd_levelPend
    have := v.isLt
    show 0x412000 + v.val * 16 + 12 ≠ k
    omega
  · intro s n; apply State.rd_levelPend
    have := n.isLt
    show 0x8000400 + n.val * 4096 + 2 * 16 + 12 ≠ k
    omega

theorem State.levels_regs (s : State) : s.levels.regs =
    (((s.wr (R.ICU_SRC_LEVEL 0) (s.srcWord 0)).wr (R.ICU_SRC_LEVEL 1) (s.srcWord 1)).wr (R.ICU_SRC_LEVEL 2) (s.srcWord 2)).regs := rfl
theorem State.rd_levels (s : State) {k : Nat} (h0 : R.ICU_SRC_LEVEL 0 ≠ k) (h1 : R.ICU_SRC_LEVEL 1 ≠ k) (h2 : R.ICU_SRC_LEVEL 2 ≠ k) :
    s.levels.rd k = s.rd k := by
  rw [State.rd_congr s.levels_regs, State.rd_wr, if_neg h2, State.rd_wr, if_neg h1, State.rd_wr, if_neg h0]
theorem State.rd_mirror (s : State) {k : Nat} (h1 : R.TMU_STATUS ≠ k) (h2 : R.VIR_STATUS ≠ k) (h3 : R.EVT_STATUS ≠ k)
    (h4 : R.SEP_STATUS ≠ k) (h5 : R.CFG_STATUS ≠ k) : s.mirror.rd k = s.rd k := by
  unfold State.mirror
  rw [State.rd_wr, if_neg h5, State.rd_setB, if_neg h4, State.rd_wr, if_neg h3, State.rd_wr, if_neg h2, State.rd_wr, if_neg h1]
theorem State.rd_autoSync (s : State) {k : Nat} (h : R.RTC_STATUS ≠ k) : s.autoSync.rd k = s.rd k := by
  unfold State.autoSync; dsimp only; split
  · unfold State.syncArm; rw [State.rd_setB, if_neg h]; rfl
  · rfl
theorem State.rd_mateHold (s : State) {k : Nat} (h1 : R.WDN_MATE_STATUS ≠ k) (h2 : R.WDN_EVENTS ≠ k) : s.mateHold.rd k = s.rd k := by
  unfold State.mateHold; dsimp only; split
  · rfl
  · rw [State.rd_setB, if_neg h2, State.rd_setF, if_neg h1]
theorem State.rd_breachHold (s : State) {k : Nat} (h1 : R.WDN_BREACH ≠ k) (h2 : R.WDN_STATUS ≠ k) (h3 : R.WDN_EVENTS ≠ k)
    (h4 : R.EVT_LOST ≠ k) (h5 : R.EVT_EVENTS ≠ k) : s.breachHold.rd k = s.rd k := by
  unfold State.breachHold; dsimp only; split
  · rfl
  · have x : ∀ w b, ((s.wr R.WDN_BREACH w).setB R.WDN_STATUS 3 b).rd k = s.rd k := by
      intro w b; rw [State.rd_setB, if_neg h2, State.rd_wr, if_neg h1]
    split
    · exact x _ _
    · rw [State.rd_eventOpen _ _ h4.symm h5.symm, State.rd_setB, if_neg h3, x]
theorem State.rd_syncHold (s : State) {k : Nat} (h : R.WDN_STATUS ≠ k) : s.syncHold.rd k = s.rd k := by
  unfold State.syncHold; rw [State.rd_setB, if_neg h]
theorem State.settle_regs (s : State) : s.settle.regs = cellCanon resetVal s.settled.regs := by rw [State.settle_eq]
theorem State.settle_rd_settled (s : State) (k : Nat) : s.settle.rd k = s.settled.rd k := by
  unfold State.rd; rw [s.settle_regs, cellGet_canon]
/-- A register that follows no other state reads after settle as before. -/
theorem State.settle_rd (s : State) {k : Nat} (h : settleKey k = false) : s.settle.rd k = s.rd k := by
  have n : ∀ j, settleKey j = true → j ≠ k := fun j hj => settleKey_ne h hj
  rw [s.settle_rd_settled]; unfold State.settled
  rw [State.rd_levels _ (n _ rfl) (n _ rfl) (n _ rfl), State.rd_mirror _ (n _ rfl) (n _ rfl) (n _ rfl) (n _ rfl) (n _ rfl),
    State.rd_pendLevels _ (settleKey_pend h), State.rd_autoSync _ (n _ rfl), State.rd_mateHold _ (n _ rfl) (n _ rfl),
    State.rd_breachHold _ (n _ rfl) (n _ rfl) (n _ rfl) (n _ rfl) (n _ rfl), State.rd_syncHold _ (n _ rfl)]
theorem State.settle_fld (s : State) {k : Nat} (h : settleKey k = false) (hi lo : Nat) : s.settle.fld k hi lo = s.fld k hi lo := by
  unfold State.fld; rw [s.settle_rd h]
theorem State.settle_bit (s : State) {k : Nat} (h : settleKey k = false) (i : Nat) : s.settle.bit k i = s.bit k i := by
  unfold State.bit; rw [s.settle_rd h]

/-- Of CFG_STATUS settle writes bit 10 alone. -/
theorem State.settle_cfgStatus_fld (s : State) (hi lo : Nat) (h : hi < 32) (hd : hi < 10 ∨ 10 < lo) :
    s.settle.fld R.CFG_STATUS hi lo = s.fld R.CFG_STATUS hi lo := by
  have e : ∀ t : State, t.mirror.fld R.CFG_STATUS hi lo = t.fld R.CFG_STATUS hi lo := by
    intro t; unfold State.mirror State.fld
    rw [State.rd_wr_same, bitsOf_mod_two32 _ _ _ h, bitsOf_putBits_other _ _ _ _ _ _ (by decide) hd, State.rd_setB, if_neg (by decide),
      State.rd_wr, if_neg (by decide), State.rd_wr, if_neg (by decide), State.rd_wr, if_neg (by decide)]
  unfold State.fld at e ⊢
  rw [s.settle_rd_settled]; unfold State.settled
  rw [State.rd_levels _ (by decide) (by decide) (by decide), e, State.rd_pendLevels _ (by decide), State.rd_autoSync _ (by decide),
    State.rd_mateHold _ (by decide) (by decide), State.rd_breachHold _ (by decide) (by decide) (by decide) (by decide) (by decide),
    State.rd_syncHold _ (by decide)]
/-- Of WDN_STATUS settle writes bits 3 and 4 alone. -/
theorem State.settle_wdnStatus_fld (s : State) (hi lo : Nat) (h : hi < 32) (hd : hi < 3 ∨ 4 < lo) :
    s.settle.fld R.WDN_STATUS hi lo = s.fld R.WDN_STATUS hi lo := by
  have e : ∀ t : State, t.breachHold.fld R.WDN_STATUS hi lo = t.fld R.WDN_STATUS hi lo := by
    intro t; unfold State.breachHold; dsimp only; split
    · rfl
    · have x : ∀ w b, ((t.wr R.WDN_BREACH w).setB R.WDN_STATUS 3 b).fld R.WDN_STATUS hi lo = t.fld R.WDN_STATUS hi lo := by
        intro w b
        exact ((t.wr R.WDN_BREACH w).fld_setF_apart _ _ _ _ _ _ (by decide) h (by omega)).trans (by simp [State.fld, State.rd_wr, show R.WDN_BREACH ≠ R.WDN_STATUS by decide])
      split
      · exact x _ _
      · rw [← x (t.breachWord) (t.breachWord != 0)]
        unfold State.fld; rw [State.rd_eventOpen _ _ (by decide) (by decide), State.rd_setB, if_neg (by decide)]
  have f : s.syncHold.fld R.WDN_STATUS hi lo = s.fld R.WDN_STATUS hi lo :=
    s.fld_setF_apart _ _ _ _ _ _ (by decide) h (by omega)
  unfold State.fld at e f ⊢
  rw [s.settle_rd_settled]; unfold State.settled
  rw [State.rd_levels _ (by decide) (by decide) (by decide), State.rd_mirror _ (by decide) (by decide) (by decide) (by decide) (by decide),
    State.rd_pendLevels _ (by decide), State.rd_autoSync _ (by decide), State.rd_mateHold _ (by decide) (by decide), e, f]

/-- Of TMU_STATUS settle writes bits 0 to 11 alone. -/
theorem State.settle_tmuStatus_fld (s : State) (hi lo : Nat) (h : hi < 32) (hd : 11 < lo) :
    s.settle.fld R.TMU_STATUS hi lo = s.fld R.TMU_STATUS hi lo := by
  have e : ∀ t : State, t.mirror.fld R.TMU_STATUS hi lo = t.fld R.TMU_STATUS hi lo := by
    intro t; unfold State.mirror State.fld
    rw [State.rd_wr, if_neg (by decide), State.rd_setB, if_neg (by decide), State.rd_wr, if_neg (by decide), State.rd_wr, if_neg (by decide),
      State.rd_wr_same, bitsOf_mod_two32 _ _ _ h, bitsOf_putBits_other _ _ _ _ _ _ (by decide) (.inr hd),
      bitsOf_putBits_other _ _ _ _ _ _ (by decide) (.inr (by omega))]
  unfold State.fld at e ⊢
  rw [s.settle_rd_settled]; unfold State.settled
  rw [State.rd_levels _ (by decide) (by decide) (by decide), e, State.rd_pendLevels _ (by decide), State.rd_autoSync _ (by decide),
    State.rd_mateHold _ (by decide) (by decide), State.rd_breachHold _ (by decide) (by decide) (by decide) (by decide) (by decide),
    State.rd_syncHold _ (by decide)]
/-- Of SEP_STATUS settle writes bit 3 alone. -/
theorem State.settle_sepStatus_fld (s : State) (hi lo : Nat) (h : hi < 32) (hd : hi < 3 ∨ 3 < lo) :
    s.settle.fld R.SEP_STATUS hi lo = s.fld R.SEP_STATUS hi lo := by
  have e : ∀ t : State, t.mirror.fld R.SEP_STATUS hi lo = t.fld R.SEP_STATUS hi lo := by
    intro t; unfold State.mirror State.fld
    rw [State.rd_wr, if_neg (by decide), State.setB, State.rd_setF, if_pos rfl, bitsOf_mod_two32 _ _ _ h,
      bitsOf_putBits_other _ _ _ _ _ _ (by decide) hd, State.rd_wr, if_neg (by decide), State.rd_wr, if_neg (by decide),
      State.rd_wr, if_neg (by decide)]
  unfold State.fld at e ⊢
  rw [s.settle_rd_settled]; unfold State.settled
  rw [State.rd_levels _ (by decide) (by decide) (by decide), e, State.rd_pendLevels _ (by decide), State.rd_autoSync _ (by decide),
    State.rd_mateHold _ (by decide) (by decide), State.rd_breachHold _ (by decide) (by decide) (by decide) (by decide) (by decide),
    State.rd_syncHold _ (by decide)]
/-- Of VIR_STATUS settle writes bits 1 and 8 to 14 alone. -/
theorem State.settle_virStatus_fld (s : State) (hi lo : Nat) (h : hi < 32) (hd : hi < 1 ∨ (1 < lo ∧ hi < 8) ∨ 14 < lo) :
    s.settle.fld R.VIR_STATUS hi lo = s.fld R.VIR_STATUS hi lo := by
  have e : ∀ t : State, t.mirror.fld R.VIR_STATUS hi lo = t.fld R.VIR_STATUS hi lo := by
    intro t; unfold State.mirror State.fld
    rw [State.rd_wr, if_neg (by decide), State.rd_setB, if_neg (by decide), State.rd_wr, if_neg (by decide), State.rd_wr_same,
      bitsOf_mod_two32 _ _ _ h, bitsOf_putBits_other _ _ _ _ _ _ (by decide) (by omega),
      bitsOf_putBits_other _ _ _ _ _ _ (by decide) (by omega), State.rd_wr, if_neg (by decide)]
  unfold State.fld at e ⊢
  rw [s.settle_rd_settled]; unfold State.settled
  rw [State.rd_levels _ (by decide) (by decide) (by decide), e, State.rd_pendLevels _ (by decide), State.rd_autoSync _ (by decide),
    State.rd_mateHold _ (by decide) (by decide), State.rd_breachHold _ (by decide) (by decide) (by decide) (by decide) (by decide),
    State.rd_syncHold _ (by decide)]
/-- Of RTC_STATUS settle writes bit 2 alone. -/
theorem State.settle_rtcStatus_fld (s : State) (hi lo : Nat) (h : hi < 32) (hd : hi < 2 ∨ 2 < lo) :
    s.settle.fld R.RTC_STATUS hi lo = s.fld R.RTC_STATUS hi lo := by
  have e : ∀ t : State, t.autoSync.fld R.RTC_STATUS hi lo = t.fld R.RTC_STATUS hi lo := by
    intro t; unfold State.autoSync; dsimp only; split
    · unfold State.syncArm; exact State.fld_setF_apart _ _ _ _ _ _ _ (by decide) h (by omega)
    · rfl
  unfold State.fld at e ⊢
  rw [s.settle_rd_settled]; unfold State.settled
  rw [State.rd_levels _ (by decide) (by decide) (by decide), State.rd_mirror _ (by decide) (by decide) (by decide) (by decide) (by decide),
    State.rd_pendLevels _ (by decide), e,
    State.rd_mateHold _ (by decide) (by decide), State.rd_breachHold _ (by decide) (by decide) (by decide) (by decide) (by decide),
    State.rd_syncHold _ (by decide)]
/-- Of WDN_MATE_STATUS settle writes PAIRED and COVERING alone. -/
theorem State.settle_mateStatus_fld (s : State) (hi lo : Nat) (h : hi < 32) (hd : hi < 1 ∨ 2 < lo) :
    s.settle.fld R.WDN_MATE_STATUS hi lo = s.fld R.WDN_MATE_STATUS hi lo := by
  have e : ∀ t : State, t.mateHold.fld R.WDN_MATE_STATUS hi lo = t.fld R.WDN_MATE_STATUS hi lo := by
    intro t; unfold State.mateHold; dsimp only; split
    · rfl
    · rw [State.fld, State.rd_setB, if_neg (by decide)]
      exact State.fld_setF_apart _ _ _ _ _ _ _ (by decide) h (by omega)
  unfold State.fld at e ⊢
  rw [s.settle_rd_settled]; unfold State.settled
  rw [State.rd_levels _ (by decide) (by decide) (by decide), State.rd_mirror _ (by decide) (by decide) (by decide) (by decide) (by decide),
    State.rd_pendLevels _ (by decide), State.rd_autoSync _ (by decide), e,
    State.rd_breachHold _ (by decide) (by decide) (by decide) (by decide) (by decide), State.rd_syncHold _ (by decide)]

theorem State.bit_setB_set (s : State) (k j i : Nat) (hi : i < 32) (h : s.bit k i = true) : (s.setB k j true).bit k i = true := by
  by_cases e : j = i
  · subst e; exact State.bit_setB_same _ _ _ _ hi
  · rw [State.bit_setB_apart _ _ _ hi e, h]
/-- settle clears no event of WDN_EVENTS. -/
theorem State.settle_wdnEvents_set (s : State) (i : Nat) (hi : i < 32) (h : s.bit R.WDN_EVENTS i = true) : s.settle.bit R.WDN_EVENTS i = true := by
  have h1 : s.syncHold.bit R.WDN_EVENTS i = true := by
    unfold State.syncHold; rw [State.bit_setB_other _ _ _ _ (by decide), h]
  have h2 : s.syncHold.breachHold.bit R.WDN_EVENTS i = true := by
    generalize s.syncHold = t at h1
    unfold State.breachHold; dsimp only; split
    · exact h1
    · have x : ((t.wr R.WDN_BREACH t.breachWord).setB R.WDN_STATUS 3 (t.breachWord != 0)).bit R.WDN_EVENTS i = true := by
        rw [State.bit_setB_other _ _ _ _ (by decide), State.bit_wr_other _ _ _ (by decide), h1]
      split
      · exact x
      · have y := State.bit_setB_set _ R.WDN_EVENTS (if t.bit R.WDN_STATUS 3 = true then 6 else 5) i hi x
        unfold State.bit at y ⊢
        rw [State.rd_eventOpen _ _ (by decide) (by decide)]
        exact y
  have h3 : s.syncHold.breachHold.mateHold.bit R.WDN_EVENTS i = true := by
    generalize s.syncHold.breachHold = t at h2
    unfold State.mateHold; dsimp only; split
    · exact h2
    · apply State.bit_setB_set _ _ _ _ hi
      unfold State.bit; rw [State.rd_setF, if_neg (by decide)]; exact h2
  unfold State.bit at h3 ⊢
  rw [s.settle_rd_settled]; unfold State.settled
  rw [State.rd_levels _ (by decide) (by decide) (by decide), State.rd_mirror _ (by decide) (by decide) (by decide) (by decide) (by decide),
    State.rd_pendLevels _ (by decide), State.rd_autoSync _ (by decide), h3]

/-! ### What settle makes true -/

/-- Every table of a settled state has the canonical form. -/
theorem State.settle_tablesWf (s : State) : s.settle.tablesWf = true := by
  unfold State.tablesWf
  rw [s.settle_laneA, s.settle_laneB, s.settle_ldr, s.settle_regs]
  simp only [cellWf_canon, Bool.and_true]

/-! ### finish -/

/-- Every command that ends in `finish` answers a next state: its effect, settled, with the queue it found. -/
theorem finish_next (s0 s1 : State) : finish s0 s1 = .next { s1.settle with pending := s0.pending, was := s0.regs } := by
  unfold finish; dsimp only
theorem finish_inv {s0 s1 t : State} (h : finish s0 s1 = .next t) : t = { s1.settle with pending := s0.pending, was := s0.regs } := by
  rw [finish_next] at h; injection h with h; exact h.symm

end Sys2Proof.Machine
end

