-- ==== Sys2Proof/Laws/Frame.lean ====
section
/-! SUPPORT. What `finish` answers, in the words of the statements: `Answers` and `Only`. -/
namespace Sys2Proof.Machine

theorem State.rd_with_queue (s : State) (q : List Instr) (w) (k : Nat) : ({ s with pending := q, was := w } : State).rd k = s.rd k := rfl
/-- The state that `finish` answers. -/
def State.ended (s0 s1 : State) : State := { s1.settle with pending := s0.pending, was := s0.regs }
theorem finish_ended (s0 s1 : State) : finish s0 s1 = .next (s0.ended s1) := by unfold finish State.ended; dsimp only
/-- The registers before the command. -/
@[simp] theorem State.ended_was (s0 s1 : State) : (s0.ended s1).was = s0.regs := by unfold State.ended; dsimp only
@[simp] theorem State.ended_pending (s0 s1 : State) : (s0.ended s1).pending = s0.pending := by unfold State.ended; dsimp only
/-- A command that ends in `finish` answers whatever holds of the state it ends in. -/
theorem answers_of_finish {c : Instr} {s s1 : State} {P : State → Prop} (h : exec c s = finish s s1) (hp : P (s.ended s1)) :
    Answers c s P := ⟨s.ended s1, h.trans (finish_ended s s1), s.ended_pending s1, hp⟩
theorem Answers.mono {c : Instr} {s : State} {P Q : State → Prop} (h : Answers c s P) (hq : ∀ t, P t → Q t) : Answers c s Q := by
  obtain ⟨t, h1, h2, h3⟩ := h
  exact ⟨t, h1, h2, hq t h3⟩

@[simp] theorem State.ended_paths (s0 s1 : State) : (s0.ended s1).paths = s1.paths := by simp only [State.ended, State.settle_paths]
@[simp] theorem State.ended_held (s0 s1 : State) : (s0.ended s1).held = s1.held := by simp only [State.ended, State.settle_held]
@[simp] theorem State.ended_now (s0 s1 : State) : (s0.ended s1).now = s1.now := by simp only [State.ended, State.settle_now]
@[simp] theorem State.ended_out (s0 s1 : State) : (s0.ended s1).out = s1.out := by simp only [State.ended, State.settle_out]
@[simp] theorem State.ended_host (s0 s1 : State) : (s0.ended s1).host = s1.host := by simp only [State.ended, State.settle_host]
@[simp] theorem State.ended_tmu (s0 s1 : State) : (s0.ended s1).tmu = s1.tmu := by simp only [State.ended, State.settle_tmu]
@[simp] theorem State.ended_key (s0 s1 : State) : (s0.ended s1).key = s1.key := by simp only [State.ended, State.settle_key]
@[simp] theorem State.ended_net (s0 s1 : State) : (s0.ended s1).net = s1.net := by simp only [State.ended, State.settle_net]
@[simp] theorem State.ended_ing (s0 s1 : State) : (s0.ended s1).ing = s1.ing := by simp only [State.ended, State.settle_ing]
@[simp] theorem State.ended_slu (s0 s1 : State) : (s0.ended s1).slu = s1.slu := by simp only [State.ended, State.settle_slu]
@[simp] theorem State.ended_xl (s0 s1 : State) : (s0.ended s1).xl = s1.xl := by simp only [State.ended, State.settle_xl]
@[simp] theorem State.ended_nrg (s0 s1 : State) : (s0.ended s1).nrg = s1.nrg := by simp only [State.ended, State.settle_nrg]
@[simp] theorem State.ended_nrgA (s0 s1 : State) : (s0.ended s1).nrgA = s1.nrgA := by simp only [State.ended, State.settle_nrgA]
@[simp] theorem State.ended_nrgB (s0 s1 : State) : (s0.ended s1).nrgB = s1.nrgB := by simp only [State.ended, State.settle_nrgB]
@[simp] theorem State.ended_rcd (s0 s1 : State) : (s0.ended s1).rcd = s1.rcd := by simp only [State.ended, State.settle_rcd]
@[simp] theorem State.ended_recA (s0 s1 : State) : (s0.ended s1).recA = s1.recA := by simp only [State.ended, State.settle_recA]
@[simp] theorem State.ended_recB (s0 s1 : State) : (s0.ended s1).recB = s1.recB := by simp only [State.ended, State.settle_recB]
@[simp] theorem State.ended_wdn (s0 s1 : State) : (s0.ended s1).wdn = s1.wdn := by simp only [State.ended, State.settle_wdn]
@[simp] theorem State.ended_sep (s0 s1 : State) : (s0.ended s1).sep = s1.sep := by simp only [State.ended, State.settle_sep]
theorem State.ended_laneA (s0 s1 : State) : (s0.ended s1).laneA = { s1.laneA with mem := cellCanon (fun _ => 0#8) s1.laneA.mem } := by
  simp only [State.ended, State.settle_laneA]
theorem State.ended_laneB (s0 s1 : State) : (s0.ended s1).laneB = { s1.laneB with mem := cellCanon (fun _ => 0#8) s1.laneB.mem } := by
  simp only [State.ended, State.settle_laneB]
theorem State.ended_lane (s0 s1 : State) (l : Lane) :
    (s0.ended s1).lane l = { s1.lane l with mem := cellCanon (fun _ => 0#8) (s1.lane l).mem } := by
  cases l
  · exact s0.ended_laneA s1
  · exact s0.ended_laneB s1
theorem State.ended_ldr (s0 s1 : State) : (s0.ended s1).ldr = { s1.ldr with
    bankA := cellCanon (fun _ => 255#8) s1.ldr.bankA, bankB := cellCanon (fun _ => 255#8) s1.ldr.bankB } := by
  simp only [State.ended, State.settle_ldr]
theorem State.ended_pwr (s0 s1 : State) : ∃ a b, (s0.ended s1).pwr = { s1.pwr with alert := a, phyRun := b } := by
  simpa only [State.ended] using s1.settle_pwr

theorem State.ended_rd (s0 s1 : State) {k : Nat} (h : settleKey k = false) : (s0.ended s1).rd k = s1.rd k := by
  rw [State.ended, State.rd_with_queue, s1.settle_rd h]
theorem State.ended_fld (s0 s1 : State) {k : Nat} (h : settleKey k = false) (hi lo : Nat) :
    (s0.ended s1).fld k hi lo = s1.fld k hi lo := by
  unfold State.fld; rw [s0.ended_rd s1 h]
theorem State.ended_bit (s0 s1 : State) {k : Nat} (h : settleKey k = false) (i : Nat) : (s0.ended s1).bit k i = s1.bit k i := by
  unfold State.bit; rw [s0.ended_rd s1 h]

theorem State.ended_rd_settle (s0 s1 : State) (k : Nat) : (s0.ended s1).rd k = s1.settle.rd k := by
  rw [State.ended, State.rd_with_queue]
theorem State.ended_fld_settle (s0 s1 : State) (k hi lo : Nat) : (s0.ended s1).fld k hi lo = s1.settle.fld k hi lo := by
  unfold State.fld; rw [s0.ended_rd_settle s1]
theorem State.ended_bit_settle (s0 s1 : State) (k i : Nat) : (s0.ended s1).bit k i = s1.settle.bit k i := by
  unfold State.bit; rw [s0.ended_rd_settle s1]
theorem State.ended_cfgStatus_fld (s0 s1 : State) (hi lo : Nat) (h : hi < 32) (hd : hi < 10 ∨ 10 < lo) :
    (s0.ended s1).fld R.CFG_STATUS hi lo = s1.fld R.CFG_STATUS hi lo := by
  rw [s0.ended_fld_settle s1, s1.settle_cfgStatus_fld hi lo h hd]
theorem State.ended_wdnStatus_fld (s0 s1 : State) (hi lo : Nat) (h : hi < 32) (hd : hi < 3 ∨ 4 < lo) :
    (s0.ended s1).fld R.WDN_STATUS hi lo = s1.fld R.WDN_STATUS hi lo := by
  rw [s0.ended_fld_settle s1, s1.settle_wdnStatus_fld hi lo h hd]
theorem State.ended_tmuStatus_fld (s0 s1 : State) (hi lo : Nat) (h : hi < 32) (hd : 11 < lo) :
    (s0.ended s1).fld R.TMU_STATUS hi lo = s1.fld R.TMU_STATUS hi lo := by
  rw [s0.ended_fld_settle s1, s1.settle_tmuStatus_fld hi lo h hd]
theorem State.ended_sepStatus_fld (s0 s1 : State) (hi lo : Nat) (h : hi < 32) (hd : hi < 3 ∨ 3 < lo) :
    (s0.ended s1).fld R.SEP_STATUS hi lo = s1.fld R.SEP_STATUS hi lo := by
  rw [s0.ended_fld_settle s1, s1.settle_sepStatus_fld hi lo h hd]
theorem State.ended_virStatus_fld (s0 s1 : State) (hi lo : Nat) (h : hi < 32) (hd : hi < 1 ∨ (1 < lo ∧ hi < 8) ∨ 14 < lo) :
    (s0.ended s1).fld R.VIR_STATUS hi lo = s1.fld R.VIR_STATUS hi lo := by
  rw [s0.ended_fld_settle s1, s1.settle_virStatus_fld hi lo h hd]
theorem State.ended_rtcStatus_fld (s0 s1 : State) (hi lo : Nat) (h : hi < 32) (hd : hi < 2 ∨ 2 < lo) :
    (s0.ended s1).fld R.RTC_STATUS hi lo = s1.fld R.RTC_STATUS hi lo := by
  rw [s0.ended_fld_settle s1, s1.settle_rtcStatus_fld hi lo h hd]
theorem State.ended_mateStatus_fld (s0 s1 : State) (hi lo : Nat) (h : hi < 32) (hd : hi < 1 ∨ 2 < lo) :
    (s0.ended s1).fld R.WDN_MATE_STATUS hi lo = s1.fld R.WDN_MATE_STATUS hi lo := by
  rw [s0.ended_fld_settle s1, s1.settle_mateStatus_fld hi lo h hd]
theorem State.ended_wdnEvents_set (s0 s1 : State) (i : Nat) (hi : i < 32) (h : s1.bit R.WDN_EVENTS i = true) :
    (s0.ended s1).bit R.WDN_EVENTS i = true := by
  rw [s0.ended_bit_settle s1]; exact s1.settle_wdnEvents_set i hi h
/-- A bit is a field of one bit. -/
theorem State.bit_eq_fld (s : State) (k i : Nat) : s.bit k i = (s.fld k i i == 1) := by
  simp [State.bit, State.fld, bitsOf, Nat.testBit, Nat.shiftRight_eq_div_pow]

/-! ### Event records -/

theorem State.with_queue_rtc (s : State) (q : List Instr) (w) : ({ s with pending := q, was := w } : State).rtc = s.rtc := rfl
theorem State.with_queue_evt (s : State) (q : List Instr) (w) : ({ s with pending := q, was := w } : State).evt = s.evt := rfl


/-- An event enters the queue behind those that wait, where it has room. -/
theorem State.event_room (s : State) (typ src : Nat) (d : List Nat) (h : s.evt.queue.length < 256) :
    ∃ it, (s.event typ src d).evt.queue = s.evt.queue ++ [it] ∧ it.typ = typ := by
  unfold State.event; rw [if_pos h]; exact ⟨_, rfl, rfl⟩
theorem State.event_append (s : State) (typ src : Nat) (d : List Nat) : ∃ l, (s.event typ src d).evt.queue = s.evt.queue ++ l := by
  unfold State.event; split
  · exact ⟨_, rfl⟩
  · exact ⟨[], by simp⟩
theorem State.eventOpen_room (s : State) (typ : Nat) (h : s.evt.queue.length < 256) :
    ∃ it, (s.eventOpen typ).evt.queue = s.evt.queue ++ [it] ∧ it.typ = typ := by
  unfold State.eventOpen; exact State.event_room _ _ _ _ h
theorem State.eventOpen_append (s : State) (typ : Nat) : ∃ l, (s.eventOpen typ).evt.queue = s.evt.queue ++ l := by
  unfold State.eventOpen; exact State.event_append _ _ _ _
/-- At the end of a command at most more records stand behind the queue. -/
theorem State.ended_queue (s0 s1 : State) : ∃ l, (s0.ended s1).evt.queue = s1.evt.queue ++ l := by
  have e : (s0.ended s1).evt = s1.syncHold.breachHold.evt := by
    have e1 : (s0.ended s1).evt = s1.settle.evt := by unfold State.ended; rw [State.with_queue_evt]
    rw [e1, State.settle_eq]; simp [State.settled]
  rw [e]; unfold State.breachHold; dsimp only
  split
  · exact ⟨[], by simp⟩
  · split
    · exact ⟨[], by simp⟩
    · exact (State.eventOpen_append _ _).imp (fun l h => h.trans (by simp))
/-- A command whose operations append records of which the first has the type. -/
theorem recorded_of {typ : Nat} {s s1 : State} (h : s.evt.queue.length < 256 → ∃ it l, s1.evt.queue = s.evt.queue ++ it :: l ∧ it.typ = typ) :
    Recorded typ s (s.ended s1) := by
  intro hl
  obtain ⟨it, l, h1, h2⟩ := h hl
  obtain ⟨m, h3⟩ := s.ended_queue s1
  exact ⟨it, l ++ m, by rw [h3, h1]; simp, h2⟩

/-! ### Frames -/

/-- The automatic sync aside, settle leaves the clock's own state. -/
theorem State.autoSync_rtc (s : State) : { s.autoSync.rtc with synced := s.rtc.synced, autoAt := s.rtc.autoAt } = s.rtc := by
  unfold State.autoSync; dsimp only; split <;> rfl
theorem State.settle_rtc (s : State) : { s.settle.rtc with synced := s.rtc.synced, autoAt := s.rtc.autoAt } = s.rtc := by
  have h := (s.syncHold.breachHold.mateHold).autoSync_rtc
  rw [State.settle_eq]
  have e : s.settled.rtc = (s.syncHold.breachHold.mateHold.autoSync).rtc := by simp [State.settled]
  simp only [e]
  simpa using h
/-- While BREACH stays, its record stays out of the event queue. -/
theorem State.breachHold_evt (s : State) (h : s.breachHold.bit R.WDN_STATUS 3 = s.bit R.WDN_STATUS 3) : s.breachHold.evt = s.evt := by
  revert h; unfold State.breachHold; dsimp only
  split
  · intro _; rfl
  · by_cases e : s.bit R.WDN_STATUS 3 = (s.breachWord != 0)
    · intro _; simp [e]
    · have x : ((s.wr R.WDN_BREACH s.breachWord).setB R.WDN_STATUS 3 (s.breachWord != 0)).bit R.WDN_STATUS 3 = (s.breachWord != 0) :=
        State.bit_setB_same _ _ _ _ (by decide)
      intro h; exfalso; apply e
      have hn : (s.bit R.WDN_STATUS 3 == (s.breachWord != 0)) = false := by simpa using e
      rw [hn] at h
      simp only [Bool.false_eq_true, if_false] at h
      rw [← h]
      unfold State.bit at x ⊢
      rw [State.rd_eventOpen _ _ (by decide) (by decide), State.rd_setB, if_neg (by decide), x]
/-- While BREACH stays, settle leaves the event queue. -/
theorem State.settle_evt (s : State) (h : s.settle.bit R.WDN_STATUS 3 = s.bit R.WDN_STATUS 3) : s.settle.evt = s.evt := by
  have e : s.settle.evt = s.syncHold.breachHold.evt := by
    rw [State.settle_eq]; simp [State.settled]
  have sy : s.syncHold.bit R.WDN_STATUS 3 = s.bit R.WDN_STATUS 3 := State.bit_setB_apart _ _ _ (by decide) (by decide)
  rw [e, State.breachHold_evt, State.syncHold_evt]
  rw [sy, ← h]
  unfold State.bit
  rw [s.settle_rd_settled]; unfold State.settled
  rw [State.rd_levels _ (by decide) (by decide) (by decide), State.rd_mirror _ (by decide) (by decide) (by decide) (by decide) (by decide),
    State.rd_pendLevels _ (by decide), State.rd_autoSync _ (by decide), State.rd_mateHold _ (by decide) (by decide)]

/-- A part under the operations of a command, before it ends: equal, and for the event queue BREACH as well. -/
def Part.kept (s t : State) : Part → Prop
  | .paths => t.paths = s.paths
  | .held => t.held = s.held
  | .now => t.now = s.now
  | .out => t.out = s.out
  | .pwr => t.pwr = s.pwr
  | .ldr => t.ldr = s.ldr
  | .host => t.host = s.host
  | .tmu => t.tmu = s.tmu
  | .evt => t.evt = s.evt ∧ t.bit R.WDN_STATUS 3 = s.bit R.WDN_STATUS 3
  | .key => t.key = s.key
  | .net => t.net = s.net
  | .ing => t.ing = s.ing
  | .laneA => t.laneA = s.laneA
  | .laneB => t.laneB = s.laneB
  | .slu => t.slu = s.slu
  | .xl => t.xl = s.xl
  | .nrg => t.nrg = s.nrg
  | .nrgA => t.nrgA = s.nrgA
  | .nrgB => t.nrgB = s.nrgB
  | .rcd => t.rcd = s.rcd
  | .recA => t.recA = s.recA
  | .recB => t.recB = s.recB
  | .wdn => t.wdn = s.wdn
  | .sep => t.sep = s.sep
  | .rtc => t.rtc = s.rtc
theorem State.ended_rtc (s0 s1 : State) : { (s0.ended s1).rtc with synced := s1.rtc.synced, autoAt := s1.rtc.autoAt } = s1.rtc := by
  have e : (s0.ended s1).rtc = s1.settle.rtc := by unfold State.ended; rw [State.with_queue_rtc]
  rw [e]; exact s1.settle_rtc
theorem State.ended_evt (s0 s1 : State) (h : (s0.ended s1).bit R.WDN_STATUS 3 = s1.bit R.WDN_STATUS 3) : (s0.ended s1).evt = s1.evt := by
  have e : (s0.ended s1).evt = s1.settle.evt := by unfold State.ended; rw [State.with_queue_evt]
  have b : (s0.ended s1).bit R.WDN_STATUS 3 = s1.settle.bit R.WDN_STATUS 3 := by
    unfold State.bit; rw [State.ended, State.rd_with_queue]
  rw [e, s1.settle_evt (b.symm.trans h)]
/-- What the operations of a command leave, the command leaves. -/
theorem Part.same_of_kept {s s1 : State} {p : Part} (h : p.kept s s1) : p.same s (s.ended s1) := by
  cases p
  case paths => simp only [Part.kept] at h; simp only [Part.same, State.ended_paths, h]
  case held => simp only [Part.kept] at h; simp only [Part.same, State.ended_held, h]
  case now => simp only [Part.kept] at h; simp only [Part.same, State.ended_now, h]
  case out => simp only [Part.kept] at h; simp only [Part.same, State.ended_out, h]
  case pwr =>
    simp only [Part.kept] at h
    obtain ⟨a, b, ha⟩ := s.ended_pwr s1
    simp only [Part.same]; rw [ha, h]
  case ldr =>
    simp only [Part.kept] at h
    simp only [Part.same]; rw [State.ended_ldr, h]; exact ⟨rfl, fun a => cellGet_canon _ _ _, fun a => cellGet_canon _ _ _⟩
  case host => simp only [Part.kept] at h; simp only [Part.same, State.ended_host, h]
  case tmu => simp only [Part.kept] at h; simp only [Part.same, State.ended_tmu, h]
  case evt =>
    simp only [Part.kept] at h
    simp only [Part.same]; intro hb
    rw [← h.1]; exact s.ended_evt s1 (hb.trans h.2.symm)
  case key => simp only [Part.kept] at h; simp only [Part.same, State.ended_key, h]
  case net => simp only [Part.kept] at h; simp only [Part.same, State.ended_net, h]
  case ing => simp only [Part.kept] at h; simp only [Part.same, State.ended_ing, h]
  case laneA =>
    simp only [Part.kept] at h
    simp only [Part.same]; rw [State.ended_laneA, h]; exact ⟨rfl, fun a => cellGet_canon _ _ _⟩
  case laneB =>
    simp only [Part.kept] at h
    simp only [Part.same]; rw [State.ended_laneB, h]; exact ⟨rfl, fun a => cellGet_canon _ _ _⟩
  case slu => simp only [Part.kept] at h; simp only [Part.same, State.ended_slu, h]
  case xl => simp only [Part.kept] at h; simp only [Part.same, State.ended_xl, h]
  case nrg => simp only [Part.kept] at h; simp only [Part.same, State.ended_nrg, h]
  case nrgA => simp only [Part.kept] at h; simp only [Part.same, State.ended_nrgA, h]
  case nrgB => simp only [Part.kept] at h; simp only [Part.same, State.ended_nrgB, h]
  case rcd => simp only [Part.kept] at h; simp only [Part.same, State.ended_rcd, h]
  case recA => simp only [Part.kept] at h; simp only [Part.same, State.ended_recA, h]
  case recB => simp only [Part.kept] at h; simp only [Part.same, State.ended_recB, h]
  case wdn => simp only [Part.kept] at h; simp only [Part.same, State.ended_wdn, h]
  case sep => simp only [Part.kept] at h; simp only [Part.same, State.ended_sep, h]
  case rtc =>
    simp only [Part.kept] at h
    simp only [Part.same]; rw [← h]; exact s.ended_rtc s1
/-- The frame of a command, from what its operations leave. -/
theorem only_of_kept {f : Nat → Bool} {ps : List Part} {s s1 : State} (hr : ∀ k, f k = false → s1.rd k = s.rd k)
    (hp : ∀ p, p ∉ ps → p.kept s s1) : Only f ps s (s.ended s1) :=
  ⟨fun k hf hk => (s.ended_rd s1 hk).trans (hr k hf), fun p h => Part.same_of_kept (hp p h)⟩

end Sys2Proof.Machine
end

