-- ==== Sys2Proof/Laws/Fabric.lean ====
section
/-! SUPPORT. What an operation of a tile does (R216 to R226): one lemma for the issue, one for each way of writing the tile. -/
namespace Sys2Proof.Machine

/-! ### Maps -/

theorem lookup_filter_ne {β : Type} (l : List (Nat × β)) {k j : Nat} (h : j ≠ k) : (l.filter (fun e => e.1 != k)).lookup j = l.lookup j := by
  induction l with
  | nil => rfl
  | cons e t ih =>
    obtain ⟨a, v⟩ := e
    by_cases ha : a = k
    · subst ha
      simp only [List.filter, bne_self_eq_false, List.lookup]
      rw [ih, show (j == a) = false by simpa using h]
    · simp only [List.filter, bne_iff_ne.mpr ha, List.lookup, ih]
theorem lookup_filter_same {β : Type} (l : List (Nat × β)) (k : Nat) : (l.filter (fun e => e.1 != k)).lookup k = none := by
  induction l with
  | nil => rfl
  | cons e t ih =>
    obtain ⟨a, v⟩ := e
    by_cases ha : a = k
    · subst ha; simpa only [List.filter, bne_self_eq_false] using ih
    · simp only [List.filter, bne_iff_ne.mpr ha, List.lookup, show (k == a) = false from beq_false_of_ne (Ne.symm ha), ih]
theorem mapGet_mapPut {β : Type} (l : List (Nat × β)) (k j : Nat) (v d : β) :
    mapGet (mapPut l k v) j d = if j = k then v else mapGet l j d := by
  unfold mapGet mapPut
  by_cases h : j = k
  · simp [h, List.lookup]
  · simp only [List.lookup, beq_false_of_ne h, if_neg h, lookup_filter_ne l h]
theorem mapGet_mapDel {β : Type} (l : List (Nat × β)) (k j : Nat) (d : β) :
    mapGet (mapDel l k) j d = if j = k then d else mapGet l j d := by
  unfold mapGet mapDel
  by_cases h : j = k
  · rw [if_pos h, h, lookup_filter_same]; rfl
  · rw [if_neg h, lookup_filter_ne l h]

/-! ### Writes of a tile -/

theorem Tile.vreg_congr {t u : Tile} (h : u.v = t.v) (r c : Nat) : u.vreg r c = t.vreg r c := by unfold Tile.vreg; rw [h]
theorem Tile.kbit_congr {t u : Tile} (h : u.k = t.k) (n c : Nat) : u.kbit n c = t.kbit n c := by unfold Tile.kbit Tile.kreg; rw [h]
theorem Tile.frame_congr {t u : Tile} (h0 : u.slot0 = t.slot0) (h1 : u.slot1 = t.slot1) (hc : u.cur = t.cur) : u.frame = t.frame := by
  unfold Tile.frame Tile.slot; rw [h0, h1, hc]
/-- A write of elements changes nothing of the tile but its vector registers. -/
theorem Tile.setV_only (t : Tile) (i : OpIssue) (r : Nat) (f : Nat → Nat) : t.setV i r f = { t with v := (t.setV i r f).v } := by
  unfold Tile.setV
  simp only [List.range, List.range.loop, List.foldl]
  split_ifs <;> rfl
theorem Tile.setV_vreg (t : Tile) (i : OpIssue) (r : Nat) (f : Nat → Nat) {q c : Nat} (hc : c < 4) :
    (t.setV i r f).vreg q c = (atVec i t r f q c).getD (t.vreg q c) := by
  unfold Tile.setV atVec Tile.vreg
  simp only [List.range, List.range.loop, List.foldl]
  by_cases hq : q = r
  · subst hq
    rcases (by omega : c = 0 ∨ c = 1 ∨ c = 2 ∨ c = 3) with h | h | h | h <;> subst h <;>
      (split_ifs <;> simp_all [mapGet_mapPut])
  · have : ∀ a : Nat, a < 4 → ¬ (4 * q + c = 4 * r + a) := by intro a ha; omega
    have h0 := this 0 (by omega); have h1 := this 1 (by omega); have h2 := this 2 (by omega); have h3 := this 3 (by omega)
    simp only [Nat.add_zero] at h0
    split_ifs <;> simp_all [mapGet_mapPut]
/-- A write of mask bits changes nothing of the tile but its mask registers. -/
theorem Tile.setK_only (t : Tile) (i : OpIssue) (f : Nat → Bool) : t.setK i f = { t with k := (t.setK i f).k } := by
  unfold Tile.setK; dsimp only; split <;> rfl

theorem Nat.testBit_four {c : Nat} (hc : c < 4) : (15 : Nat).testBit c = true := by
  rcases (by omega : c = 0 ∨ c = 1 ∨ c = 2 ∨ c = 3) with h | h | h | h <;> subst h <;> rfl
theorem Tile.kbit_zero (t : Tile) {n c : Nat} (hn : n % 8 = 0) (hc : c < 4) : t.kbit n c = true := by
  unfold Tile.kbit Tile.kreg; rw [if_pos hn]; exact Nat.testBit_four hc
theorem testBit_putBit (w c j : Nat) (b : Bool) : (putBits w c c (b2n b)).testBit j = if j = c then b else w.testBit j := by
  rw [testBit_putBits _ _ _ _ _ (Nat.le_refl c)]
  by_cases h : j = c
  · subst h; cases b <;> simp [b2n]
  · rw [if_neg (by omega), if_neg h]
theorem Tile.setK_kbit (t : Tile) (i : OpIssue) (f : Nat → Bool) {n c : Nat} (hn : n < 8) (hc : c < 4) :
    (t.setK i f).kbit n c = (atMask i t f n c).getD (t.kbit n c) := by
  unfold atMask
  by_cases h0 : i.d.val % 8 = 0
  · unfold Tile.setK; dsimp only; rw [if_pos h0, if_neg (by omega)]; rfl
  · unfold Tile.setK; dsimp only; rw [if_neg h0]
    by_cases hd : n = i.d.val % 8
    · unfold Tile.kbit Tile.kreg; dsimp only
      rw [if_neg (by omega), Nat.mod_eq_of_lt hn, mapGet_mapPut, if_pos hd]
      simp only [List.range, List.range.loop, List.foldl]
      have hk : (if i.d.val % 8 % 8 = 0 then 15 else mapGet t.k (i.d.val % 8 % 8) 0) = mapGet t.k n 0 := by
        rw [if_neg (by omega), hd, Nat.mod_mod]
      rw [hk]
      rcases (by omega : c = 0 ∨ c = 1 ∨ c = 2 ∨ c = 3) with h | h | h | h <;> subst h <;>
        (split_ifs <;> simp_all [testBit_putBit, -Nat.testBit_zero])
    · rw [if_neg (by omega)]
      unfold Tile.kbit Tile.kreg; dsimp only
      have hne : ¬ n % 8 = i.d.val % 8 := by omega
      simp only [mapGet_mapPut, if_neg hne, Option.getD]
/-- A write of a frame word, where the running slot exists, changes nothing of the tile but the frame. -/
theorem Tile.put_only (t : Tile) (a v : Nat) :
    (t.put a v).v = t.v ∧ (t.put a v).k = t.k ∧ (t.put a v).cur = t.cur ∧ (t.put a v).pos = t.pos ∧ (t.put a v).calls = t.calls ∧
      (t.put a v).loops = t.loops ∧ (t.put a v).ch = t.ch ∧ ((t.put a v).slot (t.cur.getD false)).isSome = (t.slot (t.cur.getD false)).isSome := by
  unfold Tile.put Tile.setFrame
  split
  · cases h : t.slot (t.cur.getD false) with
    | none => simp [h]
    | some sl =>
      simp only [Tile.setSlot, Tile.slot] at *
      cases hb : t.cur.getD false <;> simp [hb] at * 
  · exact ⟨rfl, rfl, rfl, rfl, rfl, rfl, rfl, rfl⟩
theorem Tile.put_frame (t : Tile) (a v q : Nat) (h : (t.slot (t.cur.getD false)).isSome = true) :
    mapGet (t.put a v).frame q 0 = if q = a ∧ q < 0x1800 then v % two32 else mapGet t.frame q 0 := by
  unfold Tile.put
  by_cases ha : a < 0x1800
  · rw [if_pos ha]
    cases hs : t.slot (t.cur.getD false) with
    | none => rw [hs] at h; cases h
    | some sl =>
      have : (t.setFrame (mapPut t.frame a (v % two32))).frame = mapPut t.frame a (v % two32) := by
        unfold Tile.setFrame; rw [hs]; dsimp only
        unfold Tile.frame Tile.setSlot Tile.slot
        cases hb : t.cur.getD false <;> simp [hb]
      rw [this, mapGet_mapPut]
      by_cases hq : q = a
      · subst hq; simp [ha]
      · simp [hq]
  · rw [if_neg ha, if_neg (by omega)]

/-- One word for each selected element: the frame, and nothing else. -/
theorem Tile.puts_only (t : Tile) (i : OpIssue) (a : Nat) (f : Nat → Nat) :
    (t.puts i a f).v = t.v ∧ (t.puts i a f).k = t.k ∧ (t.puts i a f).cur = t.cur ∧ (t.puts i a f).pos = t.pos ∧
      (t.puts i a f).calls = t.calls ∧ (t.puts i a f).loops = t.loops ∧ (t.puts i a f).ch = t.ch ∧
      ((t.puts i a f).slot (t.cur.getD false)).isSome = (t.slot (t.cur.getD false)).isSome := by
  have key : ∀ (l : List Nat) (u : Tile), u.cur = t.cur →
      let w := l.foldl (fun u c => if t.sel i c then u.put (a + c) (f c) else u) u
      w.v = u.v ∧ w.k = u.k ∧ w.cur = u.cur ∧ w.pos = u.pos ∧ w.calls = u.calls ∧ w.loops = u.loops ∧ w.ch = u.ch ∧
        (w.slot (t.cur.getD false)).isSome = (u.slot (t.cur.getD false)).isSome := by
    intro l
    induction l with
    | nil => intro u _; exact ⟨rfl, rfl, rfl, rfl, rfl, rfl, rfl, rfl⟩
    | cons x l ih =>
      intro u hu
      simp only [List.foldl]
      by_cases hx : t.sel i x = true
      · rw [if_pos hx]
        obtain ⟨h1, h2, h3, h4, h5, h6, h7, h8⟩ := u.put_only (a + x) (f x)
        obtain ⟨g1, g2, g3, g4, g5, g6, g7, g8⟩ := ih (u.put (a + x) (f x)) (h3.trans hu)
        rw [hu] at h8
        exact ⟨g1.trans h1, g2.trans h2, g3.trans h3, g4.trans h4, g5.trans h5, g6.trans h6, g7.trans h7, g8.trans h8⟩
      · rw [if_neg hx]; exact ih u hu
  exact key (List.range 4) t rfl
theorem Tile.puts_frame (t : Tile) (i : OpIssue) (a : Nat) (f : Nat → Nat) (q : Nat) (h : (t.slot (t.cur.getD false)).isSome = true) :
    mapGet (t.puts i a f).frame q 0 = (atWords i t a f q).getD (mapGet t.frame q 0) := by
  have one : ∀ (u : Tile) (c : Nat), u.cur = t.cur → (u.slot (t.cur.getD false)).isSome = true →
      let w := if t.sel i c then u.put (a + c) (f c) else u
      w.cur = t.cur ∧ (w.slot (t.cur.getD false)).isSome = true ∧
      mapGet w.frame q 0 = if t.sel i c ∧ q = a + c ∧ q < 0x1800 then f c % two32 else mapGet u.frame q 0 := by
    intro u c hu hs
    by_cases hx : t.sel i c = true
    · simp only [hx, if_true, true_and]
      obtain ⟨_, _, h3, _, _, _, _, h8⟩ := u.put_only (a + c) (f c)
      rw [hu] at h8
      exact ⟨h3.trans hu, h8.trans hs, u.put_frame (a + c) (f c) q (by rw [hu]; exact hs)⟩
    · simp only [hx, if_false, false_and, Bool.false_eq_true]; exact ⟨hu, hs, trivial⟩
  unfold Tile.puts
  simp only [List.range, List.range.loop, List.foldl]
  obtain ⟨c0, s0, f0⟩ := one t 0 rfl h
  obtain ⟨c1, s1, f1⟩ := one _ 1 c0 s0
  obtain ⟨c2, s2, f2⟩ := one _ 2 c1 s1
  obtain ⟨_, _, f3⟩ := one _ 3 c2 s2
  rw [f3, f2, f1, f0]
  unfold atWords
  by_cases hr : a ≤ q ∧ q < a + 4 ∧ q < 0x1800
  · obtain ⟨j, rfl⟩ : ∃ j, q = a + j := ⟨q - a, by omega⟩
    have hj : a + j < 6144 := hr.2.2
    have h4 : j < 4 := by omega
    simp only [Nat.add_sub_cancel_left, Nat.add_left_cancel_iff, hj, h4, Nat.le_add_right, Nat.add_lt_add_iff_left, and_true, true_and]
    rcases (by omega : j = 0 ∨ j = 1 ∨ j = 2 ∨ j = 3) with h | h | h | h <;> subst h <;> simp <;> split <;> rfl
  · rw [if_neg (by omega), if_neg (by omega), if_neg (by omega), if_neg (by omega), if_neg (by intro hh; exact hr ⟨hh.1, hh.2.1, hh.2.2.1⟩)]
    rfl

/-! ### The issue -/

/-- What an issue writes of the run and the tile. -/
def State.issued (s : State) (i : OpIssue) (cost : Nat) (e : Env) (t u : Tile) (items : List RecItem) : State :=
  s.modLane i.lane (fun x => (x.putRun { e.r with charge := e.r.charge + cost, out := items.foldl recPut e.r.out }).putTile i.pair { u with ch := t.ch + cost })
/-- Where the operation can issue, its issue changes the run and the tile, counts corrected errors, and changes nothing else
(R208, R219, R225). -/
theorem State.issueTo_eq {s : State} {i : OpIssue} {code cost : Nat} {e : Env} {t : Tile} (h : Issuable s i code cost e t)
    (w : Tile → Nat) (hw : w t = cost) (f : Env → Tile → Tile × List RecItem) :
    s.issueTo i code w f = (s.issued i cost e t (f e t).1 (f e t).2).eccCorr i.lane (if opReads code then i.ecc.toNat else 0) := by
  obtain ⟨hs, hl, ht, hp, hq, ⟨k, hk⟩, hc, hb⟩ := h
  obtain ⟨es, el, er, eg⟩ := e
  simp only at hs hl hk hc hb
  subst hs hl ht
  unfold State.issueTo State.issued
  simp only [hk, hp, hq, hc, hw, Bool.false_or, bne_self_eq_false, Bool.not_true, Bool.or_self, Bool.false_eq_true, if_false, if_neg (Nat.not_lt.mpr hb)]
  cases opReads code
  · rfl
  · rfl

theorem LaneSt.runOf_putRun (x : LaneSt) {r q : Run} (h : x.runOf r.rid = some q) : (x.putRun r).runOf r.rid = some r := by
  have key : ∀ l : List Run, l.find? (fun q => q.rid == r.rid) = some q →
      (l.map (fun q => if q.rid == r.rid then r else q)).find? (fun q => q.rid == r.rid) = some r := by
    intro l
    induction l with
    | nil => intro h; cases h
    | cons a l ih =>
      intro h
      by_cases ha : (a.rid == r.rid) = true
      · simp only [List.map, ha, if_true, List.find?, beq_self_eq_true]
      · simp only [List.find?, Bool.not_eq_true] at h ha
        rw [ha] at h
        simp only [List.map, ha, List.find?, Bool.false_eq_true, if_false]
        exact ih h
  exact key x.runs h
/-- The run of a pair's running segment stands in the lane under its number. -/
theorem LaneSt.runOf_running {x : LaneSt} {p : Nat} {k : Tok} {r : Run} {g : Seg} (h : x.running p = some (k, r, g)) : x.runOf r.rid = some r := by
  unfold LaneSt.running at h
  dsimp only at h
  split at h
  · cases h
  · simp only [Option.bind_eq_some_iff, Option.map_eq_some_iff] at h
    obtain ⟨sl, _, k', _, r', hr, he⟩ := h
    simp only [Prod.mk.injEq] at he
    obtain ⟨_, rfl, _⟩ := he
    have hrid : r'.rid = k'.rid := by
      unfold LaneSt.runOf at hr; simpa using List.find?_some hr
    rw [hrid]; exact hr
/-- The running slot of a pair exists. -/
theorem LaneSt.slot_running {x : LaneSt} {p : Nat} {k : Tok} {r : Run} {g : Seg} (h : x.running p = some (k, r, g)) :
    ((x.tile p).slot ((x.tile p).cur.getD false)).isSome = true := by
  unfold LaneSt.running at h
  dsimp only at h
  split at h
  · cases h
  · next b hb =>
    rw [hb]
    simp only [Option.bind_eq_some_iff] at h
    obtain ⟨sl, hs, _⟩ := h
    simp only [Option.getD, hs, Option.isSome]
theorem Issuable.slot {s : State} {i : OpIssue} {code cost : Nat} {e : Env} {t : Tile} (h : Issuable s i code cost e t) :
    (t.slot (t.cur.getD false)).isSome = true := by
  obtain ⟨_, _, ht, _, _, ⟨k, hk⟩, _⟩ := h
  rw [ht]; exact LaneSt.slot_running hk
/-- The count of corrected errors and its event. -/
theorem State.eccCorr_corrected (s : State) (l : Lane) (n : Nat) : Corrected l n s (s.eccCorr l n) := by
  have hne : R.FAB_EVENTS l ≠ R.FAB_ECC_COUNT l := by cases l <;> decide
  unfold State.eccCorr
  by_cases hn : n = 0
  · subst hn
    refine ⟨?_, fun j _ => by simp⟩
    have : s.fld (R.FAB_ECC_COUNT l) 15 0 < 65536 := by unfold State.fld bitsOf; omega
    rw [if_pos rfl]; omega
  · rw [if_neg hn]
    refine ⟨?_, ?_⟩
    · have e : ∀ t : State, (t.setB (R.FAB_EVENTS l) 2 true).fld (R.FAB_ECC_COUNT l) 15 0 = t.fld (R.FAB_ECC_COUNT l) 15 0 := by
        intro t; unfold State.fld; rw [State.rd_setB, if_neg hne]
      rw [e]; unfold State.addSatF
      have : s.fld (R.FAB_ECC_COUNT l) 15 0 < 65536 := by unfold State.fld bitsOf; omega
      rw [State.fld_setF_same _ _ _ _ _ (by decide) (by decide)]
      omega
    · intro j hj
      by_cases h2 : j = 2
      · subst h2; rw [State.bit_setB_same _ _ _ _ (by decide)]; simp [hn]
      · rw [State.bit_setB_apart _ _ _ hj (Ne.symm h2)]
        unfold State.bit State.addSatF; rw [State.rd_setF, if_neg hne.symm]
        simp [h2]
theorem State.rd_eccCorr (s : State) (l : Lane) (n k : Nat) (h : eccKeys l n k = false) : (s.eccCorr l n).rd k = s.rd k := by
  unfold State.eccCorr
  by_cases hn : n = 0
  · rw [if_pos hn]
  · rw [if_neg hn]
    simp only [eccKeys, bne_iff_ne.mpr hn, Bool.true_and, Bool.or_eq_false_iff, beq_eq_false_iff_ne] at h
    unfold State.addSatF
    rw [State.rd_setB, if_neg (Ne.symm h.2), State.rd_setF, if_neg (Ne.symm h.1)]
theorem State.eccCorr_kept (s : State) (l : Lane) (n : Nat) (p : Part) (h : p ≠ .evt) : p.kept s (s.eccCorr l n) := by
  unfold State.eccCorr
  by_cases hn : n = 0
  · rw [if_pos hn]; cases p <;> simp_all [Part.kept]
  · rw [if_neg hn]; cases p <;> simp_all [Part.kept, State.addSatF]
theorem State.eccCorr_lane (s : State) (l m : Lane) (n : Nat) : (s.eccCorr l n).lane m = s.lane m := by
  unfold State.eccCorr; split
  · rfl
  · cases m <;> rfl
/-- A change of a lane leaves every register and every other part. -/
theorem State.modLane_kept (s : State) (l : Lane) (g : LaneSt → LaneSt) : ∀ p, p ∉ [lanePart l] → p.kept s (s.modLane l g) := by
  intro p hp
  cases l <;> cases p <;> simp_all [lanePart, Part.kept, State.modLane, State.setLane, State.bit]
/-- Where the operation can issue and its tile is the row's, it does what the row says. -/
theorem OpRow.done_of {s : State} {i : OpIssue} {e : Env} {t : Tile} {o : OpRow} (h : Issuable s i o.code o.cost e t)
    (w : Tile → Nat) (hw : w t = o.cost) (f : Env → Tile → Tile × List RecItem) (hi : (f e t).2 = o.items)
    (hon : o.On t { (f e t).1 with ch := t.ch + o.cost }) : o.Done i e t s (s.ended (s.issueTo i o.code w f)) := by
  rw [State.issueTo_eq h w hw f, hi, show (if opReads o.code = true then i.ecc.toNat else 0) = o.ecc i from rfl]
  obtain ⟨_, _, _, _, _, ⟨k, hk⟩, _⟩ := h
  have hl : ((s.issued i o.cost e t (f e t).1 o.items).lane i.lane) =
      ((s.lane i.lane).putRun { e.r with charge := e.r.charge + o.cost, out := o.items.foldl recPut e.r.out }).putTile i.pair
        { (f e t).1 with ch := t.ch + o.cost } := by
    unfold State.issued State.modLane State.setLane State.lane; cases i.lane <;> rfl
  have hr : ∀ k, (s.issued i o.cost e t (f e t).1 o.items).rd k = s.rd k := by
    intro k; unfold State.issued State.rd; rw [State.modLane_regs]
  generalize hs1 : s.issued i o.cost e t (f e t).1 o.items = s1 at hl hr ⊢
  have hc := s1.eccCorr_corrected i.lane (o.ecc i)
  have sk : settleKey (R.FAB_ECC_COUNT i.lane) = false ∧ settleKey (R.FAB_EVENTS i.lane) = false := by cases i.lane <;> decide
  unfold OpRow.Done
  rw [State.ended_lane, State.eccCorr_lane, hl]
  refine ⟨?_, ?_, ?_, rfl, ?_, ?_⟩
  · exact LaneSt.runOf_putRun (s.lane i.lane) (q := e.r)
      (r := { e.r with charge := e.r.charge + o.cost, out := o.items.foldl recPut e.r.out }) (by simpa using LaneSt.runOf_running hk)
  · simpa [LaneSt.tile, LaneSt.putTile, mapGet_mapPut] using hon
  · intro p hp
    simp [LaneSt.tile, LaneSt.putTile, LaneSt.putRun, mapGet_mapPut, hp]
  · refine ⟨?_, ?_⟩
    · rw [s.ended_fld _ sk.1, hc.1]; unfold State.fld; rw [hr]
    · intro j hj; rw [s.ended_bit _ sk.2, hc.2 j hj]; unfold State.bit; rw [hr]
  · refine only_of_kept (fun k hk => (s1.rd_eccCorr _ _ _ hk).trans (hr k)) ?_
    intro p hp
    by_cases he : p = .evt
    · subst he
      have h1 : (s1.eccCorr i.lane (o.ecc i)).evt = s1.evt := by
        unfold State.eccCorr; split
        · rfl
        · simp [State.addSatF]
      have h2 : (s1.eccCorr i.lane (o.ecc i)).bit R.WDN_STATUS 3 = s.bit R.WDN_STATUS 3 := by
        unfold State.bit; rw [State.rd_eccCorr, hr]
        unfold eccKeys; cases i.lane <;> simp [R.WDN_STATUS, R.FAB_ECC_COUNT, R.FAB_EVENTS, laneOff]
      refine ⟨?_, h2⟩
      rw [h1, ← hs1]; unfold State.issued; simp
    · have h1 := s1.eccCorr_kept i.lane (o.ecc i) p he
      have h2 : p.kept s s1 := by rw [← hs1]; exact s.modLane_kept i.lane _ p hp
      cases p <;> simp_all [Part.kept]

/-! ### The rows -/

theorem Tile.next_only (t : Tile) : t.next = { t with pos := t.next.pos, loops := t.next.loops } := rfl
/-- The next position depends on the position, the calls and the loops alone. -/
theorem Tile.next_congr {t u : Tile} (hp : u.pos = t.pos) (hc : u.calls = t.calls) (hl : u.loops = t.loops) :
    u.next.pos = t.next.pos ∧ u.next.loops = t.next.loops := by
  unfold Tile.next Tile.goto; simp only [hp, hc, hl, and_self]
theorem vecRow_on (i : OpIssue) (t : Tile) (cmd : Instr) (code cost : Nat) (f : Nat → Nat) :
    (vecRow i t cmd code cost f).On t { (t.setV i i.d f).next with ch := t.ch + cost } := by
  have h := t.setV_only i i.d f
  refine ⟨?_, ?_, ?_, ?_, rfl, ?_, ?_, ?_⟩
  · show (t.setV i i.d f).next.pos = t.next.pos; rw [h]; rfl
  · show (t.setV i i.d f).next.loops = t.next.loops; rw [h]; rfl
  · show (t.setV i i.d f).calls = t.calls; rw [h]
  · show (t.setV i i.d f).cur = t.cur; rw [h]
  · intro r c hc; exact t.setV_vreg i i.d f hc
  · intro n c _ _
    show (t.setV i i.d f).kbit n c = t.kbit n c
    exact Tile.kbit_congr (by rw [h]) n c
  · intro a
    show mapGet (t.setV i i.d f).frame a 0 = mapGet t.frame a 0
    rw [Tile.frame_congr (t := t) (by rw [h]) (by rw [h]) (by rw [h])]
theorem maskRow_on (i : OpIssue) (t : Tile) (cmd : Instr) (code cost : Nat) (f : Nat → Bool) :
    (maskRow i t cmd code cost f).On t { (t.setK i f).next with ch := t.ch + cost } := by
  have h := t.setK_only i f
  refine ⟨?_, ?_, ?_, ?_, rfl, ?_, ?_, ?_⟩
  · show (t.setK i f).next.pos = t.next.pos; rw [h]; rfl
  · show (t.setK i f).next.loops = t.next.loops; rw [h]; rfl
  · show (t.setK i f).calls = t.calls; rw [h]
  · show (t.setK i f).cur = t.cur; rw [h]
  · intro r c _
    show (t.setK i f).vreg r c = t.vreg r c
    exact Tile.vreg_congr (by rw [h]) r c
  · intro n c hn hc; exact t.setK_kbit i f hn hc
  · intro a
    show mapGet (t.setK i f).frame a 0 = mapGet t.frame a 0
    rw [Tile.frame_congr (t := t) (by rw [h]) (by rw [h]) (by rw [h])]
theorem itemRow_on (t : Tile) (cmd : Instr) (code cost : Nat) (it : RecItem) :
    (itemRow t cmd code cost it).On t { t.next with ch := t.ch + cost } :=
  ⟨rfl, rfl, rfl, rfl, rfl, fun _ _ _ => rfl, fun _ _ _ _ => rfl, fun _ => rfl⟩

end Sys2Proof.Machine
end

