-- ==== Sys2Proof/Laws/Lanes.lean ====
section
/-! SUPPORT. What the work of a lane leaves as it was: the ingest unit, and what the lane holds of its ingest link's messages.
One lemma for each function that a lane's work calls; statements about a message cite the last of them. -/
namespace Sys2Proof.Machine

/-- What a lane holds of its ingest link's messages. -/
def LaneSt.intake (x : LaneSt) := (x.seq, x.deaf, x.smp, x.preds, x.mods, x.go, x.bnd, x.load, x.bndWait, x.gj)
/-- That, the slots that are due, and the loop engine's busy time. -/
def LaneSt.feed (x : LaneSt) := (x.intake, x.sdue, x.busy)
/-- The parts of the state outside the lanes' engines. -/
def State.outer (s : State) := (s.paths, s.held, s.now, s.pwr, s.ldr, s.tmu, s.key, s.net, s.slu, s.wdn, s.sep, s.rtc, s.out)
/-- What a lane's work leaves as it was: the parts of the state outside its engines, and what the lanes hold of the ingest unit. -/
def State.feed (s : State) := (s.ing, s.laneA.feed, s.laneB.feed, s.outer)

/-- The same without the slots that are due and the busy time. -/
def State.intake (s : State) := (s.ing, s.laneA.intake, s.laneB.intake, s.outer)
theorem State.intake_of_feed {s t : State} (h : t.feed = s.feed) : t.intake = s.intake := by
  simp only [State.feed, LaneSt.feed, Prod.mk.injEq] at h
  simp only [State.intake, h.1, h.2.1.1, h.2.2.1.1, h.2.2.2]
theorem State.intake_modLane (s : State) (l : Lane) (f : LaneSt → LaneSt) (h : ∀ x, (f x).intake = x.intake) : (s.modLane l f).intake = s.intake := by
  cases l <;> simp only [State.modLane, State.setLane, State.intake, h] <;> rfl

theorem State.feed_onIf {s : State} {c : Bool} {f : State → State} (h : ∀ s, (f s).feed = s.feed) : (s.onIf c f).feed = s.feed := by
  unfold State.onIf; split; exact h s; rfl
theorem State.feed_foldl {α : Type} {f : State → α → State} (h : ∀ s x, (f s x).feed = s.feed) (l : List α) (s : State) :
    (l.foldl f s).feed = s.feed := by
  induction l generalizing s with
  | nil => rfl
  | cons a l ih => exact (ih (f s a)).trans (h s a)
theorem State.feed_regs (s : State) (x) : State.feed { s with regs := x } = s.feed := rfl
theorem State.feed_evt (s : State) (x) : State.feed { s with evt := x } = s.feed := rfl
theorem State.feed_host (s : State) (x) : State.feed { s with host := x } = s.feed := rfl
theorem State.feed_nrg (s : State) (x) : State.feed { s with nrg := x } = s.feed := rfl
theorem State.feed_xl (s : State) (x) : State.feed { s with xl := x } = s.feed := rfl
theorem State.feed_rcd (s : State) (x) : State.feed { s with rcd := x } = s.feed := rfl
theorem State.feed_takeFree (s : State) : s.takeFree.2.feed = s.feed := rfl
theorem State.feed_freeCtr (s : State) (x) : State.feed { s with freeCtr := x } = s.feed := rfl
theorem State.feed_setLane (s : State) (l : Lane) (x : LaneSt) (h : x.feed = (s.lane l).feed) : (s.setLane l x).feed = s.feed := by
  cases l <;> simp only [State.setLane, State.feed, h] <;> rfl
theorem State.feed_modLane (s : State) (l : Lane) (f : LaneSt → LaneSt) (h : ∀ x, (f x).feed = x.feed) : (s.modLane l f).feed = s.feed :=
  s.feed_setLane l _ (h _)
theorem State.feed_modRec (s : State) (l : Lane) (f) : (s.modRec l f).feed = s.feed := by cases l <;> rfl
theorem State.feed_modNrg (s : State) (l : Lane) (f) : (s.modNrg l f).feed = s.feed := by cases l <;> rfl
theorem State.feed_wr (s : State) (k v : Nat) : (s.wr k v).feed = s.feed := rfl
theorem State.feed_setF (s : State) (k hi lo v : Nat) : (s.setF k hi lo v).feed = s.feed := rfl
theorem State.feed_setB (s : State) (k i : Nat) (v : Bool) : (s.setB k i v).feed = s.feed := rfl
theorem State.feed_addSat (s : State) (k n : Nat) : (s.addSat k n).feed = s.feed := rfl
theorem State.feed_addSatF (s : State) (k hi lo n : Nat) : (s.addSatF k hi lo n).feed = s.feed := rfl
theorem State.feed_addWrap (s : State) (k n : Nat) : (s.addWrap k n).feed = s.feed := rfl
theorem State.feed_wrs (s : State) (k : Nat) (ws : List Nat) : (s.wrs k ws).feed = s.feed := by
  unfold State.wrs; exact State.feed_foldl (fun s x => s.feed_wr _ _) _ _
theorem State.feed_wrC (s : State) (k v : Nat) : (s.wrC k v).feed = s.feed := by unfold State.wrC; split <;> rfl
theorem State.feed_crest (s : State) (k v : Nat) : (s.crest k v).feed = s.feed := by unfold State.crest; split <;> rfl
theorem State.feed_foldlFst {α β : Type} {f : State × β → α → State × β} (h : ∀ a x, (f a x).1.feed = a.1.feed) (l : List α) (a : State × β) :
    (l.foldl f a).1.feed = a.1.feed := by
  induction l generalizing a with
  | nil => rfl
  | cons x l ih => exact (ih (f a x)).trans (h a x)
theorem State.feed_foldlSnd {α β : Type} {f : β × State → α → β × State} (h : ∀ a x, (f a x).2.feed = a.2.feed) (l : List α) (a : β × State) :
    (l.foldl f a).2.feed = a.2.feed := by
  induction l generalizing a with
  | nil => rfl
  | cons x l ih => exact (ih (f a x)).trans (h a x)
theorem State.feed_evtLost (s : State) (l : Lane) (e n : Nat) : (s.evtLost l e n).feed = s.feed := by
  unfold State.evtLost
  repeat' first | with_reducible first | rfl | refine Eq.trans (State.feed_addSatF ..) ?_ | dsimp only | split
theorem State.feed_evtTake (s : State) (l : Lane) (e k : Nat) : (s.evtTake l e k).feed = s.feed := by
  unfold State.evtTake
  repeat' first | (intro _; rfl) | with_reducible first | rfl | refine Eq.trans (State.feed_modLane _ _ _ ?_) ?_ | refine Eq.trans (State.feed_setB ..) ?_ | refine Eq.trans (State.feed_evtLost ..) ?_ | dsimp only | split
theorem State.feed_evtSrc (s : State) (l : Lane) (src k : Nat) (p : Nat → Bool) : (s.evtSrc l src k p).feed = s.feed := by
  unfold State.evtSrc
  repeat' first | with_reducible first | rfl | refine Eq.trans (State.feed_foldl (fun s x => ?_) _ _) ?_ | refine Eq.trans (State.feed_evtTake ..) ?_ | dsimp only | split
theorem State.feed_recRecord (s : State) (l : Lane) (v k : Nat) (rec : List RecItem) : (s.recRecord l v k rec).feed = s.feed := by
  unfold State.recRecord
  repeat' first | with_reducible first | rfl | refine Eq.trans (State.feed_onIf fun s => ?_) ?_ | refine Eq.trans (State.feed_foldl (fun s x => ?_) _ _) ?_ | refine Eq.trans (State.feed_modRec ..) ?_ | dsimp only | split
theorem State.feed_levelPend (s : State) (v : Vec) : (s.levelPend v).feed = s.feed := by
  unfold State.levelPend
  repeat' first | with_reducible first | rfl | refine Eq.trans (State.feed_setB ..) ?_ | dsimp only | split
theorem State.feed_vecEvent (s : State) (v : Vec) : (s.vecEvent v).feed = s.feed := by
  unfold State.vecEvent
  extract_lets k s1 s2 acc cnt tim need s3
  have h1 : s1.feed = s.feed := s.feed_addSatF ..
  have h2 : s2.feed = s.feed := (s1.feed_addSatF ..).trans h1
  have h3 : s3.feed = s.feed := by
    show State.feed (if _ then _ else _) = _
    split
    · exact (s2.feed_setB ..).trans h2
    · exact h2
  split
  · exact h1
  · split
    · exact (s1.feed_levelPend v).trans h1
    · split
      · exact (s3.feed_host _).trans h3
      · exact h3
theorem State.feed_finalOut (s : State) (l : Lane) (r : Run) : (s.finalOut l r).feed = s.feed := by
  unfold State.finalOut
  repeat' first | with_reducible first | rfl | refine Eq.trans (State.feed_onIf fun s => ?_) ?_ | refine Eq.trans (State.feed_foldl (fun s x => ?_) _ _) ?_ | refine Eq.trans (State.feed_evtSrc ..) ?_ | refine Eq.trans (State.feed_recRecord ..) ?_ | refine Eq.trans (State.feed_vecEvent ..) ?_ | dsimp only | split
theorem State.feed_finalsOut (s : State) (l : Lane) : (s.finalsOut l).feed = s.feed := by
  unfold State.finalsOut
  repeat' first | (intro _; rfl) | with_reducible first | rfl | refine Eq.trans (State.feed_foldl (fun s x => ?_) _ _) ?_ | refine Eq.trans (State.feed_modLane _ _ _ ?_) ?_ | refine Eq.trans (State.feed_finalOut ..) ?_ | dsimp only | split
theorem State.feed_setUnitState (s : State) (l : Lane) (u st : Nat) : (s.setUnitState l u st).feed = s.feed := by
  unfold State.setUnitState
  repeat' first | with_reducible first | rfl | refine Eq.trans (State.feed_setF ..) ?_ | dsimp only | split
theorem State.feed_setUnit (s : State) (l : Lane) (u : Nat) (r : UnitRt) : (s.setUnit l u r).feed = s.feed := by
  unfold State.setUnit
  repeat' first | with_reducible first | rfl | refine Eq.trans (State.feed_modRec ..) ?_ | dsimp only | split
theorem State.feed_putRec (s : State) (l : Lane) (r : RecRt) : (s.putRec l r).feed = s.feed := by
  unfold State.putRec
  repeat' first | with_reducible first | rfl | refine Eq.trans (State.feed_modRec ..) ?_ | dsimp only | split
theorem State.feed_recShow (s : State) (l : Lane) (r : RecRt) : (s.recShow l r).feed = s.feed := by
  unfold State.recShow
  repeat' first | with_reducible first | rfl | refine Eq.trans (State.feed_wrs ..) ?_ | dsimp only | split
theorem State.feed_recEnd (s : State) (l : Lane) (r : RecRt) (cause e : Nat) : (s.recEnd l r cause e).feed = s.feed := by
  unfold State.recEnd
  repeat' first | with_reducible first | rfl | refine Eq.trans (State.feed_putRec ..) ?_ | refine Eq.trans (State.feed_recShow ..) ?_ | dsimp only | split
theorem State.feed_unitTrigger (s : State) (l : Lane) (u k : Nat) : (s.unitTrigger l u k).2.feed = s.feed := by
  unfold State.unitTrigger; dsimp only
  repeat' first | with_reducible first | rfl | refine Eq.trans (State.feed_onIf fun s => ?_) ?_ | refine Eq.trans (State.feed_wr ..) ?_ | refine Eq.trans (State.feed_setB ..) ?_ | refine Eq.trans (State.feed_addSatF ..) ?_ | refine Eq.trans (State.feed_setUnitState ..) ?_ | refine Eq.trans (State.feed_setUnit ..) ?_ | refine Eq.trans (State.feed_putRec ..) ?_ | refine Eq.trans (State.feed_recShow ..) ?_ | refine Eq.trans (State.feed_recEnd ..) ?_ | dsimp only | split
theorem State.feed_relPut (s : State) (l : Lane) (typ idx vi gen : Nat) (items : List (Nat × Nat)) (digest pay : Nat) (stat : List Nat) : (s.relPut l typ idx vi gen items digest pay stat).feed = s.feed := by
  unfold State.relPut
  repeat' first | (intro _; rfl) | with_reducible first | rfl | refine Eq.trans (State.feed_modLane _ _ _ ?_) ?_ | dsimp only | split
theorem State.feed_relSend (s : State) (l : Lane) (typ idx vi gen : Nat) (items : List (Nat × Nat)) (digest pay : Nat) (stat : List Nat) : (s.relSend l typ idx vi gen items digest pay stat).feed = s.feed := by
  unfold State.relSend
  repeat' first | with_reducible first | rfl | refine Eq.trans (State.feed_relPut ..) ?_ | dsimp only | split
theorem State.feed_stopCheck (s : State) (l : Lane) (u : Nat) : (s.stopCheck l u).feed = s.feed := by
  unfold State.stopCheck
  repeat' first | with_reducible first | rfl | refine Eq.trans (State.feed_onIf fun s => ?_) ?_ | refine Eq.trans (State.feed_setUnit ..) ?_ | refine Eq.trans (State.feed_recEnd ..) ?_ | dsimp only | split
theorem State.feed_trigEval (s : State) (l : Lane) (k : Nat) : (s.trigEval l k).feed = s.feed := by
  have h : ∀ (us : List Nat) (a : Nat × State), (us.foldl (fun (a : Nat × State) u =>
      ((a.1 ||| (a.2.unitTrigger l u k).1, (a.2.unitTrigger l u k).2) : Nat × State)) a).2.feed = a.2.feed := by
    intro us
    induction us with
    | nil => intro a; rfl
    | cons u us ih => intro a; exact (ih _).trans (a.2.feed_unitTrigger l u k)
  unfold State.trigEval; dsimp only
  refine Eq.trans (State.feed_foldl (fun s u => ?_) _ _) ?_
  · exact (State.feed_stopCheck ..).trans (State.feed_setUnit ..)
  · refine (State.feed_modRec ..).trans ((State.feed_onIf fun s => ?_).trans (h _ _))
    exact State.feed_relSend ..
theorem State.feed_trigPoll (s : State) (l : Lane) (n : Nat) : (s.trigPoll l n).feed = s.feed := by
  induction n generalizing s with
  | zero => rfl
  | succ n ih =>
    unfold State.trigPoll; split
    · dsimp only; split
      · rw [ih, State.feed_trigEval]
      · rfl
    · rfl
theorem State.feed_setPt (s : State) (l : Lane) (e : Nat) (p : PtRt) : (s.setPt l e p).feed = s.feed := by
  unfold State.setPt
  repeat' first | with_reducible first | rfl | refine Eq.trans (State.feed_modNrg ..) ?_ | dsimp only | split
theorem State.feed_demLatch (s : State) (l : Lane) (e d : Nat) : (s.demLatch l e d).feed = s.feed := by
  unfold State.demLatch
  repeat' first | with_reducible first | rfl | refine Eq.trans (State.feed_onIf fun s => ?_) ?_ | refine Eq.trans (State.feed_wr ..) ?_ | refine Eq.trans (State.feed_setB ..) ?_ | refine Eq.trans (State.feed_wrs ..) ?_ | refine Eq.trans (State.feed_setPt ..) ?_ | dsimp only | split
theorem State.feed_snapPut (s : State) (l : Lane) (e sv : Nat) : (s.snapPut l e sv).feed = s.feed := by
  unfold State.snapPut
  repeat' first | with_reducible first | rfl | refine Eq.trans (State.feed_modNrg ..) ?_ | dsimp only | split
theorem State.feed_ptLatch (s : State) (l : Lane) (e : Nat) : (s.ptLatch l e).feed = s.feed := by
  unfold State.ptLatch
  repeat' first | with_reducible first | rfl | refine Eq.trans (State.feed_onIf fun s => ?_) ?_ | refine Eq.trans (State.feed_foldl (fun s x => ?_) _ _) ?_ | refine Eq.trans (State.feed_demLatch ..) ?_ | refine Eq.trans (State.feed_snapPut ..) ?_ | dsimp only | split
theorem State.feed_ptRegs (s : State) (l : Lane) (e : Nat) : (s.ptRegs l e).feed = s.feed := by
  unfold State.ptRegs
  repeat' first | with_reducible first | rfl | refine Eq.trans (State.feed_wrs ..) ?_ | dsimp only | split
theorem State.feed_event (s : State) (typ source : Nat) (data : List Nat) : (s.event typ source data).feed = s.feed := by
  unfold State.event; split
  · exact s.feed_evt _
  · exact (State.feed_setB _ _ _ _).trans ((State.feed_addSat _ _ _).trans (s.feed_evt _))
theorem State.feed_harmTake (s : State) (l : Lane) (e k : Nat) (news : List (List Nat)) : (s.harmTake l e k news).feed = s.feed := by
  unfold State.harmTake
  repeat' first | with_reducible first | rfl | refine Eq.trans (State.feed_modNrg ..) ?_ | refine Eq.trans (State.feed_setPt ..) ?_ | dsimp only | split
theorem State.feed_quantities (s : State) (l : Lane) (e k : Nat) (os : List ElemOut) : (s.quantities l e k os).feed = s.feed := by
  unfold State.quantities
  repeat' first | with_reducible first | rfl | refine Eq.trans (State.feed_foldl (fun s x => ?_) _ _) ?_ | refine Eq.trans (State.feed_wrs ..) ?_ | dsimp only | split
theorem State.feed_ptTake (s : State) (l : Lane) (e k : Nat) (chans : List (List (Nat × Nat))) : (s.ptTake l e k chans).feed = s.feed := by
  unfold State.ptTake
  extract_lets p w m ne news bad hist fill p1 sums os tEp tEq tEs cls acc f smax ov p2 s1 s2 s3 s4 s5
  split
  · exact (State.feed_addSat ..).trans ((State.feed_setF ..).trans (State.feed_setPt ..))
  · have h1 : s1.feed = s.feed := (State.feed_ptRegs ..).trans ((State.feed_setF ..).trans (State.feed_setPt ..))
    have h2 : s2.feed = s.feed := (State.feed_onIf fun s => (State.feed_setB ..).trans (State.feed_addSat ..)).trans h1
    have h3 : s3.feed = s.feed := (State.feed_onIf fun s => (State.feed_setB ..).trans ((State.feed_setB ..).trans (State.feed_addSat ..))).trans h2
    have h4 : s4.feed = s.feed := (State.feed_onIf fun s => (State.feed_onIf fun s => State.feed_event ..).trans (s.feed_nrg _)).trans h3
    exact (State.feed_harmTake ..).trans ((State.feed_quantities ..).trans ((s4.feed_nrg _).trans h4))
theorem State.feed_putCfg (s : State) (c : List (Nat × Nat)) : (s.putCfg c).feed = s.feed := by
  unfold State.putCfg; exact State.feed_foldl (fun s x => s.feed_wr _ _) _ _
/-- What an operation leaves, it leaves under the configuration of before X. -/
theorem State.feed_under (s : State) (f : State → State) (h : ∀ s, (f s).feed = s.feed) : (s.under f).feed = s.feed := by
  unfold State.under; split
  · exact h s
  · exact (State.feed_putCfg ..).trans ((h _).trans (State.feed_putCfg ..))
theorem State.feed_eventOpen (s : State) (n : Nat) : (s.eventOpen n).feed = s.feed := by
  unfold State.eventOpen; exact (State.feed_event ..).trans rfl
theorem State.feed_ptStart (s : State) (l : Lane) (e : Nat) : (s.ptStart l e).feed = s.feed := by
  unfold State.ptStart; exact (State.feed_setF ..).trans (State.feed_setPt ..)
theorem State.feed_ptChange (s o : State) (l : Lane) (e : Nat) : (s.ptChange o l e).feed = s.feed := by
  unfold State.ptChange
  repeat' first | (intro _; rfl) | with_reducible first | rfl | refine Eq.trans (State.feed_onIf fun s => ?_) ?_ | refine Eq.trans (State.feed_eventOpen ..) ?_ | refine Eq.trans (State.feed_takeFree ..) ?_ | refine Eq.trans (State.feed_setPt ..) ?_ | refine Eq.trans (State.feed_setF ..) ?_ | refine Eq.trans (State.feed_ptStart ..) ?_ | dsimp only | split
theorem State.feed_ptSwitch (s : State) (l : Lane) (e : Nat) : (s.ptSwitch l e).feed = s.feed := by
  unfold State.ptSwitch
  repeat' first | (intro _; rfl) | with_reducible first | rfl | refine Eq.trans (State.feed_ptChange ..) ?_ | refine Eq.trans (State.feed_setPt ..) ?_ | dsimp only | split
theorem State.feed_ptPoll (s : State) (l : Lane) (e n : Nat) : (s.ptPoll l e n).feed = s.feed := by
  induction n generalizing s with
  | zero => rfl
  | succ n ih =>
    unfold State.ptPoll; dsimp only; split
    · exact s.feed_ptLatch l e
    · split
      · exact s.feed_ptLatch l e
      · rw [ih, State.feed_ptSwitch]
        split
        · exact (State.feed_under _ _ fun s => s.feed_ptTake ..).trans (s.feed_ptLatch l e)
        · exact (State.feed_ptTake ..).trans (s.feed_ptLatch l e)
theorem State.feed_nrgStatus (s : State) (l : Lane) : (s.nrgStatus l).feed = s.feed := by
  unfold State.nrgStatus
  repeat' first | with_reducible first | rfl | refine Eq.trans (State.feed_setB ..) ?_ | dsimp only | split
theorem State.feed_wdnDiverge (s : State) : (s.wdnDiverge).feed = s.feed := by
  unfold State.wdnDiverge
  repeat' first | with_reducible first | rfl | refine Eq.trans (State.feed_onIf fun s => ?_) ?_ | refine Eq.trans (State.feed_setB ..) ?_ | dsimp only | split
theorem State.feed_nrgDiff (s : State) (k : Nat) : (s.nrgDiff k).feed = s.feed := by
  unfold State.nrgDiff
  repeat' first | with_reducible first | rfl | refine Eq.trans (State.feed_foldl (fun s x => ?_) _ _) ?_ | refine Eq.trans (State.feed_setB ..) ?_ | refine Eq.trans (State.feed_addSat ..) ?_ | refine Eq.trans (State.feed_event ..) ?_ | refine Eq.trans (State.feed_wdnDiverge ..) ?_ | dsimp only | split
theorem State.feed_demDone (s : State) (l : Lane) : (s.demDone l).feed = s.feed := by
  unfold State.demDone
  repeat' first | with_reducible first | rfl | refine Eq.trans (State.feed_onIf fun s => ?_) ?_ | refine Eq.trans (State.feed_foldl (fun s x => ?_) _ _) ?_ | refine Eq.trans (State.feed_modNrg ..) ?_ | refine Eq.trans (State.feed_wr ..) ?_ | refine Eq.trans (State.feed_setB ..) ?_ | refine Eq.trans (State.feed_addWrap ..) ?_ | refine Eq.trans (State.feed_nrgDiff ..) ?_ | dsimp only | split
theorem State.feed_energyPoll (s : State) (l : Lane) : (s.energyPoll l).feed = s.feed := by
  unfold State.energyPoll
  repeat' first | with_reducible first | rfl | refine Eq.trans (State.feed_foldl (fun s x => ?_) _ _) ?_ | refine Eq.trans (State.feed_ptLatch ..) ?_ | refine Eq.trans (State.feed_ptPoll ..) ?_ | refine Eq.trans (State.feed_nrgStatus ..) ?_ | refine Eq.trans (State.feed_demDone ..) ?_ | dsimp only | split
theorem State.feed_doneRefresh (s : State) (l : Lane) : (s.doneRefresh l).feed = s.feed := by
  unfold State.doneRefresh
  repeat' first | with_reducible first | rfl | refine Eq.trans (State.feed_wrC ..) ?_ | dsimp only | split
theorem State.feed_readyJudge (s : State) (l : Lane) : (s.readyJudge l).feed = s.feed := by
  unfold State.readyJudge
  repeat' first | with_reducible first | rfl | refine Eq.trans (State.feed_setB ..) ?_ | dsimp only | split
theorem State.feed_schedRefresh (s : State) (l : Lane) : (s.schedRefresh l).feed = s.feed := by
  unfold State.schedRefresh
  repeat' first | (intro _; rfl) | with_reducible first | rfl | refine Eq.trans (State.feed_onIf fun s => ?_) ?_ | refine Eq.trans (State.feed_foldl (fun s x => ?_) _ _) ?_ | refine Eq.trans (State.feed_modLane _ _ _ ?_) ?_ | refine Eq.trans (State.feed_setB ..) ?_ | refine Eq.trans (State.feed_wrC ..) ?_ | refine Eq.trans (State.feed_crest ..) ?_ | refine Eq.trans (State.feed_readyJudge ..) ?_ | dsimp only | split
theorem State.feed_carryPoll (s : State) (l : Lane) (v : Nat) : (s.carryPoll l v).feed = s.feed := by
  unfold State.carryPoll
  repeat' first | (intro _; rfl) | with_reducible first | rfl | refine Eq.trans (State.feed_modLane _ _ _ ?_) ?_ | dsimp only | split
theorem State.feed_lastOvr (s : State) (l : Lane) (v cause k : Nat) : (s.lastOvr l v cause k).feed = s.feed := by
  unfold State.lastOvr
  repeat' first | with_reducible first | rfl | refine Eq.trans (State.feed_wr ..) ?_ | dsimp only | split
theorem State.feed_chargeStat (s : State) (l : Lane) (r : Run) : (s.chargeStat l r).feed = s.feed := by
  unfold State.chargeStat
  repeat' first | with_reducible first | rfl | refine Eq.trans (State.feed_setF ..) ?_ | refine Eq.trans (State.feed_crest ..) ?_ | dsimp only | split
theorem State.feed_ownFlush (s : State) (l : Lane) : (s.ownFlush l).feed = s.feed := by
  unfold State.ownFlush
  repeat' first | (intro _; rfl) | with_reducible first | rfl | refine Eq.trans (State.feed_foldl (fun s x => ?_) _ _) ?_ | refine Eq.trans (State.feed_modLane _ _ _ ?_) ?_ | refine Eq.trans (State.feed_relSend ..) ?_ | dsimp only | split
theorem State.feed_ownFab (s : State) (l : Lane) (r : Run) (fab : Nat) : (s.ownFab l r fab).feed = s.feed := by
  unfold State.ownFab
  repeat' first | (intro _; rfl) | with_reducible first | rfl | refine Eq.trans (State.feed_modLane _ _ _ ?_) ?_ | refine Eq.trans (State.feed_ownFlush ..) ?_ | dsimp only | split
theorem LaneSt.feed_dropBox (x : LaneSt) (r : Run) : (x.dropBox r).feed = x.feed := by
  unfold LaneSt.dropBox; split <;> rfl
theorem State.feed_runAbandon (s : State) (l : Lane) (r : Run) : (s.runAbandon l r).feed = s.feed := by
  unfold State.runAbandon
  repeat' first | (intro _; rfl) | (intro x; exact LaneSt.feed_dropBox _ _) | with_reducible first | rfl | refine Eq.trans (State.feed_onIf fun s => ?_) ?_ | refine Eq.trans (State.feed_modLane _ _ _ ?_) ?_ | refine Eq.trans (State.feed_setB ..) ?_ | refine Eq.trans (State.feed_addSat ..) ?_ | refine Eq.trans (State.feed_addSatF ..) ?_ | refine Eq.trans (State.feed_relSend ..) ?_ | refine Eq.trans (State.feed_doneRefresh ..) ?_ | refine Eq.trans (State.feed_carryPoll ..) ?_ | refine Eq.trans (State.feed_lastOvr ..) ?_ | refine Eq.trans (State.feed_chargeStat ..) ?_ | refine Eq.trans (State.feed_ownFab ..) ?_ | dsimp only | split
theorem State.feed_createRun (s : State) (l : Lane) (r : Run) : (s.createRun l r).feed = s.feed := by
  unfold State.createRun
  repeat' first | (intro _; rfl) | with_reducible first | rfl | refine Eq.trans (State.feed_onIf fun s => ?_) ?_ | refine Eq.trans (State.feed_modLane _ _ _ ?_) ?_ | refine Eq.trans (State.feed_setB ..) ?_ | refine Eq.trans (State.feed_addSat ..) ?_ | dsimp only | split
theorem State.feed_squashCycles (s : State) (l : Lane) (v n : Nat) : (s.squashCycles l v n).feed = s.feed := by
  unfold State.squashCycles
  repeat' first | with_reducible first | rfl | refine Eq.trans (State.feed_onIf fun s => ?_) ?_ | refine Eq.trans (State.feed_addWrap ..) ?_ | dsimp only | split
theorem State.feed_squashOne (s : State) (l : Lane) (r : Run) (stat : List Nat) : (s.squashOne l r stat).feed = s.feed := by
  unfold State.squashOne
  repeat' first | (intro _; rfl) | with_reducible first | rfl | refine Eq.trans (State.feed_onIf fun s => ?_) ?_ | refine Eq.trans (State.feed_modLane _ _ _ ?_) ?_ | refine Eq.trans (State.feed_relSend ..) ?_ | refine Eq.trans (State.feed_createRun ..) ?_ | refine Eq.trans (State.feed_squashCycles ..) ?_ | dsimp only | split
theorem State.feed_squashWhere (s : State) (l : Lane) (hit : Run → Option (List Nat)) : (s.squashWhere l hit).feed = s.feed := by
  unfold State.squashWhere
  refine State.feed_foldlFst (fun a x => ?_) _ _
  split
  · exact State.feed_squashOne ..
  · split
    · exact State.feed_squashOne ..
    · rfl
theorem State.feed_finalSend (s : State) (l : Lane) (r : Run) : (s.finalSend l r).feed = s.feed := by
  unfold State.finalSend
  repeat' first | with_reducible first | rfl | refine Eq.trans (State.feed_onIf fun s => ?_) ?_ | refine Eq.trans (State.feed_relSend ..) ?_ | refine Eq.trans (State.feed_ownFab ..) ?_ | dsimp only | split
theorem State.feed_lateCheck (s : State) (l : Lane) (r : Run) : (s.lateCheck l r).feed = s.feed := by
  unfold State.lateCheck
  repeat' first | with_reducible first | rfl | refine Eq.trans (State.feed_onIf fun s => ?_) ?_ | refine Eq.trans (State.feed_setB ..) ?_ | refine Eq.trans (State.feed_addSat ..) ?_ | refine Eq.trans (State.feed_lastOvr ..) ?_ | dsimp only | split
theorem State.feed_runFinal (s : State) (l : Lane) (r : Run) : (s.runFinal l r).feed = s.feed := by
  unfold State.runFinal
  repeat' first | (intro _; rfl) | (intro x; exact LaneSt.feed_dropBox _ _) | with_reducible first | rfl | refine Eq.trans (State.feed_onIf fun s => ?_) ?_ | refine Eq.trans (State.feed_modLane _ _ _ ?_) ?_ | refine Eq.trans (State.feed_wr ..) ?_ | refine Eq.trans (State.feed_doneRefresh ..) ?_ | refine Eq.trans (State.feed_carryPoll ..) ?_ | refine Eq.trans (State.feed_squashWhere ..) ?_ | refine Eq.trans (State.feed_chargeStat ..) ?_ | refine Eq.trans (State.feed_finalSend ..) ?_ | refine Eq.trans (State.feed_lateCheck ..) ?_ | dsimp only | split
theorem State.feed_settleVi (s : State) (l : Lane) (v n : Nat) : (s.settleVi l v n).feed = s.feed := by
  induction n generalizing s with
  | zero => rfl
  | succ n ih =>
    unfold State.settleVi; split
    · rfl
    · split
      · rw [ih, State.feed_runAbandon]
      · split
        · rw [ih, State.feed_runFinal]
        · rfl
theorem State.feed_budgetStop (s : State) (l : Lane) (r : Run) : (s.budgetStop l r).feed = s.feed := by
  unfold State.budgetStop
  repeat' first | (intro _; rfl) | with_reducible first | rfl | refine Eq.trans (State.feed_settleVi ..) ?_ | refine Eq.trans (State.feed_modLane _ _ _ ?_) ?_ | dsimp only | split
theorem State.feed_segStart (s : State) (l : Lane) (p : Nat) (b : Bool) : (s.segStart l p b).feed = s.feed := by
  unfold State.segStart
  repeat' first | (intro _; rfl) | with_reducible first | rfl | refine Eq.trans (State.feed_budgetStop ..) ?_ | refine Eq.trans (State.feed_modLane _ _ _ ?_) ?_ | dsimp only | split
theorem State.feed_tilesBegin (s : State) (l : Lane) : (s.tilesBegin l).feed = s.feed := by
  unfold State.tilesBegin
  repeat' first | (intro _; rfl) | with_reducible first | rfl | refine Eq.trans (State.feed_foldl (fun s x => ?_) _ _) ?_ | refine Eq.trans (State.feed_segStart ..) ?_ | dsimp only | split
theorem State.feed_laneEnd (s : State) (l : Lane) : (s.laneEnd l).feed = s.feed := by
  unfold State.laneEnd
  repeat' first | (intro _; rfl) | with_reducible first | rfl | refine Eq.trans (State.feed_modLane _ _ _ ?_) ?_ | refine Eq.trans (State.feed_doneRefresh ..) ?_ | refine Eq.trans (State.feed_schedRefresh ..) ?_ | refine Eq.trans (State.feed_tilesBegin ..) ?_ | dsimp only | split
theorem State.feed_evtRefresh (s : State) (l : Lane) : (s.evtRefresh l).feed = s.feed := by
  unfold State.evtRefresh
  repeat' first | with_reducible first | rfl | refine Eq.trans (State.feed_foldl (fun s x => ?_) _ _) ?_ | refine Eq.trans (State.feed_wrC ..) ?_ | dsimp only | split
theorem State.feed_laneFollow (s : State) (l : Lane) : (s.laneFollow l).feed = s.feed := by
  unfold State.laneFollow
  repeat' first | with_reducible first | rfl | refine Eq.trans (State.feed_finalsOut ..) ?_ | refine Eq.trans (State.feed_trigPoll ..) ?_ | refine Eq.trans (State.feed_energyPoll ..) ?_ | refine Eq.trans (State.feed_laneEnd ..) ?_ | refine Eq.trans (State.feed_ownFlush ..) ?_ | refine Eq.trans (State.feed_evtRefresh ..) ?_ | dsimp only | split
theorem State.feed_setTask (s : State) (l : Lane) (t : Nat) (r : TaskRt) : (s.setTask l t r).feed = s.feed := by
  unfold State.setTask
  repeat' first | (intro _; rfl) | with_reducible first | rfl | refine Eq.trans (State.feed_modLane _ _ _ ?_) ?_ | dsimp only | split
theorem State.feed_modeApply (s : State) (l : Lane) (k : Nat) : (s.modeApply l k).feed = s.feed := by
  unfold State.modeApply
  repeat' first | (intro _; rfl) | with_reducible first | rfl | refine Eq.trans (State.feed_onIf fun s => ?_) ?_ | refine Eq.trans (State.feed_foldl (fun s x => ?_) _ _) ?_ | refine Eq.trans (State.feed_modLane _ _ _ ?_) ?_ | refine Eq.trans (State.feed_wr ..) ?_ | refine Eq.trans (State.feed_setF ..) ?_ | refine Eq.trans (State.feed_setB ..) ?_ | refine Eq.trans (State.feed_setTask ..) ?_ | dsimp only | split
theorem State.feed_putLive (s : State) (l : Lane) (v w x : Nat) : (s.putLive l v w x).feed = s.feed := by
  unfold State.putLive
  repeat' first | (intro _; rfl) | with_reducible first | rfl | refine Eq.trans (State.feed_modLane _ _ _ ?_) ?_ | dsimp only | split
theorem State.feed_putLives (s : State) (l : Lane) (v o : Nat) (ws : List Nat) : (s.putLives l v o ws).feed = s.feed := by
  unfold State.putLives
  repeat' first | with_reducible first | rfl | refine Eq.trans (State.feed_foldl (fun s x => ?_) _ _) ?_ | refine Eq.trans (State.feed_putLive ..) ?_ | dsimp only | split
theorem State.feed_putRetained (s : State) (l : Lane) (t : Nat) (ws : List Nat) : (s.putRetained l t ws).feed = s.feed := by
  unfold State.putRetained
  repeat' first | with_reducible first | rfl | refine Eq.trans (State.feed_putLives ..) ?_ | dsimp only | split
theorem State.feed_taskInit (s : State) (l : Lane) (t : Nat) : (s.taskInit l t).feed = s.feed := by
  unfold State.taskInit
  repeat' first | (intro _; rfl) | with_reducible first | rfl | refine Eq.trans (State.feed_modLane _ _ _ ?_) ?_ | refine Eq.trans (State.feed_putRetained ..) ?_ | dsimp only | split
theorem State.feed_setTaskState (s : State) (l : Lane) (t v : Nat) : (s.setTaskState l t v).feed = s.feed := by
  unfold State.setTaskState
  repeat' first | with_reducible first | rfl | refine Eq.trans (State.feed_setF ..) ?_ | dsimp only | split
theorem State.feed_taskDrop (s : State) (l : Lane) (t : Nat) : (s.taskDrop l t).feed = s.feed := by
  unfold State.taskDrop
  refine State.feed_modLane _ _ _ fun x => ?_
  dsimp only
  generalize x.runs.filter _ = rs
  show LaneSt.feed _ = _
  have : ∀ (rs : List Run) (x : LaneSt), (rs.foldl (fun x r =>
      let on := x.onTile r.rid
      let x := x.dropTokens r.rid
      if on then x.putRun { r with dead := 3 } else x.delRun r.rid) x).feed = x.feed := by
    intro rs; induction rs with
    | nil => intro x; rfl
    | cons r rs ih => intro x; rw [List.foldl_cons, ih]; dsimp only; split <;> rfl
  exact this rs x
theorem State.feed_taskStart (s : State) (l : Lane) (t : Nat) (clear : Bool) : (s.taskStart l t clear).feed = s.feed := by
  unfold State.taskStart
  repeat' first | (intro _; rfl) | with_reducible first | rfl | refine Eq.trans (State.feed_onIf fun s => ?_) ?_ | refine Eq.trans (State.feed_modLane _ _ _ ?_) ?_ | refine Eq.trans (State.feed_wr ..) ?_ | refine Eq.trans (State.feed_setF ..) ?_ | refine Eq.trans (State.feed_setTask ..) ?_ | refine Eq.trans (State.feed_taskInit ..) ?_ | refine Eq.trans (State.feed_setTaskState ..) ?_ | refine Eq.trans (State.feed_taskDrop ..) ?_ | dsimp only | split
theorem State.feed_retSend (s : State) (l : Lane) (t : Nat) : (s.retSend l t).feed = s.feed := by
  unfold State.retSend; dsimp only; split
  · rfl
  · exact (State.feed_onIf fun s => s.feed_xl _).trans (State.feed_setTask ..)
theorem State.feed_cycleBegin (s : State) (l : Lane) (t k : Nat) : (s.cycleBegin l t k).feed = s.feed := by
  unfold State.cycleBegin
  repeat' first | (intro _; rfl) | with_reducible first | rfl | refine Eq.trans (State.feed_onIf fun s => ?_) ?_ | refine Eq.trans (State.feed_modLane _ _ _ ?_) ?_ | refine Eq.trans (State.feed_wr ..) ?_ | refine Eq.trans (State.feed_setF ..) ?_ | refine Eq.trans (State.feed_relSend ..) ?_ | refine Eq.trans (State.feed_setTask ..) ?_ | refine Eq.trans (State.feed_modeApply ..) ?_ | refine Eq.trans (State.feed_carryPoll ..) ?_ | refine Eq.trans (State.feed_setTaskState ..) ?_ | refine Eq.trans (State.feed_taskStart ..) ?_ | refine Eq.trans (State.feed_retSend ..) ?_ | refine Eq.trans (State.feed_createRun ..) ?_ | dsimp only | split
theorem State.feed_cycleUnder (s : State) (l : Lane) (t k : Nat) : (s.cycleUnder l t k).feed = s.feed := by
  unfold State.cycleUnder; split
  · exact (State.feed_onIf fun s => s.feed_setTaskState _ _ _).trans (s.feed_under _ fun s => s.feed_cycleBegin l t k)
  · exact State.feed_cycleBegin ..
theorem State.feed_cyclePoll (s : State) (l : Lane) : (s.cyclePoll l).feed = s.feed := by
  unfold State.cyclePoll
  repeat' first | (intro _; rfl) | with_reducible first | rfl | refine Eq.trans (State.feed_foldl (fun s x => ?_) _ _) ?_ | refine Eq.trans (State.feed_modLane _ _ _ ?_) ?_ | refine Eq.trans (State.feed_cycleUnder ..) ?_ | dsimp only | split
theorem State.feed_mirrorFinal (s : State) (o : Lane) (r : Run) : (s.mirrorFinal o r).feed = s.feed := by
  unfold State.mirrorFinal
  repeat' first | (intro _; rfl) | with_reducible first | rfl | refine Eq.trans (State.feed_onIf fun s => ?_) ?_ | refine Eq.trans (State.feed_modLane _ _ _ ?_) ?_ | dsimp only | split
theorem State.feed_copyKeys (s : State) (o : Lane) (ks : List (Lane → Nat)) : (s.copyKeys o ks).feed = s.feed := by
  unfold State.copyKeys
  repeat' first | with_reducible first | rfl | refine Eq.trans (State.feed_foldl (fun s x => ?_) _ _) ?_ | refine Eq.trans (State.feed_wrC ..) ?_ | dsimp only | split
theorem State.feed_mirrorSlot (s : State) (a o : Lane) (L : Nat) : (s.mirrorSlot a o L).feed = s.feed := by
  unfold State.mirrorSlot
  repeat' first | (intro _; rfl) | with_reducible first | rfl | refine Eq.trans (State.feed_onIf fun s => ?_) ?_ | refine Eq.trans (State.feed_foldl (fun s x => ?_) _ _) ?_ | refine Eq.trans (State.feed_modLane _ _ _ ?_) ?_ | refine Eq.trans (State.feed_copyKeys ..) ?_ | dsimp only | split
theorem State.feed_mirrorTask (s : State) (a o : Lane) (t : Nat) : (s.mirrorTask a o t).feed = s.feed := by
  unfold State.mirrorTask
  repeat' first | (intro _; rfl) | with_reducible first | rfl | refine Eq.trans (State.feed_modLane _ _ _ ?_) ?_ | refine Eq.trans (State.feed_copyKeys ..) ?_ | dsimp only | split
theorem State.feed_mirrorOpt (s : State) (a o : Lane) : (s.mirrorOpt a o).feed = s.feed := by
  unfold State.mirrorOpt
  repeat' first | (intro _; rfl) | with_reducible first | rfl | refine Eq.trans (State.feed_modLane _ _ _ ?_) ?_ | refine Eq.trans (State.feed_copyKeys ..) ?_ | dsimp only | split
theorem State.feed_mirrorJoin (s : State) (a : Lane) : (s.mirrorJoin a).feed = s.feed := by
  unfold State.mirrorJoin
  repeat' first | (intro _; rfl) | with_reducible first | rfl | refine Eq.trans (State.feed_onIf fun s => ?_) ?_ | refine Eq.trans (State.feed_foldl (fun s x => ?_) _ _) ?_ | refine Eq.trans (State.feed_modLane _ _ _ ?_) ?_ | refine Eq.trans (State.feed_laneFollow ..) ?_ | refine Eq.trans (State.feed_mirrorFinal ..) ?_ | refine Eq.trans (State.feed_mirrorSlot ..) ?_ | refine Eq.trans (State.feed_mirrorTask ..) ?_ | refine Eq.trans (State.feed_mirrorOpt ..) ?_ | dsimp only | split
theorem State.feed_laneTail (s : State) (l : Lane) : (s.laneTail l).feed = s.feed := by
  unfold State.laneTail
  repeat' first | with_reducible first | rfl | refine Eq.trans (State.feed_onIf fun s => ?_) ?_ | refine Eq.trans (State.feed_laneFollow ..) ?_ | refine Eq.trans (State.feed_cyclePoll ..) ?_ | refine Eq.trans (State.feed_mirrorJoin ..) ?_ | dsimp only | split
theorem State.feed_blkRefresh (s : State) (l : Lane) : (s.blkRefresh l).feed = s.feed := by
  unfold State.blkRefresh
  repeat' first | with_reducible first | rfl | refine Eq.trans (State.feed_wr ..) ?_ | refine Eq.trans (State.feed_crest ..) ?_ | dsimp only | split
theorem State.feed_recAlloc (s : State) (l : Lane) (u : Nat) (first : Bool) (k : Option Nat) : (s.recAlloc l u first k).feed = s.feed := by
  unfold State.recAlloc
  repeat' first | with_reducible first | rfl | refine Eq.trans (State.feed_onIf fun s => ?_) ?_ | refine Eq.trans (State.feed_modRec ..) ?_ | refine Eq.trans (State.feed_wr ..) ?_ | refine Eq.trans (State.feed_setF ..) ?_ | refine Eq.trans (State.feed_setB ..) ?_ | refine Eq.trans (State.feed_addSat ..) ?_ | refine Eq.trans (State.feed_addSatF ..) ?_ | refine Eq.trans (State.feed_setUnitState ..) ?_ | refine Eq.trans (State.feed_setUnit ..) ?_ | refine Eq.trans (State.feed_blkRefresh ..) ?_ | dsimp only | split
theorem State.feed_recRetry (s : State) (l : Lane) (k : Nat) : (s.recRetry l k).feed = s.feed := by
  unfold State.recRetry
  repeat' first | with_reducible first | rfl | refine Eq.trans (State.feed_onIf fun s => ?_) ?_ | refine Eq.trans (State.feed_foldl (fun s x => ?_) _ _) ?_ | refine Eq.trans (State.feed_modRec ..) ?_ | refine Eq.trans (State.feed_recAlloc ..) ?_ | dsimp only | split
theorem State.feed_recBoundary (s : State) (l : Lane) (k w : Nat) : (s.recBoundary l k w).feed = s.feed := by
  unfold State.recBoundary
  repeat' first | with_reducible first | rfl | refine Eq.trans (State.feed_modRec ..) ?_ | refine Eq.trans (State.feed_recRetry ..) ?_ | dsimp only | split
theorem State.feed_nrgBoundary (s : State) (l : Lane) (k : Nat) (mark : Bool) : (s.nrgBoundary l k mark).feed = s.feed := by
  unfold State.nrgBoundary
  repeat' first | with_reducible first | rfl | refine Eq.trans (State.feed_onIf fun s => ?_) ?_ | refine Eq.trans (State.feed_foldl (fun s x => ?_) _ _) ?_ | refine Eq.trans (State.feed_modNrg ..) ?_ | refine Eq.trans (State.feed_setPt ..) ?_ | refine Eq.trans (State.feed_energyPoll ..) ?_ | dsimp only | split
theorem State.feed_setSlotRt (s : State) (l : Lane) (L : Nat) (r : SlotRt) : (s.setSlotRt l L r).feed = s.feed := by
  unfold State.setSlotRt
  repeat' first | (intro _; rfl) | with_reducible first | rfl | refine Eq.trans (State.feed_modLane _ _ _ ?_) ?_ | dsimp only | split
theorem State.feed_slotCount (s : State) (l : Lane) : (s.slotCount l).2.feed = s.feed := by
  unfold State.slotCount
  refine State.feed_foldlSnd (fun a x => ?_) _ _
  dsimp only; split <;> exact State.feed_setSlotRt ..
theorem State.feed_taskCount (s : State) (l : Lane) : (s.taskCount l).2.feed = s.feed := by
  unfold State.taskCount
  refine State.feed_foldlSnd (fun a x => ?_) _ _
  dsimp only; split
  · rfl
  · split <;> exact State.feed_setTask ..
theorem State.feed_descSelect (s : State) (l : Lane) (v : Nat) : (s.descSelect l v).feed = s.feed := by
  unfold State.descSelect
  repeat' first | with_reducible first | rfl | refine Eq.trans (State.feed_wr ..) ?_ | refine Eq.trans (State.feed_wrs ..) ?_ | dsimp only | split
theorem State.feed_writeFields (s : State) (k v : Nat) : (s.writeFields k v).feed = s.feed := by
  unfold State.writeFields
  repeat' first | with_reducible first | rfl | refine Eq.trans (State.feed_foldl (fun s x => ?_) _ _) ?_ | refine Eq.trans (State.feed_setF ..) ?_ | dsimp only | split
theorem State.feed_trTrigger (s : State) (l : Lane) (c k : Nat) : (s.trTrigger l c k).feed = s.feed := by
  unfold State.trTrigger; split
  · rfl
  · extract_lets s1 s2 post
    have h : s2.feed = s.feed := (State.feed_setB ..).trans ((State.feed_wr ..).trans ((State.feed_setB ..).trans (State.feed_setF ..)))
    split
    · exact h
    · split
      · exact (State.feed_setB ..).trans ((State.feed_setB ..).trans h)
      · refine (State.feed_modLane _ _ _ ?_).trans h
        intro _; rfl
theorem State.feed_traceTrig (s : State) (l : Lane) (k : Nat) : (s.traceTrig l k).feed = s.feed := by
  unfold State.traceTrig
  repeat' first | with_reducible first | rfl | refine Eq.trans (State.feed_onIf fun s => ?_) ?_ | refine Eq.trans (State.feed_foldl (fun s x => ?_) _ _) ?_ | refine Eq.trans (State.feed_trTrigger ..) ?_ | dsimp only | split
theorem State.feed_traceArm (s : State) (l : Lane) : (s.traceArm l).feed = s.feed := by
  unfold State.traceArm
  repeat' first | (intro _; rfl) | with_reducible first | rfl | refine Eq.trans (State.feed_onIf fun s => ?_) ?_ | refine Eq.trans (State.feed_foldl (fun s x => ?_) _ _) ?_ | refine Eq.trans (State.feed_modLane _ _ _ ?_) ?_ | refine Eq.trans (State.feed_setB ..) ?_ | dsimp only | split
theorem State.feed_modOpt (s : State) (l : Lane) (f : OptSt → OptSt) : (s.modOpt l f).feed = s.feed := by
  unfold State.modOpt
  repeat' first | (intro _; rfl) | with_reducible first | rfl | refine Eq.trans (State.feed_modLane _ _ _ ?_) ?_ | dsimp only | split
theorem State.feed_optPublish (s : State) (l : Lane) : (s.optPublish l).feed = s.feed := by
  unfold State.optPublish
  repeat' first | with_reducible first | rfl | refine Eq.trans (State.feed_modOpt ..) ?_ | dsimp only | split
theorem State.feed_optCold (s : State) (l : Lane) : (s.optCold l).feed = s.feed := by
  unfold State.optCold
  repeat' first | with_reducible first | rfl | refine Eq.trans (State.feed_setB ..) ?_ | dsimp only | split
theorem State.feed_setOptState (s : State) (l : Lane) (v : Nat) : (s.setOptState l v).feed = s.feed := by
  unfold State.setOptState
  repeat' first | with_reducible first | rfl | refine Eq.trans (State.feed_setF ..) ?_ | dsimp only | split
theorem State.feed_optStart (s : State) (l : Lane) (k : Nat) : (s.optStart l k).feed = s.feed := by
  unfold State.optStart
  repeat' first | with_reducible first | rfl | refine Eq.trans (State.feed_wr ..) ?_ | refine Eq.trans (State.feed_setB ..) ?_ | refine Eq.trans (State.feed_modOpt ..) ?_ | refine Eq.trans (State.feed_setOptState ..) ?_ | dsimp only | split
theorem State.feed_optSolve (s : State) (l : Lane) (k : Nat) : (s.optSolve l k).feed = s.feed := by
  unfold State.optSolve
  repeat' first | with_reducible first | rfl | refine Eq.trans (State.feed_setB ..) ?_ | refine Eq.trans (State.feed_modOpt ..) ?_ | refine Eq.trans (State.feed_optStart ..) ?_ | dsimp only | split
theorem State.feed_optLast (s : State) (l : Lane) (v : Nat) : (s.optLast l v).feed = s.feed := by
  unfold State.optLast
  repeat' first | with_reducible first | rfl | refine Eq.trans (State.feed_setF ..) ?_ | dsimp only | split
theorem State.feed_optAbort (s : State) (l : Lane) : (s.optAbort l).feed = s.feed := by
  unfold State.optAbort
  repeat' first | with_reducible first | rfl | refine Eq.trans (State.feed_takeFree ..) ?_ | refine Eq.trans (State.feed_onIf fun s => ?_) ?_ | refine Eq.trans (State.feed_wr ..) ?_ | refine Eq.trans (State.feed_setB ..) ?_ | refine Eq.trans (State.feed_modOpt ..) ?_ | refine Eq.trans (State.feed_setOptState ..) ?_ | refine Eq.trans (State.feed_optLast ..) ?_ | dsimp only | split
theorem State.feed_taskRestart (s : State) (l : Lane) (t : Nat) : (s.taskRestart l t).feed = s.feed := by
  unfold State.taskRestart
  repeat' first | with_reducible first | rfl | refine Eq.trans (State.feed_onIf fun s => ?_) ?_ | refine Eq.trans (State.feed_taskStart ..) ?_ | dsimp only | split
theorem State.feed_pwApply (s : State) (l : Lane) (x : Nat) : (s.pwApply l x).feed = s.feed := by
  unfold State.pwApply
  repeat' first | with_reducible first | rfl | refine Eq.trans (State.feed_onIf fun s => ?_) ?_ | refine Eq.trans (State.feed_putLive ..) ?_ | dsimp only | split
theorem State.feed_maxdemClear (s : State) (l : Lane) : (s.maxdemClear l).feed = s.feed := by
  unfold State.maxdemClear
  repeat' first | with_reducible first | rfl | refine Eq.trans (State.feed_foldl (fun s x => ?_) _ _) ?_ | refine Eq.trans (State.feed_wr ..) ?_ | dsimp only | split
theorem State.feed_recArm (s : State) (l : Lane) (u : Nat) (k : Option Nat) : (s.recArm l u k).feed = s.feed := by
  unfold State.recArm
  repeat' first | with_reducible first | rfl | refine Eq.trans (State.feed_onIf fun s => ?_) ?_ | refine Eq.trans (State.feed_recAlloc ..) ?_ | dsimp only | split
theorem State.feed_recDrop (s : State) (l : Lane) (r : RecRt) : (s.recDrop l r).feed = s.feed := by
  unfold State.recDrop
  repeat' first | with_reducible first | rfl | refine Eq.trans (State.feed_modRec ..) ?_ | refine Eq.trans (State.feed_wrs ..) ?_ | refine Eq.trans (State.feed_blkRefresh ..) ?_ | dsimp only | split
theorem State.feed_recFollow (s : State) (l : Lane) (u e : Nat) (d : UnitDef) : (s.recFollow l u e d).feed = s.feed := by
  unfold State.recFollow
  repeat' first | with_reducible first | rfl | refine Eq.trans (State.feed_wr ..) ?_ | refine Eq.trans (State.feed_setUnitState ..) ?_ | refine Eq.trans (State.feed_setUnit ..) ?_ | dsimp only | split
theorem State.feed_recDiscard (s : State) (l : Lane) (u b : Nat) : (s.recDiscard l u b).feed = s.feed := by
  unfold State.recDiscard
  repeat' first | with_reducible first | rfl | refine Eq.trans (State.feed_setB ..) ?_ | refine Eq.trans (State.feed_recDrop ..) ?_ | refine Eq.trans (State.feed_recFollow ..) ?_ | dsimp only | split
theorem State.feed_recRelease (s : State) (l : Lane) (u b : Nat) : (s.recRelease l u b).feed = s.feed := by
  unfold State.recRelease; split
  · rfl
  · split
    · rfl
    · split
      · exact s.feed_rcd _
      · exact State.feed_recDrop ..
theorem State.feed_recExport (s : State) (l : Lane) (u b : Nat) : (s.recExport l u b).feed = s.feed := by
  unfold State.recExport; split
  · rfl
  · exact State.feed_onIf fun s => (State.feed_wr ..).trans ((State.feed_setB ..).trans (s.feed_rcd _))
theorem State.feed_recDisarm (s : State) (l : Lane) (u : Nat) : (s.recDisarm l u).feed = s.feed := by
  unfold State.recDisarm
  repeat' first | with_reducible first | rfl | refine Eq.trans (State.feed_setUnitState ..) ?_ | refine Eq.trans (State.feed_recDrop ..) ?_ | dsimp only | split
theorem State.feed_recApply (s : State) (l : Lane) (k code u v : Nat) : (s.recApply l k code u v).feed = s.feed := by
  unfold State.recApply
  repeat' first | with_reducible first | rfl | refine Eq.trans (State.feed_modRec ..) ?_ | refine Eq.trans (State.feed_setUnit ..) ?_ | refine Eq.trans (State.feed_stopCheck ..) ?_ | refine Eq.trans (State.feed_recArm ..) ?_ | refine Eq.trans (State.feed_recDiscard ..) ?_ | refine Eq.trans (State.feed_recRelease ..) ?_ | refine Eq.trans (State.feed_recExport ..) ?_ | refine Eq.trans (State.feed_recDisarm ..) ?_ | dsimp only | split
theorem State.feed_cmdApply (s : State) (l : Lane) (k : Nat) (c : LaneCmd) : (s.cmdApply l k c).feed = s.feed := by
  unfold State.cmdApply
  repeat' first | with_reducible first | rfl | refine Eq.trans (State.feed_onIf fun s => ?_) ?_ | refine Eq.trans (State.feed_wr ..) ?_ | refine Eq.trans (State.feed_evtTake ..) ?_ | refine Eq.trans (State.feed_event ..) ?_ | refine Eq.trans (State.feed_descSelect ..) ?_ | refine Eq.trans (State.feed_writeFields ..) ?_ | refine Eq.trans (State.feed_traceTrig ..) ?_ | refine Eq.trans (State.feed_traceArm ..) ?_ | refine Eq.trans (State.feed_optPublish ..) ?_ | refine Eq.trans (State.feed_optCold ..) ?_ | refine Eq.trans (State.feed_optSolve ..) ?_ | refine Eq.trans (State.feed_optAbort ..) ?_ | refine Eq.trans (State.feed_taskRestart ..) ?_ | refine Eq.trans (State.feed_pwApply ..) ?_ | refine Eq.trans (State.feed_maxdemClear ..) ?_ | refine Eq.trans (State.feed_recApply ..) ?_ | dsimp only | split
theorem State.feed_cmdsApply (s : State) (l : Lane) (k : Nat) (p : LaneCmd → Bool) : (s.cmdsApply l k p).feed = s.feed := by
  unfold State.cmdsApply
  repeat' first | (intro _; rfl) | with_reducible first | rfl | refine Eq.trans (State.feed_foldl (fun s x => ?_) _ _) ?_ | refine Eq.trans (State.feed_modLane _ _ _ ?_) ?_ | refine Eq.trans (State.feed_cmdApply ..) ?_ | dsimp only | split
theorem State.feed_optHeld (s : State) (l : Lane) (k : Nat) : (s.optHeld l k).feed = s.feed := by
  unfold State.optHeld
  repeat' first | with_reducible first | rfl | refine Eq.trans (State.feed_onIf fun s => ?_) ?_ | refine Eq.trans (State.feed_optStart ..) ?_ | dsimp only | split
theorem State.feed_tgtOf (s : State) (l : Lane) (L x : Nat) : (s.tgtOf l L x).2.feed = s.feed := by
  unfold State.tgtOf; split <;> rfl
theorem State.feed_optTarget (s : State) (l : Lane) (L : Nat) : (s.optTarget l L).feed = s.feed :=
  (State.feed_setSlotRt ..).trans (State.feed_tgtOf ..)
theorem State.feed_optTransfer (s : State) (l : Lane) (b code : Nat) : (s.optTransfer l b code).feed = s.feed := by
  unfold State.optTransfer
  repeat' first | with_reducible first | rfl | refine Eq.trans (State.feed_onIf fun s => ?_) ?_ | refine Eq.trans (State.feed_foldl (fun s x => ?_) _ _) ?_ | refine Eq.trans (State.feed_wr ..) ?_ | refine Eq.trans (State.feed_setB ..) ?_ | refine Eq.trans (State.feed_addSat ..) ?_ | refine Eq.trans (State.feed_addWrap ..) ?_ | refine Eq.trans (State.feed_wdnDiverge ..) ?_ | refine Eq.trans (State.feed_optTarget ..) ?_ | refine Eq.trans (State.feed_modOpt ..) ?_ | refine Eq.trans (State.feed_setOptState ..) ?_ | dsimp only | split
theorem State.feed_optCount (s : State) (l : Lane) (k : Nat) : (s.optCount l k).feed = s.feed := by
  unfold State.optCount
  repeat' first | with_reducible first | rfl | refine Eq.trans (State.feed_modOpt ..) ?_ | dsimp only | split
theorem State.feed_runSkip (s : State) (l : Lane) (v k : Nat) : (s.runSkip l v k).feed = s.feed := by
  unfold State.runSkip
  repeat' first | with_reducible first | rfl | refine Eq.trans (State.feed_onIf fun s => ?_) ?_ | refine Eq.trans (State.feed_setB ..) ?_ | refine Eq.trans (State.feed_addSat ..) ?_ | refine Eq.trans (State.feed_addSatF ..) ?_ | refine Eq.trans (State.feed_relSend ..) ?_ | refine Eq.trans (State.feed_lastOvr ..) ?_ | dsimp only | split
theorem State.feed_evtCreate (s : State) (l : Lane) : (s.evtCreate l).feed = s.feed := by
  unfold State.evtCreate
  repeat' first | (intro _; rfl) | with_reducible first | rfl | refine Eq.trans (State.feed_onIf fun s => ?_) ?_ | refine Eq.trans (State.feed_foldl (fun s x => ?_) _ _) ?_ | refine Eq.trans (State.feed_modLane _ _ _ ?_) ?_ | refine Eq.trans (State.feed_addSatF ..) ?_ | refine Eq.trans (State.feed_evtLost ..) ?_ | refine Eq.trans (State.feed_putLives ..) ?_ | refine Eq.trans (State.feed_createRun ..) ?_ | dsimp only | split
theorem State.feed_evtRun (s : State) (l : Lane) (e : Nat) : (s.evtRun l e).feed = s.feed := by
  unfold State.evtRun
  repeat' first | (intro _; rfl) | with_reducible first | rfl | refine Eq.trans (State.feed_onIf fun s => ?_) ?_ | refine Eq.trans (State.feed_createRun ..) ?_ | refine Eq.trans (State.feed_addSatF ..) ?_ | refine Eq.trans (State.feed_putLives ..) ?_ | refine Eq.trans (State.feed_modLane _ _ _ ?_) ?_ | dsimp only | split
theorem State.feed_evtPoll (s : State) (l : Lane) : (s.evtPoll l).feed = s.feed := by
  unfold State.evtPoll; dsimp only
  exact (State.feed_foldl (fun s x => s.feed_evtRun l x) _ _).trans (State.feed_modLane _ _ _ fun _ => rfl)
theorem State.intake_laneCreate (s : State) (l : Lane) (x : StepX) : (s.laneCreate l x).intake = s.intake := by
  unfold State.laneCreate
  extract_lets k s1 s2 s3 s4
  have h1 : s1.feed = s.feed := State.feed_cmdsApply ..
  have h2 : s2.feed = s.feed := (State.feed_cmdsApply ..).trans ((State.feed_optHeld ..).trans h1)
  have h3 : s3.feed = s.feed := by
    show State.feed (match x.xfer with | some code => s2.optTransfer l k code | none => s2) = _
    split
    · exact (State.feed_optTransfer ..).trans h2
    · exact h2
  have h4 : s4.feed = s.feed := (State.feed_optCount ..).trans ((State.feed_cmdsApply ..).trans h3)
  have h5 : (s4.slotCount l).2.feed = s.feed := (State.feed_slotCount ..).trans h4
  generalize s4.slotCount l = p5 at h5
  obtain ⟨due, s5⟩ := p5
  dsimp -zeta only at h5 ⊢
  extract_lets due2 steps vis owners own s6 s7 cd2 s9 s10
  have h6 : s6.intake = s.intake := by
    refine Eq.trans (State.intake_modLane s5 l _ ?_) (State.intake_of_feed h5)
    intro _; rfl
  have h7 : s7.intake = s.intake := by
    refine (State.intake_of_feed (State.feed_foldl (fun s v => ?_) _ _)).trans h6
    split
    · exact State.feed_runSkip ..
    · exact State.feed_createRun ..
  have h8 : (s7.taskCount l).2.intake = s.intake := (State.intake_of_feed (State.feed_taskCount ..)).trans h7
  have h9 : s9.intake = s.intake := by
    refine Eq.trans (State.intake_modLane _ l _ ?_) h8
    intro _; rfl
  have h10 : s10.intake = s.intake := (State.intake_of_feed ((State.feed_ownFlush ..).trans ((State.feed_evtPoll ..).trans (State.feed_evtCreate ..)))).trans h9
  split
  · refine Eq.trans (State.intake_modLane _ _ _ ?_) ((State.intake_of_feed (State.feed_relSend ..)).trans h10)
    intro _; rfl
  · exact h10
theorem State.feed_applyVerdict (s : State) (l : Lane) (i k : Nat) (v : Option (List Nat)) : (s.applyVerdict l i k v).feed = s.feed := by
  unfold State.applyVerdict
  repeat' first | (intro _; rfl) | with_reducible first | rfl | refine Eq.trans (State.feed_foldl (fun s x => ?_) _ _) ?_ | refine Eq.trans (State.feed_modLane _ _ _ ?_) ?_ | refine Eq.trans (State.feed_squashWhere ..) ?_ | refine Eq.trans (State.feed_settleVi ..) ?_ | dsimp only | split
theorem State.feed_cpeFrame (s : State) (l : Lane) (t idx : Nat) (b : Bytes) : (s.cpeFrame l t idx b).feed = s.feed := by
  unfold State.cpeFrame
  repeat' first | with_reducible first | rfl | refine Eq.trans (State.feed_addSatF ..) ?_ | refine Eq.trans (State.feed_setTask ..) ?_ | dsimp only | split
theorem State.feed_trPut (s : State) (l : Lane) (c v : Nat) : (s.trPut l c v).feed = s.feed := by
  unfold State.trPut
  repeat' first | (intro _; rfl) | with_reducible first | rfl | refine Eq.trans (State.feed_onIf fun s => ?_) ?_ | refine Eq.trans (State.feed_modLane _ _ _ ?_) ?_ | refine Eq.trans (State.feed_wr ..) ?_ | refine Eq.trans (State.feed_setF ..) ?_ | refine Eq.trans (State.feed_setB ..) ?_ | dsimp only | split
theorem State.feed_traceStep (s : State) (l : Lane) (L k : Nat) (evs : List Nat) (q : Nat → Nat → Nat) : (s.traceStep l L k evs q).feed = s.feed := by
  unfold State.traceStep
  repeat' first | (intro _; rfl) | with_reducible first | rfl | refine Eq.trans (State.feed_onIf fun s => ?_) ?_ | refine Eq.trans (State.feed_foldl (fun s x => ?_) _ _) ?_ | refine Eq.trans (State.feed_modLane _ _ _ ?_) ?_ | refine Eq.trans (State.feed_trTrigger ..) ?_ | refine Eq.trans (State.feed_trPut ..) ?_ | dsimp only | split
theorem State.feed_optTimer (s : State) (l : Lane) : (s.optTimer l).feed = s.feed := by
  unfold State.optTimer
  repeat' first | with_reducible first | rfl | refine Eq.trans (State.feed_setB ..) ?_ | refine Eq.trans (State.feed_addSat ..) ?_ | refine Eq.trans (State.feed_modOpt ..) ?_ | refine Eq.trans (State.feed_optStart ..) ?_ | dsimp only | split
theorem State.feed_heldCreate (s : State) (l : Lane) : (s.heldCreate l).feed = s.feed := by
  unfold State.heldCreate
  repeat' first | (intro _; rfl) | with_reducible first | rfl | refine Eq.trans (State.feed_modLane _ _ _ ?_) ?_ | dsimp only | split
theorem State.feed_notch (s : State) (l : Lane) (L : Nat) (first : Bool) (x : Int) : (s.notch l L first x).2.feed = s.feed := s.feed_setSlotRt ..
theorem State.feed_slotPv (s : State) (l : Lane) (L k : Nat) : (s.slotPv l L k).2.feed = s.feed := by
  unfold State.slotPv; dsimp only; split <;> rfl
theorem State.feed_slotTgt (s : State) (l : Lane) (L : Nat) : (s.slotTgt l L).2.feed = s.feed := by
  unfold State.slotTgt; split
  · exact State.feed_tgtOf ..
  all_goals rfl
theorem State.feed_terms (s : State) (l : Lane) (L k : Nat) (man : Bool) : (s.terms l L k man).2.feed = s.feed := by
  unfold State.terms; dsimp only
  refine (State.feed_slotTgt ..).trans ?_
  split
  · exact (State.feed_notch ..).trans (State.feed_slotPv ..)
  · exact State.feed_slotPv ..
theorem State.feed_outNotch (s : State) (l : Lane) (L : Nat) (first : Bool) (o : Int) : (s.outNotch l L first o).2.feed = s.feed := by
  unfold State.outNotch; split
  · exact State.feed_notch ..
  · rfl
theorem State.feed_wr64 (s : State) (k v : Nat) : (s.wr64 k v).feed = s.feed := by
  unfold State.wr64
  repeat' first | with_reducible first | rfl | refine Eq.trans (State.feed_wr ..) ?_ | dsimp only | split
theorem State.feed_slotDst (s : State) (l : Lane) (L : Nat) (out : Int) : (s.slotDst l L out).2.feed = s.feed := by
  unfold State.slotDst; dsimp only; split
  · rfl
  · split
    · exact State.feed_putLive ..
    · rfl
  · rfl
theorem State.feed_stepDone (s : State) (l : Lane) (k : Nat) (t : Terms) (i : Int) (rel : Option Int) (sel : Bool) (ug : Int) : (s.stepDone l k t i rel sel ug).feed = s.feed := by
  unfold State.stepDone
  repeat' first | (intro _; rfl) | with_reducible first | rfl | refine Eq.trans (State.feed_onIf fun s => ?_) ?_ | refine Eq.trans (State.feed_modLane _ _ _ ?_) ?_ | refine Eq.trans (State.feed_wr ..) ?_ | refine Eq.trans (State.feed_setB ..) ?_ | refine Eq.trans (State.feed_addSat ..) ?_ | refine Eq.trans (State.feed_addSatF ..) ?_ | refine Eq.trans (State.feed_ownFlush ..) ?_ | refine Eq.trans (State.feed_setSlotRt ..) ?_ | refine Eq.trans (State.feed_traceStep ..) ?_ | refine Eq.trans (State.feed_wr64 ..) ?_ | refine Eq.trans (State.feed_slotDst ..) ?_ | dsimp only | split
theorem State.feed_groupStep (s : State) (l : Lane) (g k : Nat) : (s.groupStep l g k).feed = s.feed := by
  have h : ∀ (b : Nat → Bool) (Ls : List Nat) (a : List Terms × State), (Ls.foldl (fun (a : List Terms × State) L =>
      ((a.1 ++ [(a.2.terms l L k (b L)).1], (a.2.terms l L k (b L)).2) : List Terms × State)) a).2.feed = a.2.feed := by
    intro b Ls
    induction Ls with
    | nil => intro a; rfl
    | cons L Ls ih => intro a; exact (ih _).trans (a.2.feed_terms l L k (b L))
  unfold State.groupStep; dsimp only
  refine Eq.trans (State.feed_foldl (fun s t => State.feed_stepDone ..) _ _) ((State.feed_outNotch ..).trans ((State.feed_wr ..).trans ?_))
  refine Eq.trans (b := State.feed (Prod.snd (List.foldl _ _ _))) ?_ (h (fun L => L == s.fld (R.LPE_GROUP l g) 10 1 && !s.bit (R.LPE_SLOT_MODE l (s.fld (R.LPE_GROUP l g) 10 1)) 0) (s.groupSlots l g) ([], s))
  split <;> split <;> rfl
theorem State.feed_slotStep (s : State) (l : Lane) (L k : Nat) : (s.slotStep l L k).feed = s.feed := by
  unfold State.slotStep
  repeat' first | with_reducible first | rfl | refine Eq.trans (State.feed_terms ..) ?_ | refine Eq.trans (State.feed_outNotch ..) ?_ | refine Eq.trans (State.feed_stepDone ..) ?_ | dsimp only | split

/-! ### What a message leaves -/

theorem State.outer_of_intake {s t : State} (h : t.intake = s.intake) : t.outer = s.outer := by
  simp only [State.intake, Prod.mk.injEq] at h; exact h.2.2.2
theorem State.ing_of_intake {s t : State} (h : t.intake = s.intake) : t.ing = s.ing := by
  simp only [State.intake, Prod.mk.injEq] at h; exact h.1
theorem State.lane_of_intake {s t : State} (h : t.intake = s.intake) (l : Lane) : (t.lane l).intake = (s.lane l).intake := by
  simp only [State.intake, Prod.mk.injEq] at h
  cases l
  · exact h.2.1
  · exact h.2.2.1
theorem State.lane_of_feed {s t : State} (h : t.feed = s.feed) (l : Lane) : (t.lane l).feed = (s.lane l).feed := by
  simp only [State.feed, Prod.mk.injEq] at h
  cases l
  · exact h.2.1
  · exact h.2.2.1
/-- Where the outer parts are as they were, only the parts of the lanes' engines can have changed. -/
theorem only_laneParts {s s1 : State} (h : s1.outer = s.outer) : Only (fun _ => true) laneParts s (s.ended s1) := by
  simp only [State.outer, Prod.mk.injEq] at h
  obtain ⟨h1, h2, h3, h4, h5, h6, h7, h8, h9, h10, h11, h12, h13⟩ := h
  refine only_of_kept (fun _ h => by cases h) (fun p hp => ?_)
  cases p <;> first | assumption | exact absurd (by decide) hp
theorem State.feed_bpRefresh (s : State) : s.bpRefresh.feed = s.feed := by
  unfold State.bpRefresh
  exact (State.feed_crest ..).trans ((State.feed_crest ..).trans ((State.feed_setB ..).trans (State.feed_setB ..)))
/-- The front message of a link, received in order and intact (R198). -/
theorem State.linkTake_front {s : State} {l : Lane} {typ : Nat} {m : IMsg} {q : List IMsg} (f : IMsg → State → State) (g : State → IMsg → State → State)
    (h : s.link l = m :: q) (ht : m.typ = typ) (hf : s.fastClk = true) (hr : s.role l < 3) (hd : (s.lane l).deaf = false) (hs : m.seq = (s.lane l).seq) :
    s.linkTake l typ true f g = g s m ((f m (((s.setLink l q).bpRefresh).modLane l (fun x => { x with seq := idxAdd x.seq 1 }))).laneTail l) := by
  have h1 : ((s.setLink l q).bpRefresh).lane l = s.lane l := by
    unfold State.bpRefresh
    cases l <;> (simp only [State.lane]; unfold State.crest; split_ifs <;> rfl)
  unfold State.linkTake; rw [h]; dsimp only
  rw [if_neg (by simp [ht, hf]; omega), h1, hd, if_neg (by simp), if_neg (by simp [hs])]

end Sys2Proof.Machine
end

