-- ==== Sys2Proof/Laws/Time.lean ====
section
/-! SUPPORT. The time unit's shared operations: a view's offset, and what a change of it leaves. -/
namespace Sys2Proof.Machine

/-- The registers of the time bases and views follow no other state. -/
theorem settleKey_time (k : Nat) (h1 : 0x1800004 ≤ k) (h2 : k < 0x1800800) : settleKey k = false := by
  simp [settleKey, pendKey, R.WDN_STATUS, R.WDN_BREACH, R.WDN_EVENTS, R.WDN_MATE_STATUS, R.RTC_STATUS, R.TMU_STATUS, R.VIR_STATUS,
    R.EVT_STATUS, R.SEP_STATUS, R.CFG_STATUS, R.EVT_LOST, R.EVT_EVENTS, R.ICU_SRC_LEVEL]
  omega
theorem sgnW_unsgnW48 (i : Int) (h1 : -140737488355328 ≤ i) (h2 : i < 140737488355328) : sgnW 48 (unsgnW 48 i) = i := by
  unfold sgnW unsgnW
  rw [BitVec.ofNat_toNat, BitVec.setWidth_eq, BitVec.toInt_ofInt_eq_self (by decide) (by omega) (by omega)]
/-- A view takes exactly the offset it is given, where its registers hold it (R161). -/
theorem State.viewOff_setViewOff (s : State) (v : Nat) (o : Int) (h : offFits o) : (s.setViewOff v o).viewOff v = o := by
  obtain ⟨h1, h2, h3⟩ := h
  have n1 : R.CV_OFF_SEC_LO v ≠ R.CV_OFF_SEC_HI v := by simp only [R.CV_OFF_SEC_LO, R.CV_OFF_SEC_HI]; omega
  have n2 : R.CV_OFF_SEC_HI v ≠ R.CV_OFF_SEC_LO v := n1.symm
  have n3 : R.CV_OFF_SEC_HI v ≠ R.CV_OFF_NS v := by simp only [R.CV_OFF_NS, R.CV_OFF_SEC_HI]; omega
  have n4 : R.CV_OFF_SEC_LO v ≠ R.CV_OFF_NS v := by simp only [R.CV_OFF_NS, R.CV_OFF_SEC_LO]; omega
  unfold State.setViewOff State.viewOff
  simp only [State.fld, State.rd_wr, if_true, if_neg n2, if_neg n3, if_neg n4]
  generalize hf : o / 65536 = f
  have hu : unsgnW 48 (f / 65536 / 1000000000) < 2 ^ 48 := BitVec.isLt _
  have hs := sgnW_unsgnW48 (f / 65536 / 1000000000) (by omega) (by omega)
  generalize unsgnW 48 (f / 65536 / 1000000000) = u at hu hs
  have e1 : bitsOf ((u / 4294967296 + (f % 65536).toNat * 65536) % 4294967296) 15 0 = u / 4294967296 := by unfold bitsOf; omega
  have e2 : bitsOf ((u / 4294967296 + (f % 65536).toNat * 65536) % 4294967296) 31 16 = (f % 65536).toNat := by unfold bitsOf; omega
  have e3 : bitsOf ((f / 65536 % 1000000000).toNat % 4294967296) 29 0 = (f / 65536 % 1000000000).toNat := by unfold bitsOf; omega
  have e4 : u % 4294967296 % 4294967296 + 4294967296 * (u / 4294967296) = u := by omega
  rw [e1, e2, e3, e4, hs]
  omega
theorem State.rd_setViewOff (s : State) (v : Nat) (o : Int) (k : Nat) (h1 : R.CV_OFF_NS v ≠ k) (h2 : R.CV_OFF_SEC_LO v ≠ k)
    (h3 : R.CV_OFF_SEC_HI v ≠ k) : (s.setViewOff v o).rd k = s.rd k := by
  unfold State.setViewOff; rw [State.rd_wr, if_neg h3, State.rd_wr, if_neg h2, State.rd_wr, if_neg h1]

theorem State.rd_tbRun (s : State) (n b k : Nat) (h1 : R.TB_SLEW_COUNT b ≠ k) (h2 : R.TB_HOLD_TIME b ≠ k) : (s.tbRun n b).rd k = s.rd k := by
  unfold State.tbRun; dsimp only
  rw [State.rd_with_tmu, State.rd_addSat, if_neg h2, State.rd_wr, if_neg h1]
theorem State.rd_foldl_lt {f : State → Nat → State} {k m : Nat} (h : ∀ b < m, ∀ s : State, (f s b).rd k = s.rd k) (s : State) :
    ((List.range m).foldl f s).rd k = s.rd k := by
  have x : ∀ (l : List Nat), (∀ b ∈ l, b < m) → ∀ s : State, (l.foldl f s).rd k = s.rd k := by
    intro l; induction l with
    | nil => intro _ s; rfl
    | cons b r ih =>
      intro hl s
      rw [List.foldl_cons, ih (fun b hb => hl b (List.mem_cons_of_mem _ hb)), h b (hl b List.mem_cons_self)]
  exact x _ (fun b hb => List.mem_range.1 hb) s
theorem State.rd_tbEdges (s : State) (n k : Nat) (h : clockKey k = false) : (s.tbEdges n).rd k = s.rd k := by
  unfold State.tbEdges
  rw [State.rd_foldl_lt, State.rd_with_now]
  intro b hb s
  have e1 : clockKey (R.TB_SLEW_COUNT b) = true := by interval_cases b <;> decide
  have e2 : clockKey (R.TB_HOLD_TIME b) = true := by interval_cases b <;> decide
  exact State.rd_tbRun _ _ _ _ (fun e => by rw [e, h] at e1; exact absurd e1 (by simp)) (fun e => by rw [e, h] at e2; exact absurd e2 (by simp))
theorem clockKey_ne {k j : Nat} (h : clockKey k = false) (hj : clockKey j = true) : j ≠ k := by
  rintro rfl; rw [h] at hj; exact Bool.false_ne_true hj
theorem State.rd_onIf (s : State) (c : Bool) (f : State → State) (k : Nat) (h : (f s).rd k = s.rd k) : (s.onIf c f).rd k = s.rd k := by
  cases c
  · rfl
  · exact h
/-- A view's move writes its offset, its count and TMU_EVENTS alone. -/
theorem State.rd_moveView (s : State) (v : Nat) (o : Int) (k : Nat) (h1 : R.CV_OFF_NS v ≠ k) (h2 : R.CV_OFF_SEC_LO v ≠ k)
    (h3 : R.CV_OFF_SEC_HI v ≠ k) (h4 : R.CV_STEPS v ≠ k) (h5 : R.TMU_EVENTS ≠ k) : (s.moveView v o).rd k = s.rd k := by
  unfold State.moveView; dsimp only
  rw [State.rd_onIf, State.rd_setViewOff _ _ _ _ h1 h2 h3]
  rw [State.rd_addWrap, if_neg h4, State.rd_setB, if_neg h5]
theorem State.rd_holdEnter (s : State) (b k : Nat) (h1 : R.TB_STATUS b ≠ k) (h2 : R.TMU_EVENTS ≠ k) : (s.holdEnter b).rd k = s.rd k := by
  unfold State.holdEnter; rw [State.rd_onIf]; rw [State.rd_setB, if_neg h2, State.rd_setB, if_neg h1]
theorem State.rd_edgeApply (s : State) (k : Nat) (h : clockKey k = false) : s.edgeApply.rd k = s.rd k := by
  unfold State.edgeApply; dsimp only
  rw [State.rd_foldl_lt, State.rd_foldl_lt, State.rd_with_tmu]
  · intro v hv s
    have e : clockKey (R.CV_OFF_NS v) = true ∧ clockKey (R.CV_OFF_SEC_LO v) = true ∧ clockKey (R.CV_OFF_SEC_HI v) = true ∧
        clockKey (R.CV_STEPS v) = true := by interval_cases v <;> decide
    unfold State.edgeView; dsimp only
    split
    · rfl
    · have m := fun o => State.rd_moveView s v o k (clockKey_ne h e.1) (clockKey_ne h e.2.1) (clockKey_ne h e.2.2.1) (clockKey_ne h e.2.2.2)
        (clockKey_ne h (by decide))
      rw [State.rd_onIf, m]
      rw [State.rd_setB, if_neg (clockKey_ne h (by decide))]
  · intro b hb s
    have e : clockKey (R.TB_STATUS b) = true := by interval_cases b <;> decide
    unfold State.edgeHold
    exact State.rd_onIf _ _ _ _ (State.rd_holdEnter _ _ _ (clockKey_ne h e) (clockKey_ne h (by decide)))
/-- A port counter above 31 writes itself, its half-range bit and PRT_EVENTS alone. -/
theorem State.rd_portCnt (s : State) (p j n k : Nat) (hj : ¬ j < 32) (h1 : R.PRT_CNT p j ≠ k) (h2 : R.PRT_CNT_HALF_HI p ≠ k) (h3 : R.PRT_EVENTS p ≠ k) :
    (s.portCnt p j n).rd k = s.rd k := by
  unfold State.portCnt; dsimp only
  rw [State.rd_with_net]
  split
  · rw [State.rd_wr, if_neg h1]
  · rw [State.rd_onIf, State.rd_setB, if_neg h2, State.rd_wr, if_neg h1]
    rw [State.rd_setB, if_neg h3]
theorem State.rd_lpiTime (s : State) (n k : Nat) (h : clockKey k = false) : (s.lpiTime n).rd k = s.rd k := by
  have x : ∀ (l : List Nat), (∀ p ∈ l, p < 48) → ∀ s : State, (l.foldl (fun s p =>
      let t := mapGet s.net.lpiNs p 0 + n
      ({ s with net := { s.net with lpiNs := mapPut s.net.lpiNs p (t % 1000) } } : State).portCnt p 49 (t / 1000)) s).rd k = s.rd k := by
    intro l; induction l with
    | nil => intro _ s; rfl
    | cons p r ih =>
      intro hl s
      have hp := hl p List.mem_cons_self
      have e : clockKey (R.PRT_CNT p 49) = true ∧ clockKey (R.PRT_CNT_HALF_HI p) = true ∧ clockKey (R.PRT_EVENTS p) = true := by
        interval_cases p <;> decide
      rw [List.foldl_cons, ih (fun b hb => hl b (List.mem_cons_of_mem _ hb))]
      dsimp only
      rw [State.rd_portCnt _ _ _ _ _ (by decide) (clockKey_ne h e.1) (clockKey_ne h e.2.1) (clockKey_ne h e.2.2), State.rd_with_net]
  unfold State.lpiTime
  exact x _ (fun p hp => List.mem_range.1 (List.mem_filter.1 hp).1) s
theorem State.rd_toksFreeIn (s : State) (l : Lane) (k : Nat) (h : clockKey k = false) : (s.toksFreeIn l).rd k = s.rd k := by
  unfold State.toksFreeIn; dsimp only
  split
  · have e : clockKey (R.SCH_TOK_FREE l) = true ∧ clockKey (R.SCH_TOK_DONE l) = true := by cases l <;> decide
    rw [State.rd_wr, if_neg (clockKey_ne h e.2), State.rd_wr, if_neg (clockKey_ne h e.1)]
    cases l <;> rfl
  · rfl
theorem State.rd_toksFree (s : State) (k : Nat) (h : clockKey k = false) : s.toksFree.rd k = s.rd k := by
  unfold State.toksFree; rw [State.rd_toksFreeIn _ _ _ h, State.rd_toksFreeIn _ _ _ h]
theorem State.rd_foldAge (es : List Nat) (a : Nat) (s : State) (k : Nat) (hb : ∀ e ∈ es, R.SWC_FDB3 e ≠ k) :
    (es.foldl (fun s e => s.addSatF (R.SWC_FDB3 e) 15 0 a) s).rd k = s.rd k := by
  induction es generalizing s with
  | nil => rfl
  | cons e t ih =>
    rw [List.foldl_cons, ih _ (fun x hx => hb x (List.mem_cons_of_mem _ hx))]
    unfold State.addSatF; rw [State.rd_setF, if_neg (hb e List.mem_cons_self)]
/-- The edges of `n` clocks, the first of which takes what waits. -/
theorem State.rd_edges (s : State) (n k : Nat) (h : clockKey k = false) :
    (if n = 0 || s.tmu.edge.isEmpty then s.tbEdges n else (s.tbEdges 1).edgeApply.tbEdges (n - 1)).rd k = s.rd k := by
  split
  · exact s.rd_tbEdges n k h
  · rw [State.rd_tbEdges _ _ _ h, State.rd_edgeApply _ _ h, State.rd_tbEdges _ _ _ h]
/-- The passing of clocks leaves every register that counts none. -/
theorem State.rd_elapse (s : State) (n k : Nat) (h : clockKey k = false) : (s.elapse n).rd k = s.rd k := by
  have t1 : (s.onIf s.fed (fun s => s.opTime n)).rd k = s.rd k := by
    apply State.rd_onIf
    unfold State.opTime State.wr64; dsimp only
    rw [State.rd_wr, if_neg (clockKey_ne h (by decide)), State.rd_wr, if_neg (clockKey_ne h (by decide)), State.rd_with_pwr]
  unfold State.elapse; dsimp only
  split
  · exact t1
  · split
    · rw [State.rd_toksFree _ _ h, State.rd_lpiTime _ _ _ h, State.rd_edges _ _ _ h, t1]
    · rw [State.rd_foldAge, State.rd_toksFree _ _ h, State.rd_lpiTime _ _ _ h, State.rd_edges _ _ _ h, t1]
      intro e he
      rw [List.mem_eraseDups, List.mem_filterMap] at he
      obtain ⟨x, _, hx⟩ := he
      split at hx
      · rename_i c
        obtain ⟨c1, c2, c3, _⟩ := c
        simp only [Option.some.injEq] at hx
        apply clockKey_ne h
        simp only [R.SWC_FDB1, R.SWC_FDB3] at c1 c2 c3 hx ⊢
        have g1 : 0x1480000 ≤ 21495820 + e * 16 := by omega
        have g2 : 21495820 + e * 16 < 0x1500000 := by omega
        unfold clockKey
        rw [decide_eq_true g1, decide_eq_true g2]; simp
      · exact absurd hx (by simp)
theorem State.bit_elapse (s : State) (n k i : Nat) (h : clockKey k = false) : (s.elapse n).bit k i = s.bit k i := by
  unfold State.bit; rw [s.rd_elapse n k h]
theorem State.fld_elapse (s : State) (n k hi lo : Nat) (h : clockKey k = false) : (s.elapse n).fld k hi lo = s.fld k hi lo := by
  unfold State.fld; rw [s.rd_elapse n k h]

/-- What the passing of clocks leaves, beside the registers, the clock and the time unit: operating time stands in the power
state, TX_LPI_TIME in the switch, the tokens in the lanes. -/
theorem State.elapse_keep {γ : Type} (g : State → γ) (hw : ∀ (s : State) (k v : Nat), g (s.wr k v) = g s)
    (hn : ∀ (s : State) (n : Nat), g { s with now := n } = g s) (ht : ∀ (s : State) (x : TimeUnit), g { s with tmu := x } = g s)
    (hp : ∀ (s : State) (x), g { s with pwr := x } = g s) (hx : ∀ (s : State) (x), g { s with net := x } = g s)
    (ha : ∀ (s : State) (x), g { s with laneA := x } = g s) (hb : ∀ (s : State) (x), g { s with laneB := x } = g s)
    (s : State) (n : Nat) : g (s.elapse n) = g s := by
  have on : ∀ (s : State) (c : Bool) (f : State → State), (∀ s, g (f s) = g s) → g (s.onIf c f) = g s :=
    fun s c f h => State.onIf_keep s c f g (h s)
  have sb : ∀ (s : State) (k i : Nat) (b : Bool), g (s.setB k i b) = g s := by
    intro s k i b; unfold State.setB State.setF; rw [hw]
  have tb : ∀ (n : Nat) (s : State), g (s.tbEdges n) = g s := by
    intro n s; unfold State.tbEdges
    rw [foldl_keep _ g, hn]
    intro s b; unfold State.tbRun State.addSat; dsimp only
    rw [ht, hw, hw]
  have mv : ∀ (s : State) (v : Nat) (o : Int), g (s.moveView v o) = g s := by
    intro s v o; unfold State.moveView; dsimp only
    rw [on]
    · unfold State.setViewOff; rw [hw, hw, hw]
    · intro s; unfold State.addWrap; rw [hw, sb]
  have ea : ∀ s : State, g s.edgeApply = g s := by
    intro s; unfold State.edgeApply; dsimp only
    rw [foldl_keep _ g, foldl_keep _ g, ht]
    · intro s v; unfold State.edgeView; dsimp only
      split
      · rfl
      · rw [on, mv]; intro s; rw [sb]
    · intro s b; unfold State.edgeHold; apply on
      intro s; unfold State.holdEnter; apply on
      intro s; rw [sb, sb]
  have lp : ∀ s : State, g (s.lpiTime n) = g s := by
    intro s; unfold State.lpiTime; apply foldl_keep
    intro s p; dsimp only
    unfold State.portCnt; dsimp only
    rw [hx]
    split
    · rw [hw, hx]
    · rw [on, sb, hw, hx]; intro s; rw [sb]
  have tf : ∀ s : State, g s.toksFree = g s := by
    have l1 : ∀ (s : State) (l : Lane), g (s.toksFreeIn l) = g s := by
      intro s l; unfold State.toksFreeIn; dsimp only
      split
      · rw [hw, hw]; cases l
        · exact ha s _
        · exact hb s _
      · rfl
    intro s; unfold State.toksFree; rw [l1, l1]
  have oh : g (s.onIf s.fed (fun s => s.opTime n)) = g s := by
    apply on; intro s; unfold State.opTime State.wr64; dsimp only; rw [hw, hw, hp]
  have ed : ∀ (s : State) (n : Nat), g (if n = 0 || s.tmu.edge.isEmpty then s.tbEdges n else (s.tbEdges 1).edgeApply.tbEdges (n - 1)) = g s := by
    intro s n; split
    · exact tb n s
    · rw [tb, ea, tb]
  unfold State.elapse; dsimp only
  split
  · exact oh
  · split
    · rw [tf, lp, ed, oh]
    · rw [foldl_keep _ g (fun s e => by unfold State.addSatF State.setF; rw [hw]), tf, lp, ed, oh]
@[simp] theorem State.elapse_pending (s : State) (n : Nat) : (s.elapse n).pending = s.pending := s.elapse_keep State.pending (fun _ _ _ => rfl) (fun _ _ => rfl) (fun _ _ => rfl) (fun _ _ => rfl) (fun _ _ => rfl) (fun _ _ => rfl) (fun _ _ => rfl) n
@[simp] theorem State.elapse_paths (s : State) (n : Nat) : (s.elapse n).paths = s.paths := s.elapse_keep State.paths (fun _ _ _ => rfl) (fun _ _ => rfl) (fun _ _ => rfl) (fun _ _ => rfl) (fun _ _ => rfl) (fun _ _ => rfl) (fun _ _ => rfl) n
@[simp] theorem State.elapse_held (s : State) (n : Nat) : (s.elapse n).held = s.held := s.elapse_keep State.held (fun _ _ _ => rfl) (fun _ _ => rfl) (fun _ _ => rfl) (fun _ _ => rfl) (fun _ _ => rfl) (fun _ _ => rfl) (fun _ _ => rfl) n
@[simp] theorem State.elapse_was (s : State) (n : Nat) : (s.elapse n).was = s.was := s.elapse_keep State.was (fun _ _ _ => rfl) (fun _ _ => rfl) (fun _ _ => rfl) (fun _ _ => rfl) (fun _ _ => rfl) (fun _ _ => rfl) (fun _ _ => rfl) n
@[simp] theorem State.elapse_freeCtr (s : State) (n : Nat) : (s.elapse n).freeCtr = s.freeCtr := s.elapse_keep State.freeCtr (fun _ _ _ => rfl) (fun _ _ => rfl) (fun _ _ => rfl) (fun _ _ => rfl) (fun _ _ => rfl) (fun _ _ => rfl) (fun _ _ => rfl) n
@[simp] theorem State.elapse_out (s : State) (n : Nat) : (s.elapse n).out = s.out := s.elapse_keep State.out (fun _ _ _ => rfl) (fun _ _ => rfl) (fun _ _ => rfl) (fun _ _ => rfl) (fun _ _ => rfl) (fun _ _ => rfl) (fun _ _ => rfl) n
@[simp] theorem State.elapse_ldr (s : State) (n : Nat) : (s.elapse n).ldr = s.ldr := s.elapse_keep State.ldr (fun _ _ _ => rfl) (fun _ _ => rfl) (fun _ _ => rfl) (fun _ _ => rfl) (fun _ _ => rfl) (fun _ _ => rfl) (fun _ _ => rfl) n
@[simp] theorem State.elapse_host (s : State) (n : Nat) : (s.elapse n).host = s.host := s.elapse_keep State.host (fun _ _ _ => rfl) (fun _ _ => rfl) (fun _ _ => rfl) (fun _ _ => rfl) (fun _ _ => rfl) (fun _ _ => rfl) (fun _ _ => rfl) n
@[simp] theorem State.elapse_evt (s : State) (n : Nat) : (s.elapse n).evt = s.evt := s.elapse_keep State.evt (fun _ _ _ => rfl) (fun _ _ => rfl) (fun _ _ => rfl) (fun _ _ => rfl) (fun _ _ => rfl) (fun _ _ => rfl) (fun _ _ => rfl) n
@[simp] theorem State.elapse_key (s : State) (n : Nat) : (s.elapse n).key = s.key := s.elapse_keep State.key (fun _ _ _ => rfl) (fun _ _ => rfl) (fun _ _ => rfl) (fun _ _ => rfl) (fun _ _ => rfl) (fun _ _ => rfl) (fun _ _ => rfl) n
@[simp] theorem State.elapse_ing (s : State) (n : Nat) : (s.elapse n).ing = s.ing := s.elapse_keep State.ing (fun _ _ _ => rfl) (fun _ _ => rfl) (fun _ _ => rfl) (fun _ _ => rfl) (fun _ _ => rfl) (fun _ _ => rfl) (fun _ _ => rfl) n
@[simp] theorem State.elapse_slu (s : State) (n : Nat) : (s.elapse n).slu = s.slu := s.elapse_keep State.slu (fun _ _ _ => rfl) (fun _ _ => rfl) (fun _ _ => rfl) (fun _ _ => rfl) (fun _ _ => rfl) (fun _ _ => rfl) (fun _ _ => rfl) n
@[simp] theorem State.elapse_xl (s : State) (n : Nat) : (s.elapse n).xl = s.xl := s.elapse_keep State.xl (fun _ _ _ => rfl) (fun _ _ => rfl) (fun _ _ => rfl) (fun _ _ => rfl) (fun _ _ => rfl) (fun _ _ => rfl) (fun _ _ => rfl) n
@[simp] theorem State.elapse_nrg (s : State) (n : Nat) : (s.elapse n).nrg = s.nrg := s.elapse_keep State.nrg (fun _ _ _ => rfl) (fun _ _ => rfl) (fun _ _ => rfl) (fun _ _ => rfl) (fun _ _ => rfl) (fun _ _ => rfl) (fun _ _ => rfl) n
@[simp] theorem State.elapse_nrgA (s : State) (n : Nat) : (s.elapse n).nrgA = s.nrgA := s.elapse_keep State.nrgA (fun _ _ _ => rfl) (fun _ _ => rfl) (fun _ _ => rfl) (fun _ _ => rfl) (fun _ _ => rfl) (fun _ _ => rfl) (fun _ _ => rfl) n
@[simp] theorem State.elapse_nrgB (s : State) (n : Nat) : (s.elapse n).nrgB = s.nrgB := s.elapse_keep State.nrgB (fun _ _ _ => rfl) (fun _ _ => rfl) (fun _ _ => rfl) (fun _ _ => rfl) (fun _ _ => rfl) (fun _ _ => rfl) (fun _ _ => rfl) n
@[simp] theorem State.elapse_rcd (s : State) (n : Nat) : (s.elapse n).rcd = s.rcd := s.elapse_keep State.rcd (fun _ _ _ => rfl) (fun _ _ => rfl) (fun _ _ => rfl) (fun _ _ => rfl) (fun _ _ => rfl) (fun _ _ => rfl) (fun _ _ => rfl) n
@[simp] theorem State.elapse_recA (s : State) (n : Nat) : (s.elapse n).recA = s.recA := s.elapse_keep State.recA (fun _ _ _ => rfl) (fun _ _ => rfl) (fun _ _ => rfl) (fun _ _ => rfl) (fun _ _ => rfl) (fun _ _ => rfl) (fun _ _ => rfl) n
@[simp] theorem State.elapse_recB (s : State) (n : Nat) : (s.elapse n).recB = s.recB := s.elapse_keep State.recB (fun _ _ _ => rfl) (fun _ _ => rfl) (fun _ _ => rfl) (fun _ _ => rfl) (fun _ _ => rfl) (fun _ _ => rfl) (fun _ _ => rfl) n
@[simp] theorem State.elapse_wdn (s : State) (n : Nat) : (s.elapse n).wdn = s.wdn := s.elapse_keep State.wdn (fun _ _ _ => rfl) (fun _ _ => rfl) (fun _ _ => rfl) (fun _ _ => rfl) (fun _ _ => rfl) (fun _ _ => rfl) (fun _ _ => rfl) n
@[simp] theorem State.elapse_sep (s : State) (n : Nat) : (s.elapse n).sep = s.sep := s.elapse_keep State.sep (fun _ _ _ => rfl) (fun _ _ => rfl) (fun _ _ => rfl) (fun _ _ => rfl) (fun _ _ => rfl) (fun _ _ => rfl) (fun _ _ => rfl) n
@[simp] theorem State.elapse_rtc (s : State) (n : Nat) : (s.elapse n).rtc = s.rtc := s.elapse_keep State.rtc (fun _ _ _ => rfl) (fun _ _ => rfl) (fun _ _ => rfl) (fun _ _ => rfl) (fun _ _ => rfl) (fun _ _ => rfl) (fun _ _ => rfl) n
theorem State.tbEdges_now (s : State) (n : Nat) : (s.tbEdges n).now = s.now + n := by
  unfold State.tbEdges; exact foldl_keep (State.tbRun n) State.now (fun _ _ => rfl) _ _
theorem State.edgeApply_now (s : State) : s.edgeApply.now = s.now := by
  have on : ∀ (s : State) (c : Bool) (f : State → State), (∀ s, (f s).now = s.now) → (s.onIf c f).now = s.now :=
    fun s c f h => State.onIf_keep s c f State.now (h s)
  unfold State.edgeApply; dsimp only
  rw [foldl_keep _ State.now, foldl_keep _ State.now]
  · intro s v; unfold State.edgeView; dsimp only
    split
    · rfl
    · rw [on]
      · unfold State.moveView; dsimp only; rw [on]
        · rfl
        · intro s; rfl
      · intro s; rfl
  · intro s b; unfold State.edgeHold; apply on
    intro s; unfold State.holdEnter; apply on
    intro s; rfl
/-- While the fast clocks run, the free-running counter counts the clocks. -/
theorem State.elapse_now (s : State) (n : Nat) (h : s.lowTide = false) : (s.elapse n).now = s.now + n := by
  have hl : (s.onIf s.fed (fun s => s.opTime n)).lowTide = false := by
    unfold State.onIf; split
    · rw [← h]; unfold State.lowTide State.fld State.opTime State.wr64; dsimp only
      rw [State.rd_wr, if_neg (by decide), State.rd_wr, if_neg (by decide), State.rd_with_pwr]
    · exact h
  have hn : (s.onIf s.fed (fun s => s.opTime n)).now = s.now := by
    apply State.onIf_keep; rfl
  have lp : ∀ s : State, (s.lpiTime n).now = s.now := by
    intro s; unfold State.lpiTime; apply foldl_keep
    intro s p; dsimp only; unfold State.portCnt; dsimp only
    split
    · rfl
    · apply State.onIf_keep; rfl
  have tf : ∀ s : State, s.toksFree.now = s.now := by
    have l1 : ∀ (s : State) (l : Lane), (s.toksFreeIn l).now = s.now := by
      intro s l; unfold State.toksFreeIn; dsimp only; split
      · cases l <;> rfl
      · rfl
    intro s; unfold State.toksFree; rw [l1, l1]
  have ed : ∀ s : State, (if n = 0 || s.tmu.edge.isEmpty then s.tbEdges n else (s.tbEdges 1).edgeApply.tbEdges (n - 1)).now = s.now + n := by
    intro s
    split
    · exact s.tbEdges_now n
    · rename_i c
      have : n ≠ 0 := by rintro rfl; simp at c
      rw [State.tbEdges_now, State.edgeApply_now, State.tbEdges_now]; omega
  unfold State.elapse; dsimp only
  rw [if_neg (by simp [hl])]
  split
  · rw [tf, lp, ed, hn]
  · rw [foldl_keep (fun (s : State) (e : Nat) => s.addSatF (R.SWC_FDB3 e) 15 0 _) State.now (fun _ _ => rfl), tf, lp, ed, hn]

end Sys2Proof.Machine
end

