-- ==== Sys2Proof/WellFormed.lean ====
section
/-! DEFINITION. Which commands the spec's text names: operands whose types are wider than the spec's own ranges. A command that
is not well formed has a meaning all the same; no statement about the module needs one. -/
namespace Sys2Proof

/-- A VF is numbered from 1 (R92). -/
def vfGood (k : Vf) : Bool := k.val != 0
/-- A path through a VF names one. -/
def pathGood : Path → Bool
  | .vf k => k.val != 0
  | _ => true
/-- A CRC-8 is one byte (R60). -/
def crcGood (c : W16) : Bool := decide (c.toNat < 256)
/-- A posted descriptor comes with the bytes of its buffer (Table 04-10). -/
def descGood (d : HostTxDesc) : Bool := d.data.length == d.len.toNat
/-- A beacon carries a fingerprint of 32 bytes (Table 03-8). -/
def beaconGood (b : Beacon) : Bool := b.fp.length == 32
/-- A command within the ranges of the spec. -/
def Instr.wellFormed : Instr → Bool
  | .registerWrite a _ => pathGood a.path
  | .lowWordWrite a _ => pathGood a.path
  | .highWordWrite a _ => pathGood a.path
  | .lowWordRead a => pathGood a.path
  | .rcRead a => pathGood a.path
  | .uartRead _ c => crcGood c
  | .uartWrite _ _ c => crcGood c
  | .uartUnknownCommand c => c != 1#8 && c != 2#8
  | .sliceRecheck bad => bad.all (fun e => decide (e.1 < 32))
  | .mateBeaconRx f => beaconGood f
  | .vfFlr k => vfGood k
  | .dirtySwap f => vfGood f
  | .dirtySwapDone f => vfGood f
  | .txTailWrite _ _ ds => decide (ds.length ≤ 4096) && ds.all descGood
  | .rxTailWrite _ _ bs => decide (bs.length ≤ 4096)
  | .tbIncrWrite p _ _ => pathGood p
  | .pacePeriodWrite p _ => pathGood p
  | _ => true

end Sys2Proof
end

