-- ==== Sys2Proof/Tests/Slice0.lean ====
section
/-! SUPPORT. Tests: for every statement with hypotheses a state and operands that meet them, clause by clause; a term that is
not well formed for each check; a few commands on small states, with values from the spec or from the standards it names. -/
namespace Sys2Proof.Tests
open Sys2Proof Sys2Proof.Machine
set_option Elab.async false

/-- Reset with some registers written. -/
def regd (l : List (Nat × Nat)) : State := l.foldl (fun s e => s.wr e.1 e.2) {}
/-- Running, with some registers written. -/
def live (l : List (Nat × Nat)) : State := regd ((R.PCM_STATUS, 0x12) :: l)
/-- A register after a command. -/
def after (c : Instr) (s : State) (k : Nat) : Option Nat :=
  match exec c s with
  | .next t => some (t.rd k)
  | _ => none
theorem wit_EmptyQueueIsOneClock : State.reset.pending = [] ∧ State.reset.lowTide = false ∧
    (regd [(R.PCM_STATUS, 0x13)]).pending = [] ∧ (regd [(R.PCM_STATUS, 0x13)]).lowTide = true := by decide

theorem wit_StepsKeepSteady : ∃ t, step State.reset = .next t := ⟨_, rfl⟩

theorem wit_SupplyCommands :
    State.reset.pwr.ovMain = false ∧ State.reset.pwr.ovBkp = false ∧
    ({ pwr := { ovMain := true } } : State).pwr.ovMain = true ∧ ({ pwr := { ovBkp := true } } : State).pwr.ovBkp = true ∧
    (regd [(R.PCM_STATUS, 0x52)]).bit R.PCM_STATUS 4 = true ∧ (regd [(R.PCM_STATUS, 0x52)]).bit R.PCM_STATUS 6 = true ∧
    (live []).bit R.PCM_STATUS 4 = true ∧ (live []).bit R.PCM_STATUS 6 = false := by decide

theorem wit_TemperatureAndPowerLoss :
    -- 105 C is 1680 sixteenths (Table 02-15), 115 C is 1840
    sgnW 16 (State.reset.fld R.PCM_OTW_LIMIT 15 0) < (1681#16).toInt ∧ (1680#16).toInt ≤ sgnW 16 (State.reset.fld R.PCM_OTW_LIMIT 15 0) ∧
    1840 ≤ (1840#16).toInt ∧ State.reset.pwr.pgood = true ∧ (1839#16).toInt < 1840 ∧
    (regd [(R.PCM_STATUS, 0)]).fed = false ∧ (regd [(R.PCM_STATUS, 0)]).pwr.pgood = true ∧ State.reset.fed = true := by decide

theorem wit_LowTideAndKeySwitch :
    State.reset.ltRefusal ≠ 0 ∧ (live []).ltRefusal = 0 ∧
    (regd [(R.PCM_STATUS, 0x14)]).power = 4 ∧ (regd [(R.PCM_STATUS, 0x14)]).pwr.ltWaitX = false ∧ (regd [(R.PCM_STATUS, 0x14)]).nrg.run = none ∧
    ({ nrg := { run := some (0, 3, 0) } } : State).power ≠ 4 ∧ ({ nrg := { run := some (0, 3, 0) } } : State).nrg.run.isSome = true ∧
    (regd [(R.PCM_STATUS, 0x13)]).power = 3 ∧ State.reset.power ≠ 3 ∧ State.reset.power ≠ 4 ∧ (regd [(R.PCM_STATUS, 0x15)]).power = 5 ∧ State.reset.power ≠ 5 ∧
    (live []).fld R.PCM_PINS 1 0 ≠ 2 * b2n false + b2n true ∧ (live []).power = 2 ∧
    (regd [(R.PCM_STATUS, 0x13)]).fld R.PCM_PINS 1 0 ≠ 2 * b2n false + b2n true ∧ State.reset.fld R.PCM_PINS 1 0 = 2 * b2n true + b2n true := by decide

/-- Tamper input 1 alerts, input 2 blocks. -/
def tamper : State := { key := { tamperCfg := 0x210 } }
theorem wit_TamperLoops :
    tamper.fed = true ∧ tamperAction tamper.key.tamperCfg 1 = 1 ∧ tamperWake tamper.key.tamperCfg 1 = false ∧ tamper.bit R.KEY_TAMPER_STATUS 1 = false ∧
    2 ≤ tamperAction tamper.key.tamperCfg 2 ∧ tamperWake tamper.key.tamperCfg 2 = false ∧ tamper.bit R.KEY_TAMPER_STATUS 2 = false ∧ tamper.key.op = none ∧
    tamperAction (tamper.wr R.KEY_TAMPER_STATUS 2).key.tamperCfg 1 ≠ 0 ∧ (tamper.wr R.KEY_TAMPER_STATUS 2).bit R.KEY_TAMPER_STATUS 1 = true ∧
    tamperAction tamper.key.tamperCfg 0 = 0 := by decide
/-- An image without a key: the header, a directory of one section, a section of one record. -/
def img : Bytes := wordsBytes (
  [0x524e4c53, 0x30000, 0x4896, 0x20001, 0x13c, 0x1, 0x100, 0x7, 0x0, 0x0, 0xff, 0x0,
   0x9e98386, 0x4dde65a, 0x20488a69, 0x7cbd7a20, 0xabb358b1, 0x6555c166, 0x2de792a2, 0x3d5decae,
   0x75e89e2f, 0x30dea91b, 0x2fcc342a, 0x72f762b8, 0x9db53420, 0x4934551, 0x5f1d0efe, 0xd25c8211] ++ List.replicate 36 0 ++
  [0x10, 0x130, 0xc, 0x0,
   0xe9db2055, 0x5469a7ba, 0x26d9f362, 0x25062b81, 0x26b63104, 0x3c9ef846, 0xbe56b30f, 0xa7d24a09,
   0x10100060, 0x1, 0x0])
/-- The bytes of a bank. -/
def bytesAt (b : Bytes) : List Host.Cell := (b.zipIdx.filter (fun e => e.1 != 255#8)).map (fun e => (e.2, e.1))
/-- Unconfigured or configured, with a command of the loader running. -/
def loader (op : Nat) (l : Loader) : State := { regd [(R.CFG_STATUS, op)] with ldr := l }
/-- A bank record that reads VALID. -/
def validRec : TwoCopy BankRec := { seq0 := 1, val0 := some ⟨true, 7, []⟩ }
def staging : State := loader 4 { running := 4, committed := some .a, opBank := .b, bankB := bytesAt img }

theorem wit_image : (match staging.shadowBase.bankLoad .b with
    | .inr (i, t) => decide (t.fs = staging.fs) && i.root == i.fp && !(t.bit (R.OPT_CFG .a) 0 && !(t.optModel .a).factorOk (t.optModel .a).factorise)
    | .inl _ => false) = true := by decide +kernel
theorem wit_noImage : (match ({ staging with ldr := { staging.ldr with bankB := [] } } : State).shadowBase.bankLoad .b with
    | .inl e => e == (1, 0)
    | .inr _ => false) = true := by decide +kernel
theorem wit_verify : (match staging.readImage .b false with
    | .ok i => i.root == i.fp
    | .err _ _ => false) = true := by decide +kernel

/-- A bank write of one word at offset 8. -/
def writing : State := { regd [(R.CFG_STATUS, 2), (R.CFG_DMA_LEN, 4), (R.CFG_BANK_OFFSET, 8)] with ldr := { running := 2 } }
theorem wit_BankCommands :
    (loader 9 {}).bankBusy = false ∧ (loader 7 {}).bankBusy = true ∧ (loader 1 { running := 1 }).ldr.running = 1 ∧
    (regd [(R.CFG_STATUS, 9), (R.CFG_DMA_LEN, 4)]).bankBusy = false ∧ (regd [(R.CFG_STATUS, 9), (R.CFG_DMA_LEN, 4)]).writeGood = true ∧
    (loader 9 {}).writeGood = false ∧
    writing.ldr.running = 2 ∧ (writing.dmaRead 0 (writing.rd64 R.CFG_DMA_ADDR_LO) (writing.rd R.CFG_DMA_LEN)).1 = true ∧
    writing.rd R.CFG_DMA_LEN ≤ [1#8, 2#8, 3#8, 4#8].length ∧ ([] : Bytes).length < writing.rd R.CFG_DMA_LEN ∧
    (loader 9 {}).jobBusy = false ∧ (loader 3 { running := 3 }).ldr.running = 3 := by decide

theorem wit_ExchangeCommands :
    (loader 0 { committed := some .a, recB := validRec }).jobBusy = false ∧
    (loader 0 { committed := some .a, recB := validRec }).ldr.committed.isSome = true ∧
    (loader 0 { committed := some .a, recB := validRec }).bankValid (otherBank (loader 0 { committed := some .a, recB := validRec }).activeBank) = true ∧
    staging.ldr.running = 4 ∧ staging.ldr.committed.isSome = true ∧ staging.ldr.staged = none ∧
    ({ regd [(R.CFG_STATUS, 5), (R.WDN_STATUS, 16)] with ldr := { staged := some ⟨1, 255, [], []⟩ } } : State).jobBusy = false ∧
    ({ regd [(R.CFG_STATUS, 5), (R.WDN_STATUS, 16)] with ldr := { staged := some ⟨1, 255, [], []⟩ } } : State).ldr.staged.isSome = true ∧
    (regd [(R.WDN_STATUS, 16)]).bit R.WDN_STATUS 4 = true ∧ (loader 5 { staged := some ⟨1, 255, [], []⟩ }).bit R.WDN_STATUS 4 = false ∧
    (loader 5 { running := 5 }).ldr.running = 5 ∧ (loader 3 { running := 3 }).jobBusy = true ∧ (loader 3 { running := 3 }).ldr.xchg = none ∧
    (loader 6 {}).cfgOp = 6 ∧ (loader 0 {}).cfgOp ≠ 6 ∧ (loader 0 {}).ldr.running = 0 ∧ (loader 8 {}).cfgOp = 8 := by decide

def mateSame : State := { loader 0 {} with regs := (regd [(R.CFG_CTRL, 2)]).regs }
theorem wit_RecheckBeaconAndTags :
    ({ ldr := { image := some ⟨1, 255, [], []⟩, rwlLocked := true } } : State).ldr.rwlLocked = true ∧
    mateSame.bit R.CFG_CTRL 1 = true ∧ mateSame.ldr.xchg = none ∧ (0#8).toNat.testBit 1 = false ∧ mateSame.ldr.mateSusp = 0 ∧
    digestWords (List.replicate 32 0#8) = mateSame.rds (R.CFG_FINGERPRINT 0) 8 ∧
    (regd [(R.CFG_MATE_STATUS, 1)]).bit R.CFG_MATE_STATUS 0 = true ∧ (regd [(R.CFG_BEACON_CFG, 0)]).bit R.CFG_BEACON_CFG 0 = false ∧
    (regd [(R.CFG_BEACON_CFG, 1)]).bit R.CFG_BEACON_CFG 0 = true ∧ State.reset.ldr.tagStore = none ∧ State.reset.bit R.IDN_TAG_CTRL 0 = false ∧
    (loader 0 { tagStore := some (63, 5) }).ldr.tagStore = some (63, 5) ∧ (loader 0 { tagStore := some (63, 5) }).ldr.tagWait = [] := by decide

theorem wit_StartsWithoutImage :
    ({ pwr := { pgood := false } } : State).fed = true ∧ State.reset.bankValid .a = false ∧ State.reset.bankValid .b = false ∧
    ({ pwr := { pgood := false, tripMark := true } } : State).fed = true ∧ State.reset.pwr.pgood = true ∧ (loader 0 {}).cfgBusy = false ∧
    (loader 7 {}).cfgBusy = true ∧ (loader 7 { image := some ⟨1, 255, [], []⟩ }).ldr.image.isSome = true ∧
    (loader 7 { image := some ⟨1, 255, [], []⟩ }).cfgOp = 7 := by decide
/-- A whole-word access of PF0 to a block. -/
def pf0 (k : Nat) (same : Option Word) : Access := { path := .pf0, bar := .bar0, off := BitVec.ofNat 32 k, be := 15#4, same := same }
/-- VI 0 is host-bound. -/
def hostVi : State := live [(R.VIR_VI 0, 5), (R.VI_TX_CTRL 0, 0), (R.VIR_CTRL, 1)]

theorem wit_SoftwareAccess :
    State.reset.fed = true ∧ wholeWord (pf0 R.PCM_OTW_LIMIT none) = true ∧ State.reset.keyOf (pf0 R.PCM_OTW_LIMIT none) = some R.PCM_OTW_LIMIT ∧
    pathWrites .pf0 R.PCM_OTW_LIMIT = true ∧ plainKey R.PCM_OTW_LIMIT = true ∧
    wholeWord { pf0 0x100060 none with be := 7#4 } = false ∧ State.reset.keyOf (pf0 0xFFFFFFFC none) = none ∧
    State.reset.keyOf (pf0 R.CFG_DMA_ADDR_LO none) = some R.CFG_DMA_ADDR_LO ∧ isHeldLow R.CFG_DMA_ADDR_LO = true ∧
    R.CFG_DMA_ADDR_LO < 0x8000000 ∧ R.CFG_DMA_ADDR_LO ≠ R.RTC_SET_SEC_LO ∧
    hostVi.keyOf { pf0 0x100 none with bar := .bar2 } = some 0x8000100 ∧ isHeldLow 0x8000100 = true ∧ hostVi.viExists 0 = true ∧ hostVi.hostBound 0 = true ∧
    ({ held := [⟨.pf0, R.CFG_DMA_ADDR_LO, 5⟩] } : State).heldGet .pf0 R.CFG_DMA_ADDR_LO = some 5 ∧
    State.reset.keyOf (pf0 R.CFG_DMA_ADDR_HI none) = some R.CFG_DMA_ADDR_HI ∧
    State.reset.keyOf (pf0 R.PCM_WAKE_CAUSE none) = some R.PCM_WAKE_CAUSE ∧ plainKey R.PCM_WAKE_CAUSE = true ∧ State.reset.crestNow R.PCM_WAKE_CAUSE = none ∧
    (rowAt R.PCM_WAKE_CAUSE).any (fun r => r.flds.all (fun f => f.acc == .rc)) = true := by decide +kernel

theorem wit_ManagementAccess :
    -- PECs and CRCs of the spec's polynomial over OTW_LIMIT's offset and the value 5
    crc8 (0xA4#8 :: mgmtBytes 0x100060 ++ mgmtBytes 5) = 0xB8 ∧ crc8 (0xA4#8 :: mgmtBytes 0x100060) = 0x7E ∧
    crc8 ([0xA5#8, 2#8] ++ mgmtBytes 0x100060 ++ mgmtBytes 5) = 0xF0 ∧ crc8 ([0xA5#8, 1#8] ++ mgmtBytes 0x100060) = 0x3A ∧
    crc8 (0xA4#8 :: mgmtBytes 0x1000000) = 0x7B ∧ mgmtWrites 0x100060 = true ∧ plainKey 0x100060 = true ∧ R.PCM_OTW_LIMIT = 0x100060 ∧
    mgmtReads 0x1000000 = false ∧ State.reset.fed = true ∧ (7#8 : Byte) ≠ 1#8 ∧ (7#8 : Byte) ≠ 2#8 ∧
    ({ host := { perst := true } } : State).fed = true ∧ ({ host := { perst := true } } : State).host.perst = true := by decide +kernel

/-- VIs 0 and 1 of TYPE 1; VI 0 is presented by VF 1. -/
def vis : State := { regd [(R.VIR_VI 0, 0x10001), (R.VIR_VI 1, 1)] with host := { vfEnable := true, numVfs := 1 } }
theorem wit_ResetRequests :
    vis.viExists 0 = true ∧ vis.host.rstQ.contains (.vi 0) = false ∧ vis.host.rstQ.contains (.polder (vis.viPolder 0)) = false ∧ vis.host.rstQ.length < 64 ∧
    vis.viExists 2 = false ∧ ({ vis with host := { rstQ := [.vi 0] } } : State).viExists 0 = true ∧
    ({ vis with host := { rstQ := [.vi 0] } } : State).host.rstQ.contains (.vi 0) = true ∧ ({ vis with host := { rstQ := [.vi 0] } } : State).host.flrRetry = [] ∧
    vis.host.rstQ.contains (.polder 63) = false ∧ 64 ≤ (64 : Fin 4096).val ∧
    ({ vis with host := { rstRun := [.vi 0] } } : State).host.rstQ.contains (.vi 0) = false ∧
    ({ vis with host := { rstRun := [.vi 0] } } : State).host.rstRun.contains (.vi 0) = true ∧ ({ vis with host := { rstRun := [.vi 0] } } : State).viResetting 0 = true ∧
    vis.viOfVf (1 : Vf) = some 0 ∧ vis.vfExists (1 : Vf) = true := by decide +kernel

/-- MSI-X enabled in PF0; vector 3 of VI 0, without a VF, is pending. -/
def vecs : State := { regd [(R.VIR_VI 0, 1), (R.VI_VEC_CFG 0 3 + 12, 0x201), (vecMsix (.vi 0 3) + 12, 0)] with
  host := { msixEn := [0], coal := [.vi 0 3], lastPick := [(lastSent 0, 1027)] } }
theorem wit_VectorsAndBudgets :
    vecs.vecLive (.vi 0 3) = true ∧ vecs.vecLive (.vi 0 2) = true ∧ vecs.fld (R.VI_VEC_CFG 0 3) 15 8 = 0 ∧ vecs.fld (R.VI_VEC_CFG 0 3) 31 16 = 0 ∧
    State.reset.vecLive (.vi 0 3) = false ∧ vecs.host.coal.contains (.vi 0 3) = true ∧ vecs.fld (R.VI_VEC_CFG 0 3 + 12) 15 8 ≠ 0 ∧
    (vecs.vecsHeld.filter (fun w => vecs.vecFn w == (0 : Vf).val && vecs.vecEligible w)).eraseDups = [.vi 0 3] ∧ (vecs.irqTake (.vi 0 3)).1 = true ∧
    vecs.host.lastPick.lookup (lastSent 0) = some 1027 := by decide +kernel

/-- VI 0 is host-bound, its rings work. -/
def ring (r : Rings) (n : Net) : State :=
  { live [(R.VIR_VI 0, 5), (R.VIR_CTRL, 1), (R.VI_TX_CTRL 0, 1), (R.VI_RX_CTRL 0, 0x101), (R.VI_RX_SIZE 0, 8)] with host := { rings := [(0, r)] }, net := n }
def sentFrame : TxFrame := { pos := [0], tsReq := false, gen := 0, frame := none, status := 0, ts := none }
def rxCopy : Copy := { fid := 1, x := 49, cls := 7, ct := false, charge := 1, bytes := List.replicate 64 0#8, stomp := false, vi := some (0, 0), held := 0 }
def waitsRx : State := ring { rxPosted := [(0, 4096)] } { copies := [rxCopy] }
theorem wit_RingsAndDirtyLogging :
    hostVi.hostBound 0 = true ∧ hostVi.viFn 0 = 0 ∧ hostVi.bit R.VIR_CTRL 0 = true ∧ hostVi.bit (R.VI_TX_CTRL 0) 0 = false ∧
    (∃ d : TxDesc, ((ring { txCur := [(0, d)] } {}).ringOf 0).txCur = [(0, d)] ∧ d.eop = true ∧ d.ok = true ∧ d.data.length ≤ 9212 ∧
      (ring { txCur := [(0, d)] } {}).viFn 0 = 0 ∧ (ring { txCur := [(0, d)] } {}).bit R.VIR_CTRL 0 = true ∧
      ((ring { txCur := [(0, d)] } {}).ringOf 0).txPosted = []) ∧
    ((ring { txWb := [sentFrame] } {}).ringOf 0).txWb = [sentFrame] ∧ (ring { txWb := [sentFrame] } {}).txReady sentFrame = true ∧
    sentFrame.gen = (ring { txWb := [sentFrame] } {}).viGen 0 ∧ (ring {} {}).hostBound 0 = true ∧ (ring {} {}).bit (R.VI_TX_CTRL 0) 0 = true ∧
    ((ring {} {}).ringOf 0).txCur = [] ∧ ((ring {} {}).ringOf 0).txWb = [] ∧ ((ring { txAborting := true } {}).ringOf 0).txAborting = true ∧
    ((ring {} {}).ringOf 0).rxCur = none ∧
    waitsRx.hostBound 0 = true ∧ waitsRx.bit (R.VI_RX_CTRL 0) 0 = true ∧ (waitsRx.ringOf 0).rxPosted = [(0, 4096)] ∧ (waitsRx.ringOf 0).rxCur = none ∧
    (noFcs rxCopy.bytes).length ≤ waitsRx.rxBuf 0 ∧
    (∃ p, ((ring { rxCur := some p } {}).ringOf 0).rxCur = some p) ∧ (1 : Vf).val ≠ 0 := by
  refine ⟨by decide, by decide, by decide, by decide, ⟨⟨4096, 64, true, false, 0, List.replicate 64 0#8, true⟩, by decide⟩, by decide, by decide, by decide, by decide,
    by decide, by decide, by decide, by decide, by decide, by decide, by decide, by decide, by decide, by decide,
    ⟨⟨[], 0, 0, true, 1, (0, 0, 0)⟩, by decide⟩, by decide⟩
theorem wit_rxNext : waitsRx.rxNext 0 = (some rxCopy, waitsRx) := by decide +kernel
/-- A MAC control frame of 64 bytes, with the frame check sequence of IEEE 802.3. -/
def macFrame (fcs : Nat) : RxFrame := { bytes := List.replicate 12 0#8 ++ [0x88#8, 0x08#8] ++ List.replicate 46 0#8 ++ leBytes 4 fcs, codeErr := false }
/-- Port 0 is up. -/
def up (l : List (Nat × Nat)) (n : Net) : State := { live ((R.PRT_STATUS 0, 1) :: l) with net := n }
def frm : Sys2Proof.Machine.Frm := { id := 1, bytes := List.replicate 64 0#8, len := 64, src := 1, cls := 0, vid := 0, time := 0, ts := (0, 0, 0), raw := 0, cells := 1, ref := 1, vi := none }
def copy (ct : Bool) : Copy := { fid := 1, x := 0, cls := 0, ct := ct, charge := 1, bytes := frm.bytes, stomp := false, vi := none, held := 0 }
def woken : State := up [] { frames := [frm], copies := [copy false], waking := [(0, some 1)] }

theorem wit_PortsAndLinks :
    (live [(R.PRT_MODE 0, 1)]).portMode 0 ≠ 0 ∧ (live [(R.PRT_MODE 0, 1)]).portUp 0 = false ∧ (live [(R.PRT_MODE 0, 1)]).active = true ∧
    (up [] {}).portUp 0 = true ∧ (up [] {}).portListens 0 = true ∧ fcsOk (macFrame 0x16c2b891).bytes = true ∧ (macFrame 0).codeErr = false ∧
    (macFrame 0).bytes.length = 64 ∧ 64 ≤ (up [] {}).maxLen 0 ∧ frEt (macFrame 0).bytes = 0x8808 ∧ (up [(R.PRT_CTRL 0, 2)] {}).portUp 0 = true ∧
    (up [(R.PRT_CTRL 0, 2)] {}).fld (R.PRT_CTRL 0) 1 0 = 2 ∧ (49 : Xport).val ≠ 50 ∧ 48 ≤ (48 : Xport).val ∧ State.reset.portUp 0 = false ∧
    (up [(R.PRT_CTRL 0, 1)] {}).fld (R.PRT_CTRL 0) 1 0 = 1 ∧ State.reset.active = false ∧ fcsOk (macFrame 0).bytes = false ∧
    (up [(R.PRT_MODE 0, 1), (R.PRT_EEE_CTRL 0, 1), (R.PRT_EEE_TW 0, 16)] {}).lpiMay 0 = true ∧
    (up [] { waking := [(0, none)] }).net.waking.any (fun w => w.1 == (0 : Port).val) = true ∧
    (∀ c, c < 8 → (up [] { waking := [(0, none)] }).queue 0 c = []) ∧
    woken.net.waking.find? (fun w => w.1 == (0 : Port).val) = some (0, some 1) ∧
    ({ woken with net := { woken.net with waking := [] } } : State).cleanPort 0 = { woken with net := { woken.net with waking := [] } } ∧
    ({ woken with net := { woken.net with waking := [] } } : State).canSend 0 = true ∧
    woken.net.copies.find? (fun c => c.x == (0 : Port).val && some c.fid == some 1) = some (copy false) ∧ woken.frameOf 1 = some frm := by decide +kernel

/-- The copy that the scheduler of port 0 picks, with its frame. -/
def picks (s : State) (c : Copy) : Bool :=
  match (s.cleanPort 0).pick 0 (fun k => ((s.cleanPort 0).queue 0 k).head?) with
  | (some q, t) => q == c && ((t.takeCopy c).frameOf c.fid).isSome
  | _ => false
theorem wit_Transmission :
    (up [] { frames := [frm], copies := [copy true] }).canSend 0 = true ∧ (up [] { frames := [frm], copies := [copy true] }).wdn.ioFault = false ∧
    picks (up [] { frames := [frm], copies := [copy true] }) (copy true) = true ∧ picks (up [] { frames := [frm], copies := [copy false] }) (copy false) = true ∧
    ((up [] { frames := [frm], copies := [copy true] }).cleanPort 0).fld (R.SWC_P_CREDITS 0) 5 0 ≠ 0 ∧ (copy true).x = 0 ∧ State.reset.canSend 0 = false ∧
    (up [] { tx := [(48, { copy false with x := 48, vi := some (0, 0) })] }).net.tx.lookup 48 = some { copy false with x := 48, vi := some (0, 0) } ∧
    (up [] {}).viGen 0 = 0 ∧ (up [] { tx := [(0, copy true)] }).net.tx.lookup 0 = some (copy true) ∧ (up [] {}).fld (R.PRT_CTRL 0) 1 0 ≠ 1 ∧
    (copy true).stomp = false ∧ (copy true).ct = true := by decide +kernel

theorem wit_SnapshotsAndBuses :
    State.reset.bit R.PRT_MDIO_STATUS 16 = false ∧ (regd [(R.PRT_MDIO_STATUS, 0x10000)]).bit R.PRT_MDIO_STATUS 16 = true ∧
    ({ net := { mdioOp := some 2 } } : State).net.mdioOp = some 2 ∧ State.reset.bit R.PRT_CAGE_STATUS 8 = false ∧
    ({ net := { cageOp := some 0x80 } } : State).net.cageOp = some 0x80 := by decide +kernel

def dup : DupEntry := { set := 0, src := 5, seq := 6, arrived := [1], sent := [2], made := 0 }
def oldCopy : State := { regd [(R.SWC_AGE_LIMIT 0, 16)] with now := 17000, net := { frames := [frm], copies := [copy false] } }
theorem wit_SwitchCore :
    (regd [(R.SWC_FDB1 32767, 0x10000000)]).bit (R.SWC_FDB1 32767) 28 = true ∧ (regd [(R.SWC_FDB1 32767, 0x10000000)]).bit (R.SWC_FDB1 32767) 29 = false ∧
    (regd [(R.SWC_FDB1 32767, 0x10000000)]).bit (R.SWC_FDB1 32767) 30 = false ∧ (regd [(R.SWC_FDB_AGE, 300)]).fld R.SWC_FDB_AGE 15 0 ≠ 0 ∧
    (regd [(R.SWC_FDB_AGE, 0)]).fld R.SWC_FDB_AGE 15 0 = 0 ∧ oldCopy.net.copies = [copy false] ∧ oldCopy.tooOld (copy false) = true ∧
    ({ net := { dups := [dup] } } : State).dupFind 0 5 6 = some dup ∧ State.reset.dupFind 0 5 6 = none ∧
    (regd [(R.SWC_RED_CFG 0, 0x20101)]).redMode 0 ≠ 0 ∧ (regd [(R.SWC_RED_TIMES 0, 0x20000)]).fld (R.SWC_RED_TIMES 0) 31 16 ≠ 0 ∧
    ({ net := { tc := [⟨3, 7, [], 0⟩] } } : State).net.tc.find? (fun t => t.port == (3 : Port).val && t.seqId == (7#16).toNat) = some ⟨3, 7, [], 0⟩ := by decide +kernel
def timed (l : List (Nat × Nat)) (t : TimeUnit) : State := { live l with tmu := t }
theorem wit_TimeBaseCommands :
    (live [(R.TB_STATUS 0, 2), (R.TB_SLEW_COUNT 0, 5)]).bit (R.TB_STATUS 0) 1 = true ∧ (live []).lowTide = false ∧
    (0 : Tb).val < (live []).tmu.acc.length ∧ (3 : Tb).val < (live []).tmu.acc.length ∧
    (regd [(R.TB_HOLD_CFG 0, 10), (R.TB_STATUS 0, 0)]).fld (R.TB_HOLD_CFG 0) 15 0 ≠ 0 ∧ (regd [(R.TB_HOLD_CFG 0, 10), (R.TB_STATUS 0, 0)]).bit (R.TB_STATUS 0) 0 = false ∧
    (timed [] { edge := [.hold 1] }).pending = [] ∧ .hold (1 : Tb).val ∈ (timed [] { edge := [.hold 1] }).tmu.edge ∧
    .incr (1 : Tb).val ∉ (timed [] { edge := [.hold 1] }).tmu.edge ∧ .incr (1 : Tb).val ∈ (timed [] { edge := [.hold 1, .incr 1] }).tmu.edge := by decide +kernel

theorem wit_ViewOffsetCommands :
    State.reset.fld R.TMU_SET_CFG 1 0 = 0 ∧ offFits (0 + 65536) ∧ offFits (-140737488355328 * 1000000000 * 4294967296) ∧
    (timed [] { edge := [.off 7 0, .step 7 65536] }).tmu.edge = [.off (7 : Cv).val 0, .step (7 : Cv).val 65536] ∧
    (timed [] { edge := [.step 7 65536, .off 7 0] }).lowTide = false ∧ (timed [] { edge := [.set 0 0] }).tmu.edge = [.set (0 : Cv).val 0] ∧
    offFits (((0 : Nat) - (nth (timed [] { edge := [.set 0 0] }).tmu.acc ((timed [] { edge := [.set 0 0] }).fld (R.CV_BIND 0) 1 0) 0 / 65536 : Nat)) * 65536) ∧
    (timed [] { edge := [.step 7 65536] }).viewOff 7 = 0 ∧
    (regd [(R.TMU_SET_CFG, 1)]).fld R.TMU_SET_CFG 1 0 = 1 ∧ (regd [(R.TMU_SET_CFG, 0x12)]).fld R.TMU_SET_CFG 1 0 = 2 ∧
    (regd [(R.TMU_SET_CFG, 0x12)]).fld R.TMU_SET_CFG 6 4 ≠ (0 : Cv) ∧ (timed [] { armed := some 3 }).tmu.armed.isSome = true ∧
    (timed [] { setJustDone := true }).tmu.armed = none ∧ (timed [] { setJustDone := true }).tmu.setJustDone = true ∧
    (regd [(R.CV_CTRL 0, 0x10001), (R.CV_BIND 0, 0x10), (R.TB_HOLD_TIME 0, 1)]).fld (R.CV_CTRL 0) 31 16 ≠ 0 ∧
    (regd [(R.CV_CTRL 0, 0x10001), (R.CV_BIND 0, 0x10), (R.TB_HOLD_TIME 0, 1)]).bit (R.CV_BIND 0) 4 = true ∧
    (regd [(R.CV_CTRL 0, 0x10001), (R.CV_BIND 0, 0x10), (R.TB_HOLD_TIME 0, 1)]).bit (R.CV_CTRL 0) 0 = true ∧
    (regd [(R.CV_CTRL 0, 0x10001), (R.CV_BIND 0, 0x10), (R.TB_HOLD_TIME 0, 1)]).rd (R.TB_HOLD_TIME ((regd [(R.CV_CTRL 0, 0x10001), (R.CV_BIND 0, 0x10), (R.TB_HOLD_TIME 0, 1)]).fld (R.CV_BIND 0) 1 0)) ≤
      (regd [(R.CV_CTRL 0, 0x10001), (R.CV_BIND 0, 0x10), (R.TB_HOLD_TIME 0, 1)]).fld (R.CV_CTRL 0) 31 16 := by
  unfold offFits; decide +kernel

/-- View 0 is enabled and pulses PPS_OUT. -/
def pps : State := live [(R.CV_BIND 0, 0x10), (R.TMU_PPS_OUT_CFG, 1), (R.TMU_PPS_IN_CFG, 1), (R.TMU_CLK_CFG, 1)]
theorem wit_PpsAndReferenceCommands :
    pps.bit R.TMU_PPS_IN_CFG 0 = true ∧ pps.tmu.armed = none ∧ (regd [(R.TMU_PPS_IN_CFG, 0)]).bit R.TMU_PPS_IN_CFG 0 = false ∧
    pps.bit (R.CV_BIND 0) 4 = true ∧ pps.lowTide = false ∧ pps.active = true ∧ pps.tmu.edge = [] ∧ (pps.edgesToSecond 0).isSome = true ∧
    pps.bit R.TMU_PPS_OUT_CFG 0 = true ∧ pps.fld R.TMU_PPS_OUT_CFG 3 1 = (0 : Cv) ∧ pps.bit R.TMU_PPS_OUT_CFG 4 = false ∧ pps.tmu.ppsRuns = [] ∧
    ({ pwr := { ppsOut := true } } : State).pwr.ppsOut = true ∧ pps.bit R.TMU_CLK_CFG 0 = true ∧ (regd [(R.TMU_CLK_CFG, 0)]).bit R.TMU_CLK_CFG 0 = false := by decide +kernel

theorem wit_BoundaryAndPacer :
    (live []).power = 2 ∧ (live []).host.rstQ = [] ∧ (live []).ldr.xchg = none ∧ State.reset.power ≠ 2 ∧ State.reset.power ≠ 4 ∧
    State.reset.linkHeld .b = false ∧ (regd [(R.ING_STATUS, 4)]).linkHeld .b = true := by decide +kernel

/-- An SV frame of APPID 0x4000 with one ASDU: svID "A", smpCnt 1, confRev 1, smpSynch 2, one channel (IEC 61850-9-2). -/
def svBytes : Bytes := (List.replicate 12 0 ++ [0x88, 0xBA, 0x40, 0, 0, 43, 0, 0, 0, 0, 0x60, 33, 0x80, 1, 1, 0xA2, 28, 0x30, 26,
  0x80, 1, 65, 0x82, 2, 0, 1, 0x83, 4, 0, 0, 0, 1, 0x85, 1, 2, 0x87, 8, 0, 0, 0, 7, 0, 0, 0, 0]).map (BitVec.ofNat 8)
def svAsdu1 : Asdu := { svid := [65#8], cnt := 1, confRev := 1, synch := 2, data := [0#8, 0#8, 0#8, 7#8, 0#8, 0#8, 0#8, 0#8] }
/-- Ingest works; stream 0 takes that frame. -/
def streams (l : List (Nat × Nat)) (i : Ingest) : State :=
  { live ([(R.ING_STATUS, 1), (R.ING_SV0 0, 0x82044000), (R.ING_SV1 0, 0x2c266174), (R.ING_SV2 0, 1), (R.ING_SV3 0, 1)] ++ l) with ing := i }
/-- A GOOSE frame of APPID 3: gocbRef "G", timeAllowedtoLive 1000, stNum 1, sqNum 0, one Boolean (IEC 61850-8-1). -/
def goBytes : Bytes := (List.replicate 12 0 ++ [0x88, 0xB8, 0, 3, 0, 53, 0, 0, 0, 0, 0x61, 43, 0x80, 1, 71, 0x81, 2, 3, 0xE8, 0x82, 1, 68,
  0x84, 8, 0, 0, 0, 0, 0, 0, 0, 0, 0x85, 1, 1, 0x86, 1, 0, 0x87, 1, 0, 0x88, 1, 1, 0x89, 1, 0, 0x8A, 1, 1, 0xAB, 3, 0x83, 1, 1]).map (BitVec.ofNat 8)
def go1 : Goose := { appid := 3, sim := false, ref := [71#8], tal := 1000, st := 1, sq := 0, test := false, confRev := 1, nds := false, data := [0x83#8, 1#8, 1#8] }
def gooses : State := live [(R.ING_STATUS, 1), (R.ING_GO0 4095, 0x80000003), (R.ING_GO1 4095, 0xc545c441), (R.ING_GO2 4095, 1), (R.ING_GO3 4095, 1)]
def otherFrame : InFrame := { bytes := List.replicate 60 0#8, vi := 0, gen := 1, time := 0, path := 0 }
theorem wit_StreamsAndGoose :
    (streams [] {}).ingLive = true ∧ (streams [] {}).ing.svOld = [] ∧ decodeSv svBytes = some (0x4000, false, [svAsdu1]) ∧
    (streams [] {}).svMatch 0x4000 svAsdu1.svid = some 0 ∧ (streams [] {}).bit (R.ING_SV0 0) 27 = false ∧ svAsdu1.confRev = (streams [] {}).rd (R.ING_SV3 0) ∧
    svAsdu1.data.length = 8 * (streams [] {}).svNch 0 ∧ false = (streams [] {}).bit (R.ING_SV0 0) 26 ∧ (streams [] {}).bit (R.ING_SV0 0) 25 = true ∧
    (streams [] {}).fld (R.PLD_INGEST ((streams [] {}).viPolder ((streams [] {}).svOwner 0))) 15 0 = 0 ∧ (streams [] {}).svState 0 = 0 ∧
    decodeSv [] = none ∧ (streams [] {}).bit R.ING_STATUS 0 = true ∧ (streams [] {}).lowTide = false ∧ (streams [] {}).ing.dead = none ∧
    idxLater 0 ((streams [] {}).rd R.ING_INDEX) = false ∧ (streams [(R.ING_SV_STAT0 0, 2)] { sv := [(0, { nomiss := 64 })] }).svState 0 = 2 ∧
    64 ≤ ((streams [(R.ING_SV_STAT0 0, 2)] { sv := [(0, { nomiss := 64 })] }).svRt 0).nomiss ∧
    gooses.ingLive = true ∧ decodeGoose goBytes = some go1 ∧
    (gooses.listed R.ING_GO0 4096).find? (fun g => gooses.bit (R.ING_GO0 g) 31 && gooses.fld (R.ING_GO0 g) 15 0 == go1.appid &&
      gooses.fld (R.ING_GO2 g) 7 0 == go1.ref.length && gooses.rd (R.ING_GO1 g) == crc32Raw go1.ref) = some 4095 ∧
    go1.confRev = gooses.rd (R.ING_GO3 4095) ∧ go1.sim = gooses.bit (R.ING_GO0 4095) 17 ∧ gooses.bit (R.ING_GO0 4095) 18 = false ∧ (gooses.goRt 4095).seen = false ∧
    (regd [(R.ING_GO_STAT0 4095, 1)]).bit (R.ING_GO_STAT0 4095) 0 = true ∧
    ({ net := { inbox := [otherFrame] } } : State).net.inbox.find? (fun f => frEt f.bytes != 0x88BA && frEt f.bytes != 0x88B8) = some otherFrame ∧
    State.reset.viGen otherFrame.vi ≠ otherFrame.gen := by decide +kernel

def chain (st : Nat) (cfg : Nat) (r : McRt) : State :=
  { live [(R.ING_STATUS, 1), (R.MC_STATUS 0, st), (R.MC_CFG 0, cfg), (R.ING_MCLK_CFG 0, 4)] with ing := { mc := [(0, r)] } }
theorem wit_ModulatorChains :
    (chain 3 0 {}).mcState 0 = 3 ∧ (chain 3 0 {}).ingLive = true ∧ ((chain 3 0 {}).mcRt 0).last ≠ some ((chain 3 0 {}).rd R.ING_INDEX) ∧
    [true, false, true, false].length = (chain 3 0 {}).mcNeed 0 ∧ (chain 1 0 {}).mcState 0 < 2 ∧ State.reset.ingLive = false ∧
    ((chain 3 0 { last := some 0 }).mcRt 0).last = some ((chain 3 0 { last := some 0 }).rd R.ING_INDEX) ∧ ([] : List Bool).length ≠ (chain 3 0 {}).mcNeed 0 ∧
    ((chain 3 4 { ints := [0] }).mcRt 0).sincPhase + 1 < (chain 3 4 { ints := [0] }).mcR 0 ∧
    ((chain 3 4 { ints := [0] }).mcRt 0).ints.length = (chain 3 4 { ints := [0] }).mcOrder 0 ∧
    (chain 2 0 {}).mcState 0 = 2 ∧ (chain 4 0 {}).mcState 0 = 4 ∧ (chain 2 0 {}).fld (R.MC_STATUS 0) 23 16 = 0 ∧
    (chain 0x10002 0 {}).fld (R.MC_STATUS 0) 23 16 ≠ 0 := by decide +kernel
def issue0 : OpIssue := { lane := .a, pair := 0, d := 1, a := 2, b := 3, k := 0, m := 0, pay := 0#32, ecc := 0#8 }
def seg0 (c : Nat) : Seg := { code := [opWord c issue0], off := 0, len := 1, addr := 0, ins := [] }
def run0 (c : Nat) : Run :=
  { rid := 0, vi := 0, idx := 5, kind := 0, task := 0, gen := 0, prio := 6, polder := 0, budget := 1000000, spec := 0, deadline := 1, prog := [seg0 c], nstate := 0 }
def tok0 (st : Nat) : Tok :=
  { id := 0, rid := 0, vi := 0, seg := 0, prio := 6, polder := 0, st := st, prov := false, reexec := false, kind := 0, idx := 5, gen := 0, deps := []
    next := none, pair := 0, slot := false }
def slot0 (filled : Bool) : SlotSt := { tok := 0, filled := filled, frame := [], fr := [] }
def tile0 : Tile := { slot0 := some (slot0 true), cur := some false }
/-- Pair 0 of lane A runs a segment of one operation. -/
def issues (c : Nat) : State := { laneA := { runs := [run0 c], toks := [tok0 4], tiles := [(0, tile0)] } }
/-- An operation of a code and a cost issues somewhere, in a run that lives. -/
def Issues (code cost : Nat) : Prop :=
  ∃ (s : State) (e : Env) (t : Tile), Issuable s issue0 code cost e t ∧ e.r.dead = 0
theorem issues_of (code cost : Nat) (h : cost ≤ 1000000) : Issues code cost :=
  ⟨issues code, { s := issues code, l := .a, r := run0 code, g := seg0 code }, tile0,
    ⟨rfl, rfl, rfl, (by decide +kernel : State.reset.pairFailed .a 0 = false), (by decide +kernel : State.reset.fastClk = true), ⟨tok0 4, rfl⟩, rfl, by simpa [run0] using h⟩, rfl⟩
theorem wit_FabricMovesAndFloats : Issues 0x06 2 := issues_of _ _ (by decide)
theorem wit_FabricIntegers : Issues 0x20 1 := issues_of _ _ (by decide)
theorem wit_FabricMasks : Issues 0x30 1 := issues_of _ _ (by decide)
theorem wit_FabricInputs : Issues 0x38 1 := issues_of _ _ (by decide)
theorem wit_FabricSignalOperations : Issues 0x40 65 := issues_of _ _ (by decide)
theorem wit_FabricStatefulOperations : Issues 0x53 24 := issues_of _ _ (by decide)
theorem wit_FabricOutputs : Issues 0x58 2 := issues_of _ _ (by decide)
theorem wit_FabricControl : Issues 0x01 1 := issues_of _ _ (by decide)

def imsg (typ idx : Nat) (pay : List Nat) : IMsg := { typ := typ, seq := 0, set := 0, idx := idx, verdict := 0, gen := 0, pay := pay, bytes := List.replicate 60 0#8 }
def linked (m : IMsg) : State := { ing := { linkA := [m] } }
theorem wit_LaneMessages :
    (∀ m ∈ [imsg 1 0 [], imsg 2 0 [], imsg 3 0 [], imsg 4 0 [], imsg 5 0 [], imsg 6 0 [], imsg 7 4294967295 [0x103], imsg 8 0 []],
      (linked m).link .a = m :: [] ∧ ((linked m).lane .a).deaf = false ∧ (linked m).role .a < 3 ∧ (linked m).fastClk = true ∧
      m.seq = ((linked m).lane .a).seq ∧ (linked m).wdn.join ≠ some m.idx ∧ m.gen = (linked m).viGen ((linked m).svOwner m.set) ∧
      m.gen = (linked m).viGen ((linked m).fld (R.ING_GO2 m.set) 27 16) ∧ m.gen = (linked m).viGen m.set ∧
      ((linked m).lane .a).setOf m.set m.idx = none) ∧
    (linked (imsg 7 4294967295 [0x103])).link .a = [imsg 7 4294967295 [0x103]] ∧ nth (imsg 7 4294967295 [0x103]).pay 0 0 = 3 + 256 ∧
    (linked (imsg 8 0 [])).frameTask .a (imsg 8 0 []) = none ∧ { imsg 1 0 [] with seq := 1 }.seq ≠ ((linked (imsg 1 0 [])).lane .a).seq := by decide +kernel

def ready : State := { regd [(R.PLD_TILES 0, 100)] with laneA := { runs := [run0 0], toks := [tok0 2], ready := [0] } }
def slotted (cur : Option Bool) : State :=
  { laneA := { runs := [run0 0], toks := [tok0 3], tiles := [(127, { slot1 := some (slot0 false), cur := cur })] } }
theorem wit_SchedulerAndTiles :
    ready.choosePair .a = some 0 ∧ ready.fastClk = true ∧ (ready.lane .a).oldRes = none ∧
    (∀ h, h < 8 → 6 < h → ((ready.lane .a).heads h).any (fun e => ready.inBudget .a e.1) = false) ∧
    ((ready.lane .a).heads 6).filter (fun e => ready.inBudget .a e.1) = [(0, tok0 2)] ∧ (ready.lane .a).runOf (tok0 2).rid = some (run0 0) ∧
    ({ laneA := { held := [run0 0] } } : State).laneA.held = [run0 0] ∧ ({ laneA := { held := [run0 0] } } : State).mayAlloc .a (run0 0) = true ∧
    ((((slotted (some false)).lane .a).tile 127).slot true) = some (slot0 false) ∧ (((slotted (some false)).lane .a).tile 127).cur.isSome = true ∧
    (((slotted none).lane .a).tile 127).cur = none ∧ (slotted none).pairFailed .a 127 = false ∧ ((slotted none).lane .a).tokOf 0 = some (tok0 3) ∧
    (run0 0).charge + 24 ≤ (run0 0).budget ∧ State.reset.pairFailed .b 0 = false ∧ State.reset.bit (R.FAB_STATUS .b) 0 = false ∧
    (regd [(R.FAB_PAIR_FAIL .b 0, 1)]).pairFailed .b 0 = true ∧ State.reset.bit (R.LPE_STATUS .b) 0 = false ∧ (State.reset.opt .b).halt = false ∧
    State.reset.bit (R.NRG_STATUS .b) 0 = false := by decide +kernel

def sx : StepX := { k := 9, skips := [], slotSkips := [], overruns := [], xfer := none, at_ := 0 }
def report : OptReport := { code := 1, iters := 10, crc := 0 }
theorem wit_StepExchange :
    State.reset.standby = some .b ∧ ({ xl := { xq := [sx] }, laneB := { bndWait := [9] } } : State).xl.xq = [sx] ∧
    (({ xl := { xq := [sx] }, laneB := { bndWait := [9] } } : State).lane .b).bndWait.contains sx.k = true ∧
    ({ now := 2601, xl := { acks := [(9, 0)] } } : State).xl.acks = [(9, 0)] ∧ 2000 < ({ now := 2601 } : State).now - 0 - 600 ∧
    (State.reset.lane .b).bndWait = [] ∧ ({ xl := { repA := [report] } } : State).xl.repA = [report] ∧
    ({ xl := { repB := [report] } } : State).xl.repB = [report] := by decide +kernel
def rmsg (typ idx : Nat) (stat : List Nat) : RMsg :=
  { typ := typ, seq := 0, idx := idx, vi := 4095, gen := 0, items := [(0x30000, 1), (0x40000, 1)], digest := 0, pay := 1, stat := stat }
/-- Lane A is the source; both lanes are compared; a message stands on its release link. -/
def sluice (st : Nat) (m : RMsg) (x : Sluice) : State := { regd [(R.SLU_STATUS, st)] with laneA := { rel := [m] }, slu := x }
theorem sluFront (st typ : Nat) (x : Sluice) (idx : Nat) (q : List Nat)
    (h : (sluice st (rmsg typ idx q) x).sluStopped .a = false ∧ (sluice st (rmsg typ idx q) x).role .a < 3 ∧
      (sluice st (rmsg typ idx q) x).sluSeq .a = some 0 ∧ (sluice st (rmsg typ idx q) x).viGen 4095 = 0) :
    SluFront (sluice st (rmsg typ idx q) x) .a typ (rmsg typ idx q) [] :=
  ⟨rfl, rfl, h.1, h.2.1, .inr h.2.2.1, fun _ => h.2.2.2.symm⟩
def provs0 : Sluice := { provs := [(.a, 4095, 0, [])] }
theorem wit_SluiceMessages :
    (SluFront (sluice 0x30 (rmsg 1 0 []) {}) .a 1 (rmsg 1 0 []) [] ∧ SluFront (sluice 0x30 (rmsg 2 0 []) {}) .a 2 (rmsg 2 0 []) [] ∧
      SluFront (sluice 0x30 (rmsg 3 0 []) provs0) .a 3 (rmsg 3 0 []) [] ∧ SluFront (sluice 0x30 (rmsg 4 0 [6]) {}) .a 4 (rmsg 4 0 [6]) [] ∧
      SluFront (sluice 0x30 (rmsg 5 0 []) {}) .a 5 (rmsg 5 0 []) [] ∧ SluFront (sluice 0x30 (rmsg 6 0 []) {}) .a 6 (rmsg 6 0 []) [] ∧
      SluFront (sluice 4 (rmsg 7 0 []) {}) .a 7 (rmsg 7 0 []) [] ∧ SluFront (sluice 2 (rmsg 7 0 []) {}) .a 7 (rmsg 7 0 []) [] ∧
      SluFront (sluice 0 (rmsg 7 0 []) {}) .a 7 (rmsg 7 0 []) [] ∧ SluFront (sluice 0 (rmsg 8 0 []) {}) .a 8 (rmsg 8 0 []) []) ∧
    (sluice 0x30 (rmsg 2 0 []) {}).compared 0 = true ∧ (sluice 0x30 (rmsg 2 0 []) {}).srcFor 0 = some .a ∧ (sluice 0x30 (rmsg 2 0 []) {}).slu.recs = [] ∧
    (sluice 0x30 (rmsg 1 0 []) {}).isSource .a = true ∧
    (sluice 0x30 (rmsg 3 0 []) provs0).slu.provs.find? (provOf .a (rmsg 3 0 [])) = some (.a, 4095, 0, []) ∧
    1 ≤ nth (rmsg 4 0 [6]).stat 0 0 ∧ nth (rmsg 4 0 [6]).stat 0 0 ≤ 6 ∧ (sluice 0x30 (rmsg 6 0 []) {}).slu.nextCfg = none ∧
    (sluice 4 (rmsg 7 0 []) {}).silent = true ∧ Lane.a = (sluice 2 (rmsg 7 0 []) {}).srcLane ∧ (sluice 2 (rmsg 7 0 []) {}).silent = false ∧
    (sluice 2 (rmsg 7 0 []) {}).armed = true ∧ (sluice 0 (rmsg 7 0 []) {}).armed = false ∧ (sluice 0 (rmsg 8 0 []) {}).rcd.lastTrig = none ∧
    (sluice 0 (rmsg 8 0 []) {}).trigSilent = false :=
  ⟨⟨sluFront _ _ _ _ _ (by decide +kernel), sluFront _ _ _ _ _ (by decide +kernel), sluFront _ _ _ _ _ (by decide +kernel),
    sluFront _ _ _ _ _ (by decide +kernel), sluFront _ _ _ _ _ (by decide +kernel), sluFront _ _ _ _ _ (by decide +kernel),
    sluFront _ _ _ _ _ (by decide +kernel), sluFront _ _ _ _ _ (by decide +kernel), sluFront _ _ _ _ _ (by decide +kernel),
    sluFront _ _ _ _ _ (by decide +kernel)⟩, by decide +kernel⟩

def sluRec : SluRec := { lane := .a, vi := 0, idx := 7, gen := 0, none := false, items := [], digest := 0, bufs := [], done := true }
def cmpState (latched : Bool) : State := { regd [(R.SLU_STATUS, 0x30)] with slu := { recs := [sluRec], divLatched := latched } }
theorem wit_SluiceCommands :
    (({ slu := { tpl := [(0, { retx := some 0, rel := some [] })] } } : State).tplRt 0).retx = some 0 ∧
    (({ slu := { tpl := [(0, { retx := some 0, rel := some [] })] } } : State).tplRt 0).rel = some [] ∧ (State.reset.tplRt 0).retx = none ∧
    (cmpState false).slu.recs.find? (fun r => r.lane == .a && r.vi == (0 : Vi).val && r.idx == (7#32).toNat) = some sluRec ∧
    (cmpState false).compared (7#32).toNat = true ∧ (cmpState false).slu.divLatched = false ∧ (cmpState true).slu.divLatched = true := by decide +kernel

def recRt (endc : Nat) (complete : Bool) : RecRt :=
  { unit := 15, buf := 7, num := 1, df := { owner := 0 }, gen := 0, blocks := 1, endc := endc, complete := complete }
/-- Unit 15 of lane A in a state, with a record of that buffer. -/
def unitIn (st : Nat) (r : List RecRt) (u : UnitRt) : State :=
  { regd [(R.REC_UNIT0 .a 15, 1), (R.REC_USTAT_STATE .a 15, st)] with recA := { recs := r, units := [(15, u)] }, laneA := { bnd := some 9 } }
def optIn (st : Nat) (o : OptSt) : State := { regd [(R.OPT_STATUS .a, st)] with laneA := { opt := o } }
theorem wit_BoundaryCommandEffects :
    (regd [(R.LPE_TR_SEL .a, 0x8000)]).bit (R.LPE_TR_SEL .a) 15 = true ∧ (optIn 0 {}).bit (R.OPT_CFG .a) 0 = true ∧ (optIn 0 {}).optState .a = 0 ∧
    (optIn 1 {}).optState .a = 1 ∧ (optIn 2 {}).optState .a = 2 ∧
    (regd [(R.CPE_EV0 .a 0, 0x3000001), (R.CPE_STATUS .a, 4)]).bit (R.CPE_EV0 .a 0) 0 = true ∧
    (regd [(R.CPE_EV0 .a 0, 0x3000001), (R.CPE_STATUS .a, 4)]).fld (R.CPE_EV0 .a 0) 27 24 = 3 ∧
    (regd [(R.CPE_EV0 .a 0, 0x3000001), (R.CPE_STATUS .a, 4)]).programsRun .a = true ∧
    (mapGet ((regd [(R.CPE_EV0 .a 0, 0x3000001), (R.CPE_STATUS .a, 4)]).lane .a).evq 0 []).length <
      max 1 ((regd [(R.CPE_EV0 .a 0, 0x3000001), (R.CPE_STATUS .a, 4)]).fld (R.CPE_EV0 .a 0) 30 28) ∧
    (regd [(R.CPE_TASK0 .a 31, 1)]).bit (R.CPE_TASK0 .a 31) 0 = true ∧ 2047 ∈ (regd [(R.NRG_CFG .a, 1), (R.NRG_PT0 .a 2047, 1)]).ptsOn .a ∧
    (∃ r, ((optIn 2 { own := some { code := 1, iters := 1, crc := 0 } }).opt .a).own = some r ∧ r.code = 1) ∧
    (unitIn 0 [] {}).unitEn .a 15 = true ∧ (unitIn 0 [] {}).unitState .a 15 = 0 ∧ (unitIn 5 [] {}).unitState .a 15 = 5 ∧
    ((unitIn 0 [] {}).recL .a).trigNext = none ∧ (unitIn 2 [recRt 1 true] {}).recAt .a 15 7 = some (recRt 1 true) ∧ (recRt 1 true).complete = true ∧
    (unitIn 2 [recRt 0 false] {}).recAt .a 15 7 = some (recRt 0 false) ∧ (recRt 0 false).complete = false ∧
    (unitIn 2 [recRt 1 true] {}).rcd.exp ≠ some (15, 7) ∧ (unitIn 2 [recRt 1 true] {}).rcd.exp = none ∧ (unitIn 2 [recRt 1 true] {}).laneActive .a = true ∧
    (unitIn 1 [] {}).unitState .a 15 = 1 := by
  refine ⟨by decide +kernel, by decide +kernel, by decide +kernel, by decide +kernel, by decide +kernel, by decide +kernel, by decide +kernel, by decide +kernel,
    by decide +kernel, by decide +kernel, by decide +kernel, ⟨_, rfl, rfl⟩, by decide +kernel⟩

def solving (d halt : Bool) : State := optIn 1 { run := some (3, [], [], []), factor := some ([], []), discard := d, halt := halt }
def loops : State := { regd [(R.LPE_SLOT_PV .a 5, 2)] with laneA := { sdue := [(5, 9, false)], steps := [(5, 9)], bnd := some 9 } }
theorem wit_LoopsAndSolves :
    (loops.lane .a).sdue.find? (fun e => e.1 == (5 : Slot).val) = some (5, 9, false) ∧ loops.bit (R.LPE_STATUS .a) 0 = false ∧ loops.fastClk = true ∧
    loops.nextStep .a = some (5, 9) ∧ loops.below 9 = false ∧ (loops.unitSlots .a 5).contains (5 : Slot).val = true ∧
    ((optIn 0 { due := some 9 }).opt .a).due = some 9 ∧ (optIn 0 { due := some 9 }).bit (R.OPT_CFG .a) 0 = true ∧ (optIn 0 { due := some 9 }).optState .a = 0 ∧
    ((optIn 0 { due := some 9 }).opt .a).held = false ∧ (optIn 1 { due := some 9 }).optState .a = 1 ∧
    ((solving false false).opt .a).run = some (3, [], [], []) ∧ ((solving false false).opt .a).factor.isSome = true ∧ ((solving false false).lane .a).gj = none ∧
    ((solving false false).opt .a).halt = false ∧ ((solving false false).opt .a).discard = false ∧ ((solving true false).opt .a).discard = true ∧
    ((solving true false).opt .a).halt = false ∧ ((solving false true).opt .a).halt = true := by decide +kernel

def stepping : State :=
  { regd [(R.LPE_SLOT_PV .a 1023, 2), (R.LPE_SLOT_MODE .a 1023, 1)] with laneA := { slots := [(1023, { first := false })] } }
theorem wit_LoopStepArithmetic :
    (stepping.slotRt .a 1023).first = false ∧ (stepping.slotRt .a 1023).changed = false ∧ stepping.fld (R.LPE_SLOT0 .a 1023) 27 26 = 0 ∧
    stepping.bit (R.LPE_SLOT_MODE .a 1023) 0 = true ∧ (stepping.slotPv .a 1023 9).1.2 = true := by decide +kernel

def cyc (ov : Bool) (t : TaskRt) (r : List Run) : State := { laneA := { cdue := [(31, 9, ov, false)], tasks := [(31, t)], runs := r, bnd := some 9 } }
theorem wit_CyclicPrograms :
    ((cyc true {} []).lane .a).cdue.find? (fun e => !e.2.2.2) = some (31, 9, true, false) ∧ ((cyc true {} []).lane .a).gj = none ∧
    ((cyc false {} []).lane .a).cdue = [((31 : Task).val, 9, false, false)] ∧ (cyc false {} []).cycleReady .a 31 9 = true ∧ (cyc false {} []).below 9 = false ∧
    ((cyc false {} []).lane .a).cmds = [] ∧ ((cyc false {} []).cfgAt 9).cycleReady .a 31 9 = true ∧
    ((cyc false { first := false } [{ run0 0 with kind := 1, task := 31 }]).cfgAt 9).cycleReady .a 31 9 = false ∧
    ((cyc false { latch := some 9 } []).task .a 31).latch = some 9 ∧ ((cyc false { latch := some 9 } []).lane .a).bnd = some 9 ∧ idxGe 9 9 = true ∧
    ({ laneA := { cmds := [(9, .mode (some 3) none)], bnd := some 9 } } : State).laneA.cmds = [(9, .mode (some 3) none)] ∧
    (regd [(R.CPE_STATUS .a, 3)]).cpeMode = 3 ∧ (regd [(R.CPE_STATUS .a, 1)]).cpeMode = 1 ∧ (regd [(R.CPE_STATUS .a, 1)]).cpeMode ≠ 3 ∧
    (regd [(R.CPE_STATUS .a, 3)]).cpeMode ≠ 1 ∧ ({ xl := { retPend := [(31, [5])] } } : State).xl.retPend.lookup (31 : Task).val = some [5] := by decide +kernel

def saves (n : Nrg) (l : NrgLane) : State := { nrg := n, nrgA := l }
theorem wit_EnergyCommands :
    (saves { run := some (9, 1, 0) } {}).nrg.run = some (9, 1, 0) ∧ (saves {} {}).nrg.run = none ∧ (saves {} {}).nrgA.dems = [] ∧ (saves {} {}).nrgB.dems = [] ∧
    (saves { due := some 9 } {}).nrg.due = some 9 ∧ (saves { due := some 9, run := some (8, 1, 0) } {}).nrg.run = some (8, 1, 0) ∧
    (saves { run := some (9, 1, 0) } { snaps := [⟨9, []⟩] }).snapOf (saves { run := some (9, 1, 0) } { snaps := [⟨9, []⟩] }).activeLane 9 = some [] ∧
    (saves { run := some (9, 1, 0) } {}).nrg.held = none ∧ (saves { run := some (9, 1, 0) } { snaps := [⟨9, []⟩] }).lanesCompared = false ∧
    (mapGet ((saves {} { ans := [(63, { full := some (2047, 9, []) })] }).nrgL .a).ans (63 : Fin 64).val {}).full = some (2047, 9, []) := by decide +kernel

theorem wit_RecordsAndTriggers :
    (unitIn 2 [recRt 0 false] { next := some 9 }).recording .a 15 = some (recRt 0 false) ∧ ((unitIn 2 [recRt 0 false] { next := some 9 }).unit .a 15).next = some 9 ∧
    (unitIn 2 [recRt 0 false] { next := some 9 }).unitSettled .a (recRt 0 false).df 9 = true ∧ (unitIn 3 [recRt 2 false] {}).openRec .a 15 = some (recRt 2 false) ∧
    (recRt 2 false).endc ≠ 0 ∧ ({ rcd := { exp := some (15, 7) } } : State).rcd.exp = some (15, 7) ∧ ({ rcd := { exp := some (15, 7) } } : State).rcd.expRelease = false ∧
    (unitIn 4 [] {}).unitState .a 15 = 4 ∧ (unitIn 4 [] {}).fld (R.REC_USTAT_HOLD .a 15) 23 0 = 0 ∧
    ({ pwr := { trigOut := 8 } } : State).pwr.trigOut.testBit (3 : Fin 4) = true ∧ (false && State.reset.bit R.PCM_WAKE_EN 3) = false ∧
    (true && (regd [(R.PCM_WAKE_EN, 0)]).bit R.PCM_WAKE_EN 3) = false ∧ (regd [(R.PCM_WAKE_EN, 8), (R.PCM_STATUS, 0x13)]).bit R.PCM_WAKE_EN 3 = true ∧
    (regd [(R.PCM_WAKE_EN, 8), (R.PCM_STATUS, 0x13)]).power = 3 := by decide +kernel

def item : EvtItem := { typ := 0x100, source := 0, hours := 5, cycles := 1, time := [0, 0, 0], data := [0, 0, 0, 0] }
def evtRec : EvtRec := { seq := 4294967295, words := [4294967295, 0x100, 5, 0, 1, 0, 0, 0, 0, 5, 0, 0, 0, 0, 0, 0], valid := true }
def events (head cur : Nat) (e : EvtState) : State := { regd [(R.EVT_HEAD, head)] with evt := e, paths := [⟨.pf0, R.EVT_CURSOR, cur⟩] }
def windowed : State := events 1 0 { ring := [{ evtRec with seq := 0 }] }
theorem wit_EventRecorderCommands :
    State.reset.evt.queue = [] ∧ (events 0 0 { queue := [item] }).evt.queue = item :: [] ∧ (events 0 0 { queue := [item] }).evt.lossSince = 0 ∧
    (events 0 0 { queue := [item] }).evt.ring = [] ∧ (events 0 0 { queue := [item] }).snapRegs item.typ = [] ∧ (events 0 0 { queue := [item] }).wdn.live = false ∧
    (events 0 0 { queue := [item], ring := [evtRec] }).evt.ring = evtRec :: [] ∧ evtRec.valid = true ∧ nth evtRec.words 1 0 = item.typ + item.source * 65536 ∧
    (evtRec.words.drop 11).take 4 = item.data ∧ nth evtRec.words 10 0 = 0 ∧ nth evtRec.words 8 0 < 65535 ∧
    idxAdd evtRec.seq 1 = (events 0 0 { queue := [item], ring := [evtRec] }).rd R.EVT_HEAD ∧ (0x48960001#32).toNat / 65536 = 0x4896 ∧ (0#32).toNat / 65536 ≠ 0x4896 ∧
    windowed.evt.ring.find? (fun r => r.seq % 131072 == windowed.pathGet .pf0 R.EVT_CURSOR % 131072) = some { evtRec with seq := 0 } ∧
    0 = windowed.pathGet .pf0 R.EVT_CURSOR ∧ idxGe (windowed.pathGet .pf0 R.EVT_CURSOR) (windowed.rd R.EVT_HEAD) = false ∧
    idxLater windowed.evtOldest (windowed.pathGet .pf0 R.EVT_CURSOR) = false ∧ evtRec.words.length = 16 ∧
    (events 0 1 {}).evt.ring.find? (fun r => r.seq % 131072 == (events 0 1 {}).pathGet .pf0 R.EVT_CURSOR % 131072) = none ∧
    idxGe ((events 0 1 {}).pathGet .pf0 R.EVT_CURSOR) ((events 0 1 {}).rd R.EVT_HEAD) = true := by decide +kernel
def wword (fence : Nat) : WWord :=
  { roleA := 1, roleB := 0, src := 0, armed := true, repair := none, phase := 0, sw := none, fence := fence, sent := 0 }
/-- The wardens' status, the arbiter's, and words of wardens 1 and 2. -/
def wardens (st slu : Nat) (ws : List (Nat × WWord)) : State :=
  { regd [(R.WDN_STATUS, st), (R.SLU_STATUS, slu), (R.WDN_CFG, 2)] with wdn := { words := ws } }
def two : List (Nat × WWord) := [(1, wword 0), (2, wword 0)]
theorem wit_WardensAndVoters :
    (wardens 0x71010 0 []).unfenced 2 = true ∧ (wardens 0x61010 0 []).unfenced 0 = false ∧ (wardens 0x61010 0 []).wdn.restarting.contains 0 = false ∧
    (∀ k : Warden, (wardens 0x71010 0 [(1, wword 4)]).unfenced k = true) ∧ (wardens 0x71010 0 [(1, wword 4)]).wdn.words.lookup 1 = some (wword 4) ∧
    (wword 4).fence.testBit 2 = true ∧ (wardens 0x71010 0 [(1, wword 4)]).wdn.words.lookup 2 = none ∧
    (wardens 0x71010 2 []).curWords.length < 2 ∧ (wardens 0x71010 2 []).armed = true ∧ (wardens 0x71010 2 []).wdn.warmReq = false ∧
    2 ≤ (wardens 0x71010 0 two).curWords.length ∧ voted (wardens 0x71010 0 two).curWords (·.armed) = some true ∧
    voted (wardens 0x71010 0 two).curWords (fun w => w.sw.isSome) ≠ some true ∧ (wardens 0x71010 0 two).armed = false ∧ (wardens 0x71010 0 two).wantArmed = true ∧
    (wardens 0x71010 4 two).silent = true ∧ (wardens 0x71010 4 two).wdn.ioFault = false ∧ voted (wardens 0x71010 4 two).curWords (·.src) = some 0 ∧
    (wardens 0x71010 4 two).lockClean (laneOfIx 0) = true ∧ voted (wardens 0x71010 0 two).curWords (·.roleA) = some 1 ∧ (wardens 0x71010 0 two).role .a = 0 ∧
    (wardens 0x71030 0 []).isSplit = true ∧ (∀ w ∈ (wardens 0x71030 0 []).wardens, ∀ v ∈ (wardens 0x71030 0 []).wardens, w ≠ v → mapGet (wardens 0x71030 0 []).wdn.dis (3 * w + v) 0 = 0) ∧
    (wardens 0x61010 0 []).isSplit = false ∧ 2 ≤ (wardens 0x61010 0 []).wardens.length ∧
    ({ wardens 0x61010 0 [] with wdn := { restarting := [0] } } : State).wdn.restarting.contains (0 : Warden).val = true := by decide +kernel

theorem wit_LaneHealth :
    State.reset.role .a = 0 ∧ ¬ (State.reset.role .b = 0) ∧ (wardens 0x11000 0 []).canVote = false ∧ (wardens 0x11000 0 []).wdn.warmReq = false ∧
    (wardens 0x71000 0 []).role .b = 1 ∧ (wardens 0x71000 0 []).role .a = 0 ∧ (wardens 0x71000 0 []).srcLane = otherLane .b ∧ (wardens 0x71000 0 []).canVote = true ∧
    (wardens 0x71000 0 []).repairLimit .b = false ∧ (wardens 0x71000 0 []).bit R.WDN_CFG 0 = false ∧ ((wardens 0x71000 0 []).lane .b).gj = none ∧
    (wardens 0x71000 0 []).wdn.waits = none ∧ (wardens 0x11000 0 []).role .b ≤ 1 ∧ (wardens 0x11000 0 []).pairFailed .b 127 = false ∧
    2 ≤ (wardens 0x71200 0 []).role .a ∧ (wardens 0x71000 0 []).wdn.ioFault = false ∧ (wardens 0x71000 0 []).silent = false ∧
    (wardens 0x71000 0 []).bit R.WDN_CFG 4 = false ∧ (65535 : W16) ≠ 0 ∧ ({ wdn := { ioFault := true } } : State).wdn.ioFault = true := by decide +kernel

/-- A repair of lane A in a phase. -/
def repair (st ph : Nat) (x : LaneSt) : State := { regd [(R.WDN_STATUS, st), (R.WDN_RSYNC_STATUS, 1 + 16 * ph)] with laneA := x }
theorem wit_SwitchAndRepair :
    (wardens 0x71010 2 []).canVote = true ∧ (wardens 0x71010 2 []).armed = true ∧ (wardens 0x71010 2 []).bit R.WDN_STATUS 4 = true ∧
    (wardens 0x71010 2 []).role (wardens 0x71010 2 []).srcLane = 0 ∧ (wardens 0x71010 2 []).role (otherLane (wardens 0x71010 2 []).srcLane) = 1 ∧
    (wardens 0x71010 2 []).slu.recs = [] ∧ ((wardens 0x71010 2 []).lane .b).bndWait = [] ∧
    (wardens 0x72000 0 []).canVote = true ∧ (wardens 0x72000 0 []).role .b = 2 ∧ (wardens 0x72000 0 []).rsBusy = false ∧
    (repair 0x70300 1 {}).canVote = true ∧ (repair 0x70300 1 {}).rsBusy = true ∧ (repair 0x70300 1 {}).rsJoined = false ∧
    (repair 0x70100 0 { gj := some 5 }).rsJoined = true ∧ 1 ≤ (wardens 0x73000 0 []).role .b ∧ (wardens 0x73000 0 []).role .b ≤ 3 ∧
    (wardens 0x11000 0 []).wardens.length < 2 ∧ (wardens 0x71030 0 []).isSplit = true ∧ 2 ≤ (wardens 0x71030 0 []).wardens.length ∧
    (wardens 0x71010 0 []).armed = false ∧ (wardens 0x71000 2 []).bit R.WDN_STATUS 4 = false ∧ (wardens 0x71000 2 []).armed = true ∧
    (wardens 0x71000 0 []).role .b ≤ 1 ∧ (repair 0x72300 1 {}).role .b = 2 ∧ (repair 0x72300 1 {}).rsBusy = true ∧ (wardens 0x74000 0 []).role .b = 4 ∧
    (repair 0x10300 2 {}).canVote = false ∧ (repair 0x10300 2 {}).rsPhase ≠ 3 ∧ (repair 0x70300 3 {}).rsPhase = 3 ∧ (repair 0x70300 1 {}).rsPhase = 1 ∧
    (repair 0x70300 4 {}).rsPhase = 4 ∧ (repair 0x70300 5 {}).rsPhase = 5 ∧ (repair 0x70300 6 {}).rsPhase = 6 ∧ (repair 0x70110 0 { gj := some 5 }).rsPhase = 8 ∧
    ((repair 0x70110 0 { gj := some 5 }).lane (repair 0x70110 0 { gj := some 5 }).rsLane).gj = some 5 ∧ (repair 0x70110 0 { gj := some 5 }).role .a = 1 ∧
    (repair 0x70110 0 { gj := some 5 }).bit R.WDN_STATUS 4 = true ∧ (repair 0x70110 0 { gj := some 5 }).mirrorOpen .b 5 = false ∧
    (repair 0x70110 0 { gj := some 5 }).canVote = true := by decide +kernel

theorem wit_MateStatusFrames :
    (∃ t, step State.reset = .next t) ∧ (regd [(R.WDN_MATE_CFG, 1)]).bit R.WDN_MATE_CFG 0 = true ∧ (regd [(R.WDN_MATE_CFG, 0)]).bit R.WDN_MATE_CFG 0 = false :=
  ⟨⟨_, rfl⟩, by decide +kernel⟩

/-- The monitor works; a check of a good count has begun. -/
def seeping : State := { live [] with wdn := { live := true } }
/-- Counts that meet every ledger: all cells free, the tokens free, the link's credits home, every acquisition back. -/
def latched : List (Nat × Nat) :=
  [(R.SEP_CELLS_FREE, 524288), (R.SEP_TOK 0 0, 65536), (R.SEP_TOK 1 0, 65536), (R.SEP_ACQ 0 0, 32768), (R.SEP_ACQ 1 0, 32768)] ++
    (List.range 51).map (fun x => (R.SEP_CRED x, 32))
def checking (st : Nat) (g : List (Nat × Nat)) : State := { live [(R.SEP_STATUS, st)] with sep := { latch := g } }
theorem wit_SeepageCommands :
    State.reset.seepRuns = false ∧ seeping.seepRuns = true ∧ seeping.bit R.SEP_STATUS 4 = false ∧ ({ checking 0x10 [] with wdn := { live := true } } : State).seepRuns = true ∧
    (checking 0x10 []).bit R.SEP_STATUS 4 = true ∧ (checking 0x12 []).power ≠ 3 ∧ (checking 0x12 []).sep.late = false ∧ (checking 0x12 []).bit R.SEP_STATUS 1 = true ∧
    (checking 0x12 latched).seepBad latched = [] ∧ (checking 0x12 []).bit R.SEP_STATUS 0 = false ∧
    ((checking 0x12 []).seepBad []).head?.any (fun b => decide (b.ledger < 7)) = true ∧ (regd [(R.PCM_STATUS, 0x13)]).power = 3 := by decide +kernel
theorem wit_LedgersRequire : State.reset.sep.skip.testBit (laneIx .a) = false ∧ State.reset.sep.skip.testBit (laneIx .b) = false := by decide

/-- Key slots 1 (a wrapping key), 15 (an image key) and 0x10 (a P-256 key) are valid. -/
def keys (attr : Nat) (l : List (Nat × Nat)) : State :=
  regd ([(R.KEY_ATTR, attr), (R.KEY_POLICY, 7), (R.KEY_SLOT_ATTR 1, 0x15), (R.KEY_SLOT_ATTR 15, 0x11), (R.KEY_SLOT_ATTR 16, 0x12)] ++ l)
def keyOp (code slot typ : Nat) (done : Bool) : KeyOp :=
  { code := code, slot := slot, typ := typ, keyId := 3, uses := 0, expWarm := false, kek := 0, input := List.replicate 64 1#8, committed := done }
def keyed (o : KeyOp) : State := { regd [(R.KEY_STATUS, 1)] with key := { op := some o, mat := [(16, ⟨List.replicate 64 1#8, 5⟩)] } }
theorem wit_KeyCommands :
    (keys 1 []).keyCheck 1 2 = 0 ∧ (keys 1 []).keyCheck 2 15 = 0 ∧ (keys 2 []).keyCheck 3 143 = 0 ∧ (keys 3 []).keyCheck 4 143 = 0 ∧ (keys 0x103 []).keyCheck 5 143 = 0 ∧
    (keys 0 []).keyCheck 6 143 = 0 ∧ (keys 0 []).keyCheck 7 16 = 0 ∧ (keys 0 []).keyCheck 8 16 = 0 ∧ (keys 0 []).keyCheck 9 16 = 0 ∧
    (∀ c, 1 ≤ c → c ≤ 9 → (keys 0 []).keyCheck c 144 ≠ 0) ∧ (keys 2 [(R.KEY_STATUS, 2)]).keyCheck 3 143 = 8 ∧ State.reset.key.op = none ∧
    (keyed (keyOp 6 16 0 false)).key.op = some (keyOp 6 16 0 false) ∧ (keyOp 6 16 0 false).committed = false ∧ (keyOp 6 16 0 true).committed = true ∧
    (keyOp 6 16 0 true).burns = false ∧ (keyOp 1 15 1 true).burns = true ∧ 1 ≤ (keyOp 1 15 1 false).slot ∧ (keyOp 1 15 1 false).slot < 0x10 ∧ (keyOp 1 15 5 false).typ = 5 ∧
    (keyOp 2 15 0 false).code = 2 ∧ (keyOp 4 143 4 false).code = 4 ∧ (keyOp 4 143 4 false).slot < 0x90 ∧ (keyOp 4 143 4 false).typ = 4 ∧
    (keyOp 9 16 0 false).code = 9 ∧ ((keyed (keyOp 9 16 0 false)).keyMat 16).bytes.length = 64 := by
  refine ⟨by decide +kernel, by decide +kernel, by decide +kernel, by decide +kernel, by decide +kernel, by decide +kernel, by decide +kernel, by decide +kernel,
    by decide +kernel, ?_, by decide +kernel⟩
  intro c h1 h9
  interval_cases c <;> decide +kernel
theorem wit_KeyRefusals :
    (regd [(R.KEY_STATUS, 1)]).bit R.KEY_STATUS 0 = true ∧ State.reset.bit R.KEY_STATUS 0 = false ∧ 0x8F < 0x90 ∧ (regd [(R.KEY_STATUS, 2)]).bit R.KEY_STATUS 1 = true ∧
    (regd [(R.KEY_STATUS, 2)]).bit R.KEY_STATUS 0 = false ∧ State.reset.bit R.KEY_STATUS 1 = false := by decide +kernel
theorem wit_KeyRecords :
    (keyed (keyOp 6 16 0 true)).key.op = some (keyOp 6 16 0 true) ∧ (keyed (keyOp 6 16 0 true)).evt.queue.length < 255 ∧
    ((keyed (keyOp 6 16 0 false)).keyCommit (keyOp 6 16 0 false)).1 = 1 ∧ (keys 2 [(R.KEY_STATUS, 2)]).keyCheck 3 (143#8).toNat = 8 ∧
    ({ keyed (keyOp 6 16 0 false) with key := { op := some (keyOp 6 16 0 false), tamperCfg := 0x200 } } : State).fed = true ∧ 2 ≤ tamperAction 0x200 (2 : Fin 4) ∧
    tamperWake 0x200 (2 : Fin 4) = false ∧ (keyed (keyOp 6 16 0 false)).bit R.KEY_TAMPER_STATUS (2 : Fin 4) = false := by decide +kernel

def clock (l : List (Nat × Nat)) (o : Bool) : State := { regd l with rtc := { osc := o } }
theorem wit_ClockCommands :
    (clock [] true).rtc.osc = true ∧ (clock [] true).bit (R.RTC_ALM_CTRL 0) 0 = false ∧ (clock [] true).bit (R.RTC_ALM_CTRL 1) 0 = false ∧
    (clock [(R.RTC_STATUS, 0), (R.RTC_ALM_CTRL 1, 1), (R.RTC_ALM_T_LO 1, 1)] true).bit (R.RTC_ALM_CTRL (1 : Fin 2)) 0 = true ∧
    (clock [(R.RTC_STATUS, 0), (R.RTC_ALM_CTRL 1, 1), (R.RTC_ALM_T_LO 1, 1)] true).bit (R.RTC_ALM_CTRL (1 - (1 : Fin 2))) 0 = false ∧
    (clock [(R.RTC_STATUS, 0), (R.RTC_ALM_CTRL 1, 1), (R.RTC_ALM_T_LO 1, 1)] true).bit R.RTC_STATUS 1 = false ∧
    (clock [(R.RTC_STATUS, 0), (R.RTC_ALM_CTRL 1, 1), (R.RTC_ALM_T_LO 1, 1)] true).rtcCount + 1 < 2 ^ 47 ∧
    (clock [(R.RTC_STATUS, 0), (R.RTC_ALM_CTRL 1, 1), (R.RTC_ALM_T_LO 1, 1)] true).almT (1 : Fin 2) = (clock [(R.RTC_STATUS, 0), (R.RTC_ALM_CTRL 1, 1), (R.RTC_ALM_T_LO 1, 1)] true).rtcCount + 1 ∧
    (clock [(R.RTC_STATUS, 0), (R.RTC_ALM_CTRL 1, 1), (R.RTC_ALM_T_LO 1, 1)] true).fld (R.RTC_ALM_CTRL (1 : Fin 2)) 3 1 = 0 ∧
    (clock [(R.RTC_STATUS, 0), (R.RTC_ALM_CTRL 1, 5), (R.RTC_ALM_T_LO 1, 1)] true).fld (R.RTC_ALM_CTRL (1 : Fin 2)) 3 1 = 2 ∧
    (clock [(R.PCM_WAKE_EN, 0)] true).bit R.PCM_WAKE_EN 4 = false ∧ (clock [] false).rtc.osc = false ∧ (clock [(R.RTC_STATUS, 0x10)] true).bit R.RTC_STATUS 4 = true ∧
    (clock [] true).bit R.RTC_STATUS 4 = false ∧ (clock [(R.RTC_STATUS, 4)] true).bit R.RTC_CFG 8 = false ∧ (clock [(R.RTC_STATUS, 4)] true).bit R.RTC_STATUS 2 = true ∧
    (clock [] true).bit R.RTC_STATUS 2 = false ∧ ({ rtc := { synced := true } } : State).rtc.synced = true := by decide +kernel
theorem wit_WeekdayCounter : (clock [(R.RTC_STATUS, 0x10)] true).rtc.osc = true ∧ (clock [(R.RTC_STATUS, 0x10)] true).bit R.RTC_STATUS 4 = true := by decide +kernel

/-! ### Terms that are not well formed, one for each check -/
theorem smoke_vf : (Instr.vfFlr 0).wellFormed = false ∧ (Instr.dirtySwap 0).wellFormed = false ∧ (Instr.dirtySwapDone 0).wellFormed = false := by decide
/-- An access through VF 0, which is none. -/
def noVf : Access := { path := .vf 0, bar := .bar0, off := 0, be := 15#4, same := none }
theorem smoke_path :
    (Instr.registerWrite noVf 0).wellFormed = false ∧ (Instr.lowWordWrite noVf 0).wellFormed = false ∧ (Instr.highWordWrite noVf 0).wellFormed = false ∧
    (Instr.lowWordRead noVf).wellFormed = false ∧ (Instr.rcRead noVf).wellFormed = false ∧ (Instr.tbIncrWrite (.vf 0) 0 0).wellFormed = false ∧
    (Instr.pacePeriodWrite (.vf 0) 0).wellFormed = false := by decide
theorem smoke_uart :
    (Instr.uartRead 0 256).wellFormed = false ∧ (Instr.uartWrite 0 0 256).wellFormed = false ∧ (Instr.uartUnknownCommand 1).wellFormed = false ∧
    (Instr.uartUnknownCommand 2).wellFormed = false := by decide
theorem smoke_slice : (Instr.sliceRecheck [(32, .a)]).wellFormed = false := by decide
theorem smoke_beacon : (Instr.mateBeaconRx { flags := 0, fp := [], index := 0 }).wellFormed = false := by decide
theorem smoke_rings :
    (Instr.txTailWrite 0 0 [{ addr := 0, len := 2, flags := 0, data := [], ok := true }]).wellFormed = false ∧
    (Instr.txTailWrite 0 0 (List.replicate 4097 { addr := 0, len := 0, flags := 0, data := [], ok := true })).wellFormed = false ∧
    (Instr.rxTailWrite 0 0 (List.replicate 4097 0)).wellFormed = false := by decide +kernel
theorem smoke_good : (Instr.vfFlr 1).wellFormed = true ∧ (Instr.uartUnknownCommand 3).wellFormed = true ∧ (Instr.sliceRecheck [(31, .b)]).wellFormed = true := by decide

/-! ### The host's entry points -/
theorem test_no_row_gives_bits : decodeTableWord 32 0xFFFFFFFF = none := rfl
theorem test_no_word_no_command : State.reset.withFetchWord 32 5 = State.reset := rfl

/-! ### The published functions, at the check values of their own standards -/
/-- "123456789", the message of the CRC catalogues' check values. -/
def digits : Bytes := [0x31, 0x32, 0x33, 0x34, 0x35, 0x36, 0x37, 0x38, 0x39]
theorem test_crcs : crc8 digits = 0xF4 ∧ crc16 digits = 0x29B1 ∧ crc32 digits = 0xCBF43926 ∧ crc32c digits = 0xE3069283 := by decide +kernel
/-- FIPS 180-4, the one-block example "abc". -/
theorem test_sha256 : beNat (sha256 [0x61, 0x62, 0x63]) = 0xBA7816BF8F01CFEA414140DE5DAE2223B00361A396177A9CB410FF61F20015AD := by decide +kernel
/-- FIPS 197, appendix C.1: AES-128. -/
theorem test_aes128 : aesEnc (List.range 16) ((List.range 16).map (17 * ·)) =
    [0x69, 0xC4, 0xE0, 0xD8, 0x6A, 0x7B, 0x04, 0x30, 0xD8, 0xCD, 0xB7, 0x80, 0x70, 0xB4, 0xC5, 0x5A] := by decide +kernel

/-! ### The reset values the spec gives -/
/-- Table 02-15: the over-temperature warning at 105 °C, in sixteenths. -/
theorem test_reset_otw : State.reset.rd R.PCM_OTW_LIMIT = 105 * 16 := by decide +kernel
/-- Both lanes ACTIVE or STANDBY, three wardens unfenced (Table 16-8). -/
theorem test_reset_wardens : State.reset.rd R.WDN_STATUS = 0x71000 := by decide +kernel
/-- Nothing waits (the model's queue, log entry 1). -/
theorem test_reset_queue : State.reset.pending = [] := rfl

/-! ### Single commands -/
/-- R7: a whole-word write of an RW field is read back. -/
theorem test_write_reads_back : after (.registerWrite (pf0 R.PCM_OTW_LIMIT none) 0x123) {} R.PCM_OTW_LIMIT = some 0x123 := by decide +kernel
/-- R7: a write of one clears a W1C bit, and only that bit. -/
theorem test_w1c : after (.registerWrite (pf0 R.KEY_EVENTS none) 1) (live [(R.KEY_EVENTS, 3)]) R.KEY_EVENTS = some 2 := by decide +kernel
/-- R8: where the event falls in the clock of the write, the bit stays set. -/
theorem test_w1c_same_clock : after (.registerWrite (pf0 R.KEY_EVENTS (some 1)) 1) (live [(R.KEY_EVENTS, 3)]) R.KEY_EVENTS = some 3 := by decide +kernel
/-- R5: the write of a low word waits; the high word brings both. -/
theorem test_pair :
    after (.lowWordWrite (pf0 R.CFG_DMA_ADDR_LO none) 5) {} R.CFG_DMA_ADDR_LO = some 0 ∧
    after (.highWordWrite (pf0 R.CFG_DMA_ADDR_HI none) 7) { held := [⟨.pf0, R.CFG_DMA_ADDR_LO, 5⟩] } R.CFG_DMA_ADDR_LO = some 5 := by decide +kernel
/-- R58: a temperature at the limit sets no event; one sixteenth above it does. -/
theorem test_otw : after (.otw .laneA 1680) {} R.PCM_EVENTS = some 0 ∧ (after (.otw .laneA 1681) {} R.PCM_EVENTS).any (· ≠ 0) = true := by decide +kernel

end Sys2Proof.Tests
end

section
/-! SUPPORT. What each operation of a command leaves as it was: one lemma for each operation on registers, path words and outputs. -/
namespace Sys2Proof.Machine

/-! ### Parts of the state that are kept -/

theorem Part.kept_refl (s : State) (p : Part) : p.kept s s := by
  cases p
  case evt => exact ⟨rfl, rfl⟩
  all_goals rfl
theorem Part.kept_trans {s t u : State} {p : Part} (h : p.kept s t) (h' : p.kept t u) : p.kept s u := by
  cases p
  case evt => exact ⟨h'.1.trans h.1, h'.2.trans h.2⟩
  all_goals exact Eq.trans h' h

theorem State.setF_kept (s : State) {k : Nat} (hi lo v : Nat) (h : k ≠ R.WDN_STATUS) (p : Part) : p.kept s (s.setF k hi lo v) := by
  cases p
  case evt => exact ⟨rfl, by unfold State.bit; rw [State.rd_setF, if_neg h]⟩
  all_goals rfl

theorem State.heldPut_kept (s : State) (q : Path) (k v : Nat) {p : Part} (hp : p ≠ .held) : p.kept s (s.heldPut q k v) := by
  cases p
  case held => exact absurd rfl hp
  case evt => exact ⟨rfl, rfl⟩
  all_goals rfl
theorem State.heldDel_kept (s : State) (q : Path) (k : Nat) {p : Part} (hp : p ≠ .held) : p.kept s (s.heldDel q k) := by
  cases p
  case held => exact absurd rfl hp
  case evt => exact ⟨rfl, rfl⟩
  all_goals rfl

theorem State.emit_kept (s : State) (x : Out) {p : Part} (hp : p ≠ .out) : p.kept s (s.emit x) := by
  cases p
  case out => exact absurd rfl hp
  case evt => exact ⟨rfl, rfl⟩
  all_goals rfl
theorem State.pathPut_kept (s : State) (q : Path) (k v : Nat) {p : Part} (hp : p ≠ .paths) : p.kept s (s.pathPut q k v) := by
  cases p
  case paths => exact absurd rfl hp
  case evt => exact ⟨rfl, rfl⟩
  all_goals rfl

end Sys2Proof.Machine
end

section
/-! SUPPORT. Arrays of registers, and the reset values of the VI pages. -/
namespace Sys2Proof.Machine

/-! ### Arrays of registers -/

/-- The offsets of an array of registers lie below this, from its base. -/
def dimsSpan : List (Nat × Nat) → Nat
  | [] => 1
  | (st, n) :: t => st * (n - 1) + dimsSpan t

theorem inDims_lt_span {ds : List (Nat × Nat)} {d : Nat} (h : inDims ds d = true) : d < dimsSpan ds := by
  induction ds generalizing d with
  | nil => simpa [inDims, dimsSpan] using h
  | cons e t ih =>
    obtain ⟨st, n⟩ := e
    simp only [inDims, Bool.and_eq_true, decide_eq_true_eq] at h
    obtain ⟨hn, ht⟩ := h
    calc d = st * (d / st) + d % st := (Nat.div_add_mod d st).symm
      _ < st * (n - 1) + dimsSpan t := Nat.add_lt_add_of_le_of_lt (Nat.mul_le_mul_left _ (by omega)) (ih ht)

theorem inDims_nil {d : Nat} : inDims [] d = true ↔ d = 0 := by simp [inDims]
theorem inDims_cons {st n d : Nat} {t : List (Nat × Nat)} : inDims ((st, n) :: t) d = true ↔ d / st < n ∧ inDims t (d % st) = true := by
  simp [inDims]

/-- The array from `base` names no offset from `a` up to `b`. -/
def spanApart (a b base : Nat) (ds : List (Nat × Nat)) : Bool := decide (base + dimsSpan ds ≤ a) || decide (b ≤ base)

theorem not_inDims_of_apart {a b base k : Nat} {ds : List (Nat × Nat)} (h : spanApart a b base ds = true) (ha : a ≤ k) (hb : k < b) :
    (decide (base ≤ k) && inDims ds (k - base)) = false := by
  by_contra hc
  simp only [Bool.not_eq_false, Bool.and_eq_true, decide_eq_true_eq] at hc
  obtain ⟨hle, hin⟩ := hc
  have hlt := inDims_lt_span hin
  simp only [spanApart, Bool.or_eq_true, decide_eq_true_eq] at h
  omega

theorem foldLane_of_lt {k : Nat} (h : k < 0x2000000 ∨ 0x4C00000 ≤ k) : foldLane k = k := if_neg (by omega)

/-! ### Reset values of the VI pages -/

/-- The rows of the VI pages among those whose reset value is not 0. -/
def nzRowsVi : List (Nat × List (Nat × Nat) × Nat) := nzRows.filter (fun r => decide (0x8000000 ≤ r.1))

theorem nzRows_eq_append_vi : nzRows = nzRows.filter (fun r => decide (r.1 < 0x8000000)) ++ nzRowsVi := by decide +kernel

theorem nzRows_below_vi : ∀ r ∈ nzRows.filter (fun r => decide (r.1 < 0x8000000)), spanApart 0x8000000 0x9000000 r.1 r.2.1 = true := by
  decide +kernel

/-- The reset value of a word of a VI page comes from the rows of the VI pages. -/
theorem resetVal_viPage {k : Nat} (h : 0x8000000 ≤ k) (h' : k < 0x9000000) :
    resetVal k = (nzRowsVi.find? (fun r => decide (r.1 ≤ k) && inDims r.2.1 (k - r.1))).elim 0 (fun r => r.2.2) := by
  have hlow : (nzRows.filter (fun r => decide (r.1 < 0x8000000))).find? (fun r => decide (r.1 ≤ k) && inDims r.2.1 (k - r.1)) = none :=
    List.find?_eq_none.2 fun r hr => by simp only [not_inDims_of_apart (nzRows_below_vi r hr) h h', Bool.false_eq_true, not_false_eq_true]
  unfold resetVal
  rw [foldLane_of_lt (.inr (by omega)), nzRows_eq_append_vi]
  dsimp only
  rw [List.find?_append, hlow, Option.none_or]
  cases nzRowsVi.find? (fun r => decide (r.1 ≤ k) && inDims r.2.1 (k - r.1)) <;> rfl

theorem nzRowsVi_eq : nzRowsVi = [(0x8000008, [(4096, 4096)], 0x1), (0x8000108, [(4096, 4096)], 0x4), (0x8000128, [(4096, 4096)], 0x4),
    (0x8000134, [(4096, 4096)], 0x321000), (0x800080C, [(4096, 4096), (16, 64)], 0x1)] := by decide +kernel

theorem resetVal_viStatus {n : Nat} (h : n < 4096) : resetVal (R.VI_STATUS n) = 1 := by
  rw [resetVal_viPage (by unfold R.VI_STATUS; omega) (by unfold R.VI_STATUS; omega), nzRowsVi_eq]
  simp [R.VI_STATUS, inDims, h]

theorem resetVal_viGen {n : Nat} (h : n < 4096) : resetVal (R.VI_GEN n) = 0 := by
  obtain ⟨k, hk⟩ : ∃ k, k = R.VI_GEN n := ⟨_, rfl⟩
  have hk' : k = 0x8000004 + n * 4096 := hk
  rw [← hk, resetVal_viPage (by omega) (by omega), List.find?_eq_none.2, Option.elim_none]
  intro r hr
  simp only [nzRowsVi_eq, List.mem_cons, List.not_mem_nil, or_false] at hr
  rcases hr with rfl | rfl | rfl | rfl | rfl <;>
    simp only [inDims, Bool.and_eq_true, decide_eq_true_eq, beq_iff_eq] <;> omega

end Sys2Proof.Machine
end

section
/-! SUPPORT. The state right after reset (R1, R11). -/
namespace Sys2Proof.Machine

theorem rd_reset (k : Nat) : State.reset.rd k = resetVal k := rfl

theorem reset_levels : ∀ k, k < 3 → State.reset.rd (R.ICU_SRC_LEVEL k) = State.reset.srcWord k := by decide +kernel

theorem reset_steady : State.reset.Steady := by
  refine ⟨rfl, reset_levels, ?_⟩
  decide +kernel

/-- Settles O5: with nothing written every register holds the reset value of its row; those of the 4096 VI pages by their place in a page. -/
theorem resetState : Obligations.ResetState := by
  unfold Obligations.ResetState
  refine ⟨reset_steady, rfl, rfl, rfl, rfl, rfl, rfl, ?_, by decide +kernel, rfl, ?_, ?_, by decide +kernel, rfl, rfl, by decide +kernel,
    by decide +kernel, rfl, rfl⟩
  · intro n h
    refine ⟨?_, ?_⟩
    · rw [State.viGen, State.fld, rd_reset, resetVal_viGen h]; rfl
    · rw [State.fld, rd_reset, resetVal_viStatus h]; rfl
  · intro l; cases l <;> rfl
  · intro l; cases l <;> rfl

end Sys2Proof.Machine
end

section
/-! SUPPORT. Commands that wait for the next boundary (R10). -/
namespace Sys2Proof.Machine

theorem State.atBoundary_kept (s : State) (d : LaneCmd) {p : Part} (hp : p ≠ .xl) : p.kept s (s.atBoundary d) := by
  cases p
  case xl => exact absurd rfl hp
  case evt => exact ⟨rfl, rfl⟩
  all_goals rfl

/-- A command that only waits for the boundary joins the list of both lanes; nothing else changes. -/
theorem answers_atBoundary {c : Instr} {d : LaneCmd} {s : State} (h : exec c s = finish s (s.atBoundary d)) :
    Answers c s (fun t => t.xl = { s.xl with cmds := s.xl.cmds ++ [d] } ∧ Only (fun _ => false) [.xl] s t) :=
  answers_of_finish h ⟨s.ended_xl _, only_of_kept (fun _ _ => rfl) fun _ hp => s.atBoundary_kept d (List.ne_of_not_mem_cons hp)⟩

/-- Settles O42: each of the sixteen commands is an `atBoundary`, and nothing else. -/
theorem boundaryCommands : Obligations.BoundaryCommands := by
  unfold Obligations.BoundaryCommands
  intro s e k u b c hc
  simp only [List.mem_cons, List.not_mem_nil, or_false] at hc
  rcases hc with rfl | rfl | rfl | rfl | rfl | rfl | rfl | rfl | rfl | rfl | rfl | rfl | rfl | rfl | rfl | rfl <;>
    exact answers_atBoundary rfl

end Sys2Proof.Machine
end

section
/-! SUPPORT. Software accesses to the fields of one register (R6 to R8, R427). -/
namespace Sys2Proof.Machine

/-! ### Fields of a register, edited one by one -/

theorem bitsOf_lt (n hi lo : Nat) : bitsOf n hi lo < 2 ^ (hi + 1 - lo) := Nat.mod_lt _ (Nat.two_pow_pos _)
theorem bitsOf_mod (n hi lo : Nat) : bitsOf n hi lo % 2 ^ (hi + 1 - lo) = bitsOf n hi lo := Nat.mod_eq_of_lt (bitsOf_lt n hi lo)

/-- Two fields share no bit. -/
abbrev Fld.Apart (f g : Fld) : Prop := f.hi < g.lo ∨ g.hi < f.lo
/-- The fields of a register lie inside its word and share no bit. -/
abbrev Tidy (fs : List Fld) : Prop := (∀ f ∈ fs, f.lo ≤ f.hi ∧ f.hi < 32) ∧ fs.Pairwise Fld.Apart

/-- A walk over tidy fields, each of whose steps gives its own field a value and leaves the others: every field has its value. -/
theorem foldl_get_of_tidy {σ : Type} (step : σ → Fld → σ) (get : σ → Fld → Nat) (val : Fld → Nat → Nat)
    (same : ∀ s f, f.lo ≤ f.hi → f.hi < 32 → get (step s f) f = val f (get s f))
    (other : ∀ s f g, f.lo ≤ f.hi → g.hi < 32 → Fld.Apart f g → get (step s f) g = get s g)
    {fs : List Fld} (h : Tidy fs) {f : Fld} (hf : f ∈ fs) (s : σ) : get (fs.foldl step s) f = val f (get s f) := by
  obtain ⟨hfit, hap⟩ := h
  have keep : ∀ (l : List Fld) (t : σ) (g : Fld), g.hi < 32 → (∀ a ∈ l, a.lo ≤ a.hi ∧ Fld.Apart a g) → get (l.foldl step t) g = get t g := by
    intro l
    induction l with
    | nil => intro t g _ _; rfl
    | cons a l ih =>
      intro t g hg hl
      obtain ⟨ha, hap⟩ := hl a List.mem_cons_self
      exact (ih _ g hg fun b hb => hl b (List.mem_cons_of_mem _ hb)).trans (other t a g ha hg hap)
  induction fs generalizing s with
  | nil => cases hf
  | cons a l ih =>
    obtain ⟨hal, hl⟩ := List.pairwise_cons.1 hap
    have fit : ∀ b ∈ l, b.lo ≤ b.hi ∧ b.hi < 32 := fun b hb => hfit b (List.mem_cons_of_mem _ hb)
    obtain ⟨ha, ha'⟩ := hfit a List.mem_cons_self
    rcases List.mem_cons.1 hf with rfl | hf
    · exact (keep l _ f ha' fun b hb => ⟨(fit b hb).1, (hal b hb).symm⟩).trans (same s f ha ha')
    · exact (ih hf _ fit hl).trans (by rw [other s a f ha (fit f hf).2 (hal f hf)])

/-- One field of register `k` takes the code that `g` gives for its value, or keeps its value. -/
def State.editFld (k : Nat) (g : Fld → Nat → Option Nat) (s : State) (f : Fld) : State :=
  match g f (s.fld k f.hi f.lo) with
  | some c => s.setF k f.hi f.lo c
  | none => s
/-- The value of a field after its edit. -/
def edited (g : Fld → Nat → Option Nat) (f : Fld) (old : Nat) : Nat :=
  match g f old with
  | some c => c % 2 ^ (f.hi + 1 - f.lo)
  | none => old
/-- The fields of a list, each edited. -/
def State.editFlds (s : State) (k : Nat) (g : Fld → Nat → Option Nat) (fs : List Fld) : State := fs.foldl (State.editFld k g) s

theorem State.editFld_cases (s : State) (k : Nat) (g : Fld → Nat → Option Nat) (f : Fld) :
    (∃ c, g f (s.fld k f.hi f.lo) = some c ∧ s.editFld k g f = s.setF k f.hi f.lo c) ∨
      (g f (s.fld k f.hi f.lo) = none ∧ s.editFld k g f = s) := by
  unfold State.editFld
  cases g f (s.fld k f.hi f.lo) with
  | some c => exact .inl ⟨c, rfl, rfl⟩
  | none => exact .inr ⟨rfl, rfl⟩
theorem State.editFld_ldr (k : Nat) (g : Fld → Nat → Option Nat) (s : State) (f : Fld) : (s.editFld k g f).ldr = s.ldr := by
  obtain ⟨c, -, e⟩ | ⟨-, e⟩ := s.editFld_cases k g f
  · rw [e, State.setF_ldr]
  · rw [e]
theorem State.fld_editFld_same (s : State) (k : Nat) (g : Fld → Nat → Option Nat) (f : Fld) (h : f.lo ≤ f.hi) (h32 : f.hi < 32) :
    (s.editFld k g f).fld k f.hi f.lo = edited g f (s.fld k f.hi f.lo) := by
  obtain ⟨c, hg, e⟩ | ⟨hg, e⟩ := s.editFld_cases k g f
  · rw [e, edited, hg]; exact s.fld_setF_same _ _ _ _ h h32
  · rw [e, edited, hg]
theorem State.fld_editFld_apart (s : State) (k : Nat) (g : Fld → Nat → Option Nat) (f f' : Fld) (h : f.lo ≤ f.hi) (h32 : f'.hi < 32)
    (ha : Fld.Apart f f') : (s.editFld k g f).fld k f'.hi f'.lo = s.fld k f'.hi f'.lo := by
  obtain ⟨c, -, e⟩ | ⟨-, e⟩ := s.editFld_cases k g f
  · rw [e]; exact s.fld_setF_apart _ _ _ _ _ _ h h32 ha.symm
  · rw [e]
theorem State.fld_editFlds (s : State) (k : Nat) (g : Fld → Nat → Option Nat) {fs : List Fld} (h : Tidy fs) {f : Fld} (hf : f ∈ fs) :
    (s.editFlds k g fs).fld k f.hi f.lo = edited g f (s.fld k f.hi f.lo) :=
  foldl_get_of_tidy (State.editFld k g) (fun s f => s.fld k f.hi f.lo) (edited g) (fun s f => s.fld_editFld_same k g f)
    (fun s f f' => s.fld_editFld_apart k g f f') h hf s

theorem State.rd_editFlds_other (s : State) {k j : Nat} (g : Fld → Nat → Option Nat) (fs : List Fld) (h : k ≠ j) :
    (s.editFlds k g fs).rd j = s.rd j := by
  refine State.foldl_rd _ j (fun s f => ?_) fs s
  obtain ⟨c, -, e⟩ | ⟨-, e⟩ := s.editFld_cases k g f
  · rw [e, State.rd_setF, if_neg h]
  · rw [e]
theorem State.editFlds_kept (s : State) {k : Nat} (g : Fld → Nat → Option Nat) (fs : List Fld) (h : k ≠ R.WDN_STATUS) (p : Part) :
    p.kept s (s.editFlds k g fs) := by
  induction fs generalizing s with
  | nil => exact Part.kept_refl s p
  | cons f l ih =>
    have hstep : p.kept s (s.editFld k g f) := by
      obtain ⟨c, -, e⟩ | ⟨-, e⟩ := s.editFld_cases k g f
      · rw [e]; exact s.setF_kept _ _ _ h p
      · rw [e]; exact Part.kept_refl s p
    exact Part.kept_trans hstep (ih _)

/-! ### The walks of the model over a register's fields -/

/-- The code that a software write of `v` gives a field of register `k` (R6, R7). -/
def softCode (locked : Bool) (k v : Nat) (f : Fld) (old : Nat) : Option Nat :=
  match f.acc with
  | .rw => swCode k f (bitsOf v f.hi f.lo)
  | .rwl => if locked then none else swCode k f (bitsOf v f.hi f.lo)
  | .w1c => some (old - (old &&& bitsOf v f.hi f.lo))
  | .w1s => some (old ||| bitsOf v f.hi f.lo)
  | _ => none
/-- The code that a field of a register written in the clock of the command before gets over the write (R8, R427). -/
def raceCode (s : State) (k again : Nat) (f : Fld) (put : Nat) : Option Nat :=
  let cur := s.fld k f.hi f.lo
  let was := s.fldWas k f.hi f.lo
  match f.acc with
  | .w1c => some (put ||| (cur &&& (cur ^^^ was)) ||| (cur &&& bitsOf again f.hi f.lo))
  | .rw => if cur = was then none else some cur
  | _ => none
/-- The code that a read gives an RC field (R7). -/
def clearCode (f : Fld) (_ : Nat) : Option Nat := if f.acc == .rc then some 0 else none
/-- The code that a read in the clock of a count leaves in an RC field (R8). -/
def remainCode (s : State) (k : Nat) (f : Fld) (_ : Nat) : Option Nat :=
  if f.acc == .rc then some ((s.fld k f.hi f.lo + 2 ^ (f.hi + 1 - f.lo) - s.fldWas k f.hi f.lo) % 2 ^ (f.hi + 1 - f.lo)) else none

/-- Two walks whose steps agree as long as a part of the state is as it was, and that keep it. -/
theorem foldl_congr_of_keep {α β γ : Type} {f g : β → α → β} (p : β → γ) (c : γ) (h : ∀ b a, p b = c → f b a = g b a)
    (keep : ∀ b a, p (g b a) = p b) (l : List α) {b : β} (hb : p b = c) : l.foldl f b = l.foldl g b := by
  induction l generalizing b with
  | nil => rfl
  | cons a l ih => rw [List.foldl_cons, List.foldl_cons, h b a hb]; exact ih ((keep b a).trans hb)

/-- A software write of a register walks over its fields (R6, R7). -/
theorem State.writeFields_eq_editFlds (s : State) {k : Nat} (v : Nat) {r : Row} (h : rowAt k = some r) :
    s.writeFields k v = s.editFlds k (softCode s.ldr.rwlLocked k v) r.flds := by
  unfold State.writeFields
  rw [h]
  refine foldl_congr_of_keep State.ldr s.ldr (fun t f ht => ?_) (State.editFld_ldr k _) r.flds rfl
  obtain ⟨hi, lo, acc, rst, kind⟩ := f
  rw [← ht]
  cases acc
  case rwl => unfold State.editFld softCode; cases t.ldr.rwlLocked <;> rfl
  all_goals rfl
theorem State.writeFields_of_none (s : State) {k : Nat} (v : Nat) (h : rowAt k = none) : s.writeFields k v = s := by
  unfold State.writeFields; rw [h]

theorem State.raceWrite_eq_editFlds (s t : State) {k : Nat} (again : Nat) {r : Row} (h : rowAt k = some r) :
    s.raceWrite t k again = t.editFlds k (raceCode s k again) r.flds := by
  unfold State.raceWrite
  rw [h]
  refine foldl_congr_of_keep (fun _ => ()) () (fun t f _ => ?_) (fun _ _ => rfl) r.flds rfl
  obtain ⟨hi, lo, acc, rst, kind⟩ := f
  cases acc
  case rw => by_cases e : s.fld k hi lo = s.fldWas k hi lo <;> simp [State.editFld, raceCode, e]
  all_goals rfl
theorem State.raceWrite_of_none (s t : State) {k : Nat} (again : Nat) (h : rowAt k = none) : s.raceWrite t k again = t := by
  unfold State.raceWrite; rw [h]

/-- The clearing of the RC fields that a read has returned. -/
theorem foldl_clear_eq_editFlds (s : State) (k : Nat) (fs : List Fld) :
    fs.foldl (fun s f => if f.acc == .rc then s.setF k f.hi f.lo 0 else s) s = s.editFlds k clearCode fs := by
  refine foldl_congr_of_keep (fun _ => ()) () (fun t f _ => ?_) (fun _ _ => rfl) fs rfl
  unfold State.editFld clearCode
  cases f.acc == .rc <;> rfl

/-- The value that a read in the clock of a count returns: every RC field as it was before the count. -/
def readWas (s : State) (k v : Nat) (fs : List Fld) : Nat :=
  fs.foldl (fun x f => if f.acc == .rc then putBits x f.hi f.lo (s.fldWas k f.hi f.lo) else x) v
theorem State.raceRead_eq (s t : State) {k : Nat} (v : Nat) {r : Row} (h : rowAt k = some r) (hc : s.crestNow k = none) :
    s.raceRead t k v = (readWas s k v r.flds, t.editFlds k (remainCode s k) r.flds) := by
  unfold State.raceRead
  rw [h, hc]
  refine Prod.ext (List.foldl_hom Prod.fst fun a f => ?_).symm (List.foldl_hom Prod.snd fun a f => ?_).symm
  · dsimp only; cases f.acc == .rc <;> rfl
  · unfold State.editFld remainCode; dsimp only; cases f.acc == .rc <;> rfl
theorem bitsOf_readWas (s : State) (k v : Nat) {fs : List Fld} (h : Tidy fs) (hrc : ∀ f ∈ fs, f.acc = .rc) {f : Fld} (hf : f ∈ fs) :
    bitsOf (readWas s k v fs) f.hi f.lo = s.fldWas k f.hi f.lo := by
  have hget := foldl_get_of_tidy (fun x f => if f.acc == .rc then putBits x f.hi f.lo (s.fldWas k f.hi f.lo) else x)
    (fun x f => bitsOf x f.hi f.lo) (fun f old => if f.acc == .rc then s.fldWas k f.hi f.lo else old) ?_ ?_ h hf v
  · rw [hrc f hf] at hget; exact hget
  · intro x f hle _
    cases f.acc == .rc
    · rfl
    · exact (bitsOf_putBits_same _ _ _ _ hle).trans (bitsOf_mod _ _ _)
  · intro x f g hle _ hap
    cases f.acc == .rc
    · rfl
    · exact bitsOf_putBits_other _ _ _ _ _ _ hle hap.symm

/-! ### The fields after a software write -/

theorem written_writeFields {s : State} {k v : Nat} (h : ∀ r, rowAt k = some r → Tidy r.flds) : Written k v s (s.writeFields k v) := by
  intro r hr f hf
  rw [s.writeFields_eq_editFlds v hr, s.fld_editFlds k _ (h r hr) hf, edited, softCode]
  have hsub : s.fld k f.hi f.lo - (s.fld k f.hi f.lo &&& bitsOf v f.hi f.lo) < 2 ^ (f.hi + 1 - f.lo) :=
    lt_of_le_of_lt (Nat.sub_le _ _) (bitsOf_lt _ _ _)
  have hor : s.fld k f.hi f.lo ||| bitsOf v f.hi f.lo < 2 ^ (f.hi + 1 - f.lo) := Nat.or_lt_two_pow (bitsOf_lt _ _ _) (bitsOf_lt _ _ _)
  cases f.acc
  case w1c => exact Nat.mod_eq_of_lt hsub
  case w1s => exact Nat.mod_eq_of_lt hor
  case rwl => cases s.ldr.rwlLocked <;> rfl
  all_goals rfl

theorem writtenAgain_raceWrite {s : State} {k v again : Nat} (h : ∀ r, rowAt k = some r → Tidy r.flds) :
    WrittenAgain k v again s (s.raceWrite (s.writeFields k v) k again) := by
  intro r hr f hf
  have hw := (written_writeFields h : Written k v s _) r hr f hf
  rw [s.raceWrite_eq_editFlds _ again hr, State.fld_editFlds _ k _ (h r hr) hf, hw, edited, raceCode]
  have hsub : s.fld k f.hi f.lo - (s.fld k f.hi f.lo &&& bitsOf v f.hi f.lo) < 2 ^ (f.hi + 1 - f.lo) :=
    lt_of_le_of_lt (Nat.sub_le _ _) (bitsOf_lt _ _ _)
  have hcur : s.fld k f.hi f.lo < 2 ^ (f.hi + 1 - f.lo) := bitsOf_lt _ _ _
  cases f.acc
  case w1c =>
    have hand : ∀ m, s.fld k f.hi f.lo &&& m < 2 ^ (f.hi + 1 - f.lo) := fun m => lt_of_le_of_lt Nat.and_le_left hcur
    exact Nat.mod_eq_of_lt (Nat.or_lt_two_pow (Nat.or_lt_two_pow hsub (hand _)) (hand _))
  case rw =>
    by_cases e : s.fld k f.hi f.lo = s.fldWas k f.hi f.lo
    · simp only [if_pos e]
    · simp only [if_neg e, Nat.mod_eq_of_lt hcur]
  all_goals rfl

/-! ### What a software write leaves -/

theorem State.rd_writeFields_other (s : State) {k j : Nat} (v : Nat) (h : k ≠ j) : (s.writeFields k v).rd j = s.rd j := by
  cases hr : rowAt k with
  | none => rw [s.writeFields_of_none v hr]
  | some r => rw [s.writeFields_eq_editFlds v hr, s.rd_editFlds_other _ _ h]
theorem State.writeFields_kept (s : State) {k : Nat} (v : Nat) (h : k ≠ R.WDN_STATUS) (p : Part) : p.kept s (s.writeFields k v) := by
  cases hr : rowAt k with
  | none => rw [s.writeFields_of_none v hr]; exact Part.kept_refl s p
  | some r => rw [s.writeFields_eq_editFlds v hr]; exact s.editFlds_kept _ _ h p
theorem State.rd_raceWrite_other (s t : State) {k j : Nat} (again : Nat) (h : k ≠ j) : (s.raceWrite t k again).rd j = t.rd j := by
  cases hr : rowAt k with
  | none => rw [s.raceWrite_of_none t again hr]
  | some r => rw [s.raceWrite_eq_editFlds t again hr, t.rd_editFlds_other _ _ h]
theorem State.raceWrite_kept (s t : State) {k : Nat} (again : Nat) (h : k ≠ R.WDN_STATUS) (p : Part) : p.kept t (s.raceWrite t k again) := by
  cases hr : rowAt k with
  | none => rw [s.raceWrite_of_none t again hr]; exact Part.kept_refl t p
  | some r => rw [s.raceWrite_eq_editFlds t again hr]; exact t.editFlds_kept _ _ h p

end Sys2Proof.Machine
end

section
/-! SUPPORT. Software writes (R4 to R7): the plain registers of PCM, WDN and SEP, and the low words held on a path. -/
namespace Sys2Proof.Machine

/-! ### Plain registers -/

theorem plainKey_iff {k : Nat} : plainKey k = true ↔ settleKey k = false ∧
    ((0x100000 ≤ k ∧ k < 0x200000 ∧ k ≠ R.PCM_CMD) ∨ (0x300000 ≤ k ∧ k < 0x400000 ∧ k ≠ R.WDN_CMD) ∨
      (0x5000000 ≤ k ∧ k < 0x6000000 ∧ k ≠ R.SEP_CMD)) := by
  simp [plainKey, and_assoc, or_assoc]

theorem plainRows_tidy : ∀ r ∈ rowsPCM ++ rowsWDN ++ rowsSEP, Tidy r.flds := by decide +kernel

theorem rowAt_plain {k : Nat} {r : Row} (h : plainKey k = true) (hr : rowAt k = some r) : r ∈ rowsPCM ++ rowsWDN ++ rowsSEP := by
  obtain ⟨-, hk⟩ := plainKey_iff.1 h
  have hmem : r ∈ rowsOf k := List.mem_of_find?_eq_some hr
  have hf : foldLane k = k := foldLane_of_lt (by omega)
  simp only [List.mem_append]
  obtain ⟨h1, h2, -⟩ | ⟨h1, h2, -⟩ | ⟨h1, h2, -⟩ := hk <;>
    simp (disch := omega) only [rowsOf, hf, if_neg, if_pos] at hmem <;> simp only [hmem, true_or, or_true]

theorem tidy_of_plain {k : Nat} {r : Row} (h : plainKey k = true) (hr : rowAt k = some r) : Tidy r.flds :=
  plainRows_tidy r (rowAt_plain h hr)

theorem plainKey_ne {k j : Nat} (h : plainKey k = true) (hj : settleKey j = true) : k ≠ j := (settleKey_ne (plainKey_iff.1 h).1 hj).symm

theorem isLaneKey_of_not_lane {k : Nat} (h : k < 0x2000000 ∨ 0x4C00000 ≤ k) : isLaneKey k = false := by
  simp only [isLaneKey, Bool.and_eq_false_iff, decide_eq_false_iff_not]; omega

/-- A software write of a plain register is a write of its fields. -/
theorem State.swWrite_plain (s : State) (p : Path) {k : Nat} (v : Nat) (h : plainKey k = true) : s.swWrite p k v = s.writeFields k v := by
  obtain ⟨-, hk⟩ := plainKey_iff.1 h
  have hl : isLaneKey k = false := isLaneKey_of_not_lane (by omega)
  obtain ⟨h1, h2, hc⟩ | ⟨h1, h2, hc⟩ | ⟨h1, h2, hc⟩ := hk
  · simp (disch := omega) only [State.swWrite, hl, Bool.false_eq_true, if_false, if_neg, if_pos, State.wrPcm, hc]
  · simp (disch := omega) only [State.swWrite, hl, Bool.false_eq_true, if_false, if_neg, if_pos, State.wrWdn, hc]
  · simp (disch := omega) only [State.swWrite, hl, Bool.false_eq_true, if_false, if_neg, if_pos, State.wrSep, hc]

/-! ### Accesses that reach a register -/

section
variable {s : State} {a : Access} {k : Nat} (hf : s.fed = true) (hw : wholeWord a = true) (hk : s.keyOf a = some k)
include hf hw hk

theorem accessWrite_reached (hp : pathWrites a.path k = true) (hs : a.same = none) (v : Nat) : s.accessWrite a v = s.swWrite a.path k v := by
  simp only [State.accessWrite, hf, hw, hk, hp, hs, Bool.not_true, Bool.or_self, Bool.false_eq_true, if_false]
theorem accessWrite_sameClock (hp : pathWrites a.path k = true) {again : Word} (hs : a.same = some again) (v : Nat) :
    s.accessWrite a v = s.raceWrite (s.swWrite a.path k v) k again.toNat := by
  simp only [State.accessWrite, hf, hw, hk, hp, hs, Bool.not_true, Bool.or_self, Bool.false_eq_true, if_false]
theorem accessRead_reached (hs : a.same = none) (h : 0x100000 ≤ k) :
    s.accessRead a = (s.swRead a.path k).2.answer a.path k (s.swRead a.path k).1 := by
  simp only [State.accessRead, hf, hw, hk, hs, Bool.not_true, Bool.false_eq_true, if_false, State.swAnswer, if_neg (Nat.not_lt.2 h)]
theorem accessRead_sameClock {again : Word} (hs : a.same = some again) (h : 0x100000 ≤ k) :
    s.accessRead a = (s.raceRead (s.swRead a.path k).2 k (s.swRead a.path k).1).2.answer a.path k
      (s.raceRead (s.swRead a.path k).2 k (s.swRead a.path k).1).1 := by
  simp only [State.accessRead, hf, hw, hk, hs, Bool.not_true, Bool.false_eq_true, if_false, if_neg (Nat.not_lt.2 h)]
end

theorem accessWrite_unreached {s : State} {a : Access} (h : wholeWord a = false ∨ s.keyOf a = none) (v : Nat) : s.accessWrite a v = s := by
  unfold State.accessWrite
  obtain h | h := h <;> rw [h] <;> simp

/-! ### Writes of plain registers -/

theorem among_single {k j : Nat} (h : among [k] j = false) : k ≠ j := by
  rintro rfl; simp [among] at h

/-- What has been written into a plain register stands in it at the end of the command. -/
theorem Written.ended {k v : Nat} {s s1 : State} (h : Written k v s s1) (hk : settleKey k = false) : Written k v s (s.ended s1) := by
  intro r hr f hf
  rw [s.ended_fld s1 hk]; exact h r hr f hf
theorem WrittenAgain.ended {k v again : Nat} {s s1 : State} (h : WrittenAgain k v again s s1) (hk : settleKey k = false) :
    WrittenAgain k v again s (s.ended s1) := by
  intro r hr f hf
  rw [s.ended_fld s1 hk]; exact h r hr f hf

theorem answers_registerWrite {s : State} {a : Access} {v : Word} {k : Nat} (hf : s.fed = true) (hw : wholeWord a = true)
    (hs : a.same = none) (hk : s.keyOf a = some k) (hp : pathWrites a.path k = true) (hpl : plainKey k = true) :
    Answers (.registerWrite a v) s (fun t => Written k v.toNat s t ∧ Only (among [k]) [] s t) := by
  have e : s.accessWrite a v.toNat = s.writeFields k v.toNat := by
    rw [accessWrite_reached hf hw hk hp hs, s.swWrite_plain _ _ hpl]
  refine answers_of_finish (congrArg (finish s) e) ⟨?_, ?_⟩
  · exact (written_writeFields fun r => tidy_of_plain hpl).ended (plainKey_iff.1 hpl).1
  · exact only_of_kept (fun j hj => State.rd_writeFields_other s _ (among_single hj)) fun p _ => State.writeFields_kept s _ (plainKey_ne hpl rfl) p

theorem answers_registerWrite_sameClock {s : State} {a : Access} {v again : Word} {k : Nat} (hf : s.fed = true) (hw : wholeWord a = true)
    (hs : a.same = some again) (hk : s.keyOf a = some k) (hp : pathWrites a.path k = true) (hpl : plainKey k = true) :
    Answers (.registerWrite a v) s (fun t => WrittenAgain k v.toNat again.toNat s t ∧ Only (among [k]) [] s t) := by
  have e : s.accessWrite a v.toNat = s.raceWrite (s.writeFields k v.toNat) k again.toNat := by
    rw [accessWrite_sameClock hf hw hk hp hs, s.swWrite_plain _ _ hpl]
  have hst : k ≠ R.WDN_STATUS := plainKey_ne hpl rfl
  refine answers_of_finish (congrArg (finish s) e) ⟨?_, only_of_kept (fun j hj => ?_) fun p _ => ?_⟩
  · exact (writtenAgain_raceWrite fun r => tidy_of_plain hpl).ended (plainKey_iff.1 hpl).1
  · rw [State.rd_raceWrite_other _ _ _ (among_single hj), State.rd_writeFields_other s _ (among_single hj)]
  · exact Part.kept_trans (State.writeFields_kept s _ hst p) (State.raceWrite_kept s _ _ hst p)

theorem only_ended_self (s : State) : Only (fun _ => false) [] s (s.ended s) := only_of_kept (fun _ _ => rfl) fun p _ => Part.kept_refl s p

theorem answers_registerWrite_unreached {s : State} {a : Access} {v : Word} (h : wholeWord a = false ∨ s.keyOf a = none) :
    Answers (.registerWrite a v) s (Only (fun _ => false) [] s) :=
  answers_of_finish (congrArg (finish s) (accessWrite_unreached h _)) (only_ended_self s)

/-! ### Words held on a path -/

@[simp] theorem State.heldGet_heldPut_same (s : State) (p : Path) (k v : Nat) : (s.heldPut p k v).heldGet p k = some v := by
  simp [State.heldGet, State.heldPut]
theorem State.heldGet_heldPut_other (s : State) {p q : Path} {k j : Nat} (v : Nat) (h : (q, j) ≠ (p, k)) :
    (s.heldPut p k v).heldGet q j = s.heldGet q j := by
  have hne : ∀ w : PathWord, (w.path == q && w.key == j) = true → (w.path == p && w.key == k) = false := by
    intro w hq
    by_contra hp
    simp only [Bool.not_eq_false, Bool.and_eq_true, beq_iff_eq] at hp hq
    exact h (by rw [← hq.1, ← hq.2, hp.1, hp.2])
  have hhead : (p == q && k == j) = false := by
    by_contra hc
    simp only [Bool.not_eq_false, Bool.and_eq_true, beq_iff_eq] at hc
    exact h (by rw [hc.1, hc.2])
  unfold State.heldGet State.heldPut
  dsimp only
  rw [List.find?_cons_of_neg (by simp [hhead]), List.find?_filter]
  congr 2
  funext w
  cases hq : (w.path == q && w.key == j) with
  | true => simp [hne w hq]
  | false => simp
@[simp] theorem State.heldGet_heldDel_same (s : State) (p : Path) (k : Nat) : (s.heldDel p k).heldGet p k = none := by
  unfold State.heldGet State.heldDel
  rw [List.find?_filter, List.find?_eq_none.2, Option.map_none]
  intro w _
  cases w.path == p && w.key == k <;> decide
/-! ### Low words whose write is held -/

theorem heldRows_eq : heldRows = [(0x200040, []), (0x200064, [(16, 2)]), (0x580000, [(256, 1025), (32, 8)]), (0x580008, [(256, 1025), (32, 8)]),
    (0x410000, [(16, 256)]), (0x8000800, [(4096, 4096), (16, 64)]), (0x5D0008, [(32, 1024), (8, 2)]), (0x600020, []), (0x1400100, []),
    (0x1800100, [(64, 4), (8, 2)]), (0x1C00018, []), (0x4800024, []), (0x8000100, [(4096, 4096)]), (0x8000120, [(4096, 4096)])] := rfl
theorem isHeldLow_iff {k : Nat} : isHeldLow k = true ↔ ∃ r ∈ heldRows, r.1 ≤ k ∧ inDims r.2 (k - r.1) = true := by
  simp [isHeldLow]

/-- The low words, by their blocks; those of the VI pages by their place in a page. -/
theorem isHeldLow_block {k : Nat} (h : isHeldLow k = true) :
    k = 0x200040 ∨ (k = 0x200064 ∨ k = 0x200074) ∨ (0x410000 ≤ k ∧ k < 0x411000) ∨ (0x580000 ≤ k ∧ k < 0x600000) ∨ k = 0x600020 ∨
      k = 0x1400100 ∨ (0x1800100 ≤ k ∧ k < 0x1800200) ∨ k = 0x1C00018 ∨ k = 0x4800024 ∨
      (0x8000000 ≤ k ∧ (k % 0x1000 = 0x100 ∨ k % 0x1000 = 0x120 ∨ (0x800 ≤ k % 0x1000 ∧ k % 0x1000 < 0xC00))) := by
  obtain ⟨r, hr, hle, hd⟩ := isHeldLow_iff.1 h
  simp only [heldRows_eq, List.mem_cons, List.not_mem_nil, or_false] at hr
  rcases hr with rfl | rfl | rfl | rfl | rfl | rfl | rfl | rfl | rfl | rfl | rfl | rfl | rfl | rfl <;>
    simp only [inDims_nil, inDims_cons] at hd <;> dsimp only at hle <;> omega

/-- A software write of a low word below the VI pages is held on its path (R5). -/
theorem State.swWrite_heldLow (s : State) (p : Path) {k : Nat} (v : Nat) (h : isHeldLow k = true) (h' : k < 0x8000000)
    (hset : k ≠ R.RTC_SET_SEC_LO) : s.swWrite p k v = s.heldPut p k v := by
  obtain e | e | ⟨h1, h2⟩ | ⟨h1, h2⟩ | rfl | rfl | ⟨h1, h2⟩ | rfl | rfl | ⟨h1, -⟩ := isHeldLow_block h
  · -- RTC_SET_SEC_LO
    exact absurd e hset
  · -- RTC_ALM_T_LO
    obtain rfl | rfl := e <;> rfl
  · -- ICU_MSIX_ADDR_LO
    have hl : isLaneKey k = false := isLaneKey_of_not_lane (by omega)
    simp (disch := omega) only [State.swWrite, hl, Bool.false_eq_true, if_false, if_neg, if_pos, State.wrIcu, h, if_true]
  · -- the windows and DIRTY_A_LO
    have hl : isLaneKey k = false := isLaneKey_of_not_lane (by omega)
    have hr : k ≠ R.VIR_RESET_REQ := by unfold R.VIR_RESET_REQ; omega
    simp (disch := omega) only [State.swWrite, hl, Bool.false_eq_true, if_false, if_neg, if_pos, State.wrVir, h, hr, if_true]
  · -- CFG_DMA_ADDR_LO
    rfl
  · -- SWC_MIR_BASE_LO
    rfl
  · -- TB_INCR_LO
    have hl : isLaneKey k = false := isLaneKey_of_not_lane (by omega)
    have hc : k ≠ R.TMU_CMD ∧ k ≠ R.TMU_CLK_CFG ∧ ¬(R.TMU_SET_NS ≤ k ∧ k ≤ R.TMU_SET_CFG) := by
      unfold R.TMU_CMD R.TMU_CLK_CFG R.TMU_SET_NS R.TMU_SET_CFG; omega
    obtain ⟨hc1, hc2, hc3⟩ := hc
    simp (disch := omega) only [State.swWrite, hl, Bool.false_eq_true, if_false, if_neg, if_pos, State.wrTmu, h, hc1, hc2, hc3, if_true]
  · -- ING_PACE_PERIOD_LO
    rfl
  · -- REC_EXP_ADDR_LO
    rfl
  · -- the VI pages
    omega
/-- A software write of a low word in the page of a host-bound VI is held on its path (R5). -/
theorem State.swWrite_heldLow_viPage (s : State) (p : Path) {k : Nat} (v : Nat) (h : isHeldLow k = true) (h' : 0x8000000 ≤ k)
    (hx : s.viExists ((k - 0x8000000) / 0x1000) = true) (hb : s.hostBound ((k - 0x8000000) / 0x1000) = true) :
    s.swWrite p k v = s.heldPut p k v := by
  have ho : k % 0x1000 = 0x100 ∨ k % 0x1000 = 0x120 ∨ (0x800 ≤ k % 0x1000 ∧ k % 0x1000 < 0xC00) := by
    have := isHeldLow_block h; omega
  simp (disch := omega) only [State.swWrite, if_pos, if_neg, State.wrVi, hx, hb, Bool.not_true, Bool.false_eq_true, and_false, if_false, h, if_true]

theorem ended_heldPut {s s1 : State} {q : Path} {k v : Nat} (h : s1 = s.heldPut q k v) :
    (s.ended s1).heldGet q k = some v ∧ (∀ p j, (p, j) ≠ (q, k) → (s.ended s1).heldGet p j = s.heldGet p j) ∧
      Only (fun _ => false) [.held] s (s.ended s1) := by
  subst h
  have e : ∀ p j, (s.ended (s.heldPut q k v)).heldGet p j = (s.heldPut q k v).heldGet p j := by
    intro p j; unfold State.heldGet; rw [State.ended_held]
  refine ⟨?_, fun p j hj => ?_, only_of_kept (fun _ _ => rfl) fun p hp => s.heldPut_kept q k v (List.ne_of_not_mem_cons hp)⟩
  · rw [e, State.heldGet_heldPut_same]
  · rw [e, State.heldGet_heldPut_other _ _ hj]

/-- The management paths reach no VI page (Table 02-15). -/
theorem mgmtWrites_viPage {k : Nat} (h : 0x8000000 ≤ k) : mgmtWrites k = false := by
  have htag : decide (k < R.IDN_TAG 64) = false := decide_eq_false (by unfold R.IDN_TAG; omega)
  have hpcm : decide (k < 0x300000) = false := decide_eq_false (by omega)
  have hcur : (k == R.EVT_CURSOR) = false := beq_false_of_ne (by unfold R.EVT_CURSOR; omega)
  have hstep : (k == R.EVT_CUR_STEP) = false := beq_false_of_ne (by unfold R.EVT_CUR_STEP; omega)
  simp only [mgmtWrites, htag, hpcm, hcur, hstep, Bool.and_false, Bool.false_and, Bool.or_self]
theorem mgmtReads_viPage {k : Nat} (h : 0x8000000 ≤ k) : mgmtReads k = false := by
  have hblk : decide (k < 0x400000) = false ∧ decide (k < 0x8000000) = false ∧ decide (k < 0x1C00000) = false := by
    simp only [decide_eq_false_iff_not]; omega
  have hcfg : (k == R.CFG_STATUS) = false ∧ (k == R.CFG_MATE_STATUS) = false := by
    simp only [beq_eq_false_iff_ne, R.CFG_STATUS, R.CFG_MATE_STATUS]; omega
  have hfp : (List.range 8).any (fun i => k == R.CFG_FINGERPRINT i) = false := by
    simp only [List.any_eq_false, List.mem_range, beq_iff_eq, R.CFG_FINGERPRINT]; omega
  have hcur : decide (k ≤ R.EVT_CUR_STEP) = false := decide_eq_false (by unfold R.EVT_CUR_STEP; omega)
  have hwin : decide (k < R.EVT_WIN 16) = false := decide_eq_false (by unfold R.EVT_WIN; omega)
  simp only [mgmtReads, hblk, hcfg, hfp, hcur, hwin, Bool.and_false, Bool.or_self]
theorem keyOf_mgmt_lt {s : State} {a : Access} {k : Nat} (hp : a.path = .i2c ∨ a.path = .uart) (hk : s.keyOf a = some k) : k < 0x8000000 := by
  have hm : (if mgmtReads a.off.toNat || mgmtWrites a.off.toNat then some a.off.toNat else none) = some k := by
    obtain hp | hp := hp <;> (rw [State.keyOf, hp] at hk; exact hk)
  by_contra hge
  obtain ⟨hin, hoff⟩ := Option.ite_none_right_eq_some.1 hm
  cases hoff
  rw [mgmtReads_viPage (Nat.not_lt.1 hge), mgmtWrites_viPage (Nat.not_lt.1 hge)] at hin
  exact absurd hin (by decide)
theorem pathWrites_of_viPage {s : State} {a : Access} {k : Nat} (hk : s.keyOf a = some k) (h : 0x8000000 ≤ k) : pathWrites a.path k = true := by
  cases hp : a.path with
  | pf0 => rfl
  | vf f => rfl
  | i2c => exact absurd (keyOf_mgmt_lt (.inl hp) hk) (Nat.not_lt.2 h)
  | uart => exact absurd (keyOf_mgmt_lt (.inr hp) hk) (Nat.not_lt.2 h)

theorem answers_lowWordWrite {s : State} {a : Access} {v : Word} {k : Nat} (h : s.accessWrite a v.toNat = s.heldPut a.path k v.toNat) :
    Answers (.lowWordWrite a v) s (fun t => t.heldGet a.path k = some v.toNat ∧
      (∀ p j, (p, j) ≠ (a.path, k) → t.heldGet p j = s.heldGet p j) ∧ Only (fun _ => false) [.held] s t) :=
  answers_of_finish rfl (ended_heldPut h)

/-! ### The pair CFG_DMA_ADDR -/

theorem rowAt_dmaLo : rowAt R.CFG_DMA_ADDR_LO = some ⟨0x600020, [], [⟨31, 0, .rw, 0, .n⟩]⟩ := by decide +kernel
theorem rowAt_dmaHi : rowAt R.CFG_DMA_ADDR_HI = some ⟨0x600024, [], [⟨31, 0, .rw, 0, .n⟩]⟩ := by decide +kernel

/-- A software write of a register that is one RW field of 32 bits. -/
theorem State.rd_writeFields_word (s : State) {k : Nat} (v : Nat) {b : Nat} {d : List (Nat × Nat)} {n : Nat} {q : RKind}
    (h : rowAt k = some ⟨b, d, [⟨31, 0, .rw, n, q⟩]⟩) (hc : ∀ w, swCode k ⟨31, 0, .rw, n, q⟩ w = some w) :
    (s.writeFields k v).rd k = v % 4294967296 := by
  have e : s.writeFields k v = s.setF k 31 0 (bitsOf v 31 0) := by
    unfold State.writeFields; rw [h]; dsimp only [List.foldl_cons, List.foldl_nil]; rw [hc]
  rw [e, State.rd_setF, if_pos rfl]
  simp only [putBits, bitsOf]; omega

theorem State.swWrite_dmaHi (s : State) (p : Path) (v : Nat) {w : Nat} (h : s.heldGet p R.CFG_DMA_ADDR_LO = some w) :
    s.swWrite p R.CFG_DMA_ADDR_HI v = ((s.writeFields R.CFG_DMA_ADDR_LO w).heldDel p R.CFG_DMA_ADDR_LO).writeFields R.CFG_DMA_ADDR_HI v := by
  have e : s.heldApply p R.CFG_DMA_ADDR_LO = (s.writeFields R.CFG_DMA_ADDR_LO w).heldDel p R.CFG_DMA_ADDR_LO := by
    rw [State.heldApply, h]
  rw [← e]; rfl

theorem answers_highWordWrite_dma {s : State} {a : Access} {v : Word} {w : Nat} (hf : s.fed = true) (hw : wholeWord a = true)
    (hs : a.same = none) (hk : s.keyOf a = some R.CFG_DMA_ADDR_HI) (hp : a.path = .pf0) (hh : s.heldGet .pf0 R.CFG_DMA_ADDR_LO = some w) :
    Answers (.highWordWrite a v) s (fun t =>
      t.rd R.CFG_DMA_ADDR_LO = w % 4294967296 ∧ t.rd R.CFG_DMA_ADDR_HI = v.toNat ∧ t.heldGet .pf0 R.CFG_DMA_ADDR_LO = none ∧
      Only (among [R.CFG_DMA_ADDR_LO, R.CFG_DMA_ADDR_HI]) [.held] s t) := by
  have hne : R.CFG_DMA_ADDR_HI ≠ R.CFG_DMA_ADDR_LO := by decide
  have e := accessWrite_reached hf hw hk (by rw [hp]; rfl) hs v.toNat
  rw [hp, s.swWrite_dmaHi .pf0 v.toNat hh] at e
  refine answers_of_finish (congrArg (finish s) e) ⟨?_, ?_, ?_, only_of_kept (fun j hj => ?_) fun p hp => ?_⟩
  · rw [State.ended_rd _ _ (by decide), State.rd_writeFields_other _ _ hne, State.rd_heldDel, State.rd_writeFields_word _ _ rowAt_dmaLo fun _ => rfl]
  · rw [State.ended_rd _ _ (by decide), State.rd_writeFields_word _ _ rowAt_dmaHi fun _ => rfl, Nat.mod_eq_of_lt v.isLt]
  · have hheld : ∀ t : State, (t.writeFields R.CFG_DMA_ADDR_HI v.toNat).held = t.held := fun t => State.writeFields_kept t _ (by decide) .held
    rw [State.heldGet, State.ended_held, hheld]
    exact State.heldGet_heldDel_same _ _ _
  · simp only [among, List.contains_cons, List.contains_nil, Bool.or_false, Bool.or_eq_false_iff, beq_eq_false_iff_ne] at hj
    rw [State.rd_writeFields_other _ _ hj.2.symm, State.rd_heldDel, State.rd_writeFields_other _ _ hj.1.symm]
  · exact Part.kept_trans (Part.kept_trans (State.writeFields_kept s _ (by decide) p) (State.heldDel_kept _ _ _ (List.ne_of_not_mem_cons hp)))
      (State.writeFields_kept _ _ (by decide) p)

end Sys2Proof.Machine
end

section
/-! SUPPORT. Software reads (R5, R7, R8), and the accesses as a whole. -/
namespace Sys2Proof.Machine

/-! ### Reads -/

/-- A register of PCM, WDN, CFG or SEP. -/
abbrev StatusBlock (k : Nat) : Prop :=
  (0x100000 ≤ k ∧ k < 0x200000) ∨ (0x300000 ≤ k ∧ k < 0x400000) ∨ (0x600000 ≤ k ∧ k < 0x700000) ∨ (0x5000000 ≤ k ∧ k < 0x6000000)
/-- The registers of these blocks a read of which does not return what the register holds alone: OTW, the pair of the operating hours,
measured values, pins. -/
def ownReads : List Nat := [R.PCM_STATUS, R.PCM_OP_HOURS_LO, R.PCM_OP_HOURS_HI, R.PCM_VMAIN, R.PCM_VBKP, R.PCM_VRTC, R.PCM_INPUT_POWER, R.PCM_PINS]
/-- None of them is a register of RC fields. -/
theorem ownReads_not_rc : ∀ j ∈ ownReads, (rowAt j).all (fun r => !r.flds.all (fun f => f.acc == .rc)) = true := by decide +kernel
theorem not_ownRead_of_rc {k : Nat} {r : Row} (hr : rowAt k = some r) (hrc : r.flds.all (fun f => f.acc == .rc) = true) : k ∉ ownReads := by
  intro hk
  have := ownReads_not_rc k hk
  rw [hr, Option.all_some, hrc] at this
  exact Bool.false_ne_true this

theorem State.crestNow_statusBlock (s : State) {k : Nat} (h : StatusBlock k) : s.crestNow k = none := by
  have hl : foldLane k = k := foldLane_of_lt (by omega)
  simp (disch := omega) only [State.crestNow, hl, R.SWC_USED_CREST, R.ING_Q_CREST, R.FAB_LOAD_CREST, R.LPE_LOAD_CREST, R.REC_BLK_CREST,
    R.SCH_TOK_CREST, R.SCH_READY_CREST, laneOff, if_neg]
theorem State.swRead_statusBlock (s : State) (p : Path) {k : Nat} (h : StatusBlock k) (hn : k ∉ ownReads) : s.swRead p k = s.readKey p k := by
  have hl : foldLane k = k := foldLane_of_lt (by omega)
  have hsub : (k == R.RTC_SUB) = false := beq_false_of_ne (by unfold R.RTC_SUB; omega)
  have hpps : (k == R.TMU_PPSIN_NS) = false := beq_false_of_ne (by unfold R.TMU_PPSIN_NS; omega)
  simp only [ownReads, List.mem_cons, List.not_mem_nil, or_false, not_or] at hn
  obtain ⟨-, -, -, hv1, hv2, hv3, hip, hpin⟩ := hn
  have hwin : ¬(R.EVT_WIN 0 ≤ k ∧ k < R.EVT_WIN 16 ∧ k % 4 = 0) := by unfold R.EVT_WIN; omega
  have hcur : k ≠ R.EVT_CURSOR ∧ k ≠ R.EVT_CUR_STATUS ∧ k ≠ R.PRT_PHY_CTRL := by
    unfold R.EVT_CURSOR R.EVT_CUR_STATUS R.PRT_PHY_CTRL; omega
  have han : k ≠ R.NRG_AN_SEL .a ∧ ¬(R.NRG_AN_WIN .a 0 ≤ k ∧ k < R.NRG_AN_WIN .a 4096) := by
    simp only [R.NRG_AN_SEL, R.NRG_AN_WIN, laneOff]; omega
  simp only [State.swRead, hl, hwin, hcur, han, hv1, hv2, hv3, hip, hpin, hsub, hpps, s.crestNow_statusBlock h, if_false, false_and, or_self,
    State.onIf_false]

theorem State.regNow_statusBlock (s : State) {k : Nat} (h : StatusBlock k) (hn : k ≠ R.PCM_STATUS) : s.regNow k = s.rd k := by
  simp (disch := omega) only [State.regNow, hn, if_false, if_neg]

theorem latchRows_apart : ∀ r ∈ latchRows, r = (R.PCM_OP_HOURS_LO, [], 1) ∨
    (spanApart 0xFFFF0 0x200000 r.1 r.2.1 && spanApart 0x2FFFF0 0x400000 r.1 r.2.1 && spanApart 0x4FFFFF0 0x6000000 r.1 r.2.1) = true := by
  decide +kernel
/-- In PCM, WDN and SEP the operating hours are the only pair whose high word a read latches. -/
theorem latchLen_plain {k : Nat} (h : (0xFFFF0 ≤ k ∧ k < 0x200000) ∨ (0x2FFFF0 ≤ k ∧ k < 0x400000) ∨ (0x4FFFFF0 ≤ k ∧ k < 0x6000000))
    (hn : k ≠ R.PCM_OP_HOURS_LO) : latchLen k = 0 := by
  have hl : foldLane k = k := foldLane_of_lt (by omega)
  have hnone : latchRows.find? (fun r => decide (r.1 ≤ k) && inDims r.2.1 (k - r.1)) = none := by
    refine List.find?_eq_none.2 fun r hr => ?_
    obtain rfl | hap := latchRows_apart r hr
    · simp only [Bool.and_eq_true, decide_eq_true_eq, inDims_nil, not_and]; omega
    · simp only [Bool.and_eq_true] at hap
      obtain ⟨⟨h1, h2⟩, h3⟩ := hap
      rw [Bool.not_eq_true]
      obtain ⟨ha, hb⟩ | ⟨ha, hb⟩ | ⟨ha, hb⟩ := h
      · exact not_inDims_of_apart h1 ha hb
      · exact not_inDims_of_apart h2 ha hb
      · exact not_inDims_of_apart h3 ha hb
  unfold latchLen
  rw [hl]
  dsimp only
  rw [hnone]
theorem latchLen_opHours : latchLen R.PCM_OP_HOURS_LO = 1 := by decide +kernel
theorem isLatched_plain {k : Nat} (h : plainKey k = true) (hn : k ≠ R.PCM_OP_HOURS_HI) : isLatched k = false := by
  obtain ⟨-, hk⟩ := plainKey_iff.1 h
  refine List.any_eq_false.2 fun i hi => ?_
  simp only [List.mem_cons, List.not_mem_nil, or_false] at hi
  simp only [Bool.and_eq_true, decide_eq_true_eq, not_and]
  intro h4
  by_cases e : k - 4 * i = R.PCM_OP_HOURS_LO
  · have hi1 : i ≠ 1 := by
      rintro rfl
      unfold R.PCM_OP_HOURS_LO at e; unfold R.PCM_OP_HOURS_HI at hn; omega
    rw [e, latchLen_opHours]; omega
  · rw [latchLen_plain (by omega) e]; omega

/-- A read of a register that latches nothing and is not latched. -/
theorem State.readKey_unlatched (s : State) (p : Path) {k : Nat} {r : Row} (hr : rowAt k = some r) (hi : isLatched k = false) (hl : latchLen k = 0) :
    s.readKey p k = (s.regNow k, s.editFlds k clearCode r.flds) := by
  unfold State.readKey
  rw [hr, hl]
  simp only [hi, Bool.false_eq_true, if_false, List.range_zero, List.foldl_nil, foldl_clear_eq_editFlds]

/-- A read of a plain register of RC fields returns what it holds and clears them (R7). -/
theorem State.swRead_rc (s : State) (p : Path) {k : Nat} {r : Row} (h : plainKey k = true) (hr : rowAt k = some r)
    (hrc : r.flds.all (fun f => f.acc == .rc) = true) : s.swRead p k = (s.rd k, s.editFlds k clearCode r.flds) := by
  have hn := not_ownRead_of_rc hr hrc
  have hb : StatusBlock k := by obtain ⟨-, hk⟩ := plainKey_iff.1 h; omega
  rw [s.swRead_statusBlock p hb hn]
  simp only [ownReads, List.mem_cons, List.not_mem_nil, or_false, not_or] at hn
  obtain ⟨hst, hlo, hhi, -⟩ := hn
  have hlen : latchLen k = 0 := by obtain ⟨-, hk⟩ := plainKey_iff.1 h; exact latchLen_plain (by omega) hlo
  rw [s.readKey_unlatched p hr (isLatched_plain h hhi) hlen, s.regNow_statusBlock hb hst]

@[simp] theorem State.pathGet_pathPut_same (s : State) (p : Path) (k v : Nat) : (s.pathPut p k v).pathGet p k = v := by
  simp [State.pathGet, State.pathPut]

/-- A read on PF0 that has changed its register alone: the value goes out, and nothing else changes. -/
theorem answers_rcRead_of {s t : State} {a : Access} {k x : Nat} {P : State → Prop} (e : s.accessRead a = t.answer .pf0 k x)
    (hpl : plainKey k = true) (hrd : ∀ j, k ≠ j → t.rd j = s.rd j) (hkept : ∀ p : Part, p.kept s t)
    (hP : ∀ u : State, u.out = .read .pf0 k x :: s.out → (∀ hi lo, u.fld k hi lo = t.fld k hi lo) → Only (among [k]) [.out] s u → P u) :
    Answers (.rcRead a) s P := by
  have ho : t.out = s.out := hkept .out
  refine answers_of_finish (congrArg (finish s) e) (hP _ ?_ (fun hi lo => ?_) (only_of_kept (fun j hj => ?_) fun p hp => ?_))
  · rw [State.ended_out, ← ho]; rfl
  · rw [s.ended_fld _ (plainKey_iff.1 hpl).1]; rfl
  · exact hrd j (among_single hj)
  · exact Part.kept_trans (hkept p) (State.emit_kept _ _ (List.ne_of_not_mem_cons hp))

theorem answers_rcRead {s : State} {a : Access} {k : Nat} {r : Row} (hf : s.fed = true) (hw : wholeWord a = true) (hs : a.same = none)
    (hk : s.keyOf a = some k) (hp : a.path = .pf0) (hpl : plainKey k = true) (hr : rowAt k = some r)
    (hrc : r.flds.all (fun f => f.acc == .rc) = true) :
    Answers (.rcRead a) s (fun t => t.out = .read .pf0 k (s.rd k) :: s.out ∧ (∀ f ∈ r.flds, t.fld k f.hi f.lo = 0) ∧ Only (among [k]) [.out] s t) := by
  have hlow : 0x100000 ≤ k := by obtain ⟨-, hk⟩ := plainKey_iff.1 hpl; omega
  have e := accessRead_reached hf hw hk hs hlow
  rw [hp, s.swRead_rc .pf0 hpl hr hrc] at e
  refine answers_rcRead_of e hpl (fun j => s.rd_editFlds_other _ _) (s.editFlds_kept _ _ (plainKey_ne hpl rfl)) fun u ho hfld honly =>
    ⟨ho, fun f hf => ?_, honly⟩
  rw [hfld, s.fld_editFlds k _ (tidy_of_plain hpl hr) hf, edited, clearCode, List.all_eq_true.1 hrc f hf]
  exact Nat.zero_mod _

theorem answers_rcRead_sameClock {s : State} {a : Access} {again : Word} {k : Nat} {r : Row} (hf : s.fed = true) (hw : wholeWord a = true)
    (hs : a.same = some again) (hk : s.keyOf a = some k) (hp : a.path = .pf0) (hpl : plainKey k = true) (hr : rowAt k = some r)
    (hc : s.crestNow k = none) (hrc : r.flds.all (fun f => f.acc == .rc) = true) :
    Answers (.rcRead a) s (fun t =>
      (∃ x, t.out = .read .pf0 k x :: s.out ∧ ∀ f ∈ r.flds, bitsOf x f.hi f.lo = s.fldWas k f.hi f.lo) ∧
      (∀ f ∈ r.flds, t.fld k f.hi f.lo = (s.fld k f.hi f.lo + 2 ^ (f.hi + 1 - f.lo) - s.fldWas k f.hi f.lo) % 2 ^ (f.hi + 1 - f.lo)) ∧
      Only (among [k]) [.out] s t) := by
  have hlow : 0x100000 ≤ k := by obtain ⟨-, hk⟩ := plainKey_iff.1 hpl; omega
  have ht := tidy_of_plain hpl hr
  have hst : k ≠ R.WDN_STATUS := plainKey_ne hpl rfl
  have e := accessRead_sameClock hf hw hk hs hlow
  rw [hp, s.swRead_rc .pf0 hpl hr hrc, s.raceRead_eq _ _ hr hc] at e
  have hacc : ∀ f ∈ r.flds, f.acc = .rc := fun f hf => beq_iff_eq.1 (List.all_eq_true.1 hrc f hf)
  refine answers_rcRead_of e hpl (fun j hj => ?_) (fun p => Part.kept_trans (s.editFlds_kept _ _ hst p) (State.editFlds_kept _ _ _ hst p))
    fun u ho hfld honly => ⟨⟨_, ho, fun f hf => bitsOf_readWas s k _ ht hacc hf⟩, fun f hf => ?_, honly⟩
  · rw [State.rd_editFlds_other _ _ _ hj, State.rd_editFlds_other _ _ _ hj]
  · rw [hfld, State.fld_editFlds _ k _ ht hf, edited, remainCode, List.all_eq_true.1 hrc f hf]
    exact Nat.mod_mod _ _

theorem latch_dmaLo : isLatched R.CFG_DMA_ADDR_LO = false ∧ latchLen R.CFG_DMA_ADDR_LO = 1 := by decide +kernel
/-- A read of CFG_DMA_ADDR_LO latches the high word on its path (R5). -/
theorem State.swRead_dmaLo (s : State) (p : Path) :
    s.swRead p R.CFG_DMA_ADDR_LO = (s.rd R.CFG_DMA_ADDR_LO, s.pathPut p R.CFG_DMA_ADDR_HI (s.rd R.CFG_DMA_ADDR_HI)) := by
  have hlo : StatusBlock R.CFG_DMA_ADDR_LO ∧ R.CFG_DMA_ADDR_LO ≠ R.PCM_STATUS := by decide
  have hhi : StatusBlock R.CFG_DMA_ADDR_HI ∧ R.CFG_DMA_ADDR_HI ≠ R.PCM_STATUS := by decide
  rw [s.swRead_statusBlock p hlo.1 (by decide), State.readKey, rowAt_dmaLo, latch_dmaLo.2]
  simp only [latch_dmaLo.1, Bool.false_eq_true, if_false]
  exact Prod.ext (State.regNow_statusBlock _ hlo.1 hlo.2) (congrArg (s.pathPut p R.CFG_DMA_ADDR_HI) (s.regNow_statusBlock hhi.1 hhi.2))

theorem answers_lowWordRead_dma {s : State} {a : Access} (hf : s.fed = true) (hw : wholeWord a = true) (hs : a.same = none)
    (hk : s.keyOf a = some R.CFG_DMA_ADDR_LO) (hp : a.path = .pf0) : Answers (.lowWordRead a) s (fun t =>
      t.out = .read .pf0 R.CFG_DMA_ADDR_LO (s.rd R.CFG_DMA_ADDR_LO) :: s.out ∧ t.pathGet .pf0 R.CFG_DMA_ADDR_HI = s.rd R.CFG_DMA_ADDR_HI ∧
      Only (fun _ => false) [.paths, .out] s t) := by
  have e := accessRead_reached hf hw hk hs (by decide)
  rw [hp, s.swRead_dmaLo] at e
  refine answers_of_finish (congrArg (finish s) e) ⟨?_, ?_, only_of_kept (fun _ _ => rfl) fun p hp => ?_⟩
  · rw [State.ended_out]; rfl
  · rw [State.pathGet, State.ended_paths]
    exact s.pathGet_pathPut_same .pf0 R.CFG_DMA_ADDR_HI (s.rd R.CFG_DMA_ADDR_HI)
  · obtain ⟨hpa, ho⟩ := List.ne_and_not_mem_of_not_mem_cons hp
    exact Part.kept_trans (s.pathPut_kept _ _ _ hpa) (State.emit_kept _ _ (List.ne_of_not_mem_cons ho))

/-- Settles O14: the writes and reads are walks over the fields of one register, each step of which sees its own field alone. -/
theorem softwareAccess : Obligations.SoftwareAccess := by
  unfold Obligations.SoftwareAccess
  refine ⟨?_, ?_, ?_, ?_, ?_, ?_, ?_, ?_, ?_⟩
  · intro s a v k hf hw hs hk hp hpl
    exact answers_registerWrite hf hw hs hk hp hpl
  · intro s a v again k hf hw hs hk hp hpl
    exact answers_registerWrite_sameClock hf hw hs hk hp hpl
  · intro s a v h
    exact answers_registerWrite_unreached h
  · intro s a v k hf hw hs hk hp hh hlt hset
    have hpw : pathWrites a.path k = true := by rw [hp]; rfl
    rw [← hp]
    exact answers_lowWordWrite ((accessWrite_reached hf hw hk hpw hs _).trans (s.swWrite_heldLow _ _ hh hlt hset))
  · intro s a v k hf hw hs hk hh hge hx hb
    exact answers_lowWordWrite ((accessWrite_reached hf hw hk (pathWrites_of_viPage hk hge) hs _).trans
      (s.swWrite_heldLow_viPage _ _ hh hge hx hb))
  · intro s a v w hf hw hs hk hp hh
    exact answers_highWordWrite_dma hf hw hs hk hp hh
  · intro s a hf hw hs hk hp
    exact answers_lowWordRead_dma hf hw hs hk hp
  · intro s a k r hf hw hs hk hp hpl hr hrc
    exact answers_rcRead hf hw hs hk hp hpl hr hrc
  · intro s a again k r hf hw hs hk hp hpl hc hr hrc
    exact answers_rcRead_sameClock hf hw hs hk hp hpl hr hc hrc

end Sys2Proof.Machine
end

section
/-! SUPPORT. The start of an energy save (R331): it changes the energy unit's registers and records alone. -/
namespace Sys2Proof.Machine

/-! ### What the energy unit keeps -/

section
variable {γ : Type} {g : State → γ} (hw : ∀ (s : State) (k v : Nat), 0x4000000 ≤ k → g (s.wr k v) = g s)
  (hm : ∀ (s : State) (l : Lane) (f : NrgLane → NrgLane), g (s.modNrg l f) = g s)

include hw in
theorem State.nrgStatus_keep (s : State) (l : Lane) : g (s.nrgStatus l) = g s := by
  have hk : 0x4000000 ≤ R.NRG_STATUS l := by unfold R.NRG_STATUS; omega
  exact (hw _ _ _ hk).trans ((hw _ _ _ hk).trans (hw _ _ _ hk))
include hw in
theorem State.wrs_keep (s : State) (k : Nat) (ws : List Nat) (h : 0x4000000 ≤ k) : g (s.wrs k ws) = g s :=
  foldl_keep (fun (s : State) (w : Nat × Nat) => s.wr (k + 4 * w.2) w.1) g (fun _ _ => hw _ _ _ (by omega)) _ _
include hw hm in
theorem State.demLatch_keep (s : State) (l : Lane) (e d : Nat) : g (s.demLatch l e d) = g s := by
  unfold State.demLatch State.setPt
  extract_lets cf p whole del info forced valid want flags s1 s2 mean mean' s3
  have h1 : g s1 = g s := (hw _ _ _ (by unfold R.NRG_PT_DEM_END; omega)).trans
    (State.wrs_keep hw s _ _ (by unfold R.NRG_PT_DEM; omega))
  have h2 : g s2 = g s := (hw _ _ _ (by unfold R.NRG_PT_DEM_INDICES; omega)).trans
    ((hw _ _ _ (by unfold R.NRG_PT_DEM_FLAGS; omega)).trans h1)
  have h3 : g s3 = g s := (State.onIf_keep _ _ _ g ((hw _ _ _ (by unfold R.NRG_PT_MAXDEM_INDEX; omega)).trans
    (hw _ _ _ (by unfold R.NRG_PT_MAXDEM; omega)))).trans h2
  exact (hm _ _ _).trans ((hw _ _ _ (by unfold R.NRG_PT_STATE; omega)).trans h3)
include hw hm in
theorem State.ptLatch_keep (s : State) (l : Lane) (e : Nat) : g (s.ptLatch l e) = g s := by
  unfold State.ptLatch
  extract_lets reached s1
  have h1 : g s1 = g s := foldl_keep _ g (fun s d => State.onIf_keep s _ _ g (State.demLatch_keep hw hm s l e d)) _ _
  split
  · exact (State.onIf_keep _ _ _ g (hm _ _ _)).trans h1
  · exact h1
include hw hm in
/-- The start of a save, from the entry of its run on: what the writes of the energy unit keep, it keeps. -/
theorem State.saveBegin_keep (hr : ∀ (s : State) (x : Nrg), g { s with nrg := x } = g s) (s : State) (sv cause : Nat) :
    g (s.saveBegin sv cause) = g s := by
  have hk : ∀ l, 0x4000000 ≤ R.NRG_SAVE_STATUS l := fun l => by unfold R.NRG_SAVE_STATUS; omega
  unfold State.saveBegin
  split
  · exact (foldl_keep _ g (fun s l => hw _ _ _ (hk l)) _ _).trans (hr s _)
  · refine (foldl_keep _ g (fun s l => ?_) _ _).trans (hr s _)
    exact (State.nrgStatus_keep hw _ l).trans ((foldl_keep _ g (fun s e => State.ptLatch_keep hw hm s l e) _ _).trans
      ((hm _ _ _).trans (hw _ _ _ (hk l))))
end

/-- A save that begins leaves a run under way: its own, or the one that holds it (R331). -/
theorem State.saveBegin_run (s : State) (sv cause : Nat) : (s.saveBegin sv cause).nrg.run.isSome = true := by
  unfold State.saveBegin
  split
  · next h =>
    rw [foldl_keep _ State.nrg (fun s l => s.setB_nrg _ _ _)]
    exact h
  · have hm : ∀ (s : State) (l : Lane) (f : NrgLane → NrgLane), (s.modNrg l f).nrg = s.nrg := fun s l f => by cases l <;> rfl
    rw [foldl_keep _ State.nrg fun s l => ?_]
    · rfl
    · rw [State.nrgStatus_keep (g := State.nrg) fun s k v _ => s.wr_nrg k v,
        foldl_keep _ State.nrg (fun s e => State.ptLatch_keep (g := State.nrg) (fun s k v _ => s.wr_nrg k v) hm s l e), hm]
      rfl
/-- A save leaves the power state and every register below the energy unit's. -/
theorem State.saveBegin_pwr (s : State) (sv cause : Nat) : (s.saveBegin sv cause).pwr = s.pwr :=
  State.saveBegin_keep (g := State.pwr) (fun s k v _ => s.wr_pwr k v) (fun s l f => by cases l <;> rfl) (fun _ _ => rfl) s sv cause
theorem State.rd_saveBegin (s : State) (sv cause : Nat) {k : Nat} (h : k < 0x4000000) : (s.saveBegin sv cause).rd k = s.rd k :=
  State.saveBegin_keep (g := fun s => s.rd k) (fun s j v hj => s.rd_wr_other v (by omega)) (fun s l f => by cases l <;> rfl)
    (fun s x => s.rd_with_nrg x k) s sv cause

end Sys2Proof.Machine
end

section
/-! SUPPORT. Entry into low tide, low tide and its exit (R30 to R32, R63, R176), and the key switch (R51). -/
namespace Sys2Proof.Machine

theorem State.wr_kept (s : State) {k : Nat} (v : Nat) (h : k ≠ R.WDN_STATUS) (p : Part) : p.kept s (s.wr k v) := by
  cases p
  case evt => exact ⟨rfl, s.bit_wr_other v 3 h⟩
  all_goals rfl
theorem State.with_pwr_kept (s : State) (x : Power) {p : Part} (hp : p ≠ .pwr) : p.kept s { s with pwr := x } := by
  cases p
  case pwr => exact absurd rfl hp
  case evt => exact ⟨rfl, rfl⟩
  all_goals rfl
theorem State.with_xl_kept (s : State) (x : LaneLink) {p : Part} (hp : p ≠ .xl) : p.kept s { s with xl := x } := by
  cases p
  case xl => exact absurd rfl hp
  case evt => exact ⟨rfl, rfl⟩
  all_goals rfl
/-- A command that changes nothing. -/
theorem answers_nothing {c : Instr} {s : State} (h : exec c s = finish s s) : Answers c s (Only (fun _ => false) [] s) :=
  answers_of_finish h (only_of_kept (fun _ _ => rfl) fun p _ => Part.kept_refl s p)

/-- What each step of a walk makes true of its own element, and no step undoes, holds of every element at its end. -/
theorem foldl_establishes {α β : Type} {f : β → α → β} {P : α → β → Prop} (hput : ∀ b a, P a (f b a))
    (hkeep : ∀ b a c, P c b → P c (f b a)) {l : List α} {a : α} (h : a ∈ l) (b : β) : P a (l.foldl f b) := by
  induction l generalizing b with
  | nil => cases h
  | cons d l ih =>
    rcases List.mem_cons.1 h with rfl | h
    · exact List.foldlRecOn l f (hput b a) fun t ht c _ => hkeep t c a ht
    · exact ih h _

/-! ### The time unit at the exit (R176) -/

theorem State.bit_holdEnter_same (s : State) (b : Nat) : (s.holdEnter b).bit (R.TB_STATUS b) 0 = true := by
  have hne : R.TMU_EVENTS ≠ R.TB_STATUS b := by unfold R.TMU_EVENTS R.TB_STATUS; omega
  unfold State.holdEnter
  cases h : s.bit (R.TB_STATUS b) 0 with
  | true => exact h
  | false => exact (State.bit_setB_other _ _ _ _ hne).trans (s.bit_setB_same _ _ _ (by decide))
theorem State.holdEnter_pwr (s : State) (b : Nat) : (s.holdEnter b).pwr = s.pwr := s.onIf_keep _ _ State.pwr rfl
theorem State.bit_validLost_same (s : State) (v : Nat) : (s.validLost v).bit (R.CV_CTRL v) 0 = false := by
  have hne : R.TMU_EVENTS ≠ R.CV_CTRL v := by unfold R.TMU_EVENTS R.CV_CTRL; omega
  unfold State.validLost
  cases h : s.bit (R.CV_CTRL v) 0 with
  | true => exact (State.bit_setB_other _ _ _ _ hne).trans (s.bit_setB_same _ _ _ (by decide))
  | false => exact h
theorem State.rd_validLost (s : State) (v : Nat) {k : Nat} (h1 : R.CV_CTRL v ≠ k) (h2 : R.TMU_EVENTS ≠ k) : (s.validLost v).rd k = s.rd k :=
  State.onIf_keep _ _ _ (fun t => t.rd k) (by rw [State.rd_setB, if_neg h2, State.rd_setB, if_neg h1])
theorem State.validLost_pwr (s : State) (v : Nat) : (s.validLost v).pwr = s.pwr := s.onIf_keep _ _ State.pwr rfl

theorem State.tmuWake_pwr (s : State) : s.tmuWake.pwr = s.pwr :=
  (foldl_keep _ State.pwr State.validLost_pwr _ _).trans (foldl_keep _ State.pwr State.holdEnter_pwr _ _)
theorem State.rd_tmuWake (s : State) {k : Nat} (h : k < 0x1800000) : s.tmuWake.rd k = s.rd k :=
  (State.foldl_rd _ k (fun s v => s.rd_validLost v (by unfold R.CV_CTRL; omega) (by unfold R.TMU_EVENTS; omega)) _ _).trans
    (State.foldl_rd _ k (fun s b => s.rd_holdEnter b k (by unfold R.TB_STATUS; omega) (by unfold R.TMU_EVENTS; omega)) _ _)
/-- Every time base is in holdover after low tide. -/
theorem State.tmuWake_holdover (s : State) (b : Tb) : s.tmuWake.bit (R.TB_STATUS b) 0 = true := by
  have hviews : ∀ (t : State) (v : Nat), (t.validLost v).rd (R.TB_STATUS b) = t.rd (R.TB_STATUS b) := fun t v =>
    t.rd_validLost v (by unfold R.CV_CTRL R.TB_STATUS; omega) (by unfold R.TMU_EVENTS R.TB_STATUS; omega)
  unfold State.tmuWake
  rw [State.bit, State.foldl_rd _ _ hviews]
  refine foldl_establishes (f := State.holdEnter) (P := fun b t => t.bit (R.TB_STATUS b) 0 = true) State.bit_holdEnter_same
    (fun t a c h => ?_) (List.mem_range.2 b.isLt) s
  by_cases e : a = c
  · exact e ▸ t.bit_holdEnter_same a
  · have hrd : (t.holdEnter a).rd (R.TB_STATUS c) = t.rd (R.TB_STATUS c) :=
      t.rd_holdEnter a _ (by unfold R.TB_STATUS; omega) (by unfold R.TMU_EVENTS R.TB_STATUS; omega)
    rw [State.bit, hrd]; exact h
/-- No clock view is valid after low tide. -/
theorem State.tmuWake_invalid (s : State) (v : Cv) : s.tmuWake.bit (R.CV_CTRL v) 0 = false := by
  unfold State.tmuWake
  refine foldl_establishes (f := State.validLost) (P := fun v t => t.bit (R.CV_CTRL v) 0 = false) State.bit_validLost_same
    (fun t a c h => ?_) (List.mem_range.2 v.isLt) _
  by_cases e : a = c
  · exact e ▸ t.bit_validLost_same a
  · rw [State.bit, t.rd_validLost a (by unfold R.CV_CTRL; omega) (by unfold R.TMU_EVENTS R.CV_CTRL; omega)]; exact h

/-! ### Wake sources and the exit (R32, R63) -/

theorem State.ltExit_pwr (s : State) (m : Nat) : (s.ltExit m).pwr = s.pwr := State.tmuWake_pwr _
theorem State.ltExit_state (s : State) (m : Nat) : (s.ltExit m).fld R.PCM_STATUS 2 0 = 5 := by
  rw [State.fld, State.ltExit, State.rd_tmuWake _ (by decide)]
  exact State.fld_setF_same _ _ _ _ _ (by decide) (by decide)
theorem State.bit_ltExit_cause (s : State) {m i : Nat} (h : m.testBit i = true) (hi : i < 32) : (s.ltExit m).bit R.PCM_WAKE_CAUSE i = true := by
  rw [State.bit, State.ltExit, State.rd_tmuWake _ (by decide), State.rd_setF, if_neg (by decide), State.rd_orR, if_pos rfl,
    testBit_mod_two32 _ _ hi, Nat.testBit_or, h, Bool.or_true]
theorem State.rd_ltExit (s : State) (m : Nat) {k : Nat} (h : k < 0x1800000) (h1 : R.PCM_STATUS ≠ k) (h2 : R.PCM_WAKE_CAUSE ≠ k) :
    (s.ltExit m).rd k = s.rd k := by
  rw [State.ltExit, State.rd_tmuWake _ h, State.rd_setF, if_neg h1, State.rd_orR, if_neg h2]

theorem State.wake_lowTide {s : State} (h : s.power = 3) (n : Nat) : s.wake n = s.ltExit (2 ^ n) := by rw [State.wake, if_pos h]
theorem State.wake_entering {s : State} (h : s.power = 4) (n : Nat) :
    s.wake n = { s with pwr := { s.pwr with heldWake := s.pwr.heldWake ||| 2 ^ n } } := by
  rw [State.wake, if_neg (by omega), if_pos h]
theorem State.wake_elsewhere {s : State} (h3 : s.power ≠ 3) (h4 : s.power ≠ 4) (n : Nat) : s.wake n = s := by
  rw [State.wake, if_neg h3, if_neg h4]

theorem wakeBit_lt (p : Path) : wakeBit p < 32 := by unfold wakeBit; split <;> decide
theorem execWake_eq (p : Path) (s : State) : exec (.wake p) s = finish s (s.wake (wakeBit p)) := by cases p <;> rfl

/-- A wake source in low tide starts the exit. -/
theorem answers_wake_lowTide {c : Instr} {s : State} {n : Nat} (hc : exec c s = finish s (s.wake n)) (h : s.power = 3) (hn : n < 32) :
    Answers c s (fun t => t.fld R.PCM_STATUS 2 0 = 5 ∧ t.bit R.PCM_WAKE_CAUSE n = true ∧
      (∀ b : Tb, t.bit (R.TB_STATUS b) 0 = true) ∧ ∀ v : Cv, t.bit (R.CV_CTRL v) 0 = false) := by
  rw [State.wake_lowTide h] at hc
  refine answers_of_finish hc ⟨?_, ?_, fun b => ?_, fun v => ?_⟩
  · exact (s.ended_fld _ (by decide) _ _).trans (s.ltExit_state _)
  · exact (s.ended_bit _ (by decide) _).trans (s.bit_ltExit_cause (Nat.testBit_two_pow_self) hn)
  · exact (s.ended_bit _ (settleKey_time _ (by unfold R.TB_STATUS; omega) (by unfold R.TB_STATUS; omega)) _).trans
      (State.tmuWake_holdover _ b)
  · exact (s.ended_bit _ (settleKey_time _ (by unfold R.CV_CTRL; omega) (by unfold R.CV_CTRL; omega)) _).trans
      (State.tmuWake_invalid _ v)
/-- A wake source during the entry is held. -/
theorem answers_wake_entering {c : Instr} {s : State} {n : Nat} (hc : exec c s = finish s (s.wake n)) (h : s.power = 4) :
    Answers c s (fun t => t.pwr.heldWake = s.pwr.heldWake ||| 2 ^ n ∧ Only (fun _ => false) [.pwr] s t) := by
  rw [State.wake_entering h] at hc
  refine answers_of_finish hc ⟨?_, only_of_kept (fun _ _ => rfl) fun p hp => ?_⟩
  · obtain ⟨a, b, e⟩ := s.ended_pwr { s with pwr := { s.pwr with heldWake := s.pwr.heldWake ||| 2 ^ n } }
    rw [e]
  · exact s.with_pwr_kept _ (List.ne_of_not_mem_cons hp)

/-! ### Entry (R31) -/

theorem State.ltRefusal_lt (s : State) : s.ltRefusal < 16 := by
  unfold State.ltRefusal
  extract_lets prot loop
  have hp := b2n_lt prot
  have hl := b2n_lt loop
  have hk := b2n_lt (!s.bit R.PCM_PINS 1)
  have hs := b2n_lt (s.power != 2)
  omega
theorem State.ltEnter_refused {s : State} (h : s.ltRefusal ≠ 0) :
    s.ltEnter = (s.wr R.PCM_REFUSE s.ltRefusal).setB R.PCM_EVENTS 7 true := by
  unfold State.ltEnter; exact if_pos h

/-- The state of an entry that has been accepted, before the save begins. -/
def State.ltAccepted (s : State) : State :=
  { s.setF R.PCM_STATUS 2 0 4 with pwr := { s.pwr with heldWake := 0, ltWaitX := true } }
theorem State.ltEnter_accepted {s : State} (h : s.ltRefusal = 0) : s.ltEnter = s.ltAccepted.ltPoke := by
  unfold State.ltEnter; exact if_neg (not_not_intro h)
theorem State.ltAccepted_power (s : State) : s.ltAccepted.power = 4 := s.fld_setF_same _ _ _ _ (by decide) (by decide)
theorem State.ltAccepted_rsBusy (s : State) : s.ltAccepted.rsBusy = s.rsBusy :=
  congrArg (Nat.testBit · 0) ((s.rd_setF _ _ _ _ _).trans (if_neg (by decide)))
/-- An entry that has been accepted waits while an exchange or a repair is pending (R84), and else its save begins. -/
theorem State.ltPoke_entering {s : State} (h : s.power = 4) (hw : s.pwr.ltWaitX = true) :
    s.ltPoke.power = 4 ∧ s.ltPoke.pwr = { s.pwr with ltWaitX := s.ldr.xchg.isSome || s.rsBusy } ∧
      (s.ltPoke.pwr.ltWaitX = false → s.ltPoke.nrg.run.isSome = true) := by
  have hpoke : s.ltPoke = s.onIf (!(s.ldr.xchg.isSome || s.rsBusy)) (fun s =>
      ({ s with pwr := { s.pwr with ltWaitX := false } } : State).ltBegin) := by
    unfold State.ltPoke
    rw [h, hw]
    cases s.ldr.xchg <;> rfl
  rw [hpoke]
  cases s.ldr.xchg.isSome || s.rsBusy with
  | true =>
    have hpwr : s.pwr = { s.pwr with ltWaitX := true } := by rw [← hw]
    exact ⟨h, hpwr, fun hno => absurd (hw.symm.trans hno) (by decide)⟩
  | false =>
    refine ⟨?_, State.saveBegin_pwr _ _ _, fun _ => State.saveBegin_run _ _ _⟩
    exact (congrArg (bitsOf · 2 0) (State.rd_saveBegin _ _ _ (by decide))).trans h
theorem State.ltPoke_not_waiting {s : State} (h : s.pwr.ltWaitX = false) : s.ltPoke = s := by
  unfold State.ltPoke
  rw [h, Bool.and_false, Bool.false_and, Bool.false_and]; rfl
theorem State.ltPoke_elsewhere {s : State} (h : s.power ≠ 4) : s.ltPoke = s := by
  unfold State.ltPoke
  rw [beq_false_of_ne h, Bool.false_and, Bool.false_and, Bool.false_and]; rfl

theorem answers_enterLowTide_refused {s : State} (h : s.ltRefusal ≠ 0) : Answers .enterLowTide s (fun t =>
    t.rd R.PCM_REFUSE = s.ltRefusal ∧ t.bit R.PCM_EVENTS 7 = true ∧ Only (among [R.PCM_REFUSE, R.PCM_EVENTS]) [] s t) := by
  have hc : exec .enterLowTide s = finish s ((s.wr R.PCM_REFUSE s.ltRefusal).setB R.PCM_EVENTS 7 true) :=
    congrArg (finish s) (State.ltEnter_refused h)
  refine answers_of_finish hc ⟨?_, ?_, only_of_kept (fun k hk => ?_) fun p _ => ?_⟩
  · rw [s.ended_rd _ (by decide), State.rd_setB, if_neg (by decide), State.rd_wr_same]
    exact Nat.mod_eq_of_lt (Nat.lt_trans s.ltRefusal_lt (by decide))
  · exact (s.ended_bit _ (by decide) _).trans (State.bit_setB_same _ _ _ _ (by decide))
  · simp only [among, List.contains_cons, List.contains_nil, Bool.or_false, Bool.or_eq_false_iff, beq_eq_false_iff_ne] at hk
    obtain ⟨hr, he⟩ := hk
    rw [State.rd_setB, if_neg he.symm, State.rd_wr_other _ _ hr.symm]
  · exact Part.kept_trans (s.wr_kept _ (by decide) p) (State.setF_kept _ _ _ _ (by decide) p)

theorem answers_enterLowTide_begins {s : State} (h : s.ltRefusal = 0) : Answers .enterLowTide s (fun t =>
    t.fld R.PCM_STATUS 2 0 = 4 ∧ t.pwr.heldWake = 0 ∧ t.pwr.ltWaitX = (s.ldr.xchg.isSome || s.rsBusy) ∧
    (t.pwr.ltWaitX = false → t.nrg.run.isSome = true)) := by
  obtain ⟨hst, hpwr, hrun⟩ := State.ltPoke_entering s.ltAccepted_power rfl
  obtain ⟨a, b, e⟩ := s.ended_pwr s.ltAccepted.ltPoke
  refine answers_of_finish (congrArg (finish s) (State.ltEnter_accepted h)) ?_
  rw [s.ended_nrg, e]
  refine ⟨(s.ended_fld _ (by decide) _ _).trans hst, ?_, ?_, hrun⟩
  · rw [hpwr]; rfl
  · rw [hpwr, s.ltAccepted_rsBusy]; rfl

/-! ### Low tide (R31) -/

theorem State.trigOutSet_pwr (s : State) (v : Nat) : (s.trigOutSet v).pwr = { s.pwr with trigOut := v } := by
  unfold State.trigOutSet
  exact foldl_keep _ State.pwr (fun s n => by split <;> rfl) _ _
theorem State.rd_trigOutSet (s : State) (v k : Nat) : (s.trigOutSet v).rd k = s.rd k := by
  unfold State.trigOutSet
  exact State.foldl_rd _ k (fun s n => by split <;> rfl) _ _
/-- The Start levels are 0 on every DOUT pin, DOUT_ARM and PPS_OUT (R48). -/
theorem State.startLevels_pwr (s : State) : s.startLevels.pwr =
    { s.pwr with trigOut := 0, doutPins := 0, doutArm := false, ppsOut := false } := by
  unfold State.startLevels
  dsimp only
  rw [State.trigOutSet_pwr, State.onIf_keep s _ _ State.pwr rfl]
theorem State.rd_startLevels (s : State) (k : Nat) : s.startLevels.rd k = s.rd k :=
  (State.rd_trigOutSet _ _ _).trans (s.rd_onIf _ _ k rfl)

/-- The end of an entry: the wake sources held during it start the exit (R63). -/
def State.exitIfHeld (s : State) : State :=
  s.onIf (s.pwr.heldWake != 0) (fun t => ({ t with pwr := { t.pwr with heldWake := 0 } } : State).ltExit s.pwr.heldWake)
theorem State.exitIfHeld_pwr (s : State) : s.exitIfHeld.pwr = { s.pwr with heldWake := 0 } := by
  unfold State.exitIfHeld
  cases h : s.pwr.heldWake != 0 with
  | true => rw [State.onIf_true, State.ltExit_pwr]
  | false =>
    have h0 : s.pwr.heldWake = 0 := by simpa using h
    rw [State.onIf_false, ← h0]
theorem State.exitIfHeld_state {s : State} (h : s.fld R.PCM_STATUS 2 0 = 3) :
    s.exitIfHeld.fld R.PCM_STATUS 2 0 = 3 ∨ s.exitIfHeld.fld R.PCM_STATUS 2 0 = 5 := by
  unfold State.exitIfHeld
  cases s.pwr.heldWake != 0 with
  | true => rw [State.onIf_true]; exact .inr (State.ltExit_state _ _)
  | false => rw [State.onIf_false]; exact .inl h

/-- What an entry ends with, once its save is done. -/
theorem State.ltEntered_saved {s : State} (h : s.power = 4) (hw : s.pwr.ltWaitX = false) (hr : s.nrg.run = none) :
    ∃ u : State, s.ltEntered = (u.setF R.PCM_STATUS 2 0 3).startLevels.exitIfHeld := by
  unfold State.ltEntered
  rw [State.ltPoke_not_waiting hw, if_neg (by simp [h, hw, hr])]
  exact ⟨_, rfl⟩
theorem State.ltEntered_early {s : State} (h : s.power ≠ 4 ∨ s.pwr.ltWaitX = false ∧ s.nrg.run.isSome = true) : s.ltEntered = s := by
  have hpoke : s.ltPoke = s := h.elim State.ltPoke_elsewhere fun h => State.ltPoke_not_waiting h.1
  unfold State.ltEntered
  rw [hpoke, if_pos (by obtain h | ⟨-, h⟩ := h <;> simp [h])]

theorem answers_lowTideEntered {s : State} (h : s.power = 4) (hw : s.pwr.ltWaitX = false) (hr : s.nrg.run = none) :
    Answers .lowTideEntered s (fun t => (t.fld R.PCM_STATUS 2 0 = 3 ∨ t.fld R.PCM_STATUS 2 0 = 5) ∧ t.pwr.heldWake = 0 ∧
      t.pwr.doutPins = 0 ∧ t.pwr.doutArm = false ∧ t.pwr.ppsOut = false) := by
  obtain ⟨u, hu⟩ := State.ltEntered_saved h hw hr
  have hc : exec .lowTideEntered s = finish s (u.setF R.PCM_STATUS 2 0 3).startLevels.exitIfHeld := congrArg (finish s) hu
  refine answers_of_finish hc ?_
  obtain ⟨a, b, e⟩ := s.ended_pwr (u.setF R.PCM_STATUS 2 0 3).startLevels.exitIfHeld
  rw [e, State.exitIfHeld_pwr, State.startLevels_pwr, s.ended_fld _ (by decide)]
  refine ⟨State.exitIfHeld_state ?_, rfl, rfl, rfl, rfl⟩
  rw [State.fld, State.rd_startLevels]
  exact u.fld_setF_same _ _ _ _ (by decide) (by decide)

/-! ### The end of the exit (R26, R32) -/

theorem State.ltLeft_leaving {s : State} (h : s.power = 5) :
    ∃ u : State, s.ltLeft = (((u.setF R.PCM_STATUS 2 0 2).setB R.PCM_EVENTS 8 true).doutDrive).eventOpen 0x13 := by
  unfold State.ltLeft
  rw [if_neg (not_not_intro h)]
  exact ⟨_, rfl⟩
theorem State.rd_doutDrive (s : State) (k : Nat) : s.doutDrive.rd k = s.rd k := rfl

theorem answers_lowTideExitDone {s : State} (h : s.power = 5) :
    Answers .lowTideExitDone s (fun t => t.fld R.PCM_STATUS 2 0 = 2 ∧ t.bit R.PCM_EVENTS 8 = true) := by
  obtain ⟨u, hu⟩ := State.ltLeft_leaving h
  have hrd : ∀ k, k ≠ R.EVT_LOST → k ≠ R.EVT_EVENTS →
      s.ltLeft.rd k = ((u.setF R.PCM_STATUS 2 0 2).setB R.PCM_EVENTS 8 true).rd k := fun k h1 h2 => by
    rw [hu, State.rd_eventOpen _ _ h1 h2, State.rd_doutDrive]
  have hc : exec .lowTideExitDone s = finish s s.ltLeft := rfl
  refine answers_of_finish hc ⟨?_, ?_⟩
  · rw [s.ended_fld _ (by decide), State.fld, hrd _ (by decide) (by decide), State.rd_setB, if_neg (by decide)]
    exact u.fld_setF_same _ _ _ _ (by decide) (by decide)
  · rw [s.ended_bit _ (by decide), State.bit, hrd _ (by decide) (by decide)]
    exact State.bit_setB_same _ _ _ _ (by decide)

/-! ### The key switch (R51, R305) -/

section
variable {s : State} {k1 k0 : Bool}

theorem State.fld_setKeyPins (s : State) (k1 k0 : Bool) :
    (s.setF R.PCM_PINS 1 0 (2 * b2n k1 + b2n k0)).fld R.PCM_PINS 1 0 = 2 * b2n k1 + b2n k0 := by
  have hlt : 2 * b2n k1 + b2n k0 < 2 ^ (1 + 1 - 0) := by cases k1 <;> cases k0 <;> decide
  exact (s.fld_setF_same _ _ _ _ (by decide) (by decide)).trans (Nat.mod_eq_of_lt hlt)
theorem State.setKeyPins_power (s : State) (v : Nat) : (s.setF R.PCM_PINS 1 0 v).power = s.power :=
  s.fld_setF_other _ _ _ _ _ (by decide)
theorem State.keySwitch_same (h : s.fld R.PCM_PINS 1 0 = 2 * b2n k1 + b2n k0) : s.keySwitch k1 k0 = s := if_pos h
/-- A new position shows, wakes, and while the module is past Start queues its mode. -/
theorem State.keySwitch_moved (h : s.fld R.PCM_PINS 1 0 ≠ 2 * b2n k1 + b2n k0) : s.keySwitch k1 k0 =
    ((s.setF R.PCM_PINS 1 0 (2 * b2n k1 + b2n k0)).wake 8).onIf
      (decide (2 ≤ ((s.setF R.PCM_PINS 1 0 (2 * b2n k1 + b2n k0)).wake 8).power))
      (fun s => { s with xl := { s.xl with modes := s.xl.modes ++ [(s.now + 100000, .mode (some (keyMode k1 k0)) none)] } }) := if_neg h

theorem answers_keySwitch_running (h : s.fld R.PCM_PINS 1 0 ≠ 2 * b2n k1 + b2n k0) (h2 : s.power = 2) :
    Answers (.keySwitchChange k1 k0) s (fun t => t.fld R.PCM_PINS 1 0 = 2 * b2n k1 + b2n k0 ∧
      t.xl.modes = s.xl.modes ++ [(s.now + 100000, .mode (some (keyMode k1 k0)) none)] ∧ Only (among [R.PCM_PINS]) [.xl] s t) := by
  have hpow := (s.setKeyPins_power (2 * b2n k1 + b2n k0)).trans h2
  have hsw := State.keySwitch_moved h
  rw [State.wake_elsewhere (by omega) (by omega), hpow] at hsw
  refine answers_of_finish (congrArg (finish s) hsw) ⟨?_, ?_, only_of_kept (fun k hk => ?_) fun p hp => ?_⟩
  · exact (s.ended_fld _ (by decide) _ _).trans (s.fld_setKeyPins k1 k0)
  · rw [s.ended_xl]; rfl
  · simp only [among, List.contains_cons, List.contains_nil, Bool.or_false, beq_eq_false_iff_ne] at hk
    exact (s.rd_setF _ _ _ _ k).trans (if_neg hk.symm)
  · exact Part.kept_trans (s.setF_kept _ _ _ (by decide) p) (State.with_xl_kept _ _ (List.ne_of_not_mem_cons hp))

theorem answers_keySwitch_lowTide (h : s.fld R.PCM_PINS 1 0 ≠ 2 * b2n k1 + b2n k0) (h3 : s.power = 3) :
    Answers (.keySwitchChange k1 k0) s (fun t => t.fld R.PCM_PINS 1 0 = 2 * b2n k1 + b2n k0 ∧ t.fld R.PCM_STATUS 2 0 = 5 ∧
      t.bit R.PCM_WAKE_CAUSE 8 = true) := by
  have hrd : ∀ k, (s.keySwitch k1 k0).rd k = ((s.setF R.PCM_PINS 1 0 (2 * b2n k1 + b2n k0)).ltExit (2 ^ 8)).rd k := fun k => by
    rw [State.keySwitch_moved h, State.rd_onIf, State.wake_lowTide ((s.setKeyPins_power _).trans h3)]; rfl
  have hc : exec (.keySwitchChange k1 k0) s = finish s (s.keySwitch k1 k0) := rfl
  refine answers_of_finish hc ⟨?_, ?_, ?_⟩
  · rw [s.ended_fld _ (by decide), State.fld, hrd, State.rd_ltExit _ _ (by decide) (by decide) (by decide)]
    exact s.fld_setKeyPins k1 k0
  · rw [s.ended_fld _ (by decide), State.fld, hrd]
    exact State.ltExit_state _ _
  · rw [s.ended_bit _ (by decide), State.bit, hrd]
    exact State.bit_ltExit_cause _ (by decide) (by decide)
end

/-- Settles O8: the operations of each command, taken apart by the power state; what follows the change of STATE writes other
registers than those the statement names. -/
theorem lowTideAndKeySwitch : Obligations.LowTideAndKeySwitch := by
  unfold Obligations.LowTideAndKeySwitch
  refine ⟨?_, ?_, ?_, ?_, ?_, ?_, ?_, ?_, ?_, ?_, ?_, ?_⟩
  · exact fun s h => answers_enterLowTide_refused h
  · exact fun s h => answers_enterLowTide_begins h
  · exact fun s h hw hr => answers_lowTideEntered h hw hr
  · exact fun s h => answers_nothing (congrArg (finish s) (State.ltEntered_early h))
  · intro s p h
    have hwake := answers_wake_lowTide (execWake_eq p s) h (wakeBit_lt p)
    cases p <;> exact hwake
  · intro s p h
    have hwake := answers_wake_entering (execWake_eq p s) h
    cases p <;> exact hwake
  · intro s p h3 h4
    exact answers_nothing (congrArg (finish s) (State.wake_elsewhere h3 h4 _))
  · exact fun s h => answers_lowTideExitDone h
  · exact fun s h => answers_nothing (congrArg (finish s) (if_pos h))
  · exact fun s k1 k0 h h2 => answers_keySwitch_running h h2
  · exact fun s k1 k0 h h3 => answers_keySwitch_lowTide h h3
  · exact fun s k1 k0 h => answers_nothing (congrArg (finish s) (State.keySwitch_same h))

end Sys2Proof.Machine
end

section
/-! SUPPORT. What the operations of one command change: registers of a list and parts of a list, one operation after another. -/
namespace Sys2Proof.Machine

/-- From `s` to `t`, both before the end of the command, only registers of `l` and parts of `ps` have changed. -/
def ChangesOnly (l : List Nat) (ps : List Part) (s t : State) : Prop :=
  (∀ k, k ∉ l → t.rd k = s.rd k) ∧ ∀ p, p ∉ ps → p.kept s t

section
variable {l : List Nat} {ps : List Part} {s t u : State}

theorem ChangesOnly.refl (l : List Nat) (ps : List Part) (s : State) : ChangesOnly l ps s s := ⟨fun _ _ => rfl, fun p _ => Part.kept_refl s p⟩
theorem ChangesOnly.trans (h : ChangesOnly l ps s t) (h' : ChangesOnly l ps t u) : ChangesOnly l ps s u :=
  ⟨fun k hk => (h'.1 k hk).trans (h.1 k hk), fun p hp => Part.kept_trans (h.2 p hp) (h'.2 p hp)⟩
theorem ChangesOnly.onIf (h : ChangesOnly l ps s t) (c : Bool) {f : State → State} (hf : ChangesOnly l ps s t → ChangesOnly l ps s (f t)) :
    ChangesOnly l ps s (t.onIf c f) := by
  cases c
  · exact h
  · exact hf h
theorem ChangesOnly.wr (h : ChangesOnly l ps s t) {k : Nat} (v : Nat) (hk : k ∈ l) (hw : k ≠ R.WDN_STATUS) : ChangesOnly l ps s (t.wr k v) :=
  h.trans ⟨fun _ hj => t.rd_wr_other v (fun e => hj (e ▸ hk)), fun p _ => t.wr_kept v hw p⟩
theorem ChangesOnly.setB (h : ChangesOnly l ps s t) {k : Nat} (i : Nat) (b : Bool) (hk : k ∈ l) (hw : k ≠ R.WDN_STATUS) :
    ChangesOnly l ps s (t.setB k i b) := h.wr _ hk hw
theorem ChangesOnly.with_pwr (h : ChangesOnly l ps s t) (x : Power) (hp : .pwr ∈ ps) : ChangesOnly l ps s { t with pwr := x } :=
  h.trans ⟨fun _ _ => rfl, fun _ hq => t.with_pwr_kept x (fun e => hq (e ▸ hp))⟩
theorem ChangesOnly.emit (h : ChangesOnly l ps s t) (x : Out) (hp : .out ∈ ps) : ChangesOnly l ps s (t.emit x) :=
  h.trans ⟨fun _ _ => rfl, fun _ hq => t.emit_kept x (fun e => hq (e ▸ hp))⟩

theorem ChangesOnly.bit (h : ChangesOnly l ps s t) {k : Nat} (hk : k ∉ l) (j : Nat) : t.bit k j = s.bit k j :=
  congrArg (Nat.testBit · j) (h.1 k hk)

/-- The frame of a command whose operations change only this: the registers that follow other state are exempt. -/
theorem ChangesOnly.only {f : Nat → Bool} (h : ChangesOnly l ps s t) (hf : ∀ k ∈ l, (f k || settleKey k) = true) : Only f ps s (s.ended t) := by
  refine ⟨fun k hk hs => (s.ended_rd t hs).trans (h.1 k fun hl => ?_), fun p hp => Part.same_of_kept (h.2 p hp)⟩
  have := hf k hl
  rw [hk, hs] at this
  exact Bool.false_ne_true this
theorem ChangesOnly.only_among (h : ChangesOnly l ps s t) : Only (among l) ps s (s.ended t) :=
  h.only fun k hk => by rw [among, List.contains_iff_mem.2 hk, Bool.true_or]
end

theorem State.bit_setB (s : State) (k i : Nat) (b : Bool) {j : Nat} (h : j < 32) :
    (s.setB k i b).bit k j = if i = j then b else s.bit k j := by
  by_cases e : i = j
  · rw [if_pos e, ← e]; exact s.bit_setB_same k i b (e ▸ h)
  · rw [if_neg e]; exact s.bit_setB_apart k b h e
theorem State.bit_onIf (s : State) (c : Bool) (f : State → State) (k j : Nat) :
    (s.onIf c f).bit k j = if c then (f s).bit k j else s.bit k j := by cases c <;> rfl

end Sys2Proof.Machine
end

section
/-! SUPPORT. The supplies (R41, R42, R50, R62): valid and invalid, transfers, over-voltage, the committed hours. -/
namespace Sys2Proof.Machine

/-! ### PCM events and the always-on island -/

section
variable {l : List Nat} {ps : List Part} {s t : State}

theorem ChangesOnly.pcmEvent (h : ChangesOnly l ps s t) (n : Nat) (he : R.PCM_EVENTS ∈ l) : ChangesOnly l ps s (t.pcmEvent n) :=
  h.onIf _ fun h => h.setB _ _ he (by decide)
theorem ChangesOnly.islandOff (h : ChangesOnly l ps s t) (hl : R.PCM_OP_HOURS_LO ∈ l) (hh : R.PCM_OP_HOURS_HI ∈ l) :
    ChangesOnly l ps s t.islandOff :=
  h.onIf _ fun h => (h.wr _ hl (by decide)).wr _ hh (by decide)
theorem ChangesOnly.transferBkp (h : ChangesOnly l ps s t) (hs : R.PCM_STATUS ∈ l) (he : R.PCM_EVENTS ∈ l) : ChangesOnly l ps s t.transferBkp :=
  h.onIf _ fun h => (h.setB _ _ hs (by decide)).pcmEvent _ he
end

theorem State.bit_pcmEvent (s : State) (n : Nat) {j : Nat} (h : j < 32) :
    (s.pcmEvent n).bit R.PCM_EVENTS j = (s.bit R.PCM_EVENTS j || (s.fed && n == j)) := by
  rw [State.pcmEvent, State.bit_onIf, s.bit_setB _ _ _ h]
  by_cases e : n = j <;> cases s.fed <;> simp [e]
theorem State.bit_pcmEvent_other (s : State) (n : Nat) {k : Nat} (h : k ≠ R.PCM_EVENTS) (j : Nat) : (s.pcmEvent n).bit k j = s.bit k j :=
  ((ChangesOnly.refl [R.PCM_EVENTS] [] s).pcmEvent n List.mem_cons_self).bit (List.not_mem_cons_of_ne_of_not_mem h List.not_mem_nil) j
theorem State.bit_islandOff (s : State) {k : Nat} (h : k ∉ [R.PCM_OP_HOURS_LO, R.PCM_OP_HOURS_HI]) (j : Nat) : s.islandOff.bit k j = s.bit k j :=
  ((ChangesOnly.refl [R.PCM_OP_HOURS_LO, R.PCM_OP_HOURS_HI] [] s).islandOff (by decide) (by decide)).bit h j
theorem State.pcmEvent_pwr (s : State) (n : Nat) : (s.pcmEvent n).pwr = s.pwr := s.onIf_keep _ _ State.pwr rfl
theorem State.islandOff_pwr (s : State) : s.islandOff.pwr = s.pwr := s.onIf_keep _ _ State.pwr rfl
theorem State.transferBkp_pwr (s : State) : s.transferBkp.pwr = s.pwr := s.onIf_keep _ _ State.pwr (State.pcmEvent_pwr _ _)

/-- VBKP has to take over: VMAIN is not valid, VBKP is, and does not feed yet (R42). -/
def State.backupDue (s : State) : Bool := !s.bit R.PCM_STATUS 4 && s.bit R.PCM_STATUS 5 && !s.bit R.PCM_STATUS 6
theorem State.transferBkp_eq (s : State) : s.transferBkp = s.onIf s.backupDue (fun s => (s.setB R.PCM_STATUS 6 true).pcmEvent 0) := rfl
theorem State.fed_of_backupDue {s : State} (h : s.backupDue = true) : s.fed = true := by
  simp only [State.backupDue, Bool.and_eq_true] at h
  rw [State.fed, h.1.2, Bool.or_true]
theorem State.fed_setB_status (s : State) {i : Nat} (b : Bool) (h : 6 ≤ i) : (s.setB R.PCM_STATUS i b).fed = s.fed := by
  rw [State.fed, s.bit_setB_apart _ _ (by decide) (by omega), s.bit_setB_apart _ _ (by decide) (by omega), State.fed]
theorem State.fed_with_pwr (s : State) (x : Power) : ({ s with pwr := x } : State).fed = s.fed := rfl

theorem State.status_transferBkp (s : State) {j : Nat} (h : j < 32) :
    s.transferBkp.bit R.PCM_STATUS j = (s.bit R.PCM_STATUS j || (s.backupDue && 6 == j)) := by
  rw [s.transferBkp_eq, State.bit_onIf, State.bit_pcmEvent_other _ _ (by decide), s.bit_setB _ _ _ h]
  by_cases e : 6 = j <;> cases s.backupDue <;> simp [e]
theorem State.events_transferBkp (s : State) {j : Nat} (h : j < 32) :
    s.transferBkp.bit R.PCM_EVENTS j = (s.bit R.PCM_EVENTS j || (s.backupDue && 0 == j)) := by
  rw [s.transferBkp_eq, State.bit_onIf, State.bit_pcmEvent _ _ h, s.bit_setB_other _ _ _ (by decide), s.fed_setB_status _ (le_refl 6)]
  cases hb : s.backupDue with
  | true => rw [State.fed_of_backupDue hb, if_pos rfl]
  | false => rw [Bool.false_and, Bool.or_false]; rfl

/-! ### A supply becomes valid -/

section
variable {s : State}

theorem State.supplyValid_main (h : s.pwr.ovMain = false) : s.supplyValid .vmain = s.onIf (!s.bit R.PCM_STATUS 4) (fun s =>
    (s.setB R.PCM_STATUS 4 true).onIf (!s.fed || (!s.pwr.pgood && !s.pwr.tripMark)) (fun t => t.setB R.PCM_STATUS 6 false)) :=
  if_neg (by rw [h]; decide)
theorem State.supplyValid_backup (h : s.pwr.ovBkp = false) : s.supplyValid .vbkp = s.onIf (!s.bit R.PCM_STATUS 5) (fun s =>
    (s.setB R.PCM_STATUS 5 true).onIf (!s.fed) (fun t => t.setB R.PCM_STATUS 6 true)) :=
  if_neg (by rw [h]; decide)

theorem answers_supplyValid_main (h : s.pwr.ovMain = false) : Answers (.supplyValid .vmain) s (fun t =>
    t.bit R.PCM_STATUS 4 = true ∧
    t.bit R.PCM_STATUS 6 = (s.bit R.PCM_STATUS 6 && (s.bit R.PCM_STATUS 4 || (s.fed && (s.pwr.pgood || s.pwr.tripMark)))) ∧
    Only (among [R.PCM_STATUS]) [] s t) := by
  have hframe : ChangesOnly [R.PCM_STATUS] [] s (s.supplyValid .vmain) := by
    rw [State.supplyValid_main h]
    exact (ChangesOnly.refl _ _ s).onIf _ fun h => (h.setB _ _ (by decide) (by decide)).onIf _ fun h => h.setB _ _ (by decide) (by decide)
  refine answers_of_finish rfl ⟨?_, ?_, hframe.only_among⟩ <;>
    rw [s.ended_bit _ (by decide), State.supplyValid_main h, State.bit_onIf, State.bit_onIf, State.bit_setB _ _ _ _ (by decide),
      s.bit_setB _ _ _ (by decide)]
  · cases s.bit R.PCM_STATUS 4 <;> simp
  · cases s.bit R.PCM_STATUS 4 <;> cases s.fed <;> cases s.pwr.pgood <;> cases s.pwr.tripMark <;> simp

theorem answers_supplyValid_backup (h : s.pwr.ovBkp = false) : Answers (.supplyValid .vbkp) s (fun t =>
    t.bit R.PCM_STATUS 5 = true ∧ t.bit R.PCM_STATUS 6 = (s.bit R.PCM_STATUS 6 || !s.fed) ∧ Only (among [R.PCM_STATUS]) [] s t) := by
  have hframe : ChangesOnly [R.PCM_STATUS] [] s (s.supplyValid .vbkp) := by
    rw [State.supplyValid_backup h]
    exact (ChangesOnly.refl _ _ s).onIf _ fun h => (h.setB _ _ (by decide) (by decide)).onIf _ fun h => h.setB _ _ (by decide) (by decide)
  refine answers_of_finish rfl ⟨?_, ?_, hframe.only_among⟩ <;>
    rw [s.ended_bit _ (by decide), State.supplyValid_backup h, State.bit_onIf, State.bit_onIf, State.bit_setB _ _ _ _ (by decide),
      s.bit_setB _ _ _ (by decide)]
  · cases s.bit R.PCM_STATUS 5 <;> simp
  · -- where VBKP was valid the island was fed
    have hfed : s.bit R.PCM_STATUS 5 = true → s.fed = true := fun h5 => by rw [State.fed, h5, Bool.or_true]
    cases h5 : s.bit R.PCM_STATUS 5 with
    | true => simp [hfed h5]
    | false => cases s.fed <;> simp

theorem answers_supplyValid_backupDomain : Answers (.supplyValid .vrtc) s (fun t =>
    t.bit R.PCM_STATUS 7 = (s.bit R.PCM_STATUS 7 || s.fed) ∧ Only (among [R.PCM_STATUS]) [] s t) := by
  have hframe : ChangesOnly [R.PCM_STATUS] [] s (s.supplyValid .vrtc) :=
    (ChangesOnly.refl _ _ s).onIf _ fun h => h.setB _ _ (by decide) (by decide)
  refine answers_of_finish rfl ⟨?_, hframe.only_among⟩
  rw [s.ended_bit _ (by decide), State.supplyValid, State.bit_onIf, s.bit_setB_same _ _ _ (by decide)]
  cases s.fed <;> simp

theorem answers_supplyValid_disconnected {x : Supply} (h : x = .vmain ∧ s.pwr.ovMain = true ∨ x = .vbkp ∧ s.pwr.ovBkp = true) :
    Answers (.supplyValid x) s (Only (fun _ => false) [] s) := by
  refine answers_nothing (congrArg (finish s) ?_)
  obtain ⟨rfl, h⟩ | ⟨rfl, h⟩ := h <;> exact if_pos h

/-! ### A supply becomes invalid -/

theorem ChangesOnly.supplyInvalid_main {l : List Nat} {ps : List Part} {t : State} (h : ChangesOnly l ps s t) (hs : R.PCM_STATUS ∈ l)
    (he : R.PCM_EVENTS ∈ l) (hl : R.PCM_OP_HOURS_LO ∈ l) (hh : R.PCM_OP_HOURS_HI ∈ l) : ChangesOnly l ps s (t.supplyInvalid .vmain) :=
  ((h.setB _ _ hs (by decide)).transferBkp hs he).islandOff hl hh
theorem ChangesOnly.supplyInvalid_backup {l : List Nat} {ps : List Part} {t : State} (h : ChangesOnly l ps s t) (hs : R.PCM_STATUS ∈ l)
    (hl : R.PCM_OP_HOURS_LO ∈ l) (hh : R.PCM_OP_HOURS_HI ∈ l) : ChangesOnly l ps s (t.supplyInvalid .vbkp) :=
  (h.setB _ _ hs (by decide)).islandOff hl hh

/-- VBKP takes over at the loss of VMAIN where it is valid and does not feed. -/
theorem State.backupDue_mainLost (s : State) :
    (s.setB R.PCM_STATUS 4 false).backupDue = (s.bit R.PCM_STATUS 5 && !s.bit R.PCM_STATUS 6) := by
  simp only [State.backupDue, s.bit_setB R.PCM_STATUS 4 false (show 4 < 32 by decide), s.bit_setB R.PCM_STATUS 4 false (show 5 < 32 by decide),
    s.bit_setB R.PCM_STATUS 4 false (show 6 < 32 by decide)]
  simp
theorem State.status_supplyInvalid_main (s : State) {j : Nat} (h : j < 32) : (s.supplyInvalid .vmain).bit R.PCM_STATUS j =
    ((if 4 = j then false else s.bit R.PCM_STATUS j) || (s.bit R.PCM_STATUS 5 && !s.bit R.PCM_STATUS 6 && 6 == j)) := by
  rw [State.supplyInvalid, State.bit_islandOff _ (by decide), State.status_transferBkp _ h, s.backupDue_mainLost, s.bit_setB _ _ _ h]
theorem State.events_supplyInvalid_main (s : State) {j : Nat} (h : j < 32) : (s.supplyInvalid .vmain).bit R.PCM_EVENTS j =
    (s.bit R.PCM_EVENTS j || (s.bit R.PCM_STATUS 5 && !s.bit R.PCM_STATUS 6 && 0 == j)) := by
  rw [State.supplyInvalid, State.bit_islandOff _ (by decide), State.events_transferBkp _ h, s.backupDue_mainLost,
    s.bit_setB_other _ _ _ (by decide)]
theorem State.status_supplyInvalid_backup (s : State) {j : Nat} (h : j < 32) :
    (s.supplyInvalid .vbkp).bit R.PCM_STATUS j = if 5 = j then false else s.bit R.PCM_STATUS j := by
  rw [State.supplyInvalid, State.bit_islandOff _ (by decide), s.bit_setB _ _ _ h]
theorem State.events_supplyInvalid_backup (s : State) (j : Nat) : (s.supplyInvalid .vbkp).bit R.PCM_EVENTS j = s.bit R.PCM_EVENTS j := by
  rw [State.supplyInvalid, State.bit_islandOff _ (by decide), s.bit_setB_other _ _ _ (by decide)]
theorem State.supplyInvalid_pwr (s : State) (x : Supply) : (s.supplyInvalid x).pwr = s.pwr := by
  cases x
  · exact (State.islandOff_pwr _).trans (State.transferBkp_pwr _)
  · exact State.islandOff_pwr _
  · rfl

theorem answers_supplyInvalid_main : Answers (.supplyInvalid .vmain) s (fun t =>
    t.bit R.PCM_STATUS 4 = false ∧ t.bit R.PCM_STATUS 6 = (s.bit R.PCM_STATUS 6 || s.bit R.PCM_STATUS 5) ∧
    t.bit R.PCM_EVENTS 0 = (s.bit R.PCM_EVENTS 0 || (s.bit R.PCM_STATUS 5 && !s.bit R.PCM_STATUS 6)) ∧
    Only (among [R.PCM_STATUS, R.PCM_EVENTS, R.PCM_OP_HOURS_LO, R.PCM_OP_HOURS_HI]) [] s t) := by
  have hframe := (ChangesOnly.refl [R.PCM_STATUS, R.PCM_EVENTS, R.PCM_OP_HOURS_LO, R.PCM_OP_HOURS_HI] [] s).supplyInvalid_main
    (by decide) (by decide) (by decide) (by decide)
  refine answers_of_finish rfl ⟨?_, ?_, ?_, hframe.only_among⟩
  · rw [s.ended_bit _ (by decide), s.status_supplyInvalid_main (by decide)]; simp
  · rw [s.ended_bit _ (by decide), s.status_supplyInvalid_main (by decide)]
    cases s.bit R.PCM_STATUS 5 <;> cases s.bit R.PCM_STATUS 6 <;> simp
  · rw [s.ended_bit _ (by decide), s.events_supplyInvalid_main (by decide)]; simp
theorem answers_supplyInvalid_backup : Answers (.supplyInvalid .vbkp) s (fun t =>
    t.bit R.PCM_STATUS 5 = false ∧ t.bit R.PCM_STATUS 4 = s.bit R.PCM_STATUS 4 ∧
    Only (among [R.PCM_STATUS, R.PCM_OP_HOURS_LO, R.PCM_OP_HOURS_HI]) [] s t) := by
  have hframe := (ChangesOnly.refl [R.PCM_STATUS, R.PCM_OP_HOURS_LO, R.PCM_OP_HOURS_HI] [] s).supplyInvalid_backup
    (by decide) (by decide) (by decide)
  refine answers_of_finish rfl ⟨?_, ?_, hframe.only_among⟩ <;>
    (rw [s.ended_bit _ (by decide), s.status_supplyInvalid_backup (by decide)]; rfl)

/-! ### Transfer, over-voltage, VRTC, the committed hours -/

/-- With VMAIN valid nothing takes over from it. -/
theorem State.transferBkp_main {s : State} (h : s.bit R.PCM_STATUS 4 = true) : s.transferBkp = s := by
  rw [s.transferBkp_eq, State.backupDue, h]; rfl

theorem answers_transferToMain (h4 : s.bit R.PCM_STATUS 4 = true) (h6 : s.bit R.PCM_STATUS 6 = true) : Answers .transferToMain s (fun t =>
    t.bit R.PCM_STATUS 6 = false ∧ t.bit R.PCM_EVENTS 1 = true ∧ Only (among [R.PCM_STATUS, R.PCM_EVENTS]) [] s t) := by
  have hfed : (s.setB R.PCM_STATUS 6 false).fed = true := by rw [s.fed_setB_status _ (le_refl 6), State.fed, h4, Bool.true_or]
  have hmain : ((s.setB R.PCM_STATUS 6 false).pcmEvent 1).bit R.PCM_STATUS 4 = true := by
    rw [State.bit_pcmEvent_other _ _ (by decide), s.bit_setB_apart _ _ (by decide) (by decide), h4]
  have e : s.transferMain = (s.setB R.PCM_STATUS 6 false).pcmEvent 1 := by
    rw [State.transferMain, h4, h6]; exact State.transferBkp_main hmain
  have hframe : ChangesOnly [R.PCM_STATUS, R.PCM_EVENTS] [] s ((s.setB R.PCM_STATUS 6 false).pcmEvent 1) :=
    ((ChangesOnly.refl _ _ s).setB _ _ (by decide) (by decide)).pcmEvent _ (by decide)
  refine answers_of_finish (congrArg (finish s) e) ⟨?_, ?_, hframe.only_among⟩
  · rw [s.ended_bit _ (by decide), State.bit_pcmEvent_other _ _ (by decide), s.bit_setB_same _ _ _ (by decide)]
  · rw [s.ended_bit _ (by decide), State.bit_pcmEvent _ _ (by decide), hfed]; simp
theorem answers_transferToMain_feeding (h4 : s.bit R.PCM_STATUS 4 = true) (h6 : s.bit R.PCM_STATUS 6 = false) :
    Answers .transferToMain s (Only (fun _ => false) [] s) := by
  refine answers_nothing (congrArg (finish s) ?_)
  rw [State.transferMain, h4, h6]; exact State.transferBkp_main h4

theorem answers_overVoltage_main : Answers (.overVoltageDisconnect .vmain) s (fun t =>
    t.pwr.ovMain = true ∧ t.pwr.ovBkp = s.pwr.ovBkp ∧ t.bit R.PCM_STATUS 4 = false ∧ t.bit R.PCM_EVENTS 2 = (s.bit R.PCM_EVENTS 2 || s.fed) ∧
    Only (among [R.PCM_STATUS, R.PCM_EVENTS, R.PCM_OP_HOURS_LO, R.PCM_OP_HOURS_HI]) [.pwr] s t) := by
  have hframe : ChangesOnly [R.PCM_STATUS, R.PCM_EVENTS, R.PCM_OP_HOURS_LO, R.PCM_OP_HOURS_HI] [.pwr] s (s.overVoltage .vmain) :=
    (((ChangesOnly.refl _ _ s).with_pwr _ (by decide)).pcmEvent _ (by decide)).supplyInvalid_main (by decide) (by decide) (by decide) (by decide)
  have hpwr : (s.overVoltage .vmain).pwr = { s.pwr with ovMain := true } := (State.supplyInvalid_pwr _ _).trans (State.pcmEvent_pwr _ _)
  obtain ⟨a, b, e⟩ := s.ended_pwr (s.overVoltage .vmain)
  refine answers_of_finish rfl ⟨?_, ?_, ?_, ?_, hframe.only_among⟩
  · rw [e, hpwr]
  · rw [e, hpwr]
  · rw [s.ended_bit _ (by decide), State.overVoltage, State.status_supplyInvalid_main _ (by decide)]; simp
  · rw [s.ended_bit _ (by decide), State.overVoltage, State.events_supplyInvalid_main _ (by decide), State.bit_pcmEvent _ _ (by decide),
      s.fed_with_pwr]
    simp [State.bit]
theorem answers_overVoltage_backup : Answers (.overVoltageDisconnect .vbkp) s (fun t =>
    t.pwr.ovBkp = true ∧ t.pwr.ovMain = s.pwr.ovMain ∧ t.bit R.PCM_STATUS 5 = false ∧ t.bit R.PCM_EVENTS 3 = (s.bit R.PCM_EVENTS 3 || s.fed) ∧
    Only (among [R.PCM_STATUS, R.PCM_EVENTS, R.PCM_OP_HOURS_LO, R.PCM_OP_HOURS_HI]) [.pwr] s t) := by
  have hframe : ChangesOnly [R.PCM_STATUS, R.PCM_EVENTS, R.PCM_OP_HOURS_LO, R.PCM_OP_HOURS_HI] [.pwr] s (s.overVoltage .vbkp) :=
    (((ChangesOnly.refl _ _ s).with_pwr _ (by decide)).pcmEvent _ (by decide)).supplyInvalid_backup (by decide) (by decide) (by decide)
  have hpwr : (s.overVoltage .vbkp).pwr = { s.pwr with ovBkp := true } := (State.supplyInvalid_pwr _ _).trans (State.pcmEvent_pwr _ _)
  obtain ⟨a, b, e⟩ := s.ended_pwr (s.overVoltage .vbkp)
  refine answers_of_finish rfl ⟨?_, ?_, ?_, ?_, hframe.only_among⟩
  · rw [e, hpwr]
  · rw [e, hpwr]
  · rw [s.ended_bit _ (by decide), State.overVoltage, State.status_supplyInvalid_backup _ (by decide)]; rfl
  · rw [s.ended_bit _ (by decide), State.overVoltage, State.events_supplyInvalid_backup, State.bit_pcmEvent _ _ (by decide), s.fed_with_pwr]
    simp [State.bit]

/-- A command that writes the power state alone. -/
theorem answers_with_pwr {c : Instr} {x : Power} {P : State → Prop} (hc : exec c s = finish s { s with pwr := x })
    (hP : ∀ t : State, (∃ a b, t.pwr = { x with alert := a, phyRun := b }) → Only (fun _ => false) [.pwr] s t → P t) : Answers c s P :=
  answers_of_finish hc (hP _ (s.ended_pwr _) ((ChangesOnly.refl [] _ s).with_pwr x (by decide)).only_among)

theorem answers_overVoltageRecovery_main : Answers (.overVoltageRecovery .vmain) s (fun t =>
    t.pwr.ovMain = false ∧ t.pwr.ovBkp = s.pwr.ovBkp ∧ Only (fun _ => false) [.pwr] s t) :=
  answers_with_pwr (x := { s.pwr with ovMain := false }) rfl fun t ⟨_, _, e⟩ h => ⟨by rw [e], by rw [e], h⟩
theorem answers_overVoltageRecovery_backup : Answers (.overVoltageRecovery .vbkp) s (fun t =>
    t.pwr.ovBkp = false ∧ t.pwr.ovMain = s.pwr.ovMain ∧ Only (fun _ => false) [.pwr] s t) :=
  answers_with_pwr (x := { s.pwr with ovBkp := false }) rfl fun t ⟨_, _, e⟩ h => ⟨by rw [e], by rw [e], h⟩

theorem answers_vrtcLow : Answers .vrtcLow s (fun t => t.bit R.PCM_STATUS 7 = (s.bit R.PCM_STATUS 7 && !s.fed) ∧
    t.bit R.PCM_EVENTS 4 = (s.bit R.PCM_EVENTS 4 || (s.fed && s.bit R.PCM_STATUS 7)) ∧ Only (among [R.PCM_STATUS, R.PCM_EVENTS]) [] s t) := by
  have hframe : ChangesOnly [R.PCM_STATUS, R.PCM_EVENTS] [] s
      (s.onIf (s.fed && s.bit R.PCM_STATUS 7) (fun s => (s.setB R.PCM_STATUS 7 false).pcmEvent 4)) :=
    (ChangesOnly.refl _ _ s).onIf _ fun h => (h.setB _ _ (by decide) (by decide)).pcmEvent _ (by decide)
  refine answers_of_finish rfl ⟨?_, ?_, hframe.only_among⟩
  · rw [s.ended_bit _ (by decide), State.bit_onIf, State.bit_pcmEvent_other _ _ (by decide), s.bit_setB_same _ _ _ (by decide)]
    cases s.fed <;> cases s.bit R.PCM_STATUS 7 <;> rfl
  · rw [s.ended_bit _ (by decide), State.bit_onIf, State.bit_pcmEvent _ _ (by decide), s.fed_setB_status _ (by decide),
      s.bit_setB_other _ _ _ (by decide)]
    cases s.fed <;> cases s.bit R.PCM_STATUS 7 <;> simp

theorem answers_opHoursCommit : Answers .opHoursCommit s (fun t =>
    t.pwr.mHours = (if s.fed then s.opHours else s.pwr.mHours) ∧ t.pwr.mCycles = s.pwr.mCycles ∧ Only (fun _ => false) [.pwr] s t) := by
  have hc : exec .opHoursCommit s = finish s { s with pwr := { s.pwr with mHours := if s.fed then s.opHours else s.pwr.mHours } } := by
    refine congrArg (finish s) ?_
    cases s.fed <;> rfl
  exact answers_with_pwr hc fun t ⟨_, _, e⟩ h => ⟨by rw [e], by rw [e], h⟩
end

/-- Settles O6: each command writes bits of PCM_STATUS and PCM_EVENTS one after another, and the operating hours where the island stops. -/
theorem supplyCommands : Obligations.SupplyCommands := by
  unfold Obligations.SupplyCommands
  refine ⟨?_, ?_, ?_, ?_, ?_, ?_, ?_, ?_, ?_, ?_, ?_, ?_, ?_, ?_, ?_, ?_⟩
  · exact fun s h => answers_supplyValid_main h
  · exact fun s h => answers_supplyValid_backup h
  · exact fun s => answers_supplyValid_backupDomain
  · exact fun s x h => answers_supplyValid_disconnected h
  · exact fun s => answers_supplyInvalid_main
  · exact fun s => answers_supplyInvalid_backup
  · exact fun s => answers_nothing rfl
  · exact fun s h4 h6 => answers_transferToMain h4 h6
  · exact fun s h4 h6 => answers_transferToMain_feeding h4 h6
  · exact fun s => answers_overVoltage_main
  · exact fun s => answers_overVoltage_backup
  · exact fun s => answers_overVoltageRecovery_main
  · exact fun s => answers_overVoltageRecovery_backup
  · intro s c hc
    simp only [List.mem_cons, List.not_mem_nil, or_false] at hc
    rcases hc with rfl | rfl <;> exact answers_nothing rfl
  · exact fun s => answers_vrtcLow
  · exact fun s => answers_opHoursCommit

end Sys2Proof.Machine
end

section
/-! SUPPORT. What the loss of the rails does (R43 to R45, R58): the power state through the steps of Table 02-7, and what a cold reset clears. -/
namespace Sys2Proof.Machine

/-! ### The event ring leaves the power state -/

theorem State.rtcSub_pwr (s : State) : s.rtcSub.pwr = s.pwr := by unfold State.rtcSub; split <;> rfl
theorem State.ringPut_pwr (s : State) (ws : List Nat) (ext : Bool) : (s.ringPut ws ext).pwr = s.pwr := rfl
theorem State.evtNew_pwr (s : State) (it : EvtItem) (w : Nat) (regs : List Nat) : (s.evtNew it w regs).pwr = s.pwr := by
  unfold State.evtNew
  extract_lets q n s1 vals s2 s3
  have h1 : s1.pwr = s.pwr := s.onIf_keep _ _ State.pwr s.rtcSub_pwr
  have h3 : s3.pwr = s.pwr := (foldl_keep _ State.pwr (fun s p => s.ringPut_pwr _ _) _ _).trans h1
  exact (State.onIf_keep _ _ _ State.pwr rfl).trans h3
theorem State.evtWrite_pwr (s : State) (it : EvtItem) : (s.evtWrite it).pwr = s.pwr := by
  unfold State.evtWrite
  extract_lets regs w1 same
  cases s.evt.ring with
  | nil => exact s.evtNew_pwr _ _ _
  | cons r t =>
    cases h : same r with
    | true => simp only [h, if_true]
    | false => simp only [h, Bool.false_eq_true, if_false]; exact s.evtNew_pwr _ _ _
theorem State.evtLossPut_pwr (s : State) : s.evtLossPut.pwr = s.pwr := by
  unfold State.evtLossPut
  split
  · rfl
  · exact State.event_pwr _ _ _ _
theorem State.evtDrain_pwr (s : State) : s.evtDrain.pwr = s.pwr := by
  unfold State.evtDrain
  split
  · rfl
  · exact (State.evtLossPut_pwr _).trans (State.evtWrite_pwr _ _)

theorem State.closeQueue_pwr (s : State) : s.closeQueue.pwr = s.pwr := foldl_keep _ State.pwr (fun s _ => s.evtDrain_pwr) _ _
theorem State.lossRecord_pwr (s : State) : s.lossRecord.pwr = s.pwr := State.evtWrite_pwr _ _

/-! ### What a reset of the key store's slots leaves -/

section
variable {γ : Type} {g : State → γ} (hw : ∀ (s : State) (k v : Nat), 0x700000 ≤ k → g (s.wr k v) = g s)
  (hm : ∀ (s : State) (m : List (Nat × KeyMat)), g { s with key := { s.key with mat := m } } = g s)
include hw hm

theorem State.slotClear_keep (s : State) (n : Nat) : g (s.slotClear n) = g s := by
  unfold State.slotClear
  rw [hm, hw _ _ _ (by unfold R.KEY_SLOT_USES; omega), hw _ _ _ (by unfold R.KEY_SLOT_ID; omega), hw _ _ _ (by unfold R.KEY_SLOT_ATTR; omega)]
theorem State.volatileClear_keep (s : State) : g s.volatileClear = g s := foldl_keep _ g (State.slotClear_keep hw hm) _ _
theorem State.expWarmClear_keep (s : State) : g s.expWarmClear = g s :=
  foldl_keep _ g (fun s n => by split <;> [exact State.slotClear_keep hw hm s n; rfl]) _ _
omit hm in
theorem State.unsignedFlag_keep (s : State) : g s.unsignedFlag = g s := hw _ _ _ (by decide)
end

/-! ### A cold reset -/

/-- What a power-on or nRESET leaves in the power state: levels at Start, no wake source held. -/
theorem State.cold_pwr (s : State) (p : RKind → Nat → Bool) : (s.cold p).pwr =
    { s.pwr with trigOut := 0, doutPins := 0, doutArm := false, ppsOut := false, heldWake := 0, ltWaitX := false } := by
  unfold State.cold
  rw [State.unsignedFlag_keep (g := State.pwr) (fun _ _ _ _ => rfl), State.volatileClear_keep (g := State.pwr) (fun _ _ _ _ => rfl) (fun _ _ => rfl)]
  dsimp only [State.restore]
  rw [State.startLevels_pwr]
theorem State.cold_net (s : State) (p : RKind → Nat → Bool) : (s.cold p).net = {} := by
  unfold State.cold
  rw [State.unsignedFlag_keep (g := State.net) (fun _ _ _ _ => rfl), State.volatileClear_keep (g := State.net) (fun _ _ _ _ => rfl) (fun _ _ => rfl)]
theorem State.cold_slu (s : State) (p : RKind → Nat → Bool) : (s.cold p).slu = {} := by
  unfold State.cold
  rw [State.unsignedFlag_keep (g := State.slu) (fun _ _ _ _ => rfl), State.volatileClear_keep (g := State.slu) (fun _ _ _ _ => rfl) (fun _ _ => rfl)]

/-! ### The steps of Table 02-7 -/

theorem State.burnCut_pwr (s : State) : s.burnCut.pwr = s.pwr := by
  unfold State.burnCut
  split
  · split <;> rfl
  · rfl
theorem State.tagCut_pwr (s : State) : s.tagCut.pwr = s.pwr := by
  unfold State.tagCut
  split
  · exact State.onIf_keep _ _ _ State.pwr rfl
  · rfl
theorem State.tideSave_pwr (s : State) (n : Nat) : (s.tideSave n).pwr = s.pwr := by
  unfold State.tideSave
  cases s.nrg.banks.read <;> rfl

/-- Step 5: the record, and the counts that MRAM takes. -/
def State.lossCounted (s : State) : State :=
  { s.lossRecord with pwr := { s.lossRecord.pwr with mHours := s.lossRecord.opHours, mCycles := s.lossRecord.rd R.PCM_POWER_CYCLES } }
theorem State.lossCounted_pwr (s : State) : ∃ h c, s.lossCounted.pwr = { s.pwr with mHours := h, mCycles := c } :=
  ⟨_, _, congrArg (fun x : Power => { x with mHours := s.lossRecord.opHours, mCycles := s.lossRecord.rd R.PCM_POWER_CYCLES }) s.lossRecord_pwr⟩
/-- The sequence up to its tide save, then the marks of what it has reached, the counts, and what it cuts short. -/
theorem State.lossSteps_eq (s : State) (r n : Nat) : ∃ (u : State) (i : Bool),
    u.pwr = { s.pwr with trigOut := 0, doutPins := 0, doutArm := false, ppsOut := false } ∧
    s.lossSteps r n = (({ u with pwr := { u.pwr with mSaveInc := i, mLossRec := decide (5 ≤ r) } } : State).onIf (decide (5 ≤ r))
      State.lossCounted).burnCut.tagCut := by
  refine ⟨_, _, ?_, rfl⟩
  exact (State.onIf_keep _ _ _ State.pwr (State.tideSave_pwr _ _)).trans ((State.closeQueue_pwr _).trans s.startLevels_pwr)
/-- The loss sequence drives every output to its Start level and leaves its marks in MRAM: the tide, the record, the counts. -/
theorem State.lossSteps_pwr (s : State) (r n : Nat) : ∃ i h c, (s.lossSteps r n).pwr =
    { s.pwr with trigOut := 0, doutPins := 0, doutArm := false, ppsOut := false, mSaveInc := i, mLossRec := decide (5 ≤ r), mHours := h, mCycles := c } := by
  obtain ⟨u, i, hu, e⟩ := s.lossSteps_eq r n
  rw [e, State.tagCut_pwr, State.burnCut_pwr]
  cases decide (5 ≤ r) with
  | true =>
    obtain ⟨h, c, hc⟩ := ({ u with pwr := { u.pwr with mSaveInc := i, mLossRec := true } } : State).lossCounted_pwr
    exact ⟨i, h, c, by rw [State.onIf_true, hc, hu]⟩
  | false => exact ⟨i, _, _, by rw [State.onIf_false, hu]⟩

theorem State.railsOff_pwr (s : State) : s.railsOff.pwr = { s.pwr with
    pgood := false, fastZ := true, trigOut := 0, doutPins := 0, doutArm := false, ppsOut := false, heldWake := 0, ltWaitX := false } :=
  congrArg (fun x : Power => { x with pgood := false, fastZ := true }) (s.cold_pwr _)
theorem State.railsOff_net (s : State) : s.railsOff.net = {} := by
  rw [State.railsOff, State.emit_net, State.cold_net]
theorem State.railsOff_slu (s : State) : s.railsOff.slu = {} := by
  rw [State.railsOff, State.emit_slu, State.cold_slu]

/-! ### Power loss and thermal trip -/

theorem State.islandOff_net (s : State) : s.islandOff.net = s.net := s.onIf_keep _ _ State.net rfl
theorem State.islandOff_slu (s : State) : s.islandOff.slu = s.slu := s.onIf_keep _ _ State.slu rfl
/-- The state in which the sequence ends, with its cause marked. -/
def State.downFor (s : State) (r n : Nat) (thermal : Bool) : State :=
  ({ (s.lossSteps r n).railsOff with pwr := { (s.lossSteps r n).railsOff.pwr with mThermal := thermal, mLoss := !thermal } } : State).islandOff
theorem State.downFor_pwr (s : State) (r n : Nat) (thermal : Bool) : ∃ i h c, (s.downFor r n thermal).pwr = { s.pwr with
    pgood := false, fastZ := true, trigOut := 0, doutPins := 0, doutArm := false, ppsOut := false, heldWake := 0, ltWaitX := false,
    mSaveInc := i, mLossRec := decide (5 ≤ r), mHours := h, mCycles := c, mThermal := thermal, mLoss := !thermal } := by
  obtain ⟨i, h, c, e⟩ := s.lossSteps_pwr r n
  refine ⟨i, h, c, (State.islandOff_pwr _).trans ?_⟩
  rw [State.railsOff_pwr, e]
theorem State.downFor_net (s : State) (r n : Nat) (thermal : Bool) : (s.downFor r n thermal).net = {} := by
  rw [State.downFor, State.islandOff_net, State.railsOff_net]
theorem State.downFor_slu (s : State) (r n : Nat) (thermal : Bool) : (s.downFor r n thermal).slu = {} := by
  rw [State.downFor, State.islandOff_slu, State.railsOff_slu]

theorem State.powerLoss_unfed {s : State} (hf : s.fed = false) (hp : s.pwr.pgood = true) (r n : Nat) : s.powerLoss r n = s.downFor r n false := by
  unfold State.powerLoss
  rw [hf, hp]; rfl
theorem State.powerLoss_elsewhere {s : State} (h : s.fed = true ∨ s.pwr.pgood = false) (r n : Nat) : s.powerLoss r n = s :=
  if_pos (by obtain h | h := h <;> simp [h])

/-- The state at a trip, before the sequence: THERM_nTRIP low, its mark in MRAM, its record (R58). -/
def State.tripped (s : State) (d : Die) (t : Temp) : State :=
  ({ s.wr (dieTemp d) t.toNat with pwr := { s.pwr with tripLow := true, tripMark := true } } : State).eventOpen 0x14
theorem State.tripped_pwr (s : State) (d : Die) (t : Temp) : (s.tripped d t).pwr = { s.pwr with tripLow := true, tripMark := true } :=
  State.eventOpen_pwr _ _
theorem State.trip_hot {s : State} {t : Temp} (ht : 1840 ≤ t.toInt) (hp : s.pwr.pgood = true) (d : Die) (r n : Nat) :
    s.trip d t r n = (s.tripped d t).downFor r n true := by
  unfold State.trip
  exact if_neg (by simp [hp]; omega)
theorem State.trip_elsewhere {s : State} {t : Temp} (h : t.toInt < 1840 ∨ s.pwr.pgood = false) (d : Die) (r n : Nat) :
    s.trip d t r n = s.wr (dieTemp d) t.toNat :=
  if_pos (by obtain h | h := h <;> simp [h])

section
variable {s : State} {d : Die} {t : Temp} {r : Fin 8} {n : TideReport}

theorem answers_powerLoss_unfed (hf : s.fed = false) (hp : s.pwr.pgood = true) : Answers (.powerLoss r n) s (fun u =>
    u.pwr.mLoss = true ∧ u.pwr.mThermal = false ∧ u.pwr.pgood = false ∧ u.pwr.fastZ = true ∧
    u.pwr.mLossRec = decide (5 ≤ r.val) ∧ u.pwr.doutPins = 0 ∧ u.pwr.doutArm = false ∧ u.net = {} ∧ u.slu = {}) := by
  obtain ⟨i, h, c, hpwr⟩ := s.downFor_pwr r n false
  obtain ⟨a, b, e⟩ := s.ended_pwr (s.downFor r n false)
  refine answers_of_finish (congrArg (finish s) (State.powerLoss_unfed hf hp r n)) ?_
  rw [s.ended_net, s.ended_slu, State.downFor_net, State.downFor_slu, e, hpwr]
  exact ⟨rfl, rfl, rfl, rfl, rfl, rfl, rfl, rfl, rfl⟩
theorem answers_powerLoss_elsewhere (h : s.fed = true ∨ s.pwr.pgood = false) : Answers (.powerLoss r n) s (Only (fun _ => false) [] s) :=
  answers_nothing (congrArg (finish s) (State.powerLoss_elsewhere h r n))

theorem answers_thermalTrip_hot (ht : 1840 ≤ t.toInt) (hp : s.pwr.pgood = true) : Answers (.thermalTrip d t r n) s (fun u =>
    u.pwr.tripLow = true ∧ u.pwr.tripMark = true ∧ u.pwr.mThermal = true ∧ u.pwr.mLoss = false ∧ u.pwr.pgood = false ∧ u.pwr.fastZ = true ∧
    u.pwr.doutPins = 0 ∧ u.pwr.doutArm = false ∧ u.net = {} ∧ u.slu = {}) := by
  obtain ⟨i, h, c, hpwr⟩ := (s.tripped d t).downFor_pwr r n true
  obtain ⟨a, b, e⟩ := s.ended_pwr ((s.tripped d t).downFor r n true)
  refine answers_of_finish (congrArg (finish s) (State.trip_hot ht hp d r n)) ?_
  rw [s.ended_net, s.ended_slu, State.downFor_net, State.downFor_slu, e, hpwr, State.tripped_pwr]
  exact ⟨rfl, rfl, rfl, rfl, rfl, rfl, rfl, rfl, rfl, rfl⟩

/-! ### Die temperatures -/

theorem State.eventOpen_kept (s : State) (n : Nat) {p : Part} (hp : p ≠ .evt) : p.kept s (s.eventOpen n) := by
  cases p
  case evt => exact absurd rfl hp
  all_goals simp [Part.kept]
theorem ChangesOnly.eventOpen {l : List Nat} {ps : List Part} {s t : State} (h : ChangesOnly l ps s t) (n : Nat) (hl : R.EVT_LOST ∈ l)
    (he : R.EVT_EVENTS ∈ l) (hp : .evt ∈ ps) : ChangesOnly l ps s (t.eventOpen n) :=
  h.trans ⟨fun _ hj => t.rd_eventOpen n (fun e => hj (e ▸ hl)) (fun e => hj (e ▸ he)), fun _ hq => t.eventOpen_kept n fun e => hq (e ▸ hp)⟩
theorem State.rd_pcmEvent_other (s : State) (n : Nat) {k : Nat} (h : k ≠ R.PCM_EVENTS) : (s.pcmEvent n).rd k = s.rd k :=
  ((ChangesOnly.refl [R.PCM_EVENTS] [] s).pcmEvent n List.mem_cons_self).1 k (List.not_mem_cons_of_ne_of_not_mem h List.not_mem_nil)

theorem dieTemp_ne (d : Die) : dieTemp d ≠ R.PCM_EVENTS ∧ dieTemp d ≠ R.PCM_OTW_LIMIT ∧ dieTemp d ≠ R.PCM_STATUS ∧ dieTemp d ≠ R.WDN_STATUS ∧
    dieTemp d ≠ R.EVT_LOST ∧ dieTemp d ≠ R.EVT_EVENTS := by cases d <;> decide
theorem settleKey_dieTemp (d : Die) : settleKey (dieTemp d) = false := by cases d <;> decide
theorem State.rd_wr_dieTemp (s : State) (d : Die) (t : Temp) : (s.wr (dieTemp d) t.toNat).rd (dieTemp d) = t.toNat :=
  (s.rd_wr_same _ _).trans (Nat.mod_eq_of_lt (lt_trans t.isLt (by decide)))

/-- A command that ends with a die's reading written. -/
theorem answers_dieReads {c : Instr} (hc : exec c s = finish s (s.wr (dieTemp d) t.toNat)) :
    Answers c s (fun u => u.rd (dieTemp d) = t.toNat ∧ Only (among [dieTemp d]) [] s u) := by
  obtain ⟨-, -, -, hw, -⟩ := dieTemp_ne d
  refine answers_of_finish hc ⟨?_, ((ChangesOnly.refl _ _ s).wr _ List.mem_cons_self hw).only_among⟩
  rw [s.ended_rd _ (settleKey_dieTemp d), s.rd_wr_dieTemp]

theorem State.otw_limit (s : State) (d : Die) (t : Temp) :
    (s.wr (dieTemp d) t.toNat).fld R.PCM_OTW_LIMIT 15 0 = s.fld R.PCM_OTW_LIMIT 15 0 :=
  congrArg (bitsOf · 15 0) (s.rd_wr_other _ (dieTemp_ne d).2.1)
theorem State.otw_above (h : sgnW 16 (s.fld R.PCM_OTW_LIMIT 15 0) < t.toInt) :
    s.otw d t = ((s.wr (dieTemp d) t.toNat).pcmEvent 5).eventOpen 0x15 := by
  unfold State.otw
  dsimp only
  rw [s.otw_limit, decide_eq_true h]; rfl
theorem State.otw_below (h : t.toInt ≤ sgnW 16 (s.fld R.PCM_OTW_LIMIT 15 0)) : s.otw d t = s.wr (dieTemp d) t.toNat := by
  unfold State.otw
  dsimp only
  rw [s.otw_limit, decide_eq_false (not_lt.2 h)]; rfl

theorem answers_otw_above (h : sgnW 16 (s.fld R.PCM_OTW_LIMIT 15 0) < t.toInt) : Answers (.otw d t) s (fun u =>
    u.rd (dieTemp d) = t.toNat ∧ u.bit R.PCM_EVENTS 5 = (s.bit R.PCM_EVENTS 5 || s.fed) ∧ Recorded 0x15 s u ∧
    Only (among [dieTemp d, R.PCM_EVENTS]) [.evt] s u) := by
  obtain ⟨hne, -, hst, hw, hlost, hevt⟩ := dieTemp_ne d
  have hread : ChangesOnly [dieTemp d] [] s (s.wr (dieTemp d) t.toNat) := (ChangesOnly.refl _ _ s).wr _ List.mem_cons_self hw
  have hfed : (s.wr (dieTemp d) t.toNat).fed = s.fed := by
    rw [State.fed, hread.bit (by simpa using hst.symm), hread.bit (by simpa using hst.symm), State.fed]
  have hframe : ChangesOnly [dieTemp d, R.PCM_EVENTS, R.EVT_LOST, R.EVT_EVENTS] [.evt] s
      (((s.wr (dieTemp d) t.toNat).pcmEvent 5).eventOpen 0x15) :=
    (((ChangesOnly.refl _ _ s).wr _ List.mem_cons_self hw).pcmEvent _ (by simp)).eventOpen _ (by simp) (by simp) (by simp)
  refine answers_of_finish (congrArg (finish s) (State.otw_above h)) ⟨?_, ?_, recorded_of fun hroom => ?_, hframe.only ?_⟩
  · rw [s.ended_rd _ (settleKey_dieTemp d), State.rd_eventOpen _ _ hlost hevt, State.rd_pcmEvent_other _ _ hne, s.rd_wr_dieTemp]
  · rw [s.ended_bit _ (by decide), State.bit, State.rd_eventOpen _ _ (by decide) (by decide)]
    refine (State.bit_pcmEvent _ 5 (by decide)).trans ?_
    rw [s.bit_wr_other _ _ hne, hfed, beq_self_eq_true, Bool.and_true]
  · have hevt : ((s.wr (dieTemp d) t.toNat).pcmEvent 5).evt = s.evt := State.onIf_keep _ _ _ State.evt rfl
    obtain ⟨it, hq, htyp⟩ := State.eventOpen_room ((s.wr (dieTemp d) t.toNat).pcmEvent 5) 0x15 (by rw [hevt]; exact hroom)
    exact ⟨it, [], by rw [hq, hevt], htyp⟩
  · cases d <;> decide
end

/-- Settles O7: the power state is followed through the loss sequence and the cold reset; a warning writes one reading, one event, one record. -/
theorem temperatureAndPowerLoss : Obligations.TemperatureAndPowerLoss := by
  unfold Obligations.TemperatureAndPowerLoss
  refine ⟨?_, ?_, ?_, ?_, ?_, ?_⟩
  · exact fun s d t h => answers_otw_above h
  · exact fun s d t h => answers_dieReads (congrArg (finish s) (State.otw_below h))
  · exact fun s d t r n ht hp => answers_thermalTrip_hot ht hp
  · exact fun s d t r n h => answers_dieReads (congrArg (finish s) (State.trip_elsewhere h d r n))
  · exact fun s r n hf hp => answers_powerLoss_unfed hf hp
  · exact fun s r n h => answers_powerLoss_elsewhere h

end Sys2Proof.Machine
end

section
/-! SUPPORT. The management buses and the PCIe link (R59 to R61, R69). -/
namespace Sys2Proof.Machine

/-! ### Refusals -/

section
variable {c : Instr} {s : State}

/-- A UART answer without data: the status, four bytes 0, the check byte. -/
theorem State.uartReply_zero (s : State) (status : Nat) : ∃ x : Byte,
    s.uartReply status 0 = s.emit (.uart [0x5A#8, BitVec.ofNat 8 status, 0#8, 0#8, 0#8, 0#8, x]) := ⟨_, rfl⟩
/-- An I2C read that returns 0: four bytes 0, the check byte. -/
theorem State.i2cBytes_zero (s : State) (before : Bytes) : ∃ x : Byte, s.i2cBytes before 0 = s.emit (.i2c [0#8, 0#8, 0#8, 0#8, x]) := ⟨_, rfl⟩

/-- An access whose check fails or that is denied: its bit and MGMT_ERR are set, and its answer goes out. -/
theorem answers_mgmtErr {i : Nat} {x : Out} (hc : exec c s = finish s ((s.mgmtErr i).emit x)) (hi : i < 32) : Answers c s (fun t =>
    t.out = x :: s.out ∧ t.bit R.PCM_MGMT_STATUS i = true ∧ t.bit R.PCM_EVENTS 9 = true ∧
    Only (among [R.PCM_MGMT_STATUS, R.PCM_EVENTS]) [.out] s t) := by
  have hframe : ChangesOnly [R.PCM_MGMT_STATUS, R.PCM_EVENTS] [.out] s ((s.mgmtErr i).emit x) :=
    (((ChangesOnly.refl _ _ s).setB _ _ (by decide) (by decide)).setB _ _ (by decide) (by decide)).emit _ (by decide)
  refine answers_of_finish hc ⟨s.ended_out _, ?_, ?_, hframe.only_among⟩
  · rw [s.ended_bit _ (by decide), State.bit_emit, State.mgmtErr, State.bit_setB_other _ _ _ _ (by decide), s.bit_setB_same _ _ _ hi]
  · rw [s.ended_bit _ (by decide), State.bit_emit, State.mgmtErr, State.bit_setB_same _ _ _ _ (by decide)]
/-- A UART command that is answered with a status and no data. -/
theorem answers_uartRefusal {i status : Nat} (hc : exec c s = finish s ((s.mgmtErr i).uartReply status 0)) (hi : i < 32) : Answers c s (fun t =>
    (∃ x, t.out = .uart [0x5A#8, BitVec.ofNat 8 status, 0#8, 0#8, 0#8, 0#8, x] :: s.out) ∧ t.bit R.PCM_MGMT_STATUS i = true ∧
    t.bit R.PCM_EVENTS 9 = true ∧ Only (among [R.PCM_MGMT_STATUS, R.PCM_EVENTS]) [.out] s t) := by
  obtain ⟨x, e⟩ := (s.mgmtErr i).uartReply_zero status
  rw [e] at hc
  exact (answers_mgmtErr hc hi).mono fun _ ⟨ho, h⟩ => ⟨⟨x, ho⟩, h⟩

/-! ### Writes of plain registers -/

theorem changesOnly_writeFields (ps : List Part) {k : Nat} (v : Nat) (hk : plainKey k = true) : ChangesOnly [k] ps s (s.writeFields k v) :=
  ⟨fun _ hj => s.rd_writeFields_other v (List.ne_of_not_mem_cons hj).symm, fun p _ => s.writeFields_kept v (plainKey_ne hk rfl) p⟩
theorem written_plain {k : Nat} (v : Nat) (hk : plainKey k = true) : Written k v s (s.writeFields k v) :=
  written_writeFields fun _ => tidy_of_plain hk

variable {a v : Word}

theorem answers_i2cWrite {pec : Byte} (hf : s.fed = true) (hcrc : crc8 (0xA4#8 :: mgmtBytes a.toNat ++ mgmtBytes v.toNat) = pec.toNat)
    (hm : mgmtWrites a.toNat = true) (hk : plainKey a.toNat = true) : Answers (.i2cWrite a v pec) s (fun t =>
      Written a.toNat v.toNat s t ∧ Only (among [a.toNat]) [] s t) := by
  have hc : exec (.i2cWrite a v pec) s = finish s (s.writeFields a.toNat v.toNat) := by
    refine congrArg (finish s) ?_
    simp only [hf, hcrc, hm, s.swWrite_plain _ _ hk, Bool.not_true, Bool.false_eq_true, ne_eq, not_true_eq_false, if_false, if_true]
  exact answers_of_finish hc ⟨(written_plain _ hk).ended (plainKey_iff.1 hk).1, (changesOnly_writeFields _ _ hk).only_among⟩
theorem answers_i2cWrite_badPec {pec : Byte} (hf : s.fed = true)
    (hcrc : crc8 (0xA4#8 :: mgmtBytes a.toNat ++ mgmtBytes v.toNat) ≠ pec.toNat) : Answers (.i2cWrite a v pec) s (fun t =>
      t.out = .i2cNack :: s.out ∧ t.bit R.PCM_MGMT_STATUS 0 = true ∧ t.bit R.PCM_EVENTS 9 = true ∧
      Only (among [R.PCM_MGMT_STATUS, R.PCM_EVENTS]) [.out] s t) := by
  refine answers_mgmtErr (congrArg (finish s) ?_) (by decide)
  rw [hf, if_neg (by decide), if_pos hcrc]
theorem answers_uartWrite {crc : W16} (hf : s.fed = true)
    (hcrc : crc8 ([0xA5#8, 2#8] ++ mgmtBytes a.toNat ++ mgmtBytes v.toNat) = crc.toNat) (hm : mgmtWrites a.toNat = true)
    (hk : plainKey a.toNat = true) : Answers (.uartWrite a v crc) s (fun t =>
      Written a.toNat v.toNat s t ∧ (∃ c, t.out = .uart [0x5A#8, 0#8, 0#8, 0#8, 0#8, 0#8, c] :: s.out) ∧ Only (among [a.toNat]) [.out] s t) := by
  have hidn : ¬a.toNat < 0x100000 := by obtain ⟨-, hk⟩ := plainKey_iff.1 hk; omega
  have hout : (s.writeFields a.toNat v.toNat).out = s.out := s.writeFields_kept v.toNat (plainKey_ne hk rfl) .out
  have hc : exec (.uartWrite a v crc) s = finish s ((s.writeFields a.toNat v.toNat).uartReply 0 0) := by
    refine congrArg (finish s) ?_
    simp only [hf, hcrc, hm, hidn, s.swWrite_plain _ _ hk, Bool.not_true, Bool.false_eq_true, ne_eq, not_true_eq_false, if_false]
  obtain ⟨x, e⟩ := (s.writeFields a.toNat v.toNat).uartReply_zero 0
  rw [e] at hc
  refine answers_of_finish hc ⟨?_, ⟨x, ?_⟩, ((changesOnly_writeFields _ _ hk).emit _ (by decide)).only_among⟩
  · exact (show Written a.toNat v.toNat s (State.emit _ _) from written_plain _ hk).ended (plainKey_iff.1 hk).1
  · rw [s.ended_out, State.emit, hout]

/-! ### Reads -/

theorem rowAt_otwLimit : rowAt R.PCM_OTW_LIMIT = some ⟨0x100060, [], [⟨15, 0, .rw, 1680, .n⟩]⟩ := by decide +kernel
/-- A read of PCM_OTW_LIMIT returns what it holds and does nothing else. -/
theorem State.swRead_otwLimit (s : State) (p : Path) : s.swRead p R.PCM_OTW_LIMIT = (s.rd R.PCM_OTW_LIMIT, s) := by
  have hb : StatusBlock R.PCM_OTW_LIMIT := by decide
  rw [s.swRead_statusBlock p hb (by decide), s.readKey_unlatched p rowAt_otwLimit (isLatched_plain (by decide) (by decide))
    (latchLen_plain (by decide) (by decide)), s.regNow_statusBlock hb (by decide)]
  rfl
theorem State.swAnswer_otwLimit (s : State) (p : Path) : s.swAnswer p R.PCM_OTW_LIMIT = s.answer p R.PCM_OTW_LIMIT (s.rd R.PCM_OTW_LIMIT) := by
  rw [State.swAnswer, if_neg (by decide), s.swRead_otwLimit]
theorem mgmtReads_otwLimit : mgmtReads R.PCM_OTW_LIMIT = true := by decide

/-- A command that only answers. -/
theorem answers_emit {x : Out} (hc : exec c s = finish s (s.emit x)) :
    Answers c s (fun t => t.out = x :: s.out ∧ Only (fun _ => false) [.out] s t) :=
  answers_of_finish hc ⟨s.ended_out _, ((ChangesOnly.refl [] _ s).emit x (by decide)).only_among⟩

theorem answers_i2cRead_otwLimit {pec : Byte} (hf : s.fed = true) (hcrc : crc8 (0xA4#8 :: mgmtBytes a.toNat) = pec.toNat)
    (ha : a.toNat = R.PCM_OTW_LIMIT) : Answers (.i2cRead a pec) s (fun t =>
      (∃ c, t.out = .i2c (mgmtBytes (s.rd R.PCM_OTW_LIMIT) ++ [c]) :: s.out) ∧ Only (fun _ => false) [.out] s t) := by
  have hm : mgmtReads a.toNat = true := by rw [ha]; exact mgmtReads_otwLimit
  have hc : exec (.i2cRead a pec) s = finish s (s.swAnswer .i2c a.toNat) := by
    refine congrArg (finish s) ?_
    simp only [hf, hcrc, hm, Bool.not_true, Bool.false_eq_true, ne_eq, not_true_eq_false, if_false, if_true]
  rw [ha, s.swAnswer_otwLimit] at hc
  exact (answers_emit hc).mono fun _ ⟨ho, h⟩ => ⟨⟨_, ho⟩, h⟩
theorem answers_uartRead_otwLimit {crc : W16} (hf : s.fed = true) (hcrc : crc8 ([0xA5#8, 1#8] ++ mgmtBytes a.toNat) = crc.toNat)
    (ha : a.toNat = R.PCM_OTW_LIMIT) : Answers (.uartRead a crc) s (fun t =>
      (∃ c, t.out = .uart ([0x5A#8, 0#8] ++ mgmtBytes (s.rd R.PCM_OTW_LIMIT) ++ [c]) :: s.out) ∧ Only (fun _ => false) [.out] s t) := by
  have hm : mgmtReads a.toNat = true := by rw [ha]; exact mgmtReads_otwLimit
  have hc : exec (.uartRead a crc) s = finish s (s.swAnswer .uart a.toNat) := by
    refine congrArg (finish s) ?_
    simp only [hf, hcrc, hm, Bool.not_true, Bool.false_eq_true, ne_eq, not_true_eq_false, if_false, if_true]
  rw [ha, s.swAnswer_otwLimit] at hc
  exact (answers_emit hc).mono fun _ ⟨ho, h⟩ => ⟨⟨_, ho⟩, h⟩

theorem answers_i2cRead_denied {pec : Byte} (hf : s.fed = true) (hcrc : crc8 (0xA4#8 :: mgmtBytes a.toNat) = pec.toNat)
    (hm : mgmtReads a.toNat = false) : Answers (.i2cRead a pec) s (fun t =>
      (∃ c, t.out = .i2c [0#8, 0#8, 0#8, 0#8, c] :: s.out) ∧ t.bit R.PCM_MGMT_STATUS 1 = true ∧ t.bit R.PCM_EVENTS 9 = true ∧
      Only (among [R.PCM_MGMT_STATUS, R.PCM_EVENTS]) [.out] s t) := by
  obtain ⟨x, e⟩ := (s.mgmtErr 1).i2cBytes_zero (0xA4#8 :: mgmtBytes a.toNat ++ [pec])
  have hc : exec (.i2cRead a pec) s = finish s ((s.mgmtErr 1).emit (.i2c [0#8, 0#8, 0#8, 0#8, x])) := by
    refine congrArg (finish s) ?_
    rw [← e]
    simp only [hf, hcrc, hm, Bool.not_true, Bool.false_eq_true, ne_eq, not_true_eq_false, if_false]
  exact (answers_mgmtErr hc (by decide)).mono fun _ ⟨ho, h⟩ => ⟨⟨x, ho⟩, h⟩
theorem answers_uartRead_badCrc {crc : W16} (hf : s.fed = true) (hcrc : crc8 ([0xA5#8, 1#8] ++ mgmtBytes a.toNat) ≠ crc.toNat) :
    Answers (.uartRead a crc) s (fun t =>
      (∃ c, t.out = .uart [0x5A#8, 1#8, 0#8, 0#8, 0#8, 0#8, c] :: s.out) ∧ t.bit R.PCM_MGMT_STATUS 2 = true ∧ t.bit R.PCM_EVENTS 9 = true) := by
  have hc : exec (.uartRead a crc) s = finish s ((s.mgmtErr 2).uartReply 1 0) := by
    refine congrArg (finish s) ?_
    rw [hf, if_neg (by decide), if_pos hcrc]
  exact (answers_uartRefusal hc (by decide)).mono fun _ ⟨ho, hm, he, _⟩ => ⟨ho, hm, he⟩

theorem answers_uartUnknownCommand {b : Byte} (hf : s.fed = true) (h1 : b ≠ 1#8) (h2 : b ≠ 2#8) : Answers (.uartUnknownCommand b) s (fun t =>
    (∃ c, t.out = .uart [0x5A#8, 4#8, 0#8, 0#8, 0#8, 0#8, c] :: s.out) ∧ t.bit R.PCM_MGMT_STATUS 6 = true ∧ t.bit R.PCM_EVENTS 9 = true ∧
    Only (among [R.PCM_MGMT_STATUS, R.PCM_EVENTS]) [.out] s t) := by
  refine answers_uartRefusal (congrArg (finish s) ?_) (by decide)
  rw [hf, bne_iff_ne.2 h1, bne_iff_ne.2 h2]; rfl
theorem answers_uartByteGap (hf : s.fed = true) : Answers .uartByteGap s (fun t =>
    (∃ c, t.out = .uart [0x5A#8, 3#8, 0#8, 0#8, 0#8, 0#8, c] :: s.out) ∧ t.bit R.PCM_MGMT_STATUS 4 = true ∧ t.bit R.PCM_EVENTS 9 = true ∧
    Only (among [R.PCM_MGMT_STATUS, R.PCM_EVENTS]) [.out] s t) := by
  refine answers_uartRefusal (congrArg (finish s) ?_) (by decide)
  rw [hf]; rfl

/-! ### The PCIe link -/

/-- A command that writes the host's state alone. -/
theorem answers_with_host {x : HostIf} (hc : exec c s = finish s { s with host := x }) :
    Answers c s (fun t => t.host = x ∧ Only (fun _ => false) [.host] s t) := by
  refine answers_of_finish hc ⟨s.ended_host _, only_of_kept (fun _ _ => rfl) fun p hp => ?_⟩
  cases p
  case host => exact absurd List.mem_cons_self hp
  case evt => exact ⟨rfl, rfl⟩
  all_goals rfl
theorem answers_pciePerstRelease (hf : s.fed = true) :
    Answers .pciePerstRelease s (fun t => t.host.perst = true ∧ Only (fun _ => false) [.host] s t) := by
  have hc : exec .pciePerstRelease s = finish s { s with host := { s.host with perst := true } } := by
    refine congrArg (finish s) ?_
    rw [hf]; rfl
  exact (answers_with_host hc).mono fun _ ⟨e, h⟩ => ⟨by rw [e], h⟩
theorem answers_pcieLinkUp (hf : s.fed = true) (hp : s.host.perst = true) :
    Answers .pcieLinkUp s (fun t => t.host.linkUp = true ∧ Only (fun _ => false) [.host] s t) := by
  have hc : exec .pcieLinkUp s = finish s { s with host := { s.host with linkUp := true } } := by
    refine congrArg (finish s) ?_
    rw [hf, hp]; rfl
  exact (answers_with_host hc).mono fun _ ⟨e, h⟩ => ⟨by rw [e], h⟩
end

/-- Settles O15: behind its checks an access is the software write or read of its register; a refusal is two bits and an answer. -/
theorem managementAccess : Obligations.ManagementAccess := by
  unfold Obligations.ManagementAccess
  refine ⟨?_, ?_, ?_, ?_, ?_, ?_, ?_, ?_, ?_, ?_, ?_⟩
  · exact fun s a v pec hf hcrc hm hk => answers_i2cWrite hf hcrc hm hk
  · exact fun s a v pec hf hcrc => answers_i2cWrite_badPec hf hcrc
  · exact fun s a pec hf hcrc ha => answers_i2cRead_otwLimit hf hcrc ha
  · exact fun s a pec hf hcrc hm => answers_i2cRead_denied hf hcrc hm
  · exact fun s a v crc hf hcrc hm hk => answers_uartWrite hf hcrc hm hk
  · exact fun s a crc hf hcrc ha => answers_uartRead_otwLimit hf hcrc ha
  · exact fun s a crc hf hcrc => answers_uartRead_badCrc hf hcrc
  · exact fun s c hf h1 h2 => answers_uartUnknownCommand hf h1 h2
  · exact fun s hf => answers_uartByteGap hf
  · exact fun s hf => answers_pciePerstRelease hf
  · exact fun s hf hp => answers_pcieLinkUp hf hp

end Sys2Proof.Machine
end

section
/-! SUPPORT. What the units that come up after a boot leave as it was: the loader, the power state, the registers of PCM to CFG. -/
namespace Sys2Proof.Machine

/-- The loader, the power state and the registers below the key store's. -/
def State.startView (s : State) : Loader × Power × (Fin 0x700000 → Nat) := (s.ldr, s.pwr, fun k => s.rd k)

theorem startView_ldr {s t : State} (h : t.startView = s.startView) : t.ldr = s.ldr := congrArg Prod.fst h
theorem startView_pwr {s t : State} (h : t.startView = s.startView) : t.pwr = s.pwr := congrArg (fun v => v.2.1) h
theorem startView_rd {s t : State} (h : t.startView = s.startView) {k : Nat} (hk : k < 0x700000) : t.rd k = s.rd k :=
  congrFun (congrArg (fun v => v.2.2) h) ⟨k, hk⟩

/-! ### Operations on registers, lanes and records -/

theorem State.startView_wr (s : State) {k : Nat} (v : Nat) (h : 0x700000 ≤ k) : (s.wr k v).startView = s.startView :=
  congrArg (fun f => (s.ldr, s.pwr, f)) (funext fun j => s.rd_wr_other v (by have := j.isLt; omega))
theorem State.startView_setF (s : State) {k : Nat} (hi lo v : Nat) (h : 0x700000 ≤ k) : (s.setF k hi lo v).startView = s.startView :=
  s.startView_wr _ h
theorem State.startView_setB (s : State) {k : Nat} (i : Nat) (b : Bool) (h : 0x700000 ≤ k) : (s.setB k i b).startView = s.startView :=
  s.startView_wr _ h
theorem State.startView_wrs (s : State) {k : Nat} (ws : List Nat) (h : 0x4000000 ≤ k) : (s.wrs k ws).startView = s.startView :=
  State.wrs_keep (fun s _ v hk => s.startView_wr v (le_trans (by decide) hk)) s k ws h
theorem State.startView_onIf (s : State) (c : Bool) (f : State → State) (h : (f s).startView = s.startView) :
    (s.onIf c f).startView = s.startView := s.onIf_keep c f State.startView h
theorem State.startView_event (s : State) (typ src : Nat) (d : List Nat) : (s.event typ src d).startView = s.startView := by
  unfold State.event
  split
  · rfl
  · exact (State.startView_setB _ _ _ (by decide)).trans (State.startView_wr _ _ (by decide))
theorem State.startView_eventOpen (s : State) (typ : Nat) : (s.eventOpen typ).startView = s.startView := State.startView_event _ _ _ _
theorem State.startView_modNrg (s : State) (l : Lane) (f : NrgLane → NrgLane) : (s.modNrg l f).startView = s.startView := by cases l <;> rfl
theorem State.startView_modRec (s : State) (l : Lane) (f : RecLane → RecLane) : (s.modRec l f).startView = s.startView := by cases l <;> rfl
theorem State.startView_modLane (s : State) (l : Lane) (f : LaneSt → LaneSt) : (s.modLane l f).startView = s.startView := by cases l <;> rfl

/-! ### The energy unit (R334) -/

theorem State.startView_ptRegs (s : State) (l : Lane) (e : Nat) : (s.ptRegs l e).startView = s.startView :=
  s.startView_wrs _ (by unfold R.NRG_PT_LIVE; omega)
theorem State.startView_ptRestore (s : State) (l : Lane) (reset : Bool) (till : Option Nat) (e : Nat) :
    (s.ptRestore l reset till e).2.startView = s.startView := by
  have hinfo : 0x700000 ≤ R.NRG_START_INFO l := by unfold R.NRG_START_INFO; omega
  unfold State.ptRestore
  extract_lets smax tu led put
  have hput : ∀ s acc gap cause ok bs, (put s acc gap cause ok bs).startView = s.startView := fun s acc gap cause ok bs =>
    (State.startView_wrs _ _ (by unfold R.NRG_QUANT; omega)).trans ((State.startView_ptRegs _ _ _).trans (State.startView_modNrg _ _ _))
  split
  · split <;> exact hput _ _ _ _ _ _
  · split
    · exact hput _ _ _ _ _ _
    · extract_lets acc gap s1 tide acc2 s2 sat full
      have h1 : s1.startView = s.startView := s.startView_onIf _ _ (s.startView_setB _ _ hinfo)
      split
      · exact (State.startView_setF _ _ _ _ (by unfold R.NRG_PT_STATE; omega)).trans ((hput _ _ _ _ _ _).trans h1)
      · have h2 : s2.startView = s.startView := (s1.startView_onIf _ _ (s1.startView_setB _ _ hinfo)).trans h1
        split
        · exact (hput _ _ _ _ _ _).trans h2
        · split
          exact (hput _ _ _ _ _ _).trans h2
theorem State.startView_nrgRestore (s : State) (l : Lane) (reset : Bool) (till : Option Nat) :
    (s.nrgRestore l reset till).startView = s.startView := by
  unfold State.nrgRestore
  extract_lets s1
  have h1 : s1.startView = s.startView := s.startView_wr _ (by unfold R.NRG_START_INFO; omega)
  split
  next gaps s2 heq =>
    have h2 : s2.startView = s1.startView := by
      refine (congrArg State.startView (congrArg Prod.snd heq)).symm.trans ?_
      exact foldl_keep _ (fun a : List Nat × State => a.2.startView) (fun a e => State.startView_ptRestore _ _ _ _ _) _ _
    extract_lets s3 s4 big
    have h3 : s3.startView = s2.startView := s2.startView_wr _ (by unfold R.NRG_GAP_POINTS; omega)
    have h4 : s4.startView = s3.startView := s3.startView_onIf _ _
      ((State.startView_setB _ _ _ (by unfold R.NRG_EVENTS; omega)).trans (State.startView_setB _ _ _ (by unfold R.NRG_START_INFO; omega)))
    exact (s4.startView_onIf _ _ (s4.startView_event _ _ _)).trans (h4.trans (h3.trans (h2.trans h1)))
theorem State.startView_energyRestore (s : State) (reset : Bool) (till : Option Nat) :
    (s.energyRestore reset till).startView = s.startView := by
  have hlanes := (State.startView_nrgRestore (s.nrgRestore .a reset till) .b reset till).trans (s.startView_nrgRestore .a reset till)
  unfold State.energyRestore
  extract_lets s1 s2
  have h2 : s2.startView = s1.startView := by
    unfold s2
    split
    · exact (State.startView_wr _ _ (by decide)).trans (State.startView_wr _ _ (by decide))
    · rfl
  exact h2.trans hlanes

/-! ### Retained words, views, the pacer, complete records (R71, R313, R166, R178, R352) -/

theorem State.startView_putLive (s : State) (l : Lane) (v w x : Nat) : (s.putLive l v w x).startView = s.startView := s.startView_modLane _ _
theorem State.startView_putRetained (s : State) (l : Lane) (t : Nat) (ws : List Nat) : (s.putRetained l t ws).startView = s.startView := by
  unfold State.putRetained State.putLives
  exact foldl_keep _ State.startView (fun s w => s.startView_putLive _ _ _ _) _ _
theorem State.startView_retRestore (s : State) (l : Lane) : (s.retRestore l).startView = s.startView := by
  unfold State.retRestore
  refine foldl_keep _ State.startView (fun s t => ?_) _ _
  split
  · rfl
  · split
    · exact s.startView_putRetained _ _ _
    · exact s.startView_setB _ _ (by unfold R.CPE_EVENTS; omega)
theorem State.startView_setPeriod (s : State) (p : Nat) : (s.setPeriod p).startView = s.startView :=
  (State.startView_wr _ _ (by decide)).trans (State.startView_wr _ _ (by decide))
theorem State.startView_validLost (s : State) (v : Nat) : (s.validLost v).startView = s.startView :=
  s.startView_onIf _ _ ((State.startView_setB _ _ _ (by decide)).trans (s.startView_setB _ _ (by unfold R.CV_CTRL; omega)))
theorem State.startView_crest (s : State) {k : Nat} (v : Nat) (h : 0x700000 ≤ k) : (s.crest k v).startView = s.startView := by
  unfold State.crest
  split
  · exact s.startView_wr v h
  · rfl
theorem State.startView_blkRefresh (s : State) (l : Lane) : (s.blkRefresh l).startView = s.startView := by
  unfold State.blkRefresh
  exact (State.startView_crest _ _ (by unfold R.REC_BLK_CREST; omega)).trans
    ((State.startView_wr _ _ (by unfold R.REC_BLK_FREE; omega)).trans (s.startView_wr _ (by unfold R.REC_BLK_USED; omega)))
theorem State.startView_recShow (s : State) (l : Lane) (r : RecRt) : (s.recShow l r).startView = s.startView :=
  s.startView_wrs _ (by unfold R.REC_RECORD; omega)
theorem State.startView_recKeep (s : State) (l : Lane) (old : RecLane) : (s.recKeep l old).startView = s.startView := by
  unfold State.recKeep
  exact (State.startView_blkRefresh _ _).trans ((foldl_keep _ State.startView (fun s r => s.startView_recShow l r) _ _).trans
    (s.startView_modRec _ _))

end Sys2Proof.Machine
end

section
/-! SUPPORT. The boot that finds no valid bank, power-on, the release of a trip, and nRESET (R46, R47, R58, R66 to R68, R71). -/
namespace Sys2Proof.Machine

/-! ### The boot without a valid bank (R66 to R68) -/

theorem State.bankValid_congr {s t : State} (ha : t.ldr.recA = s.ldr.recA) (hb : t.ldr.recB = s.ldr.recB) (x : Bank) :
    t.bankValid x = s.bankValid x := by
  cases x
  · exact congrArg (fun r : TwoCopy BankRec => r.read.elim false (·.valid)) ha
  · exact congrArg (fun r : TwoCopy BankRec => r.read.elim false (·.valid)) hb
theorem State.bankValid_of_ldr {s t : State} (h : t.ldr = s.ldr) (x : Bank) : t.bankValid x = s.bankValid x :=
  State.bankValid_congr (congrArg Loader.recA h) (congrArg Loader.recB h) x
theorem State.noneValid {s : State} (ha : s.bankValid .a = false) (hb : s.bankValid .b = false) (x : Bank) : s.bankValid x = false := by
  cases x
  · exact ha
  · exact hb

/-- What the boot makes true where no bank has VALID, and what of the state before it stands. -/
structure Unconfigured (s t : State) : Prop where
  op : t.fld R.CFG_STATUS 3 0 = 9
  ldr : ∃ c, t.ldr = { s.ldr with cut := c, committed := none, image := none, atHold := false }
  pwr : t.pwr = s.pwr
  rd : ∀ k, k < 0x700000 → k ∉ [R.PCM_STATUS, R.CFG_STATUS, R.CFG_ERROR] → t.rd k = s.rd k

/-- What leaves the loader, the power state and the registers of PCM to CFG goes before such a boot, and after it. -/
theorem Unconfigured.of_startView {s s' t t' : State} (h : Unconfigured s t) (hs : s.startView = s'.startView) (ht : t'.startView = t.startView) :
    Unconfigured s' t' where
  op := (congrArg (bitsOf · 3 0) (startView_rd ht (by decide))).trans h.op
  ldr := by
    obtain ⟨c, e⟩ := h.ldr
    exact ⟨c, by rw [startView_ldr ht, e, startView_ldr hs]⟩
  pwr := (startView_pwr ht).trans (h.pwr.trans (startView_pwr hs))
  rd k hk hn := (startView_rd ht hk).trans ((h.rd k hk hn).trans (startView_rd hs hk))

theorem State.unconfigured_spec (s : State) : Unconfigured s s.unconfigured where
  op := s.fld_setF_same R.CFG_STATUS 3 0 9 (by decide) (by decide)
  ldr := ⟨s.ldr.cut, rfl⟩
  pwr := rfl
  rd k _ hn := (s.rd_setF R.CFG_STATUS 3 0 9 k).trans (if_neg fun e => hn (by simp [e]))

/-- The boot as it starts: STATE Start, OP 7, the flags of the banks. -/
def State.bootStart (s : State) : State := ((s.setF R.PCM_STATUS 2 0 1).setOp 7).bankFlags
theorem State.rd_bootStart (s : State) {k : Nat} (h : k ∉ [R.PCM_STATUS, R.CFG_STATUS, R.CFG_ERROR]) : s.bootStart.rd k = s.rd k := by
  simp only [List.mem_cons, List.not_mem_nil, or_false, not_or] at h
  obtain ⟨h1, h2, -⟩ := h
  rw [State.bootStart, State.bankFlags, State.rd_setF, if_neg (Ne.symm h2), State.setOp, State.rd_setF, if_neg (Ne.symm h2), State.rd_setF,
    if_neg (Ne.symm h1)]
theorem State.bootStart_bankValid (s : State) (x : Bank) : s.bootStart.bankValid x = s.bankValid x := State.bankValid_congr rfl rfl x
theorem State.boot_eq {s : State} (hnone : ∀ x, s.bankValid x = false) : s.boot = s.bootStart.unconfigured := by
  have h : ∀ x, ¬s.bootStart.bankValid x = true := fun x => by rw [s.bootStart_bankValid, hnone]; decide
  unfold State.boot
  exact (if_neg (h _)).trans (if_neg (h _))
theorem State.boot_noImage {s : State} (hnone : ∀ x, s.bankValid x = false) : Unconfigured s s.boot := by
  rw [State.boot_eq hnone]
  obtain ⟨hop, hldr, hpwr, hrd⟩ := s.bootStart.unconfigured_spec
  exact ⟨hop, hldr, hpwr, fun k hk hn => (hrd k hk hn).trans (s.rd_bootStart hn)⟩

/-! ### A cold start -/

theorem State.cutReport_pwr (s : State) : s.cutReport.pwr = s.pwr := by unfold State.cutReport; split <;> rfl
theorem State.cutReport_ldr (s : State) : ∃ c, s.cutReport.ldr = { s.ldr with cut := c } := by
  unfold State.cutReport
  split
  · exact ⟨_, rfl⟩
  · exact ⟨_, rfl⟩
theorem State.rd_cutReport (s : State) {k : Nat} (h : k ≠ R.CFG_ERROR) : s.cutReport.rd k = s.rd k := by
  unfold State.cutReport
  split
  · rfl
  · exact s.rd_wr_other _ h.symm

/-- The state in which a cold boot finds the loader: the cut command reported, the boot's event recorded. -/
def State.bootReady (s : State) : State := (s.cutReport.wr R.KEY_TAMPER_CFG s.key.tamperCfg).eventOpen 0x10
theorem State.startView_bootReady (s : State) : s.bootReady.startView = s.cutReport.startView :=
  (State.startView_eventOpen _ _).trans (State.startView_wr _ _ (by decide))
theorem State.startView_coldBoot (s : State) (reset : Bool) (till : Nat) : (s.coldBoot reset till).startView = s.bootReady.boot.startView :=
  (State.startView_retRestore _ _).trans ((State.startView_retRestore _ _).trans ((State.startView_energyRestore _ _ _).trans
    (State.startView_setPeriod _ _)))

/-- A boot behind the report of a cut command. -/
theorem Unconfigured.of_cutReport {s t : State} (h : Unconfigured s.cutReport t) : Unconfigured s t where
  op := h.op
  ldr := by
    obtain ⟨c, e⟩ := s.cutReport_ldr
    obtain ⟨c', e'⟩ := h.ldr
    exact ⟨c', by rw [e', e]⟩
  pwr := h.pwr.trans s.cutReport_pwr
  rd k hk hn := (h.rd k hk hn).trans (s.rd_cutReport fun e => hn (by simp [e]))
theorem State.cutReport_bankValid (s : State) (x : Bank) : s.cutReport.bankValid x = s.bankValid x := by
  obtain ⟨c, e⟩ := s.cutReport_ldr
  exact State.bankValid_congr (by rw [e]) (by rw [e]) x

/-- A cold boot without a valid bank. -/
theorem State.coldBoot_noImage {s : State} (hnone : ∀ x, s.bankValid x = false) (reset : Bool) (till : Nat) :
    Unconfigured s (s.coldBoot reset till) := by
  have hldr := startView_ldr s.startView_bootReady
  have hvalid : ∀ x, s.bootReady.bankValid x = false := fun x =>
    (State.bankValid_of_ldr hldr x).trans ((s.cutReport_bankValid x).trans (hnone x))
  exact ((State.boot_noImage hvalid).of_startView s.startView_bootReady (s.startView_coldBoot reset till)).of_cutReport

/-- What the end of the command shows of such a boot. -/
theorem Unconfigured.ended {s u t : State} (h : Unconfigured u t) : (s.ended t).fld R.CFG_STATUS 3 0 = 9 ∧ (s.ended t).ldr.image = none ∧
    (s.ended t).ldr.committed = none ∧ (s.ended t).ldr.running = u.ldr.running ∧ (∃ a b, (s.ended t).pwr = { u.pwr with alert := a, phyRun := b }) ∧
    (s.ended t).rd R.PCM_RESET_CAUSE = u.rd R.PCM_RESET_CAUSE := by
  obtain ⟨hop, ⟨c, hldr⟩, hpwr, hrd⟩ := h
  obtain ⟨a, b, e⟩ := s.ended_pwr t
  have hl := s.ended_ldr t
  rw [hldr] at hl
  refine ⟨?_, by rw [hl], by rw [hl], by rw [hl], ⟨a, b, by rw [e, hpwr]⟩, ?_⟩
  · rw [s.ended_cfgStatus_fld t _ _ (by decide) (by decide), hop]
  · rw [s.ended_rd t (by decide), hrd _ (by decide) (by decide)]

/-! ### BLOCKED from step 1 (R408) -/

theorem State.keyBlock_idle {s : State} (h : s.key.op = none) (all late : Bool) : s.keyBlock all late =
    { s.setB R.KEY_STATUS 1 true with key := { s.key with allBlocked := s.key.allBlocked || all } } := by
  unfold State.keyBlock
  rw [h]; rfl
/-- With no key command running, BLOCKED is all that an open input sets. -/
theorem State.startView_blockAgain {s : State} (h : s.key.op = none) : s.blockAgain.startView = s.startView := by
  unfold State.blockAgain
  refine (List.foldlRecOn (motive := fun t : State => t.startView = s.startView ∧ t.key.op = none) _ _ ⟨rfl, h⟩ fun t ht n _ => ?_).1
  obtain ⟨hv, hop⟩ := ht
  have hblock : ∀ all late, (t.keyBlock all late).startView = t.startView ∧ (t.keyBlock all late).key.op = none := fun all late => by
    rw [State.keyBlock_idle hop]
    exact ⟨t.startView_setB _ _ (by decide), hop⟩
  refine ⟨(t.startView_onIf _ _ (hblock _ _).1).trans hv, ?_⟩
  exact (t.onIf_keep _ _ (fun u => u.key.op) ((hblock _ _).2.trans hop.symm)).trans hop
/-- A cold boot behind the pins of the key store. -/
theorem State.blockedBoot_noImage {s : State} (hop : s.key.op = none) (hnone : ∀ x, s.bankValid x = false) (reset : Bool) (till : Nat) :
    Unconfigured s (s.blockAgain.coldBoot reset till) := by
  have hv := State.startView_blockAgain hop
  exact (State.coldBoot_noImage (fun x => (State.bankValid_of_ldr (startView_ldr hv) x).trans (hnone x)) reset till).of_startView hv rfl

/-! ### What a cold reset leaves of the loader and the key store -/

theorem State.trigOutSet_ldr (s : State) (v : Nat) : (s.trigOutSet v).ldr = s.ldr := by
  unfold State.trigOutSet
  exact foldl_keep _ State.ldr (fun s n => by split <;> rfl) _ _
theorem State.startLevels_ldr (s : State) : s.startLevels.ldr = s.ldr :=
  (State.trigOutSet_ldr _ _).trans (State.onIf_keep _ _ _ State.ldr rfl)
theorem State.cold_ldr (s : State) (p : RKind → Nat → Bool) : ∃ c, (s.cold p).ldr =
    { bankA := s.ldr.bankA, bankB := s.ldr.bankB, recA := s.ldr.recA, recB := s.ldr.recB, active := s.ldr.active, cut := c } := by
  unfold State.cold
  rw [State.unsignedFlag_keep (g := State.ldr) (fun _ _ _ _ => rfl), State.volatileClear_keep (g := State.ldr) (fun _ _ _ _ => rfl) (fun _ _ => rfl)]
  simp only [State.restore, State.startLevels_ldr]
  exact ⟨_, rfl⟩
theorem State.cold_keyOp (s : State) (p : RKind → Nat → Bool) : (s.cold p).key.op = none := by
  unfold State.cold
  rw [State.unsignedFlag_keep (g := fun s => s.key.op) (fun _ _ _ _ => rfl),
    State.volatileClear_keep (g := fun s => s.key.op) (fun _ _ _ _ => rfl) (fun _ _ => rfl)]
theorem State.cold_bankValid (s : State) (p : RKind → Nat → Bool) (x : Bank) : (s.cold p).bankValid x = s.bankValid x := by
  obtain ⟨c, e⟩ := s.cold_ldr p
  exact State.bankValid_congr (by rw [e]) (by rw [e]) x

/-! ### Power-on -/

/-- The rails come up: the registers reset, the outputs low, PGOOD. -/
def State.railsOn (s : State) : State :=
  let u := s.cold (fun k _ => powerKinds k)
  ({ u with pwr := { u.pwr with pgood := true, fastZ := false }, evt := { u.evt with queue := s.evt.queue } } : State).emit (.fastZ false)
/-- The reset cause from the MRAM marks. -/
def State.causeMarks (s : State) : Nat := 1 + 4 * b2n s.pwr.mThermal + 8 * b2n s.pwr.mLoss + 16 * b2n s.pwr.mSaveInc
/-- What power-on then writes: the cause, the count of starts, the hold-up time and its warning, the faults of the slots. -/
def State.startWords (s : State) (x : BootInput) : State :=
  let s := s.wr R.PCM_RESET_CAUSE s.causeMarks
  let s := s.addSat R.PCM_POWER_CYCLES 1
  let s : State := { s with pwr := { s.pwr with mCycles := s.rd R.PCM_POWER_CYCLES } }
  let s := s.wr R.PCM_HOLDUP x.holdup.toNat
  let s := s.onIf (decide (x.holdup.toNat < 200)) (fun s => (s.setB R.PCM_STATUS 9 true).setB R.PCM_EVENTS 6 true)
  s.onIf ((List.range 16).any (fun n => s.slotFaulty n)) (fun s => s.setB R.KEY_EVENTS 4 true)

theorem State.powerOn_eq {s : State} (hf : s.fed = true) (hp : s.pwr.pgood = false) (hm : s.pwr.tripMark = false) (x : BootInput) :
    ∃ reset till, s.powerOn x = (s.railsOn.startWords x).blockAgain.coldBoot reset till := by
  have h1 : ¬(s.pwr.pgood || !s.fed) = true := by simp [hf, hp]
  have h2 : ¬s.pwr.tripMark = true := by simp [hm]
  unfold State.powerOn
  rw [if_neg h1, if_neg h2]
  exact ⟨_, _, rfl⟩

theorem State.railsOn_pwr (s : State) : s.railsOn.pwr = { s.pwr with
    pgood := true, fastZ := false, trigOut := 0, doutPins := 0, doutArm := false, ppsOut := false, heldWake := 0, ltWaitX := false } :=
  congrArg (fun x : Power => { x with pgood := true, fastZ := false }) (s.cold_pwr _)
theorem State.railsOn_keyOp (s : State) : s.railsOn.key.op = none := by rw [State.railsOn, State.emit_key, State.cold_keyOp]
theorem State.railsOn_bankValid (s : State) (x : Bank) : s.railsOn.bankValid x = s.bankValid x := by
  have h : s.railsOn.ldr = (s.cold fun k _ => powerKinds k).ldr := by rw [State.railsOn, State.emit_ldr]
  exact (State.bankValid_of_ldr h x).trans (s.cold_bankValid _ x)

/-- The words of power-on leave every part of the state but the registers and the count in MRAM. -/
theorem State.startWords_pwr (s : State) (x : BootInput) : ∃ c, (s.startWords x).pwr = { s.pwr with mCycles := c } := by
  unfold State.startWords
  extract_lets s1 s2 p s3 s4 s5
  have h5 : s5.pwr = s4.pwr := s4.onIf_keep _ _ State.pwr rfl
  exact ⟨_, (s5.onIf_keep _ _ State.pwr rfl).trans h5⟩
theorem State.startWords_ldr (s : State) (x : BootInput) : (s.startWords x).ldr = s.ldr :=
  (State.onIf_keep _ _ _ State.ldr rfl).trans (State.onIf_keep _ _ _ State.ldr rfl)
theorem State.startWords_key (s : State) (x : BootInput) : (s.startWords x).key = s.key :=
  (State.onIf_keep _ _ _ State.key rfl).trans (State.onIf_keep _ _ _ State.key rfl)
theorem State.startWords_cause (s : State) (x : BootInput) : (s.startWords x).rd R.PCM_RESET_CAUSE = s.causeMarks := by
  have hsmall : s.causeMarks < 4294967296 := by
    unfold State.causeMarks
    cases s.pwr.mThermal <;> cases s.pwr.mLoss <;> cases s.pwr.mSaveInc <;> decide
  unfold State.startWords
  extract_lets s1 s2 p s3 s4 s5
  have h1 : s1.rd R.PCM_RESET_CAUSE = s.causeMarks := (s.rd_wr_same _ _).trans (Nat.mod_eq_of_lt hsmall)
  have h4 : s4.rd R.PCM_RESET_CAUSE = s1.rd R.PCM_RESET_CAUSE :=
    (s3.rd_wr_other _ (by decide)).trans (s1.rd_wr_other _ (by decide))
  have h5 : s5.rd R.PCM_RESET_CAUSE = s4.rd R.PCM_RESET_CAUSE := s4.onIf_keep _ _ (fun s => s.rd R.PCM_RESET_CAUSE)
    ((State.rd_wr_other _ _ (by decide)).trans (s4.rd_wr_other _ (by decide)))
  exact (s5.onIf_keep _ _ (fun s => s.rd R.PCM_RESET_CAUSE) (s5.rd_wr_other _ (by decide))).trans (h5.trans (h4.trans h1))

/-- Power-on with no trip marked and no valid bank. -/
theorem State.powerOn_noImage {s : State} (hf : s.fed = true) (hp : s.pwr.pgood = false) (hm : s.pwr.tripMark = false)
    (hnone : ∀ x, s.bankValid x = false) (x : BootInput) : Unconfigured (s.railsOn.startWords x) (s.powerOn x) := by
  obtain ⟨reset, till, e⟩ := State.powerOn_eq hf hp hm x
  rw [e]
  refine State.blockedBoot_noImage (by rw [State.startWords_key, s.railsOn_keyOp]) (fun y => ?_) reset till
  exact (State.bankValid_of_ldr (State.startWords_ldr _ x) y).trans ((s.railsOn_bankValid y).trans (hnone y))
theorem State.startWords_railsOn_pwr (s : State) (x : BootInput) : ∃ c, (s.railsOn.startWords x).pwr = { s.pwr with
    pgood := true, fastZ := false, trigOut := 0, doutPins := 0, doutArm := false, ppsOut := false, heldWake := 0, ltWaitX := false, mCycles := c } := by
  obtain ⟨c, e⟩ := s.railsOn.startWords_pwr x
  exact ⟨c, by rw [e, s.railsOn_pwr]⟩

theorem answers_powerOn {s : State} (hf : s.fed = true) (hp : s.pwr.pgood = false) (hm : s.pwr.tripMark = false)
    (hnone : ∀ x, s.bankValid x = false) (x : BootInput) :
    Answers (.powerOn x) s (fun t => t.pwr.pgood = true ∧ t.fld R.CFG_STATUS 3 0 = 9 ∧ t.ldr.image = none ∧ t.ldr.committed = none ∧
      t.rd R.PCM_RESET_CAUSE = 1 + 4 * b2n s.pwr.mThermal + 8 * b2n s.pwr.mLoss + 16 * b2n s.pwr.mSaveInc) := by
  obtain ⟨hop, himg, hcom, -, ⟨_, _, hpwr⟩, hcause⟩ := (State.powerOn_noImage hf hp hm hnone x).ended (s := s)
  obtain ⟨c, hup⟩ := s.startWords_railsOn_pwr x
  refine answers_of_finish rfl ⟨by rw [hpwr, hup], hop, himg, hcom, ?_⟩
  rw [hcause, State.startWords_cause, State.causeMarks, s.railsOn_pwr]
theorem answers_powerOn_tripped {s : State} (hf : s.fed = true) (hp : s.pwr.pgood = false) (hm : s.pwr.tripMark = true) (x : BootInput) :
    Answers (.powerOn x) s (fun t => t.pwr.tripLow = true ∧ Only (fun _ => false) [.pwr] s t) := by
  have e : s.powerOn x = { s with pwr := { s.pwr with tripLow := true } } := by
    have h1 : ¬(s.pwr.pgood || !s.fed) = true := by simp [hf, hp]
    unfold State.powerOn
    rw [if_neg h1, if_pos hm]
  exact answers_with_pwr (congrArg (finish s) e) fun t ⟨_, _, e⟩ h => ⟨by rw [e], h⟩

/-! ### The release of a trip -/

theorem State.cooled_keep {γ : Type} (g : State → γ) (hfree : ∀ (s : State) (n : Nat), g { s with freeCtr := n } = g s)
    (hwr : ∀ (s : State) (d : Die) (v : Nat), g (s.wr (dieTemp d) v) = g s) (s : State) : g s.cooled = g s :=
  foldl_keep _ g (fun s d => (hwr _ d _).trans (hfree s _)) _ _
theorem State.cooled_pwr (s : State) : s.cooled.pwr = s.pwr := State.cooled_keep State.pwr (fun _ _ => rfl) (fun _ _ _ => rfl) s
theorem State.cooled_ldr (s : State) : s.cooled.ldr = s.ldr := State.cooled_keep State.ldr (fun _ _ => rfl) (fun _ _ _ => rfl) s
theorem State.cooled_fed (s : State) : s.cooled.fed = s.fed := by
  have h : s.cooled.rd R.PCM_STATUS = s.rd R.PCM_STATUS := State.cooled_keep (fun s => s.rd R.PCM_STATUS) (fun _ _ => rfl)
    (fun s d v => s.rd_wr_other v (dieTemp_ne d).2.2.1) s
  unfold State.fed State.bit
  rw [h]

theorem answers_thermRelease {s : State} (hf : s.fed = true) (hp : s.pwr.pgood = false) (hm : s.pwr.tripMark = true)
    (hnone : ∀ x, s.bankValid x = false) (x : BootInput) : Answers (.thermRelease x) s (fun t =>
      t.pwr.pgood = true ∧ t.pwr.tripMark = false ∧ t.pwr.tripLow = false ∧ t.fld R.CFG_STATUS 3 0 = 9) := by
  have hpwr := State.cooled_pwr ({ s with pwr := { s.pwr with tripMark := false, tripLow := false } })
  have hldr := State.cooled_ldr ({ s with pwr := { s.pwr with tripMark := false, tripLow := false } })
  have hfed := State.cooled_fed ({ s with pwr := { s.pwr with tripMark := false, tripLow := false } })
  have hc : exec (.thermRelease x) s =
      finish s (({ s with pwr := { s.pwr with tripMark := false, tripLow := false } } : State).cooled.powerOn x) := by
    have hcond : (s.fed && s.pwr.tripMark) = true := by rw [hf, hm]; rfl
    show execThermRelease x s = _
    unfold execThermRelease
    rw [hcond, State.onIf_true]
  have hun := State.powerOn_noImage (hfed.trans hf) (by rw [hpwr, hp]) (by rw [hpwr])
    (fun y => (State.bankValid_of_ldr hldr y).trans (hnone y)) x
  obtain ⟨hop, -, -, -, ⟨_, _, he⟩, -⟩ := hun.ended (s := s)
  obtain ⟨c, hup⟩ := State.startWords_railsOn_pwr _ x
  rw [hup, hpwr] at he
  exact answers_of_finish hc ⟨by rw [he], by rw [he], by rw [he], hop⟩

/-! ### nRESET -/

/-- The state in which nRESET finds the pins of the key store: the registers reset, the cause written. -/
def State.resetTaken (s : State) : State := (s.cold (fun k _ => nresetKinds k)).wr R.PCM_RESET_CAUSE (s.rd R.PCM_RESET_CAUSE &&& 0x1C ||| 2)
theorem State.nReset_noImage {s : State} (hp : s.pwr.pgood = true) (hnone : ∀ x, s.bankValid x = false) : Unconfigured s.resetTaken s.nReset := by
  have e : ∃ till, s.nReset = s.resetTaken.blockAgain.coldBoot true till := by
    have h : ¬(!s.pwr.pgood) = true := by simp [hp]
    unfold State.nReset
    rw [if_neg h]
    exact ⟨_, rfl⟩
  obtain ⟨till, e⟩ := e
  rw [e]
  refine State.blockedBoot_noImage (by rw [State.resetTaken, State.wr_key, State.cold_keyOp]) (fun y => ?_) true till
  have hl : s.resetTaken.ldr = (s.cold (fun k _ => nresetKinds k)).ldr := by rw [State.resetTaken, State.wr_ldr]
  exact (State.bankValid_of_ldr hl y).trans ((s.cold_bankValid _ y).trans (hnone y))

theorem answers_nreset {s : State} (hp : s.pwr.pgood = true) (hnone : ∀ x, s.bankValid x = false) : Answers .nreset s (fun t =>
    t.fld R.CFG_STATUS 3 0 = 9 ∧ t.ldr.image = none ∧ t.ldr.committed = none ∧ t.ldr.running = 0 ∧
    t.rd R.PCM_RESET_CAUSE = ((s.rd R.PCM_RESET_CAUSE &&& 0x1C) ||| 2)) := by
  obtain ⟨hop, himg, hcom, hrun, -, hcause⟩ := (State.nReset_noImage hp hnone).ended (s := s)
  refine answers_of_finish rfl ⟨hop, himg, hcom, hrun.trans ?_, hcause.trans ?_⟩
  · obtain ⟨c, e⟩ := s.cold_ldr (fun k _ => nresetKinds k)
    rw [State.resetTaken, State.wr_ldr, e]
  · have hsmall : s.rd R.PCM_RESET_CAUSE &&& 0x1C ||| 2 < 2 ^ 32 :=
      Nat.or_lt_two_pow (Nat.and_lt_two_pow _ (by decide)) (by decide)
    rw [State.resetTaken, State.rd_wr_same]
    exact Nat.mod_eq_of_lt hsmall

end Sys2Proof.Machine
end

section
/-! SUPPORT. The warm image reset without a valid bank, and the image commit (R67, R68, R71). -/
namespace Sys2Proof.Machine

/-! ### The saves and records that a warm image reset ends leave the loader (R71, R337, R352) -/

theorem State.modNrg_ldr (s : State) (l : Lane) (f : NrgLane → NrgLane) : (s.modNrg l f).ldr = s.ldr := by cases l <;> rfl
theorem State.modRec_ldr (s : State) (l : Lane) (f : RecLane → RecLane) : (s.modRec l f).ldr = s.ldr := by cases l <;> rfl
theorem State.onIf_ldr (s : State) (c : Bool) (f : State → State) (h : (f s).ldr = s.ldr) : (s.onIf c f).ldr = s.ldr := s.onIf_keep c f State.ldr h
theorem State.nrgStop_ldr (s : State) (l : Lane) : (s.nrgStop l).ldr = s.ldr := by
  unfold State.nrgStop
  exact (State.nrgStatus_keep (g := State.ldr) (fun _ _ _ _ => rfl) _ l).trans
    (foldl_keep _ State.ldr (fun s e => (State.setF_ldr _ _ _ _ _).trans (s.modNrg_ldr _ _)) _ _)
theorem State.saveBegin_ldr (s : State) (sv cause : Nat) : (s.saveBegin sv cause).ldr = s.ldr :=
  State.saveBegin_keep (g := State.ldr) (fun _ _ _ _ => rfl) State.modNrg_ldr (fun _ _ => rfl) s sv cause
theorem State.saveEnd_ldr (s : State) (last : Nat) : (s.saveEnd last).ldr = s.ldr := by
  unfold State.saveEnd
  extract_lets h p s1 s2
  have h2 : s2.ldr = s.ldr :=
    foldl_keep _ State.ldr (fun s l => (State.nrgStatus_keep (g := State.ldr) (fun _ _ _ _ => rfl) _ l).trans (by rfl)) _ _
  cases h with
  | some c => exact (State.saveBegin_ldr _ _ _).trans h2
  | none => exact h2
theorem State.wdnDiverge_ldr (s : State) : s.wdnDiverge.ldr = s.ldr := State.onIf_ldr _ _ _ rfl
theorem State.nrgDiff_ldr (s : State) (k : Nat) : (s.nrgDiff k).ldr = s.ldr := by
  unfold State.nrgDiff
  exact (State.wdnDiverge_ldr _).trans ((State.event_ldr _ _ _ _).trans (foldl_keep _ State.ldr (fun _ _ => by rfl) _ _))
theorem State.saveCommit_ldr (s : State) : s.saveCommit.ldr = s.ldr := by
  unfold State.saveCommit
  split
  · rfl
  · split
    · rfl
    · extract_lets other crc bank p s1 s2 s3
      split
      · rfl
      · have h1 : s1.ldr = s.ldr := rfl
        have h2 : s2.ldr = s1.ldr := s1.onIf_ldr _ _ (s1.nrgDiff_ldr _)
        have h3 : s3.ldr = s2.ldr := foldl_keep _ State.ldr (fun s l => (foldl_keep _ State.ldr (fun _ _ => by rfl) _ _).trans (by rfl)) _ _
        exact (s3.saveEnd_ldr 1).trans (h3.trans (h2.trans h1))
theorem State.warmSave_ldr (s : State) : s.warmSave.ldr = s.ldr := by
  unfold State.warmSave
  split
  · rfl
  · exact (State.saveCommit_ldr _).trans ((State.saveBegin_ldr _ _ _).trans ((State.nrgStop_ldr (s.nrgStop .a) .b).trans (s.nrgStop_ldr .a)))

theorem State.recShow_ldr (s : State) (l : Lane) (r : RecRt) : (s.recShow l r).ldr = s.ldr := s.wrs_ldr _ _
theorem State.blkRefresh_ldr (s : State) (l : Lane) : (s.blkRefresh l).ldr = s.ldr := by
  unfold State.blkRefresh State.crest
  extract_lets used
  split <;> rfl
theorem State.recDiffer_ldr (s : State) (u : Nat) : (s.recDiffer u).ldr = s.ldr := by
  unfold State.recDiffer
  exact (State.wdnDiverge_ldr _).trans ((State.event_ldr _ _ _ _).trans (foldl_keep _ State.ldr (fun _ _ => by rfl) _ _))
theorem State.recCompare_ldr (s : State) (l : Lane) (u num crc : Nat) : (s.recCompare l u num crc).ldr = s.ldr := by
  unfold State.recCompare
  split
  · rfl
  · split
    · exact State.onIf_ldr _ _ _ (State.recDiffer_ldr _ _)
    · rfl
theorem State.recCommit_ldr (s : State) (l : Lane) (r : RecRt) : (s.recCommit l r false).ldr = s.ldr := by
  unfold State.recCommit State.putRec
  extract_lets r1 r2 s1 s2 s3 s4
  have h1 : s1.ldr = s.ldr := (State.modRec_ldr _ _ _).trans (s.modRec_ldr _ _)
  have h2 : s2.ldr = s1.ldr := (State.blkRefresh_ldr _ _).trans (s1.recShow_ldr _ _)
  have h4 : s4.ldr = s3.ldr := s3.onIf_ldr _ _ (State.event_ldr _ _ _ _)
  exact (s4.recCompare_ldr _ _ _ _).trans (h4.trans (h2.trans h1))
theorem State.recDrop_ldr (s : State) (l : Lane) (r : RecRt) : (s.recDrop l r).ldr = s.ldr := by
  unfold State.recDrop
  exact (State.blkRefresh_ldr _ _).trans ((State.wrs_ldr _ _ _).trans (s.modRec_ldr _ _))
theorem State.recEndAll_ldr (s : State) (l : Lane) : (s.recEndAll l).ldr = s.ldr := by
  unfold State.recEndAll
  refine foldl_keep _ State.ldr (fun s u => ?_) _ _
  split
  · split
    · exact s.recCommit_ldr _ _
    · exact s.recDrop_ldr _ _
  · rfl

/-! ### What a warm image reset clears and puts back (R71) -/

theorem State.warmClear_ldr (s : State) : s.warmClear.ldr = { s.ldr with
    running := 0, cut := s.ldr.running, was := none, image := none, committed := none, staged := none, xchg := none, rwlLocked := false,
    atHold := false } := by
  unfold State.warmClear
  simp only [State.wr_ldr, State.setB_ldr, State.setF_ldr, List.foldl]
  rw [State.expWarmClear_keep (g := State.ldr) (fun _ _ _ _ => rfl) (fun _ _ => rfl)]
  simp only [State.restore, State.startLevels_ldr]

theorem mem_cellIns {β : Type} [DecidableEq β] {d : Nat → β} {k : Nat} {v : β} {e : Nat × β} {l : List (Nat × β)} (h : e ∈ cellIns d k v l) :
    e = (k, v) ∨ e ∈ l := by
  induction l with
  | nil =>
    unfold cellIns at h
    split at h
    · exact .inr h
    · exact .inl (List.mem_singleton.1 h)
  | cons p t ih =>
    obtain ⟨j, w⟩ := p
    unfold cellIns at h
    split at h
    · split at h
      · exact .inr h
      · simpa using h
    · split at h
      · split at h
        · exact .inr (List.mem_cons_of_mem _ h)
        · obtain rfl | h := List.mem_cons.1 h
          · exact .inl rfl
          · exact .inr (List.mem_cons_of_mem _ h)
      · obtain rfl | h := List.mem_cons.1 h
        · exact .inr List.mem_cons_self
        · exact (ih h).imp_right (List.mem_cons_of_mem _)
theorem mem_cellCanon {β : Type} [DecidableEq β] {d : Nat → β} {e : Nat × β} {l : List (Nat × β)} (h : e ∈ cellCanon d l) : e ∈ l := by
  induction l with
  | nil => exact h
  | cons p t ih => exact List.mem_cons.2 ((mem_cellIns h).imp_right ih)

theorem State.startView_restored (s : State) (l : List (Nat × Nat)) (h : ∀ e ∈ l, 0x700000 ≤ e.1) :
    (l.foldl (fun s e => s.wr e.1 e.2) s).startView = s.startView :=
  List.foldlRecOn (motive := fun t : State => t.startView = s.startView) _ _ rfl fun t ht e he => (t.startView_wr _ (h e he)).trans ht

/-- A warm image reset is a boot of the cleared state: what it puts back behind the boot is not of the loader, nor of PCM to CFG. -/
theorem State.startView_warm (s : State) : ∃ u : State, u.ldr = s.ldr ∧
    s.warm.startView = (u.warmClear.cutReport.setB R.PCM_RESET_CAUSE 5 true).boot.startView := by
  refine ⟨(s.warmSave.recEndAll .a).recEndAll .b, (State.recEndAll_ldr _ _).trans ((State.recEndAll_ldr _ _).trans s.warmSave_ldr), ?_⟩
  unfold State.warm
  extract_lets saves s1 saved ra rb keep maxdem binding s2 s3 s4 s5 s6 s7 s8 s9
  have h4 : s4.startView = s3.startView := foldl_keep _ State.startView (fun s e => s.startView_validLost _) _ _
  have h5 : s5.startView = s4.startView := s4.startView_setPeriod _
  have h6 : s6.startView = s5.startView := foldl_keep _ State.startView (fun s e => s.startView_onIf _ _
    ((State.startView_modLane _ _ _).trans (s.startView_putRetained _ _ _))) _ _
  have h7 : s7.startView = s6.startView := s6.startView_energyRestore _ _
  have h8 : s8.startView = s7.startView := s7.startView_restored _ fun e he => by
    obtain ⟨l, -, hl⟩ := List.any_eq_true.1 (List.mem_filter.1 (mem_cellCanon he)).2
    simp only [Bool.and_eq_true, decide_eq_true_eq] at hl
    exact le_trans (by unfold R.NRG_PT_MAXDEM; omega) hl.1.1
  have h9 : s9.startView = s8.startView := s8.startView_onIf _ _ ((State.startView_setB _ _ _ (by decide)).trans
    (s8.startView_setB _ _ (by decide)))
  exact (State.startView_recKeep _ _ _).trans ((s9.startView_recKeep _ _).trans
    (h9.trans (h8.trans (h7.trans (h6.trans (h5.trans h4))))))

theorem State.warm_noImage {s : State} (hnone : ∀ x, s.bankValid x = false) : ∃ v : State,
    Unconfigured (v.setB R.PCM_RESET_CAUSE 5 true) s.warm := by
  obtain ⟨u, hu, e⟩ := s.startView_warm
  have hclear : ∀ x, u.warmClear.bankValid x = u.bankValid x :=
    State.bankValid_congr (by rw [u.warmClear_ldr]) (by rw [u.warmClear_ldr])
  refine ⟨u.warmClear.cutReport, (State.boot_noImage fun x => ?_).of_startView rfl e⟩
  calc (u.warmClear.cutReport.setB R.PCM_RESET_CAUSE 5 true).bankValid x
    _ = u.warmClear.cutReport.bankValid x := State.bankValid_of_ldr (State.setB_ldr _ _ _ _) x
    _ = u.warmClear.bankValid x := State.cutReport_bankValid _ x
    _ = u.bankValid x := hclear x
    _ = s.bankValid x := State.bankValid_of_ldr hu x
    _ = false := hnone x

theorem answers_warm {s : State} (hb : s.cfgBusy = false) (hnone : ∀ x, s.bankValid x = false) : Answers .warm s (fun t =>
    t.fld R.CFG_STATUS 3 0 = 9 ∧ t.bit R.PCM_RESET_CAUSE 5 = true ∧ t.ldr.image = none ∧ t.ldr.committed = none) := by
  have e : s.cmdWarm = (s.setB R.CFG_EVENTS 0 true).warm := if_neg (by simp [hb])
  have hvalid : ∀ x, (s.setB R.CFG_EVENTS 0 true).bankValid x = false := fun x =>
    (State.bankValid_of_ldr (s.setB_ldr R.CFG_EVENTS 0 true) x).trans (hnone x)
  obtain ⟨v, hv⟩ := State.warm_noImage hvalid
  obtain ⟨hop, himg, hcom, -, -, hcause⟩ := hv.ended (s := s)
  have hbit := (congrArg (fun w : Nat => w.testBit 5) hcause).trans (v.bit_setB_same R.PCM_RESET_CAUSE 5 true (by decide))
  exact answers_of_finish (congrArg (finish s) e) ⟨hop, hbit, himg, hcom⟩
theorem answers_warm_busy {s : State} (hb : s.cfgBusy = true) : Answers .warm s (fun t =>
    t.rd R.CFG_ERROR = 0x70010 ∧ t.bit R.CFG_EVENTS 1 = true ∧ Only (among [R.CFG_ERROR, R.CFG_EVENTS]) [] s t) := by
  have e : s.cmdWarm = s.cfgRefuse 0x10 7 := if_pos hb
  have hframe : ChangesOnly [R.CFG_ERROR, R.CFG_EVENTS] [] s (s.cfgRefuse 0x10 7) :=
    ((ChangesOnly.refl _ _ s).wr _ (by decide) (by decide)).setB _ _ (by decide) (by decide)
  refine answers_of_finish (congrArg (finish s) e) ⟨?_, ?_, hframe.only_among⟩
  · rw [s.ended_rd _ (by decide), State.cfgRefuse, State.cfgError, State.rd_setB, if_neg (by decide), State.rd_wr_same]
  · rw [s.ended_bit _ (by decide)]
    exact State.bit_setB_same _ _ _ _ (by decide)

/-! ### The image commit (R67, R68) -/

/-- Where the commit has come to when the lanes are named: STATE Run and OP 0 follow, the outputs are driven, the tamper settings copied. -/
def State.committing (s : State) : State :=
  (({ s with ldr := { s.ldr with rwlLocked := true, atHold := false } } : State).setF R.PCM_STATUS 2 0 2).setOp 0
def State.runs (s : State) : State := s.committing.doutDrive.tamperCopy (s.committing.doutDrive.rd R.KEY_TAMPER_CFG)
theorem State.imageCommit_eq {s : State} (hi : s.ldr.image.isSome = true) (hop : s.cfgOp = 7) (d : DiagResult) :
    ∃ u : State, s.imageCommit d = u.runs.commitRecord := by
  have h : ¬(s.ldr.image.isNone || s.cfgOp ≠ 7) = true := by simp [hop, Option.isSome_iff_ne_none.1 hi]
  unfold State.imageCommit
  rw [if_neg h]
  exact ⟨_, rfl⟩

/-- The record of the commit leaves the parts the commit has set. -/
theorem State.commitRecord_keep {γ : Type} (g : State → γ) (hfree : ∀ (s : State) (n : Nat), g { s with freeCtr := n } = g s)
    (hev : ∀ (s : State) (typ src : Nat) (d : List Nat), g (s.event typ src d) = g s) (s : State) : g s.commitRecord = g s :=
  (hev _ _ _ _).trans ((hfree _ _).trans ((hfree _ _).trans (hfree _ _)))
theorem State.rd_commitRecord (s : State) {k : Nat} (h1 : k ≠ R.EVT_LOST) (h2 : k ≠ R.EVT_EVENTS) : s.commitRecord.rd k = s.rd k :=
  State.commitRecord_keep (fun s => s.rd k) (fun _ _ => rfl) (fun s _ _ _ => s.rd_event _ _ _ h1 h2) s

theorem State.committing_status (s : State) : s.committing.fld R.PCM_STATUS 2 0 = 2 :=
  (State.fld_setF_other _ _ _ _ _ _ (by decide)).trans (State.fld_setF_same _ _ _ _ _ (by decide) (by decide))
theorem State.committing_op (s : State) : s.committing.fld R.CFG_STATUS 3 0 = 0 := State.fld_setF_same _ _ _ _ _ (by decide) (by decide)
theorem State.rd_runs (s : State) (k : Nat) : s.runs.rd k = s.committing.rd k := rfl
/-- STATE is Run, so SLU_STATUS alone arms the outputs. -/
theorem State.runs_doutArm (s : State) : s.runs.pwr.doutArm = s.committing.bit R.SLU_STATUS 3 := by
  show (s.committing.bit R.SLU_STATUS 3 && (s.committing.fld R.PCM_STATUS 2 0 == 2 || s.committing.fld R.PCM_STATUS 2 0 == 4)) = _
  rw [s.committing_status]
  exact Bool.and_true _

theorem answers_imageCommit {s : State} (hi : s.ldr.image.isSome = true) (hop : s.cfgOp = 7) (d : DiagResult) : Answers (.imageCommit d) s (fun t =>
    t.fld R.PCM_STATUS 2 0 = 2 ∧ t.fld R.CFG_STATUS 3 0 = 0 ∧ t.ldr.rwlLocked = true ∧ t.key.tamperCfg = t.rd R.KEY_TAMPER_CFG ∧
    t.pwr.doutArm = t.bit R.SLU_STATUS 3) := by
  obtain ⟨u, e⟩ := State.imageCommit_eq hi hop d
  have hrd : ∀ k, k ≠ R.EVT_LOST → k ≠ R.EVT_EVENTS → u.runs.commitRecord.rd k = u.committing.rd k := fun k h1 h2 =>
    (u.runs.rd_commitRecord h1 h2).trans (u.rd_runs k)
  have hpwr : u.runs.commitRecord.pwr = u.runs.pwr := State.commitRecord_keep State.pwr (fun _ _ => rfl) State.event_pwr _
  have hldr : u.runs.commitRecord.ldr = u.runs.ldr := State.commitRecord_keep State.ldr (fun _ _ => rfl) State.event_ldr _
  have hkey : u.runs.commitRecord.key = u.runs.key := State.commitRecord_keep State.key (fun _ _ => rfl) State.event_key _
  obtain ⟨_, _, ep⟩ := s.ended_pwr u.runs.commitRecord
  refine answers_of_finish (congrArg (finish s) e) ⟨?_, ?_, ?_, ?_, ?_⟩
  · rw [s.ended_fld _ (by decide)]
    exact (congrArg (bitsOf · 2 0) (hrd _ (by decide) (by decide))).trans u.committing_status
  · rw [s.ended_cfgStatus_fld _ _ _ (by decide) (by decide)]
    exact (congrArg (bitsOf · 3 0) (hrd _ (by decide) (by decide))).trans u.committing_op
  · rw [s.ended_ldr, hldr]; rfl
  · rw [s.ended_key, hkey, s.ended_rd _ (by decide), hrd _ (by decide) (by decide)]; rfl
  · rw [ep, hpwr, s.ended_bit _ (by decide)]
    exact u.runs_doutArm.trans (congrArg (fun w : Nat => w.testBit 3) (hrd _ (by decide) (by decide))).symm

/-- Settles O13: power-on, the release of a trip, nRESET and a warm image reset are each a reset followed by a boot that finds no valid bank. -/
theorem startsWithoutImage : Obligations.StartsWithoutImage := by
  unfold Obligations.StartsWithoutImage
  refine ⟨?_, ?_, ?_, ?_, ?_, ?_, ?_⟩
  · exact fun s x hf hp hm ha hb => answers_powerOn hf hp hm (State.noneValid ha hb) x
  · exact fun s x hf hp hm => answers_powerOn_tripped hf hp hm x
  · exact fun s x hf hp hm ha hb => answers_thermRelease hf hp hm (State.noneValid ha hb) x
  · exact fun s hp ha hb => answers_nreset hp (State.noneValid ha hb)
  · exact fun s hc ha hb => answers_warm hc (State.noneValid ha hb)
  · exact fun s hc => answers_warm_busy hc
  · exact fun s d hi hop => answers_imageCommit hi hop d

end Sys2Proof.Machine
end

section
/-! SUPPORT. The operations that the loader's commands share (R64, R65, R77): records in two copies, the start of a command, its end, its
refusal. -/
namespace Sys2Proof.Machine

/-! ### Records in two copies (R64) -/

theorem TwoCopy.read_write {α : Type} (t : TwoCopy α) (v : α) : (t.write v).read = some v := by
  obtain ⟨n0, v0, n1, v1⟩ := t
  have hnew : ¬(max n0 n1 + 1 ≤ n0) := by omega
  have hold : n1 ≤ max n0 n1 + 1 := by omega
  cases v0 with
  | none => cases v1 <;> simp [TwoCopy.write, TwoCopy.read, hold]
  | some a =>
    cases v1 with
    | none => simp [TwoCopy.write, TwoCopy.read, hnew]
    | some w => by_cases h : n0 ≤ n1 <;> simp [TwoCopy.write, TwoCopy.read, h, hnew]

theorem State.bankRecord_writeBankRec (s : State) (bk : Bank) (r : BankRec) :
    (s.writeBankRec bk r).bankRecord bk = (s.bankRecord bk).write r := by cases bk <;> rfl
theorem State.bankValid_writeBankRec (s : State) (bk : Bank) (r : BankRec) : (s.writeBankRec bk r).bankValid bk = r.valid := by
  rw [State.bankValid, s.bankRecord_writeBankRec, TwoCopy.read_write]; rfl
theorem State.activeBank_writeActive (s : State) (bk : Bank) : (s.writeActive bk).activeBank = bk := by
  have e : (s.writeActive bk).activeBank = (s.ldr.active.write ⟨bk, (s.ldr.active.read.elim 0 (·.gen) + 1) % two32⟩).read.elim .a (·.bank) := rfl
  rw [e, TwoCopy.read_write]; rfl

/-- A bank record is cleared of VALID, or there is none. -/
theorem State.clearValid_cases (s : State) (bk : Bank) :
    (∃ r : BankRec, s.clearValid bk = s.writeBankRec bk { r with valid := false }) ∨ ((s.bankRecord bk).read = none ∧ s.clearValid bk = s) := by
  unfold State.clearValid
  cases h : (s.bankRecord bk).read with
  | some r => exact .inl ⟨r, rfl⟩
  | none => exact .inr ⟨rfl, rfl⟩
theorem State.bankValid_clearValid (s : State) (bk : Bank) : (s.clearValid bk).bankValid bk = false := by
  obtain ⟨r, e⟩ | ⟨h, e⟩ := s.clearValid_cases bk
  · rw [e, State.bankValid_writeBankRec]
  · rw [e, State.bankValid, h]; rfl

/-- Of the loader a bank record's write changes the records alone. -/
theorem State.writeBankRec_ldr (s : State) (bk : Bank) (r : BankRec) : ∃ x y, (s.writeBankRec bk r).ldr = { s.ldr with recA := x, recB := y } := by
  cases bk
  · exact ⟨_, _, rfl⟩
  · exact ⟨_, _, rfl⟩
theorem State.clearValid_ldr (s : State) (bk : Bank) : ∃ x y, (s.clearValid bk).ldr = { s.ldr with recA := x, recB := y } := by
  obtain ⟨r, e⟩ | ⟨-, e⟩ := s.clearValid_cases bk
  · rw [e]; exact s.writeBankRec_ldr bk _
  · rw [e]; exact ⟨_, _, rfl⟩
theorem State.writeActive_ldr (s : State) (bk : Bank) : ∃ x, (s.writeActive bk).ldr = { s.ldr with active := x } := ⟨_, rfl⟩

theorem State.bank_congr {s t : State} (ha : t.ldr.bankA = s.ldr.bankA) (hb : t.ldr.bankB = s.ldr.bankB) (bk : Bank) : t.bank bk = s.bank bk := by
  cases bk
  · exact ha
  · exact hb
theorem State.bank_setBank_same (s : State) (bk : Bank) (c : List Host.Cell) : (s.setBank bk c).bank bk = c := by cases bk <;> rfl
theorem State.bank_setBank_other (s : State) (bk : Bank) (c : List Host.Cell) : (s.setBank bk c).bank (otherBank bk) = s.bank (otherBank bk) := by
  cases bk <;> rfl

/-! ### What the end of a command shows of the loader -/

theorem State.ended_bankValid (s0 s1 : State) (bk : Bank) : (s0.ended s1).bankValid bk = s1.bankValid bk :=
  State.bankValid_congr (by rw [s0.ended_ldr]) (by rw [s0.ended_ldr]) bk
theorem State.ended_activeBank (s0 s1 : State) : (s0.ended s1).activeBank = s1.activeBank := by
  rw [State.activeBank, s0.ended_ldr, State.activeBank]
theorem State.cellGet_ended_bank (s0 s1 : State) (bk : Bank) (a : Nat) :
    cellGet (fun _ => 255#8) ((s0.ended s1).bank bk) a = cellGet (fun _ => 255#8) (s1.bank bk) a := by
  cases bk
  · rw [State.bank, s0.ended_ldr]; exact cellGet_canon _ _ _
  · rw [State.bank, s0.ended_ldr]; exact cellGet_canon _ _ _
theorem bankKept_ended {s s1 : State} {bk : Bank} (h : s1.bank bk = s.bank bk) : BankKept s (s.ended s1) bk :=
  fun a => (s.cellGet_ended_bank s1 bk a).trans (by rw [h])

/-! ### What the operations change -/

theorem State.with_ldr_kept (s : State) (x : Loader) {p : Part} (hp : p ≠ .ldr) : p.kept s { s with ldr := x } := by
  cases p
  case ldr => exact absurd rfl hp
  case evt => exact ⟨rfl, rfl⟩
  all_goals rfl

section
variable {l : List Nat} {ps : List Part} {s t : State}

theorem ChangesOnly.setF (h : ChangesOnly l ps s t) {k : Nat} (hi lo v : Nat) (hk : k ∈ l) (hw : k ≠ R.WDN_STATUS) :
    ChangesOnly l ps s (t.setF k hi lo v) := h.wr _ hk hw
theorem ChangesOnly.with_ldr (h : ChangesOnly l ps s t) (x : Loader) (hp : .ldr ∈ ps) : ChangesOnly l ps s { t with ldr := x } :=
  h.trans ⟨fun _ _ => rfl, fun _ hq => t.with_ldr_kept x (fun e => hq (e ▸ hp))⟩
theorem ChangesOnly.setBank (h : ChangesOnly l ps s t) (bk : Bank) (c : List Host.Cell) (hp : .ldr ∈ ps) : ChangesOnly l ps s (t.setBank bk c) := by
  cases bk
  · exact h.with_ldr _ hp
  · exact h.with_ldr _ hp
theorem ChangesOnly.writeBankRec (h : ChangesOnly l ps s t) (bk : Bank) (r : BankRec) (hs : R.CFG_STATUS ∈ l) (hp : .ldr ∈ ps) :
    ChangesOnly l ps s (t.writeBankRec bk r) := by
  cases bk
  · exact (h.with_ldr _ hp).setF _ _ _ hs (by decide)
  · exact (h.with_ldr _ hp).setF _ _ _ hs (by decide)
theorem ChangesOnly.clearValid (h : ChangesOnly l ps s t) (bk : Bank) (hs : R.CFG_STATUS ∈ l) (hp : .ldr ∈ ps) :
    ChangesOnly l ps s (t.clearValid bk) := by
  obtain ⟨r, e⟩ | ⟨-, e⟩ := t.clearValid_cases bk
  · rw [e]; exact h.writeBankRec bk _ hs hp
  · rw [e]; exact h
theorem ChangesOnly.writeActive (h : ChangesOnly l ps s t) (bk : Bank) (hs : R.CFG_STATUS ∈ l) (hp : .ldr ∈ ps) :
    ChangesOnly l ps s (t.writeActive bk) := (h.with_ldr _ hp).setF _ _ _ hs (by decide)
theorem ChangesOnly.jobStart (h : ChangesOnly l ps s t) (code op : Nat) (bk : Bank) (hs : R.CFG_STATUS ∈ l) (hq : R.CFG_PROGRESS ∈ l)
    (hp : .ldr ∈ ps) : ChangesOnly l ps s (t.jobStart code op bk) :=
  ((h.with_ldr _ hp).setF _ _ _ hs (by decide)).wr _ hq (by decide)
theorem ChangesOnly.jobEnd (h : ChangesOnly l ps s t) (hs : R.CFG_STATUS ∈ l) (hp : .ldr ∈ ps) : ChangesOnly l ps s t.jobEnd :=
  (h.with_ldr _ hp).setF _ _ _ hs (by decide)
theorem ChangesOnly.jobDone (h : ChangesOnly l ps s t) (hs : R.CFG_STATUS ∈ l) (he : R.CFG_EVENTS ∈ l) (hp : .ldr ∈ ps) :
    ChangesOnly l ps s t.jobDone := (h.jobEnd hs hp).setB _ _ he (by decide)
theorem ChangesOnly.cfgRefuse (h : ChangesOnly l ps s t) (code cmd : Nat) (hr : R.CFG_ERROR ∈ l) (he : R.CFG_EVENTS ∈ l) :
    ChangesOnly l ps s (t.cfgRefuse code cmd) := (h.wr _ hr (by decide)).setB _ _ he (by decide)
theorem ChangesOnly.jobFail (h : ChangesOnly l ps s t) (code sec : Nat) (hs : R.CFG_STATUS ∈ l) (hr : R.CFG_ERROR ∈ l) (he : R.CFG_EVENTS ∈ l)
    (hp : .ldr ∈ ps) : ChangesOnly l ps s (t.jobFail code sec) :=
  ((h.wr _ hr (by decide)).setB _ _ he (by decide)).jobEnd hs hp
end

/-! ### OP, CFG_PROGRESS, CFG_ERROR and CFG_EVENTS after them -/

theorem State.op_setOp (s : State) {v : Nat} (h : v < 16) : (s.setOp v).fld R.CFG_STATUS 3 0 = v :=
  (s.fld_setF_same _ _ _ _ (by decide) (by decide)).trans (Nat.mod_eq_of_lt h)
theorem State.op_setB (s : State) {k : Nat} (i : Nat) (v : Bool) (h : k ≠ R.CFG_STATUS) :
    (s.setB k i v).fld R.CFG_STATUS 3 0 = s.fld R.CFG_STATUS 3 0 := s.fld_setF_other _ _ _ _ _ h
theorem State.op_wr (s : State) {k : Nat} (v : Nat) (h : k ≠ R.CFG_STATUS) : (s.wr k v).fld R.CFG_STATUS 3 0 = s.fld R.CFG_STATUS 3 0 :=
  congrArg (bitsOf · 3 0) (s.rd_wr_other v h)
theorem State.ended_op (s0 s1 : State) : (s0.ended s1).fld R.CFG_STATUS 3 0 = s1.fld R.CFG_STATUS 3 0 :=
  s0.ended_cfgStatus_fld s1 3 0 (by decide) (by decide)

theorem State.op_jobStart (s : State) (code : Nat) {op : Nat} (bk : Bank) (h : op < 16) : (s.jobStart code op bk).fld R.CFG_STATUS 3 0 = op :=
  (State.op_wr _ _ (by decide)).trans (State.op_setOp _ h)
theorem State.rd_jobStart_progress (s : State) (code op : Nat) (bk : Bank) : (s.jobStart code op bk).rd R.CFG_PROGRESS = 0 := State.rd_wr_same _ _ _
theorem State.jobStart_ldr (s : State) (code op : Nat) (bk : Bank) : (s.jobStart code op bk).ldr = { s.ldr with running := code, opBank := bk } := rfl

theorem State.restOp_lt (s : State) : s.restOp < 16 := by
  unfold State.restOp
  cases s.ldr.committed.isNone <;> cases s.ldr.staged.isSome <;> decide
theorem State.op_jobEnd (s : State) : s.jobEnd.fld R.CFG_STATUS 3 0 = s.restOp := State.op_setOp _ s.restOp_lt
theorem State.rd_jobEnd_other (s : State) {k : Nat} (h : k ≠ R.CFG_STATUS) : s.jobEnd.rd k = s.rd k := State.rd_wr_other _ _ h.symm

theorem State.jobDone_ldr (s : State) : s.jobDone.ldr = { s.ldr with running := 0 } := rfl
theorem State.op_jobDone (s : State) : s.jobDone.fld R.CFG_STATUS 3 0 = s.restOp := (State.op_setB _ _ _ (by decide)).trans s.op_jobEnd
theorem State.bit_jobDone (s : State) : s.jobDone.bit R.CFG_EVENTS 0 = true := State.bit_setB_same _ _ _ _ (by decide)
theorem State.rd_jobDone_other (s : State) {k : Nat} (hs : k ≠ R.CFG_STATUS) (he : k ≠ R.CFG_EVENTS) : s.jobDone.rd k = s.rd k :=
  (State.rd_wr_other _ _ he.symm).trans (s.rd_jobEnd_other hs)

theorem State.jobFail_ldr (s : State) (code sec : Nat) : (s.jobFail code sec).ldr = { s.ldr with running := 0 } := rfl
theorem State.op_jobFail (s : State) (code sec : Nat) : (s.jobFail code sec).fld R.CFG_STATUS 3 0 = s.restOp := State.op_jobEnd _
theorem State.rd_jobFail_error (s : State) (code sec : Nat) :
    (s.jobFail code sec).rd R.CFG_ERROR = (code + sec % 32 * 256 + s.ldr.running * 65536) % 4294967296 :=
  (State.rd_jobEnd_other _ (by decide)).trans ((State.rd_wr_other _ _ (by decide)).trans (s.rd_wr_same _ _))
theorem State.bit_jobFail (s : State) (code sec : Nat) : (s.jobFail code sec).bit R.CFG_EVENTS 1 = true :=
  (State.bit_wr_other _ _ _ (by decide)).trans (State.bit_setB_same _ _ _ _ (by decide))

theorem State.rd_cfgRefuse_error (s : State) {code cmd : Nat} (h : code + cmd * 65536 < 4294967296) :
    (s.cfgRefuse code cmd).rd R.CFG_ERROR = code + cmd * 65536 := by
  refine (State.rd_wr_other _ _ (by decide)).trans ((s.rd_wr_same _ _).trans ?_)
  rw [Nat.zero_mod, Nat.zero_mul, Nat.add_zero, Nat.mod_eq_of_lt h]
theorem State.bit_cfgRefuse (s : State) (code cmd : Nat) : (s.cfgRefuse code cmd).bit R.CFG_EVENTS 1 = true :=
  State.bit_setB_same _ _ _ _ (by decide)

/-! ### Commands that only start or are refused -/

section
variable {c : Instr} {s : State}

/-- A bank command starts: the bank's VALID is cleared, its bytes stay. -/
theorem answers_bankStart {code op : Nat} {bk : Bank} (hop : op < 16) (hc : exec c s = finish s ((s.clearValid bk).jobStart code op bk)) :
    Answers c s (fun t => t.fld R.CFG_STATUS 3 0 = op ∧ t.rd R.CFG_PROGRESS = 0 ∧ t.ldr.running = code ∧ t.ldr.opBank = bk ∧
      t.bankValid bk = false ∧ (∀ x, BankKept s t x) ∧ Only (among [R.CFG_PROGRESS]) [.ldr] s t) := by
  obtain ⟨x, y, e⟩ := s.clearValid_ldr bk
  have hl : ((s.clearValid bk).jobStart code op bk).ldr = { s.ldr with recA := x, recB := y, running := code, opBank := bk } := by
    rw [State.jobStart_ldr, e]
  have hvalid : ((s.clearValid bk).jobStart code op bk).bankValid bk = false :=
    (State.bankValid_congr rfl rfl bk).trans (s.bankValid_clearValid bk)
  have hframe : ChangesOnly [R.CFG_STATUS, R.CFG_PROGRESS] [.ldr] s ((s.clearValid bk).jobStart code op bk) :=
    ((ChangesOnly.refl _ _ s).clearValid bk (by decide) (by decide)).jobStart _ _ _ (by decide) (by decide) (by decide)
  refine answers_of_finish hc ⟨?_, ?_, ?_, ?_, ?_, fun z => bankKept_ended (State.bank_congr (by rw [hl]) (by rw [hl]) z), hframe.only (by decide)⟩
  · rw [State.ended_op, State.op_jobStart _ _ _ hop]
  · rw [s.ended_rd _ (by decide), State.rd_jobStart_progress]
  · rw [s.ended_ldr, hl]
  · rw [s.ended_ldr, hl]
  · rw [s.ended_bankValid, hvalid]

theorem answers_cfgRefuse {code cmd : Nat} (h : code + cmd * 65536 < 4294967296) (hc : exec c s = finish s (s.cfgRefuse code cmd)) :
    Answers c s (fun t => t.rd R.CFG_ERROR = code + cmd * 65536 ∧ t.bit R.CFG_EVENTS 1 = true ∧
      Only (among [R.CFG_ERROR, R.CFG_EVENTS]) [] s t) := by
  have hframe : ChangesOnly [R.CFG_ERROR, R.CFG_EVENTS] [] s (s.cfgRefuse code cmd) :=
    (ChangesOnly.refl _ _ s).cfgRefuse _ _ (by decide) (by decide)
  refine answers_of_finish hc ⟨?_, ?_, hframe.only_among⟩
  · rw [s.ended_rd _ (by decide), s.rd_cfgRefuse_error h]
  · rw [s.ended_bit _ (by decide), s.bit_cfgRefuse]
end

end Sys2Proof.Machine
end

section
/-! SUPPORT. The bank commands of the loader (R65, R77). -/
namespace Sys2Proof.Machine

/-! ### Erase and write -/

section
variable {s : State} {k : Bank}

theorem State.cmdErase_free (h : s.bankBusy = false) : s.cmdErase k = (s.clearValid (s.targetBank k)).jobStart 1 1 (s.targetBank k) :=
  if_neg (by simp [h])
theorem State.cmdErase_busy (h : s.bankBusy = true) : s.cmdErase k = s.cfgRefuse 0x10 1 := if_pos h
theorem State.cmdWrite_good (h : s.bankBusy = false) (hw : s.writeGood = true) :
    s.cmdWrite k = (s.clearValid (s.targetBank k)).jobStart 2 2 (s.targetBank k) :=
  (if_neg (by simp [h])).trans (if_neg (by simp [hw]))
theorem State.cmdWrite_bad (h : s.bankBusy = false) (hw : s.writeGood = false) : s.cmdWrite k = s.cfgRefuse 4 2 :=
  (if_neg (by simp [h])).trans (if_pos (by simp [hw]))
theorem State.cmdVerify_free (h : s.jobBusy = false) : s.cmdVerify k = (s.clearValid (s.targetBank k)).jobStart 3 3 (s.targetBank k) :=
  if_neg (by simp [h])

theorem answers_eraseDone (h : s.ldr.running = 1) : Answers .eraseDone s (fun t =>
    (∀ a, cellGet (fun _ => 255#8) (t.bank s.ldr.opBank) a = 255#8) ∧ BankKept s t (otherBank s.ldr.opBank) ∧
    t.rd R.CFG_PROGRESS = 0x8000000 ∧ t.ldr.running = 0 ∧ t.bit R.CFG_EVENTS 0 = true ∧ Only (among [R.CFG_PROGRESS, R.CFG_EVENTS]) [.ldr] s t) := by
  obtain ⟨u, hu⟩ : ∃ u, u = (s.setBank s.ldr.opBank []).wr R.CFG_PROGRESS 0x8000000 := ⟨_, rfl⟩
  have hc : exec .eraseDone s = finish s u.jobDone := by rw [hu]; exact congrArg (finish s) (if_neg (by simp [h]))
  have hbank : ∀ bk, u.jobDone.bank bk = (s.setBank s.ldr.opBank []).bank bk := fun bk => by rw [hu]; exact State.bank_congr rfl rfl bk
  have hframe : ChangesOnly [R.CFG_STATUS, R.CFG_PROGRESS, R.CFG_EVENTS] [.ldr] s u.jobDone := by
    rw [hu]
    exact (((ChangesOnly.refl _ _ s).setBank _ _ (by decide)).wr _ (by decide) (by decide)).jobDone (by decide) (by decide) (by decide)
  refine answers_of_finish hc ⟨fun a => ?_, bankKept_ended ?_, ?_, ?_, ?_, hframe.only (by decide)⟩
  · rw [s.cellGet_ended_bank, hbank, State.bank_setBank_same]; rfl
  · rw [hbank, State.bank_setBank_other]
  · rw [s.ended_rd _ (by decide), State.rd_jobDone_other _ (by decide) (by decide), hu, State.rd_wr_same]
  · rw [s.ended_ldr, State.jobDone_ldr]
  · rw [s.ended_bit _ (by decide), State.bit_jobDone]
end

/-! ### The host's bytes -/

/-- A run of bytes written from `o` on: each address holds its byte of the run, the others what they held. -/
theorem cellGet_putRun (f : Nat → Byte) (d : Bytes) (o k a : Nat) (c : List Host.Cell) :
    cellGet f ((d.zipIdx k).foldl (fun c (w : Byte × Nat) => cellPut c (o + w.2) w.1) c) a =
      if o + k ≤ a ∧ a < o + k + d.length then d.getD (a - (o + k)) 0#8 else cellGet f c a := by
  induction d generalizing k c with
  | nil => exact (if_neg (by simp)).symm
  | cons w d ih =>
    rw [List.zipIdx_cons, List.foldl_cons, ih, List.length_cons, cellGet_put]
    rcases lt_trichotomy a (o + k) with h | h | h
    · rw [if_neg (by omega), if_neg (by omega), if_neg (by omega)]
    · rw [if_neg (by omega), if_pos h.symm, if_pos (by omega), h, Nat.sub_self]; rfl
    · obtain ⟨j, rfl⟩ := Nat.exists_eq_add_of_lt h
      have hj : o + k + j + 1 - (o + (k + 1)) = j := by omega
      have hj' : o + k + j + 1 - (o + k) = j + 1 := by omega
      rw [hj, hj', List.getD_cons_succ, if_neg (show ¬o + k = o + k + j + 1 by omega)]
      exact if_congr (by omega) rfl rfl

section
variable {s : State} {f a n : Nat}

/-- A read of host memory that goes out leaves a trace outside alone. -/
theorem State.dmaRead_granted (h : (s.dmaRead f a n).1 = true) : ∃ o, s.dmaRead f a n = (true, { s with out := o }) := by
  unfold State.dmaRead at h ⊢
  cases hq : s.requests f false a n with
  | error x => rw [hq] at h; exact absurd h Bool.false_ne_true
  | ok rs =>
    obtain ⟨o, ho⟩ : ∃ o, rs.foldl (fun s q => s.emit (.dmaRead q.1 q.2)) s = { s with out := o } :=
      List.foldlRecOn (motive := fun t : State => ∃ o, t = { s with out := o }) _ _ ⟨s.out, rfl⟩ fun t ht q _ => by
        obtain ⟨o, rfl⟩ := ht
        exact ⟨_, rfl⟩
    exact ⟨o, Prod.ext rfl ho⟩
theorem State.iommuFault_ldr (s : State) (f : Nat) (w : Bool) (a : Nat) : (s.iommuFault f w a).ldr = s.ldr := by
  unfold State.iommuFault
  dsimp only
  split <;> rfl
theorem State.dmaRead_ldr (s : State) (f a n : Nat) : (s.dmaRead f a n).2.ldr = s.ldr := by
  unfold State.dmaRead
  cases s.requests f false a n with
  | error x => exact s.iommuFault_ldr _ _ _
  | ok rs => exact foldl_keep (fun (s : State) (q : Nat × Nat) => s.emit (.dmaRead q.1 q.2)) State.ldr (fun _ _ => rfl) rs s
end

section
variable {s : State} {data : Bytes} {ok : Bool}

/-- The host read of the running WRITE. -/
def State.bankRead (s : State) : Bool × State := s.dmaRead 0 (s.rd64 R.CFG_DMA_ADDR_LO) (s.rd R.CFG_DMA_LEN)
/-- The bank of the running WRITE with the bytes of the host. -/
def State.bankFilled (s : State) (data : Bytes) : List Host.Cell :=
  (data.take (s.rd R.CFG_DMA_LEN)).zipIdx.foldl (fun c (w : Byte × Nat) => cellPut c (s.rd R.CFG_BANK_OFFSET + w.2) w.1) (s.bank s.ldr.opBank)

theorem State.bankWriteDone_failed (hr : s.ldr.running = 2) (h : s.bankRead.1 = false ∨ ok = false ∨ data.length < s.rd R.CFG_DMA_LEN) :
    s.bankWriteDone data ok = s.bankRead.2.jobFail 0x12 0 := by
  unfold State.bankWriteDone State.bankRead at *
  rw [if_neg (by simp [hr])]
  cases hq : s.dmaRead 0 (s.rd64 R.CFG_DMA_ADDR_LO) (s.rd R.CFG_DMA_LEN) with
  | mk go t =>
    rw [hq] at h
    dsimp only
    rw [hq]
    exact if_pos (by simpa [or_assoc] using h)
theorem State.bankWriteDone_filled (hr : s.ldr.running = 2) (hd : s.bankRead.1 = true) (hl : s.rd R.CFG_DMA_LEN ≤ data.length) :
    ∃ o, s.bankWriteDone data true =
      ((({ s with out := o } : State).setBank s.ldr.opBank (s.bankFilled data)).wr R.CFG_PROGRESS (s.rd R.CFG_DMA_LEN)).jobDone := by
  obtain ⟨o, e⟩ := State.dmaRead_granted hd
  refine ⟨o, ?_⟩
  unfold State.bankWriteDone
  rw [if_neg (by simp [hr])]
  dsimp only
  rw [e]
  exact if_neg (by simpa using hl)

theorem State.cellGet_bankFilled (s : State) (hl : s.rd R.CFG_DMA_LEN ≤ data.length) (a : Nat) : cellGet (fun _ => 255#8) (s.bankFilled data) a =
    if s.rd R.CFG_BANK_OFFSET ≤ a ∧ a < s.rd R.CFG_BANK_OFFSET + s.rd R.CFG_DMA_LEN then data.getD (a - s.rd R.CFG_BANK_OFFSET) 0#8
    else cellGet (fun _ => 255#8) (s.bank s.ldr.opBank) a := by
  rw [State.bankFilled, cellGet_putRun, List.length_take, min_eq_left hl, Nat.add_zero]
  split
  next h => rw [List.getD_eq_getElem?_getD, List.getElem?_take, if_pos (by omega), List.getD_eq_getElem?_getD]
  next => rfl

theorem answers_cfgWriteDone (hr : s.ldr.running = 2) (hd : s.bankRead.1 = true) (hl : s.rd R.CFG_DMA_LEN ≤ data.length) :
    Answers (.cfgWriteDone data true) s (fun t =>
      (∀ i, i < s.rd R.CFG_DMA_LEN → cellGet (fun _ => 255#8) (t.bank s.ldr.opBank) (s.rd R.CFG_BANK_OFFSET + i) = data.getD i 0#8) ∧
      (∀ a, a < s.rd R.CFG_BANK_OFFSET ∨ s.rd R.CFG_BANK_OFFSET + s.rd R.CFG_DMA_LEN ≤ a →
        cellGet (fun _ => 255#8) (t.bank s.ldr.opBank) a = cellGet (fun _ => 255#8) (s.bank s.ldr.opBank) a) ∧
      BankKept s t (otherBank s.ldr.opBank) ∧ t.ldr.running = 0 ∧ t.bit R.CFG_EVENTS 0 = true) := by
  obtain ⟨o, e⟩ := State.bankWriteDone_filled hr hd hl
  obtain ⟨u, hu⟩ : ∃ u, u = ((({ s with out := o } : State).setBank s.ldr.opBank (s.bankFilled data)).wr R.CFG_PROGRESS (s.rd R.CFG_DMA_LEN)) :=
    ⟨_, rfl⟩
  rw [← hu] at e
  have hbank : ∀ bk, u.jobDone.bank bk = (({ s with out := o } : State).setBank s.ldr.opBank (s.bankFilled data)).bank bk := fun bk => by
    rw [hu]; exact State.bank_congr rfl rfl bk
  have hbyte : ∀ a, cellGet (fun _ => 255#8) ((s.ended u.jobDone).bank s.ldr.opBank) a = cellGet (fun _ => 255#8) (s.bankFilled data) a := fun a => by
    rw [s.cellGet_ended_bank, hbank, State.bank_setBank_same]
  refine answers_of_finish (congrArg (finish s) e) ⟨fun i hi => ?_, fun a ha => ?_, bankKept_ended ?_, ?_, ?_⟩
  · rw [hbyte, s.cellGet_bankFilled hl, if_pos (by omega), Nat.add_sub_cancel_left]
  · rw [hbyte, s.cellGet_bankFilled hl, if_neg (by omega)]
  · rw [hbank, State.bank_setBank_other]; exact State.bank_congr rfl rfl _
  · rw [s.ended_ldr, State.jobDone_ldr]
  · rw [s.ended_bit _ (by decide), State.bit_jobDone]

theorem answers_cfgWriteDone_failed (hr : s.ldr.running = 2) (h : s.bankRead.1 = false ∨ ok = false ∨ data.length < s.rd R.CFG_DMA_LEN) :
    Answers (.cfgWriteDone data ok) s (fun t =>
      (∀ bk, BankKept s t bk) ∧ t.ldr.running = 0 ∧ t.rd R.CFG_ERROR = 0x20012 ∧ t.bit R.CFG_EVENTS 1 = true) := by
  have hl : s.bankRead.2.ldr = s.ldr := s.dmaRead_ldr _ _ _
  have hf : (s.bankRead.2.jobFail 0x12 0).ldr = { s.ldr with running := 0 } := by rw [State.jobFail_ldr, hl]
  refine answers_of_finish (congrArg (finish s) (State.bankWriteDone_failed hr h)) ⟨fun bk => bankKept_ended ?_, ?_, ?_, ?_⟩
  · exact State.bank_congr (by rw [hf]) (by rw [hf]) bk
  · rw [s.ended_ldr, hf]
  · rw [s.ended_rd _ (by decide), State.rd_jobFail_error, hl, hr]
  · rw [s.ended_bit _ (by decide), State.bit_jobFail]
end

/-! ### Verify and invalidate -/

section
variable {s : State}

/-- The records that a passed VERIFY writes: the bank's and, with no image committed, the active bank's (R68, R77). -/
def State.verified (s : State) (i : Image) : State :=
  (s.writeBankRec s.ldr.opBank { valid := true, serial := i.serial, fp := i.fp }).onIf
    (s.writeBankRec s.ldr.opBank { valid := true, serial := i.serial, fp := i.fp }).ldr.committed.isNone (fun t => t.writeActive s.ldr.opBank)
theorem State.verifyDone_passed {i : Image} (hr : s.ldr.running = 3) (hi : s.readImage s.ldr.opBank false = .ok i) (hfp : i.root = i.fp) :
    ∃ n, s.verifyDone = ((s.verified i).wr R.CFG_PROGRESS n).jobDone := by
  unfold State.verifyDone
  rw [if_neg (by simp [hr])]
  dsimp only
  rw [hi]
  exact ⟨_, if_neg (by simp [hfp])⟩

/-- Of the loader it changes the records alone. -/
theorem State.verified_ldr (s : State) (i : Image) : ∃ x y z, (s.verified i).ldr = { s.ldr with recA := x, recB := y, active := z } := by
  obtain ⟨x, y, e⟩ := s.writeBankRec_ldr s.ldr.opBank { valid := true, serial := i.serial, fp := i.fp }
  unfold State.verified State.onIf
  split
  · obtain ⟨z, ez⟩ := State.writeActive_ldr (s.writeBankRec s.ldr.opBank { valid := true, serial := i.serial, fp := i.fp }) s.ldr.opBank
    exact ⟨x, y, z, by rw [ez, e]⟩
  · exact ⟨x, y, _, e⟩
theorem State.bankValid_verified (s : State) (i : Image) : (s.verified i).bankValid s.ldr.opBank = true :=
  (State.onIf_keep _ _ _ (fun t => t.bankValid s.ldr.opBank) (State.bankValid_congr rfl rfl _)).trans (s.bankValid_writeBankRec _ _)
theorem State.activeBank_verified (i : Image) (h : s.ldr.committed = none) : (s.verified i).activeBank = s.ldr.opBank := by
  obtain ⟨x, y, e⟩ := s.writeBankRec_ldr s.ldr.opBank { valid := true, serial := i.serial, fp := i.fp }
  rw [State.verified, e]
  show State.activeBank (State.onIf _ s.ldr.committed.isNone _) = _
  rw [h]
  exact State.activeBank_writeActive _ _
theorem ChangesOnly.verified (i : Image) : ChangesOnly [R.CFG_STATUS, R.CFG_PROGRESS, R.CFG_EVENTS] [.ldr] s (s.verified i) :=
  ((ChangesOnly.refl _ _ s).writeBankRec _ _ (by decide) (by decide)).onIf _ fun h => h.writeActive _ (by decide) (by decide)

theorem answers_verifyDone {i : Image} (hr : s.ldr.running = 3) (hi : s.readImage s.ldr.opBank false = .ok i) (hfp : i.root = i.fp) :
    Answers .verifyDone s (fun t =>
      t.bankValid s.ldr.opBank = true ∧ (∀ bk, BankKept s t bk) ∧ (s.ldr.committed = none → t.activeBank = s.ldr.opBank) ∧ t.ldr.running = 0 ∧
      t.bit R.CFG_EVENTS 0 = true ∧ Only (among [R.CFG_PROGRESS, R.CFG_EVENTS]) [.ldr] s t) := by
  obtain ⟨n, e⟩ := State.verifyDone_passed hr hi hfp
  obtain ⟨x, y, z, hl⟩ := s.verified_ldr i
  have hd : ((s.verified i).wr R.CFG_PROGRESS n).jobDone.ldr = { s.ldr with recA := x, recB := y, active := z, running := 0 } := by
    rw [State.jobDone_ldr, State.wr_ldr, hl]
  have hframe := ((ChangesOnly.verified (s := s) i).wr (k := R.CFG_PROGRESS) n (by decide) (by decide)).jobDone
    (by decide) (by decide) (by decide)
  refine answers_of_finish (congrArg (finish s) e) ⟨?_, fun bk => bankKept_ended ?_, fun hn => ?_, ?_, ?_, hframe.only (by decide)⟩
  · rw [s.ended_bankValid]; exact (State.bankValid_congr rfl rfl _).trans (s.bankValid_verified i)
  · exact State.bank_congr (by rw [hd]) (by rw [hd]) bk
  · rw [s.ended_activeBank]; exact State.activeBank_verified i hn
  · rw [s.ended_ldr, hd]
  · rw [s.ended_bit _ (by decide), State.bit_jobDone]

theorem answers_cfgInvalidate {k : Bank} (h : s.bankBusy = false) : Answers (.cfgInvalidate k) s (fun t =>
    t.bankValid (s.targetBank k) = false ∧ (∀ bk, BankKept s t bk) ∧ t.bit R.CFG_EVENTS 0 = true ∧ Only (among [R.CFG_EVENTS]) [.ldr] s t) := by
  have e : s.cmdInvalidate k = (s.clearValid (s.targetBank k)).setB R.CFG_EVENTS 0 true := if_neg (by simp [h])
  obtain ⟨x, y, hl⟩ := s.clearValid_ldr (s.targetBank k)
  have hframe : ChangesOnly [R.CFG_STATUS, R.CFG_EVENTS] [.ldr] s ((s.clearValid (s.targetBank k)).setB R.CFG_EVENTS 0 true) :=
    ((ChangesOnly.refl _ _ s).clearValid _ (by decide) (by decide)).setB _ _ (by decide) (by decide)
  refine answers_of_finish (congrArg (finish s) e) ⟨?_, fun bk => bankKept_ended ?_, ?_, hframe.only (by decide)⟩
  · rw [s.ended_bankValid]; exact (State.bankValid_congr rfl rfl _).trans (s.bankValid_clearValid _)
  · exact State.bank_congr (by rw [State.setB_ldr, hl]) (by rw [State.setB_ldr, hl]) bk
  · rw [s.ended_bit _ (by decide)]; exact State.bit_setB_same _ _ _ _ (by decide)
end

/-- Settles O10: each command starts a job of the loader, ends the one that runs, or is refused. -/
theorem bankCommands : Obligations.BankCommands := by
  unfold Obligations.BankCommands
  refine ⟨?_, ?_, ?_, ?_, ?_, ?_, ?_, ?_, ?_, ?_⟩
  · exact fun s k h => answers_bankStart (by decide) (congrArg (finish s) (State.cmdErase_free h))
  · exact fun s k h => answers_cfgRefuse (code := 0x10) (cmd := 1) (by decide) (congrArg (finish s) (State.cmdErase_busy h))
  · exact fun s h => answers_eraseDone h
  · exact fun s k h hw => answers_bankStart (by decide) (congrArg (finish s) (State.cmdWrite_good h hw))
  · exact fun s k h hw => answers_cfgRefuse (code := 4) (cmd := 2) (by decide) (congrArg (finish s) (State.cmdWrite_bad h hw))
  · exact fun s data hr hd hl => answers_cfgWriteDone hr hd hl
  · exact fun s data ok hr h => answers_cfgWriteDone_failed hr h
  · exact fun s k h => answers_bankStart (by decide) (congrArg (finish s) (State.cmdVerify_free h))
  · exact fun s i hr hi hfp => answers_verifyDone hr hi hfp
  · exact fun s k h => answers_cfgInvalidate h

end Sys2Proof.Machine
end

section
/-! SUPPORT. Words written to consecutive registers, and fingerprints (R79). -/
namespace Sys2Proof.Machine

/-- A run of words written from register `k` on: each register of the run holds its word, the others what they held. -/
theorem State.rd_foldl_wr (ws : List Nat) (k n j : Nat) (s : State) :
    ((ws.zipIdx n).foldl (fun s (w : Nat × Nat) => s.wr (k + 4 * w.2) w.1) s).rd (k + 4 * j) =
      if n ≤ j ∧ j < n + ws.length then ws.getD (j - n) 0 % 4294967296 else s.rd (k + 4 * j) := by
  induction ws generalizing n s with
  | nil => exact (if_neg (by simp)).symm
  | cons w ws ih =>
    rw [List.zipIdx_cons, List.foldl_cons, ih, List.length_cons, State.rd_wr]
    rcases lt_trichotomy j n with h | h | h
    · rw [if_neg (by omega), if_neg (by omega), if_neg (by omega)]
    · rw [if_neg (by omega), if_pos (by omega), if_pos (by omega), h, Nat.sub_self]; rfl
    · obtain ⟨i, rfl⟩ := Nat.exists_eq_add_of_lt h
      have hi : n + i + 1 - (n + 1) = i := by omega
      have hi' : n + i + 1 - n = i + 1 := by omega
      rw [hi, hi', List.getD_cons_succ, if_neg (show ¬k + 4 * n = k + 4 * (n + i + 1) by omega)]
      exact if_congr (by omega) rfl rfl

/-- The words of a run read back. -/
theorem State.rds_wrs (s : State) (k : Nat) {ws : List Nat} (h : ∀ w ∈ ws, w < 4294967296) : (s.wrs k ws).rds k ws.length = ws := by
  refine List.ext_getElem (by simp [State.rds]) fun i _ hi => ?_
  simp only [State.rds, List.getElem_map, List.getElem_range]
  rw [State.wrs, State.rd_foldl_wr, if_pos (by omega), Nat.sub_zero, List.getD_eq_getElem _ _ hi, Nat.mod_eq_of_lt (h _ (List.getElem_mem hi))]

theorem leNat_lt (d : Bytes) : leNat d < 256 ^ d.length := by
  induction d with
  | nil => decide
  | cons x d ih =>
    have hx : x.toNat < 256 := x.isLt
    rw [leNat, List.length_cons, Nat.pow_succ]
    omega
theorem length_digestWords (fp : Bytes) : (digestWords fp).length = 8 := by simp [digestWords]
theorem digestWords_lt (fp : Bytes) : ∀ w ∈ digestWords fp, w < 4294967296 := by
  intro w hw
  obtain ⟨i, -, rfl⟩ := List.mem_map.1 hw
  have hlen : (sliceB fp (4 * i) 4).length ≤ 4 := List.length_take_le _ _
  exact lt_of_lt_of_le (leNat_lt _) (Nat.pow_le_pow_right (by decide) hlen)
/-- The registers of a fingerprint hold its words. -/
theorem State.rds_putFp (s : State) (k : Nat) (fp : Bytes) : (s.putFp k fp).rds k 8 = digestWords fp :=
  length_digestWords fp ▸ s.rds_wrs k (digestWords_lt fp)

theorem ChangesOnly.putFp {l : List Nat} {ps : List Part} {s t : State} (h : ChangesOnly l ps s t) (k : Nat) (fp : Bytes)
    (hk : ∀ i, i < 8 → k + 4 * i ∈ l) (hw : ∀ i, i < 8 → k + 4 * i ≠ R.WDN_STATUS) : ChangesOnly l ps s (t.putFp k fp) := by
  refine List.foldlRecOn (motive := ChangesOnly l ps s) _ _ h fun u hu w hm => ?_
  have hi : w.2 < 8 := by
    have := (List.mem_zipIdx' hm).1
    rwa [length_digestWords] at this
  exact hu.wr _ (hk _ hi) (hw _ hi)
theorem State.putFp_ldr (s : State) (k : Nat) (fp : Bytes) : (s.putFp k fp).ldr = s.ldr := s.wrs_ldr _ _

end Sys2Proof.Machine
end

section
/-! SUPPORT. Staging, the exchange and its commit, abort, the release of the boot hold (R70, R77, R81, R82, R84). -/
namespace Sys2Proof.Machine

section
variable {s : State}

/-! ### OP at rest (Table 03-10) -/

theorem State.restOp_staged (hc : s.ldr.committed.isSome = true) (hs : s.ldr.staged.isSome = true) : s.restOp = 5 := by
  obtain ⟨x, hx⟩ := Option.isSome_iff_exists.1 hc
  obtain ⟨i, hi⟩ := Option.isSome_iff_exists.1 hs
  rw [State.restOp, hx, hi]; rfl
theorem State.restOp_unstaged (hc : s.ldr.committed.isSome = true) (hs : s.ldr.staged = none) : s.restOp = 0 := by
  obtain ⟨x, hx⟩ := Option.isSome_iff_exists.1 hc
  rw [State.restOp, hx, hs]; rfl

/-! ### Staging (R81) -/

theorem State.cmdStage_free (hj : s.jobBusy = false) (hc : s.ldr.committed.isSome = true) (hv : s.bankValid (otherBank s.activeBank) = true) :
    s.cmdStage = s.dropStaged.jobStart 4 4 (otherBank s.activeBank) :=
  (if_neg (by simp [hj])).trans ((if_neg (by simpa using Option.isSome_iff_ne_none.1 hc)).trans (if_neg (by simp [hv])))

theorem answers_stage (hj : s.jobBusy = false) (hc : s.ldr.committed.isSome = true) (hv : s.bankValid (otherBank s.activeBank) = true) :
    Answers .stage s (fun t => t.fld R.CFG_STATUS 3 0 = 4 ∧ t.ldr.running = 4 ∧ t.ldr.staged = none ∧ t.ldr.opBank = otherBank s.activeBank ∧
      t.rd R.CFG_PROGRESS = 0 ∧ Only (among [R.CFG_PROGRESS]) [.ldr] s t) := by
  have hframe : ChangesOnly [R.CFG_STATUS, R.CFG_PROGRESS] [.ldr] s (s.dropStaged.jobStart 4 4 (otherBank s.activeBank)) :=
    ((ChangesOnly.refl _ _ s).with_ldr _ (by decide)).jobStart _ _ _ (by decide) (by decide) (by decide)
  refine answers_of_finish (congrArg (finish s) (State.cmdStage_free hj hc hv)) ⟨?_, ?_, ?_, ?_, ?_, hframe.only (by decide)⟩
  · rw [s.ended_op, State.op_jobStart _ _ _ (by decide)]
  · rw [s.ended_ldr, State.jobStart_ldr]
  · rw [s.ended_ldr, State.jobStart_ldr]; rfl
  · rw [s.ended_ldr, State.jobStart_ldr]
  · rw [s.ended_rd _ (by decide), State.rd_jobStart_progress]

/-- The state with an image staged: its fingerprint shown, its shadows held. -/
def State.stagedWith (s : State) (i : Image) (n : Nat) : State :=
  let s := (s.putFp (R.CFG_STAGED_FP 0) i.root).wr R.CFG_PROGRESS n
  { s with ldr := { s.ldr with staged := some i } }
theorem State.stagedWith_ldr (s : State) (i : Image) (n : Nat) : (s.stagedWith i n).ldr = { s.ldr with staged := some i } := by
  rw [State.stagedWith]
  dsimp only
  rw [State.wr_ldr, State.putFp_ldr]
theorem State.stageDone_passed {i : Image} {t0 : State} (hr : s.ldr.running = 4) (hb : s.shadowBase.bankLoad s.ldr.opBank = .inr (i, t0))
    (hfs : t0.fs = s.fs) (hf : (t0.bit (R.OPT_CFG .a) 0 && !(t0.optModel .a).factorOk (t0.optModel .a).factorise) = false) :
    ∃ n, s.stageDone = (s.stagedWith i n).jobDone := by
  unfold State.stageDone
  rw [if_neg (by simp [hr]), hb]
  dsimp only
  rw [if_neg (not_not.2 hfs), hf]
  exact ⟨_, rfl⟩
theorem State.stageDone_refused {e : Nat × Nat} (hr : s.ldr.running = 4) (hb : s.shadowBase.bankLoad s.ldr.opBank = .inl e) :
    s.stageDone = s.jobFail e.1 e.2 := by
  unfold State.stageDone
  rw [if_neg (by simp [hr]), hb]

theorem answers_stageDone {i : Image} {t0 : State} (hr : s.ldr.running = 4) (hc : s.ldr.committed.isSome = true)
    (hb : s.shadowBase.bankLoad s.ldr.opBank = .inr (i, t0)) (hfs : t0.fs = s.fs)
    (hf : (t0.bit (R.OPT_CFG .a) 0 && !(t0.optModel .a).factorOk (t0.optModel .a).factorise) = false) : Answers .stageDone s (fun t =>
      t.ldr.staged = some i ∧ t.fld R.CFG_STATUS 3 0 = 5 ∧ t.ldr.running = 0 ∧ t.bit R.CFG_EVENTS 0 = true ∧
      Only (fun k => among [R.CFG_PROGRESS, R.CFG_EVENTS] k || between (R.CFG_STAGED_FP 0) (R.CFG_STAGED_FP 8) k) [.ldr] s t) := by
  obtain ⟨n, e⟩ := State.stageDone_passed hr hb hfs hf
  have hl := s.stagedWith_ldr i n
  have hframe : ChangesOnly ([R.CFG_STATUS, R.CFG_PROGRESS, R.CFG_EVENTS] ++ (List.range 8).map R.CFG_STAGED_FP) [.ldr] s (s.stagedWith i n).jobDone :=
    ((((ChangesOnly.refl _ _ s).putFp _ _ (by decide) (by decide)).wr _ (by decide) (by decide)).with_ldr _ (by decide)).jobDone
      (by decide) (by decide) (by decide)
  refine answers_of_finish (congrArg (finish s) e) ⟨?_, ?_, ?_, ?_, hframe.only (by decide)⟩
  · rw [s.ended_ldr, State.jobDone_ldr, hl]
  · rw [s.ended_op, State.op_jobDone, State.restOp_staged (by rw [hl]; exact hc) (by rw [hl]; rfl)]
  · rw [s.ended_ldr, State.jobDone_ldr]
  · rw [s.ended_bit _ (by decide), State.bit_jobDone]

theorem answers_stageDone_refused {e : Nat × Nat} (hr : s.ldr.running = 4) (hc : s.ldr.committed.isSome = true) (hs : s.ldr.staged = none)
    (hb : s.shadowBase.bankLoad s.ldr.opBank = .inl e) : Answers .stageDone s (fun t =>
      t.ldr.staged = none ∧ t.fld R.CFG_STATUS 3 0 = 0 ∧ t.ldr.running = 0 ∧ t.bit R.CFG_EVENTS 1 = true ∧
      t.rd R.CFG_ERROR = (e.1 + e.2 % 32 * 256 + 0x40000) % 4294967296 ∧ Only (among [R.CFG_ERROR, R.CFG_EVENTS]) [.ldr] s t) := by
  have hframe : ChangesOnly [R.CFG_STATUS, R.CFG_ERROR, R.CFG_EVENTS] [.ldr] s (s.jobFail e.1 e.2) :=
    (ChangesOnly.refl _ _ s).jobFail _ _ (by decide) (by decide) (by decide) (by decide)
  refine answers_of_finish (congrArg (finish s) (State.stageDone_refused hr hb)) ⟨?_, ?_, ?_, ?_, ?_, hframe.only (by decide)⟩
  · rw [s.ended_ldr, State.jobFail_ldr, hs]
  · rw [s.ended_op, State.op_jobFail, State.restOp_unstaged hc hs]
  · rw [s.ended_ldr, State.jobFail_ldr]
  · rw [s.ended_bit _ (by decide), State.bit_jobFail]
  · rw [s.ended_rd _ (by decide), State.rd_jobFail_error, hr]

/-! ### The exchange and its commit (R82, R84) -/

theorem State.cmdExchange_busy (hj : s.jobBusy = true) (hx : s.ldr.xchg = none) (hr : s.ldr.running ≠ 5) :
    s.cmdExchange = s.dropStaged.cfgRefuse 0x10 5 := by
  have hdrop : s.onIf (s.ldr.xchg.isNone && s.ldr.running != 5) State.dropStaged = s.dropStaged := by
    rw [hx, bne_iff_ne.2 hr]; rfl
  exact (if_pos hj).trans (congrArg (State.cfgRefuse · 0x10 5) hdrop)
theorem State.cmdExchange_synced (hj : s.jobBusy = false) (hs : s.ldr.staged.isSome = true) (hw : s.bit R.WDN_STATUS 4 = true) :
    s.cmdExchange = { s with ldr := { s.ldr with running := 5 } } :=
  (if_neg (by simp [hj])).trans ((if_neg (by simpa using Option.isSome_iff_ne_none.1 hs)).trans (if_neg (by simp [hw])))
theorem State.cmdExchange_unsynced (hj : s.jobBusy = false) (hs : s.ldr.staged.isSome = true) (hw : s.bit R.WDN_STATUS 4 = false) :
    s.cmdExchange = (s.cfgRefuse 0x11 5).dropStaged.setOp (s.cfgRefuse 0x11 5).dropStaged.restOp :=
  (if_neg (by simp [hj])).trans ((if_neg (by simpa using Option.isSome_iff_ne_none.1 hs)).trans (if_pos (by simp [hw])))

theorem answers_exchange (hj : s.jobBusy = false) (hs : s.ldr.staged.isSome = true) (hw : s.bit R.WDN_STATUS 4 = true) :
    Answers .exchange s (fun t => t.ldr.running = 5 ∧ t.ldr.staged = s.ldr.staged ∧ Only (fun _ => false) [.ldr] s t) := by
  have hframe : ChangesOnly [] [.ldr] s { s with ldr := { s.ldr with running := 5 } } := (ChangesOnly.refl _ _ s).with_ldr _ (by decide)
  refine answers_of_finish (congrArg (finish s) (State.cmdExchange_synced hj hs hw)) ⟨?_, ?_, hframe.only (by decide)⟩
  · rw [s.ended_ldr]
  · rw [s.ended_ldr]

theorem answers_exchange_unsynced (hj : s.jobBusy = false) (hs : s.ldr.staged.isSome = true) (hw : s.bit R.WDN_STATUS 4 = false) :
    Answers .exchange s (fun t => t.ldr.staged = none ∧ t.rd R.CFG_ERROR = 0x50011 ∧ t.bit R.CFG_EVENTS 1 = true ∧
      Only (among [R.CFG_ERROR, R.CFG_EVENTS]) [.ldr] s t) := by
  obtain ⟨u, hu⟩ : ∃ u, u = (s.cfgRefuse 0x11 5).dropStaged := ⟨_, rfl⟩
  have e := State.cmdExchange_unsynced hj hs hw
  rw [← hu] at e
  have hrd : ∀ k, k ≠ R.CFG_STATUS → (u.setOp u.restOp).rd k = (s.cfgRefuse 0x11 5).rd k := fun k hk => by
    rw [hu]; exact State.rd_wr_other _ _ hk.symm
  have hframe : ChangesOnly [R.CFG_STATUS, R.CFG_ERROR, R.CFG_EVENTS] [.ldr] s (u.setOp u.restOp) := by
    rw [hu]
    exact (((ChangesOnly.refl _ _ s).cfgRefuse _ _ (by decide) (by decide)).with_ldr _ (by decide)).setF _ _ _ (by decide) (by decide)
  refine answers_of_finish (congrArg (finish s) e) ⟨?_, ?_, ?_, hframe.only (by decide)⟩
  · rw [s.ended_ldr, hu]; rfl
  · rw [s.ended_rd _ (by decide), hrd _ (by decide), State.rd_cfgRefuse_error _ (by decide)]
  · rw [s.ended_bit _ (by decide), State.bit, hrd _ (by decide)]; exact s.bit_cfgRefuse _ _

theorem answers_exchange_busy (hj : s.jobBusy = true) (hx : s.ldr.xchg = none) (hr : s.ldr.running ≠ 5) : Answers .exchange s (fun t =>
    t.ldr.staged = none ∧ t.rd R.CFG_ERROR = 0x50010 ∧ t.bit R.CFG_EVENTS 1 = true ∧ Only (among [R.CFG_ERROR, R.CFG_EVENTS]) [.ldr] s t) := by
  have hframe : ChangesOnly [R.CFG_ERROR, R.CFG_EVENTS] [.ldr] s (s.dropStaged.cfgRefuse 0x10 5) :=
    ((ChangesOnly.refl _ _ s).with_ldr _ (by decide)).cfgRefuse _ _ (by decide) (by decide)
  refine answers_of_finish (congrArg (finish s) (State.cmdExchange_busy hj hx hr)) ⟨?_, ?_, ?_, hframe.only_among⟩
  · rw [s.ended_ldr]; rfl
  · rw [s.ended_rd _ (by decide), State.rd_cfgRefuse_error _ (by decide)]
  · rw [s.ended_bit _ (by decide), State.bit_cfgRefuse]

theorem State.with_key_kept (s : State) (x : KeyState) {p : Part} (hp : p ≠ .key) : p.kept s { s with key := x } := by
  cases p
  case key => exact absurd rfl hp
  case evt => exact ⟨rfl, rfl⟩
  all_goals rfl
theorem ChangesOnly.tamperCopy {l : List Nat} {ps : List Part} {t : State} (h : ChangesOnly l ps s t) (v : Nat) (hp : .key ∈ ps) :
    ChangesOnly l ps s (t.tamperCopy v) := h.trans ⟨fun _ _ => rfl, fun _ hq => t.with_key_kept _ (fun e => hq (e ▸ hp))⟩

/-- The commit of an exchange at X: the active-bank record and X are written, the tamper settings copied, the exchange is pending (R82). -/
def State.xchgPending (s : State) (x v : Nat) : State :=
  let s := ((s.writeActive (otherBank s.activeBank)).wr R.CFG_XCHG_INDEX x).tamperCopy v
  let s : State := { s with ldr := { s.ldr with running := 0, xchg := some x, mateSusp := 2 } }
  ((s.setOp 6).setB R.CFG_EVENTS 0 true).setB R.CFG_MATE_STATUS 2 false
theorem State.xchgCommit_eq (hr : s.ldr.running = 5) : ∃ v, s.xchgCommit = s.xchgPending s.xchgIndex v := ⟨_, if_neg (not_not.2 hr)⟩

theorem answers_exchangeCommit (hr : s.ldr.running = 5) : Answers .exchangeCommit s (fun t =>
    t.ldr.xchg = some s.xchgIndex ∧ t.activeBank = otherBank s.activeBank ∧ t.fld R.CFG_STATUS 3 0 = 6 ∧ t.ldr.running = 0 ∧
    t.rd R.CFG_XCHG_INDEX = s.xchgIndex % 4294967296 ∧ t.bit R.CFG_EVENTS 0 = true ∧
    Only (among [R.CFG_XCHG_INDEX, R.CFG_EVENTS, R.CFG_MATE_STATUS]) [.ldr, .key] s t) := by
  obtain ⟨v, e⟩ := State.xchgCommit_eq hr
  have hframe : ChangesOnly [R.CFG_STATUS, R.CFG_XCHG_INDEX, R.CFG_EVENTS, R.CFG_MATE_STATUS] [.ldr, .key] s (s.xchgPending s.xchgIndex v) :=
    ((((((((ChangesOnly.refl _ _ s).writeActive _ (by decide) (by decide)).wr _ (by decide) (by decide)).tamperCopy _ (by decide)).with_ldr _
      (by decide)).setF _ _ _ (by decide) (by decide)).setB _ _ (by decide) (by decide)).setB _ _ (by decide) (by decide))
  refine answers_of_finish (congrArg (finish s) e) ⟨?_, ?_, ?_, ?_, ?_, ?_, hframe.only (by decide)⟩
  · rw [s.ended_ldr]; rfl
  · rw [s.ended_activeBank]; exact s.activeBank_writeActive _
  · rw [s.ended_op]
    exact (State.op_setB _ _ _ (by decide)).trans ((State.op_setB _ _ _ (by decide)).trans (State.op_setOp _ (by decide)))
  · rw [s.ended_ldr]; rfl
  · rw [s.ended_rd _ (by decide)]
    exact (State.rd_wr_other _ _ (by decide)).trans ((State.rd_wr_other _ _ (by decide)).trans ((State.rd_wr_other _ _ (by decide)).trans
      (State.rd_wr_same _ _ _)))
  · rw [s.ended_bit _ (by decide)]
    exact (State.bit_setB_other _ _ _ _ (by decide)).trans (State.bit_setB_same _ _ _ _ (by decide))

/-! ### Abort and release (R70, R77, R84) -/

theorem State.cfgAbort_pending (ho : s.cfgOp = 6) (late : Bool) : s.cfgAbort late = s.setB R.CFG_STATUS 11 true := if_pos ho
theorem State.cfgAbort_late (ho : s.cfgOp ≠ 6) (hr : s.ldr.running = 0) : s.cfgAbort true = s.setB R.CFG_STATUS 11 true :=
  (if_neg ho).trans ((if_neg (not_not.2 hr)).trans (if_pos rfl))
theorem State.cfgAbort_running (ho : s.cfgOp ≠ 6) (hr : s.ldr.running ≠ 0) (late : Bool) : s.cfgAbort late = s.dropStaged.jobFail 0x13 0 :=
  (if_neg ho).trans (if_pos hr)

/-- An ABORT that comes too late is only noted. -/
theorem answers_abortLate {c : Instr} (hc : exec c s = finish s (s.setB R.CFG_STATUS 11 true)) : Answers c s (fun t =>
    t.bit R.CFG_STATUS 11 = true ∧ t.fld R.CFG_STATUS 3 0 = s.fld R.CFG_STATUS 3 0 ∧ Only (fun _ => false) [] s t) := by
  have hframe : ChangesOnly [R.CFG_STATUS] [] s (s.setB R.CFG_STATUS 11 true) := (ChangesOnly.refl _ _ s).setB _ _ (by decide) (by decide)
  refine answers_of_finish hc ⟨?_, ?_, hframe.only (by decide)⟩
  · rw [State.bit_eq_fld, s.ended_cfgStatus_fld _ _ _ (by decide) (by decide), ← State.bit_eq_fld, State.bit_setB_same _ _ _ _ (by decide)]
  · rw [s.ended_op, State.setB, s.fld_setF_apart _ _ _ _ _ _ (by decide) (by decide) (by decide)]

theorem answers_cfgAbort_running (ho : s.cfgOp ≠ 6) (hr : s.ldr.running = 1 ∨ s.ldr.running = 2 ∨ s.ldr.running = 3) (late : Bool) :
    Answers (.cfgAbort late) s (fun t => t.ldr.running = 0 ∧ t.ldr.staged = none ∧ t.rd R.CFG_ERROR = 0x13 + s.ldr.running * 65536 ∧
      t.bit R.CFG_EVENTS 1 = true ∧ Only (among [R.CFG_ERROR, R.CFG_EVENTS]) [.ldr] s t) := by
  have hframe : ChangesOnly [R.CFG_STATUS, R.CFG_ERROR, R.CFG_EVENTS] [.ldr] s (s.dropStaged.jobFail 0x13 0) :=
    ((ChangesOnly.refl _ _ s).with_ldr _ (by decide)).jobFail _ _ (by decide) (by decide) (by decide) (by decide)
  refine answers_of_finish (congrArg (finish s) (State.cfgAbort_running ho (by omega) late)) ⟨?_, ?_, ?_, ?_, hframe.only (by decide)⟩
  · rw [s.ended_ldr, State.jobFail_ldr]
  · rw [s.ended_ldr, State.jobFail_ldr]; rfl
  · rw [s.ended_rd _ (by decide), State.rd_jobFail_error]
    show (0x13 + 0 % 32 * 256 + s.ldr.running * 65536) % 4294967296 = _
    omega
  · rw [s.ended_bit _ (by decide), State.bit_jobFail]

theorem answers_release (ho : s.cfgOp = 8) : Answers .release s (fun t =>
    t.fld R.CFG_STATUS 3 0 = 7 ∧ t.bit R.CFG_EVENTS 0 = true ∧ Only (among [R.CFG_EVENTS]) [] s t) := by
  have e : s.cmdRelease = (s.setOp 7).setB R.CFG_EVENTS 0 true := if_pos ho
  have hframe : ChangesOnly [R.CFG_STATUS, R.CFG_EVENTS] [] s ((s.setOp 7).setB R.CFG_EVENTS 0 true) :=
    ((ChangesOnly.refl _ _ s).setF _ _ _ (by decide) (by decide)).setB _ _ (by decide) (by decide)
  refine answers_of_finish (congrArg (finish s) e) ⟨?_, ?_, hframe.only (by decide)⟩
  · rw [s.ended_op, State.op_setB _ _ _ (by decide), State.op_setOp _ (by decide)]
  · rw [s.ended_bit _ (by decide), State.bit_setB_same _ _ _ _ (by decide)]
end

/-- Settles O11: a command of the exchange starts, ends or fails a job of the loader, and no refusal leaves the shadows. -/
theorem exchangeCommands : Obligations.ExchangeCommands := by
  unfold Obligations.ExchangeCommands
  refine ⟨?_, ?_, ?_, ?_, ?_, ?_, ?_, ?_, ?_, ?_, ?_⟩
  · exact fun s hj hc hv => answers_stage hj hc hv
  · exact fun s t0 i hr hc hb hfs hf => answers_stageDone hr hc hb hfs hf
  · exact fun s e hr hc hs hb => answers_stageDone_refused hr hc hs hb
  · exact fun s hj hs hw => answers_exchange hj hs hw
  · exact fun s hj hs hw => answers_exchange_unsynced hj hs hw
  · exact fun s hr => answers_exchangeCommit hr
  · exact fun s hj hx hr => answers_exchange_busy hj hx hr
  · intro s late ho
    exact (answers_abortLate (c := .cfgAbort late) (congrArg (finish s) (State.cfgAbort_pending ho late))).mono fun t ⟨h11, hop, h⟩ => ⟨h11, hop.trans ho, h⟩
  · exact fun s ho hr => answers_abortLate (congrArg (finish s) (State.cfgAbort_late ho hr))
  · exact fun s late ho hr => answers_cfgAbort_running ho hr late
  · exact fun s ho => answers_release ho

end Sys2Proof.Machine
end

section
/-! SUPPORT. What a frame that enters the switch leaves of the loader's registers (R135 to R154). -/
namespace Sys2Proof.Machine

/-- The registers of the CFG block. -/
def State.cfgRegs (s : State) : Fin 0x100000 → Nat := fun k => s.rd (0x600000 + k)
theorem cfgRegs_rd {s t : State} (h : t.cfgRegs = s.cfgRegs) {k : Nat} (hk : 0x600000 ≤ k ∧ k < 0x700000) : t.rd k = s.rd k := by
  have e : t.rd (0x600000 + (k - 0x600000)) = s.rd (0x600000 + (k - 0x600000)) := congrFun h ⟨k - 0x600000, by omega⟩
  rwa [Nat.add_sub_cancel' hk.1] at e
/-- A register outside the block. -/
abbrev OffCfg (k : Nat) : Prop := k < 0x600000 ∨ 0x700000 ≤ k

/-! ### Operations on registers -/

theorem State.cfgRegs_wr (s : State) {k : Nat} (v : Nat) (h : OffCfg k) : (s.wr k v).cfgRegs = s.cfgRegs :=
  funext fun j => s.rd_wr_other v (show k ≠ 0x600000 + j by have := j.isLt; omega)
theorem State.cfgRegs_setB (s : State) {k : Nat} (i : Nat) (v : Bool) (h : OffCfg k) : (s.setB k i v).cfgRegs = s.cfgRegs := s.cfgRegs_wr _ h
theorem State.cfgRegs_addSat (s : State) {k : Nat} (n : Nat) (h : OffCfg k) : (s.addSat k n).cfgRegs = s.cfgRegs := s.cfgRegs_wr _ h
theorem State.cfgRegs_crest (s : State) {k : Nat} (v : Nat) (h : OffCfg k) : (s.crest k v).cfgRegs = s.cfgRegs := by
  unfold State.crest
  split
  · exact s.cfgRegs_wr _ h
  · rfl

/-! ### Cells and copies (R135 to R138) -/

theorem State.cfgRegs_setFree (s : State) (n : Nat) : (s.setFree n).cfgRegs = s.cfgRegs := by
  unfold State.setFree
  extract_lets below s1
  have h1 : s1.cfgRegs = s.cfgRegs := s.onIf_keep _ _ State.cfgRegs (s.cfgRegs_setB _ _ (by decide))
  exact (State.cfgRegs_crest _ _ (by decide)).trans ((State.cfgRegs_wr _ _ (by decide)).trans ((s1.cfgRegs_setB _ _ (by decide)).trans h1))
theorem State.cfgRegs_decRef (s : State) (fid : Nat) : (s.decRef fid).cfgRegs = s.cfgRegs := by
  unfold State.decRef
  split
  · rfl
  · split
    · exact State.cfgRegs_setFree _ _
    · rfl
theorem offCfg_pldCellDrop (s : State) (v : Nat) : OffCfg (R.PLD_CELL_DROP (s.viPolder v)) := by
  have h : s.viPolder v < 64 := bitsOf_lt (s.rd (R.VIR_VI v)) 9 4
  unfold R.PLD_CELL_DROP
  omega
theorem State.cfgRegs_polderRefuse (s : State) (vi : Option (Nat × Nat)) : (s.polderRefuse vi).cfgRegs = s.cfgRegs := by
  cases vi with
  | none => rfl
  | some e => exact s.cfgRegs_addSat _ (offCfg_pldCellDrop s e.1)
theorem State.cfgRegs_chargeIn (s : State) (x c n : Nat) : (s.chargeIn x c n).cfgRegs = s.cfgRegs :=
  (State.cfgRegs_crest _ _ (.inr (by unfold R.SWC_P_QCREST; omega))).trans
    (State.cfgRegs_wr _ _ (.inr (by unfold R.SWC_P_QDEPTH; omega)))
theorem State.cfgRegs_endLpi (s : State) (x : Nat) (fid : Option Nat) : (s.endLpi x fid).cfgRegs = s.cfgRegs := by
  unfold State.endLpi
  split
  · exact State.cfgRegs_setB { s with net := { s.net with waking := (x, fid) :: s.net.waking } } _ _ (.inr (by unfold R.PRT_STATUS; omega))
  · rfl
theorem State.cfgRegs_copyAdmit (s : State) (c : Copy) : (s.copyAdmit c).cfgRegs = s.cfgRegs := by
  have hdrop : ∀ t : State, (t.addSat (R.SWC_P_QDROP c.x c.cls) 1).cfgRegs = t.cfgRegs := fun t =>
    t.cfgRegs_addSat _ (.inr (by unfold R.SWC_P_QDROP; omega))
  unfold State.copyAdmit
  extract_lets refuse s1
  split
  · exact (hdrop _).trans (s.cfgRegs_polderRefuse _)
  · split
    · exact (hdrop _).trans (s.cfgRegs_polderRefuse _)
    · split
      · exact hdrop s
      · split
        · exact hdrop s
        · exact (State.cfgRegs_endLpi _ _ _).trans (State.cfgRegs_chargeIn _ _ _ _)
theorem State.cfgRegs_newFrame (s : State) (b : Bytes) (len src cls vid cells : Nat) (vi : Option (Nat × Nat)) :
    (s.newFrame b len src cls vid cells vi).2.cfgRegs = s.cfgRegs := State.cfgRegs_setFree _ _

/-! ### Learning, mirroring, redundancy sets (R143, R149, R154) -/

theorem State.cfgRegs_fdbLearn (s : State) (p addr vid : Nat) (vi : Option Nat) : (s.fdbLearn p addr vid vi).cfgRegs = s.cfgRegs := by
  have h0 : ∀ (t : State) (e v : Nat), (t.wr (R.SWC_FDB0 e) v).cfgRegs = t.cfgRegs := fun t e v => t.cfgRegs_wr _ (.inr (by unfold R.SWC_FDB0; omega))
  have h1 : ∀ (t : State) (e v : Nat), (t.wr (R.SWC_FDB1 e) v).cfgRegs = t.cfgRegs := fun t e v => t.cfgRegs_wr _ (.inr (by unfold R.SWC_FDB1; omega))
  have h2 : ∀ (t : State) (e v : Nat), (t.wr (R.SWC_FDB2 e) v).cfgRegs = t.cfgRegs := fun t e v => t.cfgRegs_wr _ (.inr (by unfold R.SWC_FDB2; omega))
  have h3 : ∀ (t : State) (e v : Nat), (t.wr (R.SWC_FDB3 e) v).cfgRegs = t.cfgRegs := fun t e v => t.cfgRegs_wr _ (.inr (by unfold R.SWC_FDB3; omega))
  unfold State.fdbLearn
  extract_lets dest
  split
  · rfl
  · split
    · exact (h3 _ _ _).trans (s.onIf_keep _ _ State.cfgRegs (h2 _ _ _))
    · split
      · exact (State.cfgRegs_setB _ _ _ (by decide)).trans (s.cfgRegs_addSat _ (by decide))
      · exact (State.cfgRegs_wr _ _ (by decide)).trans ((h3 _ _ _).trans ((h2 _ _ _).trans ((h1 _ _ _).trans (h0 _ _ _))))

theorem State.cfgRegs_iommuFault (s : State) (f : Nat) (w : Bool) (a : Nat) : (s.iommuFault f w a).cfgRegs = s.cfgRegs := by
  unfold State.iommuFault
  extract_lets s1 s2 s3
  have h3 : s3.cfgRegs = s.cfgRegs :=
    (s2.cfgRegs_setB _ _ (by decide)).trans ((s1.cfgRegs_wr _ (by decide)).trans ((State.cfgRegs_wr _ _ (by decide)).trans (s.cfgRegs_wr _ (by decide))))
  split
  · exact (s3.cfgRegs_setB _ _ (.inr (by unfold R.VI_EVENTS; omega))).trans h3
  · exact h3
/-- A write of PF0, whose pages are not logged. -/
theorem State.cfgRegs_dmaWrite (s : State) (a : Nat) (d : Bytes) : (s.dmaWrite 0 a d).2.cfgRegs = s.cfgRegs := by
  unfold State.dmaWrite
  split
  · exact s.cfgRegs_iommuFault _ _ _
  · exact foldl_keep (fun (r : State × Bytes) (q : Nat × Nat) => (r.1.emit (.dmaWrite q.1 (r.2.take q.2)), r.2.drop q.2))
      (fun r => r.1.cfgRegs) (fun _ _ => rfl) _ _
theorem State.cfgRegs_mirTime (s : State) (x dir : Nat) : (s.mirTime x dir).2.cfgRegs = s.cfgRegs := by
  unfold State.mirTime
  extract_lets v f
  split
  · rfl
  · split <;> rfl
theorem State.cfgRegs_mirror1 (s : State) (x dir : Nat) (b : Bytes) (len : Nat) (bad ct trunc : Bool) (cls vid : Nat) :
    (s.mirror1 x dir b len bad ct trunc cls vid).cfgRegs = s.cfgRegs := by
  unfold State.mirror1
  extract_lets m n net1 s1 size h dropped net2 flags
  split
  · rfl
  · split
    · rfl
    · split
      · exact (State.onIf_keep _ _ _ State.cfgRegs (State.cfgRegs_setB _ _ _ (by decide))).trans (s1.cfgRegs_addSat _ (by decide))
      · split
        next ts s2 hs2 =>
        extract_lets e
        have h2 : s2.cfgRegs = s.cfgRegs := (congrArg (fun r => r.2.cfgRegs) hs2).symm.trans (s1.cfgRegs_mirTime x dir)
        have h3 := (s2.cfgRegs_dmaWrite (s2.rd64 R.SWC_MIR_BASE_LO + 160 * h) e).trans h2
        split
        next s3 hs3 =>
          rw [hs3] at h3
          exact (State.cfgRegs_setB _ _ _ (by decide)).trans ((s3.cfgRegs_setB _ _ (by decide)).trans h3)
        next s3 hs3 =>
          rw [hs3] at h3
          exact (State.cfgRegs_wr _ _ (by decide)).trans h3
theorem State.cfgRegs_redSend (s : State) (src : Nat) (llocal : Bool) (b : Bytes) (vid cls : Nat) (ds : List Dest) :
    (s.redSend src llocal b vid cls ds).2.cfgRegs = s.cfgRegs := by
  unfold State.redSend
  refine foldl_keep _ (fun r : List Plan × State => r.2.cfgRegs) (fun r n => ?_) _ _
  dsimp only
  split
  · rfl
  · exact State.cfgRegs_wr _ _ (.inr (by unfold R.SWC_RED_SEQ; omega))

/-- A frame that enters for the ports of a set. -/
theorem State.cfgRegs_enter (s : State) (x : Nat) (b : Bytes) (cls : Option Nat) (ports : List Nat) (vi : Option Nat) :
    (s.enter x b cls (some ports) vi).2.cfgRegs = s.cfgRegs := by
  unfold State.enter
  extract_lets b1 len cells tag
  split
  · exact s.cfgRegs_polderRefuse _
  · split
    next vid c _ =>
    extract_lets have_ trunc s1 s2
    have h1 : s1.cfgRegs = s.cfgRegs := s.cfgRegs_mirror1 _ _ _ _ _ _ _ _ _
    have h2 : s2.cfgRegs = s1.cfgRegs := s1.onIf_keep _ _ State.cfgRegs
      ((State.cfgRegs_setB _ _ _ (by decide)).trans (s1.cfgRegs_addSat _ (by decide)))
    split
    next id s3 hs3 =>
    have h3 : s3.cfgRegs = s.cfgRegs :=
      (congrArg (fun r => r.2.cfgRegs) hs3).symm.trans ((s2.cfgRegs_newFrame _ _ _ _ _ _ _).trans (h2.trans h1))
    split
    · exact (State.cfgRegs_decRef _ _).trans ((s3.cfgRegs_addSat _ (.inr (by unfold R.SWC_P_VLAN_DROP; omega))).trans h3)
    · split
      · exact (s3.cfgRegs_decRef _).trans h3
      · split
        next ps s4 hs4 =>
        have h4 : s4.cfgRegs = s.cfgRegs := (congrArg (fun r => r.2.cfgRegs) hs4).symm.trans ((s3.cfgRegs_redSend _ _ _ _ _ _).trans h3)
        exact (State.cfgRegs_decRef _ _).trans ((State.cfgRegs_fdbLearn _ _ _ _ _).trans
          ((foldl_keep _ State.cfgRegs (fun s p => s.cfgRegs_copyAdmit _) _ _).trans h4))

end Sys2Proof.Machine
end

section
/-! SUPPORT. Slice rechecks (R80). -/
namespace Sys2Proof.Machine

/-! ### The health words -/

section
variable {l : List Nat} {ps : List Part} {s t : State}

theorem ChangesOnly.healthBit (h : ChangesOnly l ps s t) (x : Lane) (i : Nat) (h0 : R.WDN_HEALTH 0 ∈ l) (h1 : R.WDN_HEALTH 1 ∈ l)
    (he : R.WDN_EVENTS ∈ l) : ChangesOnly l ps s (t.healthBit x i) := by
  cases x
  · exact (h.setB _ _ h0 (by decide)).onIf _ fun h => h.setB _ _ he (by decide)
  · exact (h.setB _ _ h1 (by decide)).onIf _ fun h => h.setB _ _ he (by decide)
end

/-! ### The slices found faulty -/

/-- The slices that a pass names: those whose live words differ, then those in `bad` that are not among them. -/
def State.recheckHits (s : State) (i : Image) (bad : List (Nat × Lane)) : List (Nat × Lane) :=
  s.sliceHits i ++ (bad.filter (fun e => decide (e.1 < i.sections.length))).filter (fun e =>
    !(s.sliceHits i).any (fun h => h.1 == e.1 && (!secLane ((i.sections.map (·.typ)).getD e.1 0) || h.2 == e.2)))

theorem State.any_recheckHits (s : State) (i : Image) (bad : List (Nat × Lane)) (j : Nat) : (s.recheckHits i bad).any (fun e => e.1 == j) =
    ((s.sliceHits i).any (fun e => e.1 == j) || bad.any (fun e => e.1 == j && decide (j < i.sections.length))) := by
  rw [State.recheckHits, List.any_append]
  cases hlive : (s.sliceHits i).any (fun e => e.1 == j) with
  | true => rw [Bool.true_or, Bool.true_or]
  | false =>
    -- no live slice is `j`, so nothing that names it is taken out
    rw [Bool.false_or, Bool.false_or, Bool.eq_iff_iff]
    simp only [List.any_eq_true, List.mem_filter, Bool.and_eq_true, beq_iff_eq, decide_eq_true_eq]
    constructor
    · rintro ⟨e, ⟨⟨he, hlt⟩, -⟩, rfl⟩
      exact ⟨e, he, rfl, hlt⟩
    · rintro ⟨e, he, rfl, hlt⟩
      refine ⟨e, ⟨⟨he, hlt⟩, ?_⟩, rfl⟩
      have hnone := List.any_eq_false.1 hlive
      rw [Bool.not_eq_true', List.any_eq_false]
      intro x hx
      rw [Bool.eq_false_iff.2 (hnone x hx), Bool.false_and]
      exact Bool.false_ne_true
theorem State.recheckHits_ne_nil {s : State} {i : Image} {bad : List (Nat × Lane)}
    (h : s.sliceHits i ≠ [] ∨ bad.any (fun e => decide (e.1 < i.sections.length)) = true) : s.recheckHits i bad ≠ [] := by
  intro hnil
  have hany : ∀ j, ((s.sliceHits i).any (fun e => e.1 == j) || bad.any (fun e => e.1 == j && decide (j < i.sections.length))) = false := fun j => by
    rw [← s.any_recheckHits, hnil]; rfl
  rcases h with h | h
  · obtain ⟨e, he⟩ := List.exists_mem_of_ne_nil _ h
    have hlive := (Bool.or_eq_false_iff.1 (hany e.1)).1
    exact List.any_eq_false.1 hlive e he (beq_self_eq_true _)
  · obtain ⟨e, he, hlt⟩ := List.any_eq_true.1 h
    have hbad := (Bool.or_eq_false_iff.1 (hany e.1)).2
    exact List.any_eq_false.1 hbad e he (by rw [beq_self_eq_true, hlt]; rfl)

/-- The word with a bit for each slice named. -/
def hitMask (l : List (Nat × Lane)) : Nat := l.foldl (fun m h => m ||| 2 ^ h.1) 0
theorem testBit_foldl_or (l : List (Nat × Lane)) (m j : Nat) :
    (l.foldl (fun m h => m ||| 2 ^ h.1) m).testBit j = (m.testBit j || l.any (fun e => e.1 == j)) := by
  induction l generalizing m with
  | nil => simp
  | cons e l ih =>
    rw [List.foldl_cons, ih, Nat.testBit_or, Nat.testBit_two_pow, List.any_cons, Bool.or_assoc]
    rfl
theorem testBit_hitMask (l : List (Nat × Lane)) (j : Nat) : (hitMask l).testBit j = l.any (fun e => e.1 == j) := by
  rw [hitMask, testBit_foldl_or, Nat.zero_testBit, Bool.false_or]

/-! ### The pass -/

/-- A faulty slice is reported: its event and record, and the health word of its lane (R80). -/
def State.sliceReport (i : Image) (s : State) (h : Nat × Lane) : State :=
  ((s.setB R.CFG_EVENTS 3 true).eventOpen 0x20).onIf (secLane ((i.sections.map (·.typ)).getD h.1 0)) (fun s => s.healthBit h.2 6)
theorem State.recheck_eq {s : State} {i : Image} (hi : s.ldr.image = some i) (hl : s.ldr.rwlLocked = true) (bad : List (Nat × Lane)) :
    ∃ u : State, s.recheck bad = (s.recheckHits i bad).foldl (State.sliceReport i) (u.wr R.CFG_SLICE_FAULT (hitMask (s.recheckHits i bad))) := by
  unfold State.recheck
  rw [hi]
  exact ⟨_, if_neg (by simp [hl])⟩

theorem changesOnly_sliceReport (i : Image) (s : State) (h : Nat × Lane) :
    ChangesOnly [R.CFG_EVENTS, R.EVT_LOST, R.EVT_EVENTS, R.WDN_HEALTH 0, R.WDN_HEALTH 1, R.WDN_EVENTS] [.evt] s (State.sliceReport i s h) :=
  (((ChangesOnly.refl _ _ s).setB _ _ (by decide) (by decide)).eventOpen _ (by decide) (by decide) (by decide)).onIf _ fun h =>
    h.healthBit _ _ (by decide) (by decide) (by decide)
theorem State.bit_sliceReport (i : Image) (s : State) (h : Nat × Lane) : (State.sliceReport i s h).bit R.CFG_EVENTS 3 = true := by
  have hhealth : ∀ t : State, (t.healthBit h.2 6).bit R.CFG_EVENTS 3 = t.bit R.CFG_EVENTS 3 := fun t =>
    ((ChangesOnly.refl [R.WDN_HEALTH 0, R.WDN_HEALTH 1, R.WDN_EVENTS] [] t).healthBit h.2 6 (by decide) (by decide) (by decide)).bit (by decide) 3
  refine (State.onIf_keep _ _ _ (fun t => t.bit R.CFG_EVENTS 3) (hhealth _)).trans ?_
  rw [State.bit, State.rd_eventOpen _ _ (by decide) (by decide)]
  exact s.bit_setB_same _ _ _ (by decide)

theorem answers_sliceRecheck {s : State} {i : Image} (hi : s.ldr.image = some i) (hl : s.ldr.rwlLocked = true) (bad : List (Nat × Lane)) :
    Answers (.sliceRecheck bad) s (fun t =>
    (∀ j, j < 32 → t.bit R.CFG_SLICE_FAULT j = ((s.sliceHits i).any (fun e => e.1 == j) || bad.any (fun e => e.1 == j && decide (j < i.sections.length)))) ∧
    (s.sliceHits i ≠ [] ∨ bad.any (fun e => decide (e.1 < i.sections.length)) = true → t.bit R.CFG_EVENTS 3 = true)) := by
  obtain ⟨u, e⟩ := State.recheck_eq hi hl bad
  refine answers_of_finish (congrArg (finish s) e) ⟨fun j hj => ?_, fun h => ?_⟩
  · rw [s.ended_bit _ (by decide), State.bit,
      State.foldl_rd _ _ (fun t h => (changesOnly_sliceReport i t h).1 _ (by decide)), State.rd_wr_same, testBit_mod_two32 _ _ hj,
      testBit_hitMask, s.any_recheckHits]
  · obtain ⟨x, hx⟩ := List.exists_mem_of_ne_nil _ (State.recheckHits_ne_nil h)
    rw [s.ended_bit _ (by decide)]
    exact foldl_establishes (P := fun _ (t : State) => t.bit R.CFG_EVENTS 3 = true) (State.bit_sliceReport i)
      (fun t h _ _ => State.bit_sliceReport i t h) hx _

end Sys2Proof.Machine
end

section
/-! SUPPORT. The beacons of the mate and of the module (R85, R86). -/
namespace Sys2Proof.Machine

/-! ### Fields and words kept -/

theorem ChangesOnly.rds {l : List Nat} {ps : List Part} {s t : State} (h : ChangesOnly l ps s t) {k n : Nat} (hk : ∀ i, i < n → k + 4 * i ∉ l) :
    t.rds k n = s.rds k n := List.map_congr_left fun i hi => h.1 _ (hk i (List.mem_range.1 hi))
theorem State.ended_rds (s0 s1 : State) {k n : Nat} (h : ∀ i, i < n → settleKey (k + 4 * i) = false) : (s0.ended s1).rds k n = s1.rds k n :=
  List.map_congr_left fun i hi => s0.ended_rd s1 (h i (List.mem_range.1 hi))
theorem State.bit_setF_apart (s : State) (k hi lo v : Nat) {j : Nat} (h : lo ≤ hi) (hj : j < 32) (hd : j < lo ∨ hi < j) :
    (s.setF k hi lo v).bit k j = s.bit k j := by
  rw [State.bit_eq_fld, s.fld_setF_apart _ _ _ _ _ _ h hj hd, ← State.bit_eq_fld]
theorem State.fld_three_set {s : State} {k : Nat} (h0 : s.bit k 0 = true) (h1 : s.bit k 1 = true) (h2 : s.bit k 2 = true) : s.fld k 2 0 = 7 := by
  simp only [State.bit, Nat.testBit_eq_decide_div_mod_eq, decide_eq_true_eq] at h0 h1 h2
  unfold State.fld bitsOf
  omega

/-! ### The mate's beacon with an equal fingerprint (R86) -/

/-- The mate is present, and its fingerprint is shown. -/
def State.mateHeard (s : State) (f : Beacon) : State := (s.setB R.CFG_MATE_STATUS 0 true).putFp (R.CFG_MATE_FP 0) f.fp
/-- The comparison runs and finds the fingerprints equal. -/
def State.mateAgrees (s : State) : State :=
  let s := s.setB R.CFG_MATE_STATUS 2 true
  let s := s.onIf (!s.bit R.CFG_MATE_STATUS 1) (fun s => s.setB R.CFG_EVENTS 7 true)
  ((({ s with ldr := { s.ldr with mateDiffers := false } } : State).mateFp false).setF R.CFG_MATE_STATUS 15 8 0).setB R.CFG_MATE_STATUS 1 true

/-- The registers that a beacon of the mate shows. -/
def mateKeys : List Nat := R.CFG_MATE_STATUS :: (List.range 8).map R.CFG_MATE_FP
theorem changesOnly_mateHeard (s : State) (f : Beacon) : ChangesOnly mateKeys [] s (s.mateHeard f) :=
  ((ChangesOnly.refl _ _ s).setB _ _ (by decide) (by decide)).putFp _ _ (by decide) (by decide)
theorem State.mateHeard_ldr (s : State) (f : Beacon) : (s.mateHeard f).ldr = s.ldr := State.putFp_ldr _ _ _
theorem State.bit_mateHeard (s : State) (f : Beacon) : (s.mateHeard f).bit R.CFG_MATE_STATUS 0 = true :=
  (((ChangesOnly.refl ((List.range 8).map R.CFG_MATE_FP) [] _).putFp _ _ (by decide) (by decide)).bit (by decide) 0).trans
    (s.bit_setB_same _ _ _ (by decide))
theorem changesOnly_mateAgrees (s : State) :
    ChangesOnly [R.CFG_MATE_STATUS, R.CFG_EVENTS, R.WDN_HEALTH 0, R.WDN_HEALTH 1] [.ldr] s s.mateAgrees :=
  (((((((ChangesOnly.refl _ _ s).setB _ _ (by decide) (by decide)).onIf _ fun h => h.setB _ _ (by decide) (by decide)).with_ldr _ (by decide)).setB
    _ _ (by decide) (by decide)).setB _ _ (by decide) (by decide)).setF _ _ _ (by decide) (by decide)).setB _ _ (by decide) (by decide)

theorem State.mateBeacon_agrees {s : State} {f : Beacon} (hc : s.bit R.CFG_CTRL 1 = true) (hx : s.ldr.xchg = none)
    (hf : f.flags.toNat.testBit 1 = false) (hs : s.ldr.mateSusp = 0) (hfp : digestWords f.fp = s.rds (R.CFG_FINGERPRINT 0) 8) :
    s.mateBeacon f = (s.mateHeard f).mateAgrees := by
  have hheard := changesOnly_mateHeard s f
  have hctrl : (s.mateHeard f).bit R.CFG_CTRL 1 = true := (hheard.bit (by decide) 1).trans hc
  have hl := s.mateHeard_ldr f
  have hcmp : ((s.mateHeard f).setB R.CFG_MATE_STATUS 2 true).rds (R.CFG_MATE_FP 0) 8 =
      ((s.mateHeard f).setB R.CFG_MATE_STATUS 2 true).rds (R.CFG_FINGERPRINT 0) 8 := by
    have hset : ChangesOnly [R.CFG_MATE_STATUS] [] (s.mateHeard f) ((s.mateHeard f).setB R.CFG_MATE_STATUS 2 true) :=
      (ChangesOnly.refl _ _ _).setB _ _ (by decide) (by decide)
    rw [hset.rds (by decide), hset.rds (by decide), hheard.rds (k := R.CFG_FINGERPRINT 0) (by decide), ← hfp]
    exact State.rds_putFp _ _ _
  unfold State.mateBeacon
  extract_lets u theirs w
  have hw : w = u := by
    simp only [w]
    rw [show u.ldr.xchg = none from (congrArg Loader.xchg hl).trans hx]
  have hctl : ¬(!u.bit R.CFG_CTRL 1) = true := by rw [show u.bit R.CFG_CTRL 1 = true from hctrl]; decide
  have hpend : ¬(theirs || w.ldr.xchg.isSome) = true := by
    rw [hw, show theirs = false from hf, show u.ldr.xchg = none from (congrArg Loader.xchg hl).trans hx]
    decide
  have hsusp : ¬w.ldr.mateSusp ≠ 0 := by rw [hw]; exact not_not.2 ((congrArg Loader.mateSusp hl).trans hs)
  have heq : (w.setB R.CFG_MATE_STATUS 2 true).rds (R.CFG_MATE_FP 0) 8 = (w.setB R.CFG_MATE_STATUS 2 true).rds (R.CFG_FINGERPRINT 0) 8 := by
    rw [hw]; exact hcmp
  exact (if_neg hctl).trans ((if_neg hpend).trans ((if_neg hsusp).trans ((if_pos heq).trans (congrArg State.mateAgrees hw))))

theorem State.bits_mateAgrees {s : State} (h : s.bit R.CFG_MATE_STATUS 0 = true) : s.mateAgrees.fld R.CFG_MATE_STATUS 2 0 = 7 := by
  have hkept : ∀ j, j < 8 → j ≠ 1 → s.mateAgrees.bit R.CFG_MATE_STATUS j = (s.setB R.CFG_MATE_STATUS 2 true).bit R.CFG_MATE_STATUS j := by
    intro j hj hj1
    refine (State.bit_setB_apart _ _ _ (by omega) (Ne.symm hj1)).trans ((State.bit_setF_apart _ _ _ _ _ (by decide) (by omega) (by omega)).trans ?_)
    refine (State.bit_setB_other _ _ _ _ (by decide)).trans ((State.bit_setB_other _ _ _ _ (by decide)).trans ?_)
    exact State.onIf_keep _ _ _ (fun t => t.bit R.CFG_MATE_STATUS j) (State.bit_setB_other _ _ _ _ (by decide))
  refine State.fld_three_set ?_ (State.bit_setB_same _ _ _ _ (by decide)) ?_
  · rw [hkept 0 (by decide) (by decide), s.bit_setB_apart _ _ (by decide) (by decide), h]
  · rw [hkept 2 (by decide) (by decide), s.bit_setB_same _ _ _ (by decide)]
theorem State.count_mateAgrees (s : State) : s.mateAgrees.fld R.CFG_MATE_STATUS 15 8 = 0 :=
  (State.fld_setF_apart _ _ _ _ _ _ _ (by decide) (by decide) (by decide)).trans (State.fld_setF_same _ _ _ _ _ (by decide) (by decide))
theorem State.health_mateAgrees (s : State) :
    s.mateAgrees.bit (R.WDN_HEALTH 0) 17 = false ∧ s.mateAgrees.bit (R.WDN_HEALTH 1) 17 = false := by
  have hkept : ∀ (t : State) (k : Nat), k ≠ R.CFG_MATE_STATUS →
      ((t.setF R.CFG_MATE_STATUS 15 8 0).setB R.CFG_MATE_STATUS 1 true).bit k 17 = t.bit k 17 := fun t k hk =>
    (State.bit_wr_other _ _ _ hk.symm).trans (State.bit_wr_other _ _ _ hk.symm)
  refine ⟨(hkept _ _ (by decide)).trans ?_, (hkept _ _ (by decide)).trans ?_⟩
  · exact (State.bit_setB_other _ _ _ _ (by decide)).trans (State.bit_setB_same _ _ _ _ (by decide))
  · exact State.bit_setB_same _ _ _ _ (by decide)

theorem answers_mateBeaconRx {s : State} {f : Beacon} (hc : s.bit R.CFG_CTRL 1 = true) (hx : s.ldr.xchg = none)
    (hf : f.flags.toNat.testBit 1 = false) (hs : s.ldr.mateSusp = 0) (hfp : digestWords f.fp = s.rds (R.CFG_FINGERPRINT 0) 8) :
    Answers (.mateBeaconRx f) s (fun t =>
      t.fld R.CFG_MATE_STATUS 2 0 = 7 ∧ t.fld R.CFG_MATE_STATUS 15 8 = 0 ∧ t.rds (R.CFG_MATE_FP 0) 8 = digestWords f.fp ∧
      t.bit (R.WDN_HEALTH 0) 17 = false ∧ t.bit (R.WDN_HEALTH 1) 17 = false) := by
  obtain ⟨hhealth0, hhealth1⟩ := (s.mateHeard f).health_mateAgrees
  refine answers_of_finish (congrArg (finish s) (State.mateBeacon_agrees hc hx hf hs hfp)) ⟨?_, ?_, ?_, ?_, ?_⟩
  · rw [s.ended_fld _ (by decide), State.bits_mateAgrees (s.bit_mateHeard f)]
  · rw [s.ended_fld _ (by decide), State.count_mateAgrees]
  · rw [s.ended_rds _ (by decide), (changesOnly_mateAgrees _).rds (by decide)]
    exact State.rds_putFp _ _ _
  · rw [s.ended_bit _ (by decide), hhealth0]
  · rw [s.ended_bit _ (by decide), hhealth1]

theorem answers_mateBeaconLoss {s : State} (h : s.bit R.CFG_MATE_STATUS 0 = true) : Answers .mateBeaconLoss s (fun t =>
    t.fld R.CFG_MATE_STATUS 1 0 = 0 ∧ t.bit R.CFG_EVENTS 5 = true ∧ Only (among [R.CFG_MATE_STATUS, R.CFG_EVENTS]) [] s t) := by
  have hc : exec .mateBeaconLoss s = finish s ((s.setF R.CFG_MATE_STATUS 1 0 0).setB R.CFG_EVENTS 5 true) := congrArg (finish s) (if_pos h)
  have hframe : ChangesOnly [R.CFG_MATE_STATUS, R.CFG_EVENTS] [] s ((s.setF R.CFG_MATE_STATUS 1 0 0).setB R.CFG_EVENTS 5 true) :=
    ((ChangesOnly.refl _ _ s).setF _ _ _ (by decide) (by decide)).setB _ _ (by decide) (by decide)
  refine answers_of_finish hc ⟨?_, ?_, hframe.only_among⟩
  · rw [s.ended_fld _ (by decide), State.setB, State.fld_setF_other _ _ _ _ _ _ (by decide), s.fld_setF_same _ _ _ _ (by decide) (by decide), Nat.zero_mod]
  · rw [s.ended_bit _ (by decide), State.bit_setB_same _ _ _ _ (by decide)]

/-! ### The module's own beacon (R85) -/

theorem State.beaconSend_eq {s : State} (h : s.bit R.CFG_BEACON_CFG 0 = true) : ∃ (d : Bytes) (ports : List Nat), s.beaconSend =
    ((s.takeFree.2.wr R.CFG_BEACON_SEQ ((s.fld R.CFG_BEACON_SEQ 15 0 + 1) % 65536)).enter 48 d (some 7) (some ports) none).2 := by
  unfold State.beaconSend
  rw [if_neg (by simp [h])]
  exact ⟨_, _, rfl⟩
theorem answers_beaconSend {s : State} (h : s.bit R.CFG_BEACON_CFG 0 = true) : Answers .beaconSend s (fun t =>
    t.rd R.CFG_BEACON_SEQ = (s.fld R.CFG_BEACON_SEQ 15 0 + 1) % 65536) := by
  obtain ⟨d, ports, e⟩ := State.beaconSend_eq h
  refine answers_of_finish (congrArg (finish s) e) ?_
  rw [s.ended_rd _ (by decide), cfgRegs_rd (State.cfgRegs_enter _ _ _ _ _ _) (by decide), State.rd_wr_same]
  exact Nat.mod_eq_of_lt (lt_trans (Nat.mod_lt _ (by decide)) (by decide))

end Sys2Proof.Machine
end

section
/-! SUPPORT. The user tag area (R90). -/
namespace Sys2Proof.Machine

section
variable {s : State}

/-! ### Accesses of the IDN block -/

theorem State.idnAccess_write (h : s.ldr.tagStore = none) (p : Path) (off v : Nat) :
    s.idnAccess (.wr p off v) = (s.idnWrite off v).answerWrite p := by
  unfold State.idnAccess State.tagBusy
  rw [h]; rfl
theorem State.idnAccess_waits (h : s.ldr.tagStore ≠ none) (a : IdnAccess) :
    s.idnAccess a = { s with ldr := { s.ldr with tagWait := s.ldr.tagWait ++ [a] } } := if_pos (Option.isSome_iff_ne_none.2 h)
theorem State.answerWrite_cases (s : State) (p : Path) : s.answerWrite p = s ∨ ∃ x, s.answerWrite p = s.emit x := by
  cases p
  case uart => exact .inr ⟨_, rfl⟩
  all_goals exact .inl rfl
theorem State.idnNext_none (h : s.ldr.tagWait = []) (n : Nat) : s.idnNext n = s := by
  cases n with
  | zero => rfl
  | succ n => unfold State.idnNext; rw [h]
theorem exec_tagWrite {p : Path} (h : ∀ k, p ≠ .vf k) (i : Fin 64) (v : Word) :
    exec (.tagWrite p i v) s = finish s (s.idnAccess (.wr p (R.IDN_TAG i) v.toNat)) := by
  cases p
  case vf k => exact absurd rfl (h k)
  all_goals rfl

/-! ### Stores -/

/-- A store is under way. -/
def State.tagStoring (s : State) (i v : Nat) : State :=
  ({ s with ldr := { s.ldr with tagStore := some (i, v) } } : State).setB R.IDN_TAG_CTRL 1 true
theorem State.idnWrite_tag (hl : s.bit R.IDN_TAG_CTRL 0 = false) {i : Nat} (hi : i < 64) (v : Nat) :
    s.idnWrite (R.IDN_TAG i) v = s.tagStoring i (v % 4294967296) := by
  have hne : R.IDN_TAG i ≠ R.IDN_TAG_CTRL := by unfold R.IDN_TAG R.IDN_TAG_CTRL; omega
  have hin : R.IDN_TAG 0 ≤ R.IDN_TAG i ∧ R.IDN_TAG i < R.IDN_TAG 64 ∧ R.IDN_TAG i % 4 = 0 := by unfold R.IDN_TAG; omega
  have hix : (R.IDN_TAG i - R.IDN_TAG 0) / 4 = i := by unfold R.IDN_TAG; omega
  unfold State.idnWrite
  rw [if_neg hne, if_pos hin, hix]
  exact if_neg (by simp [hl])
theorem State.tagStoring_ldr (s : State) (i v : Nat) : (s.tagStoring i v).ldr = { s.ldr with tagStore := some (i, v) } := rfl
theorem State.bit_tagStoring (s : State) (i v : Nat) : (s.tagStoring i v).bit R.IDN_TAG_CTRL 1 = true := State.bit_setB_same _ _ _ _ (by decide)
theorem changesOnly_tagStoring (s : State) (i v : Nat) : ChangesOnly [R.IDN_TAG_CTRL] [.ldr, .out] s (s.tagStoring i v) :=
  ((ChangesOnly.refl _ _ s).with_ldr _ (by decide)).setB _ _ (by decide) (by decide)

/-- The answer on the path shows nothing of the store. -/
theorem answers_tagWrite {p : Path} {i : Fin 64} {v : Word} (hp : ∀ k, p ≠ .vf k) (ht : s.ldr.tagStore = none)
    (hl : s.bit R.IDN_TAG_CTRL 0 = false) : Answers (.tagWrite p i v) s (fun t =>
      t.ldr.tagStore = some (i.val, v.toNat) ∧ t.bit R.IDN_TAG_CTRL 1 = true ∧ Only (among [R.IDN_TAG_CTRL]) [.ldr, .out] s t) := by
  have hv : v.toNat % 4294967296 = v.toNat := Nat.mod_eq_of_lt v.isLt
  have e : exec (.tagWrite p i v) s = finish s ((s.tagStoring i v.toNat).answerWrite p) := by
    rw [exec_tagWrite hp, State.idnAccess_write ht, State.idnWrite_tag hl i.isLt, hv]
  have hframe := changesOnly_tagStoring s i v.toNat
  obtain ⟨u, hu, hul, hub, huf⟩ : ∃ u, (s.tagStoring i v.toNat).answerWrite p = u ∧ u.ldr = (s.tagStoring i v.toNat).ldr ∧
      u.bit R.IDN_TAG_CTRL 1 = true ∧ ChangesOnly [R.IDN_TAG_CTRL] [.ldr, .out] s u := by
    obtain h | ⟨x, h⟩ := (s.tagStoring i v.toNat).answerWrite_cases p
    · exact ⟨_, h, rfl, s.bit_tagStoring _ _, hframe⟩
    · exact ⟨_, h, rfl, s.bit_tagStoring _ _, hframe.emit x (by decide)⟩
  rw [hu] at e
  refine answers_of_finish e ⟨?_, ?_, huf.only_among⟩
  · rw [s.ended_ldr, hul, s.tagStoring_ldr]
  · rw [s.ended_bit _ (by decide), hub]

theorem answers_tagWrite_waits {p : Path} {i : Fin 64} {v : Word} (hp : ∀ k, p ≠ .vf k) (ht : s.ldr.tagStore ≠ none) :
    Answers (.tagWrite p i v) s (fun t =>
      t.ldr.tagStore = s.ldr.tagStore ∧ t.ldr.tagWait = s.ldr.tagWait ++ [.wr p (R.IDN_TAG i) v.toNat] ∧ Only (fun _ => false) [.ldr] s t) := by
  have e : exec (.tagWrite p i v) s = finish s { s with ldr := { s.ldr with tagWait := s.ldr.tagWait ++ [.wr p (R.IDN_TAG i) v.toNat] } } := by
    rw [exec_tagWrite hp, State.idnAccess_waits ht]
  have hframe := (ChangesOnly.refl [] [.ldr] s).with_ldr { s.ldr with tagWait := s.ldr.tagWait ++ [.wr p (R.IDN_TAG i) v.toNat] } (by decide)
  refine answers_of_finish e ⟨?_, ?_, hframe.only (by decide)⟩
  · rw [s.ended_ldr]
  · rw [s.ended_ldr]

/-- The store is done: the word stands, its count is up, BUSY is clear. -/
def State.tagStored (s : State) (i v : Nat) : State :=
  let s := (s.wr (R.IDN_TAG i) v).addSat R.IDN_TAG_WRITES 1
  ({ s with ldr := { s.ldr with tagStore := none } } : State).setB R.IDN_TAG_CTRL 1 false
theorem exec_tagStoreDone {i v : Nat} (h : s.ldr.tagStore = some (i, v)) (hw : s.ldr.tagWait = []) :
    exec .tagStoreDone s = finish s (s.tagStored i v) := by
  have hn : (s.tagStored i v).idnNext (s.tagStored i v).ldr.tagWait.length = s.tagStored i v := State.idnNext_none (s := s.tagStored i v) hw _
  show execTagStoreDone s = _
  unfold execTagStoreDone
  rw [h]
  exact congrArg (finish s) hn

theorem settleKey_tag : ∀ i, i < 64 → settleKey (R.IDN_TAG i) = false := by decide
theorem answers_tagStoreDone {i v : Nat} (h : s.ldr.tagStore = some (i, v)) (hi : i < 64) (hw : s.ldr.tagWait = []) :
    Answers .tagStoreDone s (fun t =>
    t.rd (R.IDN_TAG i) = v % 4294967296 ∧ t.rd R.IDN_TAG_WRITES = min 4294967295 (s.rd R.IDN_TAG_WRITES + 1) ∧
    t.ldr.tagStore = none ∧ t.bit R.IDN_TAG_CTRL 1 = false ∧ Only (among [R.IDN_TAG i, R.IDN_TAG_WRITES, R.IDN_TAG_CTRL]) [.ldr] s t) := by
  have hwrites : R.IDN_TAG_WRITES ≠ R.IDN_TAG i := by unfold R.IDN_TAG R.IDN_TAG_WRITES; omega
  have hctrl : R.IDN_TAG_CTRL ≠ R.IDN_TAG i := by unfold R.IDN_TAG R.IDN_TAG_CTRL; omega
  have hwdn : R.IDN_TAG i ≠ R.WDN_STATUS := by unfold R.IDN_TAG R.WDN_STATUS; omega
  have hframe : ChangesOnly [R.IDN_TAG i, R.IDN_TAG_WRITES, R.IDN_TAG_CTRL] [.ldr] s (s.tagStored i v) :=
    ((((ChangesOnly.refl _ _ s).wr _ List.mem_cons_self hwdn).wr _ (by simp) (by decide)).with_ldr _ (by decide)).setB _ _ (by simp) (by decide)
  refine answers_of_finish (exec_tagStoreDone h hw) ⟨?_, ?_, ?_, ?_, hframe.only_among⟩
  · rw [s.ended_rd _ (settleKey_tag i hi)]
    exact (State.rd_wr_other _ _ hctrl).trans ((State.rd_wr_other _ _ hwrites).trans (s.rd_wr_same _ _))
  · rw [s.ended_rd _ (by decide)]
    refine (State.rd_wr_other _ _ (by decide)).trans ?_
    show ((s.wr (R.IDN_TAG i) v).addSat R.IDN_TAG_WRITES 1).rd R.IDN_TAG_WRITES = _
    rw [State.rd_addSat, if_pos rfl, s.rd_wr_other _ hwrites.symm]
  · rw [s.ended_ldr]; rfl
  · rw [s.ended_bit _ (by decide)]
    exact State.bit_setB_same _ _ _ _ (by decide)

theorem answers_tagLock (ht : s.ldr.tagStore = none) : Answers .tagLock s (fun t =>
    t.bit R.IDN_TAG_CTRL 0 = true ∧ Only (among [R.IDN_TAG_CTRL]) [] s t) := by
  have hframe : ChangesOnly [R.IDN_TAG_CTRL] [] s (s.setB R.IDN_TAG_CTRL 0 true) := (ChangesOnly.refl _ _ s).setB _ _ (by decide) (by decide)
  refine answers_of_finish (congrArg (finish s) (State.idnAccess_write ht .pf0 R.IDN_TAG_CTRL 1)) ⟨?_, hframe.only_among⟩
  rw [s.ended_bit _ (by decide)]
  exact State.bit_setB_same _ _ _ _ (by decide)
end

/-- Settles O12: a recheck reports exactly the slices it names, a beacon only what it shows or sends, and a tag store runs alone. -/
theorem recheckBeaconAndTags : Obligations.RecheckBeaconAndTags := by
  unfold Obligations.RecheckBeaconAndTags
  refine ⟨?_, ?_, ?_, ?_, ?_, ?_, ?_, ?_, ?_⟩
  · exact fun s bad i hi hl => answers_sliceRecheck hi hl bad
  · exact fun s f hc hx hf hs hfp => answers_mateBeaconRx hc hx hf hs hfp
  · exact fun s h => answers_mateBeaconLoss h
  · exact fun s h => answers_nothing (congrArg (finish s) (if_pos (by rw [h]; rfl)))
  · exact fun s h => answers_beaconSend h
  · exact fun s p i v hp ht hl => answers_tagWrite hp ht hl
  · exact fun s p i v hp ht => answers_tagWrite_waits hp ht
  · exact fun s i v h hi hw => answers_tagStoreDone h hi hw
  · exact fun s ht => answers_tagLock ht

end Sys2Proof.Machine
end

section
/-! SUPPORT. What holds at the end of every command (R109, R132, R163, R357, R371, R382, R394): each of the settling operations makes
its own status words true and leaves those of the others. -/
namespace Sys2Proof.Machine

/-! ### Words made of bits -/

/-- A number of `n` bits, the lowest of them `f 0`. -/
theorem bitSum_lt (f : Nat → Bool) (n : Nat) : (List.range n).foldl (fun a i => a + b2n (f i) * 2 ^ i) 0 < 2 ^ n := by
  induction n with
  | zero => exact Nat.one_pos
  | succ n ih =>
    rw [List.range_succ, List.foldl_append, List.foldl_cons, List.foldl_nil, Nat.pow_succ]
    cases f n <;> simp <;> omega
theorem testBit_bitSum (f : Nat → Bool) {n i : Nat} (h : i < n) :
    ((List.range n).foldl (fun a i => a + b2n (f i) * 2 ^ i) 0).testBit i = f i := by
  induction n with
  | zero => omega
  | succ n ih =>
    have hlt := bitSum_lt f n
    rw [List.range_succ, List.foldl_append, List.foldl_cons, List.foldl_nil, Nat.add_comm, Nat.mul_comm, Nat.testBit_two_pow_mul_add _ hlt]
    by_cases e : i < n
    · rw [if_pos e, ih e]
    · obtain rfl : i = n := by omega
      rw [if_neg e, Nat.sub_self, b2n_testBit_zero]

/-! ### Registers of an array that hold something -/

theorem mem_insNat {n m : Nat} {l : List Nat} : m ∈ insNat n l ↔ m = n ∨ m ∈ l := by
  induction l with
  | nil => simp [insNat]
  | cons a t ih =>
    unfold insNat
    split
    · simp
    · split
      · next h => subst h; simp
      · rw [List.mem_cons, ih, List.mem_cons]; tauto

/-- A register of an array is listed where the table holds an entry for it. -/
theorem State.mem_listed_of_entry {s : State} {f : Nat → Nat} {n i : Nat} {e : Nat × Nat} (hst : f 0 < f 1)
    (hf : f i = f 0 + (f 1 - f 0) * i) (hi : i < n) (he : e ∈ s.regs) (hk : e.1 = f i) : i ∈ s.listed f n := by
  have hpos : 0 < f 1 - f 0 := by omega
  have hlt : (f 1 - f 0) * i < (f 1 - f 0) * n := Nat.mul_lt_mul_of_pos_left hi hpos
  have hsub : e.1 - f 0 = (f 1 - f 0) * i := by omega
  have hin : (decide (f 0 ≤ e.1) && decide (e.1 < f 0 + (f 1 - f 0) * n) && (e.1 - f 0) % (f 1 - f 0) == 0) = true := by
    rw [hsub, Nat.mul_mod_right]; simp; omega
  have hix : (e.1 - f 0) / (f 1 - f 0) = i := by rw [hsub, Nat.mul_div_cancel_left _ hpos]
  unfold State.listed
  generalize s.regs = l at he
  induction l with
  | nil => exact absurd he List.not_mem_nil
  | cons x t ih =>
    dsimp only [List.foldr_cons]
    rcases List.mem_cons.1 he with rfl | he
    · rw [if_pos (by simpa using hin), mem_insNat]; exact .inl hix.symm
    · split
      · exact mem_insNat.2 (.inr (ih he))
      · exact ih he
theorem State.lt_of_mem_listed {s : State} {f : Nat → Nat} {n i : Nat} (h : i ∈ s.listed f n) : i < n := by
  unfold State.listed at h
  generalize s.regs = l at h
  induction l with
  | nil => exact absurd h List.not_mem_nil
  | cons x t ih =>
    dsimp only [List.foldr_cons] at h
    split at h
    · next hc =>
      rcases mem_insNat.1 h with rfl | h
      · simp only [Bool.and_eq_true, decide_eq_true_eq] at hc
        exact Nat.div_lt_of_lt_mul (by omega)
      · exact ih h
    · exact ih h

theorem cellGet_eq_default {β : Type} (d : Nat → β) {l : List (Nat × β)} {k : Nat} (h : ∀ e ∈ l, e.1 ≠ k) : cellGet d l k = d k := by
  induction l with
  | nil => rfl
  | cons e t ih =>
    rw [cellGet_cons, if_neg (h e List.mem_cons_self), ih fun x hx => h x (List.mem_cons_of_mem _ hx)]
/-- A register of an array that does not hold its reset value is listed. -/
theorem State.mem_listed {s : State} {f : Nat → Nat} {n i : Nat} (hst : f 0 < f 1) (hf : f i = f 0 + (f 1 - f 0) * i) (hi : i < n)
    (h : s.rd (f i) ≠ resetVal (f i)) : i ∈ s.listed f n := by
  by_contra hn
  exact h (cellGet_eq_default _ fun e he hk => hn (State.mem_listed_of_entry hst hf hi he hk))

theorem State.any_sepNrgDis (s : State) : ((s.listed R.SEP_NRG_DIS 64).any (fun i => s.rd (R.SEP_NRG_DIS i) != 0)) =
    decide (∃ i ∈ List.range 64, s.rd (R.SEP_NRG_DIS i) ≠ 0) := by
  have hreset : ∀ i, i < 64 → resetVal (R.SEP_NRG_DIS i) = 0 := by decide +kernel
  rw [Bool.eq_iff_iff, List.any_eq_true, decide_eq_true_eq]
  constructor
  · rintro ⟨i, hi, h⟩
    exact ⟨i, List.mem_range.2 (State.lt_of_mem_listed hi), by simpa using h⟩
  · rintro ⟨i, hi, h⟩
    have hlt := List.mem_range.1 hi
    exact ⟨i, State.mem_listed (by decide) (by unfold R.SEP_NRG_DIS; omega) hlt (by rwa [hreset i hlt]), by simpa using h⟩

/-! ### Interrupt levels (R109) -/

/-- The registers of the levels. -/
def levelKeys : List Nat := [R.ICU_SRC_LEVEL 0, R.ICU_SRC_LEVEL 1, R.ICU_SRC_LEVEL 2]

theorem State.rd_levels_of_not_mem (s : State) {k : Nat} (h : k ∉ levelKeys) : s.levels.rd k = s.rd k := by
  simp only [levelKeys, List.mem_cons, List.not_mem_nil, or_false, not_or] at h
  exact s.rd_levels (Ne.symm h.1) (Ne.symm h.2.1) (Ne.symm h.2.2)

/-- The events of a block and their enables are no levels. -/
theorem srcBase_not_level {n b : Nat} (h : srcBase n = some b) : b + 4 ∉ levelKeys ∧ b + 8 ∉ levelKeys := by
  have hall : ∀ n, n < 80 → ∀ b ∈ srcBase n, b + 4 ∉ levelKeys ∧ b + 8 ∉ levelKeys := by decide
  refine hall n ?_ b h
  by_contra hn
  rw [srcBase, if_neg (by omega), if_neg (by omega), if_neg (by omega), if_neg (by omega)] at h
  exact nomatch h

theorem State.srcLevel_congr {s t : State} (h : ∀ k, k ∉ levelKeys → t.rd k = s.rd k) (n : Nat) : t.srcLevel n = s.srcLevel n := by
  unfold State.srcLevel
  cases hb : srcBase n with
  | none => rfl
  | some b =>
    obtain ⟨hev, hen⟩ := srcBase_not_level hb
    dsimp only
    rw [h _ hev, h _ hen]
theorem State.srcWord_congr {s t : State} (h : ∀ k, k ∉ levelKeys → t.rd k = s.rd k) (k : Nat) : t.srcWord k = s.srcWord k := by
  unfold State.srcWord; simp only [State.srcLevel_congr h]

theorem State.srcWord_lt (s : State) (k : Nat) : s.srcWord k < 4294967296 := bitSum_lt (fun i => s.srcLevel (32 * k + i)) 32

theorem State.rd_levels_level (s : State) {k : Nat} (h : k < 3) : s.levels.rd (R.ICU_SRC_LEVEL k) = s.srcWord k := by
  rw [State.rd_congr s.levels_regs]
  have hw := s.srcWord_lt k
  obtain rfl | rfl | rfl : k = 0 ∨ k = 1 ∨ k = 2 := by omega
  · rw [State.rd_wr_other _ _ (by decide), State.rd_wr_other _ _ (by decide), State.rd_wr_same, Nat.mod_eq_of_lt hw]
  · rw [State.rd_wr_other _ _ (by decide), State.rd_wr_same, Nat.mod_eq_of_lt hw]
  · rw [State.rd_wr_same, Nat.mod_eq_of_lt hw]
theorem State.levels_alert (s : State) : s.levels.pwr.alert = s.srcLevel 0 := testBit_bitSum (fun i => s.srcLevel (32 * 0 + i)) (by decide)
theorem State.levels_phyRun (s : State) : s.levels.pwr.phyRun = s.bit R.PRT_PHY_CTRL 0 := by
  show State.bit _ R.PRT_PHY_CTRL 0 = _
  rw [State.bit_wr_other _ _ _ (by decide), State.bit_wr_other _ _ _ (by decide), State.bit_wr_other _ _ _ (by decide)]

/-! ### Status words that follow other state -/

/-- The status words that `mirror` writes. -/
def mirrorKeys : List Nat := [R.TMU_STATUS, R.VIR_STATUS, R.EVT_STATUS, R.SEP_STATUS, R.CFG_STATUS]

theorem State.rd_mirror_of_not_mem (s : State) {k : Nat} (h : k ∉ mirrorKeys) : s.mirror.rd k = s.rd k := by
  simp only [mirrorKeys, List.mem_cons, List.not_mem_nil, or_false, not_or] at h
  obtain ⟨h1, h2, h3, h4, h5⟩ := h
  exact s.rd_mirror (Ne.symm h1) (Ne.symm h2) (Ne.symm h3) (Ne.symm h4) (Ne.symm h5)

theorem State.mirror_tmuStatus (s : State) : s.mirror.rd R.TMU_STATUS =
    putBits (putBits (s.rd R.TMU_STATUS) 3 0 ((List.range 4).foldl (fun a n => a + b2n (s.bit (R.TB_STATUS n) 0) * 2 ^ n) 0)) 11 4
      ((List.range 8).foldl (fun a v => a + b2n (s.viewValid v) * 2 ^ v) 0) % 4294967296 := by
  unfold State.mirror
  rw [State.rd_wr_other _ _ (by decide), State.rd_setB, if_neg (by decide), State.rd_wr_other _ _ (by decide),
    State.rd_wr_other _ _ (by decide), State.rd_wr_same]
theorem State.mirror_virStatus (s : State) : s.mirror.rd R.VIR_STATUS =
    putBits (putBits (s.rd R.VIR_STATUS) 14 8 s.host.rstQ.length) 1 1 (b2n (s.host.rstQ.length != 0 || s.host.rstRun.length != 0)) % 4294967296 := by
  unfold State.mirror
  rw [State.rd_wr_other _ _ (by decide), State.rd_setB, if_neg (by decide), State.rd_wr_other _ _ (by decide), State.rd_wr_same,
    State.rd_wr_other _ _ (by decide)]
theorem State.mirror_evtStatus (s : State) : s.mirror.rd R.EVT_STATUS = s.evt.queue.length % 4294967296 := by
  unfold State.mirror
  rw [State.rd_wr_other _ _ (by decide), State.rd_setB, if_neg (by decide), State.rd_wr_same]

theorem State.mirror_hold (s : State) {n : Nat} (h : n < 4) : s.mirror.bit R.TMU_STATUS n = s.bit (R.TB_STATUS n) 0 := by
  rw [State.bit, s.mirror_tmuStatus, testBit_mod_two32 _ _ (by omega), testBit_putBits _ _ _ _ _ (by decide), if_neg (by omega),
    testBit_putBits _ _ _ _ _ (by decide), if_pos (by omega), Nat.sub_zero, testBit_bitSum (fun n => s.bit (R.TB_STATUS n) 0) h]
theorem State.mirror_valid (s : State) {v : Nat} (h : v < 8) : s.mirror.bit R.TMU_STATUS (4 + v) = s.viewValid v := by
  rw [State.bit, s.mirror_tmuStatus, testBit_mod_two32 _ _ (by omega), testBit_putBits _ _ _ _ _ (by decide), if_pos (by omega),
    Nat.add_sub_cancel_left, testBit_bitSum s.viewValid h]
theorem State.mirror_queued (s : State) : s.mirror.fld R.VIR_STATUS 14 8 = s.host.rstQ.length % 128 := by
  rw [State.fld, s.mirror_virStatus, bitsOf_mod_two32 _ _ _ (by decide), bitsOf_putBits_other _ _ _ _ _ _ (by decide) (by decide),
    bitsOf_putBits_same _ _ _ _ (by decide)]
  rfl
theorem State.mirror_resetBusy (s : State) : s.mirror.bit R.VIR_STATUS 1 = decide (s.host.rstQ ≠ [] ∨ s.host.rstRun ≠ []) := by
  rw [State.bit, s.mirror_virStatus, testBit_mod_two32 _ _ (by decide), testBit_putBits _ _ _ _ _ (by decide), if_pos (by decide),
    b2n_testBit_zero]
  cases s.host.rstQ <;> cases s.host.rstRun <;> rfl
theorem State.mirror_partial (s : State) : s.mirror.bit R.SEP_STATUS 3 =
    decide (s.rd R.SEP_DISABLE ≠ 0 ∨ ∃ i ∈ List.range 64, s.rd (R.SEP_NRG_DIS i) ≠ 0) := by
  have hkeep : ∀ (a b c k : Nat), 0x5000000 ≤ k → (((s.wr R.TMU_STATUS a).wr R.VIR_STATUS b).wr R.EVT_STATUS c).rd k = s.rd k := by
    intro a b c k h
    rw [State.rd_wr_other _ _ (by unfold R.EVT_STATUS; omega), State.rd_wr_other _ _ (by unfold R.VIR_STATUS; omega),
      State.rd_wr_other _ _ (by unfold R.TMU_STATUS; omega)]
  have hdis : ∀ i, 0x5000000 ≤ R.SEP_NRG_DIS i := fun i => by unfold R.SEP_NRG_DIS; omega
  unfold State.mirror
  rw [State.bit_wr_other _ _ _ (by decide), State.bit_setB_same _ _ _ _ (by decide), State.any_sepNrgDis, hkeep _ _ _ _ (by decide)]
  simp only [hkeep _ _ _ _ (hdis _), bne, Bool.beq_eq_decide_eq, decide_not, Bool.decide_or, ne_eq]
theorem State.mirror_sliceFault (s : State) : s.mirror.bit R.CFG_STATUS 10 = decide (s.rd R.CFG_SLICE_FAULT ≠ 0) := by
  unfold State.mirror
  rw [State.bit, State.rd_wr_same, testBit_mod_two32 _ _ (by decide), testBit_putBits _ _ _ _ _ (by decide), if_pos (by decide),
    b2n_testBit_zero, bne, Bool.beq_eq_decide_eq, decide_not]

/-! ### The guarantee and the mate (R371, R382) -/

theorem State.breachWord_lt (s : State) : s.breachWord < 4294967296 := by
  have hsum : ∀ a b c d e f g : Bool, b2n a + b2n b * 2 + b2n c * 4 + b2n d * 8 + b2n e * 16 + b2n f * 32 + b2n g * 64 < 4294967296 := by decide
  exact hsum _ _ _ _ _ _ _
/-- The reasons look at the two health words, at all of WDN_STATUS but BREACH, and at the I/O wardens. -/
theorem State.breachWord_congr {s t : State} (hh : ∀ i, i < 2 → t.rd (R.WDN_HEALTH i) = s.rd (R.WDN_HEALTH i))
    (hs : ∀ i, i < 32 → i ≠ 3 → t.bit R.WDN_STATUS i = s.bit R.WDN_STATUS i) (hw : t.wdn = s.wdn) : t.breachWord = s.breachWord := by
  unfold State.bit at hs
  unfold State.breachWord
  rw [hh 0 (by decide), hh 1 (by decide), hw]
  dsimp only
  rw [hs 4 (by decide) (by decide), hs 16 (by decide) (by decide), hs 17 (by decide) (by decide), hs 18 (by decide) (by decide),
    hs 5 (by decide) (by decide), hs 2 (by decide) (by decide), hs 1 (by decide) (by decide)]

/-- The registers that a change of BREACH writes beside WDN_BREACH and BREACH itself. -/
theorem State.rd_breachHold_live {s : State} (h : s.wdn.live = true) {k : Nat} (h3 : R.WDN_EVENTS ≠ k) (h4 : R.EVT_LOST ≠ k)
    (h5 : R.EVT_EVENTS ≠ k) :
    s.breachHold.rd k = ((s.wr R.WDN_BREACH s.breachWord).setB R.WDN_STATUS 3 (s.breachWord != 0)).rd k := by
  unfold State.breachHold
  rw [h]
  dsimp only [Bool.not_true, Bool.false_eq_true, if_false]
  rw [if_neg (by decide)]
  split
  · rfl
  · rw [State.rd_eventOpen _ _ h4.symm h5.symm, State.rd_setB, if_neg h3]
theorem State.breachHold_status {s : State} {i : Nat} (hi : i < 32) (h3 : i ≠ 3) : s.breachHold.bit R.WDN_STATUS i = s.bit R.WDN_STATUS i := by
  cases hl : s.wdn.live with
  | false => unfold State.breachHold; rw [hl]; rfl
  | true =>
    rw [State.bit, State.rd_breachHold_live hl (by decide) (by decide) (by decide)]
    exact (State.bit_setB_apart _ _ _ hi (Ne.symm h3)).trans (State.bit_wr_other _ _ _ (by decide))
theorem State.breachHold_breachWord (s : State) : s.breachHold.breachWord = s.breachWord :=
  State.breachWord_congr
    (fun i hi => State.rd_breachHold _ (by unfold R.WDN_BREACH R.WDN_HEALTH; omega) (by unfold R.WDN_STATUS R.WDN_HEALTH; omega)
      (by unfold R.WDN_EVENTS R.WDN_HEALTH; omega) (by unfold R.EVT_LOST R.WDN_HEALTH; omega) (by unfold R.EVT_EVENTS R.WDN_HEALTH; omega))
    (fun _ hi h3 => State.breachHold_status hi h3) s.breachHold_wdn
theorem State.breachHold_reasons {s : State} (h : s.wdn.live = true) : s.breachHold.rd R.WDN_BREACH = s.breachHold.breachWord := by
  rw [State.rd_breachHold_live h (by decide) (by decide) (by decide), State.rd_setB, if_neg (by decide), State.rd_wr_same,
    Nat.mod_eq_of_lt s.breachWord_lt, State.breachHold_breachWord]
theorem State.breachHold_breach {s : State} (h : s.wdn.live = true) :
    s.breachHold.bit R.WDN_STATUS 3 = decide (s.breachHold.breachWord ≠ 0) := by
  rw [State.bit, State.rd_breachHold_live h (by decide) (by decide) (by decide), State.breachHold_breachWord]
  refine (State.bit_setB_same _ _ _ _ (by decide)).trans ?_
  rw [bne, Bool.beq_eq_decide_eq, decide_not]

/-- PAIRED as R382 gives it. -/
def State.pairedNow (s : State) : Bool := s.bit R.WDN_MATE_STATUS 0 && s.bit R.CFG_MATE_STATUS 1
/-- COVERING as R382 gives it. -/
def State.coveringNow (s : State) : Bool :=
  s.pairedNow && !(s.bit R.WDN_MATE_STATUS 8 || s.bit R.WDN_MATE_STATUS 9 || s.bit R.WDN_MATE_STATUS 11) && s.bit R.WDN_MATE_CFG 1

theorem State.mateHold_cases (s : State) :
    (s.mateHold = s ∧ s.bit R.WDN_MATE_STATUS 1 = s.pairedNow ∧ s.bit R.WDN_MATE_STATUS 2 = s.coveringNow) ∨
    s.mateHold = (s.setF R.WDN_MATE_STATUS 2 1 (b2n s.pairedNow + 2 * b2n s.coveringNow)).setB R.WDN_EVENTS 11 true := by
  unfold State.mateHold
  dsimp only
  split
  · next h =>
    simp only [Bool.and_eq_true, beq_iff_eq] at h
    exact .inl ⟨rfl, h.1.symm, h.2.symm⟩
  · exact .inr rfl
theorem State.mateHold_status {s : State} {i : Nat} (hi : i < 32) (h : i < 1 ∨ 2 < i) :
    s.mateHold.bit R.WDN_MATE_STATUS i = s.bit R.WDN_MATE_STATUS i := by
  obtain ⟨e, _⟩ | e := s.mateHold_cases <;> rw [e]
  rw [State.bit_setB_other _ _ _ _ (by decide), State.bit_eq_fld, State.fld_setF_apart _ _ _ _ _ _ _ (by decide) hi h, ← State.bit_eq_fld]
theorem State.mateHold_other (s : State) {k : Nat} (h1 : R.WDN_MATE_STATUS ≠ k) (h2 : R.WDN_EVENTS ≠ k) (i : Nat) :
    s.mateHold.bit k i = s.bit k i := congrArg (Nat.testBit · i) (s.rd_mateHold h1 h2)
theorem State.mateHold_pairedNow (s : State) : s.mateHold.pairedNow = s.pairedNow := by
  rw [State.pairedNow, State.mateHold_status (by decide) (by decide), s.mateHold_other (by decide) (by decide), State.pairedNow]
theorem State.mateHold_coveringNow (s : State) : s.mateHold.coveringNow = s.coveringNow := by
  rw [State.coveringNow, s.mateHold_pairedNow, State.mateHold_status (by decide) (by decide), State.mateHold_status (by decide) (by decide),
    State.mateHold_status (by decide) (by decide), s.mateHold_other (by decide) (by decide), State.coveringNow]
theorem State.mateHold_paired (s : State) : s.mateHold.bit R.WDN_MATE_STATUS 1 = s.mateHold.pairedNow := by
  rw [s.mateHold_pairedNow]
  obtain ⟨e, h, _⟩ | e := s.mateHold_cases <;> rw [e]
  · exact h
  · rw [State.bit_setB_other _ _ _ _ (by decide), State.bit, State.rd_setF, if_pos rfl, testBit_mod_two32 _ _ (by decide),
      testBit_putBits _ _ _ _ _ (by decide), if_pos (by decide)]
    cases s.pairedNow <;> cases s.coveringNow <;> rfl
theorem State.mateHold_covering (s : State) : s.mateHold.bit R.WDN_MATE_STATUS 2 = s.mateHold.coveringNow := by
  rw [s.mateHold_coveringNow]
  obtain ⟨e, _, h⟩ | e := s.mateHold_cases <;> rw [e]
  · exact h
  · rw [State.bit_setB_other _ _ _ _ (by decide), State.bit, State.rd_setF, if_pos rfl, testBit_mod_two32 _ _ (by decide),
      testBit_putBits _ _ _ _ _ (by decide), if_pos (by decide)]
    cases s.pairedNow <;> cases s.coveringNow <;> rfl

/-! ### The whole of settle -/

/-- The state after BREACH and the mate have been settled. -/
def State.guarded (s : State) : State := s.syncHold.breachHold.mateHold
/-- The state before the status words are mirrored. -/
def State.pended (s : State) : State := s.guarded.autoSync.pendLevels

theorem State.settle_rd_mirrored (s : State) {k : Nat} (h : k ∉ levelKeys) : s.settle.rd k = s.pended.mirror.rd k :=
  (s.settle_rd_settled k).trans (State.rd_levels_of_not_mem _ h)
theorem State.settle_rd_pended (s : State) {k : Nat} (h : k ∉ levelKeys) (h' : k ∉ mirrorKeys) : s.settle.rd k = s.pended.rd k :=
  (s.settle_rd_mirrored h).trans (State.rd_mirror_of_not_mem _ h')
theorem State.settle_rd_guarded (s : State) {k : Nat} (h : k ∉ levelKeys) (h' : k ∉ mirrorKeys) (hp : pendKey k = false)
    (hr : R.RTC_STATUS ≠ k) : s.settle.rd k = s.guarded.rd k := by
  rw [s.settle_rd_pended h h', State.pended, State.rd_pendLevels _ hp, State.rd_autoSync _ hr]
theorem State.settle_rd_breachHold (s : State) {k : Nat} (h : k ∉ levelKeys) (h' : k ∉ mirrorKeys) (hp : pendKey k = false)
    (hr : R.RTC_STATUS ≠ k) (hm : R.WDN_MATE_STATUS ≠ k) (he : R.WDN_EVENTS ≠ k) : s.settle.rd k = s.syncHold.breachHold.rd k := by
  rw [s.settle_rd_guarded h h' hp hr, State.guarded, State.rd_mateHold _ hm he]

theorem State.settle_bit_pended (s : State) {k : Nat} (h : k ∉ levelKeys) (h' : k ∉ mirrorKeys) (i : Nat) : s.settle.bit k i = s.pended.bit k i :=
  congrArg (Nat.testBit · i) (s.settle_rd_pended h h')
theorem State.settle_bit_mirrored (s : State) {k : Nat} (h : k ∉ levelKeys) (i : Nat) : s.settle.bit k i = s.pended.mirror.bit k i :=
  congrArg (Nat.testBit · i) (s.settle_rd_mirrored h)
theorem State.settle_bit_guarded (s : State) {k : Nat} (h : k ∉ levelKeys) (h' : k ∉ mirrorKeys) (hp : pendKey k = false)
    (hr : R.RTC_STATUS ≠ k) (i : Nat) : s.settle.bit k i = s.guarded.bit k i := congrArg (Nat.testBit · i) (s.settle_rd_guarded h h' hp hr)
theorem State.settle_bit_breachHold (s : State) {k : Nat} (h : k ∉ levelKeys) (h' : k ∉ mirrorKeys) (hp : pendKey k = false)
    (hr : R.RTC_STATUS ≠ k) (hm : R.WDN_MATE_STATUS ≠ k) (he : R.WDN_EVENTS ≠ k) (i : Nat) : s.settle.bit k i = s.syncHold.breachHold.bit k i :=
  congrArg (Nat.testBit · i) (s.settle_rd_breachHold h h' hp hr hm he)

/-- A register of the time bases, the views or the conservation unit lies apart from the levels and the status words. -/
theorem not_level_of_le {k : Nat} (h : 0x400410 ≤ k) : k ∉ levelKeys := by
  simp only [levelKeys, R.ICU_SRC_LEVEL, List.mem_cons, List.not_mem_nil, or_false]; omega
theorem not_mirror_of_tmu {k : Nat} (h : 0x1800004 ≤ k) (h' : k < 0x4C00000) : k ∉ mirrorKeys := by
  simp only [mirrorKeys, R.TMU_STATUS, R.VIR_STATUS, R.EVT_STATUS, R.SEP_STATUS, R.CFG_STATUS, List.mem_cons, List.not_mem_nil, or_false]
  omega
theorem not_mirror_of_sep {k : Nat} (h : 0x5000004 ≤ k) : k ∉ mirrorKeys := by
  simp only [mirrorKeys, R.TMU_STATUS, R.VIR_STATUS, R.EVT_STATUS, R.SEP_STATUS, R.CFG_STATUS, List.mem_cons, List.not_mem_nil, or_false]
  omega

theorem State.settle_levels (s : State) {k : Nat} (h : k < 3) : s.settle.rd (R.ICU_SRC_LEVEL k) = s.settle.srcWord k := by
  rw [State.srcWord_congr fun _ hj => s.settle_rd_mirrored hj]
  exact (s.settle_rd_settled _).trans (s.pended.mirror.rd_levels_level h)
theorem State.settle_alert (s : State) : s.settle.pwr.alert = s.settle.srcLevel 0 := by
  rw [State.srcLevel_congr fun _ hj => s.settle_rd_mirrored hj, State.settle_eq]
  exact s.pended.mirror.levels_alert
theorem State.settle_phyRun (s : State) : s.settle.pwr.phyRun = s.settle.bit R.PRT_PHY_CTRL 0 := by
  rw [s.settle_bit_mirrored (by decide), State.settle_eq]
  exact s.pended.mirror.levels_phyRun
theorem State.settle_hold (s : State) {n : Nat} (h : n < 4) : s.settle.bit R.TMU_STATUS n = s.settle.bit (R.TB_STATUS n) 0 := by
  rw [s.settle_bit_mirrored (by decide), State.mirror_hold _ h,
    s.settle_bit_pended (not_level_of_le (by unfold R.TB_STATUS; omega)) (not_mirror_of_tmu (by unfold R.TB_STATUS; omega) (by unfold R.TB_STATUS; omega))]
theorem State.settle_valid (s : State) {v : Nat} (h : v < 8) : s.settle.bit R.TMU_STATUS (4 + v) = s.settle.viewValid v := by
  rw [s.settle_bit_mirrored (by decide), State.mirror_valid _ h, State.viewValid, State.viewValid,
    s.settle_bit_pended (not_level_of_le (by unfold R.CV_BIND; omega)) (not_mirror_of_tmu (by unfold R.CV_BIND; omega) (by unfold R.CV_BIND; omega)),
    s.settle_bit_pended (not_level_of_le (by unfold R.CV_CTRL; omega)) (not_mirror_of_tmu (by unfold R.CV_CTRL; omega) (by unfold R.CV_CTRL; omega))]
theorem State.pended_host (s : State) : s.pended.host = s.host := by simp [State.pended, State.guarded]
theorem State.settle_queued (s : State) : s.settle.fld R.VIR_STATUS 14 8 = s.settle.host.rstQ.length % 128 := by
  rw [State.fld, s.settle_rd_mirrored (by decide), ← State.fld, State.mirror_queued, s.pended_host, s.settle_host]
theorem State.settle_resetBusy (s : State) :
    s.settle.bit R.VIR_STATUS 1 = decide (s.settle.host.rstQ ≠ [] ∨ s.settle.host.rstRun ≠ []) := by
  rw [s.settle_bit_mirrored (by decide), State.mirror_resetBusy, s.pended_host, s.settle_host]
theorem State.settle_evtStatus (s : State) : s.settle.rd R.EVT_STATUS = s.settle.evt.queue.length % 4294967296 := by
  rw [s.settle_rd_mirrored (by decide), State.mirror_evtStatus, State.settle_eq]; rfl
theorem State.settle_partial (s : State) : s.settle.bit R.SEP_STATUS 3 =
    decide (s.settle.rd R.SEP_DISABLE ≠ 0 ∨ ∃ i ∈ List.range 64, s.settle.rd (R.SEP_NRG_DIS i) ≠ 0) := by
  have hdis : ∀ i, s.settle.rd (R.SEP_NRG_DIS i) = s.pended.rd (R.SEP_NRG_DIS i) := fun i =>
    s.settle_rd_pended (not_level_of_le (by unfold R.SEP_NRG_DIS; omega)) (not_mirror_of_sep (by unfold R.SEP_NRG_DIS; omega))
  rw [s.settle_bit_mirrored (by decide), State.mirror_partial, s.settle_rd_pended (by decide) (by decide)]
  simp only [hdis]
theorem State.settle_sliceFault (s : State) : s.settle.bit R.CFG_STATUS 10 = decide (s.settle.rd R.CFG_SLICE_FAULT ≠ 0) := by
  rw [s.settle_bit_mirrored (by decide), State.mirror_sliceFault, s.settle_rd_pended (by decide) (by decide)]

theorem State.settle_breachWord (s : State) : s.settle.breachWord = s.syncHold.breachHold.breachWord :=
  State.breachWord_congr
    (fun i hi => by
      obtain rfl | rfl : i = 0 ∨ i = 1 := by omega
      · exact s.settle_rd_breachHold (by decide) (by decide) (by decide) (by decide) (by decide) (by decide)
      · exact s.settle_rd_breachHold (by decide) (by decide) (by decide) (by decide) (by decide) (by decide))
    (fun i _ _ => s.settle_bit_breachHold (by decide) (by decide) (by decide) (by decide) (by decide) (by decide) i)
    (by rw [s.settle_wdn, State.breachHold_wdn, State.syncHold_wdn])
theorem State.settle_breach {s : State} (h : s.wdn.live = true) :
    s.settle.rd R.WDN_BREACH = s.settle.breachWord ∧ s.settle.bit R.WDN_STATUS 3 = decide (s.settle.breachWord ≠ 0) := by
  have hlive : s.syncHold.wdn.live = true := h
  rw [s.settle_breachWord, s.settle_rd_breachHold (by decide) (by decide) (by decide) (by decide) (by decide) (by decide),
    s.settle_bit_breachHold (by decide) (by decide) (by decide) (by decide) (by decide) (by decide)]
  exact ⟨State.breachHold_reasons hlive, State.breachHold_breach hlive⟩
theorem State.settle_mate (s : State) (i : Nat) : s.settle.bit R.WDN_MATE_STATUS i = s.guarded.bit R.WDN_MATE_STATUS i :=
  s.settle_bit_guarded (by decide) (by decide) (by decide) (by decide) i
theorem State.settle_paired (s : State) :
    s.settle.bit R.WDN_MATE_STATUS 1 = (s.settle.bit R.WDN_MATE_STATUS 0 && s.settle.bit R.CFG_MATE_STATUS 1) := by
  rw [s.settle_mate, s.settle_mate, s.settle_bit_guarded (by decide) (by decide) (by decide) (by decide)]
  exact State.mateHold_paired _
theorem State.settle_covering (s : State) : s.settle.bit R.WDN_MATE_STATUS 2 = (s.settle.bit R.WDN_MATE_STATUS 1 &&
    !s.settle.bit R.WDN_MATE_STATUS 8 && !s.settle.bit R.WDN_MATE_STATUS 9 && !s.settle.bit R.WDN_MATE_STATUS 11 && s.settle.bit R.WDN_MATE_CFG 1) := by
  simp only [s.settle_mate]
  rw [s.settle_bit_guarded (by decide) (by decide) (by decide) (by decide), State.guarded, State.mateHold_paired, State.mateHold_covering,
    State.coveringNow, Bool.not_or, Bool.not_or, ← Bool.and_assoc, ← Bool.and_assoc]

theorem State.settle_steady (s : State) : s.settle.Steady :=
  ⟨s.settle_tablesWf, fun _ h => s.settle_levels h, s.settle_alert, s.settle_phyRun, fun _ h => s.settle_hold h, fun _ h => s.settle_valid h,
    s.settle_queued, s.settle_resetBusy, s.settle_evtStatus, s.settle_partial, s.settle_sliceFault,
    fun h => State.settle_breach (s.settle_wdn ▸ h), s.settle_paired, s.settle_covering⟩
theorem State.Steady.with_queue {s : State} (h : s.Steady) (q : List Instr) (w : List (Nat × Nat)) :
    ({ s with pending := q, was := w } : State).Steady := h
/-- Every command ends in `finish`. -/
theorem exec_finish (c : Instr) (s : State) : ∃ u, exec c s = finish s u := by
  cases c <;> exact ⟨_, rfl⟩
theorem step_finish (s : State) : ∃ r u, step s = finish r u := by
  unfold step
  split
  · exact ⟨s, _, rfl⟩
  · next c rest _ => exact ⟨_, exec_finish c _⟩

/-- Settles O4: a step ends in `finish`, with a clock or a command, and `finish` settles the state it answers. -/
theorem stepsKeepSteady : Obligations.StepsKeepSteady := by
  unfold Obligations.StepsKeepSteady
  intro s t h
  obtain ⟨r, u, hu⟩ := step_finish s
  rw [finish_inv (hu.symm.trans h)]
  exact u.settle_steady.with_queue _ _

end Sys2Proof.Machine
end

section
/-! SUPPORT. What changes of the host unit's own state and of the VIs' registers leave as it was. -/
namespace Sys2Proof.Machine

theorem State.with_host_kept (s : State) (x : HostIf) {p : Part} (hp : p ≠ .host) : p.kept s { s with host := x } := by
  cases p
  case host => exact absurd rfl hp
  case evt => exact ⟨rfl, rfl⟩
  all_goals rfl

section
variable {l : List Nat} {ps : List Part} {s t : State}

theorem ChangesOnly.with_host (h : ChangesOnly l ps s t) (x : HostIf) (hp : .host ∈ ps) : ChangesOnly l ps s { t with host := x } :=
  h.trans ⟨fun _ _ => rfl, fun _ hq => t.with_host_kept x (fun e => hq (e ▸ hp))⟩
theorem ChangesOnly.addSat (h : ChangesOnly l ps s t) {k : Nat} (n : Nat) (hk : k ∈ l) (hw : k ≠ R.WDN_STATUS) :
    ChangesOnly l ps s (t.addSat k n) := h.wr _ hk hw
theorem ChangesOnly.addWrap (h : ChangesOnly l ps s t) {k : Nat} (n : Nat) (hk : k ∈ l) (hw : k ≠ R.WDN_STATUS) :
    ChangesOnly l ps s (t.addWrap k n) := h.wr _ hk hw
theorem ChangesOnly.foldl {α : Type} {f : State → α → State} {xs : List α} (hf : ∀ u, ∀ x ∈ xs, ChangesOnly l ps u (f u x)) :
    ChangesOnly l ps s t → ChangesOnly l ps s (xs.foldl f t) := by
  induction xs generalizing t with
  | nil => exact id
  | cons x xs ih => exact fun h => ih (fun u y hy => hf u y (List.mem_cons_of_mem _ hy)) (h.trans (hf t x List.mem_cons_self))
end

/-- A register of a VI page is none of the registers below the pages. -/
theorem viPage_ne {k j : Nat} (hk : 0x8000000 ≤ k) (hj : j < 0x8000000) : k ≠ j := by omega
theorem viStatus_ge (n : Nat) : 0x8000000 ≤ R.VI_STATUS n := by unfold R.VI_STATUS; omega
/-- The registers that follow other state lie below the VI pages, but for the vectors' states. -/
theorem settleKey_viPage {k : Nat} (h : 0x8000000 ≤ k) : settleKey k = (k % 0x1000 == 0x42C) := by
  have hlow : ∀ j ∈ [R.WDN_STATUS, R.WDN_BREACH, R.WDN_EVENTS, R.WDN_MATE_STATUS, R.RTC_STATUS, R.TMU_STATUS, R.VIR_STATUS, R.EVT_STATUS,
      R.SEP_STATUS, R.CFG_STATUS, R.EVT_LOST, R.EVT_EVENTS, R.ICU_SRC_LEVEL 0, R.ICU_SRC_LEVEL 1, R.ICU_SRC_LEVEL 2], j < 0x8000000 := by decide
  rw [settleKey, pendKey, Bool.or_eq_right_iff_imp.2 fun hc => absurd (hlow k (List.contains_iff_mem.1 hc)) (by omega),
    decide_eq_false (show ¬k < 0x413000 by omega), decide_eq_true h, Bool.and_false, Bool.false_and, Bool.false_or, Bool.true_and]
theorem viStatus_steady (n : Nat) : settleKey (R.VI_STATUS n) = false := by
  rw [settleKey_viPage (viStatus_ge n), beq_eq_false_iff_ne]; unfold R.VI_STATUS; omega

end Sys2Proof.Machine
end

section
/-! SUPPORT. Reset requests of VIs and polders, their cancels, function-level resets, and the end of a VI reset (R96 to R100). -/
namespace Sys2Proof.Machine

/-! ### VI_STATUS.STATE (Table 04-7) -/

theorem State.viState_eq {s : State} {n : Nat} (h : s.viExists n = true) :
    s.viState n = s.setF (R.VI_STATUS n) 1 0 (if s.viResetting n then 3 else if s.viQueued n then 2 else 1) := by
  unfold State.viState; rw [h]; rfl
theorem State.viState_host (s : State) (n : Nat) : (s.viState n).host = s.host := by unfold State.viState; split <;> rfl
theorem State.foldl_viState_host (s : State) (vis : List Nat) : (vis.foldl (fun s n => s.viState n) s).host = s.host :=
  foldl_keep (fun (s : State) n => s.viState n) State.host State.viState_host vis s
theorem ChangesOnly.viState {l : List Nat} {ps : List Part} {s t : State} (h : ChangesOnly l ps s t) {n : Nat} (hn : R.VI_STATUS n ∈ l) :
    ChangesOnly l ps s (t.viState n) := by
  unfold State.viState
  split
  · exact h
  · exact h.setF _ _ _ hn (viPage_ne (viStatus_ge n) (by decide))
theorem ChangesOnly.foldl_viState {l : List Nat} {ps : List Part} {s t : State} (h : ChangesOnly l ps s t) {vis : List Nat}
    (hn : ∀ n ∈ vis, R.VI_STATUS n ∈ l) : ChangesOnly l ps s (vis.foldl (fun s n => s.viState n) t) :=
  ChangesOnly.foldl (fun u n hm => (ChangesOnly.refl l ps u).viState (hn n hm)) h

/-! ### Requests of a VI reset (R96) -/

section
variable {s : State} {n : Nat}

/-- The request waits in the queue, before VI_STATUS follows. -/
def State.queueVi (s : State) (n : Nat) : State := { s with host := { s.host with rstQ := s.host.rstQ ++ [.vi n], rstAt := s.now } }

theorem State.rstRequest_vi (he : s.viExists n = true) (hv : s.host.rstQ.contains (.vi n) = false)
    (hp : s.host.rstQ.contains (.polder (s.viPolder n)) = false) (hl : s.host.rstQ.length < 64) :
    s.rstRequest (.vi n) = (true, (s.queueVi n).viState n) := by
  unfold State.rstRequest
  dsimp only
  rw [he, hv, hp]
  rw [Bool.not_true, Bool.or_self, if_neg Bool.false_ne_true, if_neg Bool.false_ne_true, if_neg (by omega)]
  rfl
theorem State.rstRequest_absent (he : s.viExists n = false) : s.rstRequest (.vi n) = (false, s.rstRefuse) := by
  unfold State.rstRequest
  dsimp only
  rw [he]
  rfl
theorem State.rstRequest_merged (he : s.viExists n = true) (hv : s.host.rstQ.contains (.vi n) = true) :
    s.rstRequest (.vi n) = (true, { s with host := { s.host with rstAt := s.now } }) := by
  unfold State.rstRequest
  dsimp only
  rw [he, hv]
  rfl

theorem State.queueVi_status (he : s.viExists n = true) :
    ((s.queueVi n).viState n).fld (R.VI_STATUS n) 1 0 = if s.viResetting n then 3 else 2 := by
  have he' : (s.queueVi n).viExists n = true := he
  have hr : (s.queueVi n).viResetting n = s.viResetting n := rfl
  have hq : (s.queueVi n).viQueued n = true := by
    show ((s.host.rstQ ++ [RstReq.vi n]).contains (RstReq.vi n) || _) = true
    simp
  rw [State.viState_eq he', State.fld_setF_same _ _ _ _ _ (by decide) (by decide), hr, hq]
  cases s.viResetting n <;> rfl
theorem State.queueVi_changes (s : State) (n : Nat) : ChangesOnly [R.VI_STATUS n] [.host] s ((s.queueVi n).viState n) :=
  ((ChangesOnly.refl _ _ s).with_host _ List.mem_cons_self).viState List.mem_cons_self

theorem answers_request {c : Instr} (hc : exec c s = finish s (s.rstRequest (.vi n)).2) (he : s.viExists n = true)
    (hv : s.host.rstQ.contains (.vi n) = false) (hp : s.host.rstQ.contains (.polder (s.viPolder n)) = false) (hl : s.host.rstQ.length < 64) :
    Answers c s (fun t => t.host = { s.host with rstQ := s.host.rstQ ++ [.vi n], rstAt := s.now } ∧
      t.fld (R.VI_STATUS n) 1 0 = (if s.viResetting n then 3 else 2) ∧ Only (among [R.VI_STATUS n]) [.host] s t) := by
  rw [State.rstRequest_vi he hv hp hl] at hc
  refine answers_of_finish hc ⟨?_, ?_, (s.queueVi_changes n).only_among⟩
  · rw [s.ended_host, State.viState_host]; rfl
  · rw [s.ended_fld _ (viStatus_steady n), State.queueVi_status he]

theorem State.rstRefuse_changes (s : State) : ChangesOnly [R.VIR_EVENTS] [] s s.rstRefuse :=
  (ChangesOnly.refl _ _ s).setB _ _ List.mem_cons_self (by decide)
theorem answers_refuse {c : Instr} (hc : exec c s = finish s s.rstRefuse) :
    Answers c s (fun t => t.bit R.VIR_EVENTS 1 = true ∧ Only (among [R.VIR_EVENTS]) [] s t) :=
  answers_of_finish hc ⟨by rw [s.ended_bit _ (by decide)]; exact s.bit_setB_same _ _ _ (by decide), s.rstRefuse_changes.only_among⟩
theorem answers_request_absent {c : Instr} (hc : exec c s = finish s (s.rstRequest (.vi n)).2) (he : s.viExists n = false) :
    Answers c s (fun t => t.bit R.VIR_EVENTS 1 = true ∧ Only (among [R.VIR_EVENTS]) [] s t) :=
  answers_refuse (hc.trans (by rw [State.rstRequest_absent he]))
theorem answers_request_merged {c : Instr} (hc : exec c s = finish s (s.rstRequest (.vi n)).2) (he : s.viExists n = true)
    (hv : s.host.rstQ.contains (.vi n) = true) :
    Answers c s (fun t => t.host = { s.host with rstAt := s.now } ∧ Only (fun _ => false) [.host] s t) := by
  rw [State.rstRequest_merged he hv] at hc
  exact answers_of_finish hc ⟨s.ended_host _, ((ChangesOnly.refl [] [.host] s).with_host _ List.mem_cons_self).only fun _ hk => nomatch hk⟩

/-! ### Requests of a polder reset (R96) -/

theorem State.rstRequest_polder {p : Nat} (h : p < 64) (hq : s.host.rstQ.contains (.polder p) = false) (hl : s.host.rstQ.length < 64) :
    s.rstRequest (.polder p) = (true,
      let t : State := { s with host := { s.host with
        rstQ := s.host.rstQ.filter (fun e => match e with | .vi n => s.viPolder n != p | _ => true) ++ [.polder p], rstAt := s.now } }
      (t.polderVis p).foldl (fun s n => s.viState n) t) := by
  unfold State.rstRequest
  dsimp only
  rw [hq, decide_eq_false (by omega), Bool.or_false, if_neg Bool.false_ne_true, if_neg Bool.false_ne_true, if_neg]
  · rfl
  · exact Nat.not_le.2 (Nat.lt_of_le_of_lt (List.length_filter_le _ _) hl)

theorem answers_polderReset {p : Fin 4096} (h : p.val < 64) (hq : s.host.rstQ.contains (.polder p) = false) (hl : s.host.rstQ.length < 64) :
    Answers (.polderResetReq p) s (fun t =>
      t.host.rstQ = s.host.rstQ.filter (fun e => match e with | .vi n => s.viPolder n != p | _ => true) ++ [.polder p] ∧ t.host.rstAt = s.now ∧
      Only (fun k => decide (0x8000000 ≤ k) && k % 0x1000 == 8) [.host] s t) := by
  have hc : exec (.polderResetReq p) s = finish s (s.rstRequest (.polder p.val)).2 := rfl
  rw [State.rstRequest_polder h hq hl] at hc
  refine answers_of_finish hc ⟨?_, ?_, ?_⟩
  · rw [s.ended_host, State.foldl_viState_host]
  · rw [s.ended_host, State.foldl_viState_host]
  · refine ChangesOnly.only (l := (s.polderVis p).map R.VI_STATUS) ?_ ?_
    · exact ((ChangesOnly.refl _ _ s).with_host _ List.mem_cons_self).foldl_viState fun m hm => List.mem_map_of_mem hm
    · intro k hk
      obtain ⟨m, _, rfl⟩ := List.mem_map.1 hk
      rw [decide_eq_true (viStatus_ge m), show R.VI_STATUS m % 0x1000 = 8 by unfold R.VI_STATUS; omega]
      rfl
theorem answers_polderReset_refused {p : Fin 4096} (h : 64 ≤ p.val) : Answers (.polderResetReq p) s (fun t =>
    t.bit R.VIR_EVENTS 1 = true ∧ Only (among [R.VIR_EVENTS]) [] s t) := by
  refine answers_refuse (congrArg (finish s) ?_)
  unfold State.rstRequest
  dsimp only
  rw [decide_eq_true (by omega)]
  rfl

/-! ### Cancels (R96) -/

/-- The request leaves the queue, with the mark of its FLR, before VI_STATUS follows. -/
def State.unqueueVi (s : State) (n : Nat) : State :=
  ({ s with host := { s.host with rstQ := s.host.rstQ.filter (· != .vi n), flr := s.host.flr.filter (fun m => !([n] : List Nat).contains m) } } : State).addSat
    R.VIR_RESET_CANCELS 1
theorem State.rstCancel_queued (h : s.host.rstQ.contains (.vi n) = true) (hf : s.host.flrRetry = []) (page : Bool) :
    s.rstCancel (.vi n) page = (s.unqueueVi n).viState n := by
  have hretry : ((s.unqueueVi n).viState n).host.flrRetry = [] := (congrArg HostIf.flrRetry (State.viState_host _ _)).trans hf
  have h' : ((s.unqueueVi n).viState n).rstRetry = (s.unqueueVi n).viState n := by unfold State.rstRetry; rw [hretry]; rfl
  rw [← h']
  unfold State.rstCancel
  rw [h, if_pos rfl]
  rfl
theorem answers_cancel {c : Instr} {page : Bool} (hc : exec c s = finish s (s.rstCancel (.vi n) page))
    (h : s.host.rstQ.contains (.vi n) = true) (hf : s.host.flrRetry = []) : Answers c s (fun t =>
      t.host.rstQ = s.host.rstQ.filter (· != .vi n) ∧ t.rd R.VIR_RESET_CANCELS = min 4294967295 (s.rd R.VIR_RESET_CANCELS + 1) ∧
      Only (among [R.VIR_RESET_CANCELS, R.VI_STATUS n]) [.host] s t) := by
  rw [State.rstCancel_queued h hf] at hc
  have hchg : ChangesOnly [R.VIR_RESET_CANCELS, R.VI_STATUS n] [.host] s ((s.unqueueVi n).viState n) :=
    (((ChangesOnly.refl _ _ s).with_host _ List.mem_cons_self).addSat _ List.mem_cons_self (by decide)).viState
      (List.mem_cons_of_mem _ List.mem_cons_self)
  refine answers_of_finish hc ⟨?_, ?_, hchg.only_among⟩
  · rw [s.ended_host, State.viState_host]; rfl
  · have hother : ((s.unqueueVi n).viState n).rd R.VIR_RESET_CANCELS = (s.unqueueVi n).rd R.VIR_RESET_CANCELS :=
      ((ChangesOnly.refl [R.VI_STATUS n] [] _).viState List.mem_cons_self).1 _
        (List.not_mem_cons_of_ne_of_not_mem (viPage_ne (viStatus_ge n) (by decide)).symm List.not_mem_nil)
    rw [s.ended_rd _ (by decide), hother, State.unqueueVi, State.rd_addSat, if_pos rfl, State.rd_with_host]
theorem answers_cancel_late {n : Vi} (hq : s.host.rstQ.contains (.vi n) = false) (hr : s.host.rstRun.contains (.vi n) = true)
    (he : s.viExists n = true) :
    Answers (.viCtrlCancel n) s (fun t => t.bit (R.VI_STATUS n) 4 = true ∧ Only (among [R.VI_STATUS n]) [] s t) := by
  have hlate : s.rstCancel (.vi n) true = s.setB (R.VI_STATUS n) 4 true := by unfold State.rstCancel; rw [hq, hr]; rfl
  have hc : exec (.viCtrlCancel n) s = finish s (s.setB (R.VI_STATUS n) 4 true) := by
    rw [← hlate]
    show finish s (s.onIf (s.viExists n.val) _) = _
    rw [he]
    rfl
  exact answers_of_finish hc ⟨by rw [s.ended_bit _ (viStatus_steady n)]; exact s.bit_setB_same _ _ _ (by decide),
    ((ChangesOnly.refl _ _ s).setB _ _ List.mem_cons_self (viPage_ne (viStatus_ge n) (by decide))).only_among⟩
theorem answers_pageCancel {n : Vi} (he : s.viExists n = true) (h : s.host.rstQ.contains (.vi n) = true) (hf : s.host.flrRetry = []) :
    Answers (.viCtrlCancel n) s (fun t => t.host.rstQ = s.host.rstQ.filter (· != .vi n) ∧
      Only (among [R.VIR_RESET_CANCELS, R.VI_STATUS n]) [.host] s t) := by
  have hc : exec (.viCtrlCancel n) s = finish s (s.rstCancel (.vi n) true) := by
    show finish s (s.onIf (s.viExists n.val) _) = _
    rw [he]
    rfl
  exact (answers_cancel hc h hf).mono fun t ht => ⟨ht.1, ht.2.2⟩

/-! ### Function-level resets (R100) -/

/-- The VI is marked: the commit of its reset also resets its function. -/
def State.markFlr (s : State) (n : Nat) : State := { s with host := { s.host with flr := n :: s.host.flr.filter (· != n) } }
/-- The reset request of an FLR; where it is refused the module tries it again. -/
def State.flrRequest (s : State) (n : Nat) : State :=
  match s.rstRequest (.vi n) with
  | (true, s) => s
  | (false, s) => { s with host := { s.host with flrRetry := s.host.flrRetry.filter (· != n) ++ [n] } }
theorem answers_vfFlr {f : Vf} (hv : s.viOfVf f = some n) (hf : s.vfExists f = true) (he : s.viExists n = true)
    (hq : s.host.rstQ.contains (.vi n) = false) (hp : s.host.rstQ.contains (.polder (s.viPolder n)) = false) (hl : s.host.rstQ.length < 64) :
    Answers (.vfFlr f) s (fun t => t.host.flr.contains n = true ∧ t.host.rstQ = s.host.rstQ ++ [.vi n] ∧ t.host.rstAt = s.now ∧
      Only (among [R.VI_STATUS n]) [.host] s t) := by
  have hreq : (s.markFlr n).rstRequest (.vi n) = (true, ((s.markFlr n).queueVi n).viState n) := State.rstRequest_vi he hq hp hl
  have hc : exec (.vfFlr f) s = finish s (((s.markFlr n).queueVi n).viState n) := by
    show execVfFlr f s = _
    unfold execVfFlr
    rw [hv, hf]
    show finish s ((s.markFlr n).flrRequest n) = _
    rw [State.flrRequest, hreq]
  have hchg : ChangesOnly [R.VI_STATUS n] [.host] s (((s.markFlr n).queueVi n).viState n) :=
    ((ChangesOnly.refl _ _ s).with_host _ List.mem_cons_self).trans ((s.markFlr n).queueVi_changes n)
  refine answers_of_finish hc ⟨?_, ?_, ?_, hchg.only_among⟩ <;> rw [s.ended_host, State.viState_host]
  · show (n :: s.host.flr.filter (· != n)).contains n = true
    simp
  · rfl
  · rfl

/-- A request is refused, merged into one that waits, or joins the queue `q`, in which it may replace others. -/
theorem State.rstRequest_cases (s : State) (r : RstReq) : s.rstRequest r = (false, s.rstRefuse) ∨
    s.rstRequest r = (true, { s with host := { s.host with rstAt := s.now } }) ∨
    ∃ q vis, s.rstRequest r = (true, (vis : List Nat).foldl (fun s n => s.viState n) { s with host := { s.host with rstQ := q, rstAt := s.now } }) := by
  unfold State.rstRequest
  extract_lets bad merged src q
  by_cases hb : bad = true
  · exact .inl (if_pos hb)
  · rw [if_neg hb]
    by_cases hm : merged = true
    · exact .inr (.inl (if_pos hm))
    · rw [if_neg hm]
      by_cases hq : 64 ≤ q.length
      · exact .inl (if_pos hq)
      · rw [if_neg hq]; exact .inr (.inr ⟨_, _, rfl⟩)
/-- The function-level state of configuration space (R99). -/
def HostIf.pcie (h : HostIf) : Bool × Bool × Nat × List Nat × List Nat × List Nat := (h.vfEnable, h.ari, h.numVfs, h.msixEn, h.fnMask, h.d3)
theorem State.rstRequest_pcie (s : State) (r : RstReq) : (s.rstRequest r).2.host.pcie = s.host.pcie := by
  obtain h | h | ⟨q, vis, h⟩ := s.rstRequest_cases r <;> rw [h]
  · rfl
  · rfl
  · rw [State.foldl_viState_host]; rfl
theorem State.flrRequest_pcie (s : State) (n : Nat) : (s.flrRequest n).host.pcie = s.host.pcie := by
  have h := s.rstRequest_pcie (.vi n)
  unfold State.flrRequest
  split <;> next he => rw [he] at h; exact h
theorem answers_pf0Flr : Answers .pf0Flr s (fun t =>
    t.host.vfEnable = false ∧ t.host.ari = false ∧ t.host.numVfs = 0 ∧ t.host.msixEn = [] ∧ t.host.fnMask = [] ∧ t.host.d3 = []) := by
  obtain ⟨vis, u, hc, hu⟩ : ∃ (vis : List Nat) (u : State), exec .pf0Flr s = finish s (vis.foldl State.flrRequest u) ∧
      u.host.pcie = (false, false, 0, [], [], []) := ⟨_, _, rfl, rfl⟩
  refine answers_of_finish hc ?_
  rw [s.ended_host]
  have h := (foldl_keep State.flrRequest (fun s => s.host.pcie) State.flrRequest_pcie vis u).trans hu
  simp only [HostIf.pcie, Prod.mk.injEq] at h
  exact h

/-! ### The end of a VI reset (R97) -/

theorem viEvents_ge (n : Nat) : 0x8000000 ≤ R.VI_EVENTS n := by unfold R.VI_EVENTS; omega
theorem viEvents_steady (n : Nat) : settleKey (R.VI_EVENTS n) = false := by
  rw [settleKey_viPage (viEvents_ge n), beq_eq_false_iff_ne]; unfold R.VI_EVENTS; omega

theorem not_contains_filter {l : List RstReq} {r : RstReq} (h : l.contains r = false) (p : RstReq → Bool) : (l.filter p).contains r = false := by
  rw [List.contains_eq_mem, decide_eq_false_iff_not] at h ⊢
  exact fun hm => h (List.mem_of_mem_filter hm)
theorem answers_viResetDone {n : Vi} (h : s.viResetting n = true) : Answers (.viResetDone n) s (fun t =>
    t.host.rstRun.contains (.vi n) = false ∧ t.host.rstRun.contains (.part n) = false ∧ t.bit (R.VI_EVENTS n) 0 = true ∧ t.bit R.VIR_EVENTS 0 = true) := by
  obtain ⟨u, p, run, left, ⟨hvi, hpart⟩, hu⟩ : ∃ (u : State) (p : Nat) (run : List RstReq) (left : Bool),
      (run.contains (.vi n) = false ∧ run.contains (.part n) = false) ∧ s.viResetDone n = ((({ u with
        host := { u.host with rstRun := if left then run else run.filter (· != .polder p) } } : State).viState n).setB
          (R.VI_EVENTS n) 0 true).setB R.VIR_EVENTS 0 true := by
    refine ⟨_, _, _, _, ?_, (if_neg (by rw [h]; decide)).trans rfl⟩
    simp
  have hc : exec (.viResetDone n) s = finish s (s.viResetDone n) := rfl
  rw [hu] at hc
  refine answers_of_finish hc ⟨?_, ?_, ?_, ?_⟩
  · rw [s.ended_host, State.setB_host, State.setB_host, State.viState_host]
    cases left
    · exact not_contains_filter hvi _
    · exact hvi
  · rw [s.ended_host, State.setB_host, State.setB_host, State.viState_host]
    cases left
    · exact not_contains_filter hpart _
    · exact hpart
  · rw [s.ended_bit _ (viEvents_steady n), State.bit_setB_other _ _ _ _ (viPage_ne (viEvents_ge n) (by decide)).symm,
      State.bit_setB_same _ _ _ _ (by decide)]
  · rw [s.ended_bit _ (by decide), State.bit_setB_same _ _ _ _ (by decide)]

end

/-- Settles O16: a request joins the queue, merges or is refused; a cancel takes it out or comes late; an FLR of PF0 asks for the
resets of its VIs; the end of a reset takes both marks of the VI out of the committed ones. -/
theorem resetRequests : Obligations.ResetRequests := by
  unfold Obligations.ResetRequests
  refine ⟨?_, ?_, ?_, ?_, ?_, ?_, ?_, ?_, ?_, ?_, ?_⟩
  · rintro s n he hv hp hl c (rfl | rfl) <;> exact answers_request rfl he hv hp hl
  · rintro s n he c (rfl | rfl) <;> exact answers_request_absent rfl he
  · exact fun s n he hv => answers_request_merged rfl he hv
  · exact fun s p h hq hl => answers_polderReset h hq hl
  · exact fun s p h => answers_polderReset_refused h
  · exact fun s n h hf => answers_cancel (page := false) rfl h hf
  · exact fun s n hq hr he => answers_cancel_late hq hr he
  · exact fun s n he h hf => answers_pageCancel he h hf
  · exact fun s f n hv hf he hq hp hl => answers_vfFlr hv hf he hq hp hl
  · exact fun s => answers_pf0Flr
  · exact fun s n h => answers_viResetDone h

end Sys2Proof.Machine
end

section
/-! SUPPORT. Interrupt vectors (R109 to R115): where their registers lie, what their conditions look at, and their states at the end of a command. -/
namespace Sys2Proof.Machine

/-! ### Operations on a field -/

theorem State.fld_addSatF_same (s : State) (k hi lo n : Nat) (h : lo ≤ hi) (h32 : hi < 32) :
    (s.addSatF k hi lo n).fld k hi lo = min (2 ^ (hi + 1 - lo) - 1) (s.fld k hi lo + n) := by
  rw [State.addSatF, State.fld_setF_same _ _ _ _ _ h h32, Nat.mod_eq_of_lt]
  have := Nat.two_pow_pos (hi + 1 - lo)
  omega
theorem State.fld_of_rd {s t : State} {k : Nat} (h : t.rd k = s.rd k) (hi lo : Nat) : t.fld k hi lo = s.fld k hi lo := by
  unfold State.fld; rw [h]
theorem State.bit_of_rd {s t : State} {k : Nat} (h : t.rd k = s.rd k) (i : Nat) : t.bit k i = s.bit k i := by
  unfold State.bit; rw [h]
theorem State.fld_of_bits {s t : State} {k : Nat} (h : ∀ i, i < 32 → t.bit k i = s.bit k i) {hi lo : Nat} (hhi : hi < 32) :
    t.fld k hi lo = s.fld k hi lo := by
  unfold State.fld
  refine Nat.eq_of_testBit_eq fun i => ?_
  rw [testBit_bitsOf, testBit_bitsOf]
  by_cases hw : i < hi + 1 - lo
  · rw [State.testBit_rd, State.testBit_rd, h _ (by omega)]
  · rw [decide_eq_false hw, Bool.false_and, Bool.false_and]

theorem ChangesOnly.addSatF {l : List Nat} {ps : List Part} {s t : State} (h : ChangesOnly l ps s t) {k : Nat} (hi lo n : Nat) (hk : k ∈ l)
    (hw : k ≠ R.WDN_STATUS) : ChangesOnly l ps s (t.addSatF k hi lo n) := h.setF _ _ _ hk hw
theorem ChangesOnly.rd_other {l : List Nat} {ps : List Part} {s t : State} (h : ChangesOnly l ps s t) {k : Nat} (hk : k ∉ l) : t.rd k = s.rd k :=
  h.1 k hk

/-! ### Where the registers of a vector lie -/

/-- The registers of a vector lie in the ICU block or in a VI page. -/
theorem vecCfg_region (v : Vec) : (0x412000 ≤ vecCfg v ∧ vecCfg v ≤ 0x412FF0 ∨ 0x8000400 ≤ vecCfg v) ∧ vecCfg v % 16 = 0 := by
  cases v with
  | pf0 v => have := v.isLt; simp only [vecCfg, R.ICU_VEC_CFG]; omega
  | vi n v => simp only [vecCfg, R.VI_VEC_CFG]; omega
theorem vecMsix_region (v : Vec) : (0x410000 ≤ vecMsix v ∧ vecMsix v ≤ 0x410FF0 ∨
    0x8000000 ≤ vecMsix v ∧ 0x800 ≤ vecMsix v % 0x1000) ∧ vecMsix v % 16 = 0 := by
  cases v with
  | pf0 v => have := v.isLt; simp only [vecMsix, R.ICU_MSIX_ADDR_LO]; omega
  | vi n v => have := v.isLt; simp only [vecMsix, R.VI_MSIX_ADDR_LO]; omega
theorem vecCfg_ne_of_lt (v : Vec) (c : Nat) {k : Nat} (h : k < 0x412000) : vecCfg v + c ≠ k := by
  have := vecCfg_region v; omega
theorem vecCfg_ne_virVi (v : Vec) {c : Nat} (hc : c < 16) (n : Fin 4096) : vecCfg v + c ≠ R.VIR_VI n := by
  have := vecCfg_region v; have := n.isLt; unfold R.VIR_VI; omega

/-- The registers that follow other state below the ICU's vectors and above. -/
theorem settleKey_apart {k : Nat} (h : 0x400410 ≤ k) (h' : k < 0x500000) : settleKey k = pendKey k := by
  have hfar : ∀ j ∈ [R.WDN_STATUS, R.WDN_BREACH, R.WDN_EVENTS, R.WDN_MATE_STATUS, R.RTC_STATUS, R.TMU_STATUS, R.VIR_STATUS, R.EVT_STATUS,
      R.SEP_STATUS, R.CFG_STATUS, R.EVT_LOST, R.EVT_EVENTS, R.ICU_SRC_LEVEL 0, R.ICU_SRC_LEVEL 1, R.ICU_SRC_LEVEL 2],
      j < 0x400410 ∨ 0x500000 ≤ j := by decide
  rw [settleKey, Bool.or_eq_right_iff_imp.2 fun hc => ?_]
  have := hfar k (List.contains_iff_mem.1 hc)
  omega
theorem pendKey_icu {k : Nat} (h : k < 0x8000000) : pendKey k = (decide (0x412000 ≤ k) && decide (k < 0x413000) && k % 16 == 12) := by
  rw [pendKey, decide_eq_false (show ¬0x8000000 ≤ k by omega), Bool.false_and, Bool.or_false]
/-- Of the registers of a vector its state alone follows other state. -/
theorem vecCfg_steady (v : Vec) {c : Nat} (hc : c < 12) : settleKey (vecCfg v + c) = false := by
  obtain ⟨h | h, h16⟩ := vecCfg_region v
  · rw [settleKey_apart (by omega) (by omega), pendKey_icu (by omega), Bool.and_eq_false_iff, beq_eq_false_iff_ne]
    exact .inr (by omega)
  · rw [settleKey_viPage (by omega), beq_eq_false_iff_ne]; omega
theorem vecMsix_steady (v : Vec) {c : Nat} (hc : c < 16) : settleKey (vecMsix v + c) = false := by
  obtain ⟨h | h, h16⟩ := vecMsix_region v
  · rw [settleKey_apart (by omega) (by omega), pendKey_icu (by omega), decide_eq_false (show ¬0x412000 ≤ vecMsix v + c by omega)]
    rfl
  · rw [settleKey_viPage (by omega), beq_eq_false_iff_ne]; omega
/-- The state of a vector of a VI that no level feeds follows nothing. -/
theorem viVecState_steady (n : Vi) {v : Fin 64} (h : v.val ≠ 2) : settleKey (R.VI_VEC_CFG n v + 12) = false := by
  have := v.isLt
  rw [settleKey_viPage (by unfold R.VI_VEC_CFG; omega), beq_eq_false_iff_ne]; unfold R.VI_VEC_CFG; omega
/-! ### What the conditions of a vector look at -/

theorem State.vfOf_congr {s t : State} {n : Nat} (h : t.rd (R.VIR_VI n) = s.rd (R.VIR_VI n)) : t.vfOf n = s.vfOf n := by
  unfold State.vfOf; rw [State.fld_of_rd h]
theorem State.vfExists_congr {s t : State} (h : t.host.pcie = s.host.pcie) (k : Nat) : t.vfExists k = s.vfExists k := by
  simp only [HostIf.pcie, Prod.mk.injEq] at h
  unfold State.vfExists; rw [h.1, h.2.2.1]
theorem State.viFn_congr {s t : State} (h : t.host.pcie = s.host.pcie) {n : Nat} (hr : t.rd (R.VIR_VI n) = s.rd (R.VIR_VI n)) :
    t.viFn n = s.viFn n := by
  unfold State.viFn; rw [State.vfOf_congr hr, State.vfExists_congr h]
theorem State.vecFn_congr {s t : State} (h : t.host.pcie = s.host.pcie) (hr : ∀ n : Fin 4096, t.rd (R.VIR_VI n) = s.rd (R.VIR_VI n)) (v : Vec) :
    t.vecFn v = s.vecFn v := by
  cases v with
  | pf0 v => rfl
  | vi n v => exact State.viFn_congr h (hr n)
theorem State.vecLive_congr {s t : State} (h : t.host.pcie = s.host.pcie) (hr : ∀ n : Fin 4096, t.rd (R.VIR_VI n) = s.rd (R.VIR_VI n)) (v : Vec) :
    t.vecLive v = s.vecLive v := by
  have hen : t.host.msixEn = s.host.msixEn := by
    simp only [HostIf.pcie, Prod.mk.injEq] at h; exact h.2.2.2.1
  unfold State.vecLive
  rw [State.vecFn_congr h hr, hen]
  cases v with
  | pf0 v => rfl
  | vi n v => dsimp only; rw [State.vfOf_congr (hr n), State.vfExists_congr h]

/-! ### An event of a vector (R111, R115) -/

/-- The event counted: in VEC_COUNT, and in ACC. -/
def State.vecCount (s : State) (v : Vec) : State := (s.addSatF (vecCfg v + 4) 15 0 1).addSatF (vecCfg v + 12) 15 8 1

theorem State.vecLive_count (s : State) (v w : Vec) : (s.addSatF (vecCfg v + 4) 15 0 1).vecLive w = s.vecLive w :=
  State.vecLive_congr (s := s) (t := s.addSatF (vecCfg v + 4) 15 0 1) rfl
    (fun n => State.rd_addSatF_other _ _ _ _ (vecCfg_ne_virVi v (c := 4) (by decide) n)) w
theorem State.vecEvent_dead {s : State} {v : Vec} (h : s.vecLive v = false) : s.vecEvent v = s.addSatF (vecCfg v + 4) 15 0 1 := by
  unfold State.vecEvent
  dsimp only
  rw [State.vecLive_count, h]
  rfl
theorem State.vecCount_changes (s : State) (v : Vec) : ChangesOnly [vecCfg v + 4, vecCfg v + 12] [] s (s.vecCount v) :=
  ((ChangesOnly.refl _ _ s).addSatF _ _ _ List.mem_cons_self (vecCfg_ne_of_lt v 4 (by decide))).addSatF _ _ _
    (List.mem_cons_of_mem _ List.mem_cons_self) (vecCfg_ne_of_lt v 12 (by decide))
theorem State.vecCount_count (s : State) (v : Vec) : (s.vecCount v).fld (vecCfg v + 4) 15 0 = min 65535 (s.fld (vecCfg v + 4) 15 0 + 1) := by
  rw [State.vecCount, State.fld_of_rd (State.rd_addSatF_other _ _ _ _ (by omega)), State.fld_addSatF_same _ _ _ _ _ (by decide) (by decide)]
  rfl
theorem State.vecCount_acc (s : State) (v : Vec) : (s.vecCount v).fld (vecCfg v + 12) 15 8 = min 255 (s.fld (vecCfg v + 12) 15 8 + 1) := by
  rw [State.vecCount, State.fld_addSatF_same _ _ _ _ _ (by decide) (by decide), State.fld_of_rd (State.rd_addSatF_other _ _ _ _ (by omega))]
  rfl
theorem State.vecEvent_live {s : State} {v : Vec} (h : s.vecLive v = true) : s.vecEvent v =
    if (s.vecCount v).vecIsLevel v then (s.vecCount v).levelPend v else
      let u := s.vecCount v
      let acc := u.fld (vecCfg v + 12) 15 8
      let cnt := u.fld (vecCfg v) 15 8
      let tim := u.fld (vecCfg v) 31 16
      let need := if cnt = 0 ∧ tim = 0 then 1 else cnt
      let u := if need ≠ 0 ∧ need ≤ acc then u.setB (vecCfg v + 12) 0 true else u
      if tim ≠ 0 && !u.bit (vecCfg v + 12) 0 && !u.host.coal.contains v then
        { u with host := { u.host with coal := v :: u.host.coal } } else u := by
  unfold State.vecEvent
  dsimp only
  rw [State.vecLive_count, h]
  rfl
/-- An event of a vector that no level feeds, without coalescing: it becomes pending. -/
theorem State.vecEvent_edge {s : State} {n : Vi} {v : Fin 64} (hv : v.val ≠ 2) (h : s.vecLive (.vi n v) = true)
    (hc : s.fld (R.VI_VEC_CFG n v) 15 8 = 0) (ht : s.fld (R.VI_VEC_CFG n v) 31 16 = 0) :
    s.vecEvent (.vi n v) = (s.vecCount (.vi n v)).setB (R.VI_VEC_CFG n v + 12) 0 true := by
  have hk : (s.vecCount (.vi n v)).rd (R.VI_VEC_CFG n v) = s.rd (R.VI_VEC_CFG n v) :=
    (s.vecCount_changes (.vi n v)).rd_other (by simp only [vecCfg, List.mem_cons, List.not_mem_nil, or_false]; omega)
  have hlev : (s.vecCount (.vi n v)).vecIsLevel (.vi n v) = false := beq_eq_false_iff_ne.2 hv
  have hacc : 1 ≤ (s.vecCount (.vi n v)).fld (R.VI_VEC_CFG n v + 12) 15 8 := by
    have := s.vecCount_acc (.vi n v)
    simp only [vecCfg] at this
    omega
  rw [State.vecEvent_live h, hlev]
  simp only [vecCfg, State.fld_of_rd hk, hc, ht]
  rw [if_neg Bool.false_ne_true]
  simp [hacc]
/-- An event of vector 2 of a VI: it is pending as its level says. -/
theorem State.vecEvent_level {s : State} {n : Vi} (h : s.vecLive (.vi n 2) = true) :
    s.vecEvent (.vi n 2) = (s.vecCount (.vi n 2)).levelPend (.vi n 2) :=
  (State.vecEvent_live h).trans (if_pos rfl)

/-! ### Vector 2 of a VI at the end of a command (R111) -/

/-- The registers that settling writes before the vectors. -/
def guardKeys : List Nat := [R.WDN_STATUS, R.WDN_BREACH, R.WDN_EVENTS, R.EVT_LOST, R.EVT_EVENTS, R.WDN_MATE_STATUS, R.RTC_STATUS]

theorem State.rd_guarded_autoSync (s : State) {k : Nat} (h : k ∉ guardKeys) : s.guarded.autoSync.rd k = s.rd k := by
  simp only [guardKeys, List.mem_cons, List.not_mem_nil, or_false, not_or] at h
  obtain ⟨hs, hb, he, hl, hv, hm, hr⟩ := h
  rw [State.rd_autoSync _ (Ne.symm hr), State.guarded, State.rd_mateHold _ (Ne.symm hm) (Ne.symm he),
    State.rd_breachHold _ (Ne.symm hb) (Ne.symm hs) (Ne.symm he) (Ne.symm hl) (Ne.symm hv), State.rd_syncHold _ (Ne.symm hs)]
theorem not_guard_of_viPage {k : Nat} (h : 0x8000000 ≤ k) : k ∉ guardKeys := by
  have hlow : ∀ j ∈ guardKeys, j < 0x8000000 := by decide
  exact fun hk => absurd (hlow k hk) (by omega)
theorem not_guard_virVi (n : Fin 4096) : R.VIR_VI n ∉ guardKeys := by
  have hfar : ∀ j ∈ guardKeys, j < 0x510000 ∨ 0x514000 ≤ j := by decide
  intro hk
  have := hfar _ hk
  have := n.isLt
  unfold R.VIR_VI at *
  omega

/-- The state of vector 2 of VI `n` as its level has it (R111). -/
def State.levelled (s : State) (n : Vi) : Prop :=
  s.bit (vecCfg (.vi n 2) + 12) 0 = (s.vecLive (.vi n 2) && s.vecLevel (.vi n 2) && !s.bit (vecCfg (.vi n 2) + 12) 1)

theorem State.levelPend_levelled (s : State) (n : Vi) (hlive : (s.levelPend (.vi n 2)).vecLive (.vi n 2) = s.vecLive (.vi n 2))
    (hlev : (s.levelPend (.vi n 2)).vecLevel (.vi n 2) = s.vecLevel (.vi n 2)) : (s.levelPend (.vi n 2)).levelled n := by
  unfold State.levelled
  rw [hlive, hlev, State.levelPend, State.bit_setB_same _ _ _ _ (by decide), State.bit_setB_apart _ _ _ (by decide) (by decide)]

/-- From `s` to `t` only states of vectors have changed. -/
def PendOnly (s t : State) : Prop := t.host = s.host ∧ ∀ k, pendKey k = false → t.rd k = s.rd k

theorem pendKey_virVi (n : Fin 4096) : pendKey (R.VIR_VI n) = false := by
  rw [pendKey_icu (by have := n.isLt; unfold R.VIR_VI; omega), decide_eq_false (show ¬R.VIR_VI n < 0x413000 by unfold R.VIR_VI; omega),
    Bool.and_false, Bool.false_and]
theorem pendKey_viPage {k : Nat} (h : 0x8000000 ≤ k) : pendKey k = (k % 0x1000 == 0x42C) := by
  rw [pendKey, decide_eq_false (show ¬k < 0x413000 by omega), decide_eq_true h, Bool.and_false, Bool.false_and, Bool.false_or, Bool.true_and]
theorem PendOnly.vecLive {s t : State} (h : PendOnly s t) (v : Vec) : t.vecLive v = s.vecLive v :=
  State.vecLive_congr (congrArg HostIf.pcie h.1) (fun n => h.2 _ (pendKey_virVi n)) v
theorem State.vecLevel_vi_congr {s t : State} {n : Vi} {v : Fin 64} (he : t.rd (R.VI_EVENTS n) = s.rd (R.VI_EVENTS n))
    (hn : t.rd (R.VI_EVENT_EN n) = s.rd (R.VI_EVENT_EN n)) : t.vecLevel (.vi n v) = s.vecLevel (.vi n v) := by
  unfold State.vecLevel; dsimp only; rw [he, hn]
theorem PendOnly.vecLevel {s t : State} (h : PendOnly s t) (n : Vi) : t.vecLevel (.vi n 2) = s.vecLevel (.vi n 2) := by
  refine State.vecLevel_vi_congr (h.2 _ ?_) (h.2 _ ?_)
  · rw [pendKey_viPage (viEvents_ge n), beq_eq_false_iff_ne]; unfold R.VI_EVENTS; omega
  · rw [pendKey_viPage (by unfold R.VI_EVENT_EN; omega), beq_eq_false_iff_ne]; unfold R.VI_EVENT_EN; omega

/-- A vector that `pendLevels` visits keeps its state in a register that follows other state. -/
theorem pendKey_pf0 (v : Fin 256) : pendKey (vecCfg (.pf0 v) + 12) = true := by
  have := v.isLt
  have hk : 0x412000 ≤ vecCfg (.pf0 v) + 12 ∧ vecCfg (.pf0 v) + 12 < 0x413000 ∧ (vecCfg (.pf0 v) + 12) % 16 = 12 := by
    simp only [vecCfg, R.ICU_VEC_CFG]; omega
  rw [pendKey_icu (by omega), decide_eq_true hk.1, decide_eq_true hk.2.1, beq_iff_eq.2 hk.2.2]
  rfl
theorem pendKey_vi2 (n : Vi) : pendKey (vecCfg (.vi n 2) + 12) = true := by
  rw [pendKey_viPage (by simp only [vecCfg, R.VI_VEC_CFG]; omega), beq_iff_eq]
  simp only [vecCfg, R.VI_VEC_CFG]
  omega

/-- Bits of the state of vector 2 of VI `n` that the settling of any vector keeps, once it is as its level has it. -/
theorem State.levelPend_keeps {s u : State} {n : Vi} (hl : s.levelled n) (hp : PendOnly s u)
    (hb : ∀ i, i < 32 → u.bit (vecCfg (.vi n 2) + 12) i = s.bit (vecCfg (.vi n 2) + 12) i) {v : Vec} (hv : pendKey (vecCfg v + 12) = true)
    (hinj : vecCfg v + 12 = vecCfg (.vi n 2) + 12 → v = .vi n 2) :
    PendOnly s (u.levelPend v) ∧ ∀ i, i < 32 → (u.levelPend v).bit (vecCfg (.vi n 2) + 12) i = s.bit (vecCfg (.vi n 2) + 12) i := by
  refine ⟨⟨hp.1, fun k hk => ?_⟩, fun i hi => ?_⟩
  · rw [State.rd_levelPend _ _ (fun e => by rw [← e, hv] at hk; exact Bool.noConfusion hk), hp.2 k hk]
  · by_cases e : vecCfg v + 12 = vecCfg (.vi n 2) + 12
    · rw [hinj e, State.levelPend, State.bit_setB _ _ _ _ hi]
      split
      · next h0 => rw [← h0, hl, hp.vecLive, hp.vecLevel, hb 1 (by decide)]
      · exact hb i hi
    · rw [State.bit_of_rd (State.rd_levelPend _ _ e), hb i hi]

theorem vecCfg_vi2_inj {n m : Vi} (h : vecCfg (.vi m 2) + 12 = vecCfg (.vi n 2) + 12) : (Vec.vi m 2) = .vi n 2 := by
  have hm : m = n := Fin.ext (by simp only [vecCfg, R.VI_VEC_CFG] at h; omega)
  rw [hm]
theorem vecCfg_pf0_ne_vi (v : Fin 256) (n : Vi) : vecCfg (.pf0 v) + 12 ≠ vecCfg (.vi n 2) + 12 := by
  have := v.isLt
  simp only [vecCfg, R.VI_VEC_CFG, R.ICU_VEC_CFG]
  omega

theorem State.pendLevels_keeps {s : State} {n : Vi} (hl : s.levelled n) :
    ∀ i, i < 32 → s.pendLevels.bit (vecCfg (.vi n 2) + 12) i = s.bit (vecCfg (.vi n 2) + 12) i := by
  have hinv := List.foldlRecOn (motive := fun u => PendOnly s u ∧ ∀ i, i < 32 → u.bit (vecCfg (.vi n 2) + 12) i = s.bit (vecCfg (.vi n 2) + 12) i)
    s.routedVecs (fun (s : State) v => s.levelPend (.pf0 v)) ⟨⟨rfl, fun _ _ => rfl⟩, fun _ _ => rfl⟩
    (fun u hu v _ => State.levelPend_keeps hl hu.1 hu.2 (pendKey_pf0 v) fun e => absurd e (vecCfg_pf0_ne_vi v n))
  exact (List.foldlRecOn (motive := fun u => PendOnly s u ∧ ∀ i, i < 32 → u.bit (vecCfg (.vi n 2) + 12) i = s.bit (vecCfg (.vi n 2) + 12) i)
    _ (fun (s : State) (m : Fin 4096) => s.levelPend (.vi m 2)) hinv
    (fun u hu m _ => State.levelPend_keeps hl hu.1 hu.2 (pendKey_vi2 m) fun e => vecCfg_vi2_inj e)).2

/-- A vector state that is as its level has it, is so at the end of the command. -/
theorem State.ended_levelled (s0 : State) {s : State} {n : Vi} (hl : s.levelled n) :
    ∀ i, i < 32 → (s0.ended s).bit (vecCfg (.vi n 2) + 12) i = s.bit (vecCfg (.vi n 2) + 12) i := by
  have hpage : 0x8000000 ≤ vecCfg (.vi n 2) + 12 := by simp only [vecCfg, R.VI_VEC_CFG]; omega
  have hguard : ∀ k, k ∉ guardKeys → s.guarded.autoSync.rd k = s.rd k := fun k hk => s.rd_guarded_autoSync hk
  have hlive : s.guarded.autoSync.vecLive (.vi n 2) = s.vecLive (.vi n 2) :=
    State.vecLive_congr (by simp [State.guarded]) (fun m => hguard _ (not_guard_virVi m)) _
  have hlev : s.guarded.autoSync.vecLevel (.vi n 2) = s.vecLevel (.vi n 2) :=
    State.vecLevel_vi_congr (hguard _ (not_guard_of_viPage (viEvents_ge n)))
      (hguard _ (not_guard_of_viPage (by unfold R.VI_EVENT_EN; omega)))
  have hbits : ∀ i, s.guarded.autoSync.bit (vecCfg (.vi n 2) + 12) i = s.bit (vecCfg (.vi n 2) + 12) i := fun i =>
    State.bit_of_rd (hguard _ (not_guard_of_viPage hpage)) i
  have hl' : s.guarded.autoSync.levelled n := by
    unfold State.levelled; rw [hbits, hbits, hlive, hlev]; exact hl
  intro i hi
  rw [s0.ended_bit_settle, s.settle_bit_pended (not_level_of_le (by omega)) (not_mirror_of_sep (by omega)), State.pended,
    State.pendLevels_keeps hl' i hi, hbits]


end Sys2Proof.Machine
end

section
/-! SUPPORT. Configuration space (R99, R113), the commands of the interrupt vectors (R110 to R115), and the budgets of the polders (R93). -/
namespace Sys2Proof.Machine

/-! ### Configuration space (R99, R113) -/

/-- A function put into a list of functions, or taken out of it. -/
theorem contains_toggle (l : List Nat) (f : Nat) (b : Bool) (j : Nat) :
    (if b then f :: l.filter (· != f) else l.filter (· != f)).contains j = if j = f then b else l.contains j := by
  by_cases e : j = f
  · subst e; cases b <;> simp
  · cases b <;> simp [e]

section
variable {s : State}

theorem answers_sriov (ari en : Bool) : Answers (.pcieConfigWrite (.sriov ari en)) s (fun t =>
    t.host = (if en && !ari then s.host else { s.host with ari := ari, vfEnable := en }) ∧ Only (fun _ => false) [.host] s t) := by
  refine answers_of_finish rfl ⟨?_, ChangesOnly.only (l := []) ?_ fun _ hk => nomatch hk⟩
  · rw [s.ended_host, State.cfgSpace]; split <;> rfl
  · rw [State.cfgSpace]
    split
    · exact ChangesOnly.refl _ _ s
    · exact (ChangesOnly.refl _ _ s).with_host _ List.mem_cons_self
theorem answers_numVfs (n : Fin 1025) : Answers (.pcieConfigWrite (.numVfs n)) s (fun t =>
    t.host = { s.host with numVfs := n.val } ∧ Only (fun _ => false) [.host] s t) :=
  answers_of_finish rfl ⟨s.ended_host _, ChangesOnly.only (l := []) ((ChangesOnly.refl _ _ s).with_host _ List.mem_cons_self) fun _ hk => nomatch hk⟩
theorem answers_powerState (f : Vf) (d3 : Bool) : Answers (.pcieConfigWrite (.power f d3)) s (fun t =>
    t.host.d3.contains f.val = d3 ∧ (∀ j, j ≠ f.val → t.host.d3.contains j = s.host.d3.contains j) ∧ Only (fun _ => false) [.host] s t) := by
  refine answers_of_finish rfl ⟨?_, fun j hj => ?_,
    ChangesOnly.only (l := []) ((ChangesOnly.refl _ _ s).with_host _ List.mem_cons_self) fun _ hk => nomatch hk⟩ <;> rw [s.ended_host]
  · exact (contains_toggle _ _ _ _).trans (if_pos rfl)
  · exact (contains_toggle _ _ _ _).trans (if_neg hj)

/-- MSI-X Enable and the function mask of a function set, before a message that they come too late for is marked. -/
def State.setMsix (s : State) (f : Nat) (en mask : Bool) : State :=
  { s with host := { s.host with
      msixEn := if en then f :: s.host.msixEn.filter (· != f) else s.host.msixEn.filter (· != f)
      fnMask := if mask then f :: s.host.fnMask.filter (· != f) else s.host.fnMask.filter (· != f) } }
theorem State.cfgSpace_msix (f : Vf) (en mask same : Bool) : s.cfgSpace (.msix f en mask same) =
    match (if mask && same then s.host.lastPick.lookup (lastSent f.val) else none) with
    | some i => (s.setMsix f.val en mask).maskLate (numVec i)
    | none => s.setMsix f.val en mask := by
  have h : s.cfgSpace (.msix f en mask same) = if mask && same then (match s.host.lastPick.lookup (lastSent f.val) with
      | some i => (s.setMsix f.val en mask).maskLate (numVec i)
      | none => s.setMsix f.val en mask) else s.setMsix f.val en mask := rfl
  rw [h]
  cases mask && same <;> rfl

theorem State.maskLate_eq (s : State) (v : Vec) : s.maskLate v = s.setB (lateKey v).1 (lateKey v).2 true := by cases v <;> rfl
theorem lateKey_bit_lt (v : Vec) : (lateKey v).2 < 32 := by cases v <;> (dsimp only [lateKey]; decide)
theorem lateKey_steady (v : Vec) : settleKey (lateKey v).1 = false := by
  cases v with
  | pf0 v => dsimp only [lateKey]; decide
  | vi n v => exact viStatus_steady n
theorem lateKey_ne_wdn (v : Vec) : (lateKey v).1 ≠ R.WDN_STATUS := by
  cases v with
  | pf0 v => dsimp only [lateKey]; decide
  | vi n v => exact viPage_ne (viStatus_ge n) (by decide)
theorem State.maskLate_host (s : State) (v : Vec) : (s.maskLate v).host = s.host := by rw [State.maskLate_eq, State.setB_host]
theorem ChangesOnly.maskLate {l : List Nat} {ps : List Part} {t : State} (h : ChangesOnly l ps s t) {v : Vec} (hv : (lateKey v).1 ∈ l) :
    ChangesOnly l ps s (t.maskLate v) := by
  rw [State.maskLate_eq]; exact h.setB _ _ hv (lateKey_ne_wdn v)
theorem State.ended_maskLate (s0 s : State) (v : Vec) : (s0.ended (s.maskLate v)).bit (lateKey v).1 (lateKey v).2 = true := by
  rw [s0.ended_bit _ (lateKey_steady v), State.maskLate_eq, State.bit_setB_same _ _ _ _ (lateKey_bit_lt v)]

theorem State.cfgSpace_msix_host (f : Vf) (en mask same : Bool) :
    (s.cfgSpace (.msix f en mask same)).host = (s.setMsix f.val en mask).host := by
  rw [State.cfgSpace_msix]
  split
  · exact State.maskLate_host _ _
  · rfl
theorem answers_msix (f : Vf) (en mask same : Bool) : Answers (.pcieConfigWrite (.msix f en mask same)) s (fun t =>
    t.host.msixEn.contains f.val = en ∧ t.host.fnMask.contains f.val = mask ∧
    (∀ j, j ≠ f.val → t.host.msixEn.contains j = s.host.msixEn.contains j ∧ t.host.fnMask.contains j = s.host.fnMask.contains j) ∧
    match (if mask && same then s.host.lastPick.lookup (lastSent f.val) else none) with
    | some i => t.bit (lateKey (numVec i)).1 (lateKey (numVec i)).2 = true ∧ Only (among [(lateKey (numVec i)).1]) [.host] s t
    | none => Only (fun _ => false) [.host] s t) := by
  refine answers_of_finish rfl ⟨?_, ?_, fun j hj => ?_, ?_⟩
  · rw [s.ended_host, State.cfgSpace_msix_host]; exact (contains_toggle _ _ _ _).trans (if_pos rfl)
  · rw [s.ended_host, State.cfgSpace_msix_host]; exact (contains_toggle _ _ _ _).trans (if_pos rfl)
  · rw [s.ended_host, State.cfgSpace_msix_host]
    exact ⟨(contains_toggle _ _ _ _).trans (if_neg hj), (contains_toggle _ _ _ _).trans (if_neg hj)⟩
  · rw [State.cfgSpace_msix]
    have hset : ∀ l, ChangesOnly l [.host] s (s.setMsix f.val en mask) := fun l => (ChangesOnly.refl _ _ s).with_host _ List.mem_cons_self
    cases (if mask && same then s.host.lastPick.lookup (lastSent f.val) else none) with
    | none => exact (hset []).only fun _ hk => nomatch hk
    | some i => exact ⟨s.ended_maskLate _ _, ((hset _).maskLate List.mem_cons_self).only_among⟩

/-! ### Events of vectors (R111, R115) -/

theorem answers_vectorEvent_edge {n : Vi} {v : Fin 64} (hv : v.val ≠ 2) (h : s.vecLive (.vi n v) = true)
    (hc : s.fld (R.VI_VEC_CFG n v) 15 8 = 0) (ht : s.fld (R.VI_VEC_CFG n v) 31 16 = 0) : Answers (.vectorEvent (.vi n v)) s (fun t =>
      t.bit (R.VI_VEC_CFG n v + 12) 0 = true ∧
      t.fld (R.VI_VEC_CFG n v + 4) 15 0 = min 65535 (s.fld (R.VI_VEC_CFG n v + 4) 15 0 + 1) ∧
      t.fld (R.VI_VEC_CFG n v + 12) 15 8 = min 255 (s.fld (R.VI_VEC_CFG n v + 12) 15 8 + 1) ∧
      Only (among [R.VI_VEC_CFG n v + 4, R.VI_VEC_CFG n v + 12]) [] s t) := by
  have hx : exec (.vectorEvent (.vi n v)) s = finish s ((s.vecCount (.vi n v)).setB (R.VI_VEC_CFG n v + 12) 0 true) :=
    congrArg (finish s) (State.vecEvent_edge hv h hc ht)
  refine answers_of_finish hx ⟨?_, ?_, ?_, ?_⟩
  · rw [s.ended_bit _ (viVecState_steady n hv), State.bit_setB_same _ _ _ _ (by decide)]
  · refine (s.ended_fld _ (vecCfg_steady (.vi n v) (c := 4) (by decide)) _ _).trans ?_
    rw [State.setB, State.fld_setF_other _ _ _ _ _ _ (by simp only [vecCfg]; omega)]
    exact s.vecCount_count (.vi n v)
  · rw [s.ended_fld _ (viVecState_steady n hv), State.setB, State.fld_setF_apart _ _ _ _ _ _ _ (by decide) (by decide) (by decide)]
    exact s.vecCount_acc (.vi n v)
  · exact ((s.vecCount_changes (.vi n v)).setB _ _ (List.mem_cons_of_mem _ List.mem_cons_self)
      (vecCfg_ne_of_lt (.vi n v) 12 (by decide))).only_among
theorem answers_vectorEvent_dead {v : Vec} (h : s.vecLive v = false) : Answers (.vectorEvent v) s (fun t =>
    t.fld (vecCfg v + 4) 15 0 = min 65535 (s.fld (vecCfg v + 4) 15 0 + 1) ∧ Only (among [vecCfg v + 4]) [] s t) := by
  have hx : exec (.vectorEvent v) s = finish s (s.addSatF (vecCfg v + 4) 15 0 1) := congrArg (finish s) (State.vecEvent_dead h)
  refine answers_of_finish hx ⟨?_, ?_⟩
  · rw [s.ended_fld _ (vecCfg_steady v (by decide)), State.fld_addSatF_same _ _ _ _ _ (by decide) (by decide)]; rfl
  · exact ((ChangesOnly.refl _ _ s).addSatF _ _ _ List.mem_cons_self (vecCfg_ne_of_lt v 4 (by decide))).only_among

/-- The conditions of vector 2 do not look at its own counts and state. -/
theorem vecState_apart {n : Vi} {k : Nat} (h : k % 0x1000 < 0x400) :
    k ∉ [vecCfg (.vi n 2) + 4, vecCfg (.vi n 2) + 12] := by
  simp only [vecCfg, R.VI_VEC_CFG, List.mem_cons, List.not_mem_nil, or_false]
  have : ((2 : Fin 64) : Nat) = 2 := rfl
  omega
theorem virVi_apart (n : Vi) (m : Fin 4096) : R.VIR_VI m ∉ [vecCfg (.vi n 2) + 4, vecCfg (.vi n 2) + 12] := by
  simp only [List.mem_cons, List.not_mem_nil, or_false, not_or]
  exact ⟨(vecCfg_ne_virVi _ (by decide) m).symm, (vecCfg_ne_virVi _ (by decide) m).symm⟩
theorem vecState_changes_live {n : Vi} {t : State} (h : ChangesOnly [vecCfg (.vi n 2) + 4, vecCfg (.vi n 2) + 12] [] s t) :
    t.vecLive (.vi n 2) = s.vecLive (.vi n 2) :=
  State.vecLive_congr (congrArg HostIf.pcie (h.2 .host List.not_mem_nil)) (fun m => h.rd_other (virVi_apart n m)) _
theorem vecState_changes_level {n : Vi} {t : State} (h : ChangesOnly [vecCfg (.vi n 2) + 4, vecCfg (.vi n 2) + 12] [] s t) :
    t.vecLevel (.vi n 2) = s.vecLevel (.vi n 2) :=
  State.vecLevel_vi_congr (h.rd_other (vecState_apart (by unfold R.VI_EVENTS; omega)))
    (h.rd_other (vecState_apart (by unfold R.VI_EVENT_EN; omega)))
theorem ChangesOnly.levelPend {l : List Nat} {ps : List Part} {t : State} (h : ChangesOnly l ps s t) {v : Vec} (hv : vecCfg v + 12 ∈ l) :
    ChangesOnly l ps s (t.levelPend v) := h.setB _ _ hv (vecCfg_ne_of_lt v 12 (by decide))

theorem answers_vectorEvent_level {n : Vi} (h : s.vecLive (.vi n 2) = true) : Answers (.vectorEvent (.vi n 2)) s (fun t =>
      t.fld (R.VI_VEC_CFG n 2 + 4) 15 0 = min 65535 (s.fld (R.VI_VEC_CFG n 2 + 4) 15 0 + 1) ∧
      t.fld (R.VI_VEC_CFG n 2 + 12) 15 8 = min 255 (s.fld (R.VI_VEC_CFG n 2 + 12) 15 8 + 1) ∧
      t.bit (R.VI_VEC_CFG n 2 + 12) 0 = (s.vecLevel (.vi n 2) && !s.bit (R.VI_VEC_CFG n 2 + 12) 1) ∧
      Only (among [R.VI_VEC_CFG n 2 + 4]) [] s t) := by
  have hx : exec (.vectorEvent (.vi n 2)) s = finish s ((s.vecCount (.vi n 2)).levelPend (.vi n 2)) :=
    congrArg (finish s) (State.vecEvent_level h)
  have hcount := s.vecCount_changes (.vi n 2)
  have hchg := hcount.levelPend (v := .vi n 2) (List.mem_cons_of_mem _ List.mem_cons_self)
  have hlev : ((s.vecCount (.vi n 2)).levelPend (.vi n 2)).levelled n :=
    State.levelPend_levelled _ n ((vecState_changes_live hchg).trans (vecState_changes_live hcount).symm)
      ((vecState_changes_level hchg).trans (vecState_changes_level hcount).symm)
  have hbits := s.ended_levelled hlev
  refine answers_of_finish hx ⟨?_, ?_, ?_, ?_⟩
  · refine (s.ended_fld _ (vecCfg_steady (.vi n 2) (c := 4) (by decide)) _ _).trans ?_
    rw [State.levelPend, State.setB, State.fld_setF_other _ _ _ _ _ _ (by omega)]
    exact s.vecCount_count (.vi n 2)
  · refine (State.fld_of_bits hbits (by decide)).trans ?_
    rw [State.levelPend, State.setB, State.fld_setF_apart _ _ _ _ _ _ _ (by decide) (by decide) (by decide)]
    exact s.vecCount_acc (.vi n 2)
  · have hacc : (s.vecCount (.vi n 2)).bit (vecCfg (.vi n 2) + 12) 1 = s.bit (vecCfg (.vi n 2) + 12) 1 := by
      rw [State.vecCount, State.addSatF, State.bit_setF_apart _ _ _ _ _ (by decide) (by decide) (by decide),
        State.bit_of_rd (State.rd_addSatF_other _ _ _ _ (by omega))]
    refine (hbits 0 (by decide)).trans ?_
    rw [State.levelPend, State.bit_setB_same _ _ _ _ (by decide), hacc, vecState_changes_live hcount, vecState_changes_level hcount, h, Bool.true_and]
    rfl
  · refine hchg.only fun k hk => ?_
    rw [among]
    rcases List.mem_cons.1 hk with rfl | hk
    · exact Bool.or_eq_true_iff.2 (.inl (List.contains_iff_mem.2 List.mem_cons_self))
    · rw [List.mem_singleton.1 hk, settleKey, pendKey_vi2, Bool.or_true, Bool.or_true]

theorem answers_coalTimeout {n : Vi} {v : Fin 64} (hv : v.val ≠ 2) (h : s.vecLive (.vi n v) = true) (hc : s.host.coal.contains (.vi n v) = true)
    (ha : s.fld (R.VI_VEC_CFG n v + 12) 15 8 ≠ 0) : Answers (.coalTimeout (.vi n v)) s (fun t =>
      t.bit (R.VI_VEC_CFG n v + 12) 0 = true ∧ t.host.coal = s.host.coal.filter (· != .vi n v) ∧
      Only (among [R.VI_VEC_CFG n v + 12]) [.host] s t) := by
  obtain ⟨x, hcoal, hp, hx⟩ : ∃ x : HostIf, x.coal = s.host.coal.filter (· != .vi n v) ∧ x.pcie = s.host.pcie ∧
      exec (.coalTimeout (.vi n v)) s = finish s (s.onIf (s.host.coal.contains (.vi n v)) fun s => ({ s with host := x } : State).onIf
        (({ s with host := x } : State).vecLive (.vi n v) && ({ s with host := x } : State).fld (R.VI_VEC_CFG n v + 12) 15 8 != 0) fun s =>
          s.setB (R.VI_VEC_CFG n v + 12) 0 true) := by
    refine ⟨{ s.host with coal := s.host.coal.filter (· != .vi n v) }, rfl, rfl, ?_⟩
    show finish s (s.onIf _ _) = _
    rw [hc]
    rfl
  have hlive : ({ s with host := x } : State).vecLive (.vi n v) = true :=
    (State.vecLive_congr (s := s) (t := { s with host := x }) hp (fun _ => rfl) _).trans h
  have hacc : (({ s with host := x } : State).fld (R.VI_VEC_CFG n v + 12) 15 8 != 0) = true := bne_iff_ne.2 ha
  rw [hc, State.onIf_true, hlive, hacc] at hx
  refine answers_of_finish hx ⟨?_, ?_, ?_⟩
  · rw [s.ended_bit _ (viVecState_steady n hv)]; exact State.bit_setB_same _ _ _ _ (by decide)
  · rw [s.ended_host]; exact hcoal
  · exact (((ChangesOnly.refl _ _ s).with_host x List.mem_cons_self).setB _ _ List.mem_cons_self
      (vecCfg_ne_of_lt (.vi n v) 12 (by decide))).only_among

/-! ### Delivery (R110, R112) -/

/-- Taking a token changes at most the tokens (R93). -/
theorem State.irqTake_taken {v : Vec} (h : (s.irqTake v).1 = true) : ∃ tk, (s.irqTake v).2 = { s with host := { s.host with tokens := tk } } := by
  unfold State.irqTake at h ⊢
  split
  · exact ⟨s.host.tokens, rfl⟩
  · next p hp =>
    rw [hp] at h
    dsimp only at h ⊢
    split
    · exact ⟨s.host.tokens, rfl⟩
    · next hr =>
      rw [if_neg hr] at h
      split
      · next ht => rw [if_pos ht] at h; exact Bool.noConfusion h
      · exact ⟨_, rfl⟩

/-- The registers of a delivered vector: pending and ACC cleared, the delivery counted, in service set under EOI_MODE 1. -/
def State.vecClear (s : State) (v : Vec) : State :=
  (((s.setB (vecCfg v + 12) 0 false).setF (vecCfg v + 12) 15 8 0).addWrap R.ICU_DELIVERED 1).onIf
    ((((s.setB (vecCfg v + 12) 0 false).setF (vecCfg v + 12) 15 8 0).addWrap R.ICU_DELIVERED 1).bit (vecCfg v) 3)
    (fun s => s.setB (vecCfg v + 12) 1 true)
theorem State.vecClear_changes (s : State) (v : Vec) : ChangesOnly [vecCfg v + 12, R.ICU_DELIVERED] [] s (s.vecClear v) := by
  have hne : vecCfg v + 12 ≠ R.WDN_STATUS := vecCfg_ne_of_lt v 12 (by decide)
  exact ((((ChangesOnly.refl _ _ s).setB _ _ List.mem_cons_self hne).setF _ _ _ List.mem_cons_self hne).addWrap _
    (List.mem_cons_of_mem _ List.mem_cons_self) (by decide)).onIf _ fun h => h.setB _ _ List.mem_cons_self hne
theorem State.vecClear_delivered (s : State) (v : Vec) : (s.vecClear v).rd R.ICU_DELIVERED = (s.rd R.ICU_DELIVERED + 1) % 4294967296 := by
  have hne : vecCfg v + 12 ≠ R.ICU_DELIVERED := vecCfg_ne_of_lt v 12 (by decide)
  rw [State.vecClear, State.onIf_keep _ _ _ (fun s => s.rd R.ICU_DELIVERED) (by rw [State.rd_setB, if_neg hne]), State.rd_addWrap, if_pos rfl,
    State.rd_setF, if_neg hne, State.rd_setB, if_neg hne]
theorem vecClear_apart {v : Vec} {k : Nat} (h : k ≠ vecCfg v + 12) (h' : k ≠ R.ICU_DELIVERED) : k ∉ [vecCfg v + 12, R.ICU_DELIVERED] :=
  List.not_mem_cons_of_ne_of_not_mem h (List.not_mem_cons_of_ne_of_not_mem h' List.not_mem_nil)
theorem State.vecClear_vecFn (s : State) (v w : Vec) : (s.vecClear v).vecFn w = s.vecFn w :=
  State.vecFn_congr (congrArg HostIf.pcie ((s.vecClear_changes v).2 .host List.not_mem_nil)) (fun n => (s.vecClear_changes v).rd_other
    (vecClear_apart (vecCfg_ne_virVi v (by decide) n).symm (by unfold R.VIR_VI R.ICU_DELIVERED; omega))) w

/-- The message of a vector, as its MSI-X entry has it (Table 04-11). -/
def State.vecMessage (s : State) (v : Vec) : Out :=
  .message (s.vecFn v) (s.rd (vecMsix v) + 4294967296 * s.rd (vecMsix v + 4)) (s.rd (vecMsix v + 8))
theorem State.vecDeliver_eq (s : State) (v : Vec) : s.vecDeliver v =
    let u := (s.emit (s.vecMessage v)).vecClear v
    { u with host := { u.host with
        coal := u.host.coal.filter (· != v)
        lastPick := mapPut (mapPut u.host.lastPick (16 * u.vecFn v + u.fld (vecCfg v) 2 0) (vecNum v)) (lastSent (u.vecFn v)) (vecNum v) } } := rfl

theorem answers_arbitration {f : Vf} {v : Vec}
    (hv : (s.vecsHeld.filter (fun w => s.vecFn w == f.val && s.vecEligible w)).eraseDups = [v]) (ht : (s.irqTake v).1 = true) :
    Answers (.interruptArbitration f) s (fun t =>
      t.out = .message (s.vecFn v) (s.rd (vecMsix v) + 4294967296 * s.rd (vecMsix v + 4)) (s.rd (vecMsix v + 8)) :: s.out ∧
      t.rd R.ICU_DELIVERED = (s.rd R.ICU_DELIVERED + 1) % 4294967296 ∧ mapGet t.host.lastPick (lastSent (s.vecFn v)) 0 = vecNum v ∧
      mapGet t.host.lastPick (16 * s.vecFn v + s.fld (vecCfg v) 2 0) 0 = vecNum v ∧
      t.host.coal = s.host.coal.filter (· != v) ∧ Only (among [vecCfg v + 12, R.ICU_DELIVERED]) [.out, .host] s t) := by
  obtain ⟨tk, htk⟩ := State.irqTake_taken ht
  obtain ⟨u, hu, hfn, hreg, hout⟩ : ∃ u : State, u = (s.irqTake v).2 ∧ u.vecFn v = s.vecFn v ∧ (∀ k, u.rd k = s.rd k) ∧ u.out = s.out :=
    ⟨_, rfl, by rw [htk]; exact State.vecFn_congr (s := s) (t := { s with host := { s.host with tokens := tk } }) rfl (fun _ => rfl) v,
      fun k => by rw [htk]; rfl, by rw [htk]⟩
  have hcoal : u.host.coal = s.host.coal := by rw [hu, htk]
  have hx : exec (.interruptArbitration f) s = finish s (u.vecDeliver v) := by
    show finish s (s.vecTry (List.foldl _ [] _)) = _
    rw [hv]
    show finish s (match s.irqTake v with | (true, s) => s.vecDeliver v | (false, s) => s.vecTry []) = _
    have hpair : s.irqTake v = (true, u) := by rw [hu, ← ht]
    rw [hpair]
  have hchg := (u.emit (u.vecMessage v)).vecClear_changes v
  have hcfg : ((u.emit (u.vecMessage v)).vecClear v).fld (vecCfg v) 2 0 = s.fld (vecCfg v) 2 0 :=
    (State.fld_of_rd (hchg.rd_other (vecClear_apart (by omega) (by have := vecCfg_region v; unfold R.ICU_DELIVERED; omega))) 2 0).trans
      (State.fld_of_rd (hreg _) 2 0)
  have hfn' : ((u.emit (u.vecMessage v)).vecClear v).vecFn v = s.vecFn v := (State.vecClear_vecFn _ v v).trans hfn
  rw [State.vecDeliver_eq] at hx
  refine answers_of_finish hx ⟨?_, ?_, ?_, ?_, ?_, ?_⟩
  · rw [s.ended_out]
    refine (hchg.2 .out List.not_mem_nil).trans ?_
    show u.vecMessage v :: u.out = s.vecMessage v :: s.out
    rw [hout, State.vecMessage, hfn, hreg, hreg, hreg, State.vecMessage]
  · rw [s.ended_rd _ (by decide)]
    refine (State.vecClear_delivered _ v).trans ?_
    rw [State.rd_emit, hreg]
  · rw [s.ended_host, ← hfn']
    exact (mapGet_mapPut _ _ _ _ _).trans (if_pos rfl)
  · have hprio := bitsOf_lt (s.rd (vecCfg v)) 2 0
    rw [s.ended_host, ← hfn', ← hcfg]
    refine (mapGet_mapPut _ _ _ _ _).trans ((if_neg ?_).trans ((mapGet_mapPut _ _ _ _ _).trans (if_pos rfl)))
    rw [hcfg, lastSent, State.fld]
    omega
  · rw [s.ended_host]
    refine (congrArg (fun h : HostIf => h.coal.filter (· != v)) (hchg.2 .host List.not_mem_nil)).trans ?_
    exact congrArg (List.filter (· != v)) hcoal
  · have hu' : ∀ l, ChangesOnly l [.out, .host] s u := fun l => by
      rw [hu, htk]; exact (ChangesOnly.refl _ _ s).with_host _ (List.mem_cons_of_mem _ List.mem_cons_self)
    exact ((((hu' _).emit _ List.mem_cons_self).trans ⟨hchg.1, fun p _ => hchg.2 p List.not_mem_nil⟩).with_host _
      (List.mem_cons_of_mem _ List.mem_cons_self)).only_among

/-! ### Masks and the end of service (R113, R114) -/

theorem vecMsix_ne_late (v : Vec) : (lateKey v).1 ≠ vecMsix v + 12 := by
  obtain ⟨h | h, h16⟩ := vecMsix_region v
  · cases v with
    | pf0 v => simp only [lateKey, R.ICU_STATUS]; omega
    | vi n v => simp only [lateKey, R.VI_STATUS]; omega
  · cases v with
    | pf0 v => simp only [lateKey, R.ICU_STATUS]; omega
    | vi n v => simp only [lateKey, R.VI_STATUS]; omega
theorem vecMsix_ne_of_lt (v : Vec) (c : Nat) {k : Nat} (h : k < 0x410000) : vecMsix v + c ≠ k := by
  have := vecMsix_region v; omega

theorem answers_vectorMask (v : Vec) (same : Bool) : Answers (.vectorMask v same) s (fun t => t.bit (vecMsix v + 12) 0 = true ∧
    (same = true → s.host.lastPick.lookup (lastSent (s.vecFn v)) = some (vecNum v) → t.bit (lateKey v).1 (lateKey v).2 = true)) := by
  have hx : exec (.vectorMask v same) s = finish s ((s.setB (vecMsix v + 12) 0 true).onIf
    (same && s.host.lastPick.lookup (lastSent (s.vecFn v)) == some (vecNum v)) fun s => s.maskLate v) := rfl
  have hbit : (s.setB (vecMsix v + 12) 0 true).bit (vecMsix v + 12) 0 = true := s.bit_setB_same _ _ _ (by decide)
  refine answers_of_finish hx ⟨?_, fun hs hl => ?_⟩
  · rw [s.ended_bit _ (vecMsix_steady v (by decide)), State.onIf_keep _ _ _ (fun s => s.bit (vecMsix v + 12) 0) ?_]
    · exact hbit
    · rw [State.maskLate_eq, State.bit_setB_other _ _ _ _ (vecMsix_ne_late v)]
  · rw [hs, hl, beq_self_eq_true, Bool.and_self, State.onIf_true]
    exact s.ended_maskLate _ v
theorem answers_vectorMask_only (v : Vec) : Answers (.vectorMask v false) s (Only (among [vecMsix v + 12]) [] s) :=
  answers_of_finish rfl ((ChangesOnly.refl _ _ s).setB _ _ List.mem_cons_self (vecMsix_ne_of_lt v 12 (by decide))).only_among
theorem answers_vecEoi {n : Vi} {v : Fin 64} (hv : v.val ≠ 2) : Answers (.vecEoi (.vi n v)) s (fun t =>
    t.bit (R.VI_VEC_CFG n v + 12) 1 = false ∧ Only (among [R.VI_VEC_CFG n v + 12]) [] s t) := by
  have hx : exec (.vecEoi (.vi n v)) s = finish s (s.setB (R.VI_VEC_CFG n v + 12) 1 false) := by
    show finish s (State.onIf _ (v.val == 2) _) = _
    rw [beq_eq_false_iff_ne.2 hv]
    rfl
  refine answers_of_finish hx ⟨?_, ?_⟩
  · rw [s.ended_bit _ (viVecState_steady n hv), s.bit_setB_same _ _ _ (by decide)]
  · exact ((ChangesOnly.refl _ _ s).setB _ _ List.mem_cons_self (vecCfg_ne_of_lt (.vi n v) 12 (by decide))).only_among

/-! ### The budgets of the polders (R93) -/

/-- The ASDUs that a polder's rate and its remainder give for a window, in tenths. -/
def State.ingShare (s : State) (p : Nat) : Nat := s.fld (R.PLD_INGEST p) 15 0 + mapGet s.host.ingRem p 0
/-- A polder's allowance for a window. -/
def State.ingAllow (s : State) (p : Nat) : State :=
  { s with host := { s.host with ingRem := mapPut s.host.ingRem p (s.ingShare p % 10), ingLeft := mapPut s.host.ingLeft p (s.ingShare p / 10) } }
/-- A polder's bucket after one millisecond. -/
def State.irqRefill (s : State) (p : Nat) : State :=
  { s with host := { s.host with tokens := mapPut s.host.tokens p (min (s.irqDepth p) (s.irqTokens p + s.irqRate p)) } }

/-- The windows of the polders before `n` have started, those of the others not. -/
theorem State.ingAllow_fold (s : State) (n : Nat) :
    let t := (List.range n).foldl State.ingAllow s
    t.regs = s.regs ∧ ∀ p, (p < n → mapGet t.host.ingLeft p 0 = s.ingShare p / 10 ∧ mapGet t.host.ingRem p 0 = s.ingShare p % 10) ∧
      (n ≤ p → mapGet t.host.ingRem p 0 = mapGet s.host.ingRem p 0) := by
  induction n with
  | zero => exact ⟨rfl, fun p => ⟨fun h => absurd h (Nat.not_lt_zero p), fun _ => rfl⟩⟩
  | succ n ih =>
    rw [List.range_succ, List.foldl_append, List.foldl_cons, List.foldl_nil]
    obtain ⟨hregs, hp⟩ := ih
    generalize (List.range n).foldl State.ingAllow s = t at hregs hp
    have hshare : t.ingShare n = s.ingShare n := by
      rw [State.ingShare, (hp n).2 (Nat.le_refl n), State.fld_of_rd (State.rd_congr hregs _), State.ingShare]
    refine ⟨hregs, fun p => ⟨fun h => ?_, fun h => ?_⟩⟩
    · show mapGet (mapPut _ _ _) p 0 = _ ∧ mapGet (mapPut _ _ _) p 0 = _
      rw [mapGet_mapPut, mapGet_mapPut]
      by_cases e : p = n
      · rw [if_pos e, if_pos e, hshare, e]; exact ⟨rfl, rfl⟩
      · rw [if_neg e, if_neg e]; exact (hp p).1 (by omega)
    · show mapGet (mapPut _ _ _) p 0 = _
      rw [mapGet_mapPut, if_neg (by omega)]
      exact (hp p).2 (by omega)
theorem ChangesOnly.hostFold {α : Type} {f : State → α → State} (hf : ∀ u x, ∃ h, f u x = { u with host := h }) (xs : List α) :
    ChangesOnly [] [.host] s (xs.foldl f s) :=
  ChangesOnly.foldl (fun u x _ => by
    obtain ⟨h, e⟩ := hf u x; rw [e]; exact (ChangesOnly.refl _ _ u).with_host h List.mem_cons_self) (ChangesOnly.refl _ _ s)
theorem answers_ingestWindow : Answers .ingestWindow s (fun t =>
    (∀ p, p < 64 → mapGet t.host.ingLeft p 0 = (s.fld (R.PLD_INGEST p) 15 0 + mapGet s.host.ingRem p 0) / 10 ∧
      mapGet t.host.ingRem p 0 = (s.fld (R.PLD_INGEST p) 15 0 + mapGet s.host.ingRem p 0) % 10) ∧ Only (fun _ => false) [.host] s t) := by
  have hx : exec .ingestWindow s = finish s ((List.range 64).foldl State.ingAllow s) := rfl
  refine answers_of_finish hx ⟨fun p hp => ?_, (ChangesOnly.hostFold (fun u x => ⟨_, rfl⟩) _).only fun _ hk => nomatch hk⟩
  rw [s.ended_host]
  exact ((s.ingAllow_fold 64).2 p).1 hp

/-- The buckets of the polders before `n` have been filled up, those of the others not. -/
theorem State.irqRefill_fold (s : State) (n : Nat) :
    let t := (List.range n).foldl State.irqRefill s
    t.regs = s.regs ∧ ∀ p, t.irqTokens p = if p < n then min (s.irqDepth p) (s.irqTokens p + s.irqRate p) else s.irqTokens p := by
  induction n with
  | zero => exact ⟨rfl, fun p => (if_neg (Nat.not_lt_zero p)).symm⟩
  | succ n ih =>
    rw [List.range_succ, List.foldl_append, List.foldl_cons, List.foldl_nil]
    obtain ⟨hregs, hp⟩ := ih
    generalize (List.range n).foldl State.irqRefill s = t at hregs hp
    have hrate : ∀ p, t.irqRate p = s.irqRate p := fun p => State.fld_of_rd (State.rd_congr hregs _) _ _
    have hdepth : ∀ p, t.irqDepth p = s.irqDepth p := fun p => by
      unfold State.irqDepth; rw [hrate, State.fld_of_rd (State.rd_congr hregs _)]
    refine ⟨hregs, fun p => ?_⟩
    show mapGet (mapPut _ _ _) p (t.irqDepth p) = _
    rw [mapGet_mapPut]
    by_cases e : p = n
    · subst e; rw [if_pos rfl, if_pos (by omega), hdepth, hrate, hp, if_neg (by omega)]
    · rw [if_neg e]
      refine (hp p).trans ?_
      by_cases h : p < n
      · rw [if_pos h, if_pos (by omega)]
      · rw [if_neg h, if_neg (by omega)]
theorem answers_irqTokenRefill : Answers .irqTokenRefill s (fun t =>
    (∀ p, p < 64 → t.irqTokens p = min (s.irqDepth p) (s.irqTokens p + s.irqRate p)) ∧ Only (fun _ => false) [.host] s t) := by
  have hx : exec .irqTokenRefill s = finish s ((List.range 64).foldl State.irqRefill s) := rfl
  refine answers_of_finish hx ⟨fun p hp => ?_, (ChangesOnly.hostFold (fun u x => ⟨_, rfl⟩) _).only fun _ hk => nomatch hk⟩
  have hsteady : settleKey (R.PLD_IRQ p) = false := by
    have hall : ∀ p, p < 64 → settleKey (R.PLD_IRQ p) = false := by decide
    exact hall p hp
  refine Eq.trans ?_ (((s.irqRefill_fold 64).2 p).trans (if_pos hp))
  generalize (List.range 64).foldl State.irqRefill s = u
  unfold State.irqTokens State.irqDepth State.irqRate
  rw [s.ended_host, s.ended_fld _ hsteady, s.ended_fld _ hsteady]
end

/-- Settles O17: configuration space is the host unit's own state; an event counts and makes its vector pending, a level-fed one as
its level says also once the command has ended; the engine delivers the one eligible vector; the budgets go polder by polder. -/
theorem vectorsAndBudgets : Obligations.VectorsAndBudgets := by
  unfold Obligations.VectorsAndBudgets
  refine ⟨?_, ?_, ?_, ?_, ?_, ?_, ?_, ?_, ?_, ?_, ?_, ?_, ?_, ?_⟩
  · exact fun s f en mask same => answers_msix f en mask same
  · exact fun s ari en => answers_sriov ari en
  · exact fun s n => answers_numVfs n
  · exact fun s f d3 => answers_powerState f d3
  · exact fun s n v hv h hc ht => answers_vectorEvent_edge hv h hc ht
  · exact fun s n h => answers_vectorEvent_level h
  · exact fun s v h => answers_vectorEvent_dead h
  · exact fun s n v hv h hc ha => answers_coalTimeout hv h hc ha
  · exact fun s f v hv ht => answers_arbitration hv ht
  · exact fun s v same => answers_vectorMask v same
  · exact fun s v => answers_vectorMask_only v
  · exact fun s n v hv => answers_vecEoi hv
  · exact fun s => answers_ingestWindow
  · exact fun s => answers_irqTokenRefill

end Sys2Proof.Machine
end

section
/-! SUPPORT. The end of the wait for a receive descriptor (R107), where the copy held for the VI names no class of the switch. -/
namespace Sys2Proof.Machine

/-- A copy at P49 of no class of the switch: there are 8 (R137). The depth of the queue it names is the register VI_EVENTS of VI 0. -/
def strayCopy : Copy :=
  { fid := 0, x := 49, cls := 0x1AFB3B4, ct := false, charge := 16, bytes := [], stomp := false, vi := none, held := 0 }
/-- The frame that waits for a descriptor: nothing of it has been written. -/
def strayProg : RxProg := { rest := [], pos := 0, bytes := 0, first := true, frame := 0, ts := (0, 0, 0) }
/-- VI 0 waits for a receive descriptor while the copy is held for it; nothing has been written to any register. -/
def strayWait : State := { host := { rings := [(0, { rxCur := some strayProg })] }, net := { rxHold := [(0, strayCopy)] } }

/-- The end of the copy takes its charge out of its queue, and with it the event that the truncation has just set. -/
theorem strayWait_event_lost : (strayWait.rxTruncate 0 strayProg).bit (R.VI_EVENTS 0) 4 = false := by decide +kernel

/-- Refutes O18: RX_WAIT_EXPIRE does not show its event in VI_EVENTS where the copy held for the VI names a class that the switch does
not have. The clause takes any state; the classes of the copies that the switch makes are 0 to 7, and then no such register is met. -/
theorem not_ringsAndDirtyLogging : ¬ Obligations.RingsAndDirtyLogging := by
  unfold Obligations.RingsAndDirtyLogging
  rintro ⟨-, -, -, -, -, -, -, hexpire, -, -⟩
  obtain ⟨t, ht, -, -, hevent⟩ := hexpire strayWait 0 strayProg rfl
  have hexec : exec (.rxWaitExpire 0) strayWait = finish strayWait (strayWait.rxTruncate 0 strayProg) := rfl
  have hend : t = strayWait.ended (strayWait.rxTruncate 0 strayProg) := by
    rw [hexec, finish_ended] at ht
    exact (Host.Outcome.next.inj ht).symm
  rw [hend, State.ended_bit _ _ (viEvents_steady _)] at hevent
  exact Bool.false_ne_true (strayWait_event_lost.symm.trans hevent)

end Sys2Proof.Machine
end

section
/-! SUPPORT. What changes of the switch's own state leave as it was, and the registers of the ports and of the switch core. -/
namespace Sys2Proof.Machine

theorem State.with_net_kept (s : State) (x : Net) {p : Part} (hp : p ≠ .net) : p.kept s { s with net := x } := by
  cases p
  case net => exact absurd rfl hp
  case evt => exact ⟨rfl, rfl⟩
  all_goals rfl
theorem ChangesOnly.with_net {l : List Nat} {ps : List Part} {s t : State} (h : ChangesOnly l ps s t) (x : Net) (hp : .net ∈ ps) :
    ChangesOnly l ps s { t with net := x } :=
  h.trans ⟨fun _ _ => rfl, fun _ hq => t.with_net_kept x (fun e => hq (e ▸ hp))⟩
theorem ChangesOnly.mono {l l' : List Nat} {ps ps' : List Part} {s t : State} (h : ChangesOnly l ps s t) (hl : l ⊆ l') (hp : ps ⊆ ps') :
    ChangesOnly l' ps' s t := ⟨fun k hk => h.1 k fun hm => hk (hl hm), fun p hq => h.2 p fun hm => hq (hp hm)⟩

/-- The registers of the ports and of the switch core follow no other state. -/
theorem settleKey_ports {k : Nat} (h : 0x1000000 ≤ k) (h' : k < 0x1800000) : settleKey k = false := by
  have hfar : ∀ j ∈ [R.WDN_STATUS, R.WDN_BREACH, R.WDN_EVENTS, R.WDN_MATE_STATUS, R.RTC_STATUS, R.TMU_STATUS, R.VIR_STATUS, R.EVT_STATUS,
      R.SEP_STATUS, R.CFG_STATUS, R.EVT_LOST, R.EVT_EVENTS, R.ICU_SRC_LEVEL 0, R.ICU_SRC_LEVEL 1, R.ICU_SRC_LEVEL 2],
      j < 0x1000000 ∨ 0x1800000 ≤ j := by decide
  rw [settleKey, pendKey, decide_eq_false (show ¬k < 0x413000 by omega), decide_eq_false (show ¬0x8000000 ≤ k by omega), Bool.and_false,
    Bool.false_and, Bool.false_and, Bool.or_false, Bool.or_false, ← Bool.not_eq_true]
  intro hc
  have := hfar k (List.contains_iff_mem.1 hc)
  omega
/-- The registers of a port's page. -/
def portPage (p k : Nat) : Bool := between (0x1000000 + p * 65536) (0x1010000 + p * 65536) k
theorem portPage_steady {p k : Nat} (hp : p < 48) (h : portPage p k = true) : settleKey k = false := by
  simp only [portPage, between, Bool.and_eq_true, decide_eq_true_eq] at h
  exact settleKey_ports (by omega) (by omega)

end Sys2Proof.Machine
end

section
/-! SUPPORT. The management buses and PHY interrupts (R132). -/
namespace Sys2Proof.Machine

theorem State.bit_setF (s : State) (k hi lo v : Nat) {j : Nat} (h : lo ≤ hi) (hj : j < 32) :
    (s.setF k hi lo v).bit k j = if lo ≤ j ∧ j ≤ hi then v.testBit (j - lo) else s.bit k j := by
  rw [State.bit, State.rd_setF, if_pos rfl, testBit_mod_two32 _ _ hj, testBit_putBits _ _ _ _ _ h]; rfl

section
variable {s : State} {c : Instr}

/-! ### MDIO -/

theorem answers_mdioStart {op word : Nat} (hc : exec c s = finish s (s.mdioStart op word)) (hb : s.bit R.PRT_MDIO_STATUS 16 = false) :
    Answers c s (fun t => t.net.mdioOp = some (putBits word 1 0 op) ∧ t.bit R.PRT_MDIO_STATUS 16 = true ∧
      t.out = .mdio op (putBits word 1 0 op) :: s.out ∧ Only (among [R.PRT_MDIO_STATUS]) [.net, .out] s t) := by
  rw [State.mdioStart, if_neg (by rw [hb]; decide)] at hc
  refine answers_of_finish hc ⟨?_, ?_, s.ended_out _, ?_⟩
  · rw [s.ended_net]; rfl
  · rw [s.ended_bit _ (by decide), State.bit_emit, State.bit_setB_same _ _ _ _ (by decide)]
  · exact ((((ChangesOnly.refl _ _ s).with_net _ List.mem_cons_self).setB _ _ List.mem_cons_self (by decide)).emit _
      (List.mem_cons_of_mem _ List.mem_cons_self)).only_among
theorem answers_mdioStart_busy {op word : Nat} (hc : exec c s = finish s (s.mdioStart op word)) (hb : s.bit R.PRT_MDIO_STATUS 16 = true) :
    Answers c s (Only (fun _ => false) [] s) := by
  rw [State.mdioStart, if_pos hb] at hc
  exact answers_of_finish hc (only_ended_self s)

/-- PRT_MDIO_STATUS at the end of the MDIO command `w`: a read leaves its data. -/
def State.mdioEnd (s : State) (w data : Nat) : State :=
  (({ s with net := { s.net with mdioOp := none } } : State).setB R.PRT_MDIO_STATUS 16 false).onIf (bitsOf w 1 0 == 2)
    (fun s => s.setF R.PRT_MDIO_STATUS 15 0 data)
theorem exec_mdioDone {d : W16} {w : Nat} (h : s.net.mdioOp = some w) :
    exec (.mdioDone d) s = finish s ((s.mdioEnd w d.toNat).setB (R.PRT_EVENTS 0) 8 true) := by
  show finish s (match s.net.mdioOp with | none => s | some w => _) = _
  rw [h]; rfl
theorem State.mdioEnd_net (s : State) (w data : Nat) : (s.mdioEnd w data).net = { s.net with mdioOp := none } :=
  State.onIf_keep _ _ _ State.net rfl
theorem State.mdioEnd_idle (s : State) (w data : Nat) : (s.mdioEnd w data).bit R.PRT_MDIO_STATUS 16 = false :=
  (State.onIf_keep _ _ _ (fun s => s.bit R.PRT_MDIO_STATUS 16) (State.bit_setF_apart _ _ _ _ _ (by decide) (by decide) (by decide))).trans
    (State.bit_setB_same _ _ _ _ (by decide))
theorem State.mdioEnd_data (s : State) (w : Nat) {data : Nat} (h : data < 65536) :
    (s.mdioEnd w data).fld R.PRT_MDIO_STATUS 15 0 = if w % 4 = 2 then data else s.fld R.PRT_MDIO_STATUS 15 0 := by
  have hcode : (bitsOf w 1 0 == 2) = decide (w % 4 = 2) := by simp [bitsOf, Bool.beq_eq_decide_eq]
  rw [State.mdioEnd, hcode]
  by_cases hr : w % 4 = 2
  · rw [if_pos hr, decide_eq_true hr, State.onIf_true]
    exact (State.fld_setF_same _ _ _ _ _ (by decide) (by decide)).trans (Nat.mod_eq_of_lt h)
  · rw [if_neg hr, decide_eq_false hr, State.onIf_false, State.setB,
      State.fld_setF_apart _ _ _ _ _ _ _ (by decide) (by decide) (by decide)]
    rfl
theorem State.mdioEnd_changes (s : State) (w data : Nat) : ChangesOnly [R.PRT_MDIO_STATUS, R.PRT_EVENTS 0] [.net] s (s.mdioEnd w data) :=
  (((ChangesOnly.refl _ _ s).with_net _ List.mem_cons_self).setB _ _ List.mem_cons_self (by decide)).onIf _
    fun h => h.setF _ _ _ List.mem_cons_self (by decide)

theorem answers_mdioDone {d : W16} {w : Nat} (h : s.net.mdioOp = some w) : Answers (.mdioDone d) s (fun t =>
    t.net.mdioOp = none ∧ t.bit R.PRT_MDIO_STATUS 16 = false ∧ t.bit (R.PRT_EVENTS 0) 8 = true ∧
    t.fld R.PRT_MDIO_STATUS 15 0 = (if w % 4 = 2 then d.toNat else s.fld R.PRT_MDIO_STATUS 15 0) ∧
    Only (among [R.PRT_MDIO_STATUS, R.PRT_EVENTS 0]) [.net] s t) := by
  refine answers_of_finish (exec_mdioDone h) ⟨?_, ?_, ?_, ?_, ?_⟩
  · rw [s.ended_net, State.setB_net, s.mdioEnd_net]
  · rw [s.ended_bit _ (by decide), State.bit_setB_other _ _ _ _ (by decide), s.mdioEnd_idle]
  · rw [s.ended_bit _ (by decide), State.bit_setB_same _ _ _ _ (by decide)]
  · rw [s.ended_fld _ (by decide), State.setB, State.fld_setF_other _ _ _ _ _ _ (by decide), s.mdioEnd_data w d.isLt]
  · exact ((s.mdioEnd_changes w _).setB _ _ (List.mem_cons_of_mem _ List.mem_cons_self) (by decide)).only_among

/-! ### The cage bus -/

theorem answers_cageStart {read : Bool} {word : Nat} (hc : exec c s = finish s (s.cageStart read word))
    (hb : s.bit R.PRT_CAGE_STATUS 8 = false) : Answers c s (fun t =>
      t.net.cageOp = some (putBits word 7 7 (b2n read)) ∧ t.bit R.PRT_CAGE_STATUS 8 = true ∧
      t.out = .cage (putBits word 7 7 (b2n read)) :: s.out ∧ Only (among [R.PRT_CAGE_STATUS]) [.net, .out] s t) := by
  rw [State.cageStart, if_neg (by rw [hb]; decide)] at hc
  refine answers_of_finish hc ⟨?_, ?_, s.ended_out _, ?_⟩
  · rw [s.ended_net]; rfl
  · rw [s.ended_bit _ (by decide), State.bit_emit, State.bit_setB_same _ _ _ _ (by decide)]
  · exact ((((ChangesOnly.refl _ _ s).with_net _ List.mem_cons_self).setB _ _ List.mem_cons_self (by decide)).emit _
      (List.mem_cons_of_mem _ List.mem_cons_self)).only_among

/-- PRT_CAGE_STATUS at the end of the cage command `w`: an acknowledged read leaves its data. -/
def State.cageEnd (s : State) (w data : Nat) (ack : Bool) : State :=
  (({ s with net := { s.net with cageOp := none } } : State).setF R.PRT_CAGE_STATUS 9 8 (2 * b2n (!ack))).onIf (ack && w.testBit 7)
    (fun s => s.setF R.PRT_CAGE_STATUS 7 0 data)
/-- The events of the end of a cage command: CAGE_DONE, and CAGE_NACK where it was not acknowledged (Table 05-7). -/
def State.cageEvents (s : State) (ack : Bool) : State :=
  (s.setB (R.PRT_EVENTS 0) 9 true).onIf (!ack) (fun s => s.setB (R.PRT_EVENTS 0) 10 true)
theorem exec_cageDone {d : Byte} {ack : Bool} {w : Nat} (h : s.net.cageOp = some w) :
    exec (.cageDone d ack) s = finish s ((s.cageEnd w d.toNat ack).cageEvents ack) := by
  show finish s (match s.net.cageOp with | none => s | some w => _) = _
  rw [h]; rfl
theorem State.cageEnd_net (s : State) (w data : Nat) (ack : Bool) : (s.cageEnd w data ack).net = { s.net with cageOp := none } :=
  State.onIf_keep _ _ _ State.net rfl
theorem State.cageEnd_idle (s : State) (w data : Nat) (ack : Bool) : (s.cageEnd w data ack).bit R.PRT_CAGE_STATUS 8 = false := by
  refine (State.onIf_keep _ _ _ (fun s => s.bit R.PRT_CAGE_STATUS 8)
    (State.bit_setF_apart _ _ _ _ _ (by decide) (by decide) (by decide))).trans ?_
  rw [State.bit_setF _ _ _ _ _ (by decide) (by decide), if_pos (by decide)]
  cases ack <;> rfl
theorem State.cageEnd_nack (s : State) (w data : Nat) (ack : Bool) : (s.cageEnd w data ack).bit R.PRT_CAGE_STATUS 9 = !ack := by
  refine (State.onIf_keep _ _ _ (fun s => s.bit R.PRT_CAGE_STATUS 9)
    (State.bit_setF_apart _ _ _ _ _ (by decide) (by decide) (by decide))).trans ?_
  rw [State.bit_setF _ _ _ _ _ (by decide) (by decide), if_pos (by decide)]
  cases ack <;> rfl
theorem State.cageEnd_data (s : State) (w : Nat) {data : Nat} (ack : Bool) (h : data < 256) :
    (s.cageEnd w data ack).fld R.PRT_CAGE_STATUS 7 0 = if ack && w.testBit 7 then data else s.fld R.PRT_CAGE_STATUS 7 0 := by
  unfold State.cageEnd
  cases ack && w.testBit 7 with
  | true =>
    rw [if_pos rfl, State.onIf_true]
    exact (State.fld_setF_same _ _ _ _ _ (by decide) (by decide)).trans (Nat.mod_eq_of_lt h)
  | false =>
    rw [if_neg Bool.false_ne_true, State.onIf_false, State.fld_setF_apart _ _ _ _ _ _ _ (by decide) (by decide) (by decide)]
    rfl
theorem State.cageEnd_changes (s : State) (w data : Nat) (ack : Bool) :
    ChangesOnly [R.PRT_CAGE_STATUS] [.net] s (s.cageEnd w data ack) :=
  (((ChangesOnly.refl _ _ s).with_net _ List.mem_cons_self).setF _ _ _ List.mem_cons_self (by decide)).onIf _
    fun h => h.setF _ _ _ List.mem_cons_self (by decide)
theorem State.cageEvents_changes (s : State) (ack : Bool) : ChangesOnly [R.PRT_EVENTS 0] [] s (s.cageEvents ack) :=
  ((ChangesOnly.refl _ _ s).setB _ _ List.mem_cons_self (by decide)).onIf _ fun h => h.setB _ _ List.mem_cons_self (by decide)

theorem answers_cageDone {d : Byte} {ack : Bool} {w : Nat} (h : s.net.cageOp = some w) : Answers (.cageDone d ack) s (fun t =>
    t.net.cageOp = none ∧ t.bit R.PRT_CAGE_STATUS 8 = false ∧ t.bit R.PRT_CAGE_STATUS 9 = !ack ∧
    t.bit (R.PRT_EVENTS 0) 9 = true ∧ t.bit (R.PRT_EVENTS 0) 10 = (s.bit (R.PRT_EVENTS 0) 10 || !ack) ∧
    t.fld R.PRT_CAGE_STATUS 7 0 = (if ack && w.testBit 7 then d.toNat else s.fld R.PRT_CAGE_STATUS 7 0) ∧
    Only (among [R.PRT_CAGE_STATUS, R.PRT_EVENTS 0]) [.net] s t) := by
  have hend := s.cageEnd_changes w d.toNat ack
  have hevents := (s.cageEnd w d.toNat ack).cageEvents_changes ack
  have hstatus := hevents.rd_other (k := R.PRT_CAGE_STATUS) (by decide)
  refine answers_of_finish (exec_cageDone h) ⟨?_, ?_, ?_, ?_, ?_, ?_, ?_⟩
  · rw [s.ended_net, hevents.2 .net List.not_mem_nil, s.cageEnd_net]
  · rw [s.ended_bit _ (by decide), State.bit_of_rd hstatus, s.cageEnd_idle]
  · rw [s.ended_bit _ (by decide), State.bit_of_rd hstatus, s.cageEnd_nack]
  · rw [s.ended_bit _ (by decide), State.cageEvents, State.bit_onIf, State.bit_setB_apart _ _ _ (by decide) (by decide), ite_self,
      State.bit_setB_same _ _ _ _ (by decide)]
  · rw [s.ended_bit _ (by decide), State.cageEvents, State.bit_onIf, State.bit_setB_same _ _ _ _ (by decide),
      State.bit_setB_apart _ _ _ (by decide) (by decide), hend.bit (by decide)]
    cases ack <;> simp
  · rw [s.ended_fld _ (by decide), State.fld_of_rd hstatus, s.cageEnd_data w ack d.isLt]
  · exact ((hend.mono (List.cons_subset_cons _ (List.nil_subset _)) (List.Subset.refl _)).trans
      (hevents.mono (List.subset_cons_of_subset _ (List.Subset.refl _)) (List.nil_subset _))).only_among

/-! ### PHY interrupts -/

theorem answers_phyInt : Answers .phyInt s (fun t =>
    t.bit (R.PRT_EVENTS 0) 7 = true ∧ t.bit R.PRT_PHY_CTRL 8 = true ∧ Only (among [R.PRT_EVENTS 0, R.PRT_PHY_CTRL]) [] s t) := by
  have hx : exec .phyInt s = finish s ((s.setB (R.PRT_EVENTS 0) 7 true).setB R.PRT_PHY_CTRL 8 true) := rfl
  refine answers_of_finish hx ⟨?_, ?_, ?_⟩
  · rw [s.ended_bit _ (by decide), State.bit_setB_other _ _ _ _ (by decide), State.bit_setB_same _ _ _ _ (by decide)]
  · rw [s.ended_bit _ (by decide), State.bit_setB_same _ _ _ _ (by decide)]
  · exact (((ChangesOnly.refl _ _ s).setB _ _ List.mem_cons_self (by decide)).setB _ _
      (List.mem_cons_of_mem _ List.mem_cons_self) (by decide)).only_among
end

end Sys2Proof.Machine
end

section
/-! SUPPORT. Statistics snapshots (R131). -/
namespace Sys2Proof.Machine

theorem lookup_filter_key {β : Type} (l : List (Nat × β)) (P : Nat → Bool) (k : Nat) :
    (l.filter (fun e => P e.1)).lookup k = if P k then l.lookup k else none := by
  induction l with
  | nil => exact (ite_self none).symm
  | cons e l ih =>
    obtain ⟨j, v⟩ := e
    rw [List.filter_cons]
    by_cases hk : k = j
    · subst hk
      by_cases hP : P k = true
      · rw [if_pos hP, if_pos hP, List.lookup_cons, List.lookup_cons, beq_self_eq_true]
      · rw [if_neg hP, ih, if_neg hP, if_neg hP]
    · have hcons : ∀ m : List (Nat × β), ((j, v) :: m).lookup k = m.lookup k := fun m => by rw [List.lookup_cons, beq_false_of_ne hk]
      rw [hcons, ← ih]
      split
      · exact hcons _
      · rfl

/-- The accumulator of a window word of a port, as the snapshot shows it. -/
def State.snapValue (s : State) (p w : Nat) : Nat := min 4294967295 (mapGet s.net.snapAcc (24 * p + w) 0)
/-- The first `n` words of a port's window take their accumulators. -/
def State.snapWords (s : State) (p n : Nat) : State := (List.range n).foldl (fun s w => s.wr (R.PRT_SNAPWIN p w) (s.snapValue p w)) s

/-- The registers that a snapshot of a port writes. -/
def snapKeys (p : Nat) : List Nat := [R.PRT_SNAP_SEQ p, R.PRT_EVENTS p] ++ (List.range 24).map (R.PRT_SNAPWIN p)
theorem snapWin_mem (p : Nat) {w : Nat} (h : w < 24) : R.PRT_SNAPWIN p w ∈ snapKeys p :=
  List.mem_append_right _ (List.mem_map_of_mem (List.mem_range.2 h))
theorem portPage_of_snapKeys {p k : Nat} (h : k ∈ snapKeys p) : portPage p k = true := by
  simp only [snapKeys, List.mem_append, List.mem_cons, List.not_mem_nil, or_false, List.mem_map, List.mem_range] at h
  simp only [portPage, between, Bool.and_eq_true, decide_eq_true_eq]
  obtain (rfl | rfl) | ⟨w, hw, rfl⟩ := h
  · unfold R.PRT_SNAP_SEQ; omega
  · unfold R.PRT_EVENTS; omega
  · unfold R.PRT_SNAPWIN; omega

theorem State.snapWords_net (s : State) (p n : Nat) : (s.snapWords p n).net = s.net :=
  foldl_keep (fun (u : State) (w : Nat) => u.wr (R.PRT_SNAPWIN p w) (u.snapValue p w)) State.net (fun _ _ => rfl) _ _
theorem State.snapWords_rd (s : State) (p n w : Nat) :
    (s.snapWords p n).rd (R.PRT_SNAPWIN p w) = if w < n then s.snapValue p w else s.rd (R.PRT_SNAPWIN p w) := by
  induction n with
  | zero => exact (if_neg (Nat.not_lt_zero w)).symm
  | succ n ih =>
    have hlast : s.snapWords p (n + 1) = (s.snapWords p n).wr (R.PRT_SNAPWIN p n) ((s.snapWords p n).snapValue p n) := by
      rw [State.snapWords, List.range_succ, List.foldl_append]; rfl
    have hvalue : (s.snapWords p n).snapValue p n = s.snapValue p n := by rw [State.snapValue, s.snapWords_net]; rfl
    have hlt : s.snapValue p n < 4294967296 := by unfold State.snapValue; omega
    rw [hlast, State.rd_wr, ih, hvalue]
    by_cases h : w = n
    · rw [h, if_pos rfl, if_pos (Nat.lt_succ_self n), Nat.mod_eq_of_lt hlt]
    · rw [if_neg (by unfold R.PRT_SNAPWIN; omega)]
      exact if_congr (by omega) rfl rfl
theorem State.snapWords_changes (s : State) (p : Nat) {n : Nat} (h : n ≤ 24) : ChangesOnly (snapKeys p) [.net] s (s.snapWords p n) :=
  ChangesOnly.foldl (fun u w hw => (ChangesOnly.refl _ _ u).wr _ (snapWin_mem p (by have := List.mem_range.1 hw; omega))
    (by unfold R.PRT_SNAPWIN R.WDN_STATUS; omega)) (ChangesOnly.refl _ _ s)

/-- The sequence number of the next snapshot of a port. -/
def State.snapSeq (s : State) (p : Nat) : Nat := (s.fld (R.PRT_SNAP_SEQ p) 15 0 + 1) % 65536
/-- The words of a snapshot taken, and their accumulators started again. -/
def State.snapTake (s : State) (p : Nat) : State :=
  { s.snapWords p 23 with net := { (s.snapWords p 23).net with
      snapAcc := (s.snapWords p 23).net.snapAcc.filter (fun (e : Nat × Nat) => e.1 / 24 != p) } }
theorem State.snap_eq (s : State) (p : Nat) :
    s.snap p = (((s.snapTake p).wr (R.PRT_SNAPWIN p 23) (s.snapSeq p)).wr (R.PRT_SNAP_SEQ p) (s.snapSeq p)).setB (R.PRT_EVENTS p) 6 true := rfl
theorem State.snap_net (s : State) (p : Nat) :
    (s.snap p).net = { s.net with snapAcc := s.net.snapAcc.filter (fun (e : Nat × Nat) => e.1 / 24 != p) } := by
  rw [State.snap_eq, State.setB_net, State.wr_net, State.wr_net, State.snapTake, s.snapWords_net]
theorem State.snap_changes (s : State) (p : Nat) : ChangesOnly (snapKeys p) [.net] s (s.snap p) := by
  have htake : ChangesOnly (snapKeys p) [.net] s (s.snapTake p) := (s.snapWords_changes p (by decide)).with_net _ List.mem_cons_self
  exact ((htake.wr _ (snapWin_mem p (by decide)) (by unfold R.PRT_SNAPWIN R.WDN_STATUS; omega)).wr _ List.mem_cons_self
    (by unfold R.PRT_SNAP_SEQ R.WDN_STATUS; omega)).setB _ _ (List.mem_cons_of_mem _ List.mem_cons_self)
    (by unfold R.PRT_EVENTS R.WDN_STATUS; omega)
/-- The accumulators of a port start again at its snapshot, those of the other ports go on. -/
theorem State.snap_acc (s : State) (p q : Nat) {w : Nat} (h : w < 24) :
    mapGet (s.snap q).net.snapAcc (24 * p + w) 0 = if p = q then 0 else mapGet s.net.snapAcc (24 * p + w) 0 := by
  have hport : (24 * p + w) / 24 = p := by omega
  rw [s.snap_net, mapGet, lookup_filter_key s.net.snapAcc (fun k => k / 24 != q), hport]
  by_cases e : p = q
  · rw [if_pos e, if_neg (by simp [e])]; rfl
  · rw [if_neg e, if_pos (by simp [e])]; rfl

/-- From `s` to `t` a snapshot of a port has been taken (R131). -/
def SnapTaken (p : Nat) (s t : State) : Prop :=
  t.rd (R.PRT_SNAP_SEQ p) = s.snapSeq p ∧ t.rd (R.PRT_SNAPWIN p 23) = s.snapSeq p ∧ t.bit (R.PRT_EVENTS p) 6 = true ∧
    ∀ w, w < 23 → t.rd (R.PRT_SNAPWIN p w) = s.snapValue p w
/-- What a snapshot of a port takes, and what it shows, are alike in two states. -/
def SnapSame (p : Nat) (s t : State) : Prop :=
  (∀ k, portPage p k = true → t.rd k = s.rd k) ∧ ∀ w, w < 24 → mapGet t.net.snapAcc (24 * p + w) 0 = mapGet s.net.snapAcc (24 * p + w) 0

theorem portPage_seq (p : Nat) : portPage p (R.PRT_SNAP_SEQ p) = true := portPage_of_snapKeys List.mem_cons_self
theorem portPage_events (p : Nat) : portPage p (R.PRT_EVENTS p) = true := portPage_of_snapKeys (List.mem_cons_of_mem _ List.mem_cons_self)
theorem portPage_win (p : Nat) {w : Nat} (h : w < 24) : portPage p (R.PRT_SNAPWIN p w) = true := portPage_of_snapKeys (snapWin_mem p h)

theorem State.snap_taken (s : State) (p : Nat) : SnapTaken p s (s.snap p) := by
  have hseq : s.snapSeq p < 65536 := Nat.mod_lt _ (by decide)
  have hval : ∀ w, s.snapValue p w < 4294967296 := fun w => by unfold State.snapValue; omega
  rw [State.snap_eq]
  refine ⟨?_, ?_, ?_, fun w hw => ?_⟩
  · rw [State.rd_setB, if_neg (by unfold R.PRT_EVENTS R.PRT_SNAP_SEQ; omega), State.rd_wr_same, Nat.mod_eq_of_lt (by omega)]
  · rw [State.rd_setB, if_neg (by unfold R.PRT_EVENTS R.PRT_SNAPWIN; omega),
      State.rd_wr_other _ _ (by unfold R.PRT_SNAP_SEQ R.PRT_SNAPWIN; omega), State.rd_wr_same, Nat.mod_eq_of_lt (by omega)]
  · exact State.bit_setB_same _ _ _ _ (by decide)
  · rw [State.rd_setB, if_neg (by unfold R.PRT_EVENTS R.PRT_SNAPWIN; omega),
      State.rd_wr_other _ _ (by unfold R.PRT_SNAP_SEQ R.PRT_SNAPWIN; omega), State.rd_wr_other _ _ (by unfold R.PRT_SNAPWIN; omega)]
    rw [State.snapTake, State.rd_with_net, s.snapWords_rd, if_pos hw]
theorem State.snap_same (s : State) {p q : Nat} (h : p ≠ q) : SnapSame p s (s.snap q) := by
  refine ⟨fun k hk => (s.snap_changes q).rd_other fun hm => ?_, fun w hw => (s.snap_acc p q hw).trans (if_neg h)⟩
  have := portPage_of_snapKeys hm
  simp only [portPage, between, Bool.and_eq_true, decide_eq_true_eq] at hk this
  omega

section
variable {p : Nat} {s t u : State}

theorem SnapSame.refl (p : Nat) (s : State) : SnapSame p s s := ⟨fun _ _ => rfl, fun _ _ => rfl⟩
theorem SnapSame.trans (h : SnapSame p s t) (h' : SnapSame p t u) : SnapSame p s u :=
  ⟨fun k hk => (h'.1 k hk).trans (h.1 k hk), fun w hw => (h'.2 w hw).trans (h.2 w hw)⟩
theorem SnapTaken.of_same (h : SnapSame p s t) (ht : SnapTaken p t u) : SnapTaken p s u := by
  obtain ⟨hseq, hwin, hev, hval⟩ := ht
  have hs : t.snapSeq p = s.snapSeq p := by unfold State.snapSeq; rw [State.fld_of_rd (h.1 _ (portPage_seq p))]
  have hv : ∀ w, w < 23 → t.snapValue p w = s.snapValue p w := fun w hw => by unfold State.snapValue; rw [h.2 w (by omega)]
  exact ⟨hseq.trans hs, hwin.trans hs, hev, fun w hw => (hval w hw).trans (hv w hw)⟩
/-- A snapshot stays where only other ports change. -/
theorem SnapTaken.keep (ht : SnapTaken p s t) (h : ∀ k, portPage p k = true → u.rd k = t.rd k) : SnapTaken p s u := by
  obtain ⟨hseq, hwin, hev, hval⟩ := ht
  exact ⟨(h _ (portPage_seq p)).trans hseq, (h _ (portPage_win p (by decide))).trans hwin, (State.bit_of_rd (h _ (portPage_events p)) 6).trans hev,
    fun w hw => (h _ (portPage_win p (by omega))).trans (hval w hw)⟩
theorem SnapTaken.ended (hp : p < 48) (ht : SnapTaken p s t) (s0 : State) : SnapTaken p s (s0.ended t) :=
  ht.keep fun _ hk => s0.ended_rd t (portPage_steady hp hk)

theorem snapSame_foldl {ps : List Nat} (h : p ∉ ps) (s : State) : SnapSame p s (ps.foldl State.snap s) := by
  induction ps generalizing s with
  | nil => exact SnapSame.refl p s
  | cons q ps ih =>
    rw [List.mem_cons, not_or] at h
    rw [List.foldl_cons]
    exact (s.snap_same h.1).trans (ih h.2 _)
/-- Of ports that are snapped one after another each shows what its accumulators held before the first. -/
theorem snapTaken_foldl {ps : List Nat} (hn : ps.Nodup) (h : p ∈ ps) (s : State) : SnapTaken p s (ps.foldl State.snap s) := by
  induction ps generalizing s with
  | nil => exact absurd h List.not_mem_nil
  | cons q ps ih =>
    obtain ⟨hq, hn⟩ := List.nodup_cons.1 hn
    rw [List.foldl_cons]
    by_cases e : p = q
    · subst e
      exact (s.snap_taken p).keep (snapSame_foldl hq _).1
    · exact (ih hn (List.mem_of_ne_of_mem e h) _).of_same (s.snap_same e)
end

theorem answers_portSnapThis (s : State) (p : Port) : Answers (.portSnapThis p) s (fun t =>
    t.rd (R.PRT_SNAP_SEQ p) = (s.fld (R.PRT_SNAP_SEQ p) 15 0 + 1) % 65536 ∧ t.rd (R.PRT_SNAPWIN p 23) = t.rd (R.PRT_SNAP_SEQ p) ∧
    t.bit (R.PRT_EVENTS p) 6 = true ∧
    (∀ w, w < 23 → t.rd (R.PRT_SNAPWIN p w) = min 4294967295 (mapGet s.net.snapAcc (24 * p + w) 0) ∧ mapGet t.net.snapAcc (24 * p + w) 0 = 0) ∧
    Only (fun k => among [R.PRT_SNAP_SEQ p, R.PRT_EVENTS p] k || between (R.PRT_SNAPWIN p 0) (R.PRT_SNAPWIN p 24) k) [.net] s t) := by
  have hx : exec (.portSnapThis p) s = finish s (s.snap p) := rfl
  obtain ⟨hseq, hwin, hev, hval⟩ := (s.snap_taken p).ended p.isLt s
  refine answers_of_finish hx ⟨hseq, hwin.trans hseq.symm, hev, fun w hw => ⟨hval w hw, ?_⟩, (s.snap_changes p).only fun k hk => ?_⟩
  · rw [s.ended_net, s.snap_acc p p (by omega), if_pos rfl]
  · rw [Bool.or_eq_true]
    refine .inl ?_
    obtain h | h := List.mem_append.1 hk
    · rw [among, List.contains_iff_mem.2 h, Bool.true_or]
    · obtain ⟨w, hw, rfl⟩ := List.mem_map.1 h
      have hlt := List.mem_range.1 hw
      rw [between, decide_eq_true (show R.PRT_SNAPWIN p 0 ≤ R.PRT_SNAPWIN p w by unfold R.PRT_SNAPWIN; omega),
        decide_eq_true (show R.PRT_SNAPWIN p w < R.PRT_SNAPWIN p 24 by unfold R.PRT_SNAPWIN; omega)]
      exact Bool.or_true _
theorem answers_portSnapAll (s : State) : Answers .portSnapAll s (fun t => ∀ p : Port,
    t.rd (R.PRT_SNAP_SEQ p) = (s.fld (R.PRT_SNAP_SEQ p) 15 0 + 1) % 65536 ∧ t.bit (R.PRT_EVENTS p) 6 = true ∧
    ∀ w, w < 23 → t.rd (R.PRT_SNAPWIN p w) = min 4294967295 (mapGet s.net.snapAcc (24 * p + w) 0)) := by
  have hx : exec .portSnapAll s = finish s ((List.range 48).foldl State.snap s) := rfl
  refine answers_of_finish hx fun p => ?_
  obtain ⟨hseq, -, hev, hval⟩ := (snapTaken_foldl List.nodup_range (List.mem_range.2 p.isLt) s).ended p.isLt s
  exact ⟨hseq, hev, hval⟩

/-- Settles O21: a snapshot writes its own port's page and accumulators alone; a command of a bus is BUSY until its end, and is no
command while the bus is busy. -/
theorem snapshotsAndBuses : Obligations.SnapshotsAndBuses := by
  unfold Obligations.SnapshotsAndBuses
  refine ⟨?_, ?_, ?_, ?_, ?_, ?_, ?_, ?_⟩
  · exact fun s p => answers_portSnapThis s p
  · exact fun s => answers_portSnapAll s
  · intro s v op c hc hb
    simp only [List.mem_cons, List.not_mem_nil, or_false, Prod.mk.injEq] at hc
    obtain ⟨rfl, rfl⟩ | ⟨rfl, rfl⟩ | ⟨rfl, rfl⟩ := hc
    · exact answers_mdioStart rfl hb
    · exact answers_mdioStart rfl hb
    · exact answers_mdioStart rfl hb
  · intro s v c hc hb
    simp only [List.mem_cons, List.not_mem_nil, or_false] at hc
    obtain rfl | rfl | rfl := hc
    · exact answers_mdioStart_busy rfl hb
    · exact answers_mdioStart_busy rfl hb
    · exact answers_mdioStart_busy rfl hb
  · exact fun s d w h => answers_mdioDone h
  · intro s v read c hc hb
    simp only [List.mem_cons, List.not_mem_nil, or_false, Prod.mk.injEq] at hc
    obtain ⟨rfl, rfl⟩ | ⟨rfl, rfl⟩ := hc
    · exact answers_cageStart rfl hb
    · exact answers_cageStart rfl hb
  · exact fun s d ack w h => answers_cageDone h
  · exact fun s => answers_phyInt

end Sys2Proof.Machine
end

section
/-! SUPPORT. The operations that the commands of the ports share: the counters of a port (R129 to R131), the end of a copy (R135, R137,
R140), the flush of the FDB (R143) and the watch over the aggregates (R144). -/
namespace Sys2Proof.Machine

/-! ### The counters of a port -/

/-- A counter of a port wraps, the accumulators follow, and where bit 31 changes a half-range bit is set, with or without its event. -/
theorem State.portCnt_cases (s : State) (p k n : Nat) : ∃ (acc : List (Nat × Nat)) (u : State),
    s.portCnt p k n = { u with net := { s.net with snapAcc := acc } } ∧
    (u = s.wr (R.PRT_CNT p k) ((s.rd (R.PRT_CNT p k) + n) % 4294967296) ∨
      ∃ h i c, (h = R.PRT_CNT_HALF_LO p ∨ h = R.PRT_CNT_HALF_HI p) ∧
        u = ((s.wr (R.PRT_CNT p k) ((s.rd (R.PRT_CNT p k) + n) % 4294967296)).setB h i true).onIf c
          (fun s => s.setB (R.PRT_EVENTS p) 3 true)) := by
  unfold State.portCnt
  extract_lets o v s1 s2 acc
  have hnet : s2.net = s.net := by
    simp only [s2]
    split
    · rfl
    · exact State.onIf_keep _ _ _ State.net rfl
  refine ⟨acc, s2, congrArg (fun m : Net => ({ s2 with net := { m with snapAcc := acc } } : State)) hnet, ?_⟩
  by_cases hb : o.testBit 31 = v.testBit 31
  · exact .inl (if_pos hb)
  · refine .inr ?_
    by_cases hk : k < 32
    · refine ⟨R.PRT_CNT_HALF_LO p, k, s1.bit (R.PRT_HALF_EN_LO p) k, .inl rfl, ?_⟩
      simp only [s2, if_neg hb, if_pos hk]; rfl
    · refine ⟨R.PRT_CNT_HALF_HI p, k - 32, s1.bit (R.PRT_HALF_EN_HI p) (k - 32), .inr rfl, ?_⟩
      simp only [s2, if_neg hb, if_neg hk]; rfl

/-- The registers that a counter of a port writes. -/
def cntKeys (p k : Nat) : List Nat := [R.PRT_CNT p k, R.PRT_CNT_HALF_LO p, R.PRT_CNT_HALF_HI p, R.PRT_EVENTS p]

theorem State.portCnt_changes (s : State) (p k n : Nat) : ChangesOnly (cntKeys p k) [.net] s (s.portCnt p k n) := by
  obtain ⟨acc, u, e, hu⟩ := s.portCnt_cases p k n
  have hcnt : ChangesOnly (cntKeys p k) [.net] s (s.wr (R.PRT_CNT p k) ((s.rd (R.PRT_CNT p k) + n) % 4294967296)) :=
    (ChangesOnly.refl _ _ s).wr _ List.mem_cons_self (by unfold R.PRT_CNT R.WDN_STATUS; omega)
  rw [e]
  refine ChangesOnly.with_net ?_ _ List.mem_cons_self
  obtain rfl | ⟨h, i, c, hh, rfl⟩ := hu
  · exact hcnt
  · refine (hcnt.setB _ _ ?_ ?_).onIf _ fun h => h.setB _ _ (by simp [cntKeys]) (by unfold R.PRT_EVENTS R.WDN_STATUS; omega)
    · rcases hh with rfl | rfl <;> simp [cntKeys]
    · unfold R.PRT_CNT_HALF_LO R.PRT_CNT_HALF_HI at hh; unfold R.WDN_STATUS; omega
theorem State.portCnt_rd_same (s : State) (p k n : Nat) :
    (s.portCnt p k n).rd (R.PRT_CNT p k) = (s.rd (R.PRT_CNT p k) + n) % 4294967296 := by
  obtain ⟨acc, u, e, hu⟩ := s.portCnt_cases p k n
  rw [e, State.rd_with_net]
  obtain rfl | ⟨h, i, c, hh, rfl⟩ := hu
  · rw [State.rd_wr_same, Nat.mod_mod]
  · rw [State.rd_onIf _ _ _ _ (State.rd_wr_other _ _ (by unfold R.PRT_EVENTS R.PRT_CNT; omega)), State.rd_setB, if_neg, State.rd_wr_same,
      Nat.mod_mod]
    unfold R.PRT_CNT_HALF_LO R.PRT_CNT_HALF_HI at hh; unfold R.PRT_CNT; omega
/-- A counter leaves the other counters of its port. -/
theorem State.portCnt_rd_cnt (s : State) (p : Nat) {j k : Nat} (n : Nat) (h : j ≠ k) :
    (s.portCnt p k n).rd (R.PRT_CNT p j) = s.rd (R.PRT_CNT p j) :=
  (s.portCnt_changes p k n).rd_other (by
    simp only [cntKeys, R.PRT_CNT, R.PRT_CNT_HALF_LO, R.PRT_CNT_HALF_HI, R.PRT_EVENTS, List.mem_cons, List.not_mem_nil, or_false]; omega)
theorem State.portCnt_status (s : State) (p q n : Nat) {k : Nat} (hk : k < 64) :
    (s.portCnt p k n).rd (R.PRT_STATUS q) = s.rd (R.PRT_STATUS q) :=
  (s.portCnt_changes p k n).rd_other (by
    simp only [cntKeys, R.PRT_STATUS, R.PRT_CNT, R.PRT_CNT_HALF_LO, R.PRT_CNT_HALF_HI, R.PRT_EVENTS, List.mem_cons, List.not_mem_nil, or_false]
    omega)
/-- A counter clears no event of a port. -/
theorem State.portCnt_event (s : State) (p k n : Nat) {i : Nat} (hi : i < 32) (h : s.bit (R.PRT_EVENTS p) i = true) :
    (s.portCnt p k n).bit (R.PRT_EVENTS p) i = true := by
  obtain ⟨acc, u, e, hu⟩ := s.portCnt_cases p k n
  have hcnt : (s.wr (R.PRT_CNT p k) ((s.rd (R.PRT_CNT p k) + n) % 4294967296)).bit (R.PRT_EVENTS p) i = true :=
    (s.bit_wr_other _ _ (by unfold R.PRT_CNT R.PRT_EVENTS; omega)).trans h
  rw [e]
  show u.bit _ _ = true
  obtain rfl | ⟨h, j, c, hh, rfl⟩ := hu
  · exact hcnt
  · have hhalf := (State.bit_setB_other _ j i true (show h ≠ R.PRT_EVENTS p by
      unfold R.PRT_CNT_HALF_LO R.PRT_CNT_HALF_HI at hh; unfold R.PRT_EVENTS; omega)).trans hcnt
    cases c
    · exact hhalf
    · exact State.bit_setB_set _ _ _ _ hi hhalf
theorem State.portCnt_net (s : State) (p k n : Nat) : ∃ acc, (s.portCnt p k n).net = { s.net with snapAcc := acc } := by
  obtain ⟨acc, u, e, -⟩ := s.portCnt_cases p k n
  exact ⟨acc, by rw [e]⟩

/-! ### The end of a copy -/

/-- From `s` to `t` no register below the switch core has changed, and of the switch's own state the frames and the charges alone. -/
def CoreOnly (s t : State) : Prop :=
  (∀ k, k < 0x1400000 → t.rd k = s.rd k) ∧ ∃ fs ch, t.net = { s.net with frames := fs, chgOut := ch }
theorem CoreOnly.trans {s t u : State} (h : CoreOnly s t) (h' : CoreOnly t u) : CoreOnly s u := by
  obtain ⟨hr, fs, ch, hn⟩ := h
  obtain ⟨hr', fs', ch', hn'⟩ := h'
  exact ⟨fun k hk => (hr' k hk).trans (hr k hk), fs', ch', by rw [hn', hn]⟩
theorem CoreOnly.of_net {s t : State} (hr : ∀ k, k < 0x1400000 → t.rd k = s.rd k) (hn : t.net = s.net) : CoreOnly s t :=
  ⟨hr, s.net.frames, s.net.chgOut, hn⟩
theorem State.coreOnly_wr (s : State) {k : Nat} (v : Nat) (h : 0x1400000 ≤ k) : CoreOnly s (s.wr k v) :=
  .of_net (fun _ hj => s.rd_wr_other v (by omega)) rfl

theorem State.coreOnly_with_frames (s : State) (fs : List Sys2Proof.Machine.Frm) : CoreOnly s { s with net := { s.net with frames := fs } } :=
  ⟨fun _ _ => rfl, fs, s.net.chgOut, rfl⟩
theorem State.coreOnly_crest (s : State) {k : Nat} (v : Nat) (h : 0x1400000 ≤ k) : CoreOnly s (s.crest k v) := by
  unfold State.crest
  split
  · exact s.coreOnly_wr _ h
  · exact .of_net (fun _ _ => rfl) rfl

theorem State.coreOnly_setFree (s : State) (n : Nat) : CoreOnly s (s.setFree n) := by
  unfold State.setFree
  extract_lets below s1
  have h1 : CoreOnly s s1 := by
    simp only [s1]
    cases below && !s.bit R.SWC_STATUS 0
    · exact .of_net (fun _ _ => rfl) rfl
    · exact s.coreOnly_wr _ (by decide)
  have h2 : CoreOnly s1 ((s1.setB R.SWC_STATUS 0 below).wr R.SWC_FREE n) :=
    CoreOnly.trans (s1.coreOnly_wr _ (by decide)) (State.coreOnly_wr _ _ (by decide))
  exact (h1.trans h2).trans (State.coreOnly_crest _ _ (by decide))
theorem State.coreOnly_decRef (s : State) (fid : Nat) : CoreOnly s (s.decRef fid) := by
  unfold State.decRef
  cases s.frameOf fid with
  | none => exact .of_net (fun _ _ => rfl) rfl
  | some f =>
    dsimp only
    split
    · exact (s.coreOnly_with_frames _).trans (State.coreOnly_setFree _ _)
    · exact s.coreOnly_with_frames _
theorem State.coreOnly_endCopy (s : State) (c : Copy) : CoreOnly s (s.endCopy c) := by
  have hcharge : CoreOnly s (s.chargeOut c.x c.cls c.charge) :=
    CoreOnly.trans (t := { s with net := { s.net with chgOut := _ } }) ⟨fun _ _ => rfl, s.net.frames, _, rfl⟩
      (State.coreOnly_wr _ _ (by unfold R.SWC_P_QDEPTH; omega))
  have hcredit : ∀ t : State, CoreOnly t (t.creditBack c.x c.held) := fun t =>
    (t.coreOnly_wr _ (by unfold R.SWC_P_CREDITS; omega)).trans (State.coreOnly_wr _ _ (by unfold R.SWC_P_CREDITS; omega))
  exact (hcharge.trans (hcredit _)).trans (State.coreOnly_decRef _ _)

/-! ### FDB flush and aggregates -/

theorem State.coreOnly_fdbFlushPort (s : State) (p : Nat) : CoreOnly s (s.fdbFlushPort p) := by
  have hremove : ∀ (t : State) e, CoreOnly t (t.fdbRemove e) := fun t e =>
    ((((t.coreOnly_wr _ (by unfold R.SWC_FDB0; omega)).trans (State.coreOnly_wr _ _ (by unfold R.SWC_FDB1; omega))).trans
      (State.coreOnly_wr _ _ (by unfold R.SWC_FDB2; omega))).trans (State.coreOnly_wr _ _ (by unfold R.SWC_FDB3; omega))).trans
      (State.coreOnly_wr _ _ (by decide))
  exact List.foldlRecOn (motive := CoreOnly s) _ _ (.of_net (fun _ _ => rfl) rfl) fun t ht e _ => ht.trans (hremove t e)
theorem lagCheck_changes (s t : State) : ChangesOnly [R.SWC_EVENTS] [] t (State.lagCheck s t) :=
  (ChangesOnly.refl _ _ t).onIf _ fun h => h.setB _ _ List.mem_cons_self (by decide)
theorem coreOnly_lagCheck (s t : State) : CoreOnly t (State.lagCheck s t) :=
  .of_net (fun _ hk => (lagCheck_changes s t).rd_other fun hm => by
    rw [List.mem_singleton] at hm; subst hm; exact absurd hk (by decide)) ((lagCheck_changes s t).2 .net List.not_mem_nil)

end Sys2Proof.Machine
end

section
/-! SUPPORT. Links and port resets (R118, R134). -/
namespace Sys2Proof.Machine

section
variable {p : Nat} {s t u : State}

/-- From `s` to `t` PRT_STATUS of a port has not changed, and none of its events has been cleared. -/
def LinkSame (p : Nat) (s t : State) : Prop :=
  t.rd (R.PRT_STATUS p) = s.rd (R.PRT_STATUS p) ∧ ∀ i, i < 32 → s.bit (R.PRT_EVENTS p) i = true → t.bit (R.PRT_EVENTS p) i = true
theorem LinkSame.trans (h : LinkSame p s t) (h' : LinkSame p t u) : LinkSame p s u :=
  ⟨h'.1.trans h.1, fun i hi he => h'.2 i hi (h.2 i hi he)⟩
theorem CoreOnly.linkSame (hp : p < 48) (h : CoreOnly s t) : LinkSame p s t :=
  ⟨h.1 _ (by unfold R.PRT_STATUS; omega), fun i _ he => (State.bit_of_rd (h.1 _ (by unfold R.PRT_EVENTS; omega)) i).trans he⟩
theorem State.linkSame_portCnt (s : State) (p n : Nat) {k : Nat} (hk : k < 64) : LinkSame p s (s.portCnt p k n) :=
  ⟨s.portCnt_status p p n hk, fun _ hi he => s.portCnt_event p k n hi he⟩
theorem LinkSame.ended (hp : p < 48) (h : LinkSame p s t) (s0 : State) : LinkSame p s (s0.ended t) :=
  ⟨(s0.ended_rd t (settleKey_ports (by unfold R.PRT_STATUS; omega) (by unfold R.PRT_STATUS; omega))).trans h.1,
    fun i hi he => (s0.ended_bit t (settleKey_ports (by unfold R.PRT_EVENTS; omega) (by unfold R.PRT_EVENTS; omega)) i).trans (h.2 i hi he)⟩
end

/-! ### The copy in transmission, and low-power idle -/

theorem State.abandonTx_cases (s : State) (p : Nat) (count : Bool) :
    s.net.tx.lookup p = none ∧ s.abandonTx p count = s ∨ ∃ t, CoreOnly { s with net := { s.net with tx := mapDel s.net.tx p } } t ∧
      s.abandonTx p count = t.onIf count (fun s => s.portCnt p 46 1) := by
  unfold State.abandonTx
  cases h : s.net.tx.lookup p with
  | none => exact .inl ⟨rfl, rfl⟩
  | some c => exact .inr ⟨_, State.coreOnly_endCopy _ c, rfl⟩
theorem State.abandonTx_net (s : State) (p : Nat) (count : Bool) : (s.abandonTx p count).net.tx.lookup p = none ∧
    (s.abandonTx p count).net.tc = s.net.tc := by
  obtain ⟨h, e⟩ | ⟨t, ⟨-, fs, ch, hn⟩, e⟩ := s.abandonTx_cases p count
  · rw [e]; exact ⟨h, rfl⟩
  · have hnet : t.net.tx.lookup p = none ∧ t.net.tc = s.net.tc := by
      rw [hn]; exact ⟨lookup_filter_same _ _, rfl⟩
    rw [e]
    cases count
    · exact hnet
    · obtain ⟨acc, ha⟩ := t.portCnt_net p 46 1
      rw [State.onIf_true, ha]; exact hnet
theorem State.linkSame_abandonTx (s : State) {p : Nat} (count : Bool) (hp : p < 48) : LinkSame p s (s.abandonTx p count) := by
  obtain ⟨-, e⟩ | ⟨t, h, e⟩ := s.abandonTx_cases p count
  · rw [e]; exact ⟨rfl, fun _ _ he => he⟩
  · have ht : LinkSame p s t := ⟨(h.linkSame hp).1, (h.linkSame hp).2⟩
    rw [e]
    cases count
    · exact ht
    · exact ht.trans (t.linkSame_portCnt p 1 (by decide))

theorem State.lpiOff_status (s : State) (p : Nat) : (s.lpiOff p).fld (R.PRT_STATUS p) 10 9 = 0 ∧
    (s.lpiOff p).bit (R.PRT_STATUS p) 0 = s.bit (R.PRT_STATUS p) 0 :=
  ⟨s.fld_setF_same _ _ _ _ (by decide) (by decide), s.bit_setF_apart _ _ _ _ (by decide) (by decide) (by decide)⟩
theorem State.lpiOff_event (s : State) (p i : Nat) : (s.lpiOff p).bit (R.PRT_EVENTS p) i = s.bit (R.PRT_EVENTS p) i :=
  s.bit_wr_other _ _ (by unfold R.PRT_STATUS R.PRT_EVENTS; omega)
theorem any_filter_ne {β : Type} (l : List (Nat × β)) (p : Nat) : (l.filter (fun w => w.1 != p)).any (fun w => w.1 == p) = false := by
  simp

/-! ### A link comes up -/

/-- PRT_STATUS of a port whose link comes up (R118, Table 05-6). -/
def State.upStatus (s : State) (p an : Nat) : Nat :=
  let anOn := s.bit (R.PRT_MODE p) 6 && (s.portMode p == 1 || s.portMode p == 2)
  putBits (putBits (putBits (putBits (putBits (s.rd (R.PRT_STATUS p)) 0 0 1) 3 1 (s.upSpeed p an)) 6 4 (b2n anOn + 6)) 8 8 0)
    17 16 (s.fld (R.PRT_MODE p) 9 8)
/-- The link of a port is shown as up, with its event. -/
def State.upShown (s : State) (p an : Nat) : State :=
  ((s.wr (R.PRT_STATUS p) (s.upStatus p an)).setB (R.PRT_EVENTS p) 0 true).eeeRefresh p
theorem State.linkUp_eq (s : State) {p an : Nat} (hm : s.portMode p ≠ 0) (hu : s.portUp p = false) (ha : s.active = true) :
    s.linkUp p an = State.lagCheck s (s.upShown p an) := by
  unfold State.linkUp
  rw [if_neg (by simp [hm, hu, ha])]
  rfl
theorem State.upSpeed_lt (s : State) (p an : Nat) : s.upSpeed p an < 8 := by
  unfold State.upSpeed
  split
  · split <;> omega
  all_goals decide
theorem State.upStatus_fields (s : State) (p an : Nat) : (s.upStatus p an).testBit 0 = true ∧ bitsOf (s.upStatus p an) 3 1 = s.upSpeed p an := by
  unfold State.upStatus
  constructor
  · rw [testBit_putBits _ _ _ _ _ (by decide), testBit_putBits _ _ _ _ _ (by decide), testBit_putBits _ _ _ _ _ (by decide),
      testBit_putBits _ _ _ _ _ (by decide), testBit_putBits _ _ _ _ _ (by decide)]
    rfl
  · rw [bitsOf_putBits_other _ _ _ _ _ _ (by decide) (by decide), bitsOf_putBits_other _ _ _ _ _ _ (by decide) (by decide),
      bitsOf_putBits_other _ _ _ _ _ _ (by decide) (by decide), bitsOf_putBits_same _ _ _ _ (by decide)]
    exact Nat.mod_eq_of_lt (s.upSpeed_lt p an)
theorem State.upShown_changes (s : State) (p an : Nat) : ChangesOnly [R.PRT_STATUS p, R.PRT_EVENTS p, R.SWC_EVENTS] [] s (s.upShown p an) := by
  have hs : R.PRT_STATUS p ≠ R.WDN_STATUS := by unfold R.PRT_STATUS R.WDN_STATUS; omega
  exact (((ChangesOnly.refl _ _ s).wr _ List.mem_cons_self hs).setB _ _ (List.mem_cons_of_mem _ List.mem_cons_self)
    (by unfold R.PRT_EVENTS R.WDN_STATUS; omega)).setB _ _ List.mem_cons_self hs

theorem answers_linkUp {s : State} {p : Port} {an : Fin 8} (hm : s.portMode p ≠ 0) (hu : s.portUp p = false) (ha : s.active = true) :
    Answers (.linkUp p an) s (fun t => t.portUp p = true ∧ t.fld (R.PRT_STATUS p) 3 1 = s.upSpeed p an ∧ t.bit (R.PRT_EVENTS p) 0 = true ∧
      Only (among [R.PRT_STATUS p, R.PRT_EVENTS p, R.SWC_EVENTS]) [] s t) := by
  have hx : exec (.linkUp p an) s = finish s (State.lagCheck s (s.upShown p an)) := congrArg (finish s) (s.linkUp_eq hm hu ha)
  have hp := p.isLt
  have hne : R.PRT_EVENTS p ≠ R.PRT_STATUS p := by unfold R.PRT_EVENTS R.PRT_STATUS; omega
  have hlag : LinkSame p (s.upShown p an) (s.ended (State.lagCheck s (s.upShown p an))) := ((coreOnly_lagCheck s _).linkSame hp).ended hp s
  obtain ⟨hbit, hspeed⟩ := s.upStatus_fields p an
  refine answers_of_finish hx ⟨?_, ?_, ?_, ((s.upShown_changes p an).trans ?_).only_among⟩
  · refine (State.bit_of_rd hlag.1 0).trans ((State.bit_setB_apart _ _ _ (by decide) (by decide)).trans
      ((State.bit_setB_other _ _ _ _ hne).trans ?_))
    rw [State.bit, State.rd_wr_same, testBit_mod_two32 _ _ (by decide), hbit]
  · refine (State.fld_of_rd hlag.1 3 1).trans ((State.fld_setF_apart _ _ _ _ _ _ _ (by decide) (by decide) (by decide)).trans
      ((State.fld_setF_other _ _ _ _ _ _ hne).trans ?_))
    rw [State.fld, State.rd_wr_same, bitsOf_mod_two32 _ _ _ (by decide), hspeed]
  · exact hlag.2 0 (by decide) ((State.bit_setB_other _ _ _ _ hne.symm).trans (State.bit_setB_same _ _ _ _ (by decide)))
  · exact (lagCheck_changes s _).mono (by simp) (List.Subset.refl _)

/-! ### A link goes down -/

/-- PRT_STATUS of a port whose link goes down: no speed, and the receiver's lock and synchronisation only where half duplex is what was
reported (R118, Table 05-6). -/
def State.downStatus (s : State) (p : Nat) (half : Bool) : Nat :=
  putBits (putBits (s.rd (R.PRT_STATUS p)) 6 0 (14 + (if half then s.fld (R.PRT_STATUS p) 6 5 * 32 else 0))) 17 16 0
/-- The link of a port is shown as down, with its event and its count. -/
def State.downShown (s : State) (p : Nat) (half : Bool) : State :=
  ((s.wr (R.PRT_STATUS p) (s.downStatus p half)).setB (R.PRT_EVENTS p) 1 true).portCnt p 50 1
/-- The report of half duplex (R118). -/
def State.halfShown (s : State) (p : Nat) (half : Bool) : State :=
  s.onIf half (fun s => (s.setB (R.PRT_STATUS p) 8 true).setB (R.PRT_EVENTS p) 5 true)
theorem State.halfShown_up (s : State) (p : Nat) (half : Bool) : (s.halfShown p half).portUp p = s.portUp p :=
  s.onIf_keep _ _ (fun s => s.portUp p) ((State.bit_setB_other _ _ _ _ (by unfold R.PRT_EVENTS R.PRT_STATUS; omega)).trans
    (s.bit_setB_apart _ _ (by decide) (by decide)))
theorem State.linkDown_eq (s : State) {p : Nat} {half : Bool} (h : s.portUp p = true) :
    s.linkDown p half = State.lagCheck (s.halfShown p half)
      (((((s.halfShown p half).downShown p half).abandonTx p true).lpiOff p).fdbFlushPort p) := by
  have h' : (s.halfShown p half).portUp p = true := (s.halfShown_up p half).trans h
  unfold State.linkDown
  extract_lets s1 s0 k
  show (if !(s.halfShown p half).portUp p then s1 else _) = _
  rw [if_neg (by rw [h']; decide)]
  rfl
theorem State.downStatus_down (s : State) (p : Nat) (half : Bool) : (s.downStatus p half).testBit 0 = false := by
  rw [State.downStatus, testBit_putBits _ _ _ _ _ (by decide), if_neg (by decide), testBit_putBits _ _ _ _ _ (by decide), if_pos (by decide),
    Nat.testBit_zero, decide_eq_false]
  cases half
  · rw [if_neg Bool.false_ne_true]; decide
  · rw [if_pos rfl]; omega
theorem State.downShown_facts (s : State) (p : Nat) (half : Bool) :
    (s.downShown p half).bit (R.PRT_STATUS p) 0 = false ∧ (s.downShown p half).bit (R.PRT_EVENTS p) 1 = true := by
  obtain ⟨hst, hev⟩ := State.linkSame_portCnt ((s.wr (R.PRT_STATUS p) (s.downStatus p half)).setB (R.PRT_EVENTS p) 1 true) p 1
    (show 50 < 64 by decide)
  refine ⟨(State.bit_of_rd hst 0).trans ?_, hev 1 (by decide) (State.bit_setB_same _ _ _ _ (by decide))⟩
  rw [State.bit_setB_other _ _ _ _ (by unfold R.PRT_EVENTS R.PRT_STATUS; omega), State.bit, State.rd_wr_same,
    testBit_mod_two32 _ _ (by decide), s.downStatus_down p half]

theorem answers_linkDown {s : State} {p : Port} {half : Bool} (h : s.portUp p = true) : Answers (.linkDown p half) s (fun t =>
    t.portUp p = false ∧ t.bit (R.PRT_EVENTS p) 1 = true ∧ t.fld (R.PRT_STATUS p) 10 9 = 0 ∧ t.net.tx.lookup p.val = none ∧
    t.net.waking.any (fun w => w.1 == p.val) = false) := by
  have hp := p.isLt
  obtain ⟨u, hu⟩ : ∃ u, u = ((s.halfShown p half).downShown p half).abandonTx p true := ⟨_, rfl⟩
  obtain ⟨v, hv⟩ : ∃ v, v = State.lagCheck (s.halfShown p half) ((u.lpiOff p).fdbFlushPort p) := ⟨_, rfl⟩
  have hx : exec (.linkDown p half) s = finish s v := by rw [hv, hu]; exact congrArg (finish s) (s.linkDown_eq h)
  obtain ⟨hdown, hevent⟩ := (s.halfShown p half).downShown_facts p half
  obtain ⟨hst, hev⟩ := hu ▸ ((s.halfShown p half).downShown p half).linkSame_abandonTx true hp
  have hcore : CoreOnly (u.lpiOff p) v := hv ▸ (State.coreOnly_fdbFlushPort _ _).trans (coreOnly_lagCheck _ _)
  obtain ⟨hst', hev'⟩ := (hcore.linkSame hp).ended hp s
  obtain ⟨hlpi, hup⟩ := u.lpiOff_status p
  obtain ⟨-, fs, ch, hn⟩ := hcore
  refine answers_of_finish hx ⟨?_, ?_, ?_, ?_, ?_⟩
  · exact (State.bit_of_rd hst' 0).trans (hup.trans ((State.bit_of_rd hst 0).trans hdown))
  · exact hev' 1 (by decide) ((u.lpiOff_event p 1).trans (hev 1 (by decide) hevent))
  · exact (State.fld_of_rd hst' 10 9).trans hlpi
  · rw [s.ended_net, hn, hu]; exact (State.abandonTx_net _ _ _).1
  · rw [s.ended_net, hn]; exact any_filter_ne _ _

/-! ### A port reset -/

/-- The copy in transmission, the wait after LPI, the half-sent cells, the corrections and the accumulators of a port reset (R134). -/
def State.portIdle (s : State) (p : Nat) : State :=
  let s := (s.abandonTx p false).lpiOff p
  { s with net := { s.net with
    copies := s.net.copies.map (fun (c : Copy) => if c.x = p then { c with held := 0, left := 0 } else c)
    tc := s.net.tc.filter (fun (t : TcEntry) => t.port != p)
    snapAcc := s.net.snapAcc.filter (fun (e : Nat × Nat) => e.1 / 24 != p) } }
theorem State.portConfigure_net (s : State) (p : Nat) : (s.portConfigure p).net = s.net := State.onIf_keep _ _ _ State.net rfl
theorem State.portReset_coreNet (s : State) (p : Nat) :
    ∃ fs ch, (s.portReset p).net = { (s.portIdle p).net with frames := fs, chgOut := ch } := by
  unfold State.portReset
  extract_lets s0 up s1 net1 s2 s3 s4 s5
  have h5 : s5.net = (s.portIdle p).net := (s4.onIf_keep _ _ State.net rfl).trans ((s3.stepBase p).portConfigure_net p)
  obtain ⟨-, fs, ch, hn⟩ := (s5.coreOnly_fdbFlushPort p).trans (coreOnly_lagCheck s _)
  exact ⟨fs, ch, hn.trans (by rw [h5])⟩

theorem answers_portReset (s : State) (p : Port) : Answers (.portReset p) s (fun t =>
    t.net.tx.lookup p.val = none ∧ (∀ c ∈ t.net.copies, c.x = p → c.held = 0 ∧ c.left = 0) ∧
    t.net.waking.any (fun w => w.1 == p.val) = false ∧ t.net.tc = s.net.tc.filter (fun e => e.port != p.val)) := by
  have hx : exec (.portReset p) s = finish s (s.portReset p) := rfl
  obtain ⟨fs, ch, hn⟩ := s.portReset_coreNet p
  obtain ⟨htx, htc⟩ := s.abandonTx_net p false
  refine answers_of_finish hx ?_
  rw [s.ended_net, hn]
  refine ⟨htx, fun c hc hcx => ?_, any_filter_ne _ _, congrArg (List.filter _) htc⟩
  obtain ⟨d, -, rfl⟩ := List.mem_map.1 hc
  by_cases hd : d.x = p
  · rw [if_pos hd]; exact ⟨rfl, rfl⟩
  · rw [if_neg hd] at hcx; exact absurd hcx hd

end Sys2Proof.Machine
end

section
/-! SUPPORT. Received frames: MAC control frames, far-end loopback, ports that do not listen, the mate link (R119, R124, R129, R145). -/
namespace Sys2Proof.Machine

/-! ### MAC control frames -/

/-- A frame check sequence is not at once right and stomped: a word is not its own complement. -/
theorem fcsStomped_of_fcsOk {b : Bytes} (h : fcsOk b = true) : fcsStomped b = false := by
  rw [fcsOk, beq_iff_eq] at h
  rw [fcsStomped, beq_eq_false_iff_ne]
  omega
/-- The counters of a good MAC control frame: octets, size bin, control frames, good octets (Table 05-3). -/
def State.controlCount (s : State) (p l : Nat) : State :=
  (((s.portCnt p 1 l).portCnt p (6 + sizeBin l) 1).portCnt p 5 1).portCnt p 0 l
/-- A good MAC control frame is counted and goes no further. -/
theorem State.rxFrame_control (s : State) {p : Nat} {b : Bytes} (hok : fcsOk b = true) (hmin : 64 ≤ b.length) (hmax : b.length ≤ s.maxLen p)
    (het : frEt b = 0x8808) : s.rxFrame p b false = s.controlCount p b.length := by
  have hcount : s.rxCount p b false = s.controlCount p b.length := by
    unfold State.rxCount
    extract_lets l m ok s1 s2
    have h2 : s2 = (s.portCnt p 1 b.length).portCnt p (6 + sizeBin b.length) 1 := if_pos ⟨hmin, hmax⟩
    rw [if_neg (Nat.not_lt.2 hmin), if_neg (Nat.not_lt.2 hmax), if_neg Bool.false_ne_true, fcsStomped_of_fcsOk hok, if_neg Bool.false_ne_true,
      if_neg (by simp [ok, hok]), if_pos het, h2]
    rfl
  unfold State.rxFrame
  extract_lets l m good s1
  have hgood : (good && frEt b == 0x8808) = true := by simp [good, l, m, hmin, hmax, hok, het]
  rw [if_pos hgood]
  exact hcount
theorem sizeBin_le (l : Nat) : sizeBin l ≤ 6 := by unfold sizeBin; split_ifs <;> decide
theorem State.controlCount_rd (s : State) (p l : Nat) :
    (s.controlCount p l).rd (R.PRT_CNT p 1) = (s.rd (R.PRT_CNT p 1) + l) % 4294967296 ∧
    (s.controlCount p l).rd (R.PRT_CNT p 0) = (s.rd (R.PRT_CNT p 0) + l) % 4294967296 ∧
    (s.controlCount p l).rd (R.PRT_CNT p 5) = (s.rd (R.PRT_CNT p 5) + 1) % 4294967296 ∧
    (s.controlCount p l).rd (R.PRT_CNT p (6 + sizeBin l)) = (s.rd (R.PRT_CNT p (6 + sizeBin l)) + 1) % 4294967296 := by
  unfold State.controlCount
  refine ⟨?_, ?_, ?_, ?_⟩
  · rw [State.portCnt_rd_cnt _ _ _ (by decide), State.portCnt_rd_cnt _ _ _ (by decide), State.portCnt_rd_cnt _ _ _ (by omega),
      State.portCnt_rd_same]
  · rw [State.portCnt_rd_same, State.portCnt_rd_cnt _ _ _ (by decide), State.portCnt_rd_cnt _ _ _ (by omega),
      State.portCnt_rd_cnt _ _ _ (by decide)]
  · rw [State.portCnt_rd_cnt _ _ _ (by decide), State.portCnt_rd_same, State.portCnt_rd_cnt _ _ _ (by omega),
      State.portCnt_rd_cnt _ _ _ (by decide)]
  · rw [State.portCnt_rd_cnt _ _ _ (by omega), State.portCnt_rd_cnt _ _ _ (by omega), State.portCnt_rd_same,
      State.portCnt_rd_cnt _ _ _ (by omega)]

theorem State.ended_cnt (s0 s : State) {p k : Nat} (hp : p < 48) (hk : k < 64) : (s0.ended s).rd (R.PRT_CNT p k) = s.rd (R.PRT_CNT p k) :=
  s0.ended_rd s (settleKey_ports (by unfold R.PRT_CNT; omega) (by unfold R.PRT_CNT; omega))

section
variable {s : State} {p : Xport} {f : RxFrame}

/-- What a frame does at a crossbar port (R124, R145, Table 05-5). -/
theorem exec_rxFrame_port (hp : p.val < 48) : exec (.rxFrame p f) s = finish s
    (if s.portUp p && s.fld (R.PRT_CTRL p) 1 0 == 2 then s.emit (.frame p f.bytes)
     else s.onIf (s.portListens p) fun s => s.rxFrame p f.bytes f.codeErr) := by
  show finish s (if p.val = 50 then _ else if 48 ≤ p.val then _ else _) = _
  rw [if_neg (by omega), if_neg (by omega)]

theorem answers_rxFrame_control (hp : p.val < 48) (hl : s.portListens p = true) (hok : fcsOk f.bytes = true) (hc : f.codeErr = false)
    (hmin : 64 ≤ f.bytes.length) (hmax : f.bytes.length ≤ s.maxLen p) (het : frEt f.bytes = 0x8808) : Answers (.rxFrame p f) s (fun t =>
      t.rd (R.PRT_CNT p 1) = (s.rd (R.PRT_CNT p 1) + f.bytes.length) % 4294967296 ∧
      t.rd (R.PRT_CNT p 0) = (s.rd (R.PRT_CNT p 0) + f.bytes.length) % 4294967296 ∧
      t.rd (R.PRT_CNT p 5) = (s.rd (R.PRT_CNT p 5) + 1) % 4294967296 ∧
      t.rd (R.PRT_CNT p (6 + sizeBin f.bytes.length)) = (s.rd (R.PRT_CNT p (6 + sizeBin f.bytes.length)) + 1) % 4294967296) := by
  obtain ⟨hup, hloop⟩ := Bool.and_eq_true_iff.1 hl
  have hx : exec (.rxFrame p f) s = finish s (s.controlCount p f.bytes.length) := by
    rw [exec_rxFrame_port hp, hup, beq_iff_eq.1 hloop, if_neg (by decide), hl, State.onIf_true, hc, s.rxFrame_control hok hmin hmax het]
  have hbin := sizeBin_le f.bytes.length
  refine answers_of_finish hx ?_
  rw [s.ended_cnt _ hp (by decide), s.ended_cnt _ hp (by decide), s.ended_cnt _ hp (by decide), s.ended_cnt _ hp (by omega)]
  exact s.controlCount_rd p _

/-! ### Other frames -/

theorem answers_rxFrame_loop (hp : p.val < 48) (hu : s.portUp p = true) (hc : s.fld (R.PRT_CTRL p) 1 0 = 2) :
    Answers (.rxFrame p f) s (fun t => t.out = .frame p f.bytes :: s.out ∧ Only (fun _ => false) [.out] s t) := by
  have hx : exec (.rxFrame p f) s = finish s (s.emit (.frame p f.bytes)) := by
    rw [exec_rxFrame_port hp, hu, hc]; rfl
  exact answers_of_finish hx ⟨s.ended_out _, ((ChangesOnly.refl [] _ s).emit _ List.mem_cons_self).only fun _ hk => nomatch hk⟩
theorem answers_rxFrame_deaf (h50 : p.val ≠ 50) (h : 48 ≤ p.val ∨ s.portUp p = false ∨ s.fld (R.PRT_CTRL p) 1 0 = 1) :
    Answers (.rxFrame p f) s (Only (fun _ => false) [] s) := by
  refine answers_nothing ?_
  by_cases hp : p.val < 48
  · have hdeaf : (s.portUp p && s.fld (R.PRT_CTRL p) 1 0 == 2) = false ∧ s.portListens p = false := by
      rw [State.portListens]
      obtain h | h | h := h
      · omega
      · rw [h]; exact ⟨rfl, rfl⟩
      · rw [h]; exact ⟨Bool.and_false _, Bool.and_false _⟩
    rw [exec_rxFrame_port hp, hdeaf.1, hdeaf.2]; rfl
  · show finish s (if p.val = 50 then _ else if 48 ≤ p.val then s else _) = _
    rw [if_neg h50, if_pos (by omega)]
theorem answers_rxFrame_mate (h : s.active = false ∨ f.bytes.length < 64 ∨ fcsOk f.bytes = false ∨ f.codeErr = true) :
    Answers (.rxFrame 50 f) s (Only (fun _ => false) [] s) := by
  have hx : exec (.rxFrame 50 f) s = finish s (s.mateFrame f) := rfl
  refine answers_nothing (hx.trans (congrArg (finish s) (if_neg ?_)))
  rw [Bool.not_eq_true]
  obtain h | h | h | h := h
  · rw [h]; rfl
  · rw [decide_eq_false (Nat.not_le.2 h), Bool.and_false]; rfl
  · rw [h, Bool.and_false]; rfl
  · rw [h]; exact Bool.and_false _
end

end Sys2Proof.Machine
end

section
/-! SUPPORT. The start of a transmission (R126, R140, R146, R154): the copy is in transmission at its port. -/
namespace Sys2Proof.Machine

/-! ### Operations that leave the copies in transmission -/

theorem State.mirTime_tx (s : State) (x dir : Nat) : (s.mirTime x dir).2.net.tx = s.net.tx := by
  unfold State.mirTime
  extract_lets v f
  split
  · rfl
  · split <;> rfl
theorem State.iommuFault_net (s : State) (f : Nat) (w : Bool) (a : Nat) : (s.iommuFault f w a).net = s.net := by
  unfold State.iommuFault
  extract_lets s1 s2 s3
  split <;> rfl
/-- A write of PF0, whose pages are not logged. -/
theorem State.dmaWrite_net (s : State) (a : Nat) (d : Bytes) : (s.dmaWrite 0 a d).2.net = s.net := by
  unfold State.dmaWrite
  split
  · exact s.iommuFault_net _ _ _
  · exact foldl_keep (fun (r : State × Bytes) (q : Nat × Nat) => (r.1.emit (.dmaWrite q.1 (r.2.take q.2)), r.2.drop q.2))
      (fun r => r.1.net) (fun _ _ => rfl) _ _
theorem State.mirror1_tx (s : State) (x dir : Nat) (b : Bytes) (len : Nat) (bad ct trunc : Bool) (cls vid : Nat) :
    (s.mirror1 x dir b len bad ct trunc cls vid).net.tx = s.net.tx := by
  unfold State.mirror1
  extract_lets m n net1 s1 size h dropped net2 flags
  split
  · rfl
  · split
    · rfl
    · split
      · exact State.onIf_keep _ _ _ (fun s => s.net.tx) rfl
      · split
        next ts s2 hs2 =>
        extract_lets e
        have h2 : s2.net.tx = s.net.tx := (congrArg (fun r => r.2.net.tx) hs2).symm.trans (s1.mirTime_tx x dir)
        have h3 : (s2.dmaWrite 0 (s2.rd64 R.SWC_MIR_BASE_LO + 160 * h) e).2.net.tx = s.net.tx :=
          (congrArg Net.tx (s2.dmaWrite_net _ e)).trans h2
        split
        next s3 hs3 => rw [hs3] at h3; exact h3
        next s3 hs3 => rw [hs3] at h3; exact h3
theorem State.wireOut_net (s : State) (c : Copy) (b : Bytes) : (s.wireOut c b).net = s.net := by
  unfold State.wireOut
  split
  · rfl
  · split <;> rfl
theorem lookup_mapPut_same {β : Type} (l : List (Nat × β)) (k : Nat) (v : β) : (mapPut l k v).lookup k = some v := by
  rw [mapPut, List.lookup_cons, beq_self_eq_true]

/-! ### The copy that begins -/

theorem State.beginTx_tx (s : State) {c : Copy} {f : Sys2Proof.Machine.Frm} (h : (s.takeCopy c).frameOf c.fid = some f) :
    ∃ d, (s.beginTx c).net.tx.lookup c.x = some d ∧ d.fid = c.fid ∧ d.cls = c.cls := by
  unfold State.beginTx
  extract_lets s1
  split
  next hnone => exact absurd (h.symm.trans hnone) (Option.some_ne_none f)
  next g _ =>
    split
    next b0 s2 _ =>
    extract_lets b s3 d net4 s4 s5 s6 others host7 s7
    have h4 : s4.net.tx.lookup c.x = some d := lookup_mapPut_same _ _ _
    have h5 : s5.net.tx = s4.net.tx := s4.onIf_keep _ _ (fun s => s.net.tx) (by obtain ⟨acc, ha⟩ := s4.portCnt_net d.x 43 1; rw [ha])
    have h6 : s6.net.tx = s5.net.tx := s5.mirror1_tx _ _ _ _ _ _ _ _ _
    have h7 : s7.net = s6.net := by simp only [s7]; split <;> rfl
    refine ⟨d, ?_, rfl, rfl⟩
    have hend : ∀ t : State, t.net = s7.net → t.net.tx.lookup c.x = some d := fun t ht => by rw [ht, h7, h6, h5, h4]
    split
    · exact hend _ rfl
    · exact hend _ (s7.wireOut_net _ _)

end Sys2Proof.Machine
end

section
/-! SUPPORT. Low-power idle (R127, R128). -/
namespace Sys2Proof.Machine

/-! ### The scheduler of a port whose queues are empty -/

section
variable {s : State} {x : Nat}

theorem State.cleanPort_of_empty (h : ∀ c, s.queue x c = []) : s.cleanPort x = s := by
  have hhead : ∀ c n, s.cleanHead x c n = s := fun c n => by
    cases n with
    | zero => rfl
    | succ n => rw [State.cleanHead, h c]; rfl
  exact List.foldlRecOn (motive := fun t => t = s) _ _ rfl fun t ht c _ => by rw [ht, hhead]
theorem State.pick_of_empty (h : ∀ c, s.queue x c = []) : s.pick x (fun c => (s.queue x c).head?) = (none, s) := by
  have hhead : (fun c => (s.queue x c).head?) = fun _ => none := funext fun c => by rw [h c]; rfl
  rw [hhead, State.pick, List.findSome?_eq_none_iff.2 fun _ _ => rfl]
  exact if_neg (by simp)
theorem State.sched_of_empty (h : ∀ c, s.queue x c = []) (ok : Copy → Bool) : s.sched x ok = s := by
  unfold State.sched
  split
  · rfl
  · rw [State.cleanPort_of_empty h]
    dsimp only
    rw [State.pick_of_empty h]
end

/-! ### The wait after LPI -/

/-- The wait after LPI of a port is over. -/
def State.wakeOver (s : State) (p : Nat) : State := { s with net := { s.net with waking := s.net.waking.filter (fun w => w.1 != p) } }

/-- The copy that ended LPI, while the port can send it. -/
def State.wakeCopy (s : State) (p : Nat) (fid : Option Nat) : Option Copy :=
  if s.canSend p then s.net.copies.find? (fun c => c.x == p && some c.fid == fid) else none
theorem State.lpiWake_eq (s : State) {p : Nat} {w : Nat × Option Nat} (hw : s.net.waking.find? (fun w => w.1 == p) = some w) :
    s.lpiWake p = (((s.wakeOver p).cleanPort p).wakeCopy p w.2).elim (((s.wakeOver p).cleanPort p).sched p fun _ => true)
      ((s.wakeOver p).cleanPort p).beginTx := by
  unfold State.lpiWake
  split
  next hnone => exact absurd (hw.symm.trans hnone) (Option.some_ne_none w)
  next v hv =>
    obtain rfl : w = v := Option.some.inj (hw.symm.trans hv)
    extract_lets net1 s1 s2
    have e : (s.wakeOver p).cleanPort p = s2 := rfl
    rw [e]
    clear_value s2
    split
    next c hc => rw [show s2.wakeCopy p w.2 = some c from hc]; rfl
    next hc => rw [show s2.wakeCopy p w.2 = none from hc]; rfl
theorem State.wakeCopy_of_empty {s : State} {p : Nat} (h : ∀ c, s.queue p c = []) (fid : Option Nat) : s.wakeCopy p fid = none := by
  have hfind : s.net.copies.find? (fun c => c.x == p && some c.fid == fid) = none := by
    refine List.find?_eq_none.2 fun c hc hsel => ?_
    have hmem : c ∈ s.queue p c.cls := List.mem_filter.2 ⟨hc, by rw [(Bool.and_eq_true_iff.1 hsel).1, beq_self_eq_true]; rfl⟩
    rw [h] at hmem
    exact List.not_mem_nil hmem
  rw [State.wakeCopy, hfind, ite_self]
/-- With nothing queued for the port the wait ends and no copy starts. -/
theorem State.lpiWake_of_empty {s : State} {p : Nat} (hw : s.net.waking.any (fun w => w.1 == p) = true) (h : ∀ c, s.queue p c = []) :
    s.lpiWake p = s.wakeOver p := by
  have hq : ∀ c, (s.wakeOver p).queue p c = [] := h
  obtain ⟨w, hfind⟩ : ∃ w, s.net.waking.find? (fun w => w.1 == p) = some w := by
    obtain ⟨w, hmem, hsel⟩ := List.any_eq_true.1 hw
    exact Option.isSome_iff_exists.1 (List.find?_isSome.2 ⟨w, hmem, hsel⟩)
  rw [s.lpiWake_eq hfind, State.cleanPort_of_empty hq, State.wakeCopy_of_empty hq]
  exact State.sched_of_empty hq _

theorem answers_lpiWakeEnd_empty {s : State} {p : Port} (hw : s.net.waking.any (fun w => w.1 == p.val) = true)
    (h : ∀ c, s.queue p c = []) : Answers (.lpiWakeEnd p) s (fun t =>
      t.net = { s.net with waking := s.net.waking.filter (fun w => w.1 != p.val) } ∧ Only (fun _ => false) [.net] s t) := by
  have hx : exec (.lpiWakeEnd p) s = finish s (s.wakeOver p) := congrArg (finish s) (State.lpiWake_of_empty hw h)
  exact answers_of_finish hx ⟨s.ended_net _, ((ChangesOnly.refl [] _ s).with_net _ List.mem_cons_self).only fun _ hk => nomatch hk⟩
theorem answers_lpiWakeEnd_copy {s : State} {p : Port} {w : Nat × Option Nat} {c : Copy} {f : Sys2Proof.Machine.Frm}
    (hw : s.net.waking.find? (fun w => w.1 == p.val) = some w) (hclean : (s.wakeOver p).cleanPort p = s.wakeOver p)
    (hsend : (s.wakeOver p).canSend p = true) (hc : s.net.copies.find? (fun c => c.x == p.val && some c.fid == w.2) = some c)
    (hf : s.frameOf c.fid = some f) : Answers (.lpiWakeEnd p) s (fun t =>
      ∃ d, t.net.tx.lookup p.val = some d ∧ d.fid = c.fid ∧ d.cls = c.cls) := by
  have hwake : (s.wakeOver p).wakeCopy p w.2 = some c := (if_pos hsend).trans hc
  have hx : exec (.lpiWakeEnd p) s = finish s ((s.wakeOver p).beginTx c) := by
    refine congrArg (finish s) ((s.lpiWake_eq hw).trans ?_)
    rw [hclean, hwake]; rfl
  have hsel : (c.x == p.val && some c.fid == w.2) = true := List.find?_some (p := fun c : Copy => c.x == p.val && some c.fid == w.2) hc
  have hport : c.x = p.val := beq_iff_eq.1 (Bool.and_eq_true_iff.1 hsel).1
  obtain ⟨d, htx, hfid, hcls⟩ := State.beginTx_tx (s.wakeOver p) (c := c) hf
  rw [hport] at htx
  exact answers_of_finish hx ⟨d, by rw [s.ended_net, htx], hfid, hcls⟩

/-! ### The start of LPI, sent and received -/

theorem State.ended_status (s0 s : State) {p : Nat} (hp : p < 48) (i : Nat) :
    (s0.ended s).bit (R.PRT_STATUS p) i = s.bit (R.PRT_STATUS p) i :=
  s0.ended_bit s (settleKey_ports (by unfold R.PRT_STATUS; omega) (by unfold R.PRT_STATUS; omega)) i

theorem answers_lpiEnter {s : State} {p : Port} (h : s.lpiMay p = true) : Answers (.lpiEnter p) s (fun t =>
    t.bit (R.PRT_STATUS p) 9 = true ∧ t.out = .lpi p true :: s.out ∧
    t.rd (R.PRT_CNT p 48) = (s.rd (R.PRT_CNT p 48) + 1) % 4294967296) := by
  obtain ⟨u, hu⟩ : ∃ u, u = s.setB (R.PRT_STATUS p) 9 true := ⟨_, rfl⟩
  have hx : exec (.lpiEnter p) s = finish s ((u.portCnt p 48 1).emit (.lpi p true)) := by
    show finish s (s.onIf (s.lpiMay p) _) = _
    rw [h, hu]; rfl
  have hout : (u.portCnt p 48 1).out = s.out := ((u.portCnt_changes p 48 1).2 .out (by decide)).trans (by rw [hu]; rfl)
  refine answers_of_finish hx ⟨?_, ?_, ?_⟩
  · rw [s.ended_status _ p.isLt, State.bit_emit, State.bit_of_rd (u.portCnt_status p p 1 (by decide)), hu,
      State.bit_setB_same _ _ _ _ (by decide)]
  · rw [s.ended_out, ← hout]; rfl
  · rw [s.ended_cnt _ p.isLt (by decide), State.rd_emit, State.portCnt_rd_same, hu, State.rd_setB,
      if_neg (by unfold R.PRT_STATUS R.PRT_CNT; omega)]
theorem answers_lpiReceived {s : State} {p : Port} (h : s.portUp p = true) : Answers (.lpiReceived p) s (fun t =>
    t.bit (R.PRT_STATUS p) 10 = true ∧ t.rd (R.PRT_CNT p 20) = (s.rd (R.PRT_CNT p 20) + 1) % 4294967296) := by
  have hx : exec (.lpiReceived p) s = finish s ((s.setB (R.PRT_STATUS p) 10 true).portCnt p 20 1) := by
    show finish s (s.onIf (s.portUp p) _) = _
    rw [h]; rfl
  refine answers_of_finish hx ⟨?_, ?_⟩
  · rw [s.ended_status _ p.isLt, State.bit_of_rd (State.portCnt_status _ p p 1 (by decide)), State.bit_setB_same _ _ _ _ (by decide)]
  · rw [s.ended_cnt _ p.isLt (by decide), State.portCnt_rd_same, State.rd_setB, if_neg (by unfold R.PRT_STATUS R.PRT_CNT; omega)]

/-- Settles O19: what the end of a copy, the flush of the FDB and the watch over the aggregates write lies above the ports' pages, so status,
events and counters are those that the command itself leaves; a copy that starts after LPI is in transmission at its port. -/
theorem portsAndLinks : Obligations.PortsAndLinks := by
  unfold Obligations.PortsAndLinks
  refine ⟨?_, ?_, ?_, ?_, ?_, ?_, ?_, ?_, ?_, ?_, ?_⟩
  · exact fun s p an hm hu ha => answers_linkUp hm hu ha
  · exact fun s p half h => answers_linkDown h
  · exact fun s p => answers_portReset s p
  · exact fun s p f hp hl hok hc hmin hmax het => answers_rxFrame_control hp hl hok hc hmin hmax het
  · exact fun s p f hp hu hc => answers_rxFrame_loop hp hu hc
  · exact fun s p f h50 h => answers_rxFrame_deaf h50 h
  · exact fun s f h => answers_rxFrame_mate h
  · exact fun s p h => answers_lpiEnter h
  · exact fun s p hw h => answers_lpiWakeEnd_empty hw h
  · rintro s u p w c f hw rfl hclean hsend hc hf
    exact answers_lpiWakeEnd_copy hw hclean hsend hc hf
  · exact fun s p h => answers_lpiReceived h

end Sys2Proof.Machine
end

section
/-! SUPPORT. The end of a transmission to P48 (R135, R145), where the copy in transmission names no class of the switch. -/
namespace Sys2Proof.Machine

/-- A copy to VI 0 at P48, of no class of the switch: there are 8 (R137). The depth of the queue it names is the register VI_GEN of VI 0. -/
def strayTxCopy : Copy :=
  { fid := 0, x := 48, cls := 0x1AFB3F1, ct := false, charge := 1, bytes := [], stomp := false, vi := some (0, 1), held := 0 }
/-- The copy is in transmission at P48, with the generation tag that its VI holds. -/
def strayTx : State := { regs := [(R.VI_GEN 0, 1)], net := { tx := [(48, strayTxCopy)] } }

/-- The charge of the copy is taken from the generation tag of its own VI: the frame is discarded for its old tag. -/
theorem strayTx_inbox : (strayTx.txEnd 48).net.inbox = [] := by decide +kernel

/-- Refutes O20: COPY_TX_END at P48 hands over no frame where the copy in transmission names a class that the switch does not have,
whose queue depth is the generation tag of the copy's VI. The clause takes any copy; the classes of the copies that the switch makes
are 0 to 7, and then no such register is met. -/
theorem not_transmission : ¬ Obligations.Transmission := by
  unfold Obligations.Transmission
  rintro ⟨-, -, -, hend, -, -⟩
  obtain ⟨t, ht, -, -, m, hm, -⟩ := hend strayTx 48 strayTxCopy rfl rfl 0 1 rfl rfl
  have hexec : exec (.copyTxEnd 48) strayTx = finish strayTx (strayTx.txEnd 48) := rfl
  have hinbox : t.net.inbox = [] := by
    rw [hexec, finish_ended] at ht
    rw [← Host.Outcome.next.inj ht, State.ended_net, strayTx_inbox]
  rw [hinbox] at hm
  exact List.append_ne_nil_of_right_ne_nil _ (List.cons_ne_nil m []) hm.symm

end Sys2Proof.Machine
end

section
/-! SUPPORT. What the passing of clocks leaves (R62, R127, R143, R159), as the frame of a command that runs the clocks to an instant. -/
namespace Sys2Proof.Machine

/-! ### The switch's own state -/

theorem State.tbEdges_net (s : State) (n : Nat) : (s.tbEdges n).net = s.net := foldl_keep (State.tbRun n) State.net (fun _ _ => rfl) _ _
theorem State.moveView_net (s : State) (v : Nat) (o : Int) : (s.moveView v o).net = s.net := State.onIf_keep _ _ _ State.net rfl
theorem State.edgeView_net (es : List TmuEdge) (s : State) (v : Nat) : (s.edgeView es v).net = s.net := by
  unfold State.edgeView
  extract_lets set off stp o1 o2
  split
  · rfl
  · exact (State.onIf_keep _ _ _ State.net rfl).trans (s.moveView_net v _)
theorem State.edgeHold_net (es : List TmuEdge) (s : State) (b : Nat) : (s.edgeHold es b).net = s.net :=
  s.onIf_keep _ _ State.net (s.onIf_keep _ _ State.net rfl)
theorem State.edgeApply_net (s : State) : s.edgeApply.net = s.net :=
  (foldl_keep _ State.net (State.edgeHold_net _) _ _).trans (foldl_keep _ State.net (State.edgeView_net _) _ _)
theorem State.edges_net (s : State) (n : Nat) :
    (if n = 0 || s.tmu.edge.isEmpty then s.tbEdges n else (s.tbEdges 1).edgeApply.tbEdges (n - 1)).net = s.net := by
  split
  · exact s.tbEdges_net n
  · rw [State.tbEdges_net, State.edgeApply_net, State.tbEdges_net]
theorem State.toksFreeIn_net (s : State) (l : Lane) : (s.toksFreeIn l).net = s.net := by
  unfold State.toksFreeIn
  split
  · cases l <;> rfl
  · rfl
/-- Low-power idle counts its nanoseconds and the snapshots of TX_LPI_TIME, and leaves the rest of the switch's own state. -/
theorem State.lpiTime_net (s : State) (n : Nat) : ∃ ns acc, (s.lpiTime n).net = { s.net with lpiNs := ns, snapAcc := acc } := by
  refine List.foldlRecOn (motive := fun t : State => ∃ ns acc, t.net = { s.net with lpiNs := ns, snapAcc := acc }) _ _
    ⟨s.net.lpiNs, s.net.snapAcc, rfl⟩ ?_
  rintro t ⟨ns, acc, ht⟩ p -
  dsimp only
  obtain ⟨acc', h⟩ := State.portCnt_net { t with net := { t.net with lpiNs := mapPut t.net.lpiNs p ((mapGet t.net.lpiNs p 0 + n) % 1000) } } p 49
    ((mapGet t.net.lpiNs p 0 + n) / 1000)
  exact ⟨_, acc', by rw [h, ht]⟩
theorem State.elapse_net (s : State) (n : Nat) : ∃ ns acc, (s.elapse n).net = { s.net with lpiNs := ns, snapAcc := acc } := by
  unfold State.elapse
  extract_lets a s1 s2 s3 es
  have h1 : s1.net = s.net := s.onIf_keep _ _ State.net rfl
  split
  · exact ⟨s.net.lpiNs, s.net.snapAcc, h1⟩
  · obtain ⟨ns, acc, h2⟩ : ∃ ns acc, s2.net = { s.net with lpiNs := ns, snapAcc := acc } := by
      rw [← h1, ← s1.edges_net n]
      exact State.lpiTime_net _ n
    have h3 : s3.net = s2.net := (State.toksFreeIn_net _ _).trans (s2.toksFreeIn_net .a)
    refine ⟨ns, acc, Eq.trans ?_ (h3.trans h2)⟩
    split
    · rfl
    · exact foldl_keep (fun (s : State) e => s.addSatF (R.SWC_FDB3 e) 15 0 a) State.net (fun _ _ => rfl) _ _

/-! ### The frame -/

theorem State.elapse_kept (s : State) (n : Nat) {p : Part} (h : p ∉ clockParts) : p.kept s (s.elapse n) := by
  cases p
  case now | pwr | tmu | net | laneA | laneB => exact absurd (by decide) h
  case evt => exact ⟨s.elapse_evt n, s.bit_elapse n _ 3 (by decide)⟩
  all_goals simp only [Part.kept, State.elapse_paths, State.elapse_held, State.elapse_out, State.elapse_ldr, State.elapse_host,
    State.elapse_key, State.elapse_ing, State.elapse_slu, State.elapse_xl, State.elapse_nrg, State.elapse_nrgA, State.elapse_nrgB,
    State.elapse_rcd, State.elapse_recA, State.elapse_recB, State.elapse_wdn, State.elapse_sep, State.elapse_rtc]
/-- A command that runs the clocks and then changes registers of a list: the clocks' own registers and parts, and those. -/
theorem only_of_elapse {f : Nat → Bool} {l : List Nat} {ps : List Part} {s t : State} {n : Nat} (h : ChangesOnly l ps (s.elapse n) t)
    (hps : ps ⊆ clockParts) (hf : ∀ k, f k = false → clockKey k = false ∧ k ∉ l) : Only f clockParts s (s.ended t) :=
  only_of_kept (fun k hk => (h.1 k (hf k hk).2).trans (s.rd_elapse n k (hf k hk).1))
    fun p hp => Part.kept_trans (s.elapse_kept n hp) (h.2 p fun hm => hp (hps hm))

end Sys2Proof.Machine
end

section
/-! SUPPORT. The crossbar (R139, R140): a cell time moves pointers and cells, and no copy. -/
namespace Sys2Proof.Machine

theorem State.drain_net (s : State) : ∃ tx, s.drain.net = { s.net with tx := tx } := by
  refine List.foldlRecOn (motive := fun t : State => ∃ tx, t.net = { s.net with tx := tx }) _ _ ⟨s.net.tx, rfl⟩ ?_
  rintro t ⟨tx, ht⟩ e -
  dsimp only
  split
  · exact ⟨tx, ht⟩
  · exact ⟨_, by rw [State.creditBack, State.setF_net, State.setF_net, ht]⟩

/-- The pointers of the crossbar, and what names each queued copy: its frame, its output and its class. -/
def State.xbarView (s : State) : List Nat × List Nat × List (Nat × Nat × Nat) :=
  (s.net.grant, s.net.accept, s.net.copies.map fun c => (c.fid, c.x, c.cls))
theorem State.crossCell_xbarView (s : State) (m : Nat × Nat) : (s.crossCell m).xbarView = s.xbarView := by
  unfold State.crossCell
  extract_lets cls
  split
  · rfl
  next c _ =>
    extract_lets up
    have hup : ∀ q, ((up q).fid, (up q).x, (up q).cls) = (q.fid, q.x, q.cls) := fun q => by
      simp only [up]; split <;> rfl
    unfold State.xbarView
    simp only [State.creditTake, State.setF_net, List.map_map]
    exact congrArg (fun l => (_, _, l)) (List.map_congr_left fun q _ => hup q)

theorem answers_crossbarCellTime (s : State) : Answers .crossbarCellTime s (fun t =>
    t.net.grant = (s.drain.xbarRound []).foldl (fun g m => modAt g m.2 (fun _ => (m.1 + 1) % 51)) s.net.grant ∧
    t.net.accept = (s.drain.xbarRound []).foldl (fun a m => modAt a m.1 (fun _ => (m.2 + 1) % 51)) s.net.accept ∧
    t.net.copies.map (fun c => (c.fid, c.x, c.cls)) = s.net.copies.map (fun c => (c.fid, c.x, c.cls))) := by
  have hx : exec .crossbarCellTime s = finish s s.cellTime := rfl
  obtain ⟨tx, hn⟩ := s.drain_net
  have hview : s.cellTime.xbarView = _ := foldl_keep _ State.xbarView State.crossCell_xbarView _ _
  unfold State.xbarView at hview
  simp only [hn, Prod.mk.injEq] at hview
  refine answers_of_finish hx ?_
  rw [s.ended_net]
  exact hview

end Sys2Proof.Machine
end

section
/-! SUPPORT. The ageing of learned entries (R143). -/
namespace Sys2Proof.Machine

/-! ### The removal of an entry -/

theorem State.fdbRemove_changes (s : State) (e : Nat) :
    ChangesOnly [R.SWC_FDB0 e, R.SWC_FDB1 e, R.SWC_FDB2 e, R.SWC_FDB3 e, R.SWC_FDB_COUNT] [] s (s.fdbRemove e) := by
  have hfar : R.SWC_FDB0 e ≠ R.WDN_STATUS ∧ R.SWC_FDB1 e ≠ R.WDN_STATUS ∧ R.SWC_FDB2 e ≠ R.WDN_STATUS ∧ R.SWC_FDB3 e ≠ R.WDN_STATUS := by
    unfold R.SWC_FDB0 R.SWC_FDB1 R.SWC_FDB2 R.SWC_FDB3 R.WDN_STATUS; omega
  obtain ⟨h0, h1, h2, h3⟩ := hfar
  exact (((((ChangesOnly.refl _ _ s).wr _ (by simp) h0).wr _ (by simp) h1).wr _ (by simp) h2).wr _ (by simp) h3).wr _ (by simp) (by decide)
/-- The four words of a removed entry are 0, and one entry less is counted. -/
theorem State.fdbRemove_rd (s : State) (e : Nat) :
    (s.fdbRemove e).rd (R.SWC_FDB0 e) = 0 ∧ (s.fdbRemove e).rd (R.SWC_FDB1 e) = 0 ∧ (s.fdbRemove e).rd (R.SWC_FDB2 e) = 0 ∧
    (s.fdbRemove e).rd (R.SWC_FDB3 e) = 0 ∧ (s.fdbRemove e).rd R.SWC_FDB_COUNT = (s.rd R.SWC_FDB_COUNT - 1) % 4294967296 := by
  unfold State.fdbRemove
  simp only [State.rd_wr, R.SWC_FDB0, R.SWC_FDB1, R.SWC_FDB2, R.SWC_FDB3, R.SWC_FDB_COUNT]
  refine ⟨?_, ?_, ?_, ?_, ?_⟩ <;> split_ifs <;> omega

/-! ### FDB_AGE_OUT -/

section
variable {s : State} {i : Fin 32768}

/-- The seconds of an entry count clocks. -/
theorem clockKey_fdb3 (i : Fin 32768) : clockKey (R.SWC_FDB3 i) = true := by
  rw [clockKey, decide_eq_true (show 0x1480000 ≤ R.SWC_FDB3 i by unfold R.SWC_FDB3; omega),
    decide_eq_true (show R.SWC_FDB3 i < 0x1500000 by unfold R.SWC_FDB3; omega), Bool.and_true, Bool.or_true]
/-- A learned entry ages out: the clocks run to the end of its seconds, then it is removed. -/
theorem State.fdbAgeOut_eq {e : Nat} (hv : s.bit (R.SWC_FDB1 e) 28 = true) (hs : s.bit (R.SWC_FDB1 e) 29 = false)
    (hg : s.bit (R.SWC_FDB1 e) 30 = false) (ha : s.fld R.SWC_FDB_AGE 15 0 ≠ 0) :
    s.fdbAgeOut e = (s.elapse ((s.fld R.SWC_FDB_AGE 15 0 - s.fld (R.SWC_FDB3 e) 15 0) * 1000000000)).fdbRemove e := by
  unfold State.fdbAgeOut
  extract_lets age
  rw [hv, hs, hg, if_neg (by simpa [age] using ha)]

theorem answers_fdbAgeOut (hv : s.bit (R.SWC_FDB1 i) 28 = true) (hs : s.bit (R.SWC_FDB1 i) 29 = false) (hg : s.bit (R.SWC_FDB1 i) 30 = false)
    (ha : s.fld R.SWC_FDB_AGE 15 0 ≠ 0) : Answers (.fdbAgeOut i) s (fun t =>
      t.rd (R.SWC_FDB0 i) = 0 ∧ t.rd (R.SWC_FDB1 i) = 0 ∧ t.rd (R.SWC_FDB2 i) = 0 ∧ t.rd (R.SWC_FDB3 i) = 0 ∧
      t.rd R.SWC_FDB_COUNT = (s.rd R.SWC_FDB_COUNT - 1) % 4294967296 ∧
      (s.lowTide = false → t.now = s.now + (s.fld R.SWC_FDB_AGE 15 0 - s.fld (R.SWC_FDB3 i) 15 0) * 1000000000) ∧
      Only (fun k => clockKey k || among [R.SWC_FDB0 i, R.SWC_FDB1 i, R.SWC_FDB2 i, R.SWC_FDB_COUNT] k) clockParts s t) := by
  obtain ⟨n, hn⟩ : ∃ n, n = (s.fld R.SWC_FDB_AGE 15 0 - s.fld (R.SWC_FDB3 i) 15 0) * 1000000000 := ⟨_, rfl⟩
  have hx : exec (.fdbAgeOut i) s = finish s ((s.elapse n).fdbRemove i) := by
    rw [hn]; exact congrArg (finish s) (State.fdbAgeOut_eq hv hs hg ha)
  obtain ⟨h0, h1, h2, h3, hc⟩ := (s.elapse n).fdbRemove_rd i
  have hend : ∀ {k}, 0x1480000 ≤ k ∧ k < 0x1500000 → (s.ended ((s.elapse n).fdbRemove i)).rd k = ((s.elapse n).fdbRemove i).rd k :=
    fun h => s.ended_rd _ (settleKey_ports (by omega) (by omega))
  have hchg := (s.elapse n).fdbRemove_changes i
  refine answers_of_finish hx ⟨?_, ?_, ?_, ?_, ?_, fun hl => ?_, only_of_elapse hchg (List.nil_subset _) fun k hk => ?_⟩
  · exact (hend (by unfold R.SWC_FDB0; omega)).trans h0
  · exact (hend (by unfold R.SWC_FDB1; omega)).trans h1
  · exact (hend (by unfold R.SWC_FDB2; omega)).trans h2
  · exact (hend (by unfold R.SWC_FDB3; omega)).trans h3
  · rw [s.ended_rd _ (by decide), hc, s.rd_elapse n _ (by decide)]
  · rw [s.ended_now, hchg.2 .now List.not_mem_nil, s.elapse_now n hl, hn]
  · obtain ⟨hclock, hlist⟩ := Bool.or_eq_false_iff.1 hk
    have hage : k ≠ R.SWC_FDB3 i := (clockKey_ne hclock (clockKey_fdb3 i)).symm
    have hmem : k ∉ [R.SWC_FDB0 i, R.SWC_FDB1 i, R.SWC_FDB2 i, R.SWC_FDB_COUNT] := fun hm => by
      rw [among, List.contains_iff_mem.2 hm] at hlist; exact Bool.false_ne_true hlist.symm
    simp only [List.mem_cons, List.not_mem_nil, or_false, not_or] at hmem ⊢
    obtain ⟨n0, n1, n2, nc⟩ := hmem
    exact ⟨hclock, n0, n1, n2, hage, nc⟩
theorem answers_fdbAgeOut_never (h : s.fld R.SWC_FDB_AGE 15 0 = 0) : Answers (.fdbAgeOut i) s (Only (fun _ => false) [] s) := by
  refine answers_nothing (congrArg (finish s) (if_pos ?_))
  rw [h]; exact Bool.or_true _
end

end Sys2Proof.Machine
end

section
/-! SUPPORT. The sweep over the heads of the queues (R147). -/
namespace Sys2Proof.Machine

/-! ### The end of a copy leaves the counters of its port -/

/-- A change of the free count writes its status, its event and the count, which lie below the registers of the switch's ports. -/
theorem State.rd_setFree (s : State) (n : Nat) {k : Nat} (h : 0x1410000 ≤ k) : (s.setFree n).rd k = s.rd k := by
  have hfar : ∀ {j}, j < 0x1410000 → j ≠ k := fun hj => by omega
  unfold State.setFree
  extract_lets below s1
  have h1 : s1.rd k = s.rd k := State.rd_onIf _ _ _ _ (s.rd_wr_other _ (hfar (by decide)))
  rw [State.rd_crest_other _ _ (hfar (by decide)), State.rd_wr_other _ _ (hfar (by decide)), ← h1]
  exact s1.rd_wr_other _ (hfar (by decide))
theorem State.rd_decRef (s : State) (fid : Nat) {k : Nat} (h : 0x1410000 ≤ k) : (s.decRef fid).rd k = s.rd k := by
  unfold State.decRef
  split
  · rfl
  · split
    · exact State.rd_setFree _ _ h
    · rfl
theorem State.rd_endCopy_ageDrop (s : State) {c : Copy} (hc : c.cls < 8) :
    (s.endCopy c).rd (R.SWC_P_AGEDROP c.x c.cls) = s.rd (R.SWC_P_AGEDROP c.x c.cls) := by
  have hcredit : R.SWC_P_CREDITS c.x ≠ R.SWC_P_AGEDROP c.x c.cls := by unfold R.SWC_P_CREDITS R.SWC_P_AGEDROP; omega
  have hdepth : R.SWC_P_QDEPTH c.x c.cls ≠ R.SWC_P_AGEDROP c.x c.cls := by unfold R.SWC_P_QDEPTH R.SWC_P_AGEDROP; omega
  unfold State.endCopy
  rw [State.rd_decRef _ _ (by unfold R.SWC_P_AGEDROP; omega)]
  exact (State.rd_wr_other _ _ hcredit).trans ((State.rd_wr_other _ _ hcredit).trans (State.rd_wr_other _ _ hdepth))

/-! ### The sweep -/

/-- The sweep at one queue, numbered by port and class. -/
def State.sweepAt (s : State) (k : Nat) : State := s.sweepHead (k / 8) (k % 8) (s.queue (k / 8) (k % 8)).length
/-- A copy that is too old is discarded and counted. -/
def State.ageDrop (s : State) (q : Copy) : State := ((s.takeCopy q).endCopy q).addSat (R.SWC_P_AGEDROP q.x q.cls) 1

section
variable {s : State} {q : Copy}

theorem State.sweepAt_of_empty {k : Nat} (h : s.queue (k / 8) (k % 8) = []) : s.sweepAt k = s := by rw [State.sweepAt, h]; rfl
theorem State.sweepAt_of_single {k : Nat} (h : s.queue (k / 8) (k % 8) = [q]) (hx : q.x = k / 8) (hc : q.cls = k % 8) (ho : s.tooOld q = true) :
    s.sweepAt k = s.ageDrop q := by
  rw [State.sweepAt, h, List.length_singleton, State.sweepHead, h, List.head?_cons]
  simp only [ho, if_true, State.sweepHead, State.ageDrop, hx, hc]
theorem State.ageDrop_copies (h : s.net.copies = [q]) : (s.ageDrop q).net.copies = [] := by
  obtain ⟨-, fs, ch, hn⟩ := (s.takeCopy q).coreOnly_endCopy q
  rw [State.ageDrop, State.addSat_net, hn]
  exact (congrArg (List.erase · q) h).trans (List.erase_cons_head q [])
/-- A walk whose one effect happens at one element, and at no other. -/
theorem foldl_once {α β : Type} {f : β → α → β} {a b : β} {j : α} {l : List α} (hskip : ∀ k, k ≠ j → f a k = a) (hhit : f a j = b)
    (hrest : ∀ k, f b k = b) (hj : j ∈ l) : l.foldl f a = b := by
  induction l with
  | nil => cases hj
  | cons k l ih =>
    by_cases hk : k = j
    · rw [List.foldl_cons, hk, hhit]
      exact List.foldlRecOn (motive := (· = b)) _ _ rfl fun _ hx k _ => hx ▸ hrest k
    · rw [List.foldl_cons, hskip k hk]
      exact ih ((List.mem_cons.1 hj).resolve_left (Ne.symm hk))

theorem answers_ageSweep (h : s.net.copies = [q]) (hx : q.x < 51) (hc : q.cls < 8) (ho : s.tooOld q = true) : Answers .ageSweep s (fun t =>
    t.net.copies = [] ∧ t.rd (R.SWC_P_AGEDROP q.x q.cls) = min 4294967295 (s.rd (R.SWC_P_AGEDROP q.x q.cls) + 1)) := by
  have hqueue : ∀ x c, s.queue x c = if q.x = x ∧ q.cls = c then [q] else [] := fun x c => by
    rw [State.queue, h, List.filter_singleton]; simp
  have hempty := State.ageDrop_copies h
  have hsweep : (List.range 408).foldl State.sweepAt s = s.ageDrop q := by
    refine foldl_once (j := 8 * q.x + q.cls) (fun k hk => ?_) ?_ (fun k => ?_) (List.mem_range.2 (by omega))
    · exact State.sweepAt_of_empty ((hqueue _ _).trans (if_neg (by omega)))
    · exact State.sweepAt_of_single ((hqueue _ _).trans (if_pos (by omega))) (by omega) (by omega) ho
    · exact State.sweepAt_of_empty (by rw [State.queue, hempty]; rfl)
  have hx' : exec .ageSweep s = finish s (s.ageDrop q) := congrArg (finish s) hsweep
  refine answers_of_finish hx' ⟨(congrArg Net.copies (s.ended_net _)).trans hempty, ?_⟩
  rw [s.ended_rd _ (settleKey_ports (by unfold R.SWC_P_AGEDROP; omega) (by unfold R.SWC_P_AGEDROP; omega)), State.ageDrop, State.rd_addSat,
    if_pos rfl, State.rd_endCopy_ageDrop _ hc]
  rfl
end

end Sys2Proof.Machine
end

section
/-! SUPPORT. Duplicate-discard entries that are forgotten (R151), and two-step corrections that were not used (R153). -/
namespace Sys2Proof.Machine

/-- The entry that a command of RED_ENTRY_FORGET names is taken out at the instant that ends its time. -/
theorem State.redEntryForget_of_find {s : State} {n src seq : Nat} {d : DupEntry} (h : s.dupFind n src seq = some d) :
    ∃ u : State, u = s.elapse (d.made + s.redForget n * 1000000 - s.now) ∧ s.redEntryForget n src seq =
      { u with net := { u.net with dups := u.net.dups.filter (fun e => !(e.set == n && e.src == src && e.seq == seq)) } } := by
  refine ⟨_, rfl, ?_⟩
  unfold State.redEntryForget
  rw [h]
theorem State.redEntryForget_of_none {s : State} {n src seq : Nat} (h : s.dupFind n src seq = none) : s.redEntryForget n src seq = s := by
  unfold State.redEntryForget
  rw [h]

theorem answers_redEntryForget (s : State) (n : Fin 4) (src : BitVec 48) (seq : W16) : Answers (.redEntryForget n src seq) s (fun t =>
    t.net.dups = s.net.dups.filter (fun d => !(d.set == n.val && d.src == src.toNat && d.seq == seq.toNat)) ∧
    match s.dupFind n src.toNat seq.toNat with
    | some d => (s.lowTide = false → t.now = max s.now (d.made + s.redForget n * 1000000)) ∧ Only clockKey clockParts s t
    | none => Only (fun _ => false) [] s t) := by
  have hx : exec (.redEntryForget n src seq) s = finish s (s.redEntryForget n src.toNat seq.toNat) := rfl
  cases hd : s.dupFind n src.toNat seq.toNat with
  | none =>
    -- no entry matches, so none is taken out
    have hall : ∀ d ∈ s.net.dups, (!(d.set == n.val && d.src == src.toNat && d.seq == seq.toNat)) = true := fun d hm => by
      rw [Bool.eq_false_iff.2 (List.find?_eq_none.1 hd d hm)]; rfl
    rw [State.redEntryForget_of_none hd] at hx
    exact answers_of_finish hx ⟨(congrArg Net.dups (s.ended_net s)).trans (List.filter_eq_self.2 hall).symm, only_ended_self s⟩
  | some d =>
    obtain ⟨u, hu, e⟩ := State.redEntryForget_of_find hd
    rw [e] at hx
    have hdups : u.net.dups = s.net.dups := by
      obtain ⟨ns, acc, hn⟩ := s.elapse_net (d.made + s.redForget n * 1000000 - s.now)
      rw [hu, hn]
    refine answers_of_finish hx ⟨by rw [s.ended_net, hdups], fun hl => ?_, ?_⟩
    · have hnow : u.now = s.now + (d.made + s.redForget n * 1000000 - s.now) := by rw [hu, s.elapse_now _ hl]
      rw [s.ended_now, hnow]; omega
    · rw [hu]
      exact only_of_elapse ((ChangesOnly.refl [] [.net] _).with_net _ List.mem_cons_self) (by decide) fun k hk => ⟨hk, List.not_mem_nil⟩

theorem answers_tcFollowupTimeout {s : State} {p : Port} {seq : W16} {e : TcEntry}
    (h : s.net.tc.find? (fun t => t.port == p.val && t.seqId == seq.toNat) = some e) : Answers (.tcFollowupTimeout p seq) s (fun t =>
      t.net = { s.net with tc := s.net.tc.erase e } ∧ t.rd (R.SWC_P_TC_MISS p) = min 4294967295 (s.rd (R.SWC_P_TC_MISS p) + 1) ∧
      t.bit R.SWC_EVENTS 5 = true ∧ Only (among [R.SWC_P_TC_MISS p, R.SWC_EVENTS]) [.net] s t) := by
  obtain ⟨u, hu⟩ : ∃ u : State, u = { s with net := { s.net with tc := s.net.tc.erase e } } := ⟨_, rfl⟩
  have hx : exec (.tcFollowupTimeout p seq) s = finish s ((u.addSat (R.SWC_P_TC_MISS p) 1).setB R.SWC_EVENTS 5 true) := by
    show finish s (match s.net.tc.find? (fun t => t.port == p.val && t.seqId == seq.toNat) with | none => s | some t => _) = _
    rw [h, hu]
  have hne : R.SWC_EVENTS ≠ R.SWC_P_TC_MISS p := by unfold R.SWC_EVENTS R.SWC_P_TC_MISS; omega
  have hp := p.isLt
  refine answers_of_finish hx ⟨?_, ?_, ?_, ?_⟩
  · rw [s.ended_net, State.setB_net, State.addSat_net, hu]
  · rw [s.ended_rd _ (settleKey_ports (by unfold R.SWC_P_TC_MISS; omega) (by unfold R.SWC_P_TC_MISS; omega)), State.rd_setB, if_neg hne,
      State.rd_addSat, if_pos rfl, hu, State.rd_with_net]
  · rw [s.ended_bit _ (by decide), State.bit_setB_same _ _ _ _ (by decide)]
  · rw [hu]
    exact ((((ChangesOnly.refl _ _ s).with_net _ List.mem_cons_self).addSat _ List.mem_cons_self
      (by unfold R.SWC_P_TC_MISS R.WDN_STATUS; omega)).setB _ _ (by simp) (by decide)).only_among

end Sys2Proof.Machine
end

section
/-! SUPPORT. Supervision frames (R152): what a frame that enters the switch leaves of its own state. -/
namespace Sys2Proof.Machine

/-! ### Operations on registers alone -/

theorem State.setFree_net (s : State) (n : Nat) : (s.setFree n).net = s.net := by
  unfold State.setFree
  extract_lets below s1
  exact (State.crest_net _ _ _).trans (s.onIf_keep _ _ State.net rfl)
theorem State.polderRefuse_net (s : State) (vi : Option (Nat × Nat)) : (s.polderRefuse vi).net = s.net := by cases vi <;> rfl
theorem State.fdbLearn_net (s : State) (p addr vid : Nat) (vi : Option Nat) : (s.fdbLearn p addr vid vi).net = s.net := by
  unfold State.fdbLearn
  extract_lets dest
  split
  · rfl
  · split
    · exact s.onIf_keep _ _ State.net rfl
    · split <;> rfl
theorem State.redSend_net (s : State) (src : Nat) (llocal : Bool) (b : Bytes) (vid cls : Nat) (ds : List Dest) :
    (s.redSend src llocal b vid cls ds).2.net = s.net := by
  unfold State.redSend
  refine foldl_keep _ (fun r : List Plan × State => r.2.net) (fun r n => ?_) _ _
  dsimp only
  split <;> rfl

/-! ### The sequence numbers of the supervision frames -/

theorem State.decRef_supSeq (s : State) (fid : Nat) : (s.decRef fid).net.supSeq = s.net.supSeq := by
  obtain ⟨-, fs, ch, hn⟩ := s.coreOnly_decRef fid
  rw [hn]
theorem State.newFrame_supSeq (s : State) (b : Bytes) (len src cls vid cells : Nat) (vi : Option (Nat × Nat)) :
    (s.newFrame b len src cls vid cells vi).2.net.supSeq = s.net.supSeq := by
  unfold State.newFrame
  extract_lets id f net1 s1
  rw [s1.setFree_net]
theorem State.chargeIn_supSeq (s : State) (x c n : Nat) : (s.chargeIn x c n).net.supSeq = s.net.supSeq := by
  unfold State.chargeIn
  extract_lets net1 s1 d
  rw [State.crest_net, State.wr_net]
theorem State.endLpi_supSeq (s : State) (x : Nat) (fid : Option Nat) : (s.endLpi x fid).net.supSeq = s.net.supSeq := by
  unfold State.endLpi
  split <;> rfl
theorem State.copyAdmit_supSeq (s : State) (c : Copy) : (s.copyAdmit c).net.supSeq = s.net.supSeq := by
  have hrefuse : ∀ vi k, ((s.polderRefuse vi).addSat k 1).net.supSeq = s.net.supSeq := fun vi _ =>
    congrArg Net.supSeq (s.polderRefuse_net vi)
  unfold State.copyAdmit
  extract_lets refuse s1
  split
  · exact hrefuse _ _
  · split
    · exact hrefuse _ _
    · split
      · rfl
      · split
        · rfl
        · exact (State.endLpi_supSeq _ _ _).trans (State.chargeIn_supSeq _ _ _ _)
theorem State.mirTime_net (s : State) (x dir : Nat) : (s.mirTime x dir).2.net = s.net := by
  unfold State.mirTime
  extract_lets v f
  split
  · rfl
  · split <;> rfl
theorem State.mirror1_supSeq (s : State) (x dir : Nat) (b : Bytes) (len : Nat) (bad ct trunc : Bool) (cls vid : Nat) :
    (s.mirror1 x dir b len bad ct trunc cls vid).net.supSeq = s.net.supSeq := by
  unfold State.mirror1
  extract_lets m n net1 s1 size h dropped net2 flags
  split
  · rfl
  · split
    · rfl
    · split
      · exact State.onIf_keep _ _ _ (fun s => s.net.supSeq) rfl
      · split
        next ts s2 hs2 =>
        extract_lets e
        have h2 : s2.net.supSeq = s.net.supSeq := by
          rw [show s2 = (s1.mirTime x dir).2 from congrArg Prod.snd hs2.symm, s1.mirTime_net]
        have h3 : (s2.dmaWrite 0 (s2.rd64 R.SWC_MIR_BASE_LO + 160 * h) e).2.net.supSeq = s.net.supSeq :=
          (congrArg Net.supSeq (s2.dmaWrite_net _ e)).trans h2
        split
        next s3 hs3 => rw [hs3] at h3; exact h3
        next s3 hs3 => rw [hs3] at h3; exact h3
/-- A frame that enters for the ports of a set. -/
theorem State.enter_supSeq (s : State) (x : Nat) (b : Bytes) (cls : Option Nat) (ports : List Nat) (vi : Option Nat) :
    (s.enter x b cls (some ports) vi).2.net.supSeq = s.net.supSeq := by
  unfold State.enter
  extract_lets b1 len cells tag
  split
  · exact congrArg Net.supSeq (s.polderRefuse_net _)
  · split
    next vid c _ =>
    extract_lets have_ trunc s1 s2
    have h1 : s1.net.supSeq = s.net.supSeq := s.mirror1_supSeq _ _ _ _ _ _ _ _ _
    have h2 : s2.net.supSeq = s1.net.supSeq := s1.onIf_keep _ _ (fun s => s.net.supSeq) rfl
    split
    next id s3 hs3 =>
    have h3 : s3.net.supSeq = s.net.supSeq :=
      (congrArg (fun r => r.2.net.supSeq) hs3).symm.trans ((s2.newFrame_supSeq _ _ _ _ _ _ _).trans (h2.trans h1))
    split
    · exact (State.decRef_supSeq _ _).trans h3
    · split
      · exact (s3.decRef_supSeq _).trans h3
      · split
        next ps s4 hs4 =>
        have h4 : s4.net = s3.net := (congrArg (fun r => r.2.net) hs4).symm.trans (s3.redSend_net _ _ _ _ _ _)
        calc _ = _ := State.decRef_supSeq _ _
          _ = _ := congrArg Net.supSeq (State.fdbLearn_net _ _ _ _ _)
          _ = s4.net.supSeq := foldl_keep _ (fun s : State => s.net.supSeq) (fun s p => s.copyAdmit_supSeq _) _ _
          _ = s.net.supSeq := (congrArg Net.supSeq h4).trans h3

theorem answers_redSupervisionSend {s : State} {n : Fin 4} (hm : s.redMode n ≠ 0) (hl : s.fld (R.SWC_RED_TIMES n) 31 16 ≠ 0) :
    Answers (.redSupervisionSend n) s (fun t => t.net.supSeq = modAt s.net.supSeq n (fun q => (q + 1) % 65536)) := by
  obtain ⟨u, hu⟩ : ∃ u : State, u = { s with net := { s.net with supSeq := modAt s.net.supSeq n (fun q => (q + 1) % 65536) } } := ⟨_, rfl⟩
  obtain ⟨b, ports, hx⟩ : ∃ b ports, exec (.redSupervisionSend n) s = finish s (u.enter 48 b (some 7) (some ports) none).2 := by
    rw [hu]
    exact ⟨s.supFrame n (nth s.net.supSeq n 0), [(s.redRaw n).2.1, (s.redRaw n).2.2.1], congrArg (finish s) (if_neg (not_or.2 ⟨hm, hl⟩))⟩
  refine answers_of_finish hx ?_
  rw [s.ended_net, State.enter_supSeq, hu]

/-- Settles O22: a cell time moves the pointers of its first round and marks cells of copies that stay what they are; a timed removal runs
the clocks to its instant, which leave the entry that it then takes out; no operation on a supervision frame's way touches its number. -/
theorem switchCore : Obligations.SwitchCore := by
  unfold Obligations.SwitchCore
  refine ⟨?_, ?_, ?_, ?_, ?_, ?_, ?_⟩
  · exact fun s => answers_crossbarCellTime s
  · exact fun s i hv hs hg ha => answers_fdbAgeOut hv hs hg ha
  · exact fun s i h => answers_fdbAgeOut_never h
  · exact fun s q h hx hc ho => answers_ageSweep h hx hc ho
  · exact fun s n src seq => answers_redEntryForget s n src seq
  · exact fun s n hm hl => answers_redSupervisionSend hm hl
  · exact fun s p seq e h => answers_tcFollowupTimeout h

end Sys2Proof.Machine
end

section
/-! SUPPORT. A slew whose count is no 32-bit number (R160). -/
namespace Sys2Proof.Machine

/-- Time base 0 slews for 2^32 + 1 edges, a count that its register of 32 bits cannot hold and that no write leaves there, while a hold
waits for the next edge. TB_SLEW_INCR is 0, INC its reset value. -/
def overfullSlew : State :=
  { regs := [(R.TB_STATUS 0, 2), (R.TB_SLEW_COUNT 0, 4294967297), (R.TB_SLEW_INCR_LO 0, 0), (R.TB_SLEW_INCR_HI 0, 0), (R.TB_INCR_LO 0, 0),
      (R.TB_INCR_HI 0, 1)], tmu := { edge := [.hold 0] } }

/-- The first edge, taken apart for the hold, cuts the count left to 32 bits, to 0: every further edge adds INC. -/
theorem overfullSlew_acc : nth (overfullSlew.elapse 4294967297).tmu.acc 0 0 = 4294967296 * 4294967296 := by decide +kernel

/-- Refutes O23: SLEW_DONE adds INC for 2^32 edges of a slew of 2^32 + 1 edges, where the hold that waits for the next edge takes the
first one by itself. The clause takes any state; a write keeps a register to 32 bits, so a slew that a command has started has no such
count. -/
theorem not_timeBaseCommands : ¬ Obligations.TimeBaseCommands := by
  unfold Obligations.TimeBaseCommands
  rintro ⟨-, -, hslew, -⟩
  obtain ⟨t, ht, -, -, -, -, -, hacc⟩ := hslew overfullSlew 0 (by decide +kernel) (by decide +kernel)
  have hexec : exec (.slewDone 0) overfullSlew = finish overfullSlew
      (((overfullSlew.elapse 4294967297).setB (R.TB_STATUS 0) 1 false).setB R.TMU_EVENTS 25 true) := rfl
  rw [hexec, finish_ended] at ht
  have hzero : nth t.tmu.acc 0 0 = 0 := (hacc (by decide)).trans (by decide +kernel)
  rw [← Host.Outcome.next.inj ht, State.ended_tmu, State.setB_tmu, State.setB_tmu, overfullSlew_acc] at hzero
  exact absurd hzero (by decide)

end Sys2Proof.Machine
end

section
/-! SUPPORT. The time unit while clocks pass (R159, R163): what is counted elsewhere leaves it, and what its own edges leave. -/
namespace Sys2Proof.Machine

/-! ### Clocks counted elsewhere -/

/-- From `s` to `t` the time unit's own state and its registers are as they were. -/
def TimeKept (s t : State) : Prop := t.tmu = s.tmu ∧ ∀ k, 0x1800000 ≤ k → k < 0x1800800 → t.rd k = s.rd k

theorem TimeKept.refl (s : State) : TimeKept s s := ⟨rfl, fun _ _ _ => rfl⟩
theorem TimeKept.trans {s t u : State} (h : TimeKept s t) (h' : TimeKept t u) : TimeKept s u :=
  ⟨h'.1.trans h.1, fun k h1 h2 => (h'.2 k h1 h2).trans (h.2 k h1 h2)⟩
theorem ChangesOnly.timeKept {l : List Nat} {ps : List Part} {s t : State} (h : ChangesOnly l ps s t)
    (hl : ∀ k ∈ l, k < 0x1800000 ∨ 0x1800800 ≤ k) (hp : .tmu ∉ ps) : TimeKept s t :=
  ⟨h.2 .tmu hp, fun k h1 h2 => h.1 k fun hk => by have := hl k hk; omega⟩
theorem TimeKept.foldl {α : Type} {f : State → α → State} {l : List α} (hf : ∀ u, ∀ x ∈ l, TimeKept u (f u x)) (s : State) :
    TimeKept s (l.foldl f s) :=
  List.foldlRecOn (motive := TimeKept s) l f (TimeKept.refl s) fun u hu x hx => hu.trans (hf u x hx)

theorem State.timeKept_opTime (s : State) (n : Nat) : TimeKept s (s.opTime n) :=
  ((((ChangesOnly.refl [R.PCM_OP_HOURS_LO, R.PCM_OP_HOURS_HI] [.pwr] s).with_pwr _ List.mem_cons_self).wr _ (by decide) (by decide)).wr _
    (by decide) (by decide)).timeKept (by decide) (by decide)
theorem State.timeKept_lpiTime (s : State) (n : Nat) : TimeKept s (s.lpiTime n) := by
  refine TimeKept.foldl (fun u p hp => ?_) s
  have hlt : p < 48 := List.mem_range.1 (List.mem_filter.1 hp).1
  refine (((ChangesOnly.refl _ _ u).with_net _ List.mem_cons_self).trans (State.portCnt_changes _ p 49 _)).timeKept (fun k hk => ?_) (by decide)
  simp only [cntKeys, R.PRT_CNT, R.PRT_CNT_HALF_LO, R.PRT_CNT_HALF_HI, R.PRT_EVENTS, List.mem_cons, List.not_mem_nil, or_false] at hk
  omega
theorem State.timeKept_toksFreeIn (s : State) (l : Lane) : TimeKept s (s.toksFreeIn l) := by
  have hkeys : ∀ k, k = R.SCH_TOK_FREE l ∨ k = R.SCH_TOK_DONE l → 0x1800800 ≤ k := by rintro k (rfl | rfl) <;> cases l <;> decide
  unfold State.toksFreeIn
  split
  · refine ⟨by cases l <;> rfl, fun k _ h2 => ?_⟩
    rw [State.rd_wr_other _ _ fun e => absurd (hkeys k (.inr e.symm)) (by omega),
      State.rd_wr_other _ _ fun e => absurd (hkeys k (.inl e.symm)) (by omega), State.rd_setLane]
  · exact TimeKept.refl s
/-- The seconds of FDB entries lie below the time unit's registers. -/
theorem State.timeKept_age (s : State) (a : Nat) {es : List Nat} (h : ∀ e ∈ es, e < 32768) :
    TimeKept s (es.foldl (fun s e => s.addSatF (R.SWC_FDB3 e) 15 0 a) s) :=
  TimeKept.foldl (fun u e he => by
    have hlt := h e he
    refine ((ChangesOnly.refl [R.SWC_FDB3 e] [] u).addSatF _ _ _ List.mem_cons_self ?_).timeKept (fun k hk => ?_) List.not_mem_nil
    · unfold R.SWC_FDB3 R.WDN_STATUS; omega
    · rw [List.mem_singleton.1 hk]; unfold R.SWC_FDB3; omega) s

/-- The edges of `n` clocks, of which the first takes what waits. -/
def State.edges (s : State) (n : Nat) : State :=
  if n = 0 || s.tmu.edge.isEmpty then s.tbEdges n else (s.tbEdges 1).edgeApply.tbEdges (n - 1)
/-- In the time unit the passing of clocks is its edges. -/
theorem State.elapse_edges {s : State} (n : Nat) (h : s.lowTide = false) : ∃ u, TimeKept s u ∧ TimeKept (u.edges n) (s.elapse n) := by
  have hop : TimeKept s (s.onIf s.fed (fun s => s.opTime n)) := by
    unfold State.onIf; split
    · exact s.timeKept_opTime n
    · exact TimeKept.refl s
  have hlow : (s.onIf s.fed (fun s => s.opTime n)).lowTide = false := by
    refine (s.onIf_keep _ _ State.lowTide ?_).trans h
    unfold State.lowTide State.opTime State.wr64
    rw [State.fld_of_rd ((State.rd_wr_other _ _ (by decide)).trans (State.rd_wr_other _ _ (by decide)))]; rfl
  refine ⟨_, hop, ?_⟩
  unfold State.elapse
  extract_lets a s1 s2 s3 es
  rw [if_neg (by rw [hlow]; decide)]
  have hcount : TimeKept (s1.edges n) s3 := ((State.timeKept_lpiTime _ n).trans (State.timeKept_toksFreeIn _ .a)).trans (State.timeKept_toksFreeIn _ .b)
  split
  · exact hcount
  · refine hcount.trans (State.timeKept_age s3 a fun e he => ?_)
    obtain ⟨x, -, hx⟩ := List.mem_filterMap.1 (List.mem_eraseDups.1 he)
    split at hx
    next hc =>
      obtain ⟨h1, h2, -⟩ := hc
      have hx' := Option.some.inj hx
      unfold R.SWC_FDB1 at h1 h2 hx'
      omega
    next => cases hx

/-! ### The time bases -/

theorem State.tbEdges_tmu (s : State) (n : Nat) : ∃ acc frac, (s.tbEdges n).tmu = { s.tmu with acc := acc, holdFrac := frac } := by
  refine List.foldlRecOn (motive := fun t : State => ∃ acc frac, t.tmu = { s.tmu with acc := acc, holdFrac := frac }) _ _
    ⟨s.tmu.acc, s.tmu.holdFrac, rfl⟩ ?_
  rintro t ⟨acc, frac, ht⟩ b -
  refine ⟨(t.tbRun n b).tmu.acc, (t.tbRun n b).tmu.holdFrac, ?_⟩
  have heta : (t.tbRun n b).tmu = { t.tmu with acc := (t.tbRun n b).tmu.acc, holdFrac := (t.tbRun n b).tmu.holdFrac } := rfl
  rw [ht] at heta
  exact heta
/-- The registers of the time unit outside the time bases count no edge. -/
theorem State.rd_tbEdges_apart (s : State) (n : Nat) {k : Nat} (h : k < 0x1800100 ∨ 0x1800200 ≤ k) : (s.tbEdges n).rd k = s.rd k :=
  (State.rd_foldl_lt (fun b hb t => t.rd_tbRun n b k (by unfold R.TB_SLEW_COUNT; omega) (by unfold R.TB_HOLD_TIME; omega)) _).trans
    (s.rd_with_now _ k)

theorem modAt_eq_modify {α : Type} (l : List α) (i : Nat) (f : α → α) : modAt l i f = l.modify i f := by
  induction l generalizing i with
  | nil => cases i <;> rfl
  | cons a t ih =>
    cases i with
    | zero => rfl
    | succ i => exact congrArg (a :: ·) (ih i)
theorem nth_modAt {α : Type} (l : List α) (i j : Nat) (f : α → α) (d : α) :
    nth (modAt l i f) j d = if i = j then (l[j]?.map f).getD d else nth l j d := by
  rw [modAt_eq_modify, nth, List.getD_eq_getElem?_getD, List.getElem?_modify, nth, List.getD_eq_getElem?_getD]
  split
  · rfl
  · rw [id_map']
/-- An accumulator has 96 bits after its own edges, and stays what it is under those of another time base. -/
theorem State.tbRun_acc_lt (s : State) (n b c : Nat) (h : b = c ∨ nth s.tmu.acc c 0 < 2 ^ 96) : nth (s.tbRun n b).tmu.acc c 0 < 2 ^ 96 := by
  show nth (modAt s.tmu.acc b fun _ => (nth s.tmu.acc b 0 + s.tbAdd b n) % 2 ^ 96) c 0 < 2 ^ 96
  rw [nth_modAt]
  split
  · cases s.tmu.acc[c]? with
    | none => exact Nat.two_pow_pos _
    | some a => exact Nat.mod_lt _ (Nat.two_pow_pos _)
  next hne => exact h.resolve_left hne
theorem State.tbEdges_acc_lt (s : State) (n : Nat) {b : Nat} (h : b < 4) : nth (s.tbEdges n).tmu.acc b 0 < 2 ^ 96 :=
  foldl_establishes (f := State.tbRun n) (P := fun b t => nth t.tmu.acc b 0 < 2 ^ 96) (fun t b => t.tbRun_acc_lt n b b (.inl rfl))
    (fun t b c hc => t.tbRun_acc_lt n b c (.inr hc)) (List.mem_range.2 h) _
/-- No edge, no change of an accumulator of 96 bits. -/
theorem State.tbRun_zero_acc (s : State) {b : Nat} (h : nth s.tmu.acc b 0 < 2 ^ 96) : (s.tbRun 0 b).tmu.acc = s.tmu.acc := by
  have hadd : s.tbAdd b 0 = 0 := by unfold State.tbAdd; simp
  show modAt s.tmu.acc b (fun _ => (nth s.tmu.acc b 0 + s.tbAdd b 0) % 2 ^ 96) = _
  rw [hadd, Nat.add_zero, Nat.mod_eq_of_lt h, modAt_eq_modify]
  refine List.ext_getElem? fun i => ?_
  rw [List.getElem?_modify]
  split
  next e => subst e; rw [nth, List.getD_eq_getElem?_getD]; cases s.tmu.acc[b]? <;> rfl
  next => exact id_map' _
theorem State.tbEdges_zero_acc (s : State) (h : ∀ b, b < 4 → nth s.tmu.acc b 0 < 2 ^ 96) : (s.tbEdges 0).tmu.acc = s.tmu.acc :=
  List.foldlRecOn (motive := fun t : State => t.tmu.acc = s.tmu.acc) _ _ rfl fun t ht b hb =>
    (t.tbRun_zero_acc (ht ▸ h b (List.mem_range.1 hb))).trans ht

end Sys2Proof.Machine
end

section
/-! SUPPORT. Changes of a view's offset, and the TUCLK edge that applies them (R161, R163). -/
namespace Sys2Proof.Machine

/-! ### A view's offset -/

theorem State.viewOff_of_rd {s t : State} {v : Nat} (hns : t.rd (R.CV_OFF_NS v) = s.rd (R.CV_OFF_NS v))
    (hlo : t.rd (R.CV_OFF_SEC_LO v) = s.rd (R.CV_OFF_SEC_LO v)) (hhi : t.rd (R.CV_OFF_SEC_HI v) = s.rd (R.CV_OFF_SEC_HI v)) :
    t.viewOff v = s.viewOff v := by
  unfold State.viewOff State.fld
  rw [hns, hlo, hhi]
theorem State.viewOff_of_viewKeys {s t : State} {v : Nat} (h : ∀ k ∈ viewKeys v, t.rd k = s.rd k) : t.viewOff v = s.viewOff v :=
  State.viewOff_of_rd (h _ (by simp [viewKeys])) (h _ (by simp [viewKeys])) (h _ (by simp [viewKeys]))
/-- The move of a view is a matter of its own registers and TMU_EVENTS. -/
theorem ViewMoved.of_rd {s t s' t' : State} {v : Nat} {o : Int} (h : ViewMoved s t v o) (hs : ∀ k ∈ viewKeys v, s'.rd k = s.rd k)
    (ht : ∀ k ∈ viewKeys v, t'.rd k = t.rd k) : ViewMoved s' t' v o := by
  unfold ViewMoved State.bit at h ⊢
  rw [State.viewOff_of_viewKeys hs, State.viewOff_of_viewKeys ht, hs _ (by simp [viewKeys]), ht _ (by simp [viewKeys]), hs R.TMU_EVENTS (by simp [viewKeys]),
    ht R.TMU_EVENTS (by simp [viewKeys])]
  exact h
/-- A view takes an offset that its registers hold; the move is counted, and shown, where there is one. -/
theorem State.viewMoved_moveView (s : State) {v : Nat} {o : Int} (hv : v < 8) (h : offFits o) : ViewMoved s (s.moveView v o) v o := by
  have hoff := s.viewOff_setViewOff v o h
  have hsteps : (s.setViewOff v o).rd (R.CV_STEPS v) = s.rd (R.CV_STEPS v) := s.rd_setViewOff v o _ (by simp [R.CV_OFF_NS, R.CV_STEPS])
    (by simp [R.CV_OFF_SEC_LO, R.CV_STEPS]) (by simp [R.CV_OFF_SEC_HI, R.CV_STEPS])
  have hevents : (s.setViewOff v o).rd R.TMU_EVENTS = s.rd R.TMU_EVENTS := s.rd_setViewOff v o _ (by unfold R.CV_OFF_NS R.TMU_EVENTS; omega)
    (by unfold R.CV_OFF_SEC_LO R.TMU_EVENTS; omega) (by unfold R.CV_OFF_SEC_HI R.TMU_EVENTS; omega)
  have hne : R.CV_STEPS v ≠ R.TMU_EVENTS := by unfold R.CV_STEPS R.TMU_EVENTS; omega
  unfold State.moveView
  extract_lets old u
  by_cases e : s.viewOff v = o
  · have hcond : (u.viewOff v != old) = false := by simp only [u, old, hoff, e, bne_self_eq_false]
    rw [hcond, State.onIf_false]
    exact ⟨hoff, by rw [if_pos e, hsteps], by rw [State.bit_of_rd hevents, decide_eq_false (not_not.2 e), Bool.or_false]⟩
  · have hcond : (u.viewOff v != old) = true := by simp only [u, old, hoff]; exact bne_iff_ne.2 (Ne.symm e)
    rw [hcond, State.onIf_true]
    refine ⟨?_, ?_, ?_⟩
    · have hrest : ∀ k, k ≠ R.CV_STEPS v → k ≠ R.TMU_EVENTS → ((u.setB R.TMU_EVENTS (4 + v) true).addWrap (R.CV_STEPS v) 1).rd k = u.rd k :=
        fun k h1 h2 => by rw [State.rd_addWrap, if_neg h1.symm, State.rd_setB, if_neg h2.symm]
      refine (State.viewOff_of_rd (hrest _ ?_ ?_) (hrest _ ?_ ?_) (hrest _ ?_ ?_)).trans hoff <;>
        simp only [R.CV_OFF_NS, R.CV_OFF_SEC_LO, R.CV_OFF_SEC_HI, R.CV_STEPS, R.TMU_EVENTS] <;> omega
    · rw [if_neg e, State.rd_addWrap, if_pos rfl, State.rd_setB, if_neg hne.symm, hsteps]
    · rw [decide_eq_true e, Bool.or_true, State.bit, State.rd_addWrap, if_neg hne]
      exact State.bit_setB_same _ _ _ _ (by omega)
theorem State.moveView_tmu (s : State) (v : Nat) (o : Int) : (s.moveView v o).tmu = s.tmu := State.onIf_keep _ _ _ State.tmu rfl

/-! ### What an edge applies to one view -/

/-- A change of view `v`. -/
def TmuEdge.ofView (v : Nat) : TmuEdge → Prop
  | .set w _ | .off w _ | .step w _ => w = v
  | .hold _ | .incr _ => False

/-- A walk without repetitions whose steps do nothing but at one element. -/
theorem foldl_single {α β : Type} {f : β → α → β} {j : α} {l : List α} (hl : l.Nodup) (hj : j ∈ l) (hskip : ∀ b k, k ≠ j → f b k = b)
    (b : β) : l.foldl f b = f b j := by
  induction l with
  | nil => cases hj
  | cons k l ih =>
    obtain ⟨hk, hl⟩ := List.nodup_cons.1 hl
    rw [List.foldl_cons]
    by_cases e : k = j
    · subst e
      exact List.foldlRecOn (motive := (· = f b k)) _ _ rfl fun t ht a ha => (hskip t a fun e => hk (e ▸ ha)).trans ht
    · rw [hskip b k e]
      exact ih hl ((List.mem_cons.1 hj).resolve_left (Ne.symm e))

section
variable {es : List TmuEdge} {c : Nat}

/-- An edge that changes one view leaves the others. -/
theorem State.edgeView_other (s : State) {v : Nat} (h : ∀ e ∈ es, e.ofView c) (hv : v ≠ c) : s.edgeView es v = s := by
  unfold State.edgeView
  extract_lets set off stp o1 o2
  have hset : set = [] := List.filterMap_eq_nil_iff.2 fun e he => by
    have hc := h e he
    cases e with
    | set w t => exact if_neg fun hw => hv (hw.symm.trans hc)
    | _ => rfl
  have hoff : off = [] := List.filterMap_eq_nil_iff.2 fun e he => by
    have hc := h e he
    cases e with
    | off w t => exact if_neg fun hw => hv (hw.symm.trans hc)
    | _ => rfl
  have hstp : stp = [] := List.filterMap_eq_nil_iff.2 fun e he => by
    have hc := h e he
    cases e with
    | step w t => exact if_neg fun hw => hv (hw.symm.trans hc)
    | _ => rfl
  rw [hset, hoff, hstp]; rfl
theorem State.edgeHold_other (s : State) (b : Nat) (h : ∀ e ∈ es, e.ofView c) : s.edgeHold es b = s := by
  have hno : es.contains (.hold b) = false := by
    rw [← Bool.not_eq_true, List.contains_iff_mem]
    exact fun hm => h _ hm
  unfold State.edgeHold
  rw [hno]; rfl
theorem State.edgeView_tmu (s : State) (es : List TmuEdge) (v : Nat) : (s.edgeView es v).tmu = s.tmu := by
  unfold State.edgeView
  extract_lets set off stp o1 o2
  split
  · rfl
  · exact (State.onIf_keep _ _ _ State.tmu rfl).trans (s.moveView_tmu v _)
end

/-- What waits for the edge has been taken. -/
def State.edgeTaken (s : State) : State := { s with tmu := { s.tmu with edge := [] } }
/-- An edge for which changes of one view wait. -/
theorem State.edgeApply_view (s : State) {c : Nat} (h : ∀ e ∈ s.tmu.edge, e.ofView c) (hc : c < 8) :
    s.edgeApply = s.edgeTaken.edgeView s.tmu.edge c := by
  have hholds : ∀ t : State, (List.range 4).foldl (State.edgeHold s.tmu.edge) t = t := fun t =>
    List.foldlRecOn (motive := (· = t)) _ _ rfl fun u hu b _ => (u.edgeHold_other b h).trans hu
  exact (hholds _).trans (foldl_single List.nodup_range (List.mem_range.2 hc) (fun t v hv => t.edgeView_other h hv) _)
/-- An absolute offset and a step that wait together are one change: the offset first, in whichever order they came (R163). -/
theorem State.edgeView_offset (s : State) {c : Nat} {o d : Int} {e : List TmuEdge} (h : (e = [.off c o] ∧ d = 0) ∨
    (e = [.step c d] ∧ o = s.viewOff c) ∨ e = [.off c o, .step c d] ∨ e = [.step c d, .off c o]) : s.edgeView e c = s.moveView c (o + d) := by
  unfold State.edgeView
  extract_lets set off stp o1 o2
  have hset : set = [] := by obtain ⟨rfl, -⟩ | ⟨rfl, -⟩ | rfl | rfl := h <;> rfl
  have hcond : (set.isEmpty && off.isEmpty && stp.isEmpty) = false := by
    obtain ⟨rfl, -⟩ | ⟨rfl, -⟩ | rfl | rfl := h <;> simp [off, stp]
  have ho1 : o1 = s.viewOff c := by simp only [o1, hset]; rfl
  have ho : o2 = o := by
    simp only [o2, ho1]
    obtain ⟨rfl, -⟩ | ⟨rfl, rfl⟩ | rfl | rfl := h <;> simp [off]
  have hd : stp.sum = d := by obtain ⟨rfl, rfl⟩ | ⟨rfl, -⟩ | rfl | rfl := h <;> simp [stp]
  rw [hcond, hset, ho, hd]
  rfl
theorem State.edgeView_set (s : State) (c T : Nat) : s.edgeView [.set c T] c = (s.moveView c (s.offFor c T)).setB R.TMU_EVENTS 24 true := by
  unfold State.edgeView
  extract_lets set off stp o1 o2
  have hset : set = [T] := by simp [set]
  have ho : o2 = s.offFor c T := by simp only [o2, o1, hset]; rfl
  have hd : stp.sum = 0 := rfl
  rw [ho, hset, hd, Int.add_zero]
  rfl

/-! ### The step on an empty queue -/

/-- The registers of the views and of the time unit as a whole, but for TMU_STATUS, which follows other state. -/
def ViewReg (k : Nat) : Prop := 0x1800004 ≤ k ∧ k < 0x1800800 ∧ (k < 0x1800100 ∨ 0x1800200 ≤ k)
theorem viewReg_viewKeys {c : Nat} (hc : c < 8) : ∀ k ∈ viewKeys c, ViewReg k := by
  simp only [viewKeys, List.forall_mem_cons, ViewReg, R.CV_OFF_NS, R.CV_OFF_SEC_LO, R.CV_OFF_SEC_HI, R.CV_STEPS, R.TMU_EVENTS]
  refine ⟨?_, ?_, ?_, ?_, ?_, fun _ h => nomatch h⟩ <;> omega

/-- While changes of one view wait, one clock applies them to the time that it has reached: `u` is the state in which it does. -/
theorem step_edge {s : State} {c : Nat} (hp : s.pending = []) (hl : s.lowTide = false) (hne : s.tmu.edge ≠ [])
    (h : ∀ e ∈ s.tmu.edge, e.ofView c) (hc : c < 8) : ∃ t u : State, step s = .next t ∧ t.tmu.edge = [] ∧ t.tmu.acc = u.tmu.acc ∧
      (∀ k, ViewReg k → u.rd k = s.rd k) ∧ ∀ k, ViewReg k → t.rd k = (u.edgeView s.tmu.edge c).rd k := by
  have hstep : step s = finish s (s.elapse 1) := by unfold step; rw [hp]; rfl
  obtain ⟨w, ⟨hwt, hwr⟩, hte, hre⟩ := State.elapse_edges 1 hl
  obtain ⟨acc, frac, hx⟩ := w.tbEdges_tmu 1
  have hxe : (w.tbEdges 1).tmu.edge = s.tmu.edge := by rw [hx, ← hwt]
  have hedges : w.edges 1 = ((w.tbEdges 1).edgeTaken.edgeView s.tmu.edge c).tbEdges 0 := by
    have hcond : (decide (1 = 0) || w.tmu.edge.isEmpty) = false := by
      rw [hwt, List.isEmpty_eq_false_iff.2 hne]; rfl
    rw [State.edges, hcond, ← hxe, ← State.edgeApply_view _ (hxe ▸ h) hc]; rfl
  have hlt : ∀ b, b < 4 → nth ((w.tbEdges 1).edgeTaken.edgeView s.tmu.edge c).tmu.acc b 0 < 2 ^ 96 := fun b hb => by
    rw [State.edgeView_tmu]; exact w.tbEdges_acc_lt 1 hb
  obtain ⟨acc', frac', hy⟩ := State.tbEdges_tmu ((w.tbEdges 1).edgeTaken.edgeView s.tmu.edge c) 0
  rw [hedges] at hte hre
  refine ⟨s.ended (s.elapse 1), (w.tbEdges 1).edgeTaken, hstep.trans (finish_ended _ _), ?_, ?_, ?_, ?_⟩
  · rw [s.ended_tmu, hte, hy, State.edgeView_tmu]; rfl
  · rw [s.ended_tmu, hte, State.tbEdges_zero_acc _ hlt, State.edgeView_tmu]
  · rintro k ⟨h1, h2, h3⟩
    exact (w.rd_tbEdges_apart 1 h3).trans (hwr k (by omega) h2)
  · rintro k ⟨h1, h2, h3⟩
    rw [s.ended_rd _ (settleKey_time k h1 h2), hre k (by omega) h2, State.rd_tbEdges_apart _ _ h3]

end Sys2Proof.Machine
end

section
/-! SUPPORT. Clock views: offsets, steps, timed sets, the validity limit (R161, R163, R164, R166). -/
namespace Sys2Proof.Machine

theorem State.with_tmu_kept (s : State) (x : TimeUnit) {p : Part} (hp : p ≠ .tmu) : p.kept s { s with tmu := x } := by
  cases p
  case tmu => exact absurd rfl hp
  case evt => exact ⟨rfl, rfl⟩
  all_goals rfl
theorem ChangesOnly.with_tmu {l : List Nat} {ps : List Part} {s t : State} (h : ChangesOnly l ps s t) (x : TimeUnit) (hp : .tmu ∈ ps) :
    ChangesOnly l ps s { t with tmu := x } :=
  h.trans ⟨fun _ _ => rfl, fun _ hq => t.with_tmu_kept x (fun e => hq (e ▸ hp))⟩

section
variable {s : State} {c : Cv}

/-! ### Changes that wait for the next edge -/

theorem answers_offsetWrite (s : State) (c : Cv) (v : Word) : Answers (.offsetWrite c v) s (fun t =>
    t.tmu.edge = s.tmu.edge ++ [.off c (s.stagedOff c v.toNat)] ∧ t.tmu.acc = s.tmu.acc ∧ Only (fun _ => false) [.tmu] s t) := by
  obtain ⟨x, hx⟩ : ∃ x, x = (s.offsetWrite c v.toNat).tmu := ⟨_, rfl⟩
  have hexec : exec (.offsetWrite c v) s = finish s { s with tmu := x } := by rw [hx]; rfl
  refine answers_of_finish hexec ⟨?_, ?_, ((ChangesOnly.refl [] _ s).with_tmu x List.mem_cons_self).only fun _ hk => nomatch hk⟩
  · rw [s.ended_tmu, hx]; rfl
  · rw [s.ended_tmu, hx]; rfl
theorem sgn32_toNat (v : Word) : sgn32 v.toNat = v.toInt := by
  unfold sgn32; rw [BitVec.ofNat_toNat, BitVec.setWidth_eq]
theorem answers_viewStep (s : State) (c : Cv) (v : Word) : Answers (.viewStep c v) s (fun t =>
    t.tmu = { s.tmu with edge := s.tmu.edge ++ [.step c (v.toInt * 4294967296 + (s.fld (R.CV_STEP_FRAC c) 15 0 : Nat) * 65536)] } ∧
    t.rd (R.CV_STEP_FRAC c) = 0 ∧ Only (among [R.CV_STEP_FRAC c]) [.tmu] s t) := by
  have hc := c.isLt
  have hx : exec (.viewStep c v) s = finish s (s.viewStep c.val v.toNat) := rfl
  refine answers_of_finish hx ⟨?_, ?_, ?_⟩
  · rw [s.ended_tmu, ← sgn32_toNat]; rfl
  · rw [s.ended_rd _ (settleKey_time _ (by unfold R.CV_STEP_FRAC; omega) (by unfold R.CV_STEP_FRAC; omega))]
    exact s.rd_wr_same _ 0
  · exact (((ChangesOnly.refl _ _ s).wr _ List.mem_cons_self (by unfold R.CV_STEP_FRAC R.WDN_STATUS; omega)).with_tmu _
      List.mem_cons_self).only_among

/-! ### The edge -/

theorem step_viewMoved {o d : Int} {e : List TmuEdge} (hp : s.pending = []) (hl : s.lowTide = false) (he : s.tmu.edge = e)
    (h : (e = [.off c o] ∧ d = 0) ∨ (e = [.step c d] ∧ o = s.viewOff c) ∨ e = [.off c o, .step c d] ∨ e = [.step c d, .off c o])
    (ho : offFits (o + d)) : ∃ t, step s = .next t ∧ t.tmu.edge = [] ∧ ViewMoved s t c (o + d) := by
  have hne : s.tmu.edge ≠ [] := by rw [he]; obtain ⟨rfl, -⟩ | ⟨rfl, -⟩ | rfl | rfl := h <;> exact List.cons_ne_nil _ _
  have hview : ∀ x ∈ s.tmu.edge, x.ofView c := by
    rw [he]; obtain ⟨rfl, -⟩ | ⟨rfl, -⟩ | rfl | rfl := h <;> simp [TmuEdge.ofView]
  obtain ⟨t, u, ht, hedge, -, hu, hr⟩ := step_edge hp hl hne hview c.isLt
  have hkeys := viewReg_viewKeys c.isLt
  have hoff : u.viewOff c = s.viewOff c := State.viewOff_of_viewKeys fun k hk => hu k (hkeys k hk)
  rw [he, u.edgeView_offset (hoff.symm ▸ h)] at hr
  exact ⟨t, ht, hedge, (u.viewMoved_moveView c.isLt ho).of_rd (fun k hk => (hu k (hkeys k hk)).symm) fun k hk => hr k (hkeys k hk)⟩
/-- A set view reads its time at the edge: the offset takes the whole 2^-16 ns that the time base has not. -/
theorem step_viewSet {T : Nat} (hp : s.pending = []) (hl : s.lowTide = false) (he : s.tmu.edge = [.set c T]) : ∃ t, step s = .next t ∧
    t.tmu.edge = [] ∧ t.bit R.TMU_EVENTS 24 = true ∧
    (offFits (((T : Int) - (nth t.tmu.acc (s.fld (R.CV_BIND c) 1 0) 0 / 65536 : Nat)) * 65536) → t.viewV c / 65536 = T) := by
  have hc := c.isLt
  obtain ⟨t, u, ht, hedge, hacc, hu, hr⟩ := step_edge hp hl (he ▸ List.cons_ne_nil _ _) (he ▸ by simp [TmuEdge.ofView]) hc
  rw [he, State.edgeView_set] at hr
  have hbind : ViewReg (R.CV_BIND c) := by unfold ViewReg R.CV_BIND; omega
  refine ⟨t, ht, hedge, ?_, fun ho => ?_⟩
  · rw [State.bit_of_rd (hr _ (by unfold ViewReg; decide)), State.bit_setB_same _ _ _ _ (by decide)]
  · have hoffFor : u.offFor c T = ((T : Int) - (nth t.tmu.acc (s.fld (R.CV_BIND c) 1 0) 0 / 65536 : Nat)) * 65536 := by
      rw [State.offFor, hacc, State.fld_of_rd (hu _ hbind)]
    have hmoved : t.viewOff c = u.offFor c T := by
      obtain ⟨hm, -, -⟩ := u.viewMoved_moveView hc (hoffFor.symm ▸ ho)
      refine (State.viewOff_of_rd ?_ ?_ ?_).trans hm <;> refine (hr _ ?_).trans (State.rd_wr_other _ _ ?_)
      all_goals simp only [ViewReg, R.CV_OFF_NS, R.CV_OFF_SEC_LO, R.CV_OFF_SEC_HI, R.TMU_EVENTS]; omega
    have hfld : t.fld (R.CV_BIND c) 1 0 = s.fld (R.CV_BIND c) 1 0 := by
      refine State.fld_of_rd ((hr _ hbind).trans ((State.rd_setB _ _ _ _ _).trans ((if_neg ?_).trans ?_))) _ _
      · unfold R.TMU_EVENTS R.CV_BIND; omega
      · refine (u.rd_moveView _ _ _ ?_ ?_ ?_ ?_ ?_).trans (hu _ hbind) <;>
          simp only [R.CV_OFF_NS, R.CV_OFF_SEC_LO, R.CV_OFF_SEC_HI, R.CV_STEPS, R.TMU_EVENTS, R.CV_BIND] <;> omega
    rw [State.viewV, hmoved, hoffFor, hfld]
    omega

/-! ### Timed sets (R164) -/

theorem setCfg_changes (b : Bool) (x : TimeUnit) : ChangesOnly [R.TMU_SET_CFG] [.tmu] s { s.setB R.TMU_SET_CFG 31 b with tmu := x } :=
  ((ChangesOnly.refl _ _ s).setB _ _ List.mem_cons_self (by decide)).with_tmu x List.mem_cons_self
theorem ended_setCfg (b : Bool) (x : TimeUnit) : (s.ended { s.setB R.TMU_SET_CFG 31 b with tmu := x }).bit R.TMU_SET_CFG 31 = b :=
  (s.ended_bit _ (by decide) 31).trans (s.bit_setB_same _ _ _ (by decide))

theorem answers_setView_edge (h : s.fld R.TMU_SET_CFG 1 0 = 0) : Answers (.setView c) s (fun t =>
    t.tmu = { s.tmu with edge := s.tmu.edge ++ [.set c s.setTime], armed := none, setJustDone := false } ∧
    t.bit R.TMU_SET_CFG 31 = false ∧ Only (among [R.TMU_SET_CFG]) [.tmu] s t) := by
  obtain ⟨x, hx⟩ : ∃ x : TimeUnit, x = { s.tmu with edge := s.tmu.edge ++ [.set c s.setTime], armed := none, setJustDone := false } := ⟨_, rfl⟩
  have hexec : exec (.setView c) s = finish s { s.setB R.TMU_SET_CFG 31 false with tmu := x } := by
    rw [hx]; exact congrArg (finish s) (if_pos h)
  exact answers_of_finish hexec ⟨(s.ended_tmu _).trans hx, ended_setCfg false x, (setCfg_changes false x).only_among⟩
theorem answers_setView_armed (h : s.fld R.TMU_SET_CFG 1 0 = 1 ∨ (s.fld R.TMU_SET_CFG 1 0 = 2 ∧ s.fld R.TMU_SET_CFG 6 4 ≠ c)) :
    Answers (.setView c) s (fun t =>
      t.tmu.armed = some c.val ∧ t.bit R.TMU_SET_CFG 31 = true ∧ Only (among [R.TMU_SET_CFG]) [.tmu] s t) := by
  obtain ⟨x, hx⟩ : ∃ x : TimeUnit, x = { s.tmu with armed := some c.val, setJustDone := false } := ⟨_, rfl⟩
  have hexec : exec (.setView c) s = finish s { s.setB R.TMU_SET_CFG 31 true with tmu := x } := by
    rw [hx]; exact congrArg (finish s) ((if_neg (by omega)).trans (if_neg (by omega)))
  refine answers_of_finish hexec ⟨?_, ended_setCfg true x, (setCfg_changes true x).only_among⟩
  rw [s.ended_tmu, hx]
theorem answers_cancelSet_armed (h : s.tmu.armed.isSome = true) : Answers .cancelSet s (fun t =>
    t.tmu.armed = none ∧ t.bit R.TMU_SET_CFG 31 = false ∧ Only (among [R.TMU_SET_CFG]) [.tmu] s t) := by
  obtain ⟨x, hx⟩ : ∃ x : TimeUnit, x = { s.tmu with armed := none } := ⟨_, rfl⟩
  have hexec : exec .cancelSet s = finish s { s.setB R.TMU_SET_CFG 31 false with tmu := x } := by
    rw [hx]; exact congrArg (finish s) (if_pos h)
  refine answers_of_finish hexec ⟨?_, ended_setCfg false x, (setCfg_changes false x).only_among⟩
  rw [s.ended_tmu, hx]
/-- A cancel that comes at or after the instant of the set is late. -/
theorem answers_cancelSet_late (h : s.tmu.armed = none) (hd : s.tmu.setJustDone = true) : Answers .cancelSet s (fun t =>
    t.bit R.TMU_STATUS 18 = true ∧ Only (fun _ => false) [.tmu] s t) := by
  obtain ⟨x, hx⟩ : ∃ x : TimeUnit, x = { s.tmu with setJustDone := false } := ⟨_, rfl⟩
  have hexec : exec .cancelSet s = finish s { s.setB R.TMU_STATUS 18 true with tmu := x } := by
    rw [hx]
    refine congrArg (finish s) ((if_neg ?_).trans ?_)
    · rw [h]; decide
    · rw [hd]; rfl
  refine answers_of_finish hexec ⟨?_, ?_⟩
  · rw [State.bit_eq_fld, s.ended_tmuStatus_fld _ _ _ (by decide) (by decide), ← State.bit_eq_fld]
    exact s.bit_setB_same _ _ _ (by decide)
  · refine (((ChangesOnly.refl [R.TMU_STATUS] _ s).setB _ _ List.mem_cons_self (by decide)).with_tmu x List.mem_cons_self).only fun k hk => ?_
    rw [List.mem_singleton.1 hk]; decide

/-! ### The validity limit (R166) -/

theorem State.bit_validLost_event {v : Nat} (hv : v < 8) (h : s.bit (R.CV_CTRL v) 0 = true) :
    (s.validLost v).bit R.TMU_EVENTS (16 + v) = true := by
  unfold State.validLost
  rw [h]
  exact State.bit_setB_same _ _ _ _ (by omega)
theorem answers_validLimit (hlim : s.fld (R.CV_CTRL c) 31 16 ≠ 0) (hen : s.bit (R.CV_BIND c) 4 = true) (hv : s.bit (R.CV_CTRL c) 0 = true)
    (hle : s.rd (R.TB_HOLD_TIME (s.fld (R.CV_BIND c) 1 0)) ≤ s.fld (R.CV_CTRL c) 31 16) : Answers (.validLimit c) s (fun t =>
      t.bit (R.CV_CTRL c) 0 = false ∧ t.bit R.TMU_EVENTS (16 + c) = true) := by
  have hc := c.isLt
  obtain ⟨n, hn⟩ : ∃ n, n = s.toHoldTime (s.fld (R.CV_BIND c) 1 0) (s.fld (R.CV_CTRL c) 31 16) := ⟨_, rfl⟩
  have hexec : exec (.validLimit c) s = finish s ((s.elapse n).validLost c) := by
    have hcond : (s.fld (R.CV_CTRL c) 31 16 != 0 && s.bit (R.CV_BIND c) 4 &&
        decide (s.rd (R.TB_HOLD_TIME (s.fld (R.CV_BIND c) 1 0)) ≤ s.fld (R.CV_CTRL c) 31 16)) = true := by
      rw [bne_iff_ne.2 hlim, hen, decide_eq_true hle]; rfl
    show finish s (s.onIf (s.fld (R.CV_CTRL c) 31 16 != 0 && s.bit (R.CV_BIND c) 4 &&
      decide (s.rd (R.TB_HOLD_TIME (s.fld (R.CV_BIND c) 1 0)) ≤ s.fld (R.CV_CTRL c) 31 16)) _) = _
    rw [hcond, hn]; rfl
  have hclock : clockKey (R.CV_CTRL c) = false := by
    have hall : ∀ c : Cv, clockKey (R.CV_CTRL c) = false := by decide
    exact hall c
  refine answers_of_finish hexec ⟨?_, ?_⟩
  · rw [s.ended_bit _ (settleKey_time _ (by unfold R.CV_CTRL; omega) (by unfold R.CV_CTRL; omega))]
    exact State.bit_validLost_same _ c
  · rw [s.ended_bit _ (by decide)]
    exact State.bit_validLost_event hc ((s.bit_elapse n _ 0 hclock).trans hv)
end

/-- Settles O24: the one clock that passes on an empty queue counts on, and its edge applies what waits for one view to the time it has
reached, as one move of that view's offset; the other commands change what waits for the edge, or what is armed, alone. -/
theorem viewOffsetCommands : Obligations.ViewOffsetCommands := by
  unfold Obligations.ViewOffsetCommands
  refine ⟨?_, ?_, ?_, ?_, ?_, ?_, ?_, ?_, ?_⟩
  · exact fun s c v => answers_offsetWrite s c v
  · exact fun s c v => answers_viewStep s c v
  · exact fun s c h => answers_setView_edge h
  · exact fun s c o d e hp hl he h ho => step_viewMoved hp hl he h ho
  · exact fun s c T hp hl he => step_viewSet hp hl he
  · exact fun s c h => answers_setView_armed h
  · exact fun s h => answers_cancelSet_armed h
  · exact fun s h hd => answers_cancelSet_late h hd
  · exact fun s c hlim hen hv hle => answers_validLimit hlim hen hv hle

end Sys2Proof.Machine
end

section
/-! SUPPORT. Captures and pulses of PPS, and the reference (R158, R172, R173). -/
namespace Sys2Proof.Machine

/-! ### Captures of PPS_IN (R172) -/

section
variable {s : State}

theorem State.viewTime_lt (s : State) (v : Nat) :
    (s.viewTime v).1 < 4294967296 ∧ (s.viewTime v).2.1 < 281474976710656 ∧ (s.viewTime v).2.2 < 65536 := by
  unfold State.viewTime
  split
  · dsimp only; omega
  · decide

theorem State.armedApply_none (h : s.tmu.armed = none) (w ref : Nat) : s.armedApply w ref = s := by unfold State.armedApply; rw [h]
theorem State.wrs_four (s : State) (k a b c d : Nat) :
    s.wrs k [a, b, c, d] = (((s.wr k a).wr (k + 4) b).wr (k + 8) c).wr (k + 12) d := rfl
theorem State.rd_wrs_four (s : State) (k a b c d : Nat) :
    (s.wrs k [a, b, c, d]).rd k = a % 4294967296 ∧ (s.wrs k [a, b, c, d]).rd (k + 4) = b % 4294967296 ∧
    (s.wrs k [a, b, c, d]).rd (k + 8) = c % 4294967296 ∧ (s.wrs k [a, b, c, d]).rd (k + 12) = d % 4294967296 := by
  rw [State.wrs_four]
  simp only [State.rd_wr]
  refine ⟨?_, ?_, ?_, ?_⟩ <;> split_ifs <;> omega

/-- The registers of a capture. -/
def captureRegs : List Nat := [R.TMU_PPSIN_NS, R.TMU_PPSIN_SEC_LO, R.TMU_PPSIN_SEC_HI, R.TMU_PPSIN_INFO]
theorem State.wrs_capture_changes (s : State) (a b c d : Nat) : ChangesOnly captureRegs [] s (s.wrs R.TMU_PPSIN_NS [a, b, c, d]) := by
  rw [State.wrs_four]
  exact ((((ChangesOnly.refl _ _ s).wr _ (by decide) (by decide)).wr _ (by decide) (by decide)).wr _ (by decide) (by decide)).wr _
    (by decide) (by decide)
/-- The four words of a capture: nanoseconds, seconds low and high, and the fraction under the number of the capture. -/
def State.captureWords (s : State) : List Nat :=
  let w := s.viewTime (s.fld R.TMU_PPS_IN_CFG 3 1)
  [w.1, w.2.1 % 4294967296, w.2.1 / 4294967296, w.2.2 + (s.fld R.TMU_PPSIN_INFO 31 16 + 1) % 65536 * 65536]
theorem State.ppsCapture_eq (h : s.bit R.TMU_PPS_IN_CFG 0 = true) : s.ppsCapture =
    { ((s.wrs R.TMU_PPSIN_NS s.captureWords).onIf s.tmu.ppsUnread fun s => s.setB R.TMU_EVENTS 13 true).setB R.TMU_EVENTS 12 true with
      tmu := { s.tmu with ppsUnread := true } } := by
  unfold State.ppsCapture
  rw [h]
  cases hu : s.tmu.ppsUnread <;> simp [hu, State.captureWords, two32]
/-- Of the registers that a capture writes, TMU_EVENTS alone is not one of its words. -/
theorem State.rd_ppsCapture (h : s.bit R.TMU_PPS_IN_CFG 0 = true) {k : Nat} (hk : R.TMU_EVENTS ≠ k) :
    s.ppsCapture.rd k = (s.wrs R.TMU_PPSIN_NS s.captureWords).rd k := by
  rw [State.ppsCapture_eq h, State.rd_with_tmu, State.rd_setB, if_neg hk, State.rd_onIf _ _ _ _ (by rw [State.rd_setB, if_neg hk])]
theorem State.ppsCapture_changes (h : s.bit R.TMU_PPS_IN_CFG 0 = true) :
    ChangesOnly [R.TMU_PPSIN_NS, R.TMU_PPSIN_SEC_LO, R.TMU_PPSIN_SEC_HI, R.TMU_PPSIN_INFO, R.TMU_EVENTS] [.tmu] s s.ppsCapture := by
  have hwords : ChangesOnly [R.TMU_PPSIN_NS, R.TMU_PPSIN_SEC_LO, R.TMU_PPSIN_SEC_HI, R.TMU_PPSIN_INFO, R.TMU_EVENTS] [.tmu] s
      (s.wrs R.TMU_PPSIN_NS s.captureWords) := (s.wrs_capture_changes _ _ _ _).mono (by decide) (List.nil_subset _)
  rw [State.ppsCapture_eq h]
  exact ((hwords.onIf _ fun h => h.setB _ _ (by decide) (by decide)).setB _ _ (by decide) (by decide)).with_tmu _ List.mem_cons_self

theorem answers_ppsInEdge (h : s.bit R.TMU_PPS_IN_CFG 0 = true) (ha : s.tmu.armed = none) : Answers .ppsInEdge s (fun t =>
    let w := s.viewTime (s.fld R.TMU_PPS_IN_CFG 3 1)
    t.rd R.TMU_PPSIN_NS = w.1 ∧ t.rd R.TMU_PPSIN_SEC_LO + 4294967296 * t.rd R.TMU_PPSIN_SEC_HI = w.2.1 ∧
    t.fld R.TMU_PPSIN_INFO 15 0 = w.2.2 ∧ t.fld R.TMU_PPSIN_INFO 31 16 = (s.fld R.TMU_PPSIN_INFO 31 16 + 1) % 65536 ∧
    t.bit R.TMU_EVENTS 12 = true ∧ t.bit R.TMU_EVENTS 13 = (s.bit R.TMU_EVENTS 13 || s.tmu.ppsUnread) ∧ t.tmu.ppsUnread = true ∧
    Only (among [R.TMU_PPSIN_NS, R.TMU_PPSIN_SEC_LO, R.TMU_PPSIN_SEC_HI, R.TMU_PPSIN_INFO, R.TMU_EVENTS]) [.tmu] s t) := by
  have hexec : exec .ppsInEdge s = finish s s.ppsCapture := by
    show finish s (s.armedApply 1 0).ppsCapture = _
    rw [State.armedApply_none ha]
  obtain ⟨hns, hsec, hfrac⟩ := s.viewTime_lt (s.fld R.TMU_PPS_IN_CFG 3 1)
  have hrd : ∀ {k}, 0x1800004 < k → k < 0x1800800 → (s.ended s.ppsCapture).rd k = (s.wrs R.TMU_PPSIN_NS s.captureWords).rd k :=
    fun h1 h2 => (s.ended_rd _ (settleKey_time _ (by omega) h2)).trans (State.rd_ppsCapture h (by unfold R.TMU_EVENTS; omega))
  obtain ⟨h0, h4, h8, h12⟩ := s.rd_wrs_four R.TMU_PPSIN_NS (s.viewTime (s.fld R.TMU_PPS_IN_CFG 3 1)).1
    ((s.viewTime (s.fld R.TMU_PPS_IN_CFG 3 1)).2.1 % 4294967296) ((s.viewTime (s.fld R.TMU_PPS_IN_CFG 3 1)).2.1 / 4294967296)
    ((s.viewTime (s.fld R.TMU_PPS_IN_CFG 3 1)).2.2 + (s.fld R.TMU_PPSIN_INFO 31 16 + 1) % 65536 * 65536)
  have hinfo := (hrd (k := R.TMU_PPSIN_INFO) (by decide) (by decide)).trans h12
  have hbit : ∀ i, (s.ended s.ppsCapture).bit R.TMU_EVENTS i = s.ppsCapture.bit R.TMU_EVENTS i := s.ended_bit _ (by decide)
  have hevents : (s.wrs R.TMU_PPSIN_NS s.captureWords).bit R.TMU_EVENTS 13 = s.bit R.TMU_EVENTS 13 :=
    (s.wrs_capture_changes _ _ _ _).bit (by decide) 13
  refine answers_of_finish hexec ⟨?_, ?_, ?_, ?_, ?_, ?_, ?_, (State.ppsCapture_changes h).only_among⟩
  · exact ((hrd (by decide) (by decide)).trans h0).trans (Nat.mod_eq_of_lt hns)
  · rw [(hrd (k := R.TMU_PPSIN_SEC_LO) (by decide) (by decide)).trans h4, (hrd (k := R.TMU_PPSIN_SEC_HI) (by decide) (by decide)).trans h8]
    omega
  · rw [State.fld, hinfo, bitsOf]; omega
  · rw [State.fld, hinfo, bitsOf]; omega
  · rw [hbit, State.ppsCapture_eq h, State.bit_of_rd (State.rd_with_tmu _ _ _), State.bit_setB_same _ _ _ _ (by decide)]
  · rw [hbit, State.ppsCapture_eq h, State.bit_of_rd (State.rd_with_tmu _ _ _), State.bit_setB_apart _ _ _ (by decide) (by decide)]
    rw [State.bit_onIf, State.bit_setB_same _ _ _ _ (by decide), hevents]
    cases s.tmu.ppsUnread <;> simp
  · rw [s.ended_tmu, State.ppsCapture_eq h]
theorem answers_ppsInEdge_off (h : s.bit R.TMU_PPS_IN_CFG 0 = false) (ha : s.tmu.armed = none) :
    Answers .ppsInEdge s (fun t => Only (fun _ => false) [] s t) := by
  refine answers_nothing (congrArg (finish s) ?_)
  rw [State.armedApply_none ha, State.ppsCapture, h]; rfl

/-! ### Seconds of a view (R173) -/

/-- The time, the pulse and the outputs. -/
def State.pulseView (s : State) : Nat × Bool × List Out := (s.now, s.pwr.ppsOut, s.out)

theorem State.validLost_pulseView (s : State) (v : Nat) : (s.validLost v).pulseView = s.pulseView := s.onIf_keep _ _ State.pulseView rfl
theorem State.holdEnter_pulseView (s : State) (b : Nat) : (s.holdEnter b).pulseView = s.pulseView := s.onIf_keep _ _ State.pulseView rfl
theorem State.wake_pulseView (s : State) (n : Nat) : (s.wake n).pulseView = s.pulseView := by
  unfold State.wake
  split
  · exact (foldl_keep _ State.pulseView State.validLost_pulseView _ _).trans (foldl_keep _ State.pulseView State.holdEnter_pulseView _ _)
  · split <;> rfl
theorem State.setPast_pulseView (s : State) (a : Nat) (b : Bool) : (s.setPast a b).pulseView = s.pulseView := by
  unfold State.setPast; split <;> rfl
theorem State.almFire_pulseView (s : State) (a c : Nat) (passed : Bool) : (s.almFire a c passed).pulseView = s.pulseView := by
  unfold State.almFire
  extract_lets s1 p s2 n s3
  have h1 : s1.pulseView = s.pulseView := State.onIf_keep _ _ _ State.pulseView rfl
  have h2 : s2.pulseView = s.pulseView := (s1.setPast_pulseView a false).trans h1
  have h3 : s3.pulseView = s.pulseView := by simp only [s3]; split <;> exact h2
  exact (State.onIf_keep _ _ _ State.pulseView (s3.wake_pulseView 4)).trans h3
theorem State.almTest_pulseView (s : State) (jump : Bool) (c0 c1 a : Nat) : (s.almTest jump c0 c1 a).pulseView = s.pulseView := by
  unfold State.almTest
  extract_lets T past s1
  have h1 : s1.pulseView = s.pulseView := State.onIf_keep _ _ _ State.pulseView (s.setPast_pulseView a false)
  split
  · exact h1
  · split
    · exact (s1.almFire_pulseView _ _ _).trans h1
    · split
      · exact (s1.almFire_pulseView _ _ _).trans h1
      · split
        · exact (s1.almFire_pulseView _ _ _).trans h1
        · exact h1
theorem State.rtcSub_pulseView (s : State) : s.rtcSub.pulseView = s.pulseView := by unfold State.rtcSub; split <;> rfl
theorem State.rtcPut_pulseView (s : State) (c : Nat) : (s.rtcPut c).pulseView = s.pulseView := by
  unfold State.rtcPut State.rtcShow; split <;> rfl
theorem State.rtcSyncApply_pulseView (s : State) (sec : Nat) : (s.rtcSyncApply sec).pulseView = s.pulseView := by
  unfold State.rtcSyncApply
  extract_lets s1 c0 t lim c1 s2 d s3 s4 s5
  have h3 : s3.pulseView = s.pulseView := s.rtcSub_pulseView
  have h4 : s4.pulseView = s.pulseView := ((State.rtcPut_pulseView _ c1).trans (State.onIf_keep _ _ _ State.pulseView rfl)).trans h3
  exact ((State.almTest_pulseView _ true c0 c1 1).trans (State.almTest_pulseView _ true c0 c1 0)).trans h4
/-- The part of the real-time clock in a second, a wake by its alarms included. -/
theorem State.rtcViewSecond_pulseView (s : State) (v : Nat) : (s.rtcViewSecond v).pulseView = s.pulseView := by
  unfold State.rtcViewSecond
  extract_lets sec due s1
  have h1 : s1.pulseView = s.pulseView := State.onIf_keep _ _ _ State.pulseView rfl
  split
  · rfl
  · exact (State.onIf_keep _ _ _ State.pulseView (State.rtcSyncApply_pulseView _ _)).trans h1

/-- A second that a view reaches by running, of which no run of pulsed seconds knows, pulses PPS_OUT. -/
theorem State.viewSecond_pulses {v : Nat} (ha : s.active = true) (hen : s.bit R.TMU_PPS_OUT_CFG 0 = true) (hv : s.fld R.TMU_PPS_OUT_CFG 3 1 = v)
    (hg : s.bit R.TMU_PPS_OUT_CFG 4 = false) (hr : s.tmu.ppsRuns = []) (hn : s.tmu.armed = none) :
    (s.viewSecond v).pulseView = (s.now, true, .pin 0 true :: s.out) := by
  unfold State.viewSecond
  extract_lets sec s1 past
  have h1 : s1 = s := State.armedApply_none hn 2 v
  have hpast : past = false := by simp only [past, h1, hr]; rfl
  rw [if_pos (by rw [h1, ha, hen, hv, hpast, hg, beq_self_eq_true]; rfl), h1]
  rfl
theorem State.elapse_tmu_quiet (n : Nat) (hl : s.lowTide = false) (he : s.tmu.edge = []) :
    ∃ acc frac, (s.elapse n).tmu = { s.tmu with acc := acc, holdFrac := frac } := by
  obtain ⟨u, ⟨hu, -⟩, ht, -⟩ := State.elapse_edges n hl
  obtain ⟨acc, frac, hx⟩ := u.tbEdges_tmu n
  have hcond : (decide (n = 0) || u.tmu.edge.isEmpty) = true := by rw [hu, he]; exact Bool.or_true _
  have hedges : u.edges n = u.tbEdges n := if_pos hcond
  exact ⟨acc, frac, by rw [ht, hedges, hx, hu]⟩
theorem answers_viewSecond {c : Cv} {n : Nat} (hb : s.bit (R.CV_BIND c) 4 = true) (hl : s.lowTide = false) (ha : s.active = true)
    (he : s.tmu.edge = []) (hs : s.edgesToSecond c = some n) (hen : s.bit R.TMU_PPS_OUT_CFG 0 = true) (hv : s.fld R.TMU_PPS_OUT_CFG 3 1 = c)
    (hg : s.bit R.TMU_PPS_OUT_CFG 4 = false) (hr : s.tmu.ppsRuns = []) (hn : s.tmu.armed = none) : Answers (.viewSecond c) s (fun t =>
      t.now = s.now + n ∧ t.pwr.ppsOut = true ∧ t.out = .pin 0 true :: s.out) := by
  have hruns : s.viewRuns c = ((s.elapse n).viewSecond c).rtcViewSecond c := by
    unfold State.viewRuns
    rw [hb, hl, he, if_neg (by decide)]
    simp [hs]
  have hexec : exec (.viewSecond c) s = finish s (((s.elapse n).viewSecond c).rtcViewSecond c) := congrArg (finish s) hruns
  have hact : (s.elapse n).active = true := by
    unfold State.active State.power at ha ⊢
    rw [s.fld_elapse n _ _ _ (by decide)]; exact ha
  obtain ⟨acc, frac, htmu⟩ := State.elapse_tmu_quiet n hl he
  have hpulse : ((s.elapse n).viewSecond c).pulseView = (s.now + n, true, .pin 0 true :: s.out) := by
    rw [State.viewSecond_pulses hact ((s.bit_elapse n _ _ (by decide)).trans hen) ((s.fld_elapse n _ _ _ (by decide)).trans hv)
      ((s.bit_elapse n _ _ (by decide)).trans hg) (by rw [htmu, hr]) (by rw [htmu, hn]), s.elapse_now n hl, s.elapse_out n]
  have hend := (State.rtcViewSecond_pulseView _ c).trans hpulse
  generalize ((s.elapse n).viewSecond c).rtcViewSecond c = u at hexec hend
  obtain ⟨hnow, hpin, hout⟩ : u.now = _ ∧ u.pwr.ppsOut = _ ∧ u.out = _ := by simpa only [State.pulseView, Prod.mk.injEq] using hend
  obtain ⟨a, b, hp⟩ := s.ended_pwr u
  exact answers_of_finish hexec ⟨(s.ended_now u).trans hnow, by rw [hp]; exact hpin, (s.ended_out u).trans hout⟩
theorem answers_ppsOutEnd (h : s.pwr.ppsOut = true) : Answers .ppsOutEnd s (fun t =>
    t.pwr.ppsOut = false ∧ t.out = .pin 0 false :: s.out ∧ Only (fun _ => false) [.pwr, .out] s t) := by
  obtain ⟨x, hx⟩ : ∃ x : Power, x = { s.pwr with ppsOut := false } := ⟨_, rfl⟩
  have hexec : exec .ppsOutEnd s = finish s (({ s with pwr := x } : State).emit (.pin 0 false)) := by
    show finish s (s.onIf s.pwr.ppsOut _) = _
    rw [h, hx]; rfl
  obtain ⟨a, b, hp⟩ := s.ended_pwr (({ s with pwr := x } : State).emit (.pin 0 false))
  refine answers_of_finish hexec ⟨?_, s.ended_out _, ?_⟩
  · rw [hp]
    exact congrArg Power.ppsOut hx
  · exact (((ChangesOnly.refl [] _ s).with_pwr x List.mem_cons_self).emit _ (by decide)).only fun _ hk => nomatch hk

/-! ### The reference (R158) -/

/-- Bits 16 and 17 of TMU_STATUS follow no other state. -/
theorem ended_bit_reference (s u : State) {i : Nat} (h : i < 32) (h' : 11 < i) : (s.ended u).bit R.TMU_STATUS i = u.bit R.TMU_STATUS i := by
  rw [State.bit_eq_fld, s.ended_tmuStatus_fld _ _ _ h h', ← State.bit_eq_fld]
/-- The PLL moves to REF10M_IN, or from it: its presence, the reference in use, and the event. -/
theorem answers_reference {i : Instr} {b : Bool} {e : Nat} (h : exec i s = finish s
      (((s.setB R.TMU_STATUS 17 b).setB R.TMU_STATUS 16 b).setB R.TMU_EVENTS e true)) (he : e < 32) : Answers i s (fun t =>
    t.bit R.TMU_STATUS 17 = b ∧ t.bit R.TMU_STATUS 16 = b ∧ t.bit R.TMU_EVENTS e = true ∧ Only (among [R.TMU_EVENTS]) [] s t) := by
  refine answers_of_finish h ⟨?_, ?_, ?_, ?_⟩
  · rw [ended_bit_reference _ _ (by decide) (by decide), State.bit_setB_other _ _ _ _ (by decide),
      State.bit_setB_apart _ _ _ (by decide) (by decide), State.bit_setB_same _ _ _ _ (by decide)]
  · rw [ended_bit_reference _ _ (by decide) (by decide), State.bit_setB_other _ _ _ _ (by decide), State.bit_setB_same _ _ _ _ (by decide)]
  · rw [s.ended_bit _ (by decide), State.bit_setB_same _ _ _ _ he]
  · have hchg : ChangesOnly [R.TMU_STATUS, R.TMU_EVENTS] [] s (((s.setB R.TMU_STATUS 17 b).setB R.TMU_STATUS 16 b).setB R.TMU_EVENTS e true) :=
      (((ChangesOnly.refl _ _ s).setB _ _ (by decide) (by decide)).setB _ _ (by decide) (by decide)).setB _ _ (by decide) (by decide)
    exact hchg.only (by decide)
theorem answers_refLost (h : s.bit R.TMU_CLK_CFG 0 = true) : Answers .refLost s (fun t =>
    t.bit R.TMU_STATUS 17 = false ∧ t.bit R.TMU_STATUS 16 = false ∧ t.bit R.TMU_EVENTS 14 = true ∧ Only (among [R.TMU_EVENTS]) [] s t) := by
  refine answers_reference ?_ (by decide)
  show finish s (State.onIf _ ((s.setB R.TMU_STATUS 17 false).bit R.TMU_CLK_CFG 0) _) = _
  rw [State.bit_setB_other _ _ _ _ (by decide), h]; rfl
theorem answers_refBack (h : s.bit R.TMU_CLK_CFG 0 = true) : Answers .refBack s (fun t =>
    t.bit R.TMU_STATUS 17 = true ∧ t.bit R.TMU_STATUS 16 = true ∧ t.bit R.TMU_EVENTS 15 = true ∧ Only (among [R.TMU_EVENTS]) [] s t) := by
  refine answers_reference ?_ (by decide)
  show finish s (State.onIf _ ((s.setB R.TMU_STATUS 17 true).bit R.TMU_CLK_CFG 0) _) = _
  rw [State.bit_setB_other _ _ _ _ (by decide), h]; rfl
/-- While the TCXO is selected, the loss of REF10M_IN is shown and moves nothing. -/
theorem answers_refLost_unselected (h : s.bit R.TMU_CLK_CFG 0 = false) : Answers .refLost s (fun t =>
    t.bit R.TMU_STATUS 17 = false ∧ t.bit R.TMU_STATUS 16 = s.bit R.TMU_STATUS 16 ∧ Only (fun _ => false) [] s t) := by
  have hexec : exec .refLost s = finish s (s.setB R.TMU_STATUS 17 false) := by
    show finish s (State.onIf _ ((s.setB R.TMU_STATUS 17 false).bit R.TMU_CLK_CFG 0) _) = _
    rw [State.bit_setB_other _ _ _ _ (by decide), h]; rfl
  refine answers_of_finish hexec ⟨?_, ?_, ?_⟩
  · rw [ended_bit_reference _ _ (by decide) (by decide), State.bit_setB_same _ _ _ _ (by decide)]
  · rw [ended_bit_reference _ _ (by decide) (by decide), State.bit_setB_apart _ _ _ (by decide) (by decide)]
  · exact ((ChangesOnly.refl [R.TMU_STATUS] [] s).setB _ _ (by decide) (by decide)).only (by decide)
end

/-- Settles O25: a capture writes the view's time at the edge; a second runs the clocks to it, and the real-time clock's part in it leaves
the time, the pulse and the outputs; a move of the reference is three bits. -/
theorem ppsAndReferenceCommands : Obligations.PpsAndReferenceCommands := by
  unfold Obligations.PpsAndReferenceCommands
  refine ⟨?_, ?_, ?_, ?_, ?_, ?_, ?_⟩
  · exact fun s h ha => answers_ppsInEdge h ha
  · exact fun s h ha => answers_ppsInEdge_off h ha
  · exact fun s c n hb hl ha he hs hen hv hg hr hn => answers_viewSecond hb hl ha he hs hen hv hg hr hn
  · exact fun s h => answers_ppsOutEnd h
  · exact fun s h => answers_refLost h
  · exact fun s h => answers_refBack h
  · exact fun s h => answers_refLost_unselected h

end Sys2Proof.Machine
end
section
/-! SUPPORT. The links of ingest (R197 to R200): what a message that enters them, or is dropped before them, leaves as it was. -/
namespace Sys2Proof.Machine

theorem State.with_ing_kept (s : State) (x : Ingest) {p : Part} (hp : p ≠ .ing) : p.kept s { s with ing := x } := by
  cases p
  case ing => exact absurd rfl hp
  case evt => exact ⟨rfl, rfl⟩
  all_goals rfl
theorem ChangesOnly.with_ing {l : List Nat} {ps : List Part} {s t : State} (h : ChangesOnly l ps s t) (x : Ingest) (hp : .ing ∈ ps) :
    ChangesOnly l ps s { t with ing := x } :=
  h.trans ⟨fun _ _ => rfl, fun _ hq => t.with_ing_kept x (fun e => hq (e ▸ hp))⟩

/-- The registers that the links write whole; of ING_STATUS they write the back-pressure bits alone. -/
def linkKeys : List Nat := [R.ING_LINK_SEQ, R.ING_Q_CREST 0, R.ING_Q_CREST 1, R.ING_EVENTS, R.ING_GAP_COUNT]
/-- A property of the state that the work of the links and of the streams' sets keeps: it depends on no register that they write,
and of ingest's own state on the chains and the latest deadline alone. -/
structure LinkClosed (P : State → Prop) : Prop where
  wr : ∀ (t : State) (k v : Nat), k ∈ linkKeys → P t → P (t.wr k v)
  level : ∀ (t : State) (i : Nat) (b : Bool), i = 3 ∨ i = 4 → P t → P (t.setB R.ING_STATUS i b)
  ing : ∀ (t : State) (x : Ingest), x.mc = t.ing.mc → x.dead = t.ing.dead → P t → P { t with ing := x }

section
variable {P : State → Prop} (h : LinkClosed P) {t : State} (ht : P t)
include h ht

theorem LinkClosed.crest {k : Nat} (v : Nat) (hk : k ∈ linkKeys) : P (t.crest k v) := by
  unfold State.crest; split
  · exact h.wr _ _ _ hk ht
  · exact ht
theorem LinkClosed.bpRefresh : P t.bpRefresh := by
  unfold State.bpRefresh
  extract_lets a b s1
  have h1 : P s1 := h.level _ 4 _ (.inr rfl) (h.level _ 3 _ (.inl rfl) ht)
  exact h.crest (h.crest h1 _ (by decide)) _ (by decide)
theorem LinkClosed.ingPut (typ set idx verdict gen : Nat) (pay : List Nat) (bytes : Bytes) : P (t.ingPut typ set idx verdict gen pay bytes) := by
  unfold State.ingPut
  extract_lets m s1 src s2
  have h1 : P s1 := h.wr _ _ _ (by decide) ht
  exact h.bpRefresh (h.ing s1 _ rfl rfl h1)
theorem LinkClosed.ingGap (typ set first count cause gen : Nat) : P (t.ingGap typ set first count cause gen) := by
  unfold State.ingGap
  exact h.ingPut ht _ _ _ _ _ _ _
theorem LinkClosed.endDrops (typ set gen : Nat) : P (t.endDrops typ set gen) := by
  unfold State.endDrops; split
  next => exact ht
  next d _ => exact h.ingGap (h.ing t { t.ing with drops := t.ing.drops.erase d } rfl rfl ht) _ _ _ _ _ _
theorem LinkClosed.ingDrop (typ set idx gen : Nat) : P (t.ingDrop typ set idx gen) := by
  have hset : P (t.setB R.ING_EVENTS 3 true) := h.wr _ _ _ (by decide) ht
  have hcnt : P ((t.setB R.ING_EVENTS 3 true).addSat R.ING_GAP_COUNT 1) := h.wr _ _ _ (by decide) hset
  have hbegin : ∀ u : State, P u → P (u.dropBegin typ set idx) := fun u hu => h.ing u _ rfl rfl hu
  unfold State.ingDrop
  extract_lets s1 s2 src
  split
  · exact hbegin _ hcnt
  · split
    · exact hset
    · extract_lets s3
      have h3 : P s3 := h.ing s2 _ rfl rfl hcnt
      split
      · exact hbegin _ (h.endDrops hcnt _ _ _)
      · split
        · exact h.endDrops h3 _ _ _
        · exact h3
theorem LinkClosed.ingSend (typ set idx verdict gen : Nat) (pay : List Nat) (bytes : Bytes) : P (t.ingSend typ set idx verdict gen pay bytes) := by
  unfold State.ingSend; split
  · exact h.ingDrop ht _ _ _ _
  · exact h.ingPut (h.endDrops ht _ _ _) _ _ _ _ _ _ _
end

theorem linkKeys_ne_wdnStatus {k : Nat} (h : k ∈ linkKeys) : k ≠ R.WDN_STATUS := by
  rintro rfl; exact absurd h (by decide)
/-- A frame that names the links' registers, and ingest, is kept by their work. -/
theorem linkClosed_changesOnly {l : List Nat} {ps : List Part} (s : State) (hl : R.ING_STATUS :: linkKeys ⊆ l) (hp : .ing ∈ ps) :
    LinkClosed (ChangesOnly l ps s) where
  wr _ _ v hk h := h.wr v (hl (List.mem_cons_of_mem _ hk)) (linkKeys_ne_wdnStatus hk)
  level _ i b _ h := h.setB i b (hl List.mem_cons_self) (by decide)
  ing _ x _ _ h := h.with_ing x hp
theorem linkClosed_mc (x : List (Nat × McRt)) : LinkClosed (fun t => t.ing.mc = x) where
  wr _ _ _ _ h := h
  level _ _ _ _ h := h
  ing _ _ hm _ h := hm.trans h
theorem linkClosed_net (x : Net) : LinkClosed (fun t => t.net = x) where
  wr _ _ _ _ h := h
  level _ _ _ _ h := h
  ing _ _ _ _ h := h

/-! ### The sets of the streams -/

section
variable {P : State → Prop} (h : LinkClosed P) {t : State} (ht : P t)
include h ht

theorem LinkClosed.setSv (i : Nat) (r : SvRt) : P (t.setSv i r) := h.ing t _ rfl rfl ht
theorem LinkClosed.svPredict (i m : Nat) : P (t.svPredict i m) := by
  unfold State.svPredict
  extract_lets r n e ks sets ok p
  split
  · exact ht
  · exact h.ingPut (h.setSv ht _ _) _ _ _ _ _ _ _
theorem LinkClosed.svSend (i k : Nat) : P (t.svSend i k) := by
  unfold State.svSend
  extract_lets r src s1
  have h1 : P s1 := h.setSv ht _ _
  split
  · exact ht
  · split
    · exact h.ing t _ rfl rfl ht
    · split
      · exact ht
      · extract_lets pay s2
        have h2 : P s2 := h.ingSend h1 _ _ _ _ _ _ _
        split
        · exact h2
        · exact h.svPredict h2 _ _
theorem LinkClosed.svComplete (i k : Nat) : P (t.svComplete i k) := by
  unfold State.svComplete
  extract_lets r
  split
  · exact ht
  · exact h.svSend (h.setSv ht _ _) _ _
end

end Sys2Proof.Machine
end

section
/-! SUPPORT. A sample boundary on the I/O die, the pacer, and the hold of a link (R177, R178, R201). -/
namespace Sys2Proof.Machine

/-! ### The boundary -/

/-- Boundary k is the latest one issued: ING_INDEX shows it, and ING_STATUS that boundaries are issued. -/
def State.Issued (k : Nat) (t : State) : Prop := t.rd R.ING_INDEX = k ∧ t.bit R.ING_STATUS 0 = true

section
variable {k : Nat} {t : State} (h : t.Issued k)
include h

theorem State.Issued.of_regs {u : State} (hi : u.rd R.ING_INDEX = t.rd R.ING_INDEX) (hs : u.bit R.ING_STATUS 0 = t.bit R.ING_STATUS 0) :
    u.Issued k := ⟨hi.trans h.1, hs.trans h.2⟩
theorem State.Issued.wr {j : Nat} (v : Nat) (hi : j ≠ R.ING_INDEX) (hs : j ≠ R.ING_STATUS) : (t.wr j v).Issued k :=
  h.of_regs (t.rd_wr_other v hi) (t.bit_wr_other v 0 hs)
end

theorem linkClosed_issued (k : Nat) : LinkClosed (State.Issued k) where
  wr t j v hj h := h.wr v (by rintro rfl; exact absurd hj (by decide)) (by rintro rfl; exact absurd hj (by decide))
  level t i b hi h := h.of_regs (State.rd_wr_other _ _ (by decide)) (t.bit_setB_apart _ b (by decide) (by omega))
  ing _ _ _ _ h := h

theorem State.issued_mcEnterSettling {k m : Nat} {t : State} (h : t.Issued k) : (t.mcEnterSettling m).Issued k := by
  have hset : ∀ u : State, u.Issued k → ∀ hi lo v, (u.setF (R.MC_STATUS m) hi lo v).Issued k := fun u hu hi lo v =>
    hu.wr _ (by unfold R.MC_STATUS R.ING_INDEX; omega) (by unfold R.MC_STATUS R.ING_STATUS; omega)
  exact (linkClosed_issued k).ingGap (hset _ (hset _ h _ _ _) _ _ _) _ _ _ _ _ _
/-- The starts, stops and resets of the chains leave the index and the state of ingest (R194, R196). -/
theorem State.issued_mcBoundary {k : Nat} {t : State} (h : t.Issued k) : t.mcBoundary.Issued k := by
  have hstop : ∀ (u : State) (m : Nat), u.Issued k → (u.setF (R.MC_STATUS m) 2 0 1).Issued k := fun u m hu =>
    hu.wr _ (by unfold R.MC_STATUS R.ING_INDEX; omega) (by unfold R.MC_STATUS R.ING_STATUS; omega)
  have hclear : ∀ (u : State) (m : Nat), u.Issued k → ((u.mcClear m).mcEnterSettling m).Issued k := fun u m hu =>
    State.issued_mcEnterSettling (t := u.mcClear m) hu
  unfold State.mcBoundary
  extract_lets s1 s2 src
  have h1 : s1.Issued k := by
    refine List.foldlRecOn (motive := State.Issued k) _ _ h fun u hu m _ => ?_
    split
    · extract_lets _ u1
      have hu1 : u1.Issued k := hu
      split
      · exact hclear u1 m hu1
      · exact hu1
    · unfold State.onIf
      split
      · exact hstop _ m hu
      · exact hu
    · exact hu
  have h2 : s2.Issued k := by
    refine List.foldlRecOn (motive := State.Issued k) _ _ h1 fun u hu m _ => ?_
    split
    · exact hclear u m hu
    · exact hu
  split
  · exact h1
  · exact State.Issued.wr (t := { s2 with ing := { s2.ing with sync := false } }) h2 _ (by decide) (by decide)

theorem State.issued_ingBoundary (s : State) {k n : Nat} (hn : n = k % 4294967296) : (s.ingBoundary k).Issued n := by
  have hc := linkClosed_issued n
  unfold State.ingBoundary
  extract_lets s1 src s2 w
  have h1 : s1.Issued n := ⟨(State.rd_wr_same _ _ _).trans hn.symm, (State.bit_wr_other _ _ _ (by decide)).trans (s.bit_setB_same _ _ _ (by decide))⟩
  have h2 : (s2.demandMark k).2.Issued n := h1
  split
  next mark s3 hm =>
  rw [hm] at h2
  extract_lets s4 s5 gq src5 s6 s7 es src7
  have h5 : s5.Issued n := List.foldlRecOn _ _ (hc.ingPut h2 _ _ _ _ _ _ _) fun u hu i _ => hc.svPredict hu i _
  have h6 : s6.Issued n := by
    refine List.foldlRecOn (motive := State.Issued n) _ _ (hc.ing _ _ rfl rfl h5) fun u hu g _ => ?_
    extract_lets gen
    split
    · exact hc.ingSend hu _ _ _ _ _ _ _
    · exact hc.ingPut hu _ _ _ _ _ _ _
  have h7 : s7.Issued n := State.issued_mcBoundary h6
  clear_value s7
  exact List.foldlRecOn (motive := State.Issued n) _ _ (hc.ing s7 { s7.ing with early := [] } rfl rfl h7)
    fun u hu e _ => hc.svSend hu _ _

theorem State.regs_saveCount (s : State) (k : Nat) : (s.saveCount k).regs = s.regs := by
  unfold State.saveCount; split
  · rfl
  · split <;> rfl
theorem State.rd_ltPoke (s : State) {k : Nat} (h : k < 0x4000000) : s.ltPoke.rd k = s.rd k :=
  State.onIf_keep _ _ _ (fun t => t.rd k) (State.rd_saveBegin _ _ _ h)

/-- While the module runs, a boundary issues the next index (R13, R177). -/
theorem State.issued_sampleBoundary {s : State} (h : s.power = 2) : s.sampleBoundary.Issued (s.nextIndex % 4294967296) := by
  unfold State.sampleBoundary
  rw [if_neg (by simp [h])]
  extract_lets k s1 s2
  have hend : ∀ {j : Nat}, j < 0x4000000 → (((s2.joinLink k).ingBoundary k).saveCount k).ltPoke.rd j = ((s2.joinLink k).ingBoundary k).rd j :=
    fun hj => (State.rd_ltPoke _ hj).trans (State.rd_congr (State.regs_saveCount _ _) _)
  exact ((s2.joinLink k).issued_ingBoundary rfl).of_regs (hend (by decide)) (State.bit_of_rd (hend (by decide)) 0)

theorem answers_sampleBoundary {s : State} (h : s.power = 2) : Answers .sampleBoundary s (fun t =>
    t.rd R.ING_INDEX = s.nextIndex % 4294967296 ∧ t.bit R.ING_STATUS 0 = true) := by
  obtain ⟨hi, hs⟩ := State.issued_sampleBoundary h
  exact answers_of_finish rfl ⟨(s.ended_rd _ (by decide)).trans hi, (s.ended_bit _ (by decide) 0).trans hs⟩
theorem answers_sampleBoundary_stopped {s : State} (h2 : s.power ≠ 2) (h4 : s.power ≠ 4) :
    Answers .sampleBoundary s (fun t => Only (fun _ => false) [] s t) := by
  have hstay : s.sampleBoundary = s := by
    unfold State.sampleBoundary; exact if_pos (by simp [h2, h4])
  exact answers_of_finish (congrArg (finish s) hstay) (ChangesOnly.refl [] [] s).only_among

/-! ### The pacer -/

theorem State.paceClamp_ge (s : State) (p : Nat) : s.paceNom - s.paceNom / 10000 ≤ s.paceClamp p := Nat.le_max_left _ _
theorem State.paceClamp_le (s : State) (p : Nat) : s.paceClamp p ≤ s.paceNom + s.paceNom / 10000 :=
  max_le ((Nat.sub_le _ _).trans (Nat.le_add_right _ _)) (Nat.min_le_left _ _)
/-- A period within its limits fits the two registers. -/
theorem State.paceClamp_lt (s : State) (p : Nat) : s.paceClamp p < 4294967296 * 1048576 := by
  refine (s.paceClamp_le p).trans_lt ?_
  unfold State.paceNom; split <;> decide
theorem State.paceClamp_congr {s t : State} (h : t.rd R.ING_PACE_CFG = s.rd R.ING_PACE_CFG) (p : Nat) : t.paceClamp p = s.paceClamp p := by
  unfold State.paceClamp State.paceNom; rw [State.bit_of_rd h]
theorem bitsOf_low_field (n w : Nat) (h : n < 2 ^ (w + 1)) : bitsOf n w 0 = n := by
  rw [bitsOf, Nat.pow_zero, Nat.div_one, Nat.sub_zero, Nat.mod_eq_of_lt h]
theorem State.pacePeriod_setPeriod (s : State) {p : Nat} (h : p < 4294967296 * 1048576) : (s.setPeriod p).pacePeriod = p := by
  have hlo : (s.setPeriod p).rd R.ING_PACE_PERIOD_LO = p % 4294967296 :=
    ((State.rd_wr_other _ _ (by decide)).trans (State.rd_wr_same _ _ _)).trans (Nat.mod_mod _ _)
  have hhi : (s.setPeriod p).fld R.ING_PACE_PERIOD_HI 19 0 = p / 4294967296 := by
    have hlt : p / 4294967296 < 1048576 := Nat.div_lt_of_lt_mul h
    unfold State.fld State.setPeriod
    rw [State.rd_wr_same, bitsOf_mod_two32 _ _ _ (by decide), show p / two32 = p / 4294967296 from rfl, bitsOf_low_field _ _ (by omega)]
  unfold State.pacePeriod
  rw [hlo, hhi]
  exact Nat.mod_add_div p 4294967296

/-- The low word of a pair as a write of its high word leaves it (R5). -/
theorem State.rd_pairLow (s : State) (p : Path) (k : Nat) :
    (s.pairLow p k).rd k = match s.heldGet p k with | some w => w % 4294967296 | none => s.rd k := by
  unfold State.pairLow
  cases s.heldGet p k with
  | some w => exact State.rd_wr_same _ _ _
  | none => rfl
theorem ChangesOnly.pairLow {l : List Nat} {ps : List Part} {s t : State} (h : ChangesOnly l ps s t) (p : Path) {k : Nat} (hk : k ∈ l)
    (hw : k ≠ R.WDN_STATUS) (hp : .held ∈ ps) : ChangesOnly l ps s (t.pairLow p k) := by
  unfold State.pairLow; split
  · exact (h.wr _ hk hw).trans ⟨fun _ _ => rfl, fun _ hq => State.heldDel_kept _ _ _ (fun e => hq (e ▸ hp))⟩
  · exact h

theorem answers_pacePeriodWrite (s : State) (p : Path) (v : Word) : Answers (.pacePeriodWrite p v) s (fun t =>
    t.pacePeriod = s.paceClamp ((match s.heldGet p R.ING_PACE_PERIOD_LO with | some w => w % 4294967296 | none => s.rd R.ING_PACE_PERIOD_LO) +
      4294967296 * (v.toNat % 1048576)) ∧
    s.paceNom - s.paceNom / 10000 ≤ t.pacePeriod ∧ t.pacePeriod ≤ s.paceNom + s.paceNom / 10000 ∧
    Only (among [R.ING_PACE_PERIOD_LO, R.ING_PACE_PERIOD_HI]) [.held] s t) := by
  obtain ⟨u, hu⟩ : ∃ u, u = (s.pairLow p R.ING_PACE_PERIOD_LO).wr R.ING_PACE_PERIOD_HI (v.toNat % 2 ^ 20) := ⟨_, rfl⟩
  have hchg : ChangesOnly [R.ING_PACE_PERIOD_LO, R.ING_PACE_PERIOD_HI] [.held] s u := by
    rw [hu]
    exact ((ChangesOnly.refl _ _ s).pairLow p (by decide) (by decide) (by decide)).wr _ (by decide) (by decide)
  have hlo : u.rd R.ING_PACE_PERIOD_LO = match s.heldGet p R.ING_PACE_PERIOD_LO with | some w => w % 4294967296 | none => s.rd R.ING_PACE_PERIOD_LO := by
    rw [hu, State.rd_wr_other _ _ (by decide), State.rd_pairLow]
  have hhi : u.fld R.ING_PACE_PERIOD_HI 19 0 = v.toNat % 1048576 := by
    rw [hu, State.fld, State.rd_wr_same, bitsOf_mod_two32 _ _ _ (by decide), bitsOf_low_field _ _ (Nat.mod_lt _ (by decide))]; rfl
  have hclamp : ∀ q, u.paceClamp q = s.paceClamp q := State.paceClamp_congr (hchg.rd_other (by decide))
  have hexec : exec (.pacePeriodWrite p v) s = finish s (u.setPeriod (s.paceClamp u.pacePeriod)) := by
    rw [← hclamp, hu]; rfl
  have hper : (s.ended (u.setPeriod (s.paceClamp u.pacePeriod))).pacePeriod = s.paceClamp u.pacePeriod := by
    unfold State.pacePeriod at *
    rw [s.ended_rd _ (by decide), s.ended_fld _ (by decide)]
    exact State.pacePeriod_setPeriod u (s.paceClamp_lt _)
  refine answers_of_finish hexec ⟨?_, ?_, ?_, ?_⟩
  · rw [hper, State.pacePeriod, hlo, hhi]; rfl
  · rw [hper]; exact s.paceClamp_ge _
  · rw [hper]; exact s.paceClamp_le _
  · exact ((hchg.wr _ (by decide) (by decide)).wr _ (by decide) (by decide)).only_among

/-- A whole number of nanoseconds reads as it was written. -/
theorem shiftWord_eq (v : Word) :
    u32 (if sgn32 v.toNat * 4294967296 < 0 then -(-(sgn32 v.toNat * 4294967296) / 4294967296) else sgn32 v.toNat * 4294967296 / 4294967296) = v.toNat := by
  rw [← Int.neg_mul, Int.mul_ediv_cancel _ (by decide), Int.mul_ediv_cancel _ (by decide), Int.neg_neg, ite_self, sgn32_toNat, u32,
    BitVec.ofInt_toInt]
theorem answers_paceShiftWrite (s : State) (v : Word) : Answers (.paceShiftWrite v) s (fun t =>
    t.ing.shift = sgn32 v.toNat * 4294967296 ∧ t.rd R.ING_PACE_SHIFT = v.toNat ∧ Only (among [R.ING_PACE_SHIFT]) [.ing] s t) := by
  refine answers_of_finish rfl ⟨?_, ?_, ?_⟩
  · rw [s.ended_ing]; rfl
  · rw [s.ended_rd _ (by decide)]
    exact (State.rd_wr_same _ _ _).trans ((congrArg (· % 4294967296) (shiftWord_eq v)).trans (Nat.mod_eq_of_lt v.isLt))
  · exact (((ChangesOnly.refl _ _ s).wr _ (by decide) (by decide)).with_ing _ (by decide)).only_among

/-! ### The hold of a link -/

/-- The levels of the queues are shown in ING_STATUS and the crest marks alone. -/
theorem State.rd_bpRefresh (s : State) {k : Nat} (h : k ≠ R.ING_STATUS) (h0 : k ≠ R.ING_Q_CREST 0) (h1 : k ≠ R.ING_Q_CREST 1) :
    s.bpRefresh.rd k = s.rd k := by
  unfold State.bpRefresh
  exact (State.rd_crest_other _ _ h1.symm).trans ((State.rd_crest_other _ _ h0.symm).trans
    ((State.rd_wr_other _ _ h.symm).trans (State.rd_wr_other _ _ h.symm)))
theorem State.bit_bpRefresh_status (s : State) {i : Nat} (h : i < 3) : s.bpRefresh.bit R.ING_STATUS i = s.bit R.ING_STATUS i := by
  unfold State.bpRefresh
  have hlvl : ∀ (t : State) (j : Nat) (b : Bool), 3 ≤ j → (t.setB R.ING_STATUS j b).bit R.ING_STATUS i = t.bit R.ING_STATUS i :=
    fun t j b hj => t.bit_setB_apart _ b (by omega) (by omega)
  exact (State.bit_of_rd (State.rd_crest_other _ _ (by decide)) i).trans ((State.bit_of_rd (State.rd_crest_other _ _ (by decide)) i).trans
    ((hlvl _ 4 _ (by decide)).trans (hlvl _ 3 _ (by decide))))
theorem State.bit_healthBit (s : State) (l : Lane) {i : Nat} (h : i < 12) : (s.healthBit l i).bit (R.WDN_HEALTH (laneIx l)) i = true := by
  have hset : (s.setB (R.WDN_HEALTH (laneIx l)) i true).bit (R.WDN_HEALTH (laneIx l)) i = true := s.bit_setB_same _ _ _ (by omega)
  refine (State.onIf_keep _ _ _ (fun t => t.bit (R.WDN_HEALTH (laneIx l)) i) (State.bit_setB_other _ _ _ _ ?_)).trans hset
  cases l <;> decide
theorem State.rd_healthBit (s : State) (l : Lane) (i : Nat) {k : Nat} (h : k < 0x300000 ∨ 0x400000 ≤ k) : (s.healthBit l i).rd k = s.rd k :=
  (State.onIf_keep _ _ _ (fun t => t.rd k) (State.rd_wr_other _ _ (by unfold R.WDN_EVENTS; omega))).trans
    (State.rd_wr_other _ _ (by have hl : laneIx l < 2 := by cases l <;> decide
                               unfold R.WDN_HEALTH; omega))

theorem answers_ingestLinkHold {s : State} {l : Lane} (h : s.linkHeld l = false) : Answers (.ingestLinkHold l) s (fun t =>
    t.bit R.ING_STATUS (1 + laneIx l) = true ∧ t.bit R.ING_EVENTS 8 = true ∧ t.linkHeld l = true ∧
    t.bit (R.WDN_HEALTH (laneIx l)) 2 = true) := by
  have hix : laneIx l < 2 := by cases l <;> decide
  obtain ⟨u, hu⟩ : ∃ u, u = ((s.setLink l []).setB R.ING_STATUS (1 + laneIx l) true).setB R.ING_EVENTS 8 true := ⟨_, rfl⟩
  have hexec : exec (.ingestLinkHold l) s = finish s (u.bpRefresh.healthBit l 2) := by
    show finish s (s.onIf (!s.linkHeld l) _) = _
    have hgo : s.holdLink l = u.bpRefresh := by
      rw [hu]; exact if_neg (by rw [h]; decide)
    rw [h, ← hgo]; rfl
  have hheld : (s.ended (u.bpRefresh.healthBit l 2)).bit R.ING_STATUS (1 + laneIx l) = true := by
    rw [s.ended_bit _ (by decide), State.bit_of_rd (State.rd_healthBit _ l 2 (by decide)), State.bit_bpRefresh_status _ (by omega), hu,
      State.bit_setB_other _ _ _ _ (by decide)]
    exact State.bit_setB_same _ _ _ _ (by omega)
  refine answers_of_finish hexec ⟨hheld, ?_, hheld, ?_⟩
  · rw [s.ended_bit _ (by decide), State.bit_of_rd (State.rd_healthBit _ l 2 (by decide)),
      State.bit_of_rd (State.rd_bpRefresh _ (by decide) (by decide) (by decide)), hu]
    exact State.bit_setB_same _ _ _ _ (by decide)
  · rw [s.ended_bit _ (by cases l <;> decide)]
    exact State.bit_healthBit _ l (by decide)
theorem answers_ingestLinkHold_held {s : State} {l : Lane} (h : s.linkHeld l = true) :
    Answers (.ingestLinkHold l) s (fun t => Only (fun _ => false) [] s t) := by
  have hexec : exec (.ingestLinkHold l) s = finish s s := by
    show finish s (s.onIf (!s.linkHeld l) _) = _
    rw [h]; rfl
  exact answers_of_finish hexec (ChangesOnly.refl [] [] s).only_among

/-- Settles O26: the boundary shows its index before its own work, which leaves it; a period is clamped before it is stored; a hold is
three bits. -/
theorem boundaryAndPacer : Obligations.BoundaryAndPacer := by
  unfold Obligations.BoundaryAndPacer
  refine ⟨?_, ?_, ?_, ?_, ?_, ?_⟩
  · exact fun s h _ _ => answers_sampleBoundary h
  · exact fun s h2 h4 => answers_sampleBoundary_stopped h2 h4
  · exact fun s p v => answers_pacePeriodWrite s p v
  · exact fun s v => answers_paceShiftWrite s v
  · exact fun s l h => answers_ingestLinkHold h
  · exact fun s l h => answers_ingestLinkHold_held h

end Sys2Proof.Machine
end
section
/-! SUPPORT. Sampled-value streams, GOOSE subscriptions, and frames for lane-resident VIs (R180 to R190, R197). -/
namespace Sys2Proof.Machine

/-- The registers of ingest follow no other state. -/
theorem settleKey_ingest {k : Nat} (h1 : 0x1C00000 ≤ k) (h2 : k < 0x2000000) : settleKey k = false := by
  simp [settleKey, pendKey, R.WDN_STATUS, R.WDN_BREACH, R.WDN_EVENTS, R.WDN_MATE_STATUS, R.RTC_STATUS, R.TMU_STATUS, R.VIR_STATUS,
    R.EVT_STATUS, R.SEP_STATUS, R.CFG_STATUS, R.EVT_LOST, R.EVT_EVENTS, R.ICU_SRC_LEVEL]
  omega

/-! ### A frame is taken -/

/-- Of the state, the taking of a frame changes the hand-over store alone. -/
theorem State.inboxTake_eq (s : State) (b : Bytes) : ∃ n, s.inboxTake b = { s with net := n } := by
  unfold State.inboxTake; split
  · exact ⟨_, rfl⟩
  · exact ⟨s.net, rfl⟩

/-! ### Streams -/

/-- Streams without a key verify every frame (R181). -/
theorem State.svVerify_unkeyed (s : State) {is : List Nat} (h : ∀ i ∈ is, s.bit (R.ING_SV0 i) 27 = false) (f : ProcFrame) :
    s.svVerify is f = (true, s) := by
  have hnone : is.filter (fun i => s.bit (R.ING_SV0 i) 27) = [] := List.filter_eq_nil_iff.2 fun i hi => by rw [h i hi]; exact Bool.false_ne_true
  unfold State.svVerify
  rw [hnone]; rfl
/-- A polder without a rate takes every ASDU (R93). -/
theorem State.ingBudget_unlimited (s : State) {p : Nat} (h : s.fld (R.PLD_INGEST p) 15 0 = 0) : s.ingBudget p = (true, s) := if_pos h
/-- An ASDU of a stream that is OFF or LOST opens LOCKING (R182). -/
theorem State.svAsdu_opens (s : State) {i : Nat} (h : s.svState i = 0 ∨ s.svState i = 3) (cnt : Nat) (raw : List (Nat × Nat)) :
    s.svAsdu i cnt raw = (s.setF (R.ING_SV_STAT0 i) 31 16 cnt).svOpen i cnt := by
  have hst : (s.setF (R.ING_SV_STAT0 i) 31 16 cnt).svState i = s.svState i := s.fld_setF_apart _ _ _ _ _ _ (by decide) (by decide) (by decide)
  unfold State.svAsdu
  exact if_pos (by rwa [hst])

section
variable {s : State} {sim : Bool} {a : Asdu} {i : Nat} (hrev : a.confRev = s.rd (R.ING_SV3 i)) (hlen : a.data.length = 8 * s.svNch i)
  (hsim : sim = s.bit (R.ING_SV0 i) 26) (hany : s.bit (R.ING_SV0 i) 25 = true)
  (hpld : s.fld (R.PLD_INGEST (s.viPolder (s.svOwner i))) 15 0 = 0) (hst : s.svState i = 0 ∨ s.svState i = 3)
include hrev hlen hsim hany hpld hst

/-- An ASDU as its stream expects it, of a stream that is not locked (R180, R182). -/
theorem State.svOne_opens : s.svOne i sim a = (s.setF (R.ING_SV_STAT0 i) 31 16 (a.cnt % 65536)).svOpen i (a.cnt % 65536) := by
  unfold State.svOne
  extract_lets c n raw bad
  have hbad : bad = false := by
    simp only [bad, c, n, State.testBit_rd, hrev, hlen, hsim, hany, bne_self_eq_false, Bool.not_true, Bool.false_and, Bool.or_self]
  rw [if_neg (by rw [hbad]; exact Bool.false_ne_true), s.ingBudget_unlimited hpld]
  exact s.svAsdu_opens hst _ _
end

section
variable {s : State} {f : SvFrame} {appid : Nat} {sim : Bool} {a : Asdu} {i : Nat}

theorem State.svFrame_single (hlive : s.ingLive = true) (hold : s.ing.svOld = []) (hdec : decodeSv f.bytes = some (appid, sim, [a]))
    (hm : s.svMatch appid a.svid = some i) (hkey : s.bit (R.ING_SV0 i) 27 = false) :
    ∃ n, s.svFrame f = ({ s with net := n } : State).svOne i sim a := by
  obtain ⟨n, hn⟩ := s.inboxTake_eq f.bytes
  refine ⟨n, ?_⟩
  have hlive' : ({ s with net := n } : State).ingLive = true := hlive
  have hm' : ({ s with net := n } : State).svMatch appid a.svid = some i := hm
  have hver : ({ s with net := n } : State).svVerify [i] f = (true, { s with net := n }) :=
    State.svVerify_unkeyed _ (by rintro j hj; rw [List.mem_singleton.1 hj]; exact hkey) f
  unfold State.svFrame
  rw [hn, hdec]
  simp only [hlive', hold, hm', hver, List.map_cons, List.map_nil, List.filterMap_cons, List.filterMap_nil, List.isEmpty_nil, List.foldl_cons,
    List.foldl_nil, Bool.not_true, Bool.false_eq_true, if_false, if_true]

theorem answers_svFrame (hi : i < 1024) (hlive : s.ingLive = true) (hold : s.ing.svOld = []) (hdec : decodeSv f.bytes = some (appid, sim, [a]))
    (hm : s.svMatch appid a.svid = some i) (hkey : s.bit (R.ING_SV0 i) 27 = false) (hrev : a.confRev = s.rd (R.ING_SV3 i))
    (hlen : a.data.length = 8 * s.svNch i) (hsim : sim = s.bit (R.ING_SV0 i) 26) (hany : s.bit (R.ING_SV0 i) 25 = true)
    (hpld : s.fld (R.PLD_INGEST (s.viPolder (s.svOwner i))) 15 0 = 0) (hst : s.svState i = 0 ∨ s.svState i = 3) :
    Answers (.svFrame f) s (fun t =>
      t.svState i = 1 ∧ t.fld (R.ING_SV_STAT0 i) 31 16 = a.cnt % 65536 ∧ (t.svRt i).run = 1 ∧ (t.svRt i).cnt = a.cnt % 65536 ∧
      Only (among [R.ING_SV_STAT0 i]) [.ing, .net] s t) := by
  obtain ⟨n, hn⟩ := State.svFrame_single hlive hold hdec hm hkey
  have hkeep : settleKey (R.ING_SV_STAT0 i) = false := settleKey_ingest (by unfold R.ING_SV_STAT0; omega) (by unfold R.ING_SV_STAT0; omega)
  have hwdn : R.ING_SV_STAT0 i ≠ R.WDN_STATUS := by unfold R.ING_SV_STAT0 R.WDN_STATUS; omega
  obtain ⟨u, hu⟩ : ∃ u, u = ({ s with net := n } : State).setF (R.ING_SV_STAT0 i) 31 16 (a.cnt % 65536) := ⟨_, rfl⟩
  have hexec : exec (.svFrame f) s = finish s (u.svOpen i (a.cnt % 65536)) :=
    congrArg (finish s) (hn.trans ((State.svOne_opens (s := { s with net := n }) hrev hlen hsim hany hpld hst).trans (by rw [hu])))
  have hchg : ChangesOnly [R.ING_SV_STAT0 i] [.ing, .net] s u := by
    rw [hu]
    exact ((ChangesOnly.refl _ _ s).with_net n (by decide)).setF _ _ _ List.mem_cons_self hwdn
  have hrt : (s.ended (u.svOpen i (a.cnt % 65536))).svRt i =
      { u.svRt i with u := 0, cnt := a.cnt % 65536, run := 1, recv := [0], ins := [], nomiss := 0 } := by
    unfold State.svRt
    rw [s.ended_ing]
    exact (mapGet_mapPut _ _ _ _ _).trans (if_pos rfl)
  refine answers_of_finish hexec ⟨?_, ?_, ?_, ?_, ?_⟩
  · rw [State.svState, s.ended_fld _ hkeep]
    exact State.fld_setF_same _ _ _ _ _ (by decide) (by decide)
  · rw [s.ended_fld _ hkeep]
    refine (State.fld_setF_apart _ _ _ _ _ _ _ (by decide) (by decide) (by decide)).trans ?_
    refine Eq.trans (b := u.fld (R.ING_SV_STAT0 i) 31 16) rfl ?_
    rw [hu, State.fld_setF_same _ _ _ _ _ (by decide) (by decide)]
    exact Nat.mod_mod _ _
  · rw [hrt]
  · rw [hrt]
  · exact ((hchg.with_ing _ (by decide)).setF _ _ _ List.mem_cons_self hwdn).only_among
end

theorem answers_svFrame_undecoded {s : State} {f : SvFrame} (hlive : s.ingLive = true) (hdec : decodeSv f.bytes = none) :
    Answers (.svFrame f) s (fun t =>
      t.rd R.ING_UNDECODED = min 4294967295 (s.rd R.ING_UNDECODED + 1) ∧ Only (among [R.ING_UNDECODED]) [.net] s t) := by
  obtain ⟨n, hn⟩ := s.inboxTake_eq f.bytes
  have hlive' : ({ s with net := n } : State).ingLive = true := hlive
  have hexec : exec (.svFrame f) s = finish s (({ s with net := n } : State).addSat R.ING_UNDECODED 1) := by
    refine congrArg (finish s) ?_
    unfold State.svFrame
    rw [hn, hdec]
    exact if_neg (by rw [hlive']; decide)
  refine answers_of_finish hexec ⟨?_, ?_⟩
  · rw [s.ended_rd _ (by decide), State.rd_addSat, if_pos rfl]; rfl
  · exact (((ChangesOnly.refl _ _ s).with_net n (by decide)).addSat _ (by decide) (by decide)).only_among

theorem answers_streamLost {s : State} {i : Fin 1024} (hst : s.svState i = 2) (hmiss : 64 ≤ (s.svRt i).nomiss) :
    Answers (.streamLost i) s (fun t =>
      t.svState i = 3 ∧ t.bit R.ING_EVENTS 0 = true ∧ Only (among [R.ING_SV_STAT0 i, R.ING_EVENTS]) [] s t) := by
  have hi := i.isLt
  have hne : R.ING_SV_STAT0 i ≠ R.WDN_STATUS ∧ R.ING_EVENTS ≠ R.ING_SV_STAT0 i := by
    unfold R.ING_SV_STAT0 R.WDN_STATUS R.ING_EVENTS; omega
  have hexec : exec (.streamLost i) s = finish s ((s.setSvState i 3).setB R.ING_EVENTS 0 true) := by
    show finish s (s.onIf (s.svState i == 2 && decide (64 ≤ (s.svRt i).nomiss)) _) = _
    rw [hst, decide_eq_true hmiss]; rfl
  refine answers_of_finish hexec ⟨?_, ?_, ?_⟩
  · rw [State.svState, s.ended_fld _ (settleKey_ingest (by unfold R.ING_SV_STAT0; omega) (by unfold R.ING_SV_STAT0; omega)), State.setB,
      State.fld_setF_other _ _ _ _ _ _ hne.2]
    exact s.fld_setF_same _ _ _ _ (by decide) (by decide)
  · rw [s.ended_bit _ (by decide)]
    exact State.bit_setB_same _ _ _ _ (by decide)
  · exact (((ChangesOnly.refl _ _ s).setF _ _ _ List.mem_cons_self hne.1).setB _ _ (by simp) (by decide)).only_among

/-! ### Deadlines -/

/-- The clock stands at `n`, and `k` is the latest index whose deadline has passed. -/
def State.Passed (n k : Nat) (t : State) : Prop := t.now = n ∧ t.ing.dead = some k

section
variable {n k : Nat} {t : State} (h : t.Passed n k)

theorem linkClosed_passed (n k : Nat) : LinkClosed (State.Passed n k) where
  wr _ _ _ _ h := h
  level _ _ _ _ h := h
  ing _ _ _ hd h := ⟨h.1, hd.trans h.2⟩
include h
theorem State.Passed.onIf (c : Bool) {f : State → State} (hf : (f t).Passed n k) : (t.onIf c f).Passed n k := by
  cases c
  · exact h
  · exact hf
theorem State.passed_svFill (i j : Nat) : (t.svFill i j).Passed n k := by
  have hc := linkClosed_passed n k
  have hset : ∀ (u : State) (r : SvRt), u.Passed n k → (u.setSv i r).Passed n k := fun u r hu => hc.setSv hu i r
  unfold State.svFill
  extract_lets r s1 locked c hold vals e r1
  split
  · exact hset _ _ h
  · have h1 : s1.Passed n k := hset (t.addSatF (R.ING_SV_STAT1 i) 15 0 1) _ h
    split
    · exact hc.svComplete (hset _ _ h1) _ _
    · exact hc.svSend (hset _ _ h1) _ _
theorem State.passed_putCfg (c : List (Nat × Nat)) : (t.putCfg c).Passed n k := by
  unfold State.putCfg
  exact List.foldlRecOn (motive := State.Passed n k) _ _ h fun u hu _ _ => hu
theorem State.passed_under {f : State → State} (hf : ∀ u : State, u.Passed n k → (f u).Passed n k) : (t.under f).Passed n k := by
  unfold State.under; split
  · exact hf _ h
  · exact State.passed_putCfg (hf _ (State.passed_putCfg h _)) _
theorem State.passed_svBefore (i : Nat) {f : State → State} (hf : ∀ u : State, u.Passed n k → (f u).Passed n k) :
    (t.svBefore i f).Passed n k := by
  unfold State.svBefore; split
  · exact h
  · refine State.passed_under h fun u hu => ?_
    exact hf _ hu
end

/-- The oldest index that still awaits its deadline. -/
def State.deadNext (s : State) : Nat := match s.ing.dead with | some d => idxAdd d 1 | none => 0

/-- The deadline of an index (R183, R184): the clock has reached it, and the filling of the sets moves neither. -/
theorem State.passed_svDeadline {s : State} (hst : s.bit R.ING_STATUS 0 = true) (hl : s.lowTide = false)
    (hi : idxLater s.deadNext (s.rd R.ING_INDEX) = false) :
    s.svDeadline.Passed (s.now + (ceilDiv ((s.deadlineOf s.deadNext).getD 0) 4294967296 - s.now)) s.deadNext := by
  unfold State.svDeadline
  extract_lets j s1 src s2 s3
  rw [if_neg (by
    show ¬ (!s.bit R.ING_STATUS 0 || s.lowTide || idxLater s.deadNext (s.rd R.ING_INDEX)) = true
    rw [hst, hl, hi]; decide)]
  have h2 : s2.Passed (s.now + (ceilDiv ((s.deadlineOf s.deadNext).getD 0) 4294967296 - s.now)) s.deadNext := ⟨s.elapse_now _ hl, rfl⟩
  split
  · have h3 : s3.Passed (s.now + (ceilDiv ((s.deadlineOf s.deadNext).getD 0) 4294967296 - s.now)) s.deadNext := by
      refine List.foldlRecOn (motive := State.Passed _ _) _ _ h2 fun u hu i _ => ?_
      split
      · exact State.passed_svBefore hu i fun u hu => State.passed_svFill hu i j
      · exact State.passed_svFill hu i j
    exact h3.onIf _ h3
  · exact List.foldlRecOn (motive := State.Passed _ _) _ _ h2 fun u hu i _ => State.passed_svFill hu i j
theorem answers_sampleDeadline {s : State} {k : Nat} (hst : s.bit R.ING_STATUS 0 = true) (hl : s.lowTide = false) (hk : s.deadNext = k)
    (hi : idxLater k (s.rd R.ING_INDEX) = false) : Answers .sampleDeadline s (fun t =>
      t.ing.dead = some k ∧ ∀ d, s.deadlineOf k = some d → t.now = max s.now (ceilDiv d 4294967296)) := by
  subst hk
  obtain ⟨hnow, hdead⟩ := State.passed_svDeadline hst hl hi
  refine answers_of_finish rfl ⟨?_, fun d hd => ?_⟩
  · rw [s.ended_ing]; exact hdead
  · rw [s.ended_now, hnow, hd, Option.getD_some]; omega

/-! ### GOOSE subscriptions (R189, R190) -/

/-- The first message of an entry is a new one: it is taken, and goes out with the next boundary. -/
theorem State.goAccept_first {s : State} {g : Nat} (h : (s.goRt g).seen = false) (m : Goose) : ∃ u : State,
    u = ((s.setB (R.ING_GO_STAT0 g) 0 true).wr (R.ING_GO_STAT1 g) m.st).wr (R.ING_GO_STAT2 g) m.sq ∧
    s.goAccept g m = ({ u with ing := { u.ing with go := mapPut u.ing.go g { seen := true, tal := m.tal } } } : State).goQueue 5 g
      ([m.st, m.sq, m.tal, (m.data.take 1472).length] ++ wordsAll (m.data.take 1472)) := by
  refine ⟨_, rfl, ?_⟩
  unfold State.goAccept
  rw [h]
  exact (if_neg Bool.false_ne_true).trans (if_pos rfl)

section
variable {s : State} {f : GooseFrame} {m : Goose} {g : Nat} (hlive : s.ingLive = true) (hdec : decodeGoose f.bytes = some m)
  (hfind : (s.listed R.ING_GO0 4096).find? (fun g => s.bit (R.ING_GO0 g) 31 && s.fld (R.ING_GO0 g) 15 0 == m.appid &&
      s.fld (R.ING_GO2 g) 7 0 == m.ref.length && s.rd (R.ING_GO1 g) == crc32Raw m.ref) = some g)
  (hrev : m.confRev = s.rd (R.ING_GO3 g)) (hnds : m.nds = false) (htest : m.test = false) (hsim : m.sim = s.bit (R.ING_GO0 g) 17)
  (hkey : s.bit (R.ING_GO0 g) 18 = false)
include hlive hdec hfind hrev hnds htest hsim hkey

/-- A message as its entry expects it, of an entry without a key, is accepted. -/
theorem State.gooseFrame_accepts : ∃ n, s.gooseFrame f = ({ s with net := n } : State).goAccept g m := by
  obtain ⟨n, hn⟩ := s.inboxTake_eq f.bytes
  refine ⟨n, ?_⟩
  have hlive' : ({ s with net := n } : State).ingLive = true := hlive
  unfold State.gooseFrame
  rw [hn, hdec]
  refine (if_neg (by rw [hlive']; decide)).trans ?_
  dsimp -zeta only
  split
  next hnone => exact absurd (hnone.symm.trans hfind) (by simp)
  next g' hg =>
    obtain rfl : g' = g := Option.some.inj (hg.symm.trans hfind)
    extract_lets c bad
    have hbad : bad = false := by
      show (m.confRev != s.rd (R.ING_GO3 g') || m.nds || (m.test && _) || m.sim != s.bit (R.ING_GO0 g') 17) = false
      rw [hrev, hnds, htest, hsim, bne_self_eq_false, bne_self_eq_false]; rfl
    have hopen : c.testBit 18 = false := hkey
    rw [hbad, hopen]; rfl

theorem answers_gooseFrame (hg : g < 4096) (hseen : (s.goRt g).seen = false) : Answers (.gooseFrame f) s (fun t =>
    t.bit (R.ING_GO_STAT0 g) 0 = true ∧ t.rd (R.ING_GO_STAT1 g) = m.st % 4294967296 ∧ t.rd (R.ING_GO_STAT2 g) = m.sq % 4294967296 ∧
    (t.goRt g).seen = true ∧ t.ing.gq = s.ing.gq ++ [(5, g, [m.st, m.sq, m.tal, (m.data.take 1472).length] ++ wordsAll (m.data.take 1472))] ∧
    Only (among [R.ING_GO_STAT0 g, R.ING_GO_STAT1 g, R.ING_GO_STAT2 g]) [.ing, .net] s t) := by
  obtain ⟨n, hn⟩ := State.gooseFrame_accepts hlive hdec hfind hrev hnds htest hsim hkey
  obtain ⟨u, hu, hacc⟩ := State.goAccept_first (s := { s with net := n }) hseen m
  have hk : ∀ j, 0x1CA0000 ≤ j → j < 0x1CA0000 + 65536 → settleKey j = false ∧ j ≠ R.WDN_STATUS := fun j h1 h2 =>
    ⟨settleKey_ingest (by omega) (by omega), by unfold R.WDN_STATUS; omega⟩
  obtain ⟨h0, w0⟩ := hk (R.ING_GO_STAT0 g) (by unfold R.ING_GO_STAT0; omega) (by unfold R.ING_GO_STAT0; omega)
  obtain ⟨h1, w1⟩ := hk (R.ING_GO_STAT1 g) (by unfold R.ING_GO_STAT1; omega) (by unfold R.ING_GO_STAT1; omega)
  obtain ⟨h2, w2⟩ := hk (R.ING_GO_STAT2 g) (by unfold R.ING_GO_STAT2; omega) (by unfold R.ING_GO_STAT2; omega)
  obtain ⟨n10, n20, n21⟩ : R.ING_GO_STAT1 g ≠ R.ING_GO_STAT0 g ∧ R.ING_GO_STAT2 g ≠ R.ING_GO_STAT0 g ∧ R.ING_GO_STAT2 g ≠ R.ING_GO_STAT1 g := by
    unfold R.ING_GO_STAT0 R.ING_GO_STAT1 R.ING_GO_STAT2; omega
  have hchg : ChangesOnly [R.ING_GO_STAT0 g, R.ING_GO_STAT1 g, R.ING_GO_STAT2 g] [.ing, .net] s u := by
    rw [hu]
    exact ((((ChangesOnly.refl _ _ s).with_net n (by decide)).setB _ _ (by simp) w0).wr _ (by simp) w1).wr _ (by simp) w2
  have hing : u.ing = s.ing := by rw [hu]; rfl
  refine answers_of_finish (congrArg (finish s) (hn.trans hacc)) ⟨?_, ?_, ?_, ?_, ?_, ?_⟩
  · rw [s.ended_bit _ h0]
    refine Eq.trans (b := u.bit (R.ING_GO_STAT0 g) 0) rfl ?_
    rw [hu, State.bit_wr_other _ _ _ n20, State.bit_wr_other _ _ _ n10]
    exact State.bit_setB_same _ _ _ _ (by decide)
  · rw [s.ended_rd _ h1]
    refine Eq.trans (b := u.rd (R.ING_GO_STAT1 g)) rfl ?_
    rw [hu, State.rd_wr_other _ _ n21, State.rd_wr_same]
  · rw [s.ended_rd _ h2]
    refine Eq.trans (b := u.rd (R.ING_GO_STAT2 g)) rfl ?_
    rw [hu, State.rd_wr_same]
  · unfold State.goRt
    rw [s.ended_ing]
    exact congrArg GoRt.seen ((mapGet_mapPut _ _ _ _ _).trans (if_pos rfl))
  · rw [s.ended_ing, ← hing]; rfl
  · exact ((hchg.with_ing _ (by decide)).with_ing _ (by decide)).only_among
end

theorem answers_gooseTalExpire {s : State} {g : Fin 4096} (h : s.bit (R.ING_GO_STAT0 g) 0 = true) : Answers (.gooseTalExpire g) s (fun t =>
    t.bit (R.ING_GO_STAT0 g) 0 = false ∧ t.fld (R.ING_GO_STAT3 g) 15 0 = min 65535 (s.fld (R.ING_GO_STAT3 g) 15 0 + 1) ∧
    t.bit R.ING_EVENTS 7 = true ∧ t.ing.gq = s.ing.gq ++ [(6, g.val, [1])] ∧
    Only (among [R.ING_GO_STAT0 g, R.ING_GO_STAT3 g, R.ING_EVENTS]) [.ing] s t) := by
  have hg := g.isLt
  obtain ⟨n30, ne0, ne3⟩ : R.ING_GO_STAT3 g ≠ R.ING_GO_STAT0 g ∧ R.ING_EVENTS ≠ R.ING_GO_STAT0 g ∧ R.ING_EVENTS ≠ R.ING_GO_STAT3 g := by
    unfold R.ING_GO_STAT0 R.ING_GO_STAT3 R.ING_EVENTS; omega
  have h0 : settleKey (R.ING_GO_STAT0 g) = false := settleKey_ingest (by unfold R.ING_GO_STAT0; omega) (by unfold R.ING_GO_STAT0; omega)
  have h3 : settleKey (R.ING_GO_STAT3 g) = false := settleKey_ingest (by unfold R.ING_GO_STAT3; omega) (by unfold R.ING_GO_STAT3; omega)
  obtain ⟨u, hu⟩ : ∃ u, u = ((s.setB (R.ING_GO_STAT0 g) 0 false).addSatF (R.ING_GO_STAT3 g) 15 0 1).setB R.ING_EVENTS 7 true := ⟨_, rfl⟩
  have hexec : exec (.gooseTalExpire g) s = finish s (u.goQueue 6 g [1]) := by
    show finish s (s.onIf (s.bit (R.ING_GO_STAT0 g) 0) _) = _
    rw [h, hu]; rfl
  have hchg : ChangesOnly [R.ING_GO_STAT0 g, R.ING_GO_STAT3 g, R.ING_EVENTS] [.ing] s u := by
    rw [hu]
    exact (((ChangesOnly.refl _ _ s).setB _ _ (by simp) (by unfold R.ING_GO_STAT0 R.WDN_STATUS; omega)).addSatF _ _ _ (by simp)
      (by unfold R.ING_GO_STAT3 R.WDN_STATUS; omega)).setB _ _ (by simp) (by decide)
  refine answers_of_finish hexec ⟨?_, ?_, ?_, ?_, ?_⟩
  · rw [s.ended_bit _ h0]
    refine Eq.trans (b := u.bit (R.ING_GO_STAT0 g) 0) rfl ?_
    rw [hu, State.bit_setB_other _ _ _ _ ne0, State.bit_of_rd (State.rd_addSatF_other _ _ _ _ n30), State.bit_setB_same _ _ _ _ (by decide)]
  · rw [s.ended_fld _ h3]
    refine Eq.trans (b := u.fld (R.ING_GO_STAT3 g) 15 0) rfl ?_
    rw [hu, State.setB, State.fld_setF_other _ _ _ _ _ _ ne3, State.fld_addSatF_same _ _ _ _ _ (by decide) (by decide), State.setB,
      State.fld_setF_other _ _ _ _ _ _ n30.symm]
    rfl
  · rw [s.ended_bit _ (by decide)]
    refine Eq.trans (b := u.bit R.ING_EVENTS 7) rfl ?_
    rw [hu]
    exact State.bit_setB_same _ _ _ _ (by decide)
  · have hing : u.ing = s.ing := by rw [hu]; rfl
    rw [s.ended_ing, ← hing]; rfl
  · exact (hchg.with_ing _ (by decide)).only_among

/-! ### Frames for lane-resident VIs (R197) -/

theorem answers_ingestFrame {s : State} {f : InFrame} (h : s.net.inbox.find? (fun f => frEt f.bytes != 0x88BA && frEt f.bytes != 0x88B8) = some f) :
    Answers .ingestFrame s (fun t =>
      t.net = { s.net with inbox := s.net.inbox.erase f } ∧
      (s.viGen f.vi ≠ f.gen → s.ingLive = true → t.rd R.VIR_GEN_DISCARDS = min 4294967295 (s.rd R.VIR_GEN_DISCARDS + 1) ∧
        t.bit R.VIR_EVENTS 3 = true ∧ Only (among [R.VIR_GEN_DISCARDS, R.VIR_EVENTS]) [.net] s t)) := by
  obtain ⟨u, hu⟩ : ∃ u, u = ({ s with net := { s.net with inbox := s.net.inbox.erase f } } : State) := ⟨_, rfl⟩
  have hexec : exec .ingestFrame s = finish s (if !u.ingLive then u else if u.viGen f.vi != f.gen then u.genDiscard 1
      else u.ingSend 8 f.vi (u.rd R.ING_INDEX) 0 f.gen [] f.bytes) := by
    show finish s (match s.net.inbox.find? (fun f => frEt f.bytes != 0x88BA && frEt f.bytes != 0x88B8) with | none => s | some f => _) = _
    rw [h, hu]
  have hnet : u.net = { s.net with inbox := s.net.inbox.erase f } := by rw [hu]
  refine answers_of_finish hexec ⟨?_, fun hold hlive => ?_⟩
  · rw [s.ended_net, ← hnet]
    split
    · rfl
    · split
      · rfl
      · exact (linkClosed_net _).ingSend rfl _ _ _ _ _ _ _
  · have hlive' : u.ingLive = true := by rw [hu]; exact hlive
    have hold' : (u.viGen f.vi != f.gen) = true := by rw [hu]; exact bne_iff_ne.2 hold
    have hrd : u.rd R.VIR_GEN_DISCARDS = s.rd R.VIR_GEN_DISCARDS := by rw [hu]; rfl
    have hdisc : u.genDiscard 1 = (u.addSat R.VIR_GEN_DISCARDS 1).setB R.VIR_EVENTS 3 true := rfl
    rw [hlive', hold', Bool.not_true, if_neg Bool.false_ne_true, if_pos rfl, hdisc]
    refine ⟨?_, ?_, ?_⟩
    · rw [s.ended_rd _ (by decide)]
      refine (State.rd_wr_other _ _ (by decide)).trans ?_
      rw [State.rd_addSat, if_pos rfl, hrd]
    · rw [s.ended_bit _ (by decide)]
      exact State.bit_setB_same _ _ _ _ (by decide)
    · rw [hu]
      exact ((((ChangesOnly.refl _ _ s).with_net _ (by decide)).addSat _ (by decide) (by decide)).setB _ _ (by decide) (by decide)).only_among

/-- Settles O27: a frame's taking changes the hand-over store alone; a first ASDU opens LOCKING and a first GOOSE message is queued; the
filling of the sets at a deadline moves neither the clock nor the deadline. -/
theorem streamsAndGoose : Obligations.StreamsAndGoose := by
  unfold Obligations.StreamsAndGoose
  refine ⟨?_, ?_, ?_, ?_, ?_, ?_, ?_⟩
  · exact fun s f appid sim a i hi hlive hold hdec hm hkey hrev hlen hsim hany hpld hst =>
      answers_svFrame hi hlive hold hdec hm hkey hrev hlen hsim hany hpld hst
  · exact fun s f hlive hdec => answers_svFrame_undecoded hlive hdec
  · exact fun s k hst hl hk hi => answers_sampleDeadline hst hl hk hi
  · exact fun s i hst hmiss => answers_streamLost hst hmiss
  · exact fun s f m g hg hlive hdec hfind hrev hnds htest hsim hkey hseen =>
      answers_gooseFrame hlive hdec hfind hrev hnds htest hsim hkey hg hseen
  · exact fun s g h => answers_gooseTalExpire h
  · exact fun s f h => answers_ingestFrame h

end Sys2Proof.Machine
end
section
/-! SUPPORT. Modulator chains (R191 to R196). -/
namespace Sys2Proof.Machine

/-! ### Where the registers of a chain lie -/

/-- The registers that the filters of a chain write. -/
def chainKeys (m : Nat) : List Nat := [R.MC_STATUS m, R.MC_DC m, R.MC_COUNTS m]
theorem chainKeys_range {m k : Nat} (h : k ∈ chainKeys m) : 0x1C00118 ≤ k ∧ k < 0x1C00124 + m * 64 := by
  simp only [chainKeys, R.MC_STATUS, R.MC_DC, R.MC_COUNTS, List.mem_cons, List.not_mem_nil, or_false] at h
  omega
theorem chainKeys_ne_wdnStatus {m k : Nat} (h : k ∈ chainKeys m) : k ≠ R.WDN_STATUS := by
  have := (chainKeys_range h).1
  unfold R.WDN_STATUS; omega
theorem settleKey_chain {m k : Nat} (h : k ∈ chainKeys m) (hm : m < 24) : settleKey k = false := by
  obtain ⟨h1, h2⟩ := chainKeys_range h
  exact settleKey_ingest (by omega) (by omega)

/-! ### The runtime of a chain -/

theorem State.mcRt_setMc (s : State) (m j : Nat) (r : McRt) : (s.setMc m r).mcRt j = if j = m then r else s.mcRt j := mapGet_mapPut _ _ _ _ _
theorem State.mcRt_congr {s t : State} (h : t.ing.mc = s.ing.mc) (m : Nat) : t.mcRt m = s.mcRt m := by
  unfold State.mcRt; rw [h]
theorem State.ended_mcRt (s u : State) (m : Nat) : (s.ended u).mcRt m = u.mcRt m := State.mcRt_congr (congrArg Ingest.mc (s.ended_ing u)) m

/-! ### The filters -/

/-- What the bits of a chain leave as they were: its state, its freshness and the index of its latest set, all registers but its own,
and everything outside ingest (Table 08-4). -/
structure Filtered (m : Nat) (s t : State) : Prop where
  only : ChangesOnly (chainKeys m) [.ing] s t
  state : t.mcState m = s.mcState m

section
variable {m : Nat} {s t : State} (h : Filtered m s t)
include h

theorem Filtered.setMc (r : McRt) : Filtered m s (t.setMc m r) := ⟨h.only.with_ing _ (by decide), h.state⟩
theorem Filtered.wr {k : Nat} (v : Nat) (hk : k ∈ chainKeys m) (hs : k ≠ R.MC_STATUS m) : Filtered m s (t.wr k v) :=
  ⟨h.only.wr v hk (chainKeys_ne_wdnStatus hk), (State.fld_of_rd (t.rd_wr_other v hs) 2 0).trans h.state⟩
theorem Filtered.frozen (b : Bool) : Filtered m s (t.setB (R.MC_STATUS m) 8 b) :=
  ⟨h.only.setB 8 b (by simp [chainKeys]) (chainKeys_ne_wdnStatus (m := m) (by simp [chainKeys])),
    (t.fld_setF_apart _ _ _ _ _ _ (by decide) (by decide) (by decide)).trans h.state⟩
theorem Filtered.counts (n : Nat) : Filtered m s (t.addSatF (R.MC_COUNTS m) 15 0 n) :=
  h.wr _ (by simp [chainKeys]) (by unfold R.MC_COUNTS R.MC_STATUS; omega)
theorem Filtered.mcTail (x : Int) (ovf : Bool) : Filtered m s (t.mcTail m x ovf).2 := by
  unfold State.mcTail
  extract_lets
  exact (((h.setMc _).frozen _).wr _ (by simp [chainKeys]) (by unfold R.MC_DC R.MC_STATUS; omega)).counts _
theorem Filtered.onIf (c : Bool) {f : State → State} (hf : Filtered m s (f t)) : Filtered m s (t.onIf c f) := by
  cases c
  · exact h
  · exact hf
/-- One bit: an integration, a step of the combs, or an output. -/
theorem Filtered.mcBit (l : List (Nat × Nat)) (x : Bool) : Filtered m s (State.mcBit m (l, t) x).2 := by
  unfold State.mcBit
  extract_lets t0 r n ints sh c y fir ovf out t1 t2
  split
  · exact h.setMc _
  · have h2 : Filtered m s t2 := (h.setMc _).onIf _ ((h.setMc _).counts _)
    split
    · exact h2
    · exact h2.mcTail _ _
end

theorem Filtered.refl (m : Nat) (s : State) : Filtered m s s := ⟨ChangesOnly.refl _ _ s, rfl⟩
theorem Filtered.bits (m : Nat) (s : State) (bits : List Bool) : Filtered m s (bits.foldl (State.mcBit m) ([], s)).2 :=
  List.foldlRecOn (motive := fun a : List (Nat × Nat) × State => Filtered m s a.2) bits _ (Filtered.refl m s) fun a ha x _ => ha.mcBit a.1 x

/-! ### The set of an index -/

theorem linkClosed_rd {k : Nat} (v : Nat) (h : k ∉ R.ING_STATUS :: linkKeys) : LinkClosed (fun t => t.rd k = v) where
  wr t _ w hj ht := (t.rd_wr_other w (by rintro rfl; exact h (List.mem_cons_of_mem _ hj))).trans ht
  level _ _ _ _ ht := (State.rd_wr_other _ _ (by rintro rfl; exact h List.mem_cons_self)).trans ht
  ing _ _ _ _ ht := ht
theorem mcStatus_not_link (m : Nat) : R.MC_STATUS m ∉ R.ING_STATUS :: linkKeys := by
  simp only [linkKeys, R.MC_STATUS, R.ING_STATUS, R.ING_LINK_SEQ, R.ING_Q_CREST, R.ING_EVENTS, R.ING_GAP_COUNT, List.mem_cons, List.not_mem_nil,
    or_false]
  omega

/-- The set of a running chain: what its bits have changed, its index taken, and the set sent. -/
theorem State.modMessage_running {s : State} {m : Nat} {bits : List Bool} (h3 : s.mcState m = 3) (hlive : s.ingLive = true)
    (hlast : (s.mcRt m).last ≠ some (s.rd R.ING_INDEX)) (hbits : bits.length = s.mcNeed m) :
    ∃ u pay, Filtered m s u ∧ (u.mcRt m).last = some (s.rd R.ING_INDEX) ∧ (u.mcRt m).fresh = false ∧
      s.modMessage m bits = u.ingSend 4 m (s.rd R.ING_INDEX) 0 0 pay [] := by
  have htake : ¬(s.mcState m < 2 ∨ !s.ingLive ∨ (s.mcRt m).last = some (s.rd R.ING_INDEX) ∨ bits.length ≠ s.mcNeed m) := by
    simp [h3, hlive, hlast, hbits]
  have hb := Filtered.bits m s bits
  unfold State.modMessage
  extract_lets st k fresh q
  rw [if_neg htake]
  obtain ⟨⟨out, v⟩, hv⟩ : ∃ a, a = bits.foldl (State.mcBit m) ([], s) := ⟨_, rfl⟩
  rw [← hv] at hb ⊢
  dsimp -zeta only
  extract_lets v1 src v2
  have h1 : v1 = v := by
    show v.onIf (s.mcState m == 2) _ = v
    rw [h3]; rfl
  have h2 : v2 = v.setMc m { v.mcRt m with fresh := false, last := some k } := by
    show (v1.setMc m { v1.mcRt m with fresh := false, last := some k }).mcSettledAt m = _
    rw [h1]
    have hst : (v.setMc m { v.mcRt m with fresh := false, last := some k }).mcState m = 3 := hb.state.trans h3
    unfold State.mcSettledAt
    rw [hst]; rfl
  have hf2 : Filtered m s v2 := by rw [h2]; exact hb.setMc _
  have hr2 : v2.mcRt m = { v.mcRt m with fresh := false, last := some k } := by rw [h2, State.mcRt_setMc, if_pos rfl]
  cases fresh with
  | false => exact ⟨v2, _, hf2, congrArg McRt.last hr2, congrArg McRt.fresh hr2, rfl⟩
  | true => exact ⟨v2.takeFree.2, _, ⟨hf2.only.trans ⟨fun _ _ => rfl, fun p _ => by cases p <;> trivial⟩, hf2.state⟩,
      congrArg McRt.last hr2, congrArg McRt.fresh hr2, rfl⟩

theorem answers_modMessage {s : State} {m : Mc} {bits : List Bool} (h3 : s.mcState m = 3) (hlive : s.ingLive = true)
    (hlast : (s.mcRt m).last ≠ some (s.rd R.ING_INDEX)) (hbits : bits.length = s.mcNeed m) : Answers (.modMessage m bits) s (fun t =>
      (t.mcRt m).last = some (s.rd R.ING_INDEX) ∧ (t.mcRt m).fresh = false ∧ t.mcState m = 3 ∧
      Only (among [R.MC_STATUS m, R.MC_DC m, R.MC_COUNTS m, R.ING_LINK_SEQ, R.ING_STATUS, R.ING_Q_CREST 0, R.ING_Q_CREST 1, R.ING_EVENTS,
        R.ING_GAP_COUNT]) [.ing] s t) := by
  obtain ⟨u, pay, hu, hk, hf, he⟩ := State.modMessage_running h3 hlive hlast hbits
  have hmc : (s.modMessage m bits).mcRt m = u.mcRt m := by
    rw [he]; exact State.mcRt_congr ((linkClosed_mc u.ing.mc).ingSend rfl _ _ _ _ _ _ _) m
  refine answers_of_finish rfl ⟨?_, ?_, ?_, ?_⟩
  · rw [State.ended_mcRt, hmc]; exact hk
  · rw [State.ended_mcRt, hmc]; exact hf
  · refine (s.ended_fld _ (settleKey_chain (m := m) (by simp [chainKeys]) m.isLt) 2 0).trans (.trans ?_ (hu.state.trans h3))
    rw [he]
    exact State.fld_of_rd ((linkClosed_rd _ (mcStatus_not_link m)).ingSend rfl _ _ _ _ _ _ _) 2 0
  · have hc : ChangesOnly [R.MC_STATUS m, R.MC_DC m, R.MC_COUNTS m, R.ING_LINK_SEQ, R.ING_STATUS, R.ING_Q_CREST 0, R.ING_Q_CREST 1,
        R.ING_EVENTS, R.ING_GAP_COUNT] [.ing] s u := hu.only.mono (by simp [chainKeys]) (List.Subset.refl _)
    refine ChangesOnly.only_among ?_
    rw [he]
    exact (linkClosed_changesOnly s (by simp [linkKeys]) (by decide)).ingSend hc _ _ _ _ _ _ _
theorem answers_modMessage_ignored {s : State} {m : Mc} {bits : List Bool} (h : s.mcState m < 2 ∨ s.ingLive = false ∨
    (s.mcRt m).last = some (s.rd R.ING_INDEX) ∨ bits.length ≠ s.mcNeed m) :
    Answers (.modMessage m bits) s (fun t => Only (fun _ => false) [] s t) := by
  have hexec : exec (.modMessage m bits) s = finish s s := congrArg (finish s) (if_pos (by simpa using h))
  exact answers_of_finish hexec (ChangesOnly.refl [] [] s).only_among
theorem State.mcBit_integrates {s : State} {m : Nat} (x : Bool) (h : (s.mcRt m).sincPhase + 1 < s.mcR m) (hn : (s.mcRt m).ints.length = s.mcOrder m) :
    State.mcBit m ([], s) x = ([], s.setMc m { s.mcRt m with
      ints := integrate (if x then 1 else -1) (s.mcRt m).ints, sincPhase := (s.mcRt m).sincPhase + 1 }) := by
  unfold State.mcBit
  dsimp only
  rw [if_pos h, hn, Nat.sub_self, List.replicate_zero, List.append_nil]

/-! ### Starts, stops and the decimator reset -/

/-- A request noted for some chains is noted for those alone. -/
theorem State.mcRt_foldl_req (v : Nat) (ms : List Nat) (s : State) (j : Nat) :
    ((ms.foldl (fun s m => s.setMc m { s.mcRt m with req := v }) s).mcRt j).req = if j ∈ ms then v else (s.mcRt j).req := by
  induction ms generalizing s with
  | nil => rfl
  | cons m ms ih =>
    rw [List.foldl_cons, ih, State.mcRt_setMc]
    by_cases hj : j ∈ ms <;> by_cases hm : j = m <;> simp [hj, hm]
theorem State.changesOnly_foldl_req (v : Nat) (ms : List Nat) (s : State) :
    ChangesOnly [] [.ing] s (ms.foldl (fun s m => s.setMc m { s.mcRt m with req := v }) s) :=
  ChangesOnly.foldl (fun u _ _ => (ChangesOnly.refl _ _ u).with_ing _ (by decide)) (ChangesOnly.refl _ _ s)
theorem State.mem_mcSelected {s : State} {m : Mc} {p : Nat → Bool} :
    (m : Nat) ∈ s.mcSelected.filter p ↔ (s.bit R.ING_MC_MASK m && p m) = true := by
  rw [State.mcSelected, List.mem_filter, List.mem_filter, List.mem_range, Bool.and_eq_true]
  exact ⟨fun ⟨⟨_, hb⟩, hp⟩ => ⟨hb, hp⟩, fun ⟨hb, hp⟩ => ⟨⟨m.isLt, hb⟩, hp⟩⟩

theorem answers_mcStart (s : State) : Answers .mcStart s (fun t =>
    (∀ m : Mc, (t.mcRt m).req = (if s.bit R.ING_MC_MASK m && s.mcState m == 1 then 1 else (s.mcRt m).req)) ∧
    Only (fun _ => false) [.ing] s t) := by
  refine answers_of_finish rfl ⟨fun m => ?_, (State.changesOnly_foldl_req 1 _ s).only_among⟩
  rw [State.ended_mcRt, State.mcStart, State.mcRt_foldl_req]
  exact if_congr State.mem_mcSelected rfl rfl
theorem answers_mcStop (s : State) : Answers .mcStop s (fun t =>
    (∀ m : Mc, (t.mcRt m).req = (if s.bit R.ING_MC_MASK m && (decide (2 ≤ s.mcState m) || (s.mcRt m).req == 1) then 2 else (s.mcRt m).req)) ∧
    Only (fun _ => false) [.ing] s t) := by
  refine answers_of_finish rfl ⟨fun m => ?_, (State.changesOnly_foldl_req 2 _ s).only_among⟩
  rw [State.ended_mcRt, State.mcStop, State.mcRt_foldl_req]
  exact if_congr State.mem_mcSelected rfl rfl
theorem answers_ingSync (s : State) : Answers .ingSync s (fun t => t.ing = { s.ing with sync := true } ∧ Only (fun _ => false) [.ing] s t) :=
  answers_of_finish rfl ⟨s.ended_ing s.syncReq, ((ChangesOnly.refl [] [.ing] s).with_ing _ (by decide)).only_among⟩
theorem answers_syncInEdge (s : State) : Answers .syncInEdge s (fun t =>
    t.ing = { s.ing with sync := s.ing.sync || s.bit R.ING_SYNC_CFG 0 } ∧ Only (fun _ => false) [.ing] s t) := by
  refine answers_of_finish rfl ⟨(s.ended_ing _).trans ?_,
    ((ChangesOnly.refl [] [.ing] s).onIf _ fun h => h.with_ing _ (by decide)).only_among⟩
  cases s.bit R.ING_SYNC_CFG 0
  · rw [Bool.or_false]; rfl
  · rw [Bool.or_true]; rfl

/-! ### Faults and settling -/

section
variable {s : State} {m : Mc}

theorem settleKey_mcStatus (m : Mc) : settleKey (R.MC_STATUS m) = false := settleKey_chain (m := m) (by simp [chainKeys]) m.isLt
theorem settleKey_mcCounts (m : Mc) : settleKey (R.MC_COUNTS m) = false := settleKey_chain (m := m) (by simp [chainKeys]) m.isLt
theorem State.ended_mcState (s u : State) (m : Mc) : (s.ended u).mcState m = u.mcState m := s.ended_fld u (settleKey_mcStatus m) 2 0
theorem State.mcState_setF_state (s : State) (m v : Nat) : (s.setF (R.MC_STATUS m) 2 0 v).mcState m = v % 8 :=
  s.fld_setF_same _ _ _ _ (by decide) (by decide)

theorem answers_mcFault (h : s.mcState m = 2 ∨ s.mcState m = 3) : Answers (.mcFault m) s (fun t =>
    t.mcState m = 4 ∧ t.fld (R.MC_COUNTS m) 31 16 = min 65535 (s.fld (R.MC_COUNTS m) 31 16 + 1) ∧ t.bit R.ING_EVENTS 4 = true ∧
    Only (among [R.MC_STATUS m, R.MC_COUNTS m, R.ING_EVENTS]) [] s t) := by
  have hexec : exec (.mcFault m) s = finish s (((s.setF (R.MC_STATUS m) 2 0 4).addSatF (R.MC_COUNTS m) 31 16 1).setB R.ING_EVENTS 4 true) :=
    congrArg (finish s) (if_pos (by simpa using h))
  have hcs : R.MC_COUNTS m ≠ R.MC_STATUS m := by unfold R.MC_COUNTS R.MC_STATUS; omega
  have hes : R.ING_EVENTS ≠ R.MC_STATUS m := by unfold R.ING_EVENTS R.MC_STATUS; omega
  have hec : R.ING_EVENTS ≠ R.MC_COUNTS m := by unfold R.ING_EVENTS R.MC_COUNTS; omega
  refine answers_of_finish hexec ⟨?_, ?_, ?_, ?_⟩
  · rw [State.ended_mcState]
    exact (State.fld_of_rd ((State.rd_wr_other _ _ hes).trans (State.rd_wr_other _ _ hcs)) 2 0).trans (State.mcState_setF_state _ _ _)
  · rw [s.ended_fld _ (settleKey_mcCounts m)]
    refine (State.fld_of_rd (State.rd_wr_other _ _ hec) 31 16).trans ?_
    rw [State.fld_addSatF_same _ _ _ _ _ (by decide) (by decide), State.fld_setF_other _ _ _ _ _ _ hcs.symm]
    rfl
  · rw [s.ended_bit _ (by decide)]
    exact State.bit_setB_same _ _ _ _ (by decide)
  · have hw := fun k (hk : k ∈ chainKeys m) => chainKeys_ne_wdnStatus hk
    exact ((((ChangesOnly.refl _ _ s).setF 2 0 4 (by simp) (hw _ (by simp [chainKeys]))).addSatF 31 16 1 (by simp)
      (hw _ (by simp [chainKeys]))).setB 4 true (by simp) (by decide)).only_among
theorem answers_mcLevelChange (h : s.mcState m = 4) : Answers (.mcLevelChange m) s (fun t =>
    t.mcState m = 2 ∧ t.fld (R.MC_STATUS m) 23 16 = s.mcSettle m % 256) := by
  have hexec : exec (.mcLevelChange m) s = finish s (s.mcEnterSettling m) := congrArg (finish s) (if_pos (by simp [h]))
  have hkept : (s.mcEnterSettling m).rd (R.MC_STATUS m) =
      ((s.setF (R.MC_STATUS m) 2 0 2).setF (R.MC_STATUS m) 23 16 (s.mcSettle m)).rd (R.MC_STATUS m) :=
    (linkClosed_rd _ (mcStatus_not_link m)).ingGap rfl _ _ _ _ _ _
  refine answers_of_finish hexec ⟨?_, ?_⟩
  · rw [State.ended_mcState]
    exact (State.fld_of_rd hkept 2 0).trans ((State.fld_setF_apart _ _ _ _ _ _ _ (by decide) (by decide) (by decide)).trans
      (State.mcState_setF_state _ _ _))
  · rw [s.ended_fld _ (settleKey_mcStatus m), State.fld_of_rd hkept]
    exact State.fld_setF_same _ _ _ _ _ (by decide) (by decide)
theorem answers_mcSettled (h : s.mcState m = 2) (hz : s.fld (R.MC_STATUS m) 23 16 = 0) : Answers (.mcSettled m) s (fun t =>
    t.mcState m = 3 ∧ Only (among [R.MC_STATUS m]) [] s t) := by
  have hexec : exec (.mcSettled m) s = finish s (s.setF (R.MC_STATUS m) 2 0 3) := congrArg (finish s) (if_pos (by simp [h, hz]))
  refine answers_of_finish hexec ⟨?_, ?_⟩
  · rw [State.ended_mcState, State.mcState_setF_state]
  · exact ((ChangesOnly.refl _ _ s).setF 2 0 3 (by simp) (chainKeys_ne_wdnStatus (m := m) (by simp [chainKeys]))).only_among
theorem answers_mcSettled_not (h : s.mcState m ≠ 2 ∨ s.fld (R.MC_STATUS m) 23 16 ≠ 0) :
    Answers (.mcSettled m) s (fun t => Only (fun _ => false) [] s t) := by
  have hexec : exec (.mcSettled m) s = finish s s := congrArg (finish s) (if_neg (by simpa [← not_and_or] using h))
  exact answers_of_finish hexec (ChangesOnly.refl [] [] s).only_among

/-! ### The choice of coefficients and the freeze -/

/-- The write of FREEZE, which takes effect whatever the chain does (R193). -/
def State.mcFreeze (s : State) (m v : Nat) : State :=
  (s.setB (R.MC_CTRL m) 8 (v.testBit 8)).setB (R.MC_STATUS m) 8 (v.testBit 8 || (s.mcRt m).autoFrz.isSome)
theorem mcCtrl_ne_mcStatus (m : Nat) : R.MC_CTRL m ≠ R.MC_STATUS m := by unfold R.MC_CTRL R.MC_STATUS; omega
theorem mcCtrl_range (m : Nat) : 0x1C00000 ≤ R.MC_CTRL m ∧ R.MC_CTRL m < 0x1C00200 + m * 64 := by unfold R.MC_CTRL; omega
theorem mcCtrl_ne_events (m : Nat) : R.ING_EVENTS ≠ R.MC_CTRL m := by unfold R.ING_EVENTS R.MC_CTRL; omega
theorem mcStatus_ne_events (m : Nat) : R.ING_EVENTS ≠ R.MC_STATUS m := by unfold R.ING_EVENTS R.MC_STATUS; omega
theorem settleKey_mcCtrl (m : Mc) : settleKey (R.MC_CTRL m) = false := by
  have hm := m.isLt
  obtain ⟨h1, h2⟩ := mcCtrl_range m
  exact settleKey_ingest h1 (by omega)

theorem State.bit_mcFreeze_ctrl (s : State) (m v : Nat) : (s.mcFreeze m v).bit (R.MC_CTRL m) 8 = v.testBit 8 :=
  (State.bit_setB_other _ _ _ _ (mcCtrl_ne_mcStatus m).symm).trans (s.bit_setB_same _ _ _ (by decide))
theorem State.bit_mcFreeze_status (s : State) (m v : Nat) :
    (s.mcFreeze m v).bit (R.MC_STATUS m) 8 = (v.testBit 8 || (s.mcRt m).autoFrz.isSome) := State.bit_setB_same _ _ _ _ (by decide)
theorem State.fld_mcFreeze_sel (s : State) (m v : Nat) : (s.mcFreeze m v).fld (R.MC_CTRL m) 1 0 = s.fld (R.MC_CTRL m) 1 0 :=
  (State.fld_setF_other _ _ _ _ _ _ (mcCtrl_ne_mcStatus m).symm).trans (s.fld_setF_apart _ _ _ _ _ _ (by decide) (by decide) (by decide))
theorem State.changesOnly_mcFreeze (s : State) (m v : Nat) {l : List Nat} (hc : R.MC_CTRL m ∈ l) (hs : R.MC_STATUS m ∈ l) :
    ChangesOnly l [] s (s.mcFreeze m v) :=
  ((ChangesOnly.refl _ _ s).setB 8 _ hc (by have := (mcCtrl_range m).1; unfold R.WDN_STATUS; omega)).setB 8 _ hs
    (chainKeys_ne_wdnStatus (m := m) (by simp [chainKeys]))

theorem answers_coefSelWrite {v : Word} (h : s.mcState m < 2) : Answers (.coefSelWrite m v) s (fun t =>
    t.fld (R.MC_CTRL m) 1 0 = v.toNat % 4 ∧ t.bit (R.MC_CTRL m) 8 = v.toNat.testBit 8 ∧
    t.bit (R.MC_STATUS m) 8 = (v.toNat.testBit 8 || (s.mcRt m).autoFrz.isSome) ∧ Only (among [R.MC_CTRL m, R.MC_STATUS m]) [] s t) := by
  have hexec : exec (.coefSelWrite m v) s = finish s ((s.mcFreeze m v.toNat).setF (R.MC_CTRL m) 1 0 v.toNat) :=
    congrArg (finish s) (if_pos h)
  refine answers_of_finish hexec ⟨?_, ?_, ?_, ?_⟩
  · rw [s.ended_fld _ (settleKey_mcCtrl m)]
    exact State.fld_setF_same _ _ _ _ _ (by decide) (by decide)
  · rw [s.ended_bit _ (settleKey_mcCtrl m), State.bit_setF_apart _ _ _ _ _ (by decide) (by decide) (by decide), State.bit_mcFreeze_ctrl]
  · rw [s.ended_bit _ (settleKey_mcStatus m)]
    exact (State.bit_wr_other _ _ _ (mcCtrl_ne_mcStatus m)).trans (s.bit_mcFreeze_status m v.toNat)
  · exact ((s.changesOnly_mcFreeze m v.toNat (by simp) (by simp)).setF 1 0 v.toNat (by simp)
      (by have := (mcCtrl_range m).1; unfold R.WDN_STATUS; omega)).only_among
theorem answers_coefSelWrite_refused {v : Word} (h : 2 ≤ s.mcState m) : Answers (.coefSelWrite m v) s (fun t =>
    t.fld (R.MC_CTRL m) 1 0 = s.fld (R.MC_CTRL m) 1 0 ∧ t.bit (R.MC_CTRL m) 8 = v.toNat.testBit 8 ∧
    t.bit (R.MC_STATUS m) 8 = (v.toNat.testBit 8 || (s.mcRt m).autoFrz.isSome) ∧ t.bit R.ING_EVENTS 5 = true ∧
    Only (among [R.MC_CTRL m, R.MC_STATUS m, R.ING_EVENTS]) [] s t) := by
  have hexec : exec (.coefSelWrite m v) s = finish s ((s.mcFreeze m v.toNat).setB R.ING_EVENTS 5 true) :=
    congrArg (finish s) (if_neg (by omega))
  refine answers_of_finish hexec ⟨?_, ?_, ?_, ?_, ?_⟩
  · rw [s.ended_fld _ (settleKey_mcCtrl m)]
    exact (State.fld_of_rd (State.rd_wr_other _ _ (mcCtrl_ne_events m)) 1 0).trans (s.fld_mcFreeze_sel m v.toNat)
  · rw [s.ended_bit _ (settleKey_mcCtrl m)]
    exact (State.bit_setB_other _ _ _ _ (mcCtrl_ne_events m)).trans (s.bit_mcFreeze_ctrl m v.toNat)
  · rw [s.ended_bit _ (settleKey_mcStatus m)]
    exact (State.bit_setB_other _ _ _ _ (mcStatus_ne_events m)).trans (s.bit_mcFreeze_status m v.toNat)
  · rw [s.ended_bit _ (by decide)]
    exact State.bit_setB_same _ _ _ _ (by decide)
  · exact ((s.changesOnly_mcFreeze m v.toNat (by simp) (by simp)).setB 5 true (by simp) (by decide)).only_among
end

/-- Settles O28: the filters keep the chain's state, so that a running chain's bits end in one set; the requests are folds over the chains
selected; the rest are writes of the chain's own registers. -/
theorem modulatorChains : Obligations.ModulatorChains := by
  unfold Obligations.ModulatorChains
  refine ⟨?_, ?_, ?_, answers_mcStart, answers_mcStop, answers_ingSync, answers_syncInEdge, ?_, ?_, ?_, ?_, ?_, ?_⟩
  · exact fun s m bits h3 hlive hlast hbits => answers_modMessage h3 hlive hlast hbits
  · exact fun s m bits h => answers_modMessage_ignored h
  · exact fun s m x h hn => State.mcBit_integrates x h hn
  · exact fun s m h => answers_mcFault h
  · exact fun s m h => answers_mcLevelChange h
  · exact fun s m h hz => answers_mcSettled h hz
  · exact fun s m h => answers_mcSettled_not h
  · exact fun s m v h => answers_coefSelWrite h
  · exact fun s m v h => answers_coefSelWrite_refused h

end Sys2Proof.Machine
end
section
/-! SUPPORT. The messages of an ingest link, taken by a lane (R197, R198). -/
namespace Sys2Proof.Machine

/-! ### What a lane holds, field by field -/

section
variable {x y : LaneSt} (h : x.intake = y.intake)
include h

theorem LaneSt.seq_of_intake : x.seq = y.seq := by simp only [LaneSt.intake, Prod.mk.injEq] at h; exact h.1
theorem LaneSt.deaf_of_intake : x.deaf = y.deaf := by simp only [LaneSt.intake, Prod.mk.injEq] at h; exact h.2.1
theorem LaneSt.smp_of_intake : x.smp = y.smp := by simp only [LaneSt.intake, Prod.mk.injEq] at h; exact h.2.2.1
theorem LaneSt.preds_of_intake : x.preds = y.preds := by simp only [LaneSt.intake, Prod.mk.injEq] at h; exact h.2.2.2.1
theorem LaneSt.mods_of_intake : x.mods = y.mods := by simp only [LaneSt.intake, Prod.mk.injEq] at h; exact h.2.2.2.2.1
theorem LaneSt.go_of_intake : x.go = y.go := by simp only [LaneSt.intake, Prod.mk.injEq] at h; exact h.2.2.2.2.2.1
theorem LaneSt.bnd_of_intake : x.bnd = y.bnd := by simp only [LaneSt.intake, Prod.mk.injEq] at h; exact h.2.2.2.2.2.2.1
end

theorem LaneSt.intake_seen (x : LaneSt) (k : Nat) : (x.seen k).intake = x.intake := by unfold LaneSt.seen; split <;> rfl
theorem LaneSt.setOf_putSet_same (x : LaneSt) (i : Nat) (e : SvSet) : (x.putSet i e).setOf i e.key = some e := by
  show (mapGet (mapPut x.smp i _) i []).find? _ = _
  rw [mapGet_mapPut, if_pos rfl]
  exact List.find?_cons_of_pos (beq_self_eq_true e.key)
theorem LaneSt.setOf_of_smp {x y : LaneSt} (h : x.smp = y.smp) (i k : Nat) : x.setOf i k = y.setOf i k := by unfold LaneSt.setOf; rw [h]

/-! ### The front of a link -/

/-- A lane's link, the number it expects, whether it is deaf, the latest boundary it has received, and what is outside the lanes' engines. -/
def State.front (s : State) (l : Lane) := (s.link l, (s.lane l).seq, (s.lane l).deaf, (s.lane l).bnd, s.outer)

theorem State.link_of_ing {s t : State} (h : t.ing = s.ing) (l : Lane) : t.link l = s.link l := by cases l <;> simp only [State.link, h]
theorem State.front_of_intake {s t : State} (h : t.intake = s.intake) (l : Lane) : t.front l = s.front l := by
  have hl := State.lane_of_intake h l
  simp only [State.front, State.link_of_ing (State.ing_of_intake h) l, LaneSt.seq_of_intake hl, LaneSt.deaf_of_intake hl, LaneSt.bnd_of_intake hl,
    State.outer_of_intake h]
theorem State.front_of_feed {s t : State} (h : t.feed = s.feed) (l : Lane) : t.front l = s.front l := State.front_of_intake (State.intake_of_feed h) l
theorem State.front_modLane (s : State) (l : Lane) (f : LaneSt → LaneSt) (h : ∀ x, ((f x).seq, (f x).deaf, (f x).bnd) = (x.seq, x.deaf, x.bnd)) :
    (s.modLane l f).front l = s.front l := by
  simp only [Prod.mk.injEq] at h
  have hrest : (s.modLane l f).link l = s.link l ∧ (s.modLane l f).outer = s.outer := by cases l <;> exact ⟨rfl, rfl⟩
  simp only [State.front, State.lane_modLane_same, h, hrest]
theorem State.outer_of_front {s t : State} {l : Lane} (h : t.front l = s.front l) : t.outer = s.outer := by
  simp only [State.front, Prod.mk.injEq] at h
  obtain ⟨-, -, -, -, hout⟩ := h
  exact hout
theorem State.wdn_of_outer {s t : State} (h : t.outer = s.outer) : t.wdn = s.wdn := by
  simp only [State.outer, Prod.mk.injEq] at h
  obtain ⟨-, -, -, -, -, -, -, -, -, hwdn, -⟩ := h
  exact hwdn

/-- The state in which the front message is given to its engine: it has left the link, and its number is the last one taken. -/
def State.messageIn (s : State) (l : Lane) (q : List IMsg) : State :=
  ((s.setLink l q).bpRefresh).modLane l (fun x => { x with seq := idxAdd x.seq 1 })

theorem State.link_setLink (s : State) (l : Lane) (q : List IMsg) : (s.setLink l q).link l = q := by cases l <;> rfl
theorem State.lane_setLink (s : State) (l : Lane) (q : List IMsg) (j : Lane) : (s.setLink l q).lane j = s.lane j := by cases l <;> cases j <;> rfl
theorem State.outer_setLink (s : State) (l : Lane) (q : List IMsg) : (s.setLink l q).outer = s.outer := by cases l <;> rfl
theorem State.rd_setLink (s : State) (l : Lane) (q : List IMsg) (k : Nat) : (s.setLink l q).rd k = s.rd k := by cases l <;> rfl
theorem State.lane_bpRefresh (s : State) (l : Lane) : s.bpRefresh.lane l = s.lane l := by
  have hcrest : ∀ (t : State) (k v : Nat), (t.crest k v).lane l = t.lane l := fun t k v => by
    unfold State.crest; cases l <;> split <;> rfl
  unfold State.bpRefresh
  rw [hcrest, hcrest]
  cases l <;> rfl
theorem State.lane_messageIn (s : State) (l : Lane) (q : List IMsg) :
    (s.messageIn l q).lane l = { s.lane l with seq := idxAdd (s.lane l).seq 1 } := by
  rw [State.messageIn, State.lane_modLane_same, State.lane_bpRefresh, State.lane_setLink]
theorem State.front_messageIn {s : State} {l : Lane} (hd : (s.lane l).deaf = false) (q : List IMsg) :
    (s.messageIn l q).front l = (q, idxAdd (s.lane l).seq 1, false, (s.lane l).bnd, s.outer) := by
  have hb := State.intake_of_feed (s.setLink l q).feed_bpRefresh
  have hlink : (s.messageIn l q).link l = q := by
    refine Eq.trans ?_ ((State.link_of_ing (State.ing_of_intake hb) l).trans (s.link_setLink l q))
    cases l <;> rfl
  have hout : (s.messageIn l q).outer = s.outer := by
    refine Eq.trans ?_ ((State.outer_of_intake hb).trans (s.outer_setLink l q))
    cases l <;> rfl
  simp only [State.front, hlink, hout, State.lane_messageIn, hd]
/-- The registers of the streams, the GOOSE entries, the engines and the VIs are those before. -/
theorem State.rd_messageIn (s : State) (l : Lane) (q : List IMsg) {k : Nat} (h : 0x1C0004C ≤ k) : (s.messageIn l q).rd k = s.rd k := by
  rw [State.messageIn, State.rd_modLane, State.rd_bpRefresh _ (by unfold R.ING_STATUS; omega) (by unfold R.ING_Q_CREST; omega)
    (by unfold R.ING_Q_CREST; omega), State.rd_setLink]
theorem State.viGen_messageIn (s : State) (l : Lane) (q : List IMsg) (v : Nat) : (s.messageIn l q).viGen v = s.viGen v :=
  State.fld_of_rd (s.rd_messageIn l q (by unfold R.VI_GEN; omega)) 15 0
theorem State.svOwner_messageIn (s : State) (l : Lane) (q : List IMsg) (i : Nat) : (s.messageIn l q).svOwner i = s.svOwner i :=
  State.fld_of_rd (s.rd_messageIn l q (by unfold R.ING_SV5; omega)) 27 16
theorem State.svNch_messageIn (s : State) (l : Lane) (q : List IMsg) (i : Nat) : (s.messageIn l q).svNch i = s.svNch i :=
  State.fld_of_rd (s.rd_messageIn l q (by unfold R.ING_SV0; omega)) 23 18
theorem State.goOwner_messageIn (s : State) (l : Lane) (q : List IMsg) (g : Nat) :
    (s.messageIn l q).fld (R.ING_GO2 g) 27 16 = s.fld (R.ING_GO2 g) 27 16 :=
  State.fld_of_rd (s.rd_messageIn l q (by unfold R.ING_GO2; omega)) 27 16
theorem State.frameTask_messageIn (s : State) (l : Lane) (q : List IMsg) (m : IMsg) : (s.messageIn l q).frameTask l m = s.frameTask l m := by
  have hcfg : (s.messageIn l q).fld (R.CPE_CFG l) 15 0 = s.fld (R.CPE_CFG l) 15 0 :=
    State.fld_of_rd (s.rd_messageIn l q (by unfold R.CPE_CFG; omega)) 15 0
  have htask : ∀ t, (s.messageIn l q).rd (R.CPE_TASK0 l t) = s.rd (R.CPE_TASK0 l t) := fun t =>
    s.rd_messageIn l q (by unfold R.CPE_TASK0; omega)
  simp only [State.frameTask, State.taskOfVi, State.bit_of_rd (htask _), State.fld_of_rd (htask _), hcfg]

theorem State.fresh_current {s : State} {m : IMsg} {owner : Nat} (h : m.gen = s.viGen owner) (f : State → State) : s.fresh m owner f = f s :=
  if_neg (by simp [State.msgOld, h])
theorem State.freshSv_current {s : State} {m : IMsg} (h : m.gen = s.viGen (s.svOwner m.set)) (l : Lane) (ks : List Nat) (f : State → State) :
    s.freshSv l m ks f = f s := if_neg (by simp [State.msgOld, h])

/-! ### What an engine stores -/

theorem State.feed_goosePut (t : State) (l : Lane) (g : Nat) (e : GoEff) :
    (t.goosePut l g e).feed = (t.modLane l (fun x => { x with go := mapPut x.go g (e :: (mapGet x.go g []).take 15) })).feed :=
  State.feed_squashWhere ..

/-- What a GAP record holds for an index of a stream: the latest values, or none, all MISSING (R213). -/
def LaneSt.heldSet (x : LaneSt) (n i k : Nat) : SvSet :=
  { key := k, vals := (match mapGet x.smp i [] with | e :: _ => e.vals | [] => List.replicate n 0), quals := List.replicate n missQ, subst := true }
theorem State.feed_gapSet {t : State} {l : Lane} {i k : Nat} (h : (t.lane l).setOf i k = none) :
    (t.gapSet l i k).feed = (t.modLane l (fun x => x.putSet i ((t.lane l).heldSet (t.svNch i) i k))).feed := by
  unfold State.gapSet
  rw [if_neg (by rw [h]; decide)]
  exact State.feed_applyVerdict ..
/-- A record with cause 3 and a count of 1 covers its own index. -/
theorem gapIndices_one {k : Nat} (h : k < 4294967296) : (List.range (bitsOf (3 + 256) 15 8)).map (fun j => idxAdd k j) = [k] := by
  show [(k + 0) % 4294967296] = [k]
  rw [Nat.add_zero, Nat.mod_eq_of_lt h]

/-- A frame enters the inbox of its VI. -/
def State.boxFrame (t : State) (l : Lane) (m : IMsg) : State :=
  t.modLane l (fun x => { x with inbox := mapPut x.inbox m.set (mapGet x.inbox m.set [] ++ [(m.idx, m.bytes)]) })
theorem State.front_boxFrame (t : State) (l : Lane) (m : IMsg) : (t.boxFrame l m).front l = t.front l := by
  refine State.front_modLane _ _ _ ?_
  intro _; rfl
theorem State.inbox_boxFrame (t : State) (l : Lane) (m : IMsg) :
    mapGet ((t.boxFrame l m).lane l).inbox m.set [] = mapGet (t.lane l).inbox m.set [] ++ [(m.idx, m.bytes)] := by
  rw [State.boxFrame, State.lane_modLane_same]
  exact (mapGet_mapPut _ _ _ _ _).trans (if_pos rfl)

/-! ### A boundary -/

theorem State.front_periodEnd (t : State) (l : Lane) : (t.periodEnd l).front l = t.front l := by
  unfold State.periodEnd
  extract_lets x t1 t2 t3 t4
  have h3 : t3.feed = t.feed := by
    refine (State.feed_foldl (fun u p => (State.feed_wrC ..).trans (State.feed_wrC ..)) _ _).trans ?_
    exact (State.feed_crest ..).trans ((State.feed_wr ..).trans ((State.feed_crest ..).trans (State.feed_wr ..)))
  have h4 : t4.feed = t.feed := (State.feed_onIf fun u => u.feed_addSat ..).trans h3
  exact (State.front_modLane _ _ _ (by intro _; rfl)).trans (State.front_of_feed h4 l)
theorem State.laneJoin_none {t : State} {l : Lane} {k : Nat} (h : t.wdn.join ≠ some k) : t.laneJoin l k = t := if_pos (.inr (.inr (.inl h)))
/-- The lane notes the boundary as its latest. -/
theorem State.front_noteBoundary (t : State) (l : Lane) (k : Nat) :
    (t.modLane l (fun x => { x with bnd0 := some (x.bnd0.getD k), bnd := some k })).front l =
      (t.link l, (t.lane l).seq, (t.lane l).deaf, some k, t.outer) := by cases l <;> rfl
theorem State.outer_modLane (t : State) (l : Lane) (f : LaneSt → LaneSt) : (t.modLane l f).outer = t.outer := by cases l <;> rfl
/-- At a boundary that no lane joins at, the engines of a lane work, and the boundary is its latest. -/
theorem State.front_laneBoundary {t : State} (l : Lane) (m : IMsg) (h : t.wdn.join ≠ some m.idx) :
    (t.laneBoundary l m).front l = (t.link l, (t.lane l).seq, (t.lane l).deaf, some m.idx, t.outer) := by
  rw [← State.front_noteBoundary]
  unfold State.laneBoundary
  extract_lets k t0 t1 t2 t3 x t4
  have h2 : t2.front l = (t.modLane l (fun x => { x with bnd0 := some (x.bnd0.getD k), bnd := some k })).front l :=
    (State.front_of_feed ((State.feed_nrgBoundary ..).trans (State.feed_recBoundary ..)) l).trans
      ((State.front_periodEnd t0 l).trans (State.front_modLane _ _ _ (by intro _; rfl)))
  have h3 : t3 = t2 := State.laneJoin_none (by
    rw [State.wdn_of_outer ((State.outer_of_front h2).trans (State.outer_modLane _ _ _))]; exact h)
  have h4 : t4.feed = t3.feed := State.feed_onIf fun u => u.feed_xl _
  split
  · exact (State.front_modLane _ _ _ (by intro _; rfl)).trans h2
  · refine (State.front_of_intake ((State.intake_laneCreate t4 l x).trans (State.intake_of_feed h4)) l).trans ?_
    rw [h3]; exact h2

/-! ### A message taken -/

/-- The message `m` at the front of the link has been taken, and `q` is left; only the lanes' engines have worked. -/
def Taken (s : State) (l : Lane) (m : IMsg) (q : List IMsg) (t : State) : Prop :=
  t.link l = q ∧ (t.lane l).seq = idxAdd m.seq 1 ∧ (t.lane l).deaf = false ∧ Only (fun _ => true) laneParts s t

section
variable {s : State} {l : Lane} {m : IMsg} {q : List IMsg} {c : Instr} {typ : Nat} {P : State → Prop}

/-- A state whose front shows the message taken, at the end of the command. -/
theorem answers_front {u : State} {b : Option Nat} (hexec : exec c s = finish s u) (hf : u.front l = (q, idxAdd m.seq 1, false, b, s.outer))
    (hP : ∀ t : State, (t.lane l).intake = (u.lane l).intake → (t.lane l).inbox = (u.lane l).inbox → P t) :
    Answers c s (fun t => Taken s l m q t ∧ P t) := by
  simp only [State.front, Prod.mk.injEq] at hf
  obtain ⟨hq, hseq, hd, -, hout⟩ := hf
  refine answers_of_finish hexec ⟨⟨?_, ?_, ?_, only_laneParts hout⟩, hP _ ?_ ?_⟩
  · rw [State.link_of_ing (s.ended_ing u)]; exact hq
  · rw [s.ended_lane]; exact hseq
  · rw [s.ended_lane]; exact hd
  · rw [s.ended_lane]; rfl
  · rw [s.ended_lane]

section
variable (hlink : s.link l = m :: q) (hdeaf : (s.lane l).deaf = false) (hrole : s.role l < 3) (hclk : s.fastClk = true)
  (hseq : m.seq = (s.lane l).seq)
include hlink hdeaf hrole hclk hseq

/-- A message that its engine takes: what the engine leaves of the front is what the lane shows, and what the lane then holds is what
the engine has stored. -/
theorem answers_taken {f : IMsg → State → State} {b : Option Nat} (ht : m.typ = typ) (hexec : exec c s = finish s (s.linkTake l typ true f))
    (hf : (f m (s.messageIn l q)).front l = (q, idxAdd (s.lane l).seq 1, false, b, s.outer))
    (hP : ∀ t : State, (t.lane l).intake = ((f m (s.messageIn l q)).lane l).intake → P t) : Answers c s (fun t => Taken s l m q t ∧ P t) := by
  have htail := (f m (s.messageIn l q)).feed_laneTail l
  rw [State.linkTake_front f _ hlink ht hclk hrole hdeaf hseq] at hexec
  rw [← hseq] at hf
  exact answers_front hexec ((State.front_of_feed htail l).trans hf)
    fun t hi _ => hP t (hi.trans (State.lane_of_intake (State.intake_of_feed htail) l))
/-- The same where the engine's work, for what the lane holds, is one store `g`. -/
theorem answers_stored {f : IMsg → State → State} {g : LaneSt → LaneSt} (ht : m.typ = typ) (hexec : exec c s = finish s (s.linkTake l typ true f))
    (hf : (f m (s.messageIn l q)).feed = ((s.messageIn l q).modLane l g).feed)
    (hg : ∀ x, ((g x).seq, (g x).deaf, (g x).bnd) = (x.seq, x.deaf, x.bnd))
    (hP : ∀ t : State, (t.lane l).intake = (g { s.lane l with seq := idxAdd (s.lane l).seq 1 }).intake → P t) :
    Answers c s (fun t => Taken s l m q t ∧ P t) := by
  refine answers_taken hlink hdeaf hrole hclk hseq ht hexec
    ((State.front_of_feed hf l).trans ((State.front_modLane _ _ _ hg).trans (State.front_messageIn hdeaf q))) fun t hi => hP t ?_
  rw [hi, State.lane_of_intake (State.intake_of_feed hf) l, State.lane_modLane_same, State.lane_messageIn]

theorem answers_lanePrediction (ht : m.typ = 2) (hgen : m.gen = s.viGen (s.svOwner m.set)) : Answers (.lanePrediction l true) s (fun t =>
    Taken s l m q t ∧ (t.lane l).preds = mapPut (s.lane l).preds m.set ((m.idx, m.pay) :: (mapGet (s.lane l).preds m.set []).take 15)) := by
  rw [← s.svOwner_messageIn l q, ← s.viGen_messageIn l q] at hgen
  refine answers_stored hlink hdeaf hrole hclk hseq ht rfl (congrArg State.feed (State.fresh_current hgen _)) ?_ fun t hi => LaneSt.preds_of_intake hi
  intro _; rfl
/-- A set enters the sample store whatever its verdict does to the provisional runs. -/
theorem answers_laneSample (ht : m.typ = 3) (hgen : m.gen = s.viGen (s.svOwner m.set)) : Answers (.laneSample l true) s (fun t => Taken s l m q t ∧
    (t.lane l).setOf m.set m.idx = some { key := m.idx, vals := (List.range (m.pay.length / 2)).map (fun c => nth m.pay (2 * c) 0)
                                          quals := (List.range (m.pay.length / 2)).map (fun c => nth m.pay (2 * c + 1) 0), subst := false }) := by
  rw [← s.svOwner_messageIn l q, ← s.viGen_messageIn l q] at hgen
  refine answers_stored hlink hdeaf hrole hclk hseq ht rfl
    ((congrArg State.feed (State.freshSv_current hgen l _ _)).trans (State.feed_applyVerdict ..)) ?_ fun t hi => ?_
  · intro x
    unfold LaneSt.seen; split <;> rfl
  · rw [LaneSt.setOf_of_smp ((LaneSt.smp_of_intake hi).trans (LaneSt.smp_of_intake (LaneSt.intake_seen _ _)))]
    exact LaneSt.setOf_putSet_same _ _ _
theorem answers_laneMod (ht : m.typ = 4) : Answers (.laneMod l true) s (fun t => Taken s l m q t ∧
    (mapGet (t.lane l).mods m.set []).lookup m.idx = some m.pay) := by
  refine answers_stored hlink hdeaf hrole hclk hseq ht rfl rfl ?_ fun t hi => ?_
  · intro x
    unfold LaneSt.seen; split <;> rfl
  · rw [LaneSt.mods_of_intake hi]
    dsimp only
    rw [mapGet_mapPut, if_pos rfl, List.lookup_cons_self]
theorem answers_laneGoose (ht : m.typ = 5) (hgen : m.gen = s.viGen (s.fld (R.ING_GO2 m.set) 27 16)) : Answers (.laneGoose l true) s (fun t =>
    Taken s l m q t ∧ (mapGet (t.lane l).go m.set []).head? =
      some { idx := m.idx, alive := true, st := nth m.pay 0 0, sq := nth m.pay 1 0, len := nth m.pay 3 0, data := m.pay.drop 4 }) := by
  rw [← s.goOwner_messageIn l q, ← s.viGen_messageIn l q] at hgen
  refine answers_stored hlink hdeaf hrole hclk hseq ht rfl
    ((congrArg State.feed (State.fresh_current hgen _)).trans ((State.feed_evtSrc ..).trans (State.feed_goosePut ..))) ?_ fun t hi => ?_
  · intro _; rfl
  · rw [LaneSt.go_of_intake hi]
    dsimp only
    rw [mapGet_mapPut, if_pos rfl, List.head?_cons]
theorem answers_laneGooseSup (ht : m.typ = 6) (hgen : m.gen = s.viGen (s.fld (R.ING_GO2 m.set) 27 16)) : Answers (.laneGooseSup l true) s (fun t =>
    Taken s l m q t ∧ (mapGet (t.lane l).go m.set []).head? = some { (s.lane l).goAt m.set m.idx with idx := m.idx, alive := false }) := by
  rw [← s.goOwner_messageIn l q, ← s.viGen_messageIn l q] at hgen
  refine answers_stored hlink hdeaf hrole hclk hseq ht rfl ((congrArg State.feed (State.fresh_current hgen _)).trans (State.feed_goosePut ..)) ?_
    fun t hi => ?_
  · intro _; rfl
  · rw [LaneSt.go_of_intake hi]
    dsimp only
    rw [mapGet_mapPut, if_pos rfl, List.head?_cons, State.lane_messageIn]
    rfl
theorem answers_laneGap (ht : m.typ = 7) (hidx : m.idx < 4294967296) (hgen : m.gen = s.viGen (s.svOwner m.set)) (hw : nth m.pay 0 0 = 3 + 256)
    (hnone : (s.lane l).setOf m.set m.idx = none) : Answers (.laneGap l true) s (fun t => Taken s l m q t ∧
    (t.lane l).setOf m.set m.idx = some ((s.lane l).heldSet (s.svNch m.set) m.set m.idx)) := by
  rw [← s.svOwner_messageIn l q, ← s.viGen_messageIn l q] at hgen
  refine answers_stored (g := fun x => x.putSet m.set ((s.lane l).heldSet (s.svNch m.set) m.set m.idx)) hlink hdeaf hrole hclk hseq ht rfl ?_ ?_
    fun t hi => ?_
  · rw [hw]
    dsimp only
    rw [gapIndices_one hidx]
    refine (congrArg State.feed (State.freshSv_current hgen l _ _)).trans ((State.feed_gapSet (by rw [State.lane_messageIn]; exact hnone)).trans ?_)
    rw [State.lane_messageIn, State.svNch_messageIn]
    rfl
  · intro _; rfl
  · rw [LaneSt.setOf_of_smp (LaneSt.smp_of_intake hi)]
    exact LaneSt.setOf_putSet_same _ _ _

/-! ### A frame -/

/-- A frame of no program waits in the VI's inbox, behind those before it (R213). -/
theorem answers_laneFrame (ht : m.typ = 8) (hgen : m.gen = s.viGen m.set) (htask : s.frameTask l m = none) : Answers (.laneFrame l true) s (fun t =>
    Taken s l m q t ∧ ∃ b, mapGet (t.lane l).inbox m.set [] = b ++ [(m.idx, m.bytes)]) := by
  have hkeep : (s.messageIn l q).fresh m m.set (fun s =>
      match s.frameTask l m with
      | some t => s.inCycle l t (fun s => s.cpeFrame l t m.idx m.bytes)
      | none => s) = s.messageIn l q := by
    rw [State.fresh_current (by rw [State.viGen_messageIn]; exact hgen), State.frameTask_messageIn, htask]
  have hold : s.msgOld m m.set = false := by simp [State.msgOld, hgen]
  obtain ⟨u, hu⟩ : ∃ u, u = (s.messageIn l q).laneTail l := ⟨_, rfl⟩
  have hexec : exec (.laneFrame l true) s = finish s (u.boxFrame l m) := by
    refine (congrArg (finish s) (State.linkTake_front _ _ hlink ht hclk hrole hdeaf hseq)).trans (congrArg (finish s) ?_)
    rw [hold, htask, hu]
    exact congrArg (fun v : State => (v.laneTail l).boxFrame l m) hkeep
  have hfront : u.front l = (q, idxAdd m.seq 1, false, (s.lane l).bnd, s.outer) := by
    rw [hu, hseq]; exact (State.front_of_feed (State.feed_laneTail _ l) l).trans (State.front_messageIn hdeaf q)
  refine answers_front hexec ((u.front_boxFrame l m).trans hfront) fun t _ hbox => ⟨mapGet (u.lane l).inbox m.set [], ?_⟩
  rw [hbox, State.inbox_boxFrame]

theorem answers_laneBoundary (ht : m.typ = 1) (hjoin : s.wdn.join ≠ some m.idx) : Answers (.laneBoundary l true) s (fun t => Taken s l m q t ∧
    (t.lane l).bnd = some m.idx) := by
  have hin := State.front_messageIn hdeaf q
  have hwdn : (s.messageIn l q).wdn.join ≠ some m.idx := by
    simp only [State.front, Prod.mk.injEq] at hin
    obtain ⟨-, -, -, -, hout⟩ := hin
    rw [State.wdn_of_outer hout]; exact hjoin
  have hf : ((s.messageIn l q).laneBoundary l m).front l = (q, idxAdd (s.lane l).seq 1, false, some m.idx, s.outer) := by
    rw [State.front_laneBoundary l m hwdn]
    simp only [State.front, Prod.mk.injEq] at hin ⊢
    obtain ⟨hq, hs, hd, -, hout⟩ := hin
    exact ⟨hq, hs, hd, trivial, hout⟩
  refine answers_taken hlink hdeaf hrole hclk hseq ht rfl hf fun t hi => ?_
  simp only [State.front, Prod.mk.injEq] at hf
  obtain ⟨-, -, -, hb, -⟩ := hf
  exact (LaneSt.bnd_of_intake hi).trans hb
end
end

/-! ### A message not taken -/

/-- A message that fails its check or is out of sequence: it leaves the link, and the lane is deaf (R198). -/
theorem State.linkTake_fails {s : State} {l : Lane} {typ : Nat} {m : IMsg} {q : List IMsg} {ok : Bool} (f : IMsg → State → State)
    (g : State → IMsg → State → State) (hlink : s.link l = m :: q) (hdeaf : (s.lane l).deaf = false) (hrole : s.role l < 3)
    (hclk : s.fastClk = true) (ht : m.typ = typ) (hbad : ok = false ∨ m.seq ≠ (s.lane l).seq) :
    s.linkTake l typ ok f g = ((s.setLink l q).bpRefresh).laneDeaf l := by
  unfold State.linkTake
  rw [hlink]
  dsimp only
  rw [if_neg (by simp [ht, hclk]; omega), hdeaf, if_neg (by simp), State.lane_bpRefresh, State.lane_setLink, if_pos (by simpa using hbad)]
theorem State.ing_healthBit (s : State) (l : Lane) (i : Nat) : (s.healthBit l i).ing = s.ing :=
  (s.setB (R.WDN_HEALTH (laneIx l)) i true).onIf_keep _ _ State.ing rfl
theorem State.lane_healthBit (s : State) (l : Lane) (i : Nat) : (s.healthBit l i).lane l = s.lane l := by
  unfold State.healthBit
  exact (State.onIf_keep _ _ _ (fun t => t.lane l) (by cases l <;> rfl)).trans (by cases l <;> rfl)
theorem State.ing_modLane (s : State) (l : Lane) (f : LaneSt → LaneSt) : (s.modLane l f).ing = s.ing := by cases l <;> rfl
theorem State.ing_laneDeaf (s : State) (l : Lane) : (s.laneDeaf l).ing = s.ing := by
  unfold State.laneDeaf
  rw [State.ing_healthBit, State.ing_modLane]
  exact State.ing_of_intake (State.intake_of_feed (State.feed_relSend ..))
theorem State.deaf_laneDeaf (s : State) (l : Lane) : ((s.laneDeaf l).lane l).deaf = true := by
  unfold State.laneDeaf
  rw [State.lane_healthBit, State.lane_modLane_same]
theorem State.bit_laneDeaf (s : State) (l : Lane) : (s.laneDeaf l).bit (R.WDN_HEALTH (laneIx l)) 2 = true := State.bit_healthBit _ l (by decide)

theorem answers_linkTake_fails {s : State} {l : Lane} {typ : Nat} {m : IMsg} {q : List IMsg} {ok : Bool} {c : Instr} {f : IMsg → State → State}
    {g : State → IMsg → State → State} (hexec : exec c s = finish s (s.linkTake l typ ok f g)) (hlink : s.link l = m :: q)
    (hdeaf : (s.lane l).deaf = false) (hrole : s.role l < 3) (hclk : s.fastClk = true) (ht : m.typ = typ) (hbad : ok = false ∨ m.seq ≠ (s.lane l).seq) :
    Answers c s (fun t => t.link l = q ∧ (t.lane l).deaf = true ∧ t.bit (R.WDN_HEALTH (laneIx l)) 2 = true) := by
  rw [State.linkTake_fails f g hlink hdeaf hrole hclk ht hbad] at hexec
  refine answers_of_finish hexec ⟨?_, ?_, ?_⟩
  · rw [State.link_of_ing (s.ended_ing _), State.link_of_ing (State.ing_laneDeaf _ _),
      State.link_of_ing (State.ing_of_intake (State.intake_of_feed (State.feed_bpRefresh _))), State.link_setLink]
  · rw [s.ended_lane]; exact State.deaf_laneDeaf _ l
  · rw [s.ended_bit _ (by cases l <;> decide)]; exact State.bit_laneDeaf _ l

/-- Settles O37: a message in order and intact leaves the link, its engine stores it, and the work that follows leaves what the lane
holds of its link; any other makes the lane deaf. -/
theorem laneMessages : Obligations.LaneMessages := by
  unfold Obligations.LaneMessages
  intro s l m q hlink hdeaf hrole hclk took hold
  refine ⟨fun hseq => ⟨?_, ?_, ?_, ?_, ?_, ?_, ?_, ?_⟩, fun ok hbad c hc ht => ?_⟩
  · exact fun ht hjoin => answers_laneBoundary hlink hdeaf hrole hclk hseq ht hjoin
  · exact fun ht hgen => answers_lanePrediction hlink hdeaf hrole hclk hseq ht hgen
  · exact fun ht hgen => answers_laneSample hlink hdeaf hrole hclk hseq ht hgen
  · exact fun ht => answers_laneMod hlink hdeaf hrole hclk hseq ht
  · exact fun ht hgen => answers_laneGoose hlink hdeaf hrole hclk hseq ht hgen
  · exact fun ht hgen => answers_laneGooseSup hlink hdeaf hrole hclk hseq ht hgen
  · exact fun ht hidx hgen hw hnone => answers_laneGap hlink hdeaf hrole hclk hseq ht hidx hgen hw hnone
  · exact fun ht hgen htask => answers_laneFrame hlink hdeaf hrole hclk hseq ht hgen htask
  · simp only [List.mem_cons, List.not_mem_nil, or_false] at hc
    obtain rfl | rfl | rfl | rfl | rfl | rfl | rfl | rfl := hc
    all_goals exact answers_linkTake_fails rfl hlink hdeaf hrole hclk ht hbad

end Sys2Proof.Machine
end

section
/-! SUPPORT. The rows of Table 09-10 (R216 to R224): how an operation's meaning fixes what its row says. -/
namespace Sys2Proof.Machine

/-- A row does what it says wherever it can issue. -/
def OpRow.Holds (i : OpIssue) (e : Env) (t : Tile) (o : OpRow) : Prop :=
  ∀ s, Issuable s i o.code o.cost e t → Answers o.cmd s (o.Done i e t s)

theorem rowsHold_of_forall {rows : OpIssue → Env → Tile → List OpRow} (h : ∀ i e t, ∀ o ∈ rows i e t, o.Holds i e t) : RowsHold rows :=
  fun s i e t o ho hs => h i e t o ho s hs

/-! ### Several writes of one tile -/

theorem atVec_congr {i : OpIssue} {t u : Tile} (h : u.k = t.k) (r : Nat) (f : Nat → Nat) (q c : Nat) : atVec i u r f q c = atVec i t r f q c := by
  unfold atVec Tile.sel; rw [Tile.kbit_congr h]
theorem atWords_congr {i : OpIssue} {t u : Tile} (h : u.k = t.k) (a : Nat) (f : Nat → Nat) (q : Nat) : atWords i u a f q = atWords i t a f q := by
  unfold atWords Tile.sel; rw [Tile.kbit_congr h]
theorem atMask_congr {i : OpIssue} {t u : Tile} (h : u.k = t.k) (f : Nat → Bool) (n c : Nat) : atMask i u f n c = atMask i t f n c := by
  unfold atMask Tile.sel; rw [Tile.kbit_congr h]

/-- The tile `u` is `t` but for the register elements that `v` gives and the frame words that `w` gives. -/
structure Tile.Wrote (t : Tile) (v : Nat → Nat → Option Nat) (w : Nat → Option Nat) (u : Tile) : Prop where
  pos : u.pos = t.pos
  loops : u.loops = t.loops
  calls : u.calls = t.calls
  cur : u.cur = t.cur
  k : u.k = t.k
  slot : (u.slot (u.cur.getD false)).isSome = true
  vreg : ∀ r c, c < 4 → u.vreg r c = (v r c).getD (t.vreg r c)
  frame : ∀ a, mapGet u.frame a 0 = (w a).getD (mapGet t.frame a 0)

section
variable {t u : Tile} {v : Nat → Nat → Option Nat} {w : Nat → Option Nat}

theorem Tile.Wrote.refl (h : (t.slot (t.cur.getD false)).isSome = true) : t.Wrote (fun _ _ => none) (fun _ => none) t :=
  ⟨rfl, rfl, rfl, rfl, rfl, h, fun _ _ _ => rfl, fun _ => rfl⟩
theorem Tile.Wrote.setV (h : t.Wrote v w u) (i : OpIssue) (r : Nat) (f : Nat → Nat) :
    t.Wrote (fun q c => (atVec i t r f q c).or (v q c)) w (u.setV i r f) := by
  have ho := u.setV_only i r f
  refine ⟨?_, ?_, ?_, ?_, ?_, ?_, fun q c hc => ?_, fun a => ?_⟩
  · rw [ho]; exact h.pos
  · rw [ho]; exact h.loops
  · rw [ho]; exact h.calls
  · rw [ho]; exact h.cur
  · rw [ho]; exact h.k
  · rw [ho]; exact h.slot
  · rw [u.setV_vreg i r f hc, atVec_congr h.k, Option.getD_or, h.vreg q c hc]
  · rw [Tile.frame_congr (t := u) (by rw [ho]) (by rw [ho]) (by rw [ho])]; exact h.frame a
theorem Tile.Wrote.put (h : t.Wrote v w u) (a x : Nat) :
    t.Wrote v (fun q => (if q = a ∧ q < 0x1800 then some (x % two32) else none).or (w q)) (u.put a x) := by
  obtain ⟨hv, hk, hcur, hpos, hcalls, hloops, -, hslot⟩ := u.put_only a x
  refine ⟨hpos.trans h.pos, hloops.trans h.loops, hcalls.trans h.calls, hcur.trans h.cur, hk.trans h.k, ?_, fun q c hc => ?_, fun q => ?_⟩
  · rw [hcur, hslot]; exact h.slot
  · rw [Tile.vreg_congr hv]; exact h.vreg q c hc
  · rw [u.put_frame a x q h.slot, Option.getD_or, h.frame q]
    split <;> rfl
theorem Tile.Wrote.puts (h : t.Wrote v w u) (i : OpIssue) (a : Nat) (f : Nat → Nat) :
    t.Wrote v (fun q => (atWords i t a f q).or (w q)) (u.puts i a f) := by
  obtain ⟨hv, hk, hcur, hpos, hcalls, hloops, -, hslot⟩ := u.puts_only i a f
  refine ⟨hpos.trans h.pos, hloops.trans h.loops, hcalls.trans h.calls, hcur.trans h.cur, hk.trans h.k, ?_, fun q c hc => ?_, fun q => ?_⟩
  · rw [hcur, hslot]; exact h.slot
  · rw [Tile.vreg_congr hv]; exact h.vreg q c hc
  · rw [u.puts_frame i a f q h.slot, atWords_congr h.k, Option.getD_or, h.frame q]
/-- Consecutive words cleared, one after another. -/
theorem Tile.Wrote.clear (h : (t.slot (t.cur.getD false)).isSome = true) (a : Nat) : ∀ n : Nat,
    t.Wrote (fun _ _ => none) (fun q => if a ≤ q ∧ q < a + n ∧ q < 0x1800 then some 0 else none) ((List.range n).foldl (fun u j => u.put (a + j) 0) t)
  | 0 => by
    have hnone : (fun q => if a ≤ q ∧ q < a + 0 ∧ q < 0x1800 then some 0 else none) = (fun _ => none : Nat → Option Nat) :=
      funext fun q => if_neg (by omega)
    rw [hnone]; exact Tile.Wrote.refl h
  | n + 1 => by
    have hstep := (Tile.Wrote.clear h a n).put (a + n) 0
    rw [List.range_succ, List.foldl_append]
    refine cast (congrArg (Tile.Wrote t _ · _) (funext fun q => ?_)) hstep
    by_cases hq : q = a + n ∧ q < 0x1800
    · rw [if_pos hq, if_pos (⟨by omega, by omega, hq.2⟩ : a ≤ q ∧ q < a + (n + 1) ∧ q < 0x1800)]; rfl
    · rw [if_neg hq, Option.none_or]
      exact if_congr (by have := hq; omega) rfl rfl

/-- An operation that leaves the tile at the next position with these writes does what its row says. -/
theorem Tile.Wrote.on_next (h : t.Wrote v w u) {o : OpRow} (hd : o.dest = t.next) (hv : ∀ r c, o.vec r c = v r c) (hm : ∀ n c, o.mask n c = none)
    (hw : ∀ a, o.word a = w a) : o.On t { u.next with ch := t.ch + o.cost } := by
  obtain ⟨hpos, hloops⟩ := Tile.next_congr h.pos h.calls h.loops
  refine ⟨?_, ?_, ?_, h.cur, rfl, fun r c hc => ?_, fun n c _ _ => ?_, fun a => ?_⟩
  · rw [hd]; exact hpos
  · rw [hd]; exact hloops
  · rw [hd]; exact h.calls
  · rw [hv]; exact h.vreg r c hc
  · rw [hm]; exact Tile.kbit_congr h.k n c
  · rw [hw]; exact h.frame a
/-- The same where it then writes mask register D. -/
theorem Tile.Wrote.on_setK (h : t.Wrote v w u) {o : OpRow} {i : OpIssue} {f : Nat → Bool} (hd : o.dest = t.next) (hv : ∀ r c, o.vec r c = v r c)
    (hm : o.mask = atMask i t f) (hw : ∀ a, o.word a = w a) : o.On t { (u.setK i f).next with ch := t.ch + o.cost } := by
  have ho := u.setK_only i f
  have hvec : (u.setK i f).v = u.v := by rw [ho]
  have hframe : (u.setK i f).frame = u.frame := Tile.frame_congr (by rw [ho]) (by rw [ho]) (by rw [ho])
  obtain ⟨hpos, hloops⟩ : (u.setK i f).next.pos = t.next.pos ∧ (u.setK i f).next.loops = t.next.loops :=
    Tile.next_congr (by rw [ho]; exact h.pos) (by rw [ho]; exact h.calls) (by rw [ho]; exact h.loops)
  refine ⟨?_, ?_, ?_, ?_, rfl, fun r c hc => ?_, fun n c hn hc => ?_, fun a => ?_⟩
  · rw [hd]; exact hpos
  · rw [hd]; exact hloops
  · rw [hd]; show (u.setK i f).calls = t.calls; rw [ho]; exact h.calls
  · show (u.setK i f).cur = t.cur; rw [ho]; exact h.cur
  · rw [hv]; exact (Tile.vreg_congr hvec r c).trans (h.vreg r c hc)
  · rw [hm, ← atMask_congr h.k, ← Tile.kbit_congr h.k]; exact u.setK_kbit i f hn hc
  · rw [hw]; exact (congrArg (mapGet · a 0) hframe).trans (h.frame a)
end

/-! ### Rows by the form of their meaning -/

section
variable {i : OpIssue} {e : Env} {t : Tile} {o : OpRow} {cmd : Instr} {code cost : Nat} (m : State → Host.Outcome State Fault Refusal)

/-- A row holds where its command's meaning `m` is an issue whose tile is the row's. -/
theorem OpRow.holds_of_issueTo {w : Tile → Nat} {F : Env → Tile → Tile × List RecItem} (hm : m = fun s => finish s (s.issueTo i o.code w F))
    (hw : w t = o.cost) (hi : (F e t).2 = o.items)
    (hon : (t.slot (t.cur.getD false)).isSome = true → o.On t { (F e t).1 with ch := t.ch + o.cost })
    (hx : ∀ s, exec o.cmd s = m s := by intro _; rfl) : o.Holds i e t :=
  fun s hs => answers_of_finish ((hx s).trans (congrFun hm s)) (OpRow.done_of hs w hw F hi (hon hs.slot))
theorem vecRow_holds {f : Env → Tile → Nat → Nat} {v : Nat → Nat}
    (hm : m = fun s => finish s (s.issue i code cost (fun e t => t.setV i i.d.val (f e t)))) (hv : f e t = v := by rfl)
    (hx : ∀ s, exec cmd s = m s := by intro _; rfl) : (vecRow i t cmd code cost v).Holds i e t :=
  OpRow.holds_of_issueTo m hm rfl rfl (fun _ => by rw [← hv]; exact vecRow_on i t cmd code cost (f e t)) hx
theorem maskRow_holds {f : Env → Tile → Nat → Bool} {v : Nat → Bool}
    (hm : m = fun s => finish s (s.issue i code cost (fun e t => t.setK i (f e t)))) (hv : f e t = v := by rfl)
    (hx : ∀ s, exec cmd s = m s := by intro _; rfl) : (maskRow i t cmd code cost v).Holds i e t :=
  OpRow.holds_of_issueTo m hm rfl rfl (fun _ => by rw [← hv]; exact maskRow_on i t cmd code cost (f e t)) hx
theorem itemRow_holds {f : Tile → RecItem} {v : RecItem} (hm : m = fun s => finish s (s.issueOut i code cost f)) (hv : f t = v := by rfl)
    (hx : ∀ s, exec cmd s = m s := by intro _; rfl) : (itemRow t cmd code cost v).Holds i e t :=
  OpRow.holds_of_issueTo m hm rfl (congrArg (fun x => [x]) hv) (fun _ => itemRow_on t cmd code cost v) hx
theorem pairRow_holds {f g : Env → Tile → Nat → Nat} {v u : Nat → Nat}
    (hm : m = fun s => finish s (s.issue i code cost (fun e t => (t.setV i i.d.val (f e t)).setV i (i.d.val + 1) (g e t))))
    (hv : f e t = v := by rfl) (hu : g e t = u := by rfl)
    (hx : ∀ s, exec cmd s = m s := by intro _; rfl) : (pairRow i t cmd code cost v u).Holds i e t :=
  OpRow.holds_of_issueTo m hm rfl rfl (fun hs => (((Tile.Wrote.refl hs).setV i _ (f e t)).setV i _ (g e t)).on_next rfl
    (by simp [pairRow, hv, hu]) (fun _ _ => rfl) (fun _ => rfl)) hx
/-- A row whose operation writes frame words and then mask register D. -/
theorem stRow_holds {ad : Nat} {f : Env → Tile → Nat → Bool} {g : Env → Tile → Nat → Nat} {v : Nat → Bool} {u : Nat → Nat}
    (hm : m = fun s => finish s (s.issue i code cost (fun e t => (t.puts i ad (g e t)).setK i (f e t)))) (hv : f e t = v := by rfl)
    (hu : g e t = u := by rfl) (hx : ∀ s, exec cmd s = m s := by intro _; rfl) :
    OpRow.Holds i e t { maskRow i t cmd code cost v with word := atWords i t ad u } :=
  OpRow.holds_of_issueTo m hm rfl rfl (fun hs => ((Tile.Wrote.refl hs).puts i ad (g e t)).on_setK rfl (fun _ _ => rfl)
    (congrArg (atMask i t) hv.symm) (by simp [hu])) hx
/-- A row whose operation writes register D and then frame words. -/
theorem svRow_holds {ad : Nat} {f g : Env → Tile → Nat → Nat} {v u : Nat → Nat}
    (hm : m = fun s => finish s (s.issue i code cost (fun e t => (t.setV i i.d.val (f e t)).puts i ad (g e t)))) (hv : f e t = v := by rfl)
    (hu : g e t = u := by rfl) (hx : ∀ s, exec cmd s = m s := by intro _; rfl) :
    OpRow.Holds i e t { vecRow i t cmd code cost v with word := atWords i t ad u } :=
  OpRow.holds_of_issueTo m hm rfl rfl (fun hs => (((Tile.Wrote.refl hs).setV i _ (f e t)).puts i ad (g e t)).on_next rfl
    (by simp [vecRow, hv]) (fun _ _ => rfl) (by simp [hu])) hx
/-- A row of the flow of a segment: of the tile its position, loops and calls alone move. -/
theorem flowRow_holds {w : Tile → Nat} {F : Env → Tile → Tile × List RecItem} {u : Tile} (hm : m = fun s => finish s (s.issueTo i code w F))
    (hw : w t = cost) (hF : F e t = (u, [])) (hu : u = { t with pos := u.pos, loops := u.loops, calls := u.calls })
    (hx : ∀ s, exec cmd s = m s := by intro _; rfl) : OpRow.Holds i e t { cmd := cmd, code := code, cost := cost, dest := u } :=
  OpRow.holds_of_issueTo m hm hw (by rw [hF]) (fun _ => by
    rw [hF, hu]; exact ⟨rfl, rfl, rfl, rfl, rfl, fun _ _ _ => rfl, fun _ _ _ _ => rfl, fun _ => rfl⟩) hx
end

end Sys2Proof.Machine
end

section
/-! SUPPORT. The operations of a tile (R216 to R224, Table 09-10), row by row, and the load of a lane at END (R210). -/
namespace Sys2Proof.Machine

/-- Settles O29: every row's meaning is the issue that its row describes. -/
theorem fabricMovesAndFloats : Obligations.FabricMovesAndFloats := by
  refine rowsHold_of_forall fun i e t => ?_
  simp only [List.forall_mem_cons, List.not_mem_nil, false_implies, implies_true, and_true]
  exact ⟨vecRow_holds (execOpTbl i) rfl, vecRow_holds (execOpLdv i) rfl, vecRow_holds (execOpLds i) rfl, vecRow_holds (execOpMovi i) rfl,
    vecRow_holds (execOpMov i) rfl, vecRow_holds (execOpPerm i) rfl, vecRow_holds (execOpSel i) rfl, vecRow_holds (execOpFadd i) rfl,
    vecRow_holds (execOpFsub i) rfl, vecRow_holds (execOpFmul i) rfl, vecRow_holds (execOpFma i) rfl, vecRow_holds (execOpFms i) rfl,
    vecRow_holds (execOpFdiv i) rfl, vecRow_holds (execOpFsqrt i) rfl, vecRow_holds (execOpFabs i) rfl, vecRow_holds (execOpFneg i) rfl,
    vecRow_holds (execOpFmin i) rfl, vecRow_holds (execOpFmax i) rfl, vecRow_holds (execOpFhsum i) rfl, vecRow_holds (execOpFcvti i) rfl,
    vecRow_holds (execOpIcvtf i) rfl, vecRow_holds (execOpFatan2 i) rfl, pairRow_holds (execOpFsincos i) rfl⟩

/-- Settles O30: every row's meaning is the issue that its row describes. -/
theorem fabricIntegers : Obligations.FabricIntegers := by
  refine rowsHold_of_forall fun i e t => ?_
  simp only [List.forall_mem_cons, List.not_mem_nil, false_implies, implies_true, and_true]
  exact ⟨vecRow_holds (execOpIadd i) rfl, vecRow_holds (execOpIsub i) rfl, vecRow_holds (execOpImul i) rfl, vecRow_holds (execOpImulh i) rfl,
    vecRow_holds (execOpIaddi i) rfl, vecRow_holds (execOpIshl i) rfl, vecRow_holds (execOpIshr i) rfl, vecRow_holds (execOpIlsr i) rfl,
    vecRow_holds (execOpIand i) rfl, vecRow_holds (execOpIor i) rfl, vecRow_holds (execOpIxor i) rfl, vecRow_holds (execOpInot i) rfl,
    vecRow_holds (execOpImin i) rfl, vecRow_holds (execOpImax i) rfl, vecRow_holds (execOpIabs i) rfl, vecRow_holds (execOpIbits i) rfl⟩

/-- Settles O31: every row's meaning is the issue that its row describes; KMOV's by the value of M. -/
theorem fabricMasks : Obligations.FabricMasks := by
  refine rowsHold_of_forall fun i e t => ?_
  simp only [List.forall_mem_append, List.forall_mem_cons, List.not_mem_nil, false_implies, implies_true, and_true]
  refine ⟨⟨maskRow_holds (execOpFcmp i) rfl, maskRow_holds (execOpIcmp i) rfl, maskRow_holds (execOpKand i) rfl, maskRow_holds (execOpKor i) rfl,
    maskRow_holds (execOpKxor i) rfl, maskRow_holds (execOpKnot i) rfl, maskRow_holds (execOpSmpv i) rfl, maskRow_holds (execOpQuad i) rfl,
    maskRow_holds (execOpMho i) rfl⟩, ?_⟩
  split <;> simp only [List.forall_mem_cons, List.not_mem_nil, false_implies, implies_true, and_true]
  next h => exact maskRow_holds (f := fun _ t c => t.kbit i.a c) (execOpKmov i) (by funext s; simp only [execOpKmov, h])
  next h => exact maskRow_holds (f := fun _ t _ => t.kreg i.a != 0) (execOpKmov i) (by funext s; simp only [execOpKmov, h])
  next h => exact maskRow_holds (f := fun _ t _ => t.kreg i.a == 15) (execOpKmov i) (by funext s; simp only [execOpKmov, h])
  next h => exact maskRow_holds (f := fun _ t c => t.va i c % two32 != 0) (execOpKmov i) (by funext s; simp only [execOpKmov, h])
  next h0 h1 h2 h3 =>
    have hm : i.m.val ≠ 0 ∧ i.m.val ≠ 1 ∧ i.m.val ≠ 2 ∧ i.m.val ≠ 3 := ⟨h0, h1, h2, h3⟩
    obtain ⟨n, h⟩ : ∃ n, i.m.val = n + 4 := ⟨i.m.val - 4, by omega⟩
    exact vecRow_holds (f := fun _ t c => b2n (t.kbit i.a c)) (execOpKmov i) (by funext s; simp only [execOpKmov, h])

/-- Settles O32: every row's meaning is the issue that its row describes. -/
theorem fabricInputs : Obligations.FabricInputs := by
  refine rowsHold_of_forall fun i e t => ?_
  simp only [List.forall_mem_cons, List.not_mem_nil, false_implies, implies_true, and_true]
  exact ⟨vecRow_holds (execOpSmp i) rfl, vecRow_holds (execOpSmpq i) rfl, vecRow_holds (execOpMods i) rfl, vecRow_holds (execOpGoin i) rfl,
    vecRow_holds (execOpGost i) rfl, vecRow_holds (execOpFrin i) rfl, vecRow_holds (execOpIdx i) rfl⟩

/-- Settles O33: every row's meaning is the issue that its row describes. -/
theorem fabricSignalOperations : Obligations.FabricSignalOperations := by
  refine rowsHold_of_forall fun i e t => ?_
  simp only [List.forall_mem_cons, List.not_mem_nil, false_implies, implies_true, and_true]
  exact ⟨vecRow_holds (execOpFir i) rfl, pairRow_holds (execOpPhasor i) rfl, vecRow_holds (execOpRms i) rfl, vecRow_holds (execOpPeak i) rfl,
    vecRow_holds (execOpDiff i) rfl, pairRow_holds (execOpPmag i) rfl, pairRow_holds (execOpCmul i) rfl, pairRow_holds (execOpCdiv i) rfl,
    pairRow_holds (execOpSeq i) rfl, vecRow_holds (execOpPoly i) rfl (by simp only [Nat.add_assoc, Nat.add_zero]),
    vecRow_holds (execOpLut i) rfl, vecRow_holds (execOpTval i) rfl⟩

/-- The position of HIST fits a frame word. -/
theorem mod_pN_fits (i : OpIssue) (x : Nat) : x % max 1 (pN i) % two32 = x % max 1 (pN i) := by
  have hn : pN i < 4294967296 := by unfold pN bitsOf; omega
  exact Nat.mod_eq_of_lt (lt_of_lt_of_le (Nat.mod_lt _ (by omega)) (show max 1 (pN i) ≤ 4294967296 by omega))

/-- Settles O34: the writes of each row's meaning, one after another, are those that its row lists; HIST's position fits a word. -/
theorem fabricStatefulOperations : Obligations.FabricStatefulOperations := by
  refine ⟨rowsHold_of_forall fun i e t => ?_, rowsHold_of_forall fun i e t => ?_⟩
  · simp only [List.forall_mem_cons, List.not_mem_nil, false_implies, implies_true, and_true]
    refine ⟨?_, ?_, ?_, stRow_holds (execOpHyst i) rfl, svRow_holds (execOpRamp i) rfl, stRow_holds (execOpTon i) rfl,
      stRow_holds (execOpTof i) rfl, stRow_holds (execOpPulse i) rfl, stRow_holds (execOpIdmt i) rfl, stRow_holds (execOpEdge i) rfl,
      stRow_holds (execOpLatch i) rfl, svRow_holds (execOpCnt i) rfl⟩
    · exact OpRow.holds_of_issueTo (execOpClr i) rfl rfl rfl fun hs => (Tile.Wrote.clear hs _ _).on_next rfl (fun _ _ => rfl) (fun _ _ => rfl)
        (fun _ => rfl)
    · exact OpRow.holds_of_issueTo (execOpStv i) rfl rfl rfl fun hs => ((Tile.Wrote.refl hs).puts i _ _).on_next rfl (fun _ _ => rfl)
        (fun _ _ => rfl) (by simp)
    · exact OpRow.holds_of_issueTo (execOpSts i) rfl rfl rfl fun hs => ((Tile.Wrote.refl hs).put _ _).on_next rfl (fun _ _ => rfl)
        (fun _ _ => rfl) fun _ => (Option.or_none).symm
  · simp only [List.forall_mem_cons, List.not_mem_nil, false_implies, implies_true, and_true]
    refine ⟨?_, ?_⟩
    · refine OpRow.holds_of_issueTo (execOpHist i) rfl rfl rfl fun hs => ((((Tile.Wrote.refl hs).setV i _ _).puts i _ _).put _ _).on_next rfl
        (by simp [vecRow]) (fun _ _ => rfl) fun a => ?_
      rw [mod_pN_fits, Option.or_none, apply_ite_left Option.or]
      rfl
    · exact OpRow.holds_of_issueTo (execOpBiquad i) rfl rfl rfl fun hs => ((((Tile.Wrote.refl hs).setV i _ _).puts i _ _).puts i _ _).on_next rfl
        (by simp [vecRow]) (fun _ _ => rfl) (by simp)

/-- Settles O35: every row's meaning is the issue that its row describes. -/
theorem fabricOutputs : Obligations.FabricOutputs := by
  refine rowsHold_of_forall fun i e t => ?_
  simp only [List.forall_mem_cons, List.not_mem_nil, false_implies, implies_true, and_true]
  exact ⟨itemRow_holds (execOpPubw i) rfl, itemRow_holds (execOpPubb i) rfl, itemRow_holds (execOpPubq i) rfl, itemRow_holds (execOpPub i) rfl,
    itemRow_holds (execOpDout i) rfl, itemRow_holds (execOpXout i) rfl, itemRow_holds (execOpRecw i) rfl, itemRow_holds (execOpSig i) rfl⟩

/-! ### The end of a segment (R210) -/

theorem LaneSt.load_of_feed {x y : LaneSt} (h : x.feed = y.feed) : x.load = y.load := by
  simp only [LaneSt.feed, LaneSt.intake, Prod.mk.injEq] at h
  obtain ⟨⟨-, -, -, -, -, -, -, hload, -⟩, -⟩ := h
  exact hload
theorem State.load_of_feed {s t : State} (h : t.feed = s.feed) (l : Lane) : (t.lane l).load = (s.lane l).load :=
  LaneSt.load_of_feed (State.lane_of_feed h l)
theorem State.load_chargeTile (s : State) (l : Lane) (p n : Nat) : ((s.chargeTile l p n).lane l).load = (s.lane l).load + n := by
  cases l <;> rfl
theorem State.load_tileFree (s : State) (l : Lane) (p : Nat) (k : Tok) :
    ((s.tileFree l p k true).lane l).load = (s.lane l).load + ((s.lane l).tile p).ch := by
  unfold State.tileFree
  extract_lets t b s1 s2
  have h1 : (s1.lane l).load = (s.lane l).load + t.ch := s.load_chargeTile l k.polder t.ch
  have h2 : s2.feed = s1.feed := State.feed_modLane _ _ _ fun _ => rfl
  exact (State.load_of_feed ((s2.feed_segStart l p !b).trans h2) l).trans h1
theorem State.tiles_relSend (s : State) (l : Lane) (typ idx vi gen : Nat) (items : List (Nat × Nat)) (digest pay : Nat) (stat : List Nat) :
    ((s.relSend l typ idx vi gen items digest pay stat).lane l).tiles = (s.lane l).tiles := by
  unfold State.relSend
  split
  · rfl
  · unfold State.relPut; rw [State.lane_modLane_same]
/-- A segment whose run lives adds its charge to the lane's load. -/
theorem State.load_segEnd {s : State} {l : Lane} {p : Nat} {k : Tok} {r : Run} {g : Seg} (h : (s.lane l).running p = some (k, r, g)) (hd : r.dead = 0) :
    ((s.segEnd l p).lane l).load = (s.lane l).load + ((s.lane l).tile p).ch := by
  obtain ⟨s1, r1, hend, hfeed, htile⟩ : ∃ (s1 : State) (r1 : Run),
      s.segEnd l p = ((s1.modLane l fun x => x.putRun r1).tileFree l p k true).settleVi l r.vi 8 ∧ s1.feed = s.feed ∧
        (s1.lane l).tiles = (s.lane l).tiles := by
    refine ⟨_, _, by unfold State.segEnd; rw [h]; exact if_neg (not_not_intro hd), ?_, ?_⟩
    · exact State.feed_onIf fun u => u.feed_relSend ..
    · exact State.onIf_keep _ _ _ (fun u => (u.lane l).tiles) (State.tiles_relSend ..)
  rw [hend, State.load_of_feed (State.feed_settleVi ..), State.load_tileFree, State.lane_modLane_same]
  show (s1.lane l).load + (mapGet (s1.lane l).tiles p {}).ch = _
  rw [State.load_of_feed hfeed, htile]
  rfl
theorem LaneSt.tile_putTile_same (x : LaneSt) (p : Nat) (u : Tile) : (x.putTile p u).tile p = u := (mapGet_mapPut ..).trans (if_pos rfl)
theorem LaneSt.rid_of_runOf {x : LaneSt} {n : Nat} {r : Run} (h : x.runOf n = some r) : r.rid = n := by
  unfold LaneSt.runOf at h; simpa using List.find?_some h
/-- The running segment of a pair: its slot's token, the token's run, the segment that the token names. -/
theorem LaneSt.running_iff {x : LaneSt} {p : Nat} {k : Tok} {r : Run} {g : Seg} : x.running p = some (k, r, g) ↔
    ∃ b sl, (x.tile p).cur = some b ∧ (x.tile p).slot b = some sl ∧ x.tokOf sl.tok = some k ∧ x.runOf k.rid = some r ∧
      nth r.prog k.seg { code := [], off := 0, len := 0, addr := 0, ins := [] } = g := by
  unfold LaneSt.running
  cases h : (x.tile p).cur with
  | none => simp [h]
  | some b =>
    simp only [h, Option.bind_eq_some_iff, Option.map_eq_some_iff, Prod.mk.injEq, Option.some.injEq]
    constructor
    · rintro ⟨sl, hsl, _, hk, _, hr, rfl, rfl, hg⟩; exact ⟨b, sl, rfl, hsl, hk, hr, hg⟩
    · rintro ⟨_, sl, rfl, hsl, hk, hr, hg⟩; exact ⟨sl, hsl, _, hk, _, hr, rfl, rfl, hg⟩
/-- After an issue the pair runs the same segment. -/
theorem LaneSt.running_issued {x : LaneSt} {p : Nat} {k : Tok} {r q : Run} {g : Seg} {u : Tile} (h : x.running p = some (k, r, g))
    (hid : q.rid = r.rid) (hprog : q.prog = r.prog) (hcur : u.cur = (x.tile p).cur) (hslot : ∀ b, u.slot b = (x.tile p).slot b) :
    ((x.putRun q).putTile p u).running p = some (k, q, g) := by
  have hrun : (x.putRun q).runOf q.rid = some q := LaneSt.runOf_putRun x (q := r) (by rw [hid]; exact LaneSt.runOf_running h)
  have htile : ((x.putRun q).putTile p u).tile p = u := LaneSt.tile_putTile_same ..
  obtain ⟨b, sl, hb, hsl, hk, hr, hg⟩ := LaneSt.running_iff.1 h
  have hrid : r.rid = k.rid := LaneSt.rid_of_runOf hr
  refine LaneSt.running_iff.2 ⟨b, sl, ?_, ?_, hk, ?_, by rw [hprog]; exact hg⟩
  · rw [htile, hcur, hb]
  · rw [htile, hslot, hsl]
  · rw [← hrid, ← hid]; exact hrun

theorem answers_opEnd {s : State} {i : OpIssue} {e : Env} {t : Tile} (h : Issuable s i 0x01 1 e t) (hd : e.r.dead = 0) :
    Answers (.opEnd i) s (fun u => (u.lane i.lane).load = (s.lane i.lane).load + t.ch + 1) := by
  have heq := State.issueTo_eq h (fun _ => 1) rfl (fun _ t => (t, []))
  obtain ⟨hs, hl, ht, hp, hq, ⟨k, hk⟩, hc, hb⟩ := h
  have hissues : s.issues i 0x01 1 = true := by
    simp [State.issues, hk, hp, hq, ← ht, hc, hb]
  obtain ⟨s1, hs1⟩ : ∃ s1, s1 = s.issueTo i 0x01 (fun _ => 1) (fun _ t => (t, [])) := ⟨_, rfl⟩
  have hlane : s1.lane i.lane = ((s.lane i.lane).putRun { e.r with charge := e.r.charge + 1 }).putTile i.pair { t with ch := t.ch + 1 } := by
    rw [hs1, heq, State.eccCorr_lane, State.issued, State.lane_modLane_same]
    rfl
  have hrun : (s1.lane i.lane).running i.pair = some (k, { e.r with charge := e.r.charge + 1 }, e.g) := by
    rw [hlane]; exact LaneSt.running_issued hk rfl rfl (by rw [ht]) (fun b => by rw [ht]; rfl)
  have hexec : exec (.opEnd i) s = finish s ((s1.segEnd i.lane i.pair).laneTail i.lane) := by
    refine Eq.trans (b := execOpEnd i s) rfl ?_
    unfold execOpEnd
    rw [if_pos hissues, ← hs1]
  refine answers_of_finish hexec ?_
  rw [s.ended_lane]
  show (((s1.segEnd i.lane i.pair).laneTail i.lane).lane i.lane).load = _
  rw [State.load_of_feed (State.feed_laneTail ..), State.load_segEnd hrun hd, hlane]
  rw [LaneSt.tile_putTile_same]
  rfl

/-- Settles O36: the rows of the flow move the tile's position, loops and calls alone; END charges the segment before its run settles. -/
theorem fabricControl : Obligations.FabricControl := by
  refine ⟨rowsHold_of_forall fun i e t => ?_, ?_⟩
  · simp only [List.forall_mem_cons, List.not_mem_nil, false_implies, implies_true, and_true]
    refine ⟨flowRow_holds (execOpNop i) rfl rfl rfl rfl, flowRow_holds (execOpBra i) rfl rfl ?_ ?_, flowRow_holds (execOpLoop i) rfl rfl rfl ?_,
       flowRow_holds (execOpCall i) rfl rfl rfl rfl, flowRow_holds (execOpRet i) rfl rfl rfl rfl⟩
    · split <;> rfl
    · rfl
    · split <;> rfl
  · exact fun s i e t h hd => answers_opEnd h hd

end Sys2Proof.Machine
end

section
/-! SUPPORT. The end of a lane's work (R257, R264, R266): what the scheduler's refresh changes, and what it leaves of the lane. -/
namespace Sys2Proof.Machine

section
variable {L : List Nat} {ps : List Part} {s t : State}

theorem ChangesOnly.wrC (h : ChangesOnly L ps s t) {k : Nat} (v : Nat) (hk : k ∈ L) (hw : k ≠ R.WDN_STATUS) : ChangesOnly L ps s (t.wrC k v) := by
  unfold State.wrC
  split
  · exact h
  · exact h.wr v hk hw
theorem ChangesOnly.crest (h : ChangesOnly L ps s t) {k : Nat} (v : Nat) (hk : k ∈ L) (hw : k ≠ R.WDN_STATUS) : ChangesOnly L ps s (t.crest k v) := by
  unfold State.crest
  split
  · exact h.wr v hk hw
  · exact h
theorem ChangesOnly.modLane {l : Lane} (h : ChangesOnly L ps s t) (g : LaneSt → LaneSt) (hl : lanePart l ∈ ps) : ChangesOnly L ps s (t.modLane l g) :=
  h.trans ⟨fun k _ => t.rd_modLane l g k, fun p hp => t.modLane_kept l g p fun e => hp (List.mem_singleton.1 e ▸ hl)⟩
/-- Operations that change no part leave the lanes. -/
theorem ChangesOnly.lane (h : ChangesOnly L [] s t) (l : Lane) : t.lane l = s.lane l := by
  cases l
  · exact h.2 .laneA List.not_mem_nil
  · exact h.2 .laneB List.not_mem_nil
end

/-- The registers that the scheduler's refresh writes. -/
def schedKeys (l : Lane) : List Nat :=
  [R.SCH_TOK_FREE l, R.SCH_TOK_WAIT l, R.SCH_TOK_READY l, R.SCH_TOK_SLOT l, R.SCH_TOK_RUN l, R.SCH_TOK_DONE l, R.SCH_TOK_CREST l, R.SCH_READY_CREST l,
    R.SCH_EVENTS l, R.SCH_STATUS l, R.SCH_HELD l, R.SCH_IDLE_PAIRS l, R.FAB_DONE_INDEX l] ++ (List.range 64).map (R.SCH_PLD_READY l)

theorem ne_of_mem_schedKeys {l : Lane} {k : Nat} (h : k ∈ schedKeys l) : k ≠ R.WDN_STATUS := by
  have key : R.WDN_STATUS ∉ schedKeys l := by cases l <;> decide
  exact fun e => key (e ▸ h)
theorem pldReady_mem_schedKeys {l : Lane} {p : Nat} (h : p ∈ List.range 64) : R.SCH_PLD_READY l p ∈ schedKeys l :=
  List.mem_append_right _ (List.mem_map_of_mem h)
section
variable {s t : State} {l : Lane} (h : ChangesOnly (schedKeys l) [] s t) {k : Nat} (hk : k ∈ schedKeys l)
include h hk

theorem ChangesOnly.sched_wrC (v : Nat) : ChangesOnly (schedKeys l) [] s (t.wrC k v) := h.wrC v hk (ne_of_mem_schedKeys hk)
theorem ChangesOnly.sched_crest (v : Nat) : ChangesOnly (schedKeys l) [] s (t.crest k v) := h.crest v hk (ne_of_mem_schedKeys hk)
theorem ChangesOnly.sched_setB (i : Nat) (b : Bool) : ChangesOnly (schedKeys l) [] s (t.setB k i b) := h.setB i b hk (ne_of_mem_schedKeys hk)
end

/-- The refresh writes registers of the scheduler, and of the lane that back-pressure was seen. -/
theorem State.schedRefresh_eq (s : State) (l : Lane) : ∃ (t : State) (b : Bool), ChangesOnly (schedKeys l) [] s t ∧
    s.schedRefresh l = t.modLane l (fun x => { x with bpSeen := x.bpSeen || b }) := by
  have hm : ∀ k ∈ [R.SCH_TOK_FREE l, R.SCH_TOK_WAIT l, R.SCH_TOK_READY l, R.SCH_TOK_SLOT l, R.SCH_TOK_RUN l, R.SCH_TOK_DONE l, R.SCH_TOK_CREST l,
      R.SCH_READY_CREST l, R.SCH_EVENTS l, R.SCH_STATUS l, R.SCH_HELD l, R.SCH_IDLE_PAIRS l, R.FAB_DONE_INDEX l], k ∈ schedKeys l :=
    fun k hk => List.mem_append_left _ hk
  simp only [List.forall_mem_cons, List.not_mem_nil, false_implies, implies_true, and_true] at hm
  obtain ⟨hfree, hwait, hready, hslot, hrun, hdone, hcrest, hrcrest, hev, hst, hheld, hidle, -⟩ := hm
  unfold State.schedRefresh
  extract_lets x cnt s1 s2 s3 busy bp s4 s5 s6
  have h1 : ChangesOnly (schedKeys l) [] s s1 :=
    ((((ChangesOnly.refl _ _ s).sched_wrC hfree _).sched_wrC hwait _).sched_wrC hready _).sched_wrC hslot _
  have h2 : ChangesOnly (schedKeys l) [] s s2 := (((h1.sched_wrC hrun _).sched_wrC hdone _).sched_crest hcrest _).sched_crest hrcrest _
  have h3 : ChangesOnly (schedKeys l) [] s s3 :=
    ChangesOnly.foldl (fun u p hp => (ChangesOnly.refl _ _ u).sched_wrC (pldReady_mem_schedKeys hp) _) h2
  have h4 : ChangesOnly (schedKeys l) [] s s4 := h3.onIf _ fun h => h.sched_setB hev _ _
  have h5 : ChangesOnly (schedKeys l) [] s s5 := ((h4.sched_setB hst _ _).sched_setB hst _ _).sched_setB hst _ _
  exact ⟨s6, bp, (h5.sched_wrC hheld _).sched_wrC hidle _, rfl⟩
theorem State.doneRefresh_changes (s : State) (l : Lane) : ChangesOnly (schedKeys l) [] s (s.doneRefresh l) := by
  unfold State.doneRefresh
  split
  · exact (ChangesOnly.refl _ _ s).sched_wrC (List.mem_append_left _ (by simp)) _
  · exact ChangesOnly.refl _ _ s

section
variable {s : State} {l : Lane} (h : (s.lane l).oldRes = none)
include h

/-- Where no exchange is pending, no slot begins: tokens wake, and the scheduler's registers follow. -/
theorem State.laneEnd_eq : s.laneEnd l = (((s.modLane l LaneSt.wake).schedRefresh l).doneRefresh l) := by
  unfold State.laneEnd State.tilesBegin
  rw [h]
theorem State.laneEnd_changes : ChangesOnly (schedKeys l) [lanePart l] s (s.laneEnd l) := by
  obtain ⟨t, b, ht, heq⟩ := (s.modLane l LaneSt.wake).schedRefresh_eq l
  rw [State.laneEnd_eq h, heq]
  exact (((((ChangesOnly.refl _ _ s).modLane _ (List.mem_singleton_self _)).trans (ht.mono (List.Subset.refl _) (List.nil_subset _))).modLane _
    (List.mem_singleton_self _))).trans ((State.doneRefresh_changes _ l).mono (List.Subset.refl _) (List.nil_subset _))
theorem State.lane_laneEnd : ∃ b, (s.laneEnd l).lane l = { (s.lane l).wake with bpSeen := b } := by
  obtain ⟨t, b, ht, heq⟩ := (s.modLane l LaneSt.wake).schedRefresh_eq l
  refine ⟨(s.lane l).wake.bpSeen || b, ?_⟩
  rw [State.laneEnd_eq h, (State.doneRefresh_changes _ l).lane, heq, State.lane_modLane_same, ht.lane, State.lane_modLane_same]
end

/-- Two lanes agree on the tiles, the runs, the held creations, the next run's number, and the pair last chosen. -/
structure LaneSt.SameWork (x y : LaneSt) : Prop where
  tiles : y.tiles = x.tiles
  runs : y.runs = x.runs
  held : y.held = x.held
  nextRid : y.nextRid = x.nextRid
  lastPair : y.lastPair = x.lastPair

theorem LaneSt.SameWork.tile {x y : LaneSt} (h : x.SameWork y) (p : Nat) : y.tile p = x.tile p := by unfold LaneSt.tile; rw [h.tiles]
theorem LaneSt.SameWork.runOf {x y : LaneSt} (h : x.SameWork y) (n : Nat) : y.runOf n = x.runOf n := by unfold LaneSt.runOf; rw [h.runs]

/-- A command that has changed a lane alone and ends the lane's work: the frame, and what stands of the lane. -/
theorem answers_laneEnd {c : Instr} {s t : State} {l : Lane} {P : State → Prop} (hexec : exec c s = finish s (t.laneEnd l))
    (hold : (t.lane l).oldRes = none) (hk : ∀ p, p ∉ [lanePart l] → p.kept s t)
    (hP : ∀ u : State, (t.lane l).SameWork (u.lane l) → (∀ k, k ∉ schedKeys l → settleKey k = false → u.rd k = t.rd k) → P u) :
    Answers c s (fun u => P u ∧ Only (fun _ => true) [lanePart l] s u) := by
  obtain ⟨b, hb⟩ := State.lane_laneEnd hold
  have hc := State.laneEnd_changes hold
  refine answers_of_finish hexec ⟨hP _ ?_ fun k hn hs => (s.ended_rd _ hs).trans (hc.1 k hn),
    only_of_kept (fun _ h => absurd h (by decide)) fun p hp => Part.kept_trans (hk p hp) (hc.2 p hp)⟩
  rw [s.ended_lane, hb]
  exact ⟨rfl, rfl, rfl, rfl, rfl⟩

/-! ### Tiles -/

theorem Tile.slot_setSlot_same (t : Tile) (b : Bool) (x : Option SlotSt) : (t.setSlot b x).slot b = x := by cases b <;> rfl
theorem Tile.cur_setSlot (t : Tile) (b : Bool) (x : Option SlotSt) : (t.setSlot b x).cur = t.cur := by cases b <;> rfl

/-! ### The scheduler's decisions (R257, R261, R264) -/

/-- The priority of the decision: the highest at which a head is inside its budget. -/
theorem find?_priority {f : Nat → Bool} {q : Nat} (hq : q < 8) (hf : f q = true) (hn : ∀ h, q < h → h < 8 → f h = false) :
    [7, 6, 5, 4, 3, 2, 1, 0].find? f = some q := by
  interval_cases q <;> simp [List.find?, hf, hn]

section
variable {s : State} {l : Lane}

/-- The state after the priority's round-robin pointer has moved. -/
def State.rrMoved (s : State) (l : Lane) (f : List Nat → List Nat) : State := s.modLane l (fun x => { x with rr := f x.rr })

/-- A frame is filled from what the lane holds beside its round-robin pointers. -/
theorem State.fillSlot_rrMoved (s : State) (l : Lane) (f : List Nat → List Nat) (r : Run) (t : Tok) :
    (s.rrMoved l f).fillSlot l r t = s.fillSlot l r t := by
  have hsub : ∀ k c, ((s.rrMoved l f).cfgAt k).mcSub c = (s.cfgAt k).mcSub c := by
    intro k c
    have hwas : (s.rrMoved l f).ldr.was = s.ldr.was := by cases l <;> rfl
    have hbelow : (s.rrMoved l f).below k = s.below k := by cases l <;> rfl
    unfold State.cfgAt
    rw [hwas, hbelow]
    split
    · split <;> cases l <;> rfl
    · cases l <;> rfl
  have harea : ∀ e, (s.rrMoved l f).areaWords l r e = s.areaWords l r e := by
    intro e
    unfold State.areaWords
    simp only [hsub]
    cases l <;> rfl
  unfold State.fillSlot
  simp only [harea]
  cases l <;> rfl

theorem State.lane_addWrap (s : State) (k n : Nat) (l : Lane) : (s.addWrap k n).lane l = s.lane l := by cases l <;> rfl
/-- A dispatch fills a slot of the pair with what its task's run reads. -/
theorem State.dispatch_eq {u : State} {t : Tok} {r : Run} {p : Nat} (hr : (u.lane l).runOf t.rid = some r) : ∃ g : LaneSt → LaneSt,
    u.dispatch l t p = (u.modLane l g).addWrap (R.SCH_DISPATCHED l) 1 ∧ (∀ x, (g x).oldRes = x.oldRes) ∧ (∀ x, (g x).lastPair = p) ∧
      ∀ x, (g x).tile p = (x.tile p).setSlot ((u.lane l).tile p).slot0.isSome (some (u.fillSlot l r t).1) := by
  refine ⟨_, by unfold State.dispatch; rw [hr], ?_, ?_, ?_⟩
  · intro x; rfl
  · intro x; rfl
  · intro x; exact LaneSt.tile_putTile_same ..
/-- The task goes to the pair's free slot. -/
theorem answers_dispatchDecision {p q : Nat} {e : Nat × Tok} {r : Run} (hp : s.choosePair l = some p) (hclk : s.fastClk = true)
    (hold : (s.lane l).oldRes = none) (hq : q < 8) (hn : ∀ h, q < h → h < 8 → ((s.lane l).heads h).any (fun e => s.inBudget l e.1) = false)
    (he : ((s.lane l).heads q).filter (fun e => s.inBudget l e.1) = [e]) (hr : (s.lane l).runOf e.2.rid = some r) :
    Answers (.dispatchDecision l) s (fun t =>
      (((t.lane l).tile p).slot (((s.lane l).tile p).slot0.isSome) = some (s.fillSlot l r e.2).1 ∧ (t.lane l).lastPair = p ∧
        t.rd (R.SCH_DISPATCHED l) = (s.rd (R.SCH_DISPATCHED l) + 1) % 4294967296) ∧ Only (fun _ => true) [lanePart l] s t) := by
  obtain ⟨hmem, hin⟩ := List.mem_filter.1 (he ▸ List.mem_singleton_self e : e ∈ ((s.lane l).heads q).filter (fun e => s.inBudget l e.1))
  have hany : ((s.lane l).heads q).any (fun e => s.inBudget l e.1) = true := List.any_eq_true.2 ⟨e, hmem, hin⟩
  have hwait : e ∈ [7, 6, 5, 4, 3, 2, 1, 0].flatMap (fun q => (s.lane l).heads q) :=
    List.mem_flatMap.2 ⟨q, by interval_cases q <;> decide, hmem⟩
  have hhead : ∀ g : Nat × Tok → Bool, ([e].find? g).or [e].head? = some e := fun g => by cases h : g e <;> simp [h]
  obtain ⟨u, hu⟩ : ∃ u, u = s.rrMoved l (fun rr => modAt rr q (fun _ => (e.1 + 1) % 64)) := ⟨_, rfl⟩
  have hdec : s.dispatchDecision l = u.dispatch l e.2 p := by
    unfold State.dispatchDecision
    dsimp only
    rw [if_neg (by rw [List.isEmpty_eq_false_iff.2 (List.ne_nil_of_mem hwait), hclk]; decide),
      if_neg (by rw [List.any_eq_true.2 ⟨e, hwait, hin⟩]; decide), hp, find?_priority hq hany hn]
    dsimp only
    rw [he, hhead, hu]
    rfl
  have hlane : u.lane l = { s.lane l with rr := modAt (s.lane l).rr q (fun _ => (e.1 + 1) % 64) } := by
    rw [hu, State.rrMoved, State.lane_modLane_same]
  obtain ⟨g, hg, hold', hlast, htile⟩ := State.dispatch_eq (u := u) (t := e.2) (p := p) (show (u.lane l).runOf e.2.rid = some r by rw [hlane]; exact hr)
  obtain ⟨v, hv⟩ : ∃ v, v = (u.modLane l g).addWrap (R.SCH_DISPATCHED l) 1 := ⟨_, rfl⟩
  have hvlane : v.lane l = g (u.lane l) := by rw [hv, State.lane_addWrap, State.lane_modLane_same]
  have hexec : exec (.dispatchDecision l) s = finish s (v.laneEnd l) := by
    rw [hv, ← hg, ← hdec]; rfl
  refine answers_laneEnd hexec (by rw [hvlane, hold', hlane]; exact hold) ?_ fun t ht hrd => ⟨?_, ?_, ?_⟩
  · intro k hk
    rw [hv]
    refine Part.kept_trans (t := u) (by rw [hu]; exact s.modLane_kept l _ k hk) (Part.kept_trans (u.modLane_kept l g k hk) ?_)
    exact State.wr_kept _ _ (by cases l <;> decide) k
  · rw [ht.tile, hvlane, htile, hlane]
    exact (Tile.slot_setSlot_same _ _ _).trans (by rw [hu, State.fillSlot_rrMoved])
  · rw [ht.lastPair, hvlane, hlast]
  · rw [hrd _ (by cases l <;> decide) (by cases l <;> decide), hv, State.rd_addWrap, if_pos rfl, State.rd_modLane, hu, State.rrMoved, State.rd_modLane]
theorem State.evtRefresh_changes (s : State) (l : Lane) : ChangesOnly ((s.evtOn l).map (R.CPE_ESTAT0 l)) [] s (s.evtRefresh l) := by
  refine ChangesOnly.foldl (fun u e he => (ChangesOnly.refl _ _ u).wrC _ (List.mem_map_of_mem he) ?_) (ChangesOnly.refl _ _ s)
  unfold R.CPE_ESTAT0 R.WDN_STATUS; omega
theorem answers_heldCreate {r : Run} {q : List Run} (hh : (s.lane l).held = r :: q) (ha : s.mayAlloc l r = true) (hclk : s.fastClk = true)
    (hold : (s.lane l).oldRes = none) : Answers (.heldCreate l) s (fun t =>
      ((t.lane l).held = q ∧ (t.lane l).runs = (s.lane l).runs ++ [{ r with rid := (s.lane l).nextRid }] ∧ (t.lane l).nextRid = (s.lane l).nextRid + 1) ∧
      Only (fun _ => true) [lanePart l] s t) := by
  have hcreate : s.heldCreate l = s.modLane l (fun x => ({ x with held := q }).alloc r) := by
    unfold State.heldCreate
    rw [hh]
    exact if_pos (by rw [ha, hclk]; rfl)
  obtain ⟨u, hu⟩ : ∃ u, u = s.modLane l (fun x => ({ x with held := q }).alloc r) := ⟨_, rfl⟩
  have hrun : u.lane l = ({ s.lane l with held := q }).alloc r := by rw [hu, State.lane_modLane_same]
  have hev := u.evtRefresh_changes l
  have hexec : exec (.heldCreate l) s = finish s ((u.evtRefresh l).laneEnd l) := by
    rw [hu, ← hcreate]; rfl
  refine answers_laneEnd hexec (by rw [hev.lane, hrun]; exact hold) (fun p hp => ?_) fun t ht _ => ?_
  · exact Part.kept_trans (by rw [hu]; exact s.modLane_kept l _ p hp) (hev.2 p List.not_mem_nil)
  · rw [hev.lane, hrun] at ht
    exact ⟨ht.held, ht.runs, ht.nextRid⟩
/-- A frame that is complete fills its slot, and its segment begins where it can. -/
theorem State.frameDone_eq (s : State) {p : Nat} {b : Bool} {sl : SlotSt} (hs : ((s.lane l).tile p).slot b = some sl) (hclk : s.fastClk = true) :
    s.frameDone l p b = (s.modLane l (fun x => x.putTile p ((x.tile p).setSlot b (some { sl with filled := true })))).segStart l p b := by
  unfold State.frameDone
  rw [hs, hclk]
  rfl
/-- A slot is filled while its pair runs another. -/
theorem answers_frameFillDone_running {p : Pair} {b : Bool} {sl : SlotSt} (hclk : s.fastClk = true) (hold : (s.lane l).oldRes = none)
    (hs : ((s.lane l).tile p).slot b = some sl) (hc : ((s.lane l).tile p).cur.isSome = true) : Answers (.frameFillDone l p b) s (fun t =>
      (t.lane l).tile p = ((s.lane l).tile p).setSlot b (some { sl with filled := true }) ∧ Only (fun _ => true) [lanePart l] s t) := by
  obtain ⟨u, hu⟩ : ∃ u, u = s.modLane l (fun x => x.putTile p ((x.tile p).setSlot b (some { sl with filled := true }))) := ⟨_, rfl⟩
  have htile : (u.lane l).tile p = ((s.lane l).tile p).setSlot b (some { sl with filled := true }) := by
    rw [hu, State.lane_modLane_same, LaneSt.tile_putTile_same]
  have hstart : u.segStart l p b = u := by
    obtain ⟨c, hc⟩ := Option.isSome_iff_exists.1 hc
    unfold State.segStart
    dsimp only
    rw [htile, Tile.cur_setSlot, hc]
  have hexec : exec (.frameFillDone l p b) s = finish s (u.laneEnd l) := by
    rw [← hstart, hu, ← s.frameDone_eq hs hclk]; rfl
  refine answers_laneEnd hexec (by rw [hu, State.lane_modLane_same]; exact hold) (by rw [hu]; exact s.modLane_kept l _) fun t ht _ => ?_
  rw [ht.tile, htile]
/-- The segment of a filled slot begins on a pair that runs no other. -/
theorem State.segStart_eq {u : State} {p : Nat} {b : Bool} {sl : SlotSt} {k : Tok} {r : Run} (hc : ((u.lane l).tile p).cur = none)
    (hs : ((u.lane l).tile p).slot b = some sl) (hf : sl.filled = true) (hp : u.pairFailed l p = false) (hold : (u.lane l).oldRes = none)
    (hk : (u.lane l).tokOf sl.tok = some k) (hr : (u.lane l).runOf k.rid = some r) (hb : r.charge + 24 ≤ r.budget) :
    u.segStart l p b = u.modLane l (fun x => ((x.putTok { k with st := 4 }).putRun { r with charge := r.charge + 24 }).putTile p
      { (u.lane l).tile p with cur := some b, v := [], k := [], pos := 0, calls := [], loops := [], ch := 24 }) := by
  have hbind : ((u.lane l).tokOf sl.tok).bind (fun k => ((u.lane l).runOf k.rid).map (fun r => (k, r))) = some (k, r) := by
    rw [hk, Option.bind_some, hr, Option.map_some]
  have hheld : (u.lane l).tileHeld ((u.lane l).tile p) r = false := by unfold LaneSt.tileHeld; rw [hold]
  unfold State.segStart
  dsimp only
  rw [hc, hs]
  dsimp only
  rw [if_neg (by rw [hf, hp]; decide), hbind]
  dsimp only
  rw [if_neg (by rw [hheld]; decide), if_neg (by omega)]
theorem answers_frameFillDone_starts {p : Pair} {b : Bool} {sl : SlotSt} {k : Tok} {r : Run} (hclk : s.fastClk = true) (hold : (s.lane l).oldRes = none)
    (hs : ((s.lane l).tile p).slot b = some sl) (hc : ((s.lane l).tile p).cur = none) (hp : s.pairFailed l p = false)
    (hk : (s.lane l).tokOf sl.tok = some k) (hr : (s.lane l).runOf k.rid = some r) (hb : r.charge + 24 ≤ r.budget) :
    Answers (.frameFillDone l p b) s (fun t =>
      ((t.lane l).tile p = { ((s.lane l).tile p).setSlot b (some { sl with filled := true }) with
        cur := some b, v := [], k := [], pos := 0, calls := [], loops := [], ch := 24 } ∧
      (t.lane l).runOf r.rid = some { r with charge := r.charge + 24 }) ∧ Only (fun _ => true) [lanePart l] s t) := by
  obtain ⟨f, hf⟩ : ∃ f, f = ((s.lane l).tile p).setSlot b (some { sl with filled := true }) := ⟨_, rfl⟩
  obtain ⟨u, hu⟩ : ∃ u, u = s.modLane l (fun x => x.putTile p ((x.tile p).setSlot b (some { sl with filled := true }))) := ⟨_, rfl⟩
  have hlane : u.lane l = (s.lane l).putTile p f := by rw [hu, State.lane_modLane_same, hf]
  have htile : (u.lane l).tile p = f := by rw [hlane, LaneSt.tile_putTile_same]
  have hfail : u.pairFailed l p = false := by rw [hu]; exact (s.bit_modLane ..).trans hp
  have hstart := State.segStart_eq (u := u) (p := p) (b := b) (sl := { sl with filled := true }) (k := k) (r := r)
    (by rw [htile, hf, Tile.cur_setSlot, hc]) (by rw [htile, hf, Tile.slot_setSlot_same]) rfl hfail (by rw [hlane]; exact hold)
    (by rw [hlane]; exact hk) (by rw [hlane]; exact hr) hb
  rw [htile] at hstart
  obtain ⟨v, hv⟩ : ∃ v, v = u.segStart l p b := ⟨_, rfl⟩
  have hvlane : v.lane l = (((u.lane l).putTok { k with st := 4 }).putRun { r with charge := r.charge + 24 }).putTile p
      { f with cur := some b, v := [], k := [], pos := 0, calls := [], loops := [], ch := 24 } := by
    rw [hv, hstart, State.lane_modLane_same]
  have hkept : ∀ q, q ∉ [lanePart l] → q.kept s v := fun q hq => by
    rw [hv, hstart]
    exact Part.kept_trans (by rw [hu]; exact s.modLane_kept l _ q hq) (u.modLane_kept l _ q hq)
  have hexec : exec (.frameFillDone l p b) s = finish s (v.laneEnd l) := by
    rw [hv, hu, ← s.frameDone_eq hs hclk]; rfl
  have hvold : (v.lane l).oldRes = none := by
    rw [hvlane]
    show (u.lane l).oldRes = none
    rw [hlane]
    exact hold
  refine answers_laneEnd hexec hvold hkept fun t ht _ => ⟨?_, ?_⟩
  · rw [ht.tile, hvlane, LaneSt.tile_putTile_same, hf]
  · rw [ht.runOf, hvlane]
    refine LaneSt.runOf_putRun (q := r) ((u.lane l).putTok { k with st := 4 }) (r := { r with charge := r.charge + 24 }) ?_
    rw [hlane, LaneSt.rid_of_runOf hr]
    exact hr
theorem R.SCH_DESC_eq (l : Lane) (j : Nat) : R.SCH_DESC l j = R.SCH_DESC l 0 + 4 * j := by unfold R.SCH_DESC; omega
/-- The four words of a descriptor go to its four registers. -/
theorem State.wrs_desc_changes (s : State) (l : Lane) {ws : List Nat} (h : ws.length = 4) :
    ChangesOnly [R.SCH_DESC l 0, R.SCH_DESC l 1, R.SCH_DESC l 2, R.SCH_DESC l 3] [] s (s.wrs (R.SCH_DESC l 0) ws) := by
  refine ChangesOnly.foldl (fun t w hw => ?_) (ChangesOnly.refl _ _ s)
  have hi : w.2 < 4 := h ▸ (List.mem_zipIdx' hw).1
  rw [← R.SCH_DESC_eq]
  refine (ChangesOnly.refl _ _ t).wr _ ?_ (by unfold R.SCH_DESC R.WDN_STATUS; omega)
  rcases (by omega : w.2 = 0 ∨ w.2 = 1 ∨ w.2 = 2 ∨ w.2 = 3) with h | h | h | h <;> simp [h]
theorem answers_descSelect (s : State) (l : Lane) (v : Word) : Answers (.descSelect l v) s (fun t =>
    t.rd (R.SCH_DESC_SEL l) = v.toNat % 65536 ∧
    (∀ j, j < 4 → t.rd (R.SCH_DESC l j) = nth (match (s.lane l).tokOf (v.toNat % 65536) with | some k => k.words | none => [0, 0, 0, 0]) j 0 % 4294967296) ∧
    Only (among [R.SCH_DESC_SEL l, R.SCH_DESC l 0, R.SCH_DESC l 1, R.SCH_DESC l 2, R.SCH_DESC l 3]) [] s t) := by
  obtain ⟨ws, hws⟩ : ∃ ws, ws = match (s.lane l).tokOf (v.toNat % 65536) with | some k => k.words | none => [0, 0, 0, 0] := ⟨_, rfl⟩
  have hlen : ws.length = 4 := by rw [hws]; split <;> rfl
  obtain ⟨s1, hs1⟩ : ∃ s1, s1 = s.wr (R.SCH_DESC_SEL l) (v.toNat % 65536) := ⟨_, rfl⟩
  have hexec : exec (.descSelect l v) s = finish s (s1.wrs (R.SCH_DESC l 0) ws) := by rw [hs1, hws]; rfl
  have hword : ∀ j, j < 4 → (s1.wrs (R.SCH_DESC l 0) ws).rd (R.SCH_DESC l j) = nth ws j 0 % 4294967296 := fun j hj => by
    rw [State.wrs, R.SCH_DESC_eq l j, State.rd_foldl_wr, if_pos (by omega)]
    rfl
  have hsel : ChangesOnly [R.SCH_DESC_SEL l] [] s s1 := by
    rw [hs1]; exact (ChangesOnly.refl _ _ s).wr _ (List.mem_singleton_self _) (by cases l <;> decide)
  have hdesc := s1.wrs_desc_changes l hlen
  refine answers_of_finish hexec ⟨?_, fun j hj => ?_, ?_⟩
  · rw [s.ended_rd _ (by cases l <;> decide), hdesc.rd_other (by cases l <;> decide), hs1, State.rd_wr_same]
    omega
  · rw [s.ended_rd _ (by interval_cases j <;> cases l <;> decide), hword j hj, hws]
  · exact ((hsel.mono (by simp) (List.Subset.refl _)).trans (hdesc.mono (List.subset_cons_self _ _) (List.Subset.refl _))).only_among
end

end Sys2Proof.Machine
end

section
/-! SUPPORT. The faults of pairs and dual engines (R207, R208, R281, R332): what each step of Table 09-1 changes, and what it shows. -/
namespace Sys2Proof.Machine

/-! ### The steps of a lane's stop -/

section
variable {L : List Nat} {ps : List Part} {s t : State} {l : Lane}

theorem ChangesOnly.healthBit_own (h : ChangesOnly L ps s t) (i : Nat) (hk : R.WDN_HEALTH (laneIx l) ∈ L) (he : R.WDN_EVENTS ∈ L) :
    ChangesOnly L ps s (t.healthBit l i) :=
  (h.setB _ _ hk (by cases l <;> decide)).onIf _ fun h => h.setB _ _ he (by decide)
theorem ChangesOnly.relSend (h : ChangesOnly L ps s t) (typ idx vi gen : Nat) (items : List (Nat × Nat)) (digest pay : Nat) (stat : List Nat)
    (hl : lanePart l ∈ ps) : ChangesOnly L ps s (t.relSend l typ idx vi gen items digest pay stat) := by
  unfold State.relSend
  split
  · exact h
  · exact h.modLane _ hl
theorem ChangesOnly.laneHalt (h : ChangesOnly L ps s t) (hs : R.FAB_STATUS l ∈ L) (hi : R.FAB_STOP_INDEX l ∈ L) (hl : lanePart l ∈ ps) :
    ChangesOnly L ps s (t.laneHalt l) := by
  unfold State.laneHalt
  split
  · exact h
  · exact ((h.relSend _ _ _ _ _ _ _ _ hl).setB _ _ hs (by cases l <;> decide)).wr _ hi (by cases l <;> decide)
theorem ChangesOnly.pairsRefresh (h : ChangesOnly L ps s t) (hs : R.FAB_STATUS l ∈ L) (hc : R.FAB_CAPACITY l ∈ L)
    (hk : R.WDN_HEALTH (laneIx l) ∈ L) (he : R.WDN_EVENTS ∈ L) : ChangesOnly L ps s (t.pairsRefresh l) :=
  ((h.setF _ _ _ hs (by cases l <;> decide)).wr _ hc (by cases l <;> decide)).onIf _ fun h => h.healthBit_own _ hk he
end

theorem State.healthBit_changes (s : State) (l : Lane) (i : Nat) : ChangesOnly [R.WDN_HEALTH (laneIx l), R.WDN_EVENTS] [] s (s.healthBit l i) :=
  (ChangesOnly.refl _ _ s).healthBit_own i (by simp) (by simp)
theorem State.laneHalt_changes (s : State) (l : Lane) : ChangesOnly [R.FAB_STATUS l, R.FAB_STOP_INDEX l] [lanePart l] s (s.laneHalt l) :=
  (ChangesOnly.refl _ _ s).laneHalt (by simp) (by simp) (List.mem_singleton_self _)
/-- A lane that has stopped is HALTED. -/
theorem State.bit_laneHalt (s : State) (l : Lane) : (s.laneHalt l).bit (R.FAB_STATUS l) 0 = true := by
  unfold State.laneHalt
  split
  · assumption
  · rw [State.bit_wr_other _ _ _ (by cases l <;> decide), State.bit_setB_same _ _ _ _ (by decide)]
theorem State.opt_laneHalt (s : State) (l : Lane) : (s.laneHalt l).opt l = s.opt l := by
  unfold State.laneHalt
  split
  · rfl
  · unfold State.relSend State.relPut
    cases l <;> dsimp only <;> split <;> rfl

/-! ### A datapath beside the tiles (R281, R332) -/

/-- The registers that the stop of a datapath writes. -/
def dualKeys (l : Lane) (kInfo kIndex kEv : Nat) : List Nat :=
  [kInfo, kIndex, kEv, R.WDN_HEALTH (laneIx l), R.WDN_EVENTS, R.FAB_STATUS l, R.FAB_STOP_INDEX l]

section
variable (s : State) {l : Lane} {kInfo kIndex kEv : Nat} (info idx ev : Nat)

theorem State.dualStop_changes (hw : R.WDN_STATUS ∉ dualKeys l kInfo kIndex kEv) :
    ChangesOnly (dualKeys l kInfo kIndex kEv) [lanePart l] s (s.dualStop l kInfo kIndex info idx kEv ev) := by
  unfold dualKeys at hw ⊢
  simp only [List.mem_cons, List.not_mem_nil, or_false, not_or] at hw
  obtain ⟨h1, h2, h3, -⟩ := hw
  exact (((((ChangesOnly.refl _ _ s).wr _ (by simp) (Ne.symm h1)).wr _ (by simp) (Ne.symm h2)).setB _ _ (by simp) (Ne.symm h3)).healthBit_own _
    (by simp) (by simp)).laneHalt (by simp) (by simp) (List.mem_singleton_self _)
/-- What the stop shows: the record, the event, the lane HALTED, its fault. -/
theorem State.dualStop_shows (hn : (dualKeys l kInfo kIndex kEv).Nodup) (hev : ev < 32) :
    let t := s.dualStop l kInfo kIndex info idx kEv ev
    t.rd kInfo = info % 4294967296 ∧ t.rd kIndex = idx % 4294967296 ∧ t.bit kEv ev = true ∧ t.bit (R.FAB_STATUS l) 0 = true ∧
      t.bit (R.WDN_HEALTH (laneIx l)) 0 = true ∧ t.opt l = s.opt l := by
  simp only [dualKeys, List.nodup_cons, List.mem_cons, List.not_mem_nil, or_false, not_or] at hn
  obtain ⟨⟨hii, hie, hih, hiw, his, hij⟩, ⟨hxe, hxh, hxw, hxs, hxj⟩, ⟨heh, hew, hes, hej⟩, -⟩ := hn
  intro t
  have htail : ∀ u : State, ∀ k, k ≠ R.WDN_HEALTH (laneIx l) → k ≠ R.WDN_EVENTS → k ≠ R.FAB_STATUS l → k ≠ R.FAB_STOP_INDEX l →
      ((u.healthBit l 0).laneHalt l).rd k = u.rd k := fun u k h1 h2 h3 h4 =>
    ((State.laneHalt_changes _ l).rd_other (by simp [h3, h4])).trans ((u.healthBit_changes l 0).rd_other (by simp [h1, h2]))
  refine ⟨?_, ?_, ?_, State.bit_laneHalt _ l, ?_, ?_⟩
  · exact (htail _ _ hih hiw his hij).trans ((State.rd_wr_other _ _ (Ne.symm hie)).trans ((State.rd_wr_other _ _ (Ne.symm hii)).trans (s.rd_wr_same _ _)))
  · exact (htail _ _ hxh hxw hxs hxj).trans ((State.rd_wr_other _ _ (Ne.symm hxe)).trans (State.rd_wr_same _ _ _))
  · exact (State.bit_of_rd (htail _ _ heh hew hes hej) ev).trans (State.bit_setB_same _ _ _ _ hev)
  · exact ((State.laneHalt_changes _ l).bit (by cases l <;> decide) 0).trans (State.bit_healthBit _ l (by decide))
  · refine (State.opt_laneHalt _ l).trans ?_
    unfold State.opt
    rw [State.lane_healthBit]
    cases l <;> rfl
end

/-! ### The halves of a datapath differ -/

theorem State.opt_ended (s0 s1 : State) (l : Lane) : (s0.ended s1).opt l = s1.opt l := by unfold State.opt; rw [s0.ended_lane]
theorem State.takeFree_changes (s : State) (L : List Nat) (ps : List Part) : ChangesOnly L ps s s.takeFree.2 := by
  refine ⟨fun _ _ => rfl, fun p _ => ?_⟩
  cases p
  case evt => exact ⟨rfl, rfl⟩
  all_goals rfl
/-- The first entry of a key, found as a pair. -/
theorem find?_of_lookup {β : Type} {k : Nat} {v : β} {m : List (Nat × β)} (h : m.lookup k = some v) : m.find? (fun e => e.1 == k) = some (k, v) := by
  obtain ⟨before, after, hm, hne⟩ := List.lookup_eq_some_iff.1 h
  refine List.find?_eq_some_iff_append.2 ⟨beq_self_eq_true k, before, after, hm, fun e he => ?_⟩
  have := hne e he
  rwa [bne_comm] at this

/-- The stop of a datapath that has marked itself as stopped: `L` the registers of the mark, `F` all that change. -/
theorem answers_dualStop {c : Instr} {s u : State} {l : Lane} {kInfo kIndex kEv info idx ev : Nat} {L : List Nat} (F : List Nat)
    (hexec : exec c s = finish s (u.dualStop l kInfo kIndex info idx kEv ev)) (hu : ChangesOnly L [lanePart l] s u)
    (hn : (dualKeys l kInfo kIndex kEv).Nodup) (hw : R.WDN_STATUS ∉ dualKeys l kInfo kIndex kEv)
    (hs : ∀ k ∈ [kInfo, kIndex, kEv, R.FAB_STATUS l, R.WDN_HEALTH (laneIx l)], settleKey k = false)
    (hF : ∀ k ∈ L ++ dualKeys l kInfo kIndex kEv, (among F k || settleKey k) = true) (hinfo : info < 4294967296) (hev : ev < 32) :
    Answers c s (fun t => ((∀ k, k ∉ dualKeys l kInfo kIndex kEv → settleKey k = false → t.rd k = u.rd k) ∧ t.opt l = u.opt l) ∧
      t.rd kInfo = info ∧ t.rd kIndex = idx % 4294967296 ∧ t.bit kEv ev = true ∧ t.bit (R.FAB_STATUS l) 0 = true ∧
      t.bit (R.WDN_HEALTH (laneIx l)) 0 = true ∧ Only (among F) [lanePart l] s t) := by
  simp only [List.forall_mem_cons, List.not_mem_nil, false_implies, implies_true, and_true] at hs
  obtain ⟨hsi, hsx, hse, hss, hsh⟩ := hs
  obtain ⟨h1, h2, h3, h4, h5, h6⟩ := u.dualStop_shows info idx ev hn hev
  have hstop := u.dualStop_changes info idx ev hw
  refine answers_of_finish hexec ⟨⟨fun k hk hs => (s.ended_rd _ hs).trans (hstop.rd_other hk), (s.opt_ended _ l).trans h6⟩,
    ((s.ended_rd _ hsi).trans h1).trans (Nat.mod_eq_of_lt hinfo), (s.ended_rd _ hsx).trans h2, (s.ended_bit _ hse _).trans h3,
    (s.ended_bit _ hss _).trans h4, (s.ended_bit _ hsh _).trans h5, ?_⟩
  exact ((hu.mono (List.subset_append_left _ _) (List.Subset.refl _)).trans (hstop.mono (List.subset_append_right _ _) (List.Subset.refl _))).only hF

section
variable {s : State} {l : Lane}

theorem answers_lockstep_loop {L : Slot} {step : Fin 8} (h : s.bit (R.LPE_STATUS l) 0 = false) : Answers (.lockstepMismatch l (.loop L step)) s (fun t =>
    t.bit (R.LPE_STATUS l) 0 = true ∧ t.rd (R.LPE_LS_INFO l) = L.val + step.val * 65536 ∧
    (∀ k, (s.lane l).steps.lookup L.val = some k → t.rd (R.LPE_LS_INDEX l) = k % 4294967296) ∧ t.bit (R.LPE_EVENTS l) 0 = true ∧
    t.bit (R.FAB_STATUS l) 0 = true ∧ t.bit (R.WDN_HEALTH (laneIx l)) 0 = true ∧
    Only (among [R.LPE_STATUS l, R.LPE_LS_INFO l, R.LPE_LS_INDEX l, R.LPE_EVENTS l, R.FAB_STATUS l, R.FAB_STOP_INDEX l, R.WDN_HEALTH (laneIx l)]) [lanePart l] s t) := by
  obtain ⟨n, hn⟩ : ∃ n, n = ((s.lane l).steps.find? (fun e => e.1 == L.val)).elim (Config.free s.freeCtr % two32) (·.2) := ⟨_, rfl⟩
  have hexec : exec (.lockstepMismatch l (.loop L step)) s = finish s ((s.takeFree.2.setB (R.LPE_STATUS l) 0 true).dualStop l (R.LPE_LS_INFO l)
      (R.LPE_LS_INDEX l) (L.val + step.val * 65536) n (R.LPE_EVENTS l) 0) := by
    rw [hn]
    exact congrArg (finish s) (if_neg (by rw [h]; decide))
  have hmark : ChangesOnly [R.LPE_STATUS l] [lanePart l] s (s.takeFree.2.setB (R.LPE_STATUS l) 0 true) :=
    (s.takeFree_changes _ _).setB _ _ (List.mem_singleton_self _) (by cases l <;> decide)
  refine (answers_dualStop _ hexec hmark (by cases l <;> decide) (by cases l <;> decide) (by cases l <;> decide) (by cases l <;> decide) (by omega)
    (by decide)).mono fun t ⟨⟨hrd, _⟩, hinfo, hidx, hev, hstat, hhealth, honly⟩ => ⟨?_, hinfo, fun k hk => ?_, hev, hstat, hhealth, honly⟩
  · exact (State.bit_of_rd (hrd _ (by cases l <;> decide) (by cases l <;> decide)) 0).trans (State.bit_setB_same _ _ _ _ (by decide))
  · rw [hidx, hn, find?_of_lookup hk]; rfl
theorem answers_lockstep_energy {e : Fin 2048} (h : s.bit (R.NRG_STATUS l) 0 = false) : Answers (.lockstepMismatch l (.energy e)) s (fun t =>
    t.bit (R.NRG_STATUS l) 0 = true ∧ t.rd (R.NRG_LS_INFO l) = e.val ∧ (∀ k, (s.pt l e).next = some k → t.rd (R.NRG_LS_INDEX l) = k % 4294967296) ∧
    t.bit (R.NRG_EVENTS l) 7 = true ∧ t.bit (R.FAB_STATUS l) 0 = true ∧ t.bit (R.WDN_HEALTH (laneIx l)) 0 = true ∧
    Only (among [R.NRG_STATUS l, R.NRG_LS_INFO l, R.NRG_LS_INDEX l, R.NRG_EVENTS l, R.FAB_STATUS l, R.FAB_STOP_INDEX l, R.WDN_HEALTH (laneIx l)]) [lanePart l] s t) := by
  obtain ⟨n, hn⟩ : ∃ n, n = (s.pt l e.val).next.getD (Config.free s.freeCtr % two32) := ⟨_, rfl⟩
  have hexec : exec (.lockstepMismatch l (.energy e)) s = finish s ((s.takeFree.2.setB (R.NRG_STATUS l) 0 true).dualStop l (R.NRG_LS_INFO l)
      (R.NRG_LS_INDEX l) e.val n (R.NRG_EVENTS l) 7) := by
    have hpt : s.takeFree.2.pt l e.val = s.pt l e.val := by cases l <;> rfl
    rw [hn, ← hpt]
    exact congrArg (finish s) (if_neg (by rw [h]; decide))
  have hmark : ChangesOnly [R.NRG_STATUS l] [lanePart l] s (s.takeFree.2.setB (R.NRG_STATUS l) 0 true) :=
    (s.takeFree_changes _ _).setB _ _ (List.mem_singleton_self _) (by cases l <;> decide)
  refine (answers_dualStop _ hexec hmark (by cases l <;> decide) (by cases l <;> decide) (by cases l <;> decide) (by cases l <;> decide) (by omega)
    (by decide)).mono fun t ⟨⟨hrd, _⟩, hinfo, hidx, hev, hstat, hhealth, honly⟩ => ⟨?_, hinfo, fun k hk => ?_, hev, hstat, hhealth, honly⟩
  · exact (State.bit_of_rd (hrd _ (by cases l <;> decide) (by cases l <;> decide)) 0).trans (State.bit_setB_same _ _ _ _ (by decide))
  · rw [hidx, hn, hk]; rfl
theorem answers_lockstep_optimiser {p : Fin 16} (h : (s.opt l).halt = false) : Answers (.lockstepMismatch l (.optimiser p)) s (fun t =>
    (t.opt l).halt = true ∧ t.rd (R.OPT_LS_INFO l) % 65536 = p.val ∧ (∀ k, (s.opt l).run.map (·.1) = some k → t.rd (R.OPT_LS_INDEX l) = k % 4294967296) ∧
    t.bit (R.OPT_EVENTS l) 6 = true ∧ t.bit (R.FAB_STATUS l) 0 = true ∧ t.bit (R.WDN_HEALTH (laneIx l)) 0 = true ∧
    Only (among [R.OPT_LS_INFO l, R.OPT_LS_INDEX l, R.OPT_EVENTS l, R.FAB_STATUS l, R.FAB_STOP_INDEX l, R.WDN_HEALTH (laneIx l)]) [lanePart l] s t) := by
  obtain ⟨u, hu⟩ : ∃ u, u = s.takeFree.2.takeFree.2.modOpt l (fun o => { o with halt := true }) := ⟨_, rfl⟩
  obtain ⟨n, hn⟩ : ∃ n, n = (s.opt l).run.elim (Config.free (s.freeCtr + 1) % two32) (·.1) := ⟨_, rfl⟩
  obtain ⟨it, hit⟩ : ∃ it, it = Config.free s.freeCtr := ⟨_, rfl⟩
  have hexec : exec (.lockstepMismatch l (.optimiser p)) s = finish s (u.dualStop l (R.OPT_LS_INFO l) (R.OPT_LS_INDEX l)
      (p.val + it % 65536 * 65536) n (R.OPT_EVENTS l) 6) := by
    have hopt : s.takeFree.2.takeFree.2.opt l = s.opt l := by cases l <;> rfl
    rw [hu, hn, hit, ← hopt]
    exact congrArg (finish s) (if_neg (by rw [h]; decide))
  have hmark : ChangesOnly [] [lanePart l] s u := by
    rw [hu]
    exact ((s.takeFree_changes _ _).trans (s.takeFree.2.takeFree_changes _ _)).modLane _ (List.mem_singleton_self _)
  have hhalt : (u.opt l).halt = true := by
    rw [hu, State.opt, State.modOpt, State.lane_modLane_same]
  refine (answers_dualStop _ hexec hmark (by cases l <;> decide) (by cases l <;> decide) (by cases l <;> decide) (by cases l <;> decide) (by omega)
    (by decide)).mono fun t ⟨⟨_, hopt⟩, hinfo, hidx, hev, hstat, hhealth, honly⟩ => ⟨?_, ?_, fun k hk => ?_, hev, hstat, hhealth, honly⟩
  · rw [hopt, hhalt]
  · rw [hinfo]; omega
  · obtain ⟨r, hr, rfl⟩ := Option.map_eq_some_iff.1 hk
    rw [hidx, hn, hr]; rfl
end

/-! ### The halves of a pair differ (R205, R207), and words that the store or the memory cannot correct (R208) -/

/-- The registers that the failure of a pair writes; `q` is its word of FAB_PAIR_FAIL. -/
def pairFailKeys (l : Lane) (q : Nat) : List Nat :=
  [R.FAB_PAIR_FAIL l q, R.FAB_STATUS l, R.FAB_CAPACITY l, R.WDN_HEALTH (laneIx l), R.WDN_EVENTS]
/-- The registers that a mismatch in a pair writes. -/
def mismatchKeys (l : Lane) (q : Nat) : List Nat :=
  [R.FAB_STATUS l, R.FAB_EVENTS l, R.FAB_STOP_INDEX l, R.FAB_LS_TILE l, R.FAB_LS_INDEX l, R.FAB_LS_POS l, R.FAB_PAIR_FAIL l q,
    R.FAB_CAPACITY l, R.WDN_HEALTH (laneIx l)] ++ [R.WDN_EVENTS]

theorem notMem_pairFailKeys (l : Lane) : ∀ q < 4, R.FAB_EVENTS l ∉ pairFailKeys l q ∧ R.FAB_LS_TILE l ∉ pairFailKeys l q := by cases l <;> decide
theorem notMem_mismatchKeys (l : Lane) : ∀ q < 4, R.FAB_ECC_COUNT l ∉ mismatchKeys l q := by cases l <;> decide

/-- The words of FAB_PAIR_FAIL are no other register of a fault. -/
theorem pairFail_notMem (l : Lane) : ∀ q < 4, R.FAB_PAIR_FAIL l q ∉ [R.WDN_STATUS, R.FAB_STATUS l, R.FAB_EVENTS l, R.FAB_STOP_INDEX l, R.FAB_LS_TILE l,
    R.FAB_LS_INDEX l, R.FAB_LS_POS l, R.FAB_CAPACITY l, R.FAB_ECC_COUNT l, R.WDN_HEALTH (laneIx l), R.WDN_EVENTS] ∧
    settleKey (R.FAB_PAIR_FAIL l q) = false := by cases l <;> decide

section
variable (s : State) (l : Lane) {p : Nat} (hb : Nat) (wb : Bool)

theorem State.pairsRefresh_changes : ChangesOnly [R.FAB_STATUS l, R.FAB_CAPACITY l, R.WDN_HEALTH (laneIx l), R.WDN_EVENTS] [] s (s.pairsRefresh l) :=
  (ChangesOnly.refl _ _ s).pairsRefresh (by simp) (by simp) (by simp) (by simp)

/-- The record of a mismatch names the pair and the phase, beside the VI. -/
theorem State.mismatchAt_changes : ChangesOnly [R.FAB_LS_TILE l, R.FAB_LS_INDEX l, R.FAB_LS_POS l] [] s (s.mismatchAt l p wb) ∧
    ∃ vi, (s.mismatchAt l p wb).rd (R.FAB_LS_TILE l) = (p + b2n wb * 256 + vi * 65536) % 4294967296 := by
  obtain ⟨u, vi, idx, pos, hu, heq⟩ : ∃ (u : State) (vi idx pos : Nat), ChangesOnly [] [] s u ∧ s.mismatchAt l p wb =
      ((u.wr (R.FAB_LS_TILE l) (p + b2n wb * 256 + vi * 65536)).wr (R.FAB_LS_INDEX l) idx).wr (R.FAB_LS_POS l) pos := by
    refine ⟨{ s with freeCtr := s.freeCtr + 4 }, ?_⟩
    unfold State.mismatchAt
    cases (s.lane l).pairTask p <;> exact ⟨_, _, _, s.takeFree_changes _ _, rfl⟩
  rw [heq]
  refine ⟨(((hu.mono (List.nil_subset _) (List.Subset.refl _)).wr _ (by simp) (by cases l <;> decide)).wr _ (by simp) (by cases l <;> decide)).wr _
    (by simp) (by cases l <;> decide), vi, ?_⟩
  rw [State.rd_wr_other _ _ (by cases l <;> decide), State.rd_wr_other _ _ (by cases l <;> decide), State.rd_wr_same]

/-- A pair that has not failed: the record where the lane runs, the failure, the event, the health fault, the lane's stop. -/
theorem State.mismatch_eq (h : s.pairFailed l p = false) : ∃ u, ChangesOnly [R.FAB_LS_TILE l, R.FAB_LS_INDEX l, R.FAB_LS_POS l] [] s u ∧
    (s.bit (R.FAB_STATUS l) 0 = false → ∃ vi, u.rd (R.FAB_LS_TILE l) = (p + b2n wb * 256 + vi * 65536) % 4294967296) ∧
    s.mismatch l p hb wb = (((u.pairFail l p).setB (R.FAB_EVENTS l) 0 true).healthBit l hb).laneHalt l := by
  refine ⟨s.onIf (!s.bit (R.FAB_STATUS l) 0) (fun s => s.mismatchAt l p wb), ?_, fun hrun => ?_, if_neg (by rw [h]; decide)⟩
  · exact (ChangesOnly.refl _ _ s).onIf _ fun _ => (s.mismatchAt_changes l wb).1
  · rw [hrun]
    exact (s.mismatchAt_changes l wb).2
theorem State.mismatch_failed (h : s.pairFailed l p = true) : s.mismatch l p hb wb = s := if_pos h

/-- The health fault of a pair's failure stands. -/
theorem State.health_mismatch (hhb : hb < 12) (h : s.pairFailed l p = true → s.bit (R.WDN_HEALTH (laneIx l)) hb = true) :
    (s.mismatch l p hb wb).bit (R.WDN_HEALTH (laneIx l)) hb = true := by
  cases hf : s.pairFailed l p with
  | true => rw [s.mismatch_failed l hb wb hf]; exact h hf
  | false =>
    obtain ⟨u, -, -, heq⟩ := s.mismatch_eq l hb wb hf
    rw [heq]
    exact ((State.laneHalt_changes _ l).bit (by cases l <;> decide) hb).trans (State.bit_healthBit _ l hhb)
section
variable (hp : p < 128)
include hp

theorem State.pairFail_changes : ChangesOnly (pairFailKeys l (p / 32)) [] s (s.pairFail l p) := by
  obtain ⟨hne, -⟩ := pairFail_notMem l (p / 32) (by omega)
  exact ((ChangesOnly.refl _ _ s).setB _ _ (List.mem_cons_self ..) fun e => hne (by simp [e])).trans
    ((State.pairsRefresh_changes _ l).mono (List.subset_cons_self _ _) (List.Subset.refl _))
theorem State.pairFailed_pairFail : (s.pairFail l p).pairFailed l p = true := by
  obtain ⟨hne, -⟩ := pairFail_notMem l (p / 32) (by omega)
  refine ((State.pairsRefresh_changes _ l).bit (fun hm => hne ?_) _).trans (State.bit_setB_same _ _ _ _ (Nat.mod_lt _ (by decide)))
  simp only [List.mem_cons, List.not_mem_nil, or_false] at hm ⊢
  tauto
theorem State.mismatch_changes : ChangesOnly (mismatchKeys l (p / 32)) [lanePart l] s (s.mismatch l p hb wb) := by
  cases h : s.pairFailed l p with
  | true => rw [s.mismatch_failed l hb wb h]; exact ChangesOnly.refl _ _ s
  | false =>
    obtain ⟨u, hu, -, heq⟩ := s.mismatch_eq l hb wb h
    rw [heq]
    have hfail := u.pairFail_changes l hp
    refine ((((hu.mono ?_ (List.nil_subset _)).trans (hfail.mono ?_ (List.nil_subset _))).setB _ _ ?_ (by cases l <;> decide)).healthBit_own _ ?_ ?_).laneHalt
      ?_ ?_ (List.mem_singleton_self _) <;> simp [mismatchKeys, pairFailKeys]
/-- Of the lane's events only that of the pair's failure is set. -/
theorem State.bit_mismatch_events {j : Nat} (hj : j < 32) : (s.mismatch l p hb wb).bit (R.FAB_EVENTS l) j =
    (s.bit (R.FAB_EVENTS l) j || (decide (j = 0) && !s.pairFailed l p)) := by
  cases h : s.pairFailed l p with
  | true => rw [s.mismatch_failed l hb wb h, Bool.not_true, Bool.and_false, Bool.or_false]
  | false =>
    obtain ⟨u, hu, -, heq⟩ := s.mismatch_eq l hb wb h
    obtain ⟨hne, -⟩ := notMem_pairFailKeys l (p / 32) (by omega)
    have hfail : (u.pairFail l p).bit (R.FAB_EVENTS l) j = s.bit (R.FAB_EVENTS l) j :=
      ((u.pairFail_changes l hp).bit hne j).trans (hu.bit (by cases l <;> decide) j)
    rw [heq, (State.laneHalt_changes _ l).bit (by cases l <;> decide), (State.healthBit_changes _ l hb).bit (by cases l <;> decide),
      State.bit_setB _ _ _ _ hj, hfail, Bool.not_false, Bool.and_true]
    by_cases h0 : 0 = j
    · rw [if_pos h0, decide_eq_true h0.symm, Bool.or_true]
    · rw [if_neg h0, decide_eq_false (Ne.symm h0), Bool.or_false]
theorem State.pairFailed_mismatch : (s.mismatch l p hb wb).pairFailed l p = true := by
  cases h : s.pairFailed l p with
  | true => rw [s.mismatch_failed l hb wb h]; exact h
  | false =>
    obtain ⟨u, -, -, heq⟩ := s.mismatch_eq l hb wb h
    obtain ⟨hne, -⟩ := pairFail_notMem l (p / 32) (by omega)
    simp only [List.mem_cons, List.not_mem_nil, or_false, not_or] at hne
    obtain ⟨-, hs, he, hx, -, -, -, -, -, hh, hw⟩ := hne
    rw [heq]
    refine ((State.laneHalt_changes _ l).bit (by simp [hs, hx]) _).trans (((State.healthBit_changes _ l hb).bit (by simp [hh, hw]) _).trans
      ((State.bit_setB_other _ _ _ _ (Ne.symm he)).trans (u.pairFailed_pairFail l hp)))
end
end

section
variable {s : State} {l : Lane}

theorem ChangesOnly.only_mismatch {p : Nat} {t : State} (h : ChangesOnly (mismatchKeys l (p / 32)) [lanePart l] s t) :
    Only (among [R.FAB_STATUS l, R.FAB_EVENTS l, R.FAB_STOP_INDEX l, R.FAB_LS_TILE l, R.FAB_LS_INDEX l, R.FAB_LS_POS l, R.FAB_PAIR_FAIL l (p / 32),
      R.FAB_CAPACITY l, R.WDN_HEALTH (laneIx l)]) [lanePart l] s (s.ended t) :=
  h.only fun k hk => by
    rcases List.mem_append.1 hk with hk | hk
    · rw [among, List.contains_iff_mem.2 hk, Bool.true_or]
    · rw [List.mem_singleton.1 hk, show settleKey R.WDN_EVENTS = true by decide, Bool.or_true]
theorem answers_lockstep_tile {p : Pair} {wb : Bool} (h : s.pairFailed l p = false) : Answers (.lockstepMismatch l (.tile p wb)) s (fun t =>
    t.pairFailed l p = true ∧ t.bit (R.FAB_EVENTS l) 0 = true ∧ t.bit (R.FAB_STATUS l) 0 = true ∧ t.bit (R.WDN_HEALTH (laneIx l)) 0 = true ∧
    (s.bit (R.FAB_STATUS l) 0 = false → t.fld (R.FAB_LS_TILE l) 7 0 = p.val ∧ t.bit (R.FAB_LS_TILE l) 8 = wb) ∧
    Only (among [R.FAB_STATUS l, R.FAB_EVENTS l, R.FAB_STOP_INDEX l, R.FAB_LS_TILE l, R.FAB_LS_INDEX l, R.FAB_LS_POS l, R.FAB_PAIR_FAIL l (p / 32),
      R.FAB_CAPACITY l, R.WDN_HEALTH (laneIx l)]) [lanePart l] s t) := by
  have hp := p.isLt
  obtain ⟨-, hset⟩ := pairFail_notMem l (p.val / 32) (by omega)
  obtain ⟨u, -, htile, heq⟩ := s.mismatch_eq l 0 wb h
  have hexec : exec (.lockstepMismatch l (.tile p wb)) s = finish s (s.mismatch l p.val 0 wb) := rfl
  have hstat : (s.mismatch l p.val 0 wb).bit (R.FAB_STATUS l) 0 = true := by rw [heq]; exact State.bit_laneHalt _ l
  refine answers_of_finish hexec ⟨(s.ended_bit _ hset _).trans (s.pairFailed_mismatch l 0 wb hp), (s.ended_bit _ (by cases l <;> decide) _).trans ?_,
    (s.ended_bit _ (by cases l <;> decide) _).trans hstat,
    (s.ended_bit _ (by cases l <;> decide) _).trans (s.health_mismatch l 0 wb (by decide) fun hf => absurd (hf.symm.trans h) (by decide)),
    fun hrun => ?_, (s.mismatch_changes l 0 wb hp).only_mismatch⟩
  · rw [s.bit_mismatch_events l 0 wb hp (by decide), h]
    exact Bool.or_true _
  · obtain ⟨vi, hvi⟩ := htile hrun
    have hrd : (s.ended (s.mismatch l p.val 0 wb)).rd (R.FAB_LS_TILE l) = (p.val + b2n wb * 256 + vi * 65536) % 4294967296 := by
      rw [s.ended_rd _ (by cases l <;> decide), heq, (State.laneHalt_changes _ l).rd_other (by cases l <;> decide),
        (State.healthBit_changes _ l 0).rd_other (by cases l <;> decide), State.rd_setB, if_neg (by cases l <;> decide),
        (u.pairFail_changes l hp).rd_other (notMem_pairFailKeys l _ (by omega)).2, hvi]
    have hwb := b2n_lt wb
    constructor
    · rw [State.fld, bitsOf, hrd]; omega
    · rw [State.bit, hrd, Nat.testBit_eq_decide_div_mod_eq]
      cases wb <;> simp <;> omega
theorem answers_lockstep_failed {p : Pair} {wb : Bool} (h : s.pairFailed l p = true) :
    Answers (.lockstepMismatch l (.tile p wb)) s (fun t => Only (fun _ => false) [] s t) :=
  answers_nothing (congrArg (finish s) (s.mismatch_failed l 0 wb h))
theorem answers_eccUncorrectable (x : EccSrc) : Answers (.eccUncorrectable l x) s (fun t =>
    t.fld (R.FAB_ECC_COUNT l) 31 16 = min 65535 (s.fld (R.FAB_ECC_COUNT l) 31 16 + 1) ∧ t.bit (R.FAB_EVENTS l) 1 = true ∧
    t.bit (R.FAB_EVENTS l) 0 = (s.bit (R.FAB_EVENTS l) 0 || match x with | .store p | .lpddr p => !s.pairFailed l p) ∧
    t.bit (R.WDN_HEALTH (laneIx l)) 1 = true ∧ t.bit (R.FAB_STATUS l) 0 = true ∧
    (∀ p, x = .store p ∨ x = .lpddr p → t.pairFailed l p = true) ∧ Only (fun _ => true) [lanePart l] s t) := by
  obtain ⟨p, hexec, hfail, hsrc⟩ : ∃ p : Pair, exec (.eccUncorrectable l x) s = finish s (((((s.addSatF (R.FAB_ECC_COUNT l) 31 16 1).setB
      (R.FAB_EVENTS l) 1 true).healthBit l 1).mismatch l p.val 1 false).laneHalt l) ∧
      (match x with | .store p | .lpddr p => !s.pairFailed l p) = !s.pairFailed l p ∧ ∀ q, x = .store q ∨ x = .lpddr q → q = p := by
    cases x with
    | store p => exact ⟨p, rfl, rfl, fun q h => by simpa [eq_comm] using h⟩
    | lpddr p => exact ⟨p, rfl, rfl, fun q h => by simpa [eq_comm] using h⟩
  have hp := p.isLt
  obtain ⟨hne, hset⟩ := pairFail_notMem l (p.val / 32) (by omega)
  obtain ⟨u, hu⟩ : ∃ u, u = ((s.addSatF (R.FAB_ECC_COUNT l) 31 16 1).setB (R.FAB_EVENTS l) 1 true).healthBit l 1 := ⟨_, rfl⟩
  rw [← hu] at hexec
  have hcount : u.fld (R.FAB_ECC_COUNT l) 31 16 = min 65535 (s.fld (R.FAB_ECC_COUNT l) 31 16 + 1) := by
    rw [hu, State.fld_of_rd ((State.healthBit_changes _ l 1).rd_other (by cases l <;> decide)),
      State.setB, State.fld_setF_other _ _ _ _ _ _ (by cases l <;> decide), State.fld_addSatF_same _ _ _ _ _ (by decide) (by decide)]
    rfl
  have hev : ∀ j < 32, u.bit (R.FAB_EVENTS l) j = if 1 = j then true else s.bit (R.FAB_EVENTS l) j := fun j hj => by
    rw [hu, (State.healthBit_changes _ l 1).bit (by cases l <;> decide), State.bit_setB _ _ _ _ hj,
      State.bit_of_rd (s.rd_addSatF_other _ _ _ (by cases l <;> decide))]
  have hchg : ChangesOnly [R.FAB_ECC_COUNT l, R.FAB_EVENTS l, R.WDN_HEALTH (laneIx l), R.WDN_EVENTS] [] s u := by
    rw [hu]
    exact (((ChangesOnly.refl _ _ s).addSatF _ _ _ (by simp) (by cases l <;> decide)).setB _ _ (by simp) (by cases l <;> decide)).healthBit_own _
      (by simp) (by simp)
  have hsame : u.pairFailed l p = s.pairFailed l p := hchg.bit (fun hm => hne (by
    simp only [List.mem_cons, List.not_mem_nil, or_false] at hm ⊢; tauto)) _
  have hmis := u.mismatch_changes l 1 false hp
  have hhalt := (u.mismatch l p.val 1 false).laneHalt_changes l
  have hhealth : u.bit (R.WDN_HEALTH (laneIx l)) 1 = true := by rw [hu]; exact State.bit_healthBit _ l (by decide)
  refine answers_of_finish hexec ⟨?_, ?_, ?_, ?_, ?_, fun q hq => ?_, ?_⟩
  · rw [s.ended_fld _ (by cases l <;> decide), State.fld_of_rd (hhalt.rd_other (by cases l <;> decide)), 
      State.fld_of_rd (hmis.rd_other (notMem_mismatchKeys l _ (by omega))), hcount]
  · rw [s.ended_bit _ (by cases l <;> decide), hhalt.bit (by cases l <;> decide), u.bit_mismatch_events l 1 false hp (by decide), hev 1 (by decide)]
    rfl
  · rw [s.ended_bit _ (by cases l <;> decide), hhalt.bit (by cases l <;> decide), u.bit_mismatch_events l 1 false hp (by decide), hev 0 (by decide),
      hsame, hfail]
    rfl
  · rw [s.ended_bit _ (by cases l <;> decide), hhalt.bit (by cases l <;> decide)]
    exact u.health_mismatch l 1 false (by decide) fun _ => hhealth
  · exact (s.ended_bit _ (by cases l <;> decide) _).trans (State.bit_laneHalt _ l)
  · rw [hsrc q hq]
    refine (s.ended_bit _ hset _).trans ((hhalt.bit (fun hm => hne ?_) _).trans (u.pairFailed_mismatch l 1 false hp))
    simp only [List.mem_cons, List.not_mem_nil, or_false] at hm ⊢
    tauto
  · exact only_of_kept (fun _ h => absurd h (by decide)) fun q hq => Part.kept_trans (hchg.2 q List.not_mem_nil)
      (Part.kept_trans (hmis.2 q hq) (hhalt.2 q hq))
end

/-- Settles O38: a decision and a creation end the lane's work, which leaves its tiles and runs as they set them; a datapath
that fails stops the lane once its record, its event and its health fault are written. -/
theorem schedulerAndTiles : Obligations.SchedulerAndTiles := by
  unfold Obligations.SchedulerAndTiles
  refine ⟨fun s l p q e r hp hclk hold hq hn he hr => ?_, fun s l r q hh ha hclk hold => ?_, fun s l v => answers_descSelect s l v,
    fun s l p b sl hclk hold hs hc => answers_frameFillDone_running hclk hold hs hc, fun s l p b sl k r hclk hold hs hc hp hk hr hb => ?_,
    fun s l p wb h => answers_lockstep_tile h, fun s l p wb h => answers_lockstep_failed h, fun s l L step h => answers_lockstep_loop h,
    fun s l p h => answers_lockstep_optimiser h, fun s l e h => answers_lockstep_energy h, fun s l x => answers_eccUncorrectable x⟩
  · exact (answers_dispatchDecision hp hclk hold hq hn he hr).mono fun t ⟨⟨hslot, hlast, hcount⟩, honly⟩ => ⟨hslot, hlast, hcount, honly⟩
  · exact (answers_heldCreate hh ha hclk hold).mono fun t ⟨⟨hheld, hruns, hrid⟩, honly⟩ => ⟨hheld, hruns, hrid, honly⟩
  · exact (answers_frameFillDone_starts hclk hold hs hc hp hk hr hb).mono fun t ⟨⟨htile, hrun⟩, honly⟩ => ⟨htile, hrun, honly⟩
end Sys2Proof.Machine
end

section
/-! SUPPORT. What a frame that enters the switch at P48 leaves of the sluice, the lanes and the wardens (R135 to R154, R246). -/
namespace Sys2Proof.Machine

/-- The registers of the wardens and of the sluice. -/
abbrev SluiceKey (k : Nat) : Prop := (0x300000 ≤ k ∧ k < 0x400000) ∨ (0x2400000 ≤ k ∧ k < 0x2800000)
/-- The registers between the two blocks: those of the switch and of what it reports to among them. -/
abbrev SwitchKey (k : Nat) : Prop := 0x400000 ≤ k ∧ k < 0x2400000
/-- From `s` to `t` the sluice, the lanes, and the registers of the wardens and of the sluice are as they were. -/
structure SwitchSide (s t : State) : Prop where
  slu : t.slu = s.slu
  lane : ∀ l, t.lane l = s.lane l
  rd : ∀ k, SluiceKey k → t.rd k = s.rd k

theorem SwitchSide.refl (s : State) : SwitchSide s s := ⟨rfl, fun _ => rfl, fun _ _ => rfl⟩
theorem SwitchSide.trans {s t u : State} (h : SwitchSide s t) (h' : SwitchSide t u) : SwitchSide s u :=
  ⟨h'.slu.trans h.slu, fun l => (h'.lane l).trans (h.lane l), fun k hk => (h'.rd k hk).trans (h.rd k hk)⟩

/-! ### The ports of a frame's copies -/

theorem State.lookup_port_lt (s : State) (x : Nat) (b : Bytes) (vid : Nat) : ∀ d ∈ s.lookup x b vid, d.1 < 64 := by
  have hset : ∀ m, ∀ p ∈ portsOf m, p < 64 := fun m p hp => by
    have := List.mem_range.1 (List.mem_filter.1 hp).1
    omega
  unfold State.lookup
  extract_lets a mem raw lagOf
  intro d hd
  have hraw : ∀ d ∈ raw, d.1 < 64 := by
    unfold raw
    split
    next e _ =>
      split
      · intro d hd
        obtain ⟨p, hp, rfl⟩ := List.mem_map.1 hd
        exact hset _ p hp
      · intro d hd
        rw [List.mem_singleton.1 hd]
        exact bitsOf_lt (s.rd (R.SWC_FDB2 e)) 5 0
    next =>
      generalize (if isGroupAddr a then 26 else 25) = i
      split
      · intro d hd
        obtain ⟨p, hp, rfl⟩ := List.mem_map.1 hd
        exact hset _ p hp
      · exact fun d hd => absurd hd List.not_mem_nil
  exact hraw d (List.mem_filter.1 hd).1
theorem State.trapPlan_port_lt (s : State) (b : Bytes) : ∀ p ∈ s.trapPlan b, p.x < 64 := by
  unfold State.trapPlan
  split
  · intro p hp; rw [List.mem_singleton.1 hp]; exact show 49 < 64 by decide
  · exact fun p hp => absurd hp List.not_mem_nil

section
variable {s t : State} (h : SwitchSide s t)
include h

/-! ### Operations on registers and on the switch's own state -/

theorem SwitchSide.wr {k : Nat} (v : Nat) (hk : SwitchKey k) : SwitchSide s (t.wr k v) :=
  h.trans ⟨rfl, fun l => by cases l <;> rfl, fun j hj => t.rd_wr_other v (by omega)⟩
theorem SwitchSide.setB {k : Nat} (i : Nat) (b : Bool) (hk : SwitchKey k) : SwitchSide s (t.setB k i b) := h.wr _ hk
theorem SwitchSide.addSat {k : Nat} (n : Nat) (hk : SwitchKey k) : SwitchSide s (t.addSat k n) := h.wr _ hk
theorem SwitchSide.crest {k : Nat} (v : Nat) (hk : SwitchKey k) : SwitchSide s (t.crest k v) := by
  unfold State.crest
  split
  · exact h.wr v hk
  · exact h
theorem SwitchSide.onIf (c : Bool) {f : State → State} (hf : SwitchSide s t → SwitchSide s (f t)) : SwitchSide s (t.onIf c f) := by
  cases c
  · exact h
  · exact hf h
theorem SwitchSide.with_net (x : Net) : SwitchSide s { t with net := x } := h.trans ⟨rfl, fun l => by cases l <;> rfl, fun _ _ => rfl⟩
theorem SwitchSide.emit (x : Out) : SwitchSide s (t.emit x) := h.trans ⟨rfl, fun l => by cases l <;> rfl, fun _ _ => rfl⟩
theorem SwitchSide.with_freeCtr (n : Nat) : SwitchSide s { t with freeCtr := n } := h.trans ⟨rfl, fun l => by cases l <;> rfl, fun _ _ => rfl⟩

/-! ### Cells and copies (R135 to R138) -/

theorem SwitchSide.setFree (n : Nat) : SwitchSide s (t.setFree n) := by
  unfold State.setFree
  exact (((h.onIf _ fun h => h.setB _ _ (by decide)).setB _ _ (by decide)).wr _ (by decide)).crest _ (by decide)
theorem SwitchSide.decRef (fid : Nat) : SwitchSide s (t.decRef fid) := by
  unfold State.decRef
  split
  · exact h
  · split
    · exact (h.with_net _).setFree _
    · exact h.with_net _
theorem SwitchSide.newFrame (b : Bytes) (len src cls vid cells : Nat) (vi : Option (Nat × Nat)) :
    SwitchSide s (t.newFrame b len src cls vid cells vi).2 := (h.with_net _).setFree _
theorem SwitchSide.polderRefuse (vi : Option (Nat × Nat)) : SwitchSide s (t.polderRefuse vi) := by
  cases vi with
  | none => exact h
  | some e =>
    have hp : t.viPolder e.1 < 64 := bitsOf_lt (t.rd (R.VIR_VI e.1)) 9 4
    exact h.addSat 1 (by unfold R.PLD_CELL_DROP; omega)
theorem SwitchSide.chargeIn {x c : Nat} (n : Nat) (hx : x < 64) (hc : c < 8) : SwitchSide s (t.chargeIn x c n) :=
  ((h.with_net _).wr _ (by unfold R.SWC_P_QDEPTH; omega)).crest _ (by unfold R.SWC_P_QCREST; omega)
theorem SwitchSide.endLpi (x : Nat) (fid : Option Nat) : SwitchSide s (t.endLpi x fid) := by
  unfold State.endLpi
  split
  next hx => exact ((h.with_net _).setB _ _ (by obtain ⟨hx, -⟩ := hx; unfold R.PRT_STATUS; omega)).emit _
  next => exact h
theorem SwitchSide.copyAdmit {c : Copy} (hx : c.x < 64) (hc : c.cls < 8) : SwitchSide s (t.copyAdmit c) := by
  have hdrop : ∀ {u : State}, SwitchSide s u → SwitchSide s (u.addSat (R.SWC_P_QDROP c.x c.cls) 1) := fun hu =>
    hu.addSat 1 (by unfold R.SWC_P_QDROP; omega)
  unfold State.copyAdmit
  extract_lets refuse s1
  split
  · exact hdrop (h.polderRefuse _)
  · split
    · exact hdrop (h.polderRefuse _)
    · split
      · exact hdrop h
      · split
        · exact hdrop h
        · exact (((h.with_net _).with_net _).chargeIn _ hx hc).endLpi _ _

/-! ### Learning and mirroring (R143, R154) -/

theorem SwitchSide.fdbLearn (p addr vid : Nat) (vi : Option Nat) : SwitchSide s (t.fdbLearn p addr vid vi) := by
  have hspan : ∀ e ∈ span (fdbBucket addr vid) 8, e < 32768 := fun e he => by
    obtain ⟨i, hi, rfl⟩ := List.mem_map.1 he
    have := List.mem_range.1 hi
    unfold fdbBucket; omega
  unfold State.fdbLearn
  extract_lets dest
  split
  · exact h
  · split
    next e he =>
      have hlt := hspan e (List.mem_of_find?_eq_some he)
      exact (h.onIf _ fun h => h.wr _ (by unfold R.SWC_FDB2; omega)).wr _ (by unfold R.SWC_FDB3; omega)
    next =>
      split
      · exact (h.addSat _ (by decide)).setB _ _ (by decide)
      · next e he =>
        have hlt := hspan e (List.mem_of_find?_eq_some he)
        exact ((((h.wr _ (by unfold R.SWC_FDB0; omega)).wr _ (by unfold R.SWC_FDB1; omega)).wr _ (by unfold R.SWC_FDB2; omega)).wr _
          (by unfold R.SWC_FDB3; omega)).wr _ (by decide)
/-- A write of PF0, which presents no VI and whose pages are not logged. -/
theorem SwitchSide.dmaWrite (a : Nat) (d : Bytes) : SwitchSide s (t.dmaWrite 0 a d).2 := by
  unfold State.dmaWrite
  split
  · exact (((h.wr _ (by decide)).wr _ (by decide)).wr _ (by decide)).setB _ _ (by decide)
  · exact List.foldlRecOn (motive := fun r : State × Bytes => SwitchSide s r.1) _ _ h fun r hr q _ => hr.emit _
theorem SwitchSide.mirTime (x dir : Nat) : SwitchSide s (t.mirTime x dir).2 := by
  unfold State.mirTime
  extract_lets v f
  split
  · exact h.with_freeCtr _
  · split <;> exact h
theorem SwitchSide.mirror1 (x dir : Nat) (b : Bytes) (len : Nat) (bad ct trunc : Bool) (cls vid : Nat) :
    SwitchSide s (t.mirror1 x dir b len bad ct trunc cls vid) := by
  unfold State.mirror1
  extract_lets m n net1 s1 size hd dropped net2 flags
  have h1 : SwitchSide s s1 := h.with_net _
  split
  · exact h
  · split
    · exact h1
    · split
      · exact ((h1.addSat _ (by decide)).onIf _ fun h => h.setB _ _ (by decide)).with_net _
      · split
        next ts s2 hs2 =>
        extract_lets e
        have h2 : SwitchSide s s2 := by
          have := h1.mirTime x dir
          rwa [hs2] at this
        have h3 := h2.dmaWrite (s2.rd64 R.SWC_MIR_BASE_LO + 160 * hd) e
        split
        next s3 hs3 =>
          rw [hs3] at h3
          exact (h3.setB _ _ (by decide)).setB _ _ (by decide)
        next s3 hs3 =>
          rw [hs3] at h3
          exact (h3.with_net _).wr _ (by decide)

/-! ### The copies of a frame (R141, R144, R149) -/

theorem SwitchSide.aggregate (b : Bytes) {cls : Nat} (hc : cls < 8) {ds : List Dest} (hd : ∀ d ∈ ds, d.1 < 64) :
    (∀ d ∈ (t.aggregate b cls ds).1, d.1 < 64) ∧ SwitchSide s (t.aggregate b cls ds).2 := by
  unfold State.aggregate
  refine List.foldlRecOn (motive := fun r : List Dest × State => (∀ d ∈ r.1, d.1 < 64) ∧ SwitchSide s r.2) _ _ ⟨hd, h⟩ fun r hr a _ => ?_
  obtain ⟨hports, hkept⟩ := hr
  have hrest : ∀ d ∈ r.1.filter (fun d => !(r.2.lagMembers a).testBit d.1), d.1 < 64 := fun d hm => hports d (List.mem_filter.1 hm).1
  dsimp only
  split
  · split
    next p hp =>
      refine ⟨fun d hm => ?_, hkept⟩
      rcases List.mem_append.1 hm with hm | hm
      · exact hrest d hm
      · rw [List.mem_singleton.1 hm]
        obtain ⟨i, hi, rfl⟩ := List.mem_map.1 (List.mem_of_find?_eq_some hp)
        have := List.mem_range.1 hi
        dsimp only
        split <;> omega
    next =>
      have hn : r.2.lagNamed a (r.2.flowHash b % 64) < 64 := lt_of_lt_of_le (bitsOf_lt _ _ _) (Nat.pow_le_pow_right (by decide) (show _ ≤ 6 by omega))
      exact ⟨hrest, hkept.addSat 1 (by unfold R.SWC_P_QDROP; omega)⟩
  · exact ⟨hports, hkept⟩
theorem SwitchSide.redSend (src : Nat) (llocal : Bool) (b : Bytes) (vid cls : Nat) {ds : List Dest} (hd : ∀ d ∈ ds, d.1 < 64) :
    (∀ p ∈ (t.redSend src llocal b vid cls ds).1, p.x < 64) ∧ SwitchSide s (t.redSend src llocal b vid cls ds).2 := by
  unfold State.redSend
  refine List.foldlRecOn (motive := fun r : List Plan × State => (∀ p ∈ r.1, p.x < 64) ∧ SwitchSide s r.2) _ _ ⟨fun p hp => ?_, h⟩ fun r hr n hn => ?_
  · obtain ⟨d, hm, rfl⟩ := List.mem_map.1 hp
    exact hd d hm
  · obtain ⟨hports, hkept⟩ := hr
    have hlt := List.mem_range.1 hn
    dsimp only
    split
    · exact ⟨hports, hkept⟩
    · refine ⟨fun p hp => ?_, hkept.wr _ (by unfold R.SWC_RED_SEQ; omega)⟩
      simp only [List.mem_append, List.mem_cons, List.not_mem_nil, or_false] at hp
      rcases hp with hp | rfl | rfl
      · exact hports p (List.mem_filter.1 hp).1
      · exact bitsOf_lt (r.2.rd (R.SWC_RED_CFG n)) 13 8
      · exact bitsOf_lt (r.2.rd (R.SWC_RED_CFG n)) 21 16
/-- The copies of a frame from P48, which no redundancy set receives there. -/
theorem SwitchSide.plans48 (b : Bytes) (vid : Nat) {cls : Nat} (hc : cls < 8) :
    (∀ p ∈ (t.plans 48 b vid cls).1, p.x < 64) ∧ SwitchSide s (t.plans 48 b vid cls).2 := by
  unfold State.plans
  split
  · exact ⟨t.trapPlan_port_lt b, h⟩
  · simp only [Nat.lt_irrefl, if_false, List.map_nil, List.append_nil]
    split
    next heq => cases heq
    next b' n heq _ =>
      cases heq
      split
      · exact ⟨t.trapPlan_port_lt b, h⟩
      · obtain ⟨hports, hkept⟩ := h.aggregate b hc (ds := (t.lookup 48 b vid).filter _) fun d hm => t.lookup_port_lt 48 b vid d (List.mem_filter.1 hm).1
        exact hkept.redSend _ _ _ _ _ hports
    next b' heq _ =>
      cases heq
      obtain ⟨hports, hkept⟩ := h.aggregate b hc (t.lookup_port_lt 48 b vid)
      exact hkept.redSend _ _ _ _ _ hports

/-- A frame of a class that enters at P48 for the destinations that the tables name. -/
theorem SwitchSide.enter48 (b : Bytes) {cls : Nat} (hc : cls < 8) (vi : Option Nat) : SwitchSide s (t.enter 48 b (some cls) none vi).2 := by
  unfold State.enter
  extract_lets b1 len cells tag
  split
  · exact h.polderRefuse _
  · split
    next vid c hvc =>
    have hcls : c = cls := (congrArg Prod.snd hvc).symm
    subst hcls
    extract_lets have_ trunc s1 s2
    have h2 : SwitchSide s s2 := (h.mirror1 _ _ _ _ _ _ _ _ _).onIf _ fun h => (h.addSat _ (by decide)).setB _ _ (by decide)
    split
    next id s3 hs3 =>
    have h3 : SwitchSide s s3 := by
      have := h2.newFrame ((withFcs b1).take (128 * have_)) len 48 c vid have_ tag
      rwa [hs3] at this
    split
    · exact (h3.addSat _ (by decide)).decRef _
    · split
      · exact h3.decRef _
      · split
        next ps s4 hs4 =>
        obtain ⟨hports, h4⟩ := h3.plans48 b1 vid hc
        rw [show s3.plans 48 b1 vid c = (ps, s4) from hs4] at hports h4
        have h5 : SwitchSide s (ps.foldl (fun s p => s.copyAdmit (s.mkCopy id cells c p 48)) s4) :=
          List.foldlRecOn _ _ h4 fun u hu p hp => hu.copyAdmit (hports p hp) hc
        exact (h5.fdbLearn _ _ _ _).decRef _
end

end Sys2Proof.Machine
end

section
/-! SUPPORT. The sluice: what its operations on templates, lines and records change, and what a release of outputs leaves (R245 to R248, R252). -/
namespace Sys2Proof.Machine

theorem State.with_slu_kept (s : State) (x : Sluice) {p : Part} (hp : p ≠ .slu) : p.kept s { s with slu := x } := by
  cases p
  case slu => exact absurd rfl hp
  case evt => exact ⟨rfl, rfl⟩
  all_goals rfl
theorem ChangesOnly.with_slu {L : List Nat} {ps : List Part} {s t : State} (h : ChangesOnly L ps s t) (x : Sluice) (hp : .slu ∈ ps) :
    ChangesOnly L ps s { t with slu := x } :=
  h.trans ⟨fun _ _ => rfl, fun _ hq => t.with_slu_kept x (fun e => hq (e ▸ hp))⟩
theorem State.lane_with_slu (s : State) (x : Sluice) (l : Lane) : ({ s with slu := x } : State).lane l = s.lane l := by cases l <;> rfl
/-- The registers of the sluice follow no other state. -/
theorem settleKey_sluice {k : Nat} (h : 0x2400000 ≤ k) (h' : k < 0x2800000) : settleKey k = false := by
  have hfar : ∀ j ∈ [R.WDN_STATUS, R.WDN_BREACH, R.WDN_EVENTS, R.WDN_MATE_STATUS, R.RTC_STATUS, R.TMU_STATUS, R.VIR_STATUS, R.EVT_STATUS,
      R.SEP_STATUS, R.CFG_STATUS, R.EVT_LOST, R.EVT_EVENTS, R.ICU_SRC_LEVEL 0, R.ICU_SRC_LEVEL 1, R.ICU_SRC_LEVEL 2],
      j < 0x2400000 ∨ 0x2800000 ≤ j := by decide
  rw [settleKey, pendKey, decide_eq_false (show ¬k < 0x413000 by omega), decide_eq_false (show ¬0x8000000 ≤ k by omega), Bool.and_false,
    Bool.false_and, Bool.false_and, Bool.or_false, Bool.or_false, ← Bool.not_eq_true]
  intro hc
  have := hfar k (List.contains_iff_mem.1 hc)
  omega

/-! ### The source and the comparison depend on few parts of the state (R250 to R252) -/

section
variable {s t : State} (h : t.rd R.SLU_STATUS = s.rd R.SLU_STATUS)
include h

theorem State.compared_congr (hc : t.slu.cmpFrom = s.slu.cmpFrom) (k : Nat) : t.compared k = s.compared k := by
  unfold State.compared State.comparing State.bit
  rw [h, hc]
theorem State.srcFor_congr (hs : t.slu.split = s.slu.split) (hf : t.slu.from_ = s.slu.from_) (k : Nat) : t.srcFor k = s.srcFor k := by
  unfold State.srcFor State.silent State.srcLane State.bit
  rw [h, hs, hf]
theorem State.isSource_congr (l : Lane) : t.isSource l = s.isSource l := by
  unfold State.isSource State.fld State.bit
  rw [h]
end

/-! ### The enabled templates of a VI (R245) -/

theorem State.mem_listed_wr {s : State} {f : Nat → Nat} {n i : Nat} (h : i ∈ s.listed f n) (k v : Nat) : i ∈ (s.wr k v).listed f n := by
  unfold State.listed at h ⊢
  show i ∈ List.foldr _ _ ((k, v % 4294967296) :: s.regs)
  rw [List.foldr_cons]
  split
  · exact mem_insNat.2 (.inr h)
  · exact h
theorem State.mem_tplsOf_wr {s : State} {v n : Nat} (h : n ∈ s.tplsOf v) {k : Nat} (w : Nat) (hk : k ≠ R.SLU_TPL0 n) : n ∈ (s.wr k w).tplsOf v := by
  obtain ⟨hl, hp⟩ := List.mem_filter.1 h
  refine List.mem_filter.2 ⟨State.mem_listed_wr hl k w, ?_⟩
  rw [State.bit_of_rd (s.rd_wr_other w hk), State.fld_of_rd (s.rd_wr_other w hk)]
  exact hp
theorem State.lt_of_mem_tplsOf {s : State} {v n : Nat} (h : n ∈ s.tplsOf v) : n < 4096 := State.lt_of_mem_listed (List.mem_filter.1 h).1
/-- Items without a template are discarded and counted. -/
theorem ChangesOnly.noTpl {L : List Nat} {ps : List Part} {s t : State} (h : ChangesOnly L ps s t) (v : Nat) (items : List (Nat × Nat))
    (hn : R.SLU_NO_TPL ∈ L) (he : R.SLU_EVENTS ∈ L) : ChangesOnly L ps s (t.noTpl v items) :=
  h.onIf _ fun h => (h.addSat _ hn (by decide)).setB _ _ he (by decide)
theorem State.noTpl_slu (s : State) (v : Nat) (items : List (Nat × Nat)) : (s.noTpl v items).slu = s.slu := s.onIf_keep _ _ State.slu rfl
theorem State.mem_tplsOf_noTpl {s : State} {v n : Nat} (h : n ∈ s.tplsOf v) (w : Nat) (items : List (Nat × Nat)) : n ∈ (s.noTpl w items).tplsOf v := by
  unfold State.noTpl State.onIf
  dsimp only
  split
  · exact State.mem_tplsOf_wr (State.mem_tplsOf_wr h _ (by unfold R.SLU_TPL0 R.SLU_NO_TPL; omega)) _ (by unfold R.SLU_TPL0 R.SLU_EVENTS; omega)
  · exact h

/-! ### The buffers of the templates (R245) -/

theorem State.tplRt_setTpl (s : State) (n : Nat) (r : TplRt) (j : Nat) : (s.setTpl n r).tplRt j = if j = n then r else s.tplRt j := mapGet_mapPut _ _ _ _ _
theorem State.tplRt_of_slu {s t : State} (h : t.slu.tpl = s.slu.tpl) (n : Nat) : t.tplRt n = s.tplRt n := by unfold State.tplRt; rw [h]
theorem TplRt.last_setProv (r : TplRt) (l : Lane) (q : List (Nat × Bytes)) : (r.setProv l q).last = r.last := by cases l <;> rfl
theorem TplRt.last_setFin (r : TplRt) (l : Lane) (b : Option Bytes) : (r.setFin l b).last = r.last := by cases l <;> rfl

/-- From `s` to `t` buffers of templates alone have changed, not what a template has last released. -/
def BufsOnly (s t : State) : Prop := (∃ tp, t = { s with slu := { s.slu with tpl := tp } }) ∧ ∀ n, (t.tplRt n).last = (s.tplRt n).last

section
variable {s t : State} (h : BufsOnly s t)
include h

theorem BufsOnly.setTpl {n : Nat} {r : TplRt} (hr : r.last = (t.tplRt n).last) : BufsOnly s (t.setTpl n r) := by
  obtain ⟨⟨tp, rfl⟩, hlast⟩ := h
  refine ⟨⟨_, rfl⟩, fun j => ?_⟩
  rw [State.tplRt_setTpl]
  split
  next e => rw [hr, e, hlast]
  next => exact hlast j
theorem BufsOnly.rd (k : Nat) : t.rd k = s.rd k := by
  obtain ⟨⟨tp, rfl⟩, -⟩ := h
  rfl
theorem BufsOnly.lane (l : Lane) : t.lane l = s.lane l := by
  obtain ⟨⟨tp, rfl⟩, -⟩ := h
  cases l <;> rfl
theorem BufsOnly.slu : ∃ tp, t.slu = { s.slu with tpl := tp } := by
  obtain ⟨⟨tp, rfl⟩, -⟩ := h
  exact ⟨tp, rfl⟩
theorem BufsOnly.tplsOf (v : Nat) : t.tplsOf v = s.tplsOf v := by
  obtain ⟨⟨tp, rfl⟩, -⟩ := h
  rfl
theorem BufsOnly.changes {L : List Nat} {ps : List Part} {r : State} (hr : ChangesOnly L ps r s) (hp : .slu ∈ ps) : ChangesOnly L ps r t := by
  obtain ⟨⟨tp, rfl⟩, -⟩ := h
  exact hr.with_slu _ hp
end

theorem BufsOnly.refl (s : State) : BufsOnly s s := ⟨⟨s.slu.tpl, rfl⟩, fun _ => rfl⟩
theorem State.provBufs_bufsOnly (s : State) (l : Lane) (v k : Nat) (items : List (Nat × Nat)) : BufsOnly s (s.provBufs l v k items) :=
  List.foldlRecOn _ _ (BufsOnly.refl s) fun _ h _ _ => h.setTpl (TplRt.last_setProv _ l _)
theorem State.finBufs_bufsOnly (s : State) (l : Lane) (v : Nat) (items : List (Nat × Nat)) : BufsOnly s (s.finBufs l v items) :=
  List.foldlRecOn _ _ (BufsOnly.refl s) fun _ h _ _ => h.setTpl (TplRt.last_setFin _ l _)
theorem State.provEnd_bufsOnly (s : State) (l : Lane) (v k : Nat) (fin : Bool) : BufsOnly s (s.provEnd l v k fin) := by
  refine List.foldlRecOn _ _ (BufsOnly.refl s) fun t h n _ => ?_
  dsimp only
  split
  · refine h.setTpl ?_
    split
    · exact (TplRt.last_setFin _ l _).trans (TplRt.last_setProv _ l _)
    · exact TplRt.last_setProv _ l _
  · exact h

/-! ### The release of outputs (R246 to R248) -/

/-- The sluice without what a release of outputs writes. -/
def Sluice.rest (x : Sluice) : Sluice := { x with tpl := [], dout := [], minOn := [] }
theorem Sluice.recs_of_rest {x y : Sluice} (h : x.rest = y.rest) : x.recs = y.recs := by simp only [Sluice.rest, Sluice.mk.injEq] at h; tauto
theorem Sluice.provs_of_rest {x y : Sluice} (h : x.rest = y.rest) : x.provs = y.provs := by simp only [Sluice.rest, Sluice.mk.injEq] at h; tauto
theorem Sluice.cmpFrom_of_rest {x y : Sluice} (h : x.rest = y.rest) : x.cmpFrom = y.cmpFrom := by simp only [Sluice.rest, Sluice.mk.injEq] at h; tauto
/-- The registers that the release of outputs writes: events and counts, the lines, the status of the templates `T`. -/
def OutKey (T : Nat → Prop) (k : Nat) : Prop :=
  k ∈ [R.SLU_EVENTS, R.SLU_LATE, R.SLU_STALE, R.SLU_DOUT_STATE] ∨ ∃ n, T n ∧ R.SLU_TPL_STAT0 n ≤ k ∧ k ≤ R.SLU_TPL_STAT3 n
theorem not_outKey {k : Nat} (h : k ∉ [R.SLU_EVENTS, R.SLU_LATE, R.SLU_STALE, R.SLU_DOUT_STATE]) (hk : k < 0x2430000 ∨ 0x2440000 ≤ k) :
    ¬OutKey (· < 4096) k := by
  rintro (hm | ⟨n, hn, hlo, hhi⟩)
  · exact h hm
  · unfold R.SLU_TPL_STAT0 at hlo
    unfold R.SLU_TPL_STAT3 at hhi
    omega
/-- From `s` to `t` outputs have been released, of templates `T`: the lanes, the sluice's other state and the other registers of the wardens
and of the sluice are as they were, and no event is cleared. -/
structure Releases (T : Nat → Prop) (s t : State) : Prop where
  rest : t.slu.rest = s.slu.rest
  lane : ∀ l, t.lane l = s.lane l
  rd : ∀ k, SluiceKey k → ¬OutKey T k → t.rd k = s.rd k
  event : ∀ i < 32, s.bit R.SLU_EVENTS i = true → t.bit R.SLU_EVENTS i = true

theorem Releases.refl (T : Nat → Prop) (s : State) : Releases T s s := ⟨rfl, fun _ => rfl, fun _ _ _ => rfl, fun _ _ h => h⟩
section
variable {T : Nat → Prop} {s t u : State} (h : Releases T s t)
include h

theorem Releases.trans (h' : Releases T t u) : Releases T s u :=
  ⟨h'.rest.trans h.rest, fun l => (h'.lane l).trans (h.lane l), fun k hk ho => (h'.rd k hk ho).trans (h.rd k hk ho),
    fun i hi he => h'.event i hi (h.event i hi he)⟩
theorem Releases.wr {k : Nat} (v : Nat) (hk : OutKey T k) (he : k ≠ R.SLU_EVENTS) : Releases T s (t.wr k v) :=
  h.trans ⟨rfl, fun l => by cases l <;> rfl, fun j _ ho => t.rd_wr_other v (fun e => ho (e ▸ hk)),
    fun i _ hb => (t.bit_wr_other v i he).trans hb⟩
theorem Releases.setB {k : Nat} (i : Nat) (b : Bool) (hk : OutKey T k) (he : k ≠ R.SLU_EVENTS) : Releases T s (t.setB k i b) := h.wr _ hk he
theorem Releases.setEvent (i : Nat) : Releases T s (t.setB R.SLU_EVENTS i true) :=
  h.trans ⟨rfl, fun l => by cases l <;> rfl, fun j _ ho => t.rd_wr_other _ (fun e => ho (.inl (e ▸ List.mem_cons_self))),
    fun j hj hb => t.bit_setB_set _ _ _ hj hb⟩
theorem Releases.addSat {k : Nat} (n : Nat) (hk : OutKey T k) (he : k ≠ R.SLU_EVENTS) : Releases T s (t.addSat k n) := h.wr _ hk he
theorem Releases.onIf (c : Bool) {f : State → State} (hf : Releases T s t → Releases T s (f t)) : Releases T s (t.onIf c f) := by
  cases c
  · exact h
  · exact hf h
theorem Releases.with_outputs (tp : List (Nat × TplRt)) (d : List DoutReq) (mo : List Nat) :
    Releases T s { t with slu := { t.slu with tpl := tp, dout := d, minOn := mo } } :=
  h.trans ⟨rfl, fun l => by cases l <;> rfl, fun _ _ _ => rfl, fun _ _ hb => hb⟩
theorem Releases.with_pwr (x : Power) : Releases T s { t with pwr := x } :=
  h.trans ⟨rfl, fun l => by cases l <;> rfl, fun _ _ _ => rfl, fun _ _ hb => hb⟩
theorem Releases.switchSide (h' : SwitchSide t u) : Releases T s u :=
  h.trans ⟨congrArg Sluice.rest h'.slu, h'.lane, fun k hk _ => h'.rd k hk, fun i _ hb => (State.bit_of_rd (h'.rd _ (by decide)) i).trans hb⟩
/-- With the records of both taken as the same. -/
theorem Releases.with_recs (rs : List SluRec) : Releases T { s with slu := { s.slu with recs := rs } } { t with slu := { t.slu with recs := rs } } :=
  ⟨congrArg (fun x : Sluice => { x with recs := rs }) h.rest, fun l => by have := h.lane l; cases l <;> exact this, h.rd, h.event⟩
end

theorem State.tplSend_side (s : State) (n : Nat) (b : Bytes) : SwitchSide s (s.tplSend n b) :=
  (SwitchSide.refl s).enter48 b (bitsOf_lt (s.rd (R.SLU_TPL0 n)) 22 20) _
theorem SwitchSide.tplSend {s t : State} (h : SwitchSide s t) (n : Nat) (b : Bytes) : SwitchSide s (t.tplSend n b) := h.trans (t.tplSend_side n b)
/-- The release of a template's frame: its status is written, its own state says the index, and a frame enters the switch or none. -/
theorem State.tplRelease_eq (s : State) (n k : Nat) (b : Bytes) : ∃ u r,
    ChangesOnly [R.SLU_TPL_STAT0 n, R.SLU_TPL_STAT1 n, R.SLU_TPL_STAT2 n, R.SLU_TPL_STAT3 n] [] s u ∧ u.rd (R.SLU_TPL_STAT0 n) = k % 4294967296 ∧
      r.last = some k ∧ SwitchSide (u.setTpl n r) (s.tplRelease n k b) := by
  have hw : ∀ j ∈ [R.SLU_TPL_STAT0 n, R.SLU_TPL_STAT1 n, R.SLU_TPL_STAT2 n, R.SLU_TPL_STAT3 n], j ≠ R.WDN_STATUS := by
    simp only [List.forall_mem_cons, List.not_mem_nil, false_implies, implies_true, and_true]
    unfold R.SLU_TPL_STAT0 R.SLU_TPL_STAT1 R.SLU_TPL_STAT2 R.SLU_TPL_STAT3 R.WDN_STATUS
    omega
  simp only [List.forall_mem_cons, List.not_mem_nil, false_implies, implies_true, and_true] at hw
  obtain ⟨h0, h1, h2, h3⟩ := hw
  have h13 : R.SLU_TPL_STAT1 n ≠ R.SLU_TPL_STAT0 n ∧ R.SLU_TPL_STAT2 n ≠ R.SLU_TPL_STAT0 n ∧ R.SLU_TPL_STAT3 n ≠ R.SLU_TPL_STAT0 n := by
    unfold R.SLU_TPL_STAT0 R.SLU_TPL_STAT1 R.SLU_TPL_STAT2 R.SLU_TPL_STAT3
    omega
  obtain ⟨h10, h20, h30⟩ := h13
  unfold State.tplRelease
  extract_lets r o cnt s1 same st gap f s2
  have hc1 : ChangesOnly [R.SLU_TPL_STAT0 n, R.SLU_TPL_STAT1 n, R.SLU_TPL_STAT2 n, R.SLU_TPL_STAT3 n] [] s s1 :=
    ((ChangesOnly.refl _ _ s).wr _ (by simp) h0).setB _ _ (by simp) h3
  have hr1 : s1.rd (R.SLU_TPL_STAT0 n) = k % 4294967296 := (State.rd_wr_other _ _ h30).trans (s.rd_wr_same _ _)
  split
  · split
    · exact ⟨s1, _, hc1, hr1, rfl, .refl _⟩
    · exact ⟨s2, _, (hc1.wr _ (by simp) h1).wr _ (by simp) h2, (State.rd_wr_other _ _ h20).trans ((State.rd_wr_other _ _ h10).trans hr1), rfl,
        (SwitchSide.refl _).tplSend n f⟩
  · exact ⟨s1, _, hc1, hr1, rfl, (SwitchSide.refl _).tplSend n b⟩
theorem State.tplRelease_releases {T : Nat → Prop} (s : State) {n : Nat} (hn : T n) (k : Nat) (b : Bytes) : Releases T s (s.tplRelease n k b) := by
  obtain ⟨u, r, hu, -, -, hside⟩ := s.tplRelease_eq n k b
  have hrel : Releases T s u := by
    have hslu : u.slu = s.slu := hu.2 .slu List.not_mem_nil
    refine ⟨congrArg Sluice.rest hslu, hu.lane, fun j hj ho => hu.rd_other fun hm => ho (.inr ⟨n, hn, ?_⟩), fun i _ hb => (hu.bit ?_ i).trans hb⟩
    · simp only [List.mem_cons, List.not_mem_nil, or_false] at hm
      unfold R.SLU_TPL_STAT0 R.SLU_TPL_STAT1 R.SLU_TPL_STAT2 R.SLU_TPL_STAT3 at *
      omega
    · simp only [List.mem_cons, List.not_mem_nil, or_false, not_or]
      unfold R.SLU_TPL_STAT0 R.SLU_TPL_STAT1 R.SLU_TPL_STAT2 R.SLU_TPL_STAT3 R.SLU_EVENTS
      omega
  exact (hrel.with_outputs _ _ _).switchSide hside
theorem State.tplRelease_slu (s : State) (n k : Nat) (b : Bytes) :
    ∃ r, r.last = some k ∧ (s.tplRelease n k b).slu = { s.slu with tpl := mapPut s.slu.tpl n r } := by
  obtain ⟨u, r, hu, -, hr, hside⟩ := s.tplRelease_eq n k b
  have hslu : u.slu = s.slu := hu.2 .slu List.not_mem_nil
  exact ⟨r, hr, hside.slu.trans (by unfold State.setTpl; rw [hslu])⟩
/-- The index that a template has released, as its own state and its status say it. -/
def State.ReleasedAt (s : State) (k n : Nat) : Prop := (s.tplRt n).last = some k ∧ s.rd (R.SLU_TPL_STAT0 n) = k % 4294967296
theorem State.releasedAt_tplRelease (s : State) {n : Nat} (hn : n < 4096) (k : Nat) (b : Bytes) : (s.tplRelease n k b).ReleasedAt k n := by
  obtain ⟨u, r, -, hrd, hr, hside⟩ := s.tplRelease_eq n k b
  refine ⟨?_, (hside.rd _ (by unfold R.SLU_TPL_STAT0; omega)).trans hrd⟩
  rw [State.tplRt_of_slu (congrArg Sluice.tpl hside.slu), State.tplRt_setTpl, if_pos rfl, hr]
theorem State.ReleasedAt.tplRelease {s : State} {k j : Nat} (h : s.ReleasedAt k j) (hj : j < 4096) (n : Nat) (b : Bytes) :
    (s.tplRelease n k b).ReleasedAt k j := by
  by_cases e : j = n
  · rw [← e]; exact s.releasedAt_tplRelease hj k b
  · obtain ⟨r, -, hslu⟩ := s.tplRelease_slu n k b
    obtain ⟨hlast, hstat⟩ := h
    refine ⟨?_, ((s.tplRelease_releases (T := (· = n)) rfl k b).rd _ (by unfold R.SLU_TPL_STAT0; omega) ?_).trans hstat⟩
    · rw [State.tplRt, hslu]
      exact (congrArg TplRt.last ((mapGet_mapPut _ _ _ _ _).trans (if_neg e))).trans hlast
    · rintro (hm | ⟨i, rfl, hlo, hhi⟩)
      · simp only [List.mem_cons, List.not_mem_nil, or_false] at hm
        unfold R.SLU_TPL_STAT0 R.SLU_EVENTS R.SLU_LATE R.SLU_STALE R.SLU_DOUT_STATE at hm
        omega
      · unfold R.SLU_TPL_STAT0 at hlo
        unfold R.SLU_TPL_STAT0 R.SLU_TPL_STAT3 at hhi
        omega
theorem State.doutRefresh_eq (s : State) : ∃ mo v x, s.doutRefresh =
    { ({ s with slu := { s.slu with minOn := mo } } : State).wr R.SLU_DOUT_STATE v with pwr := x } := ⟨_, _, _, rfl⟩
theorem State.doutRelease_releases (T : Nat → Prop) (s : State) (v k line : Nat) (val : Bool) : Releases T s (s.doutRelease v k line val) := by
  unfold State.doutRelease
  extract_lets q
  obtain ⟨mo, w, x, heq⟩ := ({ s with slu := { s.slu with dout := q :: s.slu.dout.filter (fun e => !(e.line == line && e.vi == v)) } } : State).doutRefresh_eq
  rw [heq]
  exact (((Releases.refl T s).with_outputs _ _ mo).wr w (.inl (by decide)) (by decide)).with_pwr x
theorem State.doutRelease_slu (s : State) (v k line : Nat) (val : Bool) : ∃ mo, (s.doutRelease v k line val).slu = { s.slu with
    dout := { line := line, vi := v, val := val, idx := k, off := false } :: s.slu.dout.filter (fun e => !(e.line == line && e.vi == v)), minOn := mo } :=
  ⟨_, rfl⟩
theorem State.doutLast_doutRelease (s : State) (v k line : Nat) (val : Bool) : (s.doutRelease v k line val).doutLast v line = some k := by
  obtain ⟨mo, hslu⟩ := s.doutRelease_slu v k line val
  rw [State.doutLast, hslu, List.find?_cons_of_pos (by simp)]
  rfl
theorem State.doutLast_doutRelease_keeps {s : State} {v k j : Nat} (h : s.doutLast v j = some k) (line : Nat) (val : Bool) :
    (s.doutRelease v k line val).doutLast v j = some k := by
  by_cases e : line = j
  · rw [e]; exact s.doutLast_doutRelease v k j val
  · obtain ⟨mo, hslu⟩ := s.doutRelease_slu v k line val
    rw [State.doutLast, hslu, List.find?_cons_of_neg (by simp [e]), List.find?_filter]
    refine Eq.trans (congrArg (Option.map DoutReq.idx) (List.find?_congr fun d _ => ?_)) h
    by_cases hd : d.line = j
    · simp [hd, Ne.symm e, beq_eq_decide]
    · simp [hd]

/-! ### The release of a record (R246) -/

/-- The frames of a record that pass test 4. -/
def State.dueBufs (s : State) (r : SluRec) : List (Nat × Bytes) := r.bufs.filter (fun b => laterThan r.idx (s.tplRt b.1).last)
/-- The lines that a record asks for, with their values. -/
def SluRec.douts (r : SluRec) : List (Nat × Bool) := (r.items.filter (fun p => bitsOf p.1 18 16 == 4)).map (fun p => (bitsOf p.1 15 4 % 16, p.2 != 0))
def State.dueDouts (s : State) (r : SluRec) : List (Nat × Bool) := r.douts.filter (fun d => laterThan r.idx (s.doutLast r.vi d.1))

/-- Stale and late outputs are counted; then the frames are released, then the lines. -/
theorem State.releaseRec_eq (s : State) (r : SluRec) : ∃ u, Releases (fun _ => False) s u ∧ u.slu = s.slu ∧
    s.releaseRec r = (s.dueDouts r).foldl (fun s d => s.doutRelease r.vi r.idx d.1 d.2)
      ((s.dueBufs r).foldl (fun s b => s.tplRelease b.1 r.idx b.2) u) := by
  refine ⟨_, ?_, ?_, rfl⟩
  · exact ((Releases.refl _ s).onIf _ fun h => (h.addSat _ (.inl (by decide)) (by decide)).setEvent _).onIf _ fun h =>
      (h.addSat _ (.inl (by decide)) (by decide)).setEvent _
  · exact (State.onIf_keep _ _ _ State.slu rfl).trans (State.onIf_keep _ _ _ State.slu rfl)
theorem Releases.mono {T T' : Nat → Prop} {s t : State} (h : Releases T s t) (hT : ∀ n, T n → T' n) : Releases T' s t :=
  ⟨h.rest, h.lane, fun k hk ho => h.rd k hk fun hm => ho (hm.imp_right fun ⟨n, hn, hr⟩ => ⟨n, hT n hn, hr⟩), h.event⟩
theorem State.releaseRec_releases {T : Nat → Prop} (s : State) {r : SluRec} (hT : ∀ b ∈ r.bufs, T b.1) : Releases T s (s.releaseRec r) := by
  obtain ⟨u, hu, -, heq⟩ := s.releaseRec_eq r
  rw [heq]
  refine List.foldlRecOn _ _ (List.foldlRecOn _ _ (hu.mono fun _ h => h.elim) fun t h b hb => ?_) fun t h d _ => h.trans (t.doutRelease_releases T _ _ _ _)
  exact h.trans (t.tplRelease_releases (hT b (List.mem_filter.1 hb).1) _ _)
theorem State.releaseRec_frames {s : State} {r : SluRec} {b : Nat × Bytes} (hb : b ∈ r.bufs) (hn : b.1 < 4096)
    (hlater : laterThan r.idx (s.tplRt b.1).last = true) : (s.releaseRec r).ReleasedAt r.idx b.1 := by
  obtain ⟨u, -, -, heq⟩ := s.releaseRec_eq r
  rw [heq]
  have hframe : State.ReleasedAt ((s.dueBufs r).foldl (fun s b => s.tplRelease b.1 r.idx b.2) u) r.idx b.1 :=
    foldl_establishes (P := fun (b : Nat × Bytes) (t : State) => b.1 < 4096 → State.ReleasedAt t r.idx b.1)
      (fun t b hb => State.releasedAt_tplRelease t hb r.idx b.2)
      (fun t a c hc hlt => State.ReleasedAt.tplRelease (hc hlt) hlt a.1 a.2) (List.mem_filter.2 ⟨hb, hlater⟩) u hn
  refine List.foldlRecOn (motive := fun t : State => t.ReleasedAt r.idx b.1) _ _ hframe fun t ⟨hlast, hstat⟩ d _ => ?_
  obtain ⟨mo, hslu⟩ := t.doutRelease_slu r.vi r.idx d.1 d.2
  refine ⟨(congrArg TplRt.last (State.tplRt_of_slu (by rw [hslu]) _)).trans hlast,
    ((t.doutRelease_releases (fun _ => False) _ _ _ _).rd _ (by unfold R.SLU_TPL_STAT0; omega) ?_).trans hstat⟩
  rintro (hm | ⟨i, hi, -⟩)
  · simp only [List.mem_cons, List.not_mem_nil, or_false] at hm
    unfold R.SLU_TPL_STAT0 R.SLU_EVENTS R.SLU_LATE R.SLU_STALE R.SLU_DOUT_STATE at hm
    omega
  · exact hi
theorem State.releaseRec_lines {s : State} {r : SluRec} {p : Nat × Nat} (hp : p ∈ r.items) (h4 : bitsOf p.1 18 16 = 4)
    (hlater : laterThan r.idx (s.doutLast r.vi (bitsOf p.1 15 4 % 16)) = true) :
    (s.releaseRec r).doutLast r.vi (bitsOf p.1 15 4 % 16) = some r.idx := by
  obtain ⟨u, -, -, heq⟩ := s.releaseRec_eq r
  rw [heq]
  have hmem : (bitsOf p.1 15 4 % 16, p.2 != 0) ∈ s.dueDouts r :=
    List.mem_filter.2 ⟨List.mem_map.2 ⟨p, List.mem_filter.2 ⟨hp, beq_iff_eq.2 h4⟩, rfl⟩, hlater⟩
  exact foldl_establishes (P := fun (d : Nat × Bool) (t : State) => t.doutLast r.vi d.1 = some r.idx)
    (fun t d => State.doutLast_doutRelease t r.vi r.idx d.1 d.2) (fun t a c hc => State.doutLast_doutRelease_keeps hc a.1 a.2) hmem _
/-- The release of held records changes their marks beside its outputs. -/
theorem State.releaseHeld_releases (s : State) (l : Lane) :
    Releases (fun _ => True) s { s.releaseHeld l with slu := { (s.releaseHeld l).slu with recs := s.slu.recs } } := by
  unfold State.releaseHeld
  extract_lets rs
  refine List.foldlRecOn (motive := fun t : State => Releases (fun _ => True) s { t with slu := { t.slu with recs := s.slu.recs } })
    _ _ (.refl _ s) fun t h r _ => ?_
  exact h.trans (((Releases.refl (fun _ => True) t).onIf (!r.none) fun h => h.trans (t.releaseRec_releases fun _ _ => trivial)).with_recs s.slu.recs)

/-! ### A final record arrives (R246, R252) -/

/-- While one lane's record for an index is missing and the lanes are compared, the other's waits. -/
theorem State.compareRecs_waits {s : State} {l : Lane} {v k : Nat} (hc : s.compared k = true) (h : ∀ r ∈ s.slu.recs, r.vi = v → r.idx = k → r.lane ≠ l) :
    s.compareRecs v k = s := by
  have hnone : s.slu.recs.find? (fun r => r.lane == l && r.vi == v && r.idx == k) = none := List.find?_eq_none.2 fun r hr hm => by
    simp only [Bool.and_eq_true, beq_iff_eq] at hm
    obtain ⟨⟨hl, hv⟩, hk⟩ := hm
    exact h r hr hv hk hl
  unfold State.compareRecs
  dsimp only
  cases l <;> rw [hnone]
  · exact if_pos hc
  · cases s.slu.recs.find? (fun r => r.lane == Lane.a && r.vi == v && r.idx == k) <;> exact if_pos hc
/-- A record whose counterpart has not come: released where its lane is the source, and held. -/
theorem State.recArrive_waits {T : Nat → Prop} {s : State} {r : SluRec} (hc : s.compared r.idx = true)
    (h : ∀ q ∈ s.slu.recs, q.vi = r.vi → q.idx = r.idx → q.lane = r.lane) (hT : ∀ b ∈ r.bufs, T b.1) :
    ∃ u, u = s.onIf (s.srcFor r.idx == some r.lane && !r.none) (fun s => s.releaseRec r) ∧ Releases T s u ∧
      s.recArrive r = { u with slu := { u.slu with recs := s.slu.recs ++ [{ r with done := decide (s.srcFor r.idx = some r.lane) }] } } := by
  obtain ⟨u, hu⟩ : ∃ u, u = s.onIf (s.srcFor r.idx == some r.lane && !r.none) (fun s => s.releaseRec r) := ⟨_, rfl⟩
  have hrel : Releases T s u := hu ▸ (Releases.refl T s).onIf _ fun h => h.trans (s.releaseRec_releases hT)
  have hrecs : u.slu.recs = s.slu.recs := Sluice.recs_of_rest hrel.rest
  have hdone : (s.srcFor r.idx == some r.lane) = decide (s.srcFor r.idx = some r.lane) := by rw [Bool.eq_iff_iff]; simp
  have hcmp : s.recArrive r = ({ u with slu := { u.slu with recs := u.slu.recs ++ [{ r with done := s.srcFor r.idx == some r.lane }] } } : State).compareRecs
      r.vi r.idx := by rw [hu]; rfl
  refine ⟨u, hu, hrel, ?_⟩
  rw [hcmp, hrecs, hdone]
  refine State.compareRecs_waits (l := otherLane r.lane) ?_ fun q hq hv hk => ?_
  · refine Eq.trans (State.compared_congr (hrel.rd _ (by decide) ?_) (Sluice.cmpFrom_of_rest hrel.rest) _) hc
    rintro (hm | ⟨n, -, hlo, -⟩)
    · exact absurd hm (by decide)
    · unfold R.SLU_TPL_STAT0 R.SLU_STATUS at hlo; omega
  · have hql : q.lane = r.lane := by
      rcases List.mem_append.1 hq with hq | hq
      · exact h q hq hv hk
      · rw [List.mem_singleton.1 hq]
    rw [hql]
    cases r.lane <;> decide

end Sys2Proof.Machine
end

section
/-! SUPPORT. Messages on the release links that are in order and intact (R236, R239, R243 to R247, R252, R253, R349). -/
namespace Sys2Proof.Machine

/-! ### The front of a release link (R243, R244) -/

/-- What the sluice holds of its links. -/
def Sluice.links (x : Sluice) := (x.seqA, x.seqB, x.stopA, x.stopB)
theorem Sluice.links_of_rest {x y : Sluice} (h : x.rest = y.rest) : x.links = y.links := by
  simp only [Sluice.rest, Sluice.mk.injEq] at h; unfold Sluice.links; simp only [h]
theorem State.sluSeq_of_links {s t : State} (h : t.slu.links = s.slu.links) (l : Lane) : t.sluSeq l = s.sluSeq l := by
  simp only [Sluice.links, Prod.mk.injEq] at h
  obtain ⟨ha, hb, -, -⟩ := h
  cases l
  · exact ha
  · exact hb
theorem State.sluStopped_of_links {s t : State} (h : t.slu.links = s.slu.links) (l : Lane) : t.sluStopped l = s.sluStopped l := by
  simp only [Sluice.links, Prod.mk.injEq] at h
  obtain ⟨-, -, ha, hb⟩ := h
  cases l
  · exact ha
  · exact hb

/-- A lane's release link with the messages `q`. -/
def State.relLeft (s : State) (l : Lane) (q : List RMsg) : State := s.modLane l (fun x => { x with rel := q })
/-- The message has left the link, and the next one's number is awaited. -/
def State.sluNext (s : State) (l : Lane) (m : RMsg) (q : List RMsg) : State := (s.relLeft l q).setSluSeq l (some (idxAdd m.seq 1))

theorem State.role_of_rd {s t : State} (h : t.rd R.WDN_STATUS = s.rd R.WDN_STATUS) (l : Lane) : t.role l = s.role l := by
  cases l
  · exact State.fld_of_rd h _ _
  · exact State.fld_of_rd h _ _
theorem State.relLeft_slu (s : State) (l : Lane) (q : List RMsg) : (s.relLeft l q).slu = s.slu := by cases l <;> rfl
section
variable {s : State} {l : Lane} {typ : Nat} {m : RMsg} {q : List RMsg} (h : SluFront s l typ m q)
include h

/-- A message in order and intact is used. -/
theorem State.sluTake_front (f : RMsg → State → State) : s.sluTake l typ true f = f m (s.sluNext l m q) := by
  obtain ⟨hrel, htyp, hstop, hrole, hseq, hgen⟩ := h
  have hslu := s.relLeft_slu l q
  have hstop' : (s.relLeft l q).sluStopped l = false := (State.sluStopped_of_links (congrArg Sluice.links hslu) l).trans hstop
  have hrole' : (s.relLeft l q).role l = s.role l := State.role_of_rd (s.rd_modLane _ _ _) l
  have hseq' : (s.relLeft l q).sluSeq l = s.sluSeq l := State.sluSeq_of_links (congrArg Sluice.links hslu) l
  have hvi : (s.sluNext l m q).viGen m.vi = s.viGen m.vi := by unfold State.sluNext State.relLeft; cases l <;> rfl
  unfold State.sluTake
  rw [hrel]
  dsimp only
  rw [if_neg (by simp [htyp]), show s.modLane l (fun x => { x with rel := q }) = s.relLeft l q from rfl, hstop', hrole', if_neg (by simp; omega), if_neg]
  · rw [show (s.relLeft l q).setSluSeq l (some (idxAdd m.seq 1)) = s.sluNext l m q from rfl, hvi, if_neg]
    simp only [Bool.and_eq_true, decide_eq_true_eq, bne_iff_ne, ne_eq, not_and, not_not]
    exact hgen
  · rw [hseq']
    rcases hseq with hseq | hseq <;> simp [hseq]
/-- A message whose CRC is bad is an error of its link. -/
theorem State.sluTake_bad (f : RMsg → State → State) : s.sluTake l typ false f = (s.relLeft l q).linkErr l := by
  obtain ⟨hrel, htyp, hstop, hrole, -, -⟩ := h
  have hstop' : (s.relLeft l q).sluStopped l = false := (State.sluStopped_of_links (congrArg Sluice.links (s.relLeft_slu l q)) l).trans hstop
  have hrole' : (s.relLeft l q).role l = s.role l := State.role_of_rd (s.rd_modLane _ _ _) l
  unfold State.sluTake
  rw [hrel]
  dsimp only
  rw [if_neg (by simp [htyp]), show s.modLane l (fun x => { x with rel := q }) = s.relLeft l q from rfl, hstop', hrole', if_neg (by simp; omega), if_pos (by simp)]
end

section
variable (s : State) (l : Lane) (m : RMsg) (q : List RMsg)

theorem State.sluNext_slu : ∃ a b, (s.sluNext l m q).slu = { s.slu with seqA := a, seqB := b } := by
  cases l
  · exact ⟨_, s.slu.seqB, rfl⟩
  · exact ⟨s.slu.seqA, _, rfl⟩
theorem State.sluNext_rd (k : Nat) : (s.sluNext l m q).rd k = s.rd k := by cases l <;> rfl
theorem State.sluNext_tplsOf (v : Nat) : (s.sluNext l m q).tplsOf v = s.tplsOf v := by cases l <;> rfl
theorem State.sluNext_rel : ((s.sluNext l m q).lane l).rel = q := by cases l <;> rfl
theorem State.sluNext_seq : (s.sluNext l m q).sluSeq l = some (idxAdd m.seq 1) := by cases l <;> rfl
theorem State.sluNext_stopped : (s.sluNext l m q).sluStopped l = s.sluStopped l := by cases l <;> rfl
theorem State.sluNext_changes (L : List Nat) {ps : List Part} (hl : lanePart l ∈ ps) (hs : .slu ∈ ps) : ChangesOnly L ps s (s.sluNext l m q) := by
  have h : ChangesOnly L ps s (s.relLeft l q) := (ChangesOnly.refl L ps s).modLane _ hl
  cases l
  · exact h.with_slu _ hs
  · exact h.with_slu _ hs
end

section
variable {s : State} {l : Lane} {typ : Nat} {m : RMsg} {q : List RMsg}

/-- At the end of a command whose operations leave what the sluice holds of its links, the message has been taken. -/
theorem sluTaken_ended {w : State} (hrel : (w.lane l).rel = q) (hlinks : w.slu.links = (s.sluNext l m q).slu.links) : SluTaken s (s.ended w) l m q := by
  have hlinks' : (s.ended w).slu.links = (s.sluNext l m q).slu.links := by rw [s.ended_slu, hlinks]
  exact ⟨by rw [s.ended_lane]; exact hrel, (State.sluSeq_of_links hlinks' l).trans (s.sluNext_seq l m q),
    (State.sluStopped_of_links hlinks' l).trans (s.sluNext_stopped l m q)⟩
end

/-! ### The statistics of speculation (R253) -/

theorem ChangesOnly.specCount {L : List Nat} {ps : List Part} {s t : State} (h : ChangesOnly L ps s t) (l : Lane) {k tot : Nat} (hk : k ∈ L) (ht : tot ∈ L)
    (hw : k ≠ R.WDN_STATUS) (hw' : tot ≠ R.WDN_STATUS) : ChangesOnly L ps s (t.specCount l k tot) :=
  h.onIf _ fun h => (h.addWrap _ hk hw).addWrap _ ht hw'
section
variable (s : State) (l : Lane) {k tot : Nat}

theorem State.specCount_slu : (s.specCount l k tot).slu = s.slu := s.onIf_keep _ _ State.slu rfl
theorem State.specCount_lane (x : Lane) : (s.specCount l k tot).lane x = s.lane x := s.onIf_keep _ _ (fun t => t.lane x) (by cases x <;> rfl)
theorem State.rd_specCount (hne : k ≠ tot) (h : s.isSource l = true) :
    (s.specCount l k tot).rd k = (s.rd k + 1) % 4294967296 ∧ (s.specCount l k tot).rd tot = (s.rd tot + 1) % 4294967296 := by
  unfold State.specCount
  rw [h, State.onIf_true]
  constructor
  · rw [State.rd_addWrap, if_neg hne.symm, State.rd_addWrap, if_pos rfl]
  · rw [State.rd_addWrap, if_pos rfl, State.rd_addWrap, if_neg hne]
end

/-- A VI's statistics are registers of the sluice apart from its others. -/
theorem viSpec_bounds {v : Nat} (h : v < 4096) : ∀ k ∈ [R.SLU_VI_SPEC0 v, R.SLU_VI_SPEC1 v, R.SLU_VI_SPEC2 v, R.SLU_VI_SPEC3 v,
    R.SLU_VI_SPEC4 v, R.SLU_VI_SPEC6 v, R.SLU_VI_SPEC7 v], 0x2440000 ≤ k ∧ k < 0x2460000 := by
  simp only [List.forall_mem_cons, List.not_mem_nil, false_implies, implies_true, and_true]
  unfold R.SLU_VI_SPEC0 R.SLU_VI_SPEC1 R.SLU_VI_SPEC2 R.SLU_VI_SPEC3 R.SLU_VI_SPEC4 R.SLU_VI_SPEC6 R.SLU_VI_SPEC7
  omega

/-! ### Provisional items (R236, R239) -/

section
variable {s : State} {l : Lane} {m : RMsg} {q : List RMsg}

theorem answers_sluProvRx (h : SluFront s l 1 m q) (hvi : m.vi < 4096) : Answers (.sluProvRx l true) s (fun t =>
    SluTaken s t l m q ∧ t.slu.provs = (l, m.vi, m.idx, m.items) :: s.slu.provs.filter (fun p => !provOf l m p) ∧
    (s.isSource l = true → t.rd (R.SLU_VI_SPEC0 m.vi) = (s.rd (R.SLU_VI_SPEC0 m.vi) + 1) % 4294967296 ∧
      t.rd R.SLU_SPEC_RUNS = (s.rd R.SLU_SPEC_RUNS + 1) % 4294967296) ∧
    Only (among [R.SLU_VI_SPEC0 m.vi, R.SLU_SPEC_RUNS, R.SLU_NO_TPL, R.SLU_EVENTS]) [lanePart l, .slu] s t) := by
  obtain ⟨hlo, hhi⟩ := viSpec_bounds hvi (R.SLU_VI_SPEC0 m.vi) (by simp)
  have hapart : ∀ k < 0x2440000, k ≠ R.SLU_VI_SPEC0 m.vi := fun k hk => by omega
  obtain ⟨a, b, hnext⟩ := s.sluNext_slu l m q
  obtain ⟨c, hc⟩ : ∃ c, c = (s.sluNext l m q).specCount l (R.SLU_VI_SPEC0 m.vi) R.SLU_SPEC_RUNS := ⟨_, rfl⟩
  obtain ⟨d, hd⟩ : ∃ d : State, d = { c with slu := { c.slu with
    provs := (l, m.vi, m.idx, m.items) :: c.slu.provs.filter (fun p => !provOf l m p) } } := ⟨_, rfl⟩
  obtain ⟨e, he⟩ : ∃ e, e = d.provBufs l m.vi m.idx m.items := ⟨_, rfl⟩
  have hexec : exec (.sluProvRx l true) s = finish s (e.noTpl m.vi m.items) := by
    rw [he, hd, hc]
    exact congrArg (finish s) (State.sluTake_front h _)
  have hcslu : c.slu = (s.sluNext l m q).slu := by rw [hc]; exact State.specCount_slu _ l
  have hbufs : BufsOnly d e := he ▸ d.provBufs_bufsOnly l m.vi m.idx m.items
  obtain ⟨tp, heslu⟩ := hbufs.slu
  have hchg : ChangesOnly [R.SLU_VI_SPEC0 m.vi, R.SLU_SPEC_RUNS, R.SLU_NO_TPL, R.SLU_EVENTS] [lanePart l, .slu] s d := by
    rw [hd, hc]
    exact ((s.sluNext_changes l m q _ (by simp) (by simp)).specCount l (by simp) (by simp) (hapart _ (by decide)).symm (by decide)).with_slu _ (by simp)
  have htpl : ChangesOnly [R.SLU_NO_TPL, R.SLU_EVENTS] [] e (e.noTpl m.vi m.items) := (ChangesOnly.refl _ _ e).noTpl _ _ (by simp) (by simp)
  refine answers_of_finish hexec ⟨sluTaken_ended ?_ ?_, ?_, fun hsrc => ?_, (((hbufs.changes hchg (by simp)).noTpl _ _ (by simp) (by simp))).only_among⟩
  · rw [htpl.lane, hbufs.lane, hd, State.lane_with_slu, hc,
      State.specCount_lane, State.sluNext_rel]
  · rw [State.noTpl_slu, heslu, hd, hcslu]; rfl
  · rw [s.ended_slu, State.noTpl_slu, heslu, hd, hcslu, hnext]
  · obtain ⟨h0, hruns⟩ := (s.sluNext l m q).rd_specCount l (hapart R.SLU_SPEC_RUNS (by decide)).symm
      ((State.isSource_congr (s.sluNext_rd l m q _) l).trans hsrc)
    have hrd : ∀ k, k ∉ [R.SLU_NO_TPL, R.SLU_EVENTS] → (e.noTpl m.vi m.items).rd k = c.rd k := fun k hk => by
      rw [htpl.rd_other hk, hbufs.rd, hd, State.rd_with_slu]
    constructor
    · rw [s.ended_rd _ (settleKey_sluice (by omega) (by omega)), hrd _ (by simp [(hapart R.SLU_NO_TPL (by decide)).symm, (hapart R.SLU_EVENTS (by decide)).symm]),
        hc, h0, s.sluNext_rd]
    · rw [s.ended_rd _ (by decide), hrd _ (by decide), hc, hruns, s.sluNext_rd]
end

end Sys2Proof.Machine
end

section
/-! SUPPORT. Final records on the release links (R246, R252). -/
namespace Sys2Proof.Machine

/-- The record held of a message that made a run's items final. -/
def IsFinal (l : Lane) (m : RMsg) (items : List (Nat × Nat)) (done : Bool) (r : SluRec) : Prop :=
  r.lane = l ∧ r.vi = m.vi ∧ r.idx = m.idx ∧ r.none = false ∧ r.items = items ∧ r.digest = m.digest ∧ r.done = done
theorem State.mem_doneBufs {s : State} {l : Lane} {v : Nat} {items : List (Nat × Nat)} {b : Nat × Bytes} (h : b ∈ s.doneBufs l v items) : b.1 < 4096 := by
  obtain ⟨n, hn, hb⟩ := List.mem_filterMap.1 h
  split at hb
  · rw [← Option.some.inj hb]; exact State.lt_of_mem_tplsOf hn
  · exact absurd hb (by simp)
/-- The record that a message makes final. -/
def State.finalRec (s : State) (l : Lane) (m : RMsg) (items : List (Nat × Nat)) : SluRec :=
  { lane := l, vi := m.vi, idx := m.idx, gen := m.gen, none := false, items := items, digest := m.digest, bufs := s.doneBufs l m.vi items, done := false }
/-- A final record that waits for the other lane's is held, its outputs released where its lane is the source. -/
theorem State.recFinal_waits {s : State} {l : Lane} {m : RMsg} (items : List (Nat × Nat)) (hc : s.compared m.idx = true)
    (h : ∀ r ∈ s.slu.recs, r.vi = m.vi → r.idx = m.idx → r.lane = l) : ∃ w r, Releases (· < 4096) s w ∧
      s.recFinal l m items = { w with slu := { w.slu with recs := s.slu.recs ++ [r] } } ∧ IsFinal l m items (decide (s.srcFor m.idx = some l)) r ∧
      (s.srcFor m.idx = some l →
        (∀ n ∈ s.tplsOf m.vi, slotPub items (s.fld (R.SLU_TPL0 n) 19 16) = true → laterThan m.idx (s.tplRt n).last = true → w.ReleasedAt m.idx n) ∧
        (∀ p ∈ items, bitsOf p.1 18 16 = 4 → laterThan m.idx (s.doutLast m.vi (bitsOf p.1 15 4 % 16)) = true →
          w.doutLast m.vi (bitsOf p.1 15 4 % 16) = some m.idx)) := by
  obtain ⟨w, hw, hrel, heq⟩ := State.recArrive_waits (T := (· < 4096)) (r := s.finalRec l m items) hc h fun _ => State.mem_doneBufs
  refine ⟨w, _, hrel, heq, ⟨rfl, rfl, rfl, rfl, rfl, rfl, rfl⟩, fun hsrc => ?_⟩
  have hwr : w = s.releaseRec (s.finalRec l m items) := by
    rw [hw, show (s.srcFor (s.finalRec l m items).idx == some (s.finalRec l m items).lane) = true from beq_iff_eq.2 hsrc]
    exact State.onIf_true _ _
  rw [hwr]
  exact ⟨fun n hn hpub hlater => State.releaseRec_frames (r := s.finalRec l m items) (b := (n, s.finBuf n l))
      (List.mem_filterMap.2 ⟨n, hn, if_pos hpub⟩) (State.lt_of_mem_tplsOf hn) hlater,
    fun p hp h4 hlater => State.releaseRec_lines (r := s.finalRec l m items) hp h4 hlater⟩

/-- From `s` to `t` a message has been taken and its record made ready: provisional items, buffers and counts alone have changed. -/
structure Readied (s t : State) : Prop where
  rd : t.rd R.SLU_STATUS = s.rd R.SLU_STATUS
  slu : ∃ a b p tp, t.slu = { s.slu with seqA := a, seqB := b, provs := p, tpl := tp }
section
variable {s t : State} (h : Readied s t)
include h

theorem Readied.recs : t.slu.recs = s.slu.recs := by
  obtain ⟨a, b, p, tp, h⟩ := h.slu
  rw [h]
theorem Readied.compared (k : Nat) : t.compared k = s.compared k := by
  obtain ⟨a, b, p, tp, hslu⟩ := h.slu
  exact State.compared_congr h.rd (by rw [hslu]) k
theorem Readied.srcFor (k : Nat) : t.srcFor k = s.srcFor k := by
  obtain ⟨a, b, p, tp, hslu⟩ := h.slu
  exact State.srcFor_congr h.rd (by rw [hslu]) (by rw [hslu]) k
theorem Readied.doutLast (v j : Nat) : t.doutLast v j = s.doutLast v j := by
  obtain ⟨a, b, p, tp, hslu⟩ := h.slu
  unfold State.doutLast
  rw [hslu]
end

section
variable {s : State} {l : Lane} {m : RMsg} {q : List RMsg} (hc : s.compared m.idx = true)
  (hrecs : ∀ r ∈ s.slu.recs, r.vi = m.vi → r.idx = m.idx → r.lane = l)
include hc hrecs

/-- At the end of a command that makes a record final, the message has been taken and the record is held. -/
theorem Readied.recFinal {v : State} (hready : Readied s v) (hrel : (v.lane l).rel = q) (hlinks : v.slu.links = (s.sluNext l m q).slu.links)
    (items : List (Nat × Nat)) : SluTaken s (s.ended (v.recFinal l m items)) l m q ∧ (s.ended (v.recFinal l m items)).slu.provs = v.slu.provs ∧
      (∃ r, (s.ended (v.recFinal l m items)).slu.recs = s.slu.recs ++ [r] ∧ IsFinal l m items (decide (s.srcFor m.idx = some l)) r) ∧
      (∀ k, 0x2400000 ≤ k → k < 0x2800000 → ¬OutKey (· < 4096) k → (s.ended (v.recFinal l m items)).rd k = v.rd k) ∧
      (s.srcFor m.idx = some l →
        (∀ n ∈ v.tplsOf m.vi, slotPub items (v.fld (R.SLU_TPL0 n) 19 16) = true → laterThan m.idx (v.tplRt n).last = true →
          (s.ended (v.recFinal l m items)).ReleasedAt m.idx n) ∧
        (∀ p ∈ items, bitsOf p.1 18 16 = 4 → laterThan m.idx (s.doutLast m.vi (bitsOf p.1 15 4 % 16)) = true →
          (s.ended (v.recFinal l m items)).doutLast m.vi (bitsOf p.1 15 4 % 16) = some m.idx)) := by
  obtain ⟨w, r, hw, heq, hr, hout⟩ := State.recFinal_waits items ((hready.compared _).trans hc) (hready.recs ▸ hrecs)
  rw [hready.srcFor] at hr hout
  rw [hready.recs] at heq
  rw [heq]
  have hrd : ∀ k, 0x2400000 ≤ k → k < 0x2800000 → (s.ended { w with slu := { w.slu with recs := s.slu.recs ++ [r] } }).rd k = w.rd k :=
    fun k h h' => s.ended_rd _ (settleKey_sluice h h')
  refine ⟨sluTaken_ended ?_ ((Sluice.links_of_rest (x := w.slu) hw.rest).trans hlinks), ?_, ⟨r, ?_, hr⟩,
    fun k h h' ho => (hrd k h h').trans (hw.rd k (.inr ⟨h, h'⟩) ho), fun hsrc => ?_⟩
  · rw [State.lane_with_slu, hw.lane, hrel]
  · rw [s.ended_slu]
    exact Sluice.provs_of_rest (x := w.slu) hw.rest
  · rw [s.ended_slu]
  · obtain ⟨hframes, hlines⟩ := hout hsrc
    refine ⟨fun n hn hpub hlater => ?_, fun p hp h4 hlater => ?_⟩
    · obtain ⟨hlast, hstat⟩ := hframes n hn hpub hlater
      have hn' := State.lt_of_mem_tplsOf hn
      exact ⟨(congrArg TplRt.last (State.tplRt_of_slu (by rw [s.ended_slu]) n)).trans hlast,
        (hrd _ (by unfold R.SLU_TPL_STAT0; omega) (by unfold R.SLU_TPL_STAT0; omega)).trans hstat⟩
    · refine Eq.trans ?_ (hlines p hp h4 (by rw [hready.doutLast]; exact hlater))
      unfold State.doutLast
      rw [s.ended_slu]
end

section
variable {s : State} {l : Lane} {m : RMsg} {q : List RMsg}

theorem answers_sluFinalRx (h : SluFront s l 2 m q) (hc : s.compared m.idx = true) (hrecs : ∀ r ∈ s.slu.recs, r.vi = m.vi → r.idx = m.idx → r.lane = l) :
    Answers (.sluFinalRx l true) s (fun t => SluTaken s t l m q ∧
      (∃ r, t.slu.recs = s.slu.recs ++ [r] ∧ IsFinal l m m.items (decide (s.srcFor m.idx = some l)) r) ∧
      (s.srcFor m.idx = some l →
        (∀ n ∈ s.tplsOf m.vi, slotPub m.items (s.fld (R.SLU_TPL0 n) 19 16) = true → laterThan m.idx (s.tplRt n).last = true → t.ReleasedAt m.idx n) ∧
        (∀ p ∈ m.items, bitsOf p.1 18 16 = 4 → laterThan m.idx (s.doutLast m.vi (bitsOf p.1 15 4 % 16)) = true →
          t.doutLast m.vi (bitsOf p.1 15 4 % 16) = some m.idx))) := by
  obtain ⟨u, hu⟩ : ∃ u, u = (s.sluNext l m q).finBufs l m.vi m.items := ⟨_, rfl⟩
  obtain ⟨v, hv⟩ : ∃ v, v = u.noTpl m.vi m.items := ⟨_, rfl⟩
  have hexec : exec (.sluFinalRx l true) s = finish s (v.recFinal l m m.items) := by
    rw [hv, hu]
    exact congrArg (finish s) (State.sluTake_front h _)
  have hbufs : BufsOnly (s.sluNext l m q) u := hu ▸ State.finBufs_bufsOnly _ l m.vi m.items
  obtain ⟨tp, huslu⟩ := hbufs.slu
  obtain ⟨a, b, hnext⟩ := s.sluNext_slu l m q
  have hvslu : v.slu = u.slu := hv ▸ State.noTpl_slu u _ _
  have hno : ChangesOnly [R.SLU_NO_TPL, R.SLU_EVENTS] [] u v := hv ▸ (ChangesOnly.refl _ _ u).noTpl _ _ (by simp) (by simp)
  have hrd : ∀ k, k ∉ [R.SLU_NO_TPL, R.SLU_EVENTS] → v.rd k = s.rd k := fun k hk => by rw [hno.rd_other hk, hbufs.rd, s.sluNext_rd]
  obtain ⟨htaken, -, hheld, -, hout⟩ := Readied.recFinal hc hrecs (q := q) (v := v) ⟨hrd _ (by decide), a, b, s.slu.provs, tp, by rw [hvslu, huslu, hnext]⟩
    (by rw [hno.lane, hbufs.lane, s.sluNext_rel]) (by rw [hvslu, huslu]; rfl) m.items
  refine answers_of_finish hexec ⟨htaken, hheld, fun hsrc => ?_⟩
  obtain ⟨hframes, hlines⟩ := hout hsrc
  refine ⟨fun n hn hpub hlater => hframes n ?_ ?_ ?_, hlines⟩
  · rw [hv]
    exact State.mem_tplsOf_noTpl (by rw [hbufs.tplsOf, s.sluNext_tplsOf]; exact hn) _ _
  · rw [State.fld_of_rd (hrd (R.SLU_TPL0 n) (by
      simp only [List.mem_cons, List.not_mem_nil, or_false]; unfold R.SLU_TPL0 R.SLU_NO_TPL R.SLU_EVENTS; omega))]
    exact hpub
  · rw [State.tplRt_of_slu (congrArg Sluice.tpl hvslu) n, hbufs.2 n, State.tplRt_of_slu (s := s) (by rw [hnext]) n]
    exact hlater

theorem answers_sluConfirmRx {items : List (Nat × Nat)} (h : SluFront s l 3 m q) (hc : s.compared m.idx = true) (hvi : m.vi < 4096)
    (hprov : s.slu.provs.find? (provOf l m) = some (l, m.vi, m.idx, items)) (hrecs : ∀ r ∈ s.slu.recs, r.vi = m.vi → r.idx = m.idx → r.lane = l) :
    Answers (.sluConfirmRx l true) s (fun t => SluTaken s t l m q ∧ t.slu.provs = s.slu.provs.filter (· != (l, m.vi, m.idx, items)) ∧
      (∃ r, t.slu.recs = s.slu.recs ++ [r] ∧ IsFinal l m items (decide (s.srcFor m.idx = some l)) r) ∧
      (s.isSource l = true → t.rd R.SLU_SPEC_CONFIRMS = (s.rd R.SLU_SPEC_CONFIRMS + 1) % 4294967296 ∧
        t.rd (R.SLU_VI_SPEC1 m.vi) = (s.rd (R.SLU_VI_SPEC1 m.vi) + 1) % 4294967296)) := by
  obtain ⟨hlo, hhi⟩ := viSpec_bounds hvi (R.SLU_VI_SPEC1 m.vi) (by simp)
  have hapart : ∀ k < 0x2440000, k ≠ R.SLU_VI_SPEC1 m.vi := fun k hk => by omega
  obtain ⟨c, hcnt⟩ : ∃ c, c = (s.sluNext l m q).specCount l (R.SLU_VI_SPEC1 m.vi) R.SLU_SPEC_CONFIRMS := ⟨_, rfl⟩
  obtain ⟨d, hd⟩ : ∃ d : State, d = { c with slu := { c.slu with provs := c.slu.provs.filter (· != (l, m.vi, m.idx, items)) } } := ⟨_, rfl⟩
  obtain ⟨v, hv⟩ : ∃ v, v = d.provEnd l m.vi m.idx true := ⟨_, rfl⟩
  obtain ⟨a, b, hnext⟩ := s.sluNext_slu l m q
  have hcslu : c.slu = (s.sluNext l m q).slu := by rw [hcnt]; exact State.specCount_slu _ l
  have hfind : c.slu.provs.find? (fun p => p.1 == l && p.2.1 == m.vi && p.2.2.1 == m.idx) = some (l, m.vi, m.idx, items) := by
    rw [hcslu, hnext]; exact hprov
  have hexec : exec (.sluConfirmRx l true) s = finish s (v.recFinal l m items) := by
    rw [hv, hd]
    refine congrArg (finish s) ((State.sluTake_front h _).trans ?_)
    dsimp only
    rw [← hcnt, hfind]
  have hbufs : BufsOnly d v := hv ▸ d.provEnd_bufsOnly l m.vi m.idx true
  obtain ⟨tp, hvslu⟩ := hbufs.slu
  have hrd : ∀ k, v.rd k = c.rd k := fun k => by rw [hbufs.rd, hd, State.rd_with_slu]
  have hcnt' : ChangesOnly [R.SLU_VI_SPEC1 m.vi, R.SLU_SPEC_CONFIRMS] [] (s.sluNext l m q) c :=
    hcnt ▸ (ChangesOnly.refl _ _ _).specCount l (by simp) (by simp) (hapart _ (by decide)).symm (by decide)
  have hstat : v.rd R.SLU_STATUS = s.rd R.SLU_STATUS := by
    rw [hrd, hcnt'.rd_other (by simp [hapart R.SLU_STATUS (by decide), show R.SLU_STATUS ≠ R.SLU_SPEC_CONFIRMS by decide]), s.sluNext_rd]
  obtain ⟨htaken, hprovs, hheld, hkeep, -⟩ := Readied.recFinal hc hrecs (q := q) (v := v)
    ⟨hstat, a, b, s.slu.provs.filter (· != (l, m.vi, m.idx, items)), tp, by rw [hvslu, hd, hcslu, hnext]⟩
    (by rw [hbufs.lane, hd, State.lane_with_slu, hcnt, State.specCount_lane, s.sluNext_rel])
    (by rw [hvslu, hd, hcslu]; rfl) items
  refine answers_of_finish hexec ⟨htaken, ?_, hheld, fun hsrc => ?_⟩
  · rw [hprovs, hvslu, hd, hcslu, hnext]
  · obtain ⟨h1, htot⟩ := (s.sluNext l m q).rd_specCount l (hapart R.SLU_SPEC_CONFIRMS (by decide)).symm
      ((State.isSource_congr (s.sluNext_rd l m q _) l).trans hsrc)
    constructor
    · rw [hkeep _ (by decide) (by decide) (not_outKey (by decide) (by decide)), hrd, hcnt, htot, s.sluNext_rd]
    · rw [hkeep _ (by omega) (by omega) (not_outKey ?_ (by omega)), hrd, hcnt, h1, s.sluNext_rd]
      simp [hapart R.SLU_EVENTS (by decide) |>.symm, hapart R.SLU_LATE (by decide) |>.symm, hapart R.SLU_STALE (by decide) |>.symm,
        hapart R.SLU_DOUT_STATE (by decide) |>.symm]
end

end Sys2Proof.Machine
end

section
/-! SUPPORT. Squashes, executions without items and DONE on the release links (R239, R243, R252, R255, R361). -/
namespace Sys2Proof.Machine

/-- Bits of WDN_STATUS apart from BREACH leave what follows it. -/
theorem ChangesOnly.wdnStatus {L : List Nat} {ps : List Part} {s t : State} (h : ChangesOnly L ps s t) (hi lo v : Nat) (hk : R.WDN_STATUS ∈ L)
    (hle : lo ≤ hi) (hd : 3 < lo ∨ hi < 3) : ChangesOnly L ps s (t.setF R.WDN_STATUS hi lo v) :=
  h.trans ⟨fun _ hj => t.rd_wr_other _ (fun e => hj (e ▸ hk)), fun p _ => by
    cases p
    case evt => exact ⟨rfl, t.bit_setF_apart _ _ _ _ hle (by decide) hd⟩
    all_goals rfl⟩

section
variable {s : State} {l : Lane} {m : RMsg} {q : List RMsg}

/-! ### Squashes (R239) -/

/-- The register that counts squashes of a cause. -/
theorem squashReg_mem (v : Nat) {c : Nat} (h : 1 ≤ c) (h' : c ≤ 6) :
    nth [R.SLU_VI_SPEC2 v, R.SLU_VI_SPEC2 v, R.SLU_VI_SPEC3 v, R.SLU_VI_SPEC3 v, R.SLU_VI_SPEC4 v, R.SLU_VI_SPEC4 v] (c - 1) 0 ∈
      [R.SLU_VI_SPEC2 v, R.SLU_VI_SPEC3 v, R.SLU_VI_SPEC4 v] := by
  interval_cases c <;> simp [nth]
theorem squashReg_bounds {v : Nat} (hv : v < 4096) {c : Nat} (h : 1 ≤ c) (h' : c ≤ 6) : 0x2440000 ≤
    nth [R.SLU_VI_SPEC2 v, R.SLU_VI_SPEC2 v, R.SLU_VI_SPEC3 v, R.SLU_VI_SPEC3 v, R.SLU_VI_SPEC4 v, R.SLU_VI_SPEC4 v] (c - 1) 0 := by
  have hmem := squashReg_mem v h h'
  refine (viSpec_bounds hv _ ?_).1
  simp only [List.mem_cons, List.not_mem_nil, or_false] at hmem ⊢
  tauto
theorem State.squashStat_changes (s : State) {v : Nat} (hv : v < 4096) (k : Nat) {st : List Nat} (h : 1 ≤ nth st 0 0) (h' : nth st 0 0 ≤ 6) :
    ChangesOnly [R.SLU_SPEC_SQUASHES, R.SLU_VI_SPEC2 v, R.SLU_VI_SPEC3 v, R.SLU_VI_SPEC4 v, R.SLU_VI_SPEC6 v, R.SLU_VI_SPEC7 v] [] s (s.squashStat v k st) := by
  have hne : ∀ j, 0x2400000 ≤ j → j ≠ R.WDN_STATUS := by unfold R.WDN_STATUS; omega
  have hreg := squashReg_mem v h h'
  have hlo := squashReg_bounds hv h h'
  exact ((((ChangesOnly.refl _ _ s).addSatF _ _ _ (List.mem_cons_of_mem _ (List.mem_append_left [R.SLU_VI_SPEC6 v, R.SLU_VI_SPEC7 v] hreg))
    (hne _ (by omega))).addWrap _ (by simp) (by decide)).wr _ (by simp) (hne _ (by unfold R.SLU_VI_SPEC6; omega))).wr _ (by simp)
    (hne _ (by unfold R.SLU_VI_SPEC7; omega))
theorem State.rd_squashStat (s : State) {v : Nat} (hv : v < 4096) (k : Nat) {st : List Nat} (h : 1 ≤ nth st 0 0) (h' : nth st 0 0 ≤ 6) :
    (s.squashStat v k st).rd R.SLU_SPEC_SQUASHES = (s.rd R.SLU_SPEC_SQUASHES + 1) % 4294967296 ∧
      (s.squashStat v k st).rd (R.SLU_VI_SPEC6 v) = k % 4294967296 := by
  have h76 : R.SLU_VI_SPEC7 v ≠ R.SLU_VI_SPEC6 v := by unfold R.SLU_VI_SPEC7 R.SLU_VI_SPEC6; omega
  have hfar : ∀ j, 0x2440000 ≤ j → j ≠ R.SLU_SPEC_SQUASHES := by unfold R.SLU_SPEC_SQUASHES; omega
  have hreg := squashReg_bounds hv h h'
  unfold State.squashStat
  dsimp only
  constructor
  · rw [State.rd_wr_other _ _ (hfar _ (by unfold R.SLU_VI_SPEC7; omega)), State.rd_wr_other _ _ (hfar _ (by unfold R.SLU_VI_SPEC6; omega)), State.rd_addWrap,
      if_pos rfl, State.rd_addSatF_other _ _ _ _ (hfar _ hreg)]
  · rw [State.rd_wr_other _ _ h76, State.rd_wr_same]

/-- The sluice without the items of a provisional execution. -/
def State.provDrop (s : State) (l : Lane) (m : RMsg) : State :=
  (({ s with slu := { s.slu with provs := s.slu.provs.filter (fun p => !provOf l m p) } } : State)).provEnd l m.vi m.idx false
theorem State.rd_provDrop (s : State) (l : Lane) (m : RMsg) (k : Nat) : (s.provDrop l m).rd k = s.rd k := (State.provEnd_bufsOnly _ _ _ _ _).rd k
theorem State.lane_provDrop (s : State) (l : Lane) (m : RMsg) (x : Lane) : (s.provDrop l m).lane x = s.lane x :=
  ((State.provEnd_bufsOnly _ _ _ _ _).lane x).trans (s.lane_with_slu _ x)
theorem State.slu_provDrop (s : State) (l : Lane) (m : RMsg) :
    ∃ tp, (s.provDrop l m).slu = { s.slu with provs := s.slu.provs.filter (fun p => !provOf l m p), tpl := tp } := (State.provEnd_bufsOnly _ _ _ _ _).slu
theorem ChangesOnly.provDrop {L : List Nat} {ps : List Part} {t : State} (h : ChangesOnly L ps s t) (l : Lane) (m : RMsg) (hp : .slu ∈ ps) :
    ChangesOnly L ps s (t.provDrop l m) := (State.provEnd_bufsOnly _ _ _ _ _).changes (h.with_slu _ hp) hp

theorem answers_sluSquashRx (h : SluFront s l 4 m q) (hvi : m.vi < 4096) (h1 : 1 ≤ nth m.stat 0 0) (h6 : nth m.stat 0 0 ≤ 6) :
    Answers (.sluSquashRx l true) s (fun t =>
      SluTaken s t l m q ∧ t.slu.provs = s.slu.provs.filter (fun p => !provOf l m p) ∧ t.slu.recs = s.slu.recs ∧
      (s.isSource l = true → t.rd R.SLU_SPEC_SQUASHES = (s.rd R.SLU_SPEC_SQUASHES + 1) % 4294967296 ∧
        t.rd (R.SLU_VI_SPEC6 m.vi) = m.idx % 4294967296) ∧
      Only (among [R.SLU_SPEC_SQUASHES, R.SLU_VI_SPEC2 m.vi, R.SLU_VI_SPEC3 m.vi, R.SLU_VI_SPEC4 m.vi, R.SLU_VI_SPEC6 m.vi, R.SLU_VI_SPEC7 m.vi])
        [lanePart l, .slu] s t) := by
  obtain ⟨c, hcnt⟩ : ∃ c, c = (s.sluNext l m q).onIf ((s.sluNext l m q).isSource l) (fun s => s.squashStat m.vi m.idx m.stat) := ⟨_, rfl⟩
  have hexec : exec (.sluSquashRx l true) s = finish s (c.provDrop l m) := by
    rw [hcnt]
    exact congrArg (finish s) (State.sluTake_front h _)
  have hstat : ChangesOnly _ [] (s.sluNext l m q) c := hcnt ▸ (ChangesOnly.refl _ _ _).onIf _ fun _ => State.squashStat_changes _ hvi _ h1 h6
  obtain ⟨a, b, hnext⟩ := s.sluNext_slu l m q
  obtain ⟨tp, hslu⟩ := c.slu_provDrop l m
  have hcslu : c.slu = (s.sluNext l m q).slu := hstat.2 .slu List.not_mem_nil
  have hsrc' : (s.sluNext l m q).isSource l = s.isSource l := State.isSource_congr (s.sluNext_rd l m q _) l
  refine answers_of_finish hexec ⟨sluTaken_ended ?_ ?_, ?_, ?_, fun hsrc => ?_,
    (((s.sluNext_changes l m q _ (by simp) (by simp)).trans (hstat.mono (List.Subset.refl _) (List.nil_subset _))).provDrop l m (by simp)).only_among⟩
  · rw [State.lane_provDrop, hstat.lane, s.sluNext_rel]
  · rw [hslu, hcslu]; rfl
  · rw [s.ended_slu, hslu, hcslu, hnext]
  · rw [s.ended_slu, hslu, hcslu, hnext]
  · obtain ⟨htot, hidx⟩ := (s.sluNext l m q).rd_squashStat hvi m.idx h1 h6
    rw [hsrc', hsrc, State.onIf_true] at hcnt
    obtain ⟨hlo, hhi⟩ := viSpec_bounds hvi (R.SLU_VI_SPEC6 m.vi) (by simp)
    constructor
    · rw [s.ended_rd _ (by decide), State.rd_provDrop, hcnt, htot, s.sluNext_rd]
    · rw [s.ended_rd _ (settleKey_sluice (by omega) (by omega)), State.rd_provDrop, hcnt, hidx]

/-! ### Executions without items (R252) -/

theorem answers_sluNoneRx (h : SluFront s l 5 m q) (hc : s.compared m.idx = true) (hrecs : ∀ r ∈ s.slu.recs, r.vi = m.vi → r.idx = m.idx → r.lane = l) :
    Answers (.sluNoneRx l true) s (fun t =>
      SluTaken s t l m q ∧ t.slu.provs = s.slu.provs.filter (fun p => !provOf l m p) ∧
      t.slu.recs = s.slu.recs ++ [{ lane := l, vi := m.vi, idx := m.idx, gen := m.gen, none := true, items := [], digest := 0, bufs := [],
                                    done := decide (s.srcFor m.idx = some l) }] ∧
      Only (fun _ => false) [lanePart l, .slu] s t) := by
  obtain ⟨v, hv⟩ : ∃ v, v = (s.sluNext l m q).provDrop l m := ⟨_, rfl⟩
  obtain ⟨r, hr⟩ : ∃ r : SluRec, r = ⟨l, m.vi, m.idx, m.gen, true, [], 0, [], false⟩ := ⟨_, rfl⟩
  have hexec : exec (.sluNoneRx l true) s = finish s (v.recArrive r) := by
    rw [hv, hr]
    exact congrArg (finish s) (State.sluTake_front h _)
  obtain ⟨a, b, hnext⟩ := s.sluNext_slu l m q
  obtain ⟨tp, hslu⟩ := (s.sluNext l m q).slu_provDrop l m
  rw [← hv, hnext] at hslu
  have hready : Readied s v := ⟨by rw [hv, State.rd_provDrop, s.sluNext_rd], a, b, _, tp, hslu⟩
  obtain ⟨w, hw, -, heq⟩ := State.recArrive_waits (T := fun _ => False) (s := v) (r := r) (by rw [hr]; exact (hready.compared _).trans hc)
    (by rw [hr, hready.recs]; exact hrecs) (by rw [hr]; exact fun _ hb => absurd hb List.not_mem_nil)
  rw [hr, Bool.not_true, Bool.and_false, State.onIf_false] at hw
  rw [heq, hw, hready.srcFor, hready.recs, hr] at hexec
  have hsv : ChangesOnly [] [lanePart l, .slu] s v := hv ▸ (s.sluNext_changes l m q [] (by simp) (by simp)).provDrop l m (by simp)
  refine answers_of_finish hexec ⟨sluTaken_ended ?_ ?_, ?_, ?_, (hsv.with_slu _ (by simp)).only fun _ hk => absurd hk List.not_mem_nil⟩
  · rw [State.lane_with_slu, hv, State.lane_provDrop, s.sluNext_rel]
  · rw [hslu, hnext]; rfl
  · rw [s.ended_slu, hslu]
  · rw [s.ended_slu]

/-! ### DONE (R243, R255, R361) -/

/-- The index of a lane's DONE is noted. -/
def State.doneNoted (s : State) (l : Lane) (k : Nat) : State :=
  match l with
  | .a => { s.wr (R.SLU_DONE 0) k with slu := { s.slu with doneA := true } }
  | .b => { s.wr (R.SLU_DONE 1) k with slu := { s.slu with doneB := true } }
theorem State.sluDone_of_flags {s t : State} (ha : t.slu.doneA = s.slu.doneA) (hb : t.slu.doneB = s.slu.doneB) (l : Lane) : t.sluDone l = s.sluDone l := by
  cases l
  · exact ha
  · exact hb
theorem State.doneNoted_eq (s : State) (l : Lane) (k : Nat) : ∃ a b,
    s.doneNoted l k = { s.wr (R.SLU_DONE (laneIx l)) k with slu := { s.slu with doneA := a, doneB := b } } := by
  cases l
  · exact ⟨true, s.slu.doneB, rfl⟩
  · exact ⟨s.slu.doneA, true, rfl⟩
theorem State.lane_doneNoted (s : State) (l : Lane) (k : Nat) (x : Lane) : (s.doneNoted l k).lane x = s.lane x := by cases l <;> cases x <;> rfl
theorem State.sluDone_doneNoted (s : State) (l : Lane) (k : Nat) : (s.doneNoted l k).sluDone l = true := by cases l <;> rfl
theorem State.onIf_ind (s : State) (c : Bool) (f : State → State) {P : State → Prop} (h : P s) (hf : P (f s)) : P (s.onIf c f) := by
  cases c
  · exact h
  · exact hf
/-- A lane that waits to join is in step from its first index on (R361). -/
def State.joinChecked (s : State) (l : Lane) (k : Nat) : State :=
  s.onIf (s.role l == 1 && idxGe k (s.slu.joinAt.getD 0) && (s.rd (R.WDN_HEALTH (laneIx l))) % 4096 == 0) (fun s =>
    ({ s with slu := { s.slu with joinAt := none } } : State).setB R.WDN_STATUS 4 true)
/-- The comparison of all indices is in force from the first one on (R252). -/
def State.cmpChecked (s : State) (l : Lane) (k : Nat) : State :=
  s.onIf (l == s.srcLane && (match s.slu.cmpFrom with | some j => idxGe k j | none => false)) (fun s =>
    { s with slu := { s.slu with cmpFrom := none } })
theorem State.joinChecked_slu (s : State) (l : Lane) (k : Nat) : ∃ j, (s.joinChecked l k).slu = { s.slu with joinAt := j } :=
  s.onIf_ind _ _ (P := fun t => ∃ j, t.slu = { s.slu with joinAt := j }) ⟨_, rfl⟩ ⟨_, rfl⟩
theorem State.cmpChecked_slu (s : State) (l : Lane) (k : Nat) : ∃ j, (s.cmpChecked l k).slu = { s.slu with cmpFrom := j } :=
  s.onIf_ind _ _ (P := fun t => ∃ j, t.slu = { s.slu with cmpFrom := j }) ⟨_, rfl⟩ ⟨_, rfl⟩
theorem State.checked_changes (s : State) (l : Lane) (k : Nat) : ChangesOnly [R.WDN_STATUS] [.slu] s ((s.joinChecked l k).cmpChecked l k) := by
  have hjoin : ChangesOnly [R.WDN_STATUS] [.slu] s (s.joinChecked l k) :=
    (ChangesOnly.refl _ _ s).onIf _ fun h => (h.with_slu _ (by simp)).wdnStatus _ _ _ (by simp) (by decide) (by decide)
  exact hjoin.onIf _ fun h => h.with_slu _ (by simp)
theorem State.cfgSwap_none {s : State} (h : s.slu.nextCfg = none) : s.cfgSwap = s := by
  unfold State.cfgSwap
  rw [h]

theorem answers_sluDoneRx (h : SluFront s l 6 m q) (hcfg : s.slu.nextCfg = none) : Answers (.sluDoneRx l true) s (fun t =>
    SluTaken s t l m q ∧ t.rd (R.SLU_DONE (laneIx l)) = m.idx % 4294967296 ∧ t.sluDone l = true ∧
    Only (among [R.SLU_DONE (laneIx l)]) [lanePart l, .slu] s t) := by
  obtain ⟨v, hv⟩ : ∃ v, v = (s.sluNext l m q).doneNoted l m.idx := ⟨_, rfl⟩
  obtain ⟨w, hw⟩ : ∃ w, w = (v.joinChecked l m.idx).cmpChecked l m.idx := ⟨_, rfl⟩
  have hexec : exec (.sluDoneRx l true) s = finish s w.cfgSwap := by
    rw [hw, hv]
    refine congrArg (finish s) ((State.sluTake_front h _).trans ?_)
    cases l <;> rfl
  obtain ⟨a, b, hnext⟩ := s.sluNext_slu l m q
  obtain ⟨da, db, hnoted⟩ := (s.sluNext l m q).doneNoted_eq l m.idx
  obtain ⟨j, hjoin⟩ := v.joinChecked_slu l m.idx
  obtain ⟨k, hwslu⟩ := (v.joinChecked l m.idx).cmpChecked_slu l m.idx
  rw [hjoin, ← hw] at hwslu
  have hvslu : v.slu = { s.slu with seqA := a, seqB := b, doneA := da, doneB := db } := by rw [hv, hnoted, hnext]
  have hvw : ChangesOnly [R.WDN_STATUS] [.slu] v w := hw ▸ v.checked_changes l m.idx
  have hsv : ChangesOnly [R.SLU_DONE (laneIx l), R.WDN_STATUS] [lanePart l, .slu] s v := by
    rw [hv, hnoted]
    exact ((s.sluNext_changes l m q _ (by simp) (by simp)).wr _ (by simp) (by cases l <;> decide)).with_slu _ (by simp)
  rw [State.cfgSwap_none (by rw [hwslu, hvslu]; exact hcfg)] at hexec
  refine answers_of_finish hexec ⟨sluTaken_ended ?_ ?_, ?_, ?_, (hsv.trans (hvw.mono (by simp) (by simp))).only ?_⟩
  · have hlane : w.lane l = v.lane l := by
      cases l
      · exact hvw.2 .laneA (by decide)
      · exact hvw.2 .laneB (by decide)
    rw [hlane, hv, State.lane_doneNoted, s.sluNext_rel]
  · rw [hwslu, hvslu, hnext]; rfl
  · rw [s.ended_rd _ (by cases l <;> decide), hvw.rd_other (by cases l <;> decide), hv, hnoted, State.rd_with_slu, State.rd_wr_same]
  · refine (State.sluDone_of_flags (s := v) ?_ ?_ l).trans (by rw [hv]; exact State.sluDone_doneNoted _ l _)
    · rw [s.ended_slu, hwslu]
    · rw [s.ended_slu, hwslu]
  · intro k hk
    simp only [List.mem_cons, List.not_mem_nil, or_false] at hk
    rcases hk with rfl | rfl
    · simp [among]
    · rw [show settleKey R.WDN_STATUS = true by decide, Bool.or_true]
end

end Sys2Proof.Machine
end

section
/-! SUPPORT. Stops of lanes, triggers and bad CRCs on the release links (R244, R248, R250, R251, R349). -/
namespace Sys2Proof.Machine

section
variable {L : List Nat} {ps : List Part} {s t : State}

theorem ChangesOnly.lane_of (h : ChangesOnly L ps s t) {l : Lane} (hp : lanePart l ∉ ps) : t.lane l = s.lane l := by
  cases l
  · exact h.2 .laneA hp
  · exact h.2 .laneB hp
theorem ChangesOnly.arbMirror (h : ChangesOnly L ps s t) (hk : R.WDN_STATUS ∈ L) : ChangesOnly L ps s t.arbMirror := h.wdnStatus _ _ _ hk (by decide) (by decide)
theorem ChangesOnly.doutDrive (h : ChangesOnly L ps s t) (hp : .pwr ∈ ps) : ChangesOnly L ps s t.doutDrive := h.with_pwr _ hp
end

/-! ### The arbiter's steps (R248, R250, R251) -/

section
variable (s : State) (l : Lane) (j : Nat)

theorem State.rd_arbMirror {k : Nat} (h : k ≠ R.WDN_STATUS) : s.arbMirror.rd k = s.rd k := s.rd_wr_other _ h.symm
/-- With DOUT_ARM low, every line is low. -/
theorem State.doutDrive_low {s : State} (h : s.bit R.SLU_STATUS 3 = false) : s.doutDrive = { s with pwr := { s.pwr with doutPins := 0, doutArm := false } } := by
  unfold State.doutDrive
  simp only [h, Bool.false_and, Bool.false_eq_true, if_false]
  rfl
/-- SILENT is entered: the arbiter's status, then the event, the index, the lines. -/
theorem State.goSilent_eq : ∃ u, ChangesOnly [R.SLU_STATUS] [.pwr] s u ∧ u.bit R.SLU_STATUS 1 = false ∧ u.bit R.SLU_STATUS 2 = true ∧
    u.bit R.SLU_STATUS 3 = false ∧ s.goSilent j = (((u.setB R.SLU_EVENTS 2 true).wr R.SLU_STOP_INDEX j).doutDrive).arbMirror := by
  obtain ⟨v, hv⟩ : ∃ v, v = s.onIf (s.pastCommit j) (fun s => s.setB R.SLU_STATUS 8 true) := ⟨_, rfl⟩
  obtain ⟨w, hw⟩ : ∃ w, w = ((v.setB R.SLU_STATUS 1 false).setB R.SLU_STATUS 2 true).setB R.SLU_STATUS 3 false := ⟨_, rfl⟩
  obtain ⟨u, hu⟩ : ∃ u, u = w.onIf (w.bit (R.REC_TOUT_CFG .a) 31) (fun s => { s with pwr := { s.pwr with trigOut := 0 } }) := ⟨_, rfl⟩
  have hbit : ∀ i < 32, u.bit R.SLU_STATUS i = w.bit R.SLU_STATUS i := fun i _ => by
    rw [hu]; exact State.onIf_keep _ _ _ (fun t => t.bit R.SLU_STATUS i) rfl
  have hchg : ChangesOnly [R.SLU_STATUS] [.pwr] s v := hv ▸ (ChangesOnly.refl _ _ s).onIf _ fun h => h.setB _ _ (by simp) (by decide)
  refine ⟨u, ?_, ?_, ?_, ?_, by rw [hu, hw, hv]; rfl⟩
  · rw [hu, hw]
    exact (((hchg.setB _ _ (by simp) (by decide)).setB _ _ (by simp) (by decide)).setB _ _ (by simp) (by decide)).onIf _ fun h => h.with_pwr _ (by simp)
  all_goals
    rw [hbit _ (by decide), hw]
    simp only [State.bit_setB, Nat.reduceLT, Nat.reduceEqDiff, if_true, if_false]
/-- A source is named: the arbiter's status, the lines, and WDN_STATUS. -/
theorem State.nameSource_eq (arm : Bool) : ∃ u, ChangesOnly [R.SLU_STATUS] [.pwr] s u ∧ u.srcLane = l ∧ u.armed = arm ∧ u.silent = false ∧
    s.nameSource l arm = u.arbMirror := by
  have hbit : ∀ i < 32, (s.setF R.SLU_STATUS 0 0 (laneIx l)).bit R.SLU_STATUS i = if i = 0 then (laneIx l).testBit 0 else s.bit R.SLU_STATUS i := fun i hi => by
    rw [s.bit_setF _ _ _ _ (by decide) hi]
    by_cases h0 : i = 0
    · rw [if_pos (by omega), if_pos h0, h0]
    · rw [if_neg (by omega), if_neg h0]
  refine ⟨_, ((((ChangesOnly.refl _ _ s).setF _ _ _ (by simp) (by decide)).setB 1 arm (by simp) (by decide)).setB 2 false
    (by simp) (by decide)).setB 3 true (by simp) (by decide) |>.doutDrive (by simp), ?_, ?_, ?_, rfl⟩
  · show laneOfBit (State.bit (State.setB _ _ 3 true) R.SLU_STATUS 0) = l
    simp only [State.bit_setB, Nat.reduceLT, Nat.reduceEqDiff, if_false, hbit 0 (by decide), if_true]
    cases l <;> rfl
  · show State.bit (State.setB _ _ 3 true) R.SLU_STATUS 1 = arm
    simp only [State.bit_setB, Nat.reduceLT, Nat.reduceEqDiff, if_true, if_false]
  · show State.bit (State.setB _ _ 3 true) R.SLU_STATUS 2 = false
    simp only [State.bit_setB, Nat.reduceLT, Nat.reduceEqDiff, if_true, if_false]
theorem State.laneOut_changes : ChangesOnly [R.SLU_STATUS] [.slu] s (s.laneOut l) :=
  ((ChangesOnly.refl _ _ s).setB _ _ (by simp) (by decide)).with_slu _ (by simp)
theorem State.bit_laneOut {i : Nat} (hi : i < 32) : (s.laneOut l).bit R.SLU_STATUS i = if 4 + laneIx l = i then false else s.bit R.SLU_STATUS i :=
  s.bit_setB _ _ _ hi
theorem State.bit_laneOut_low {i : Nat} (hi : i < 4) : (s.laneOut l).bit R.SLU_STATUS i = s.bit R.SLU_STATUS i := by
  rw [State.bit_laneOut _ _ (by omega), if_neg (by omega)]
theorem State.sluStopped_laneOut : (s.laneOut l).sluStopped l = true := by
  cases l
  · exact Bool.or_true _
  · exact Bool.or_true _
end

/-- What a take-over at `j` leaves: the other lane is the source, UNARMED, and the switch is counted. -/
structure TakenOver (s : State) (j : Nat) (t : State) : Prop where
  lane : ∀ l, t.lane l = s.lane l
  links : t.slu.links = s.slu.links
  source : t.srcLane = otherLane s.srcLane
  armed : t.armed = false
  silent : t.silent = false
  index : t.rd R.SLU_STOP_INDEX = j % 4294967296
  count : t.rd R.SLU_TAKEOVERS = min 4294967295 (s.rd R.SLU_TAKEOVERS + 1)
  told : t.bit R.SLU_EVENTS 0 = true
  last : t.rd R.WDN_LAST_INDEX = j % 4294967296
  switches : t.rd R.WDN_SWITCHES = min 4294967295 (s.rd R.WDN_SWITCHES + 1)
  event : ∀ i < 32, s.bit R.SLU_EVENTS i = true → t.bit R.SLU_EVENTS i = true
theorem not_outKey_low {T : Nat → Prop} {k : Nat} (h : k ∉ [R.SLU_EVENTS, R.SLU_LATE, R.SLU_STALE, R.SLU_DOUT_STATE]) (hk : k < 0x2430000) : ¬OutKey T k := by
  rintro (hm | ⟨n, -, hlo, -⟩)
  · exact h hm
  · unfold R.SLU_TPL_STAT0 at hlo
    omega
/-- The records that a take-over releases change none of this. -/
theorem TakenOver.released {s u t : State} {j : Nat} (h : TakenOver s j u) (hr : Releases (fun _ => True) u t) : TakenOver s j t where
  lane l := (hr.lane l).trans (h.lane l)
  links := (Sluice.links_of_rest hr.rest).trans h.links
  source := (congrArg laneOfBit (State.bit_of_rd (hr.rd _ (by decide) (not_outKey_low (by decide) (by decide))) 0)).trans h.source
  armed := (State.bit_of_rd (hr.rd _ (by decide) (not_outKey_low (by decide) (by decide))) 1).trans h.armed
  silent := (State.bit_of_rd (hr.rd _ (by decide) (not_outKey_low (by decide) (by decide))) 2).trans h.silent
  index := (hr.rd _ (by decide) (not_outKey_low (by decide) (by decide))).trans h.index
  count := (hr.rd _ (by decide) (not_outKey_low (by decide) (by decide))).trans h.count
  told := hr.event 0 (by decide) h.told
  last := (hr.rd _ (by decide) (not_outKey_low (by decide) (by decide))).trans h.last
  switches := (hr.rd _ (by decide) (not_outKey_low (by decide) (by decide))).trans h.switches
  event i hi he := hr.event i hi (h.event i hi he)
theorem TakenOver.with_recs {s t : State} {j : Nat} {rs : List SluRec} (h : TakenOver s j { t with slu := { t.slu with recs := rs } }) : TakenOver s j t where
  lane l := (t.lane_with_slu _ l).symm.trans (h.lane l)
  links := h.links
  source := h.source
  armed := h.armed
  silent := h.silent
  index := h.index
  count := h.count
  told := h.told
  last := h.last
  switches := h.switches
  event := h.event
/-- A take-over names the other lane, counts the switch, and releases what that lane's records hold from the index on. -/
theorem State.takeover_takenOver (s : State) (j : Nat) : TakenOver s j (s.takeover j) := by
  obtain ⟨v, hv, hsrc, harm, hsil, hname⟩ := s.nameSource_eq (otherLane s.srcLane) false
  have hwrd : ∀ k, k ≠ R.SLU_STATUS → k ≠ R.WDN_STATUS → v.arbMirror.rd k = s.rd k := fun k h1 h2 => by
    rw [v.rd_arbMirror h2, hv.rd_other (by simp [h1])]
  obtain ⟨w, hw⟩ : ∃ w, w = v.arbMirror := ⟨_, rfl⟩
  rw [← hw] at hwrd
  obtain ⟨x, hx⟩ : ∃ x, x = ((w.wr R.SLU_STOP_INDEX j).addSat R.SLU_TAKEOVERS 1).setB R.SLU_EVENTS 0 true := ⟨_, rfl⟩
  obtain ⟨u, hu⟩ : ∃ u, u = ((x.addSat R.WDN_SWITCHES 1).wr R.WDN_LAST_INDEX j).setB R.WDN_EVENTS 0 true := ⟨_, rfl⟩
  have hxu : ChangesOnly [R.WDN_SWITCHES, R.WDN_LAST_INDEX, R.WDN_EVENTS] [] x u :=
    hu ▸ (((ChangesOnly.refl _ _ x).addSat _ (by simp) (by decide)).wr _ (by simp) (by decide)).setB _ _ (by simp) (by decide)
  have hwx : ChangesOnly [R.SLU_STOP_INDEX, R.SLU_TAKEOVERS, R.SLU_EVENTS] [] w x :=
    hx ▸ (((ChangesOnly.refl _ _ w).wr _ (by simp) (by decide)).addSat _ (by simp) (by decide)).setB _ _ (by simp) (by decide)
  have hsw : ChangesOnly [R.SLU_STATUS, R.WDN_STATUS] [.pwr] s w := hw ▸ (hv.mono (by simp) (List.Subset.refl _)).arbMirror (by simp)
  have hstat : u.rd R.SLU_STATUS = v.rd R.SLU_STATUS := by
    rw [hxu.rd_other (by decide), hwx.rd_other (by decide), hw, v.rd_arbMirror (by decide)]
  have hnamed : TakenOver s j ({ u with slu := { u.slu with from_ := some j, split := none } } : State) :=
    { lane := fun l => by rw [State.lane_with_slu, hxu.lane, hwx.lane, hsw.lane_of (by cases l <;> decide)]
      links := by rw [(hxu.2 .slu (by simp)).trans ((hwx.2 .slu (by simp)).trans (hsw.2 .slu (by simp)))]; rfl
      source := (congrArg laneOfBit (State.bit_of_rd hstat 0)).trans hsrc
      armed := (State.bit_of_rd hstat 1).trans harm
      silent := (State.bit_of_rd hstat 2).trans hsil
      index := by
        rw [State.rd_with_slu, hxu.rd_other (by decide), hx, State.rd_setB, if_neg (by decide), State.rd_addSat, if_neg (by decide), State.rd_wr_same]
      count := by
        rw [State.rd_with_slu, hxu.rd_other (by decide), hx, State.rd_setB, if_neg (by decide), State.rd_addSat, if_pos rfl,
          State.rd_wr_other _ _ (by decide), hwrd _ (by decide) (by decide)]
      told := by
        refine (State.bit_of_rd (hxu.rd_other (k := R.SLU_EVENTS) (by decide)) 0).trans ?_
        rw [hx]
        exact State.bit_setB_same _ _ _ _ (by decide)
      last := by rw [State.rd_with_slu, hu, State.rd_setB, if_neg (by decide), State.rd_wr_same]
      switches := by
        rw [State.rd_with_slu, hu, State.rd_setB, if_neg (by decide), State.rd_wr_other _ _ (by decide), State.rd_addSat, if_pos rfl,
          hwx.rd_other (by decide), hwrd _ (by decide) (by decide)]
      event := fun i hi h => by
        refine (State.bit_of_rd (hxu.rd_other (k := R.SLU_EVENTS) (by decide)) i).trans ?_
        rw [hx]
        refine State.bit_setB_set _ _ _ _ hi ((State.bit_of_rd ?_ i).trans h)
        rw [State.rd_addSat, if_neg (by decide), State.rd_wr_other _ _ (by decide), hwrd _ (by decide) (by decide)] }
  have heq : s.takeover j = ({ u with slu := { u.slu with from_ := some j, split := none } } : State).releaseHeld (otherLane s.srcLane) := by
    rw [hu, hx, hw, ← hname]
    rfl
  rw [heq]
  exact (hnamed.released (State.releaseHeld_releases _ _)).with_recs

/-- What the arbiter's SILENT from `j` on leaves: no source, every line and DOUT_ARM low. -/
structure Silenced (s : State) (j : Nat) (t : State) : Prop where
  changes : ChangesOnly [R.SLU_STATUS, R.SLU_STOP_INDEX, R.SLU_EVENTS, R.WDN_STATUS] [.pwr] s t
  silent : t.silent = true
  armed : t.armed = false
  arm : t.bit R.SLU_STATUS 3 = false
  pins : t.pwr.doutPins = 0 ∧ t.pwr.doutArm = false
  index : t.rd R.SLU_STOP_INDEX = j % 4294967296
  told : t.bit R.SLU_EVENTS 2 = true
  event : ∀ i < 32, s.bit R.SLU_EVENTS i = true → t.bit R.SLU_EVENTS i = true
theorem State.goSilent_silenced (s : State) (j : Nat) : Silenced s j (s.goSilent j) := by
  obtain ⟨u, hu, harm, hsil, hlow, heq⟩ := s.goSilent_eq j
  obtain ⟨v, hv⟩ : ∃ v, v = (u.setB R.SLU_EVENTS 2 true).wr R.SLU_STOP_INDEX j := ⟨_, rfl⟩
  have huv : ChangesOnly [R.SLU_STOP_INDEX, R.SLU_EVENTS] [] u v :=
    hv ▸ ((ChangesOnly.refl _ _ u).setB _ _ (by simp) (by decide)).wr _ (by simp) (by decide)
  have hevent : ∀ i, v.bit R.SLU_EVENTS i = (u.setB R.SLU_EVENTS 2 true).bit R.SLU_EVENTS i := fun i => by
    rw [hv]; exact State.bit_wr_other _ _ _ (by decide)
  have hstat : ∀ i, v.bit R.SLU_STATUS i = u.bit R.SLU_STATUS i := huv.bit (by decide)
  rw [heq, ← hv, State.doutDrive_low ((hstat 3).trans hlow)]
  obtain ⟨w, hw⟩ : ∃ w, w = ({ v with pwr := { v.pwr with doutPins := 0, doutArm := false } } : State) := ⟨_, rfl⟩
  rw [← hw]
  have hrd : ∀ k, k ≠ R.WDN_STATUS → w.arbMirror.rd k = v.rd k := fun k hk => by rw [w.rd_arbMirror hk, hw, State.rd_with_pwr]
  exact
    { changes := by
        rw [hw]
        exact (((hu.mono (by simp) (List.Subset.refl _)).trans (huv.mono (by simp) (List.nil_subset _))).with_pwr _ (by simp)).arbMirror (by simp)
      silent := (State.bit_of_rd (hrd _ (by decide)) 2).trans ((hstat 2).trans hsil)
      armed := (State.bit_of_rd (hrd _ (by decide)) 1).trans ((hstat 1).trans harm)
      arm := (State.bit_of_rd (hrd _ (by decide)) 3).trans ((hstat 3).trans hlow)
      pins := by rw [hw]; exact ⟨rfl, rfl⟩
      index := by rw [hrd _ (by decide), hv, State.rd_wr_same]
      told := (State.bit_of_rd (hrd _ (by decide)) 2).trans ((hevent 2).trans (u.bit_setB_same _ _ _ (by decide)))
      event := fun i hi h => (State.bit_of_rd (hrd _ (by decide)) i).trans ((hevent i).trans (u.bit_setB_set _ _ _ hi ((hu.bit (by decide) i).trans h))) }

/-! ### The stop of a lane (R244, R250, R251) -/

section
variable {s : State} {l : Lane} (j : Nat)

/-- A lane that is not the source leaves the comparison, and the arbiter is UNARMED. -/
theorem State.sluStop_other (h : l ≠ s.srcLane ∨ s.silent = true) : s.sluStop l j = ((s.laneOut l).setB R.SLU_STATUS 1 false).arbMirror := by
  have hsrc : (l == s.srcLane && !s.silent) = false := by
    rcases h with h | h
    · rw [beq_eq_false_iff_ne.2 h, Bool.false_and]
    · rw [h, Bool.not_true, Bool.and_false]
  unfold State.sluStop
  dsimp only
  rw [hsrc, Bool.false_and, State.onIf_false]
  rfl
/-- The source leaves the comparison; the other lane takes over while ARMED, and the arbiter goes SILENT while UNARMED. -/
theorem State.sluStop_source (hl : l = s.srcLane) (hs : s.silent = false) : ∃ u, ChangesOnly [R.SLU_STATUS] [.slu] s u ∧
    (∀ i < 4, u.bit R.SLU_STATUS i = s.bit R.SLU_STATUS i) ∧ u.sluStopped l = true ∧
    s.sluStop l j = if s.armed then u.takeover j else u.goSilent j := by
  obtain ⟨v, hv⟩ : ∃ v, v = s.onIf (s.pastCommit j) (fun s => s.setB R.SLU_STATUS 8 true) := ⟨_, rfl⟩
  have hsv : ChangesOnly [R.SLU_STATUS] [.slu] s v := hv ▸ (ChangesOnly.refl _ _ s).onIf _ fun h => h.setB _ _ (by simp) (by decide)
  have hbit : ∀ i < 4, (v.laneOut l).bit R.SLU_STATUS i = s.bit R.SLU_STATUS i := fun i hi => by
    rw [v.bit_laneOut_low l hi, hv]
    exact State.onIf_keep _ _ _ (fun t => t.bit R.SLU_STATUS i) (s.bit_setB_apart _ _ (by omega) (by omega))
  refine ⟨v.laneOut l, hsv.trans (v.laneOut_changes l), hbit, v.sluStopped_laneOut l, ?_⟩
  have hsrc : (l == s.srcLane && !s.silent) = true := by rw [beq_iff_eq.2 hl, hs]; rfl
  unfold State.sluStop
  dsimp only
  rw [hsrc, Bool.true_and, ← hv, if_pos rfl, show (v.laneOut l).armed = s.armed from hbit 1 (by decide)]
theorem State.sluStop_other_changes : ChangesOnly [R.SLU_STATUS, R.WDN_STATUS] [.slu] s ((s.laneOut l).setB R.SLU_STATUS 1 false).arbMirror :=
  (((s.laneOut_changes l).setB _ _ (by simp) (by decide)).mono (by simp) (List.Subset.refl _)).arbMirror (by simp)
/-- Every stop of a lane keeps the links' messages and the events, and the lane is stopped. -/
theorem State.sluStop_keeps (s : State) (l : Lane) (j : Nat) : (∀ x, (s.sluStop l j).lane x = s.lane x) ∧ (s.sluStop l j).sluStopped l = true ∧
    ∀ i < 32, s.bit R.SLU_EVENTS i = true → (s.sluStop l j).bit R.SLU_EVENTS i = true := by
  by_cases h : l ≠ s.srcLane ∨ s.silent = true
  · rw [State.sluStop_other j h]
    exact ⟨fun x => State.sluStop_other_changes.lane_of (by cases x <;> decide), s.sluStopped_laneOut l,
      fun i _ he => (State.sluStop_other_changes.bit (by decide) i).trans he⟩
  · obtain ⟨hl, hs⟩ := not_or.1 h
    obtain ⟨u, hu, -, hstop, heq⟩ := State.sluStop_source j (not_not.1 hl) (Bool.eq_false_iff.2 hs)
    have hulane : ∀ x, u.lane x = s.lane x := fun x => hu.lane_of (by cases x <;> decide)
    have huevent : ∀ i, u.bit R.SLU_EVENTS i = s.bit R.SLU_EVENTS i := hu.bit (by decide)
    rw [heq]
    cases s.armed with
    | true =>
      have ht := u.takeover_takenOver j
      exact ⟨fun x => (ht.lane x).trans (hulane x), (State.sluStopped_of_links ht.links l).trans hstop, fun i hi he => ht.event i hi ((huevent i).trans he)⟩
    | false =>
      have ht := u.goSilent_silenced j
      exact ⟨fun x => (ht.changes.lane_of (by cases x <;> decide)).trans (hulane x),
        (State.sluStopped_of_links (congrArg Sluice.links (ht.changes.2 .slu (by decide))) l).trans hstop, fun i hi he => ht.event i hi ((huevent i).trans he)⟩
end

/-! ### LANE_STOP, TRIG, and a bad CRC -/

section
variable {s : State} {l : Lane} {m : RMsg} {q : List RMsg}

theorem State.srcLane_of_rd {s t : State} (h : t.rd R.SLU_STATUS = s.rd R.SLU_STATUS) : t.srcLane = s.srcLane := congrArg laneOfBit (State.bit_of_rd h 0)
theorem State.sluStopped_ended (w : State) (h : w.sluStopped l = true) : (s.ended w).sluStopped l = true :=
  (State.sluStopped_of_links (congrArg Sluice.links (s.ended_slu w)) l).trans h
theorem State.rel_ended (w : State) (h : (w.lane l).rel = q) : ((s.ended w).lane l).rel = q := by rw [s.ended_lane]; exact h
theorem State.status_ended (w : State) : (s.ended w).rd R.SLU_STATUS = w.rd R.SLU_STATUS := s.ended_rd w (by decide)

theorem answers_sluLaneStopRx_other (h : SluFront s l 7 m q) (ho : l ≠ s.srcLane ∨ s.silent = true) : Answers (.sluLaneStopRx l true) s (fun t =>
    (t.lane l).rel = q ∧ t.sluStopped l = true ∧ t.comparing l = false ∧ t.armed = false ∧ t.srcLane = s.srcLane ∧ t.silent = s.silent ∧
    Only (among [R.SLU_STATUS]) [lanePart l, .slu] s t) := by
  obtain ⟨n, hn⟩ : ∃ n, n = s.sluNext l m q := ⟨_, rfl⟩
  have hnrd : n.rd R.SLU_STATUS = s.rd R.SLU_STATUS := hn ▸ s.sluNext_rd l m q _
  have ho' : l ≠ n.srcLane ∨ n.silent = true := by
    rw [State.srcLane_of_rd hnrd, show n.silent = s.silent from State.bit_of_rd hnrd 2]; exact ho
  obtain ⟨w, hw⟩ : ∃ w, w = ((n.laneOut l).setB R.SLU_STATUS 1 false).arbMirror := ⟨_, rfl⟩
  have hexec : exec (.sluLaneStopRx l true) s = finish s w := by
    rw [hw, ← State.sluStop_other m.idx ho', hn]
    exact congrArg (finish s) (State.sluTake_front h _)
  have hchg : ChangesOnly [R.SLU_STATUS, R.WDN_STATUS] [.slu] n w := hw ▸ State.sluStop_other_changes
  have hbit : ∀ i < 32, (s.ended w).bit R.SLU_STATUS i = if 1 = i then false else if 4 + laneIx l = i then false else s.bit R.SLU_STATUS i := fun i hi => by
    rw [State.bit_of_rd (State.status_ended w), hw, State.bit_of_rd (State.rd_arbMirror _ (by decide)), State.bit_setB _ _ _ _ hi, State.bit_laneOut _ _ hi,
      State.bit_of_rd hnrd]
  have hix : laneIx l < 2 := by cases l <;> decide
  refine answers_of_finish hexec ⟨State.rel_ended w ?_, State.sluStopped_ended w ?_, ?_, hbit 1 (by decide), congrArg laneOfBit ((hbit 0 (by decide)).trans ?_),
    (hbit 2 (by decide)).trans ?_, ChangesOnly.only (((hn ▸ s.sluNext_changes l m q _ (by simp) (by simp)).trans (hchg.mono (List.Subset.refl _) (by simp)))) ?_⟩
  · rw [hchg.lane_of (by cases l <;> decide), hn, s.sluNext_rel]
  · rw [hw]; exact n.sluStopped_laneOut l
  · refine (hbit (4 + laneIx l) (by omega)).trans ?_
    rw [if_neg (by omega), if_pos rfl]
  · rw [if_neg (by decide), if_neg (by omega)]
  · rw [if_neg (by decide), if_neg (by omega)]; rfl
  · intro k hk
    simp only [List.mem_cons, List.not_mem_nil, or_false] at hk
    rcases hk with rfl | rfl <;> decide
end

end Sys2Proof.Machine
end

section
/-! SUPPORT. A stop of the source lane, triggers, bad CRCs: the last messages on the release links (R244, R250, R251, R349). -/
namespace Sys2Proof.Machine

theorem State.with_rcd_kept (s : State) (x) {p : Part} (hp : p ≠ .rcd) : p.kept s { s with rcd := x } := by
  cases p
  case rcd => exact absurd rfl hp
  case evt => exact ⟨rfl, rfl⟩
  all_goals rfl
theorem ChangesOnly.with_rcd {L : List Nat} {ps : List Part} {s t : State} (h : ChangesOnly L ps s t) (x) (hp : .rcd ∈ ps) :
    ChangesOnly L ps s { t with rcd := x } :=
  h.trans ⟨fun _ _ => rfl, fun _ hq => t.with_rcd_kept x (fun e => hq (e ▸ hp))⟩
theorem ChangesOnly.trigOutSet {L : List Nat} {ps : List Part} {s t : State} (h : ChangesOnly L ps s t) (v : Nat) (hp : .pwr ∈ ps) (ho : .out ∈ ps) :
    ChangesOnly L ps s (t.trigOutSet v) := by
  refine List.foldlRecOn _ _ (h.with_pwr _ hp) fun u hu n _ => ?_
  split
  · exact hu
  · exact hu.emit _ ho
theorem State.trigOutSet_rcd (s : State) (v : Nat) : (s.trigOutSet v).rcd = s.rcd := by
  unfold State.trigOutSet
  exact foldl_keep _ State.rcd (fun s n => by split <;> rfl) _ _
theorem State.trigOutSet_slu (s : State) (v : Nat) : (s.trigOutSet v).slu = s.slu := by
  unfold State.trigOutSet
  exact foldl_keep _ State.slu (fun s n => by split <;> rfl) _ _

section
variable {s : State} {l : Lane} {m : RMsg} {q : List RMsg}

/-- A stop of the source while ARMED: the other lane takes over. -/
theorem answers_sluLaneStopRx_takeover (h : SluFront s l 7 m q) (hl : l = s.srcLane) (hs : s.silent = false) (ha : s.armed = true) :
    Answers (.sluLaneStopRx l true) s (fun t =>
      (t.lane l).rel = q ∧ t.sluStopped l = true ∧ t.srcLane = otherLane l ∧ t.armed = false ∧ t.silent = false ∧
      t.rd R.SLU_STOP_INDEX = m.idx % 4294967296 ∧ t.rd R.SLU_TAKEOVERS = min 4294967295 (s.rd R.SLU_TAKEOVERS + 1) ∧
      t.bit R.SLU_EVENTS 0 = true ∧ t.rd R.WDN_LAST_INDEX = m.idx % 4294967296 ∧
      t.rd R.WDN_SWITCHES = min 4294967295 (s.rd R.WDN_SWITCHES + 1)) := by
  have hnrd := s.sluNext_rd l m q
  obtain ⟨u, hu, hbit, hstop, heq⟩ := State.sluStop_source (s := s.sluNext l m q) (l := l) m.idx (by rw [State.srcLane_of_rd (hnrd _)]; exact hl)
    ((State.bit_of_rd (hnrd _) 2).trans hs)
  rw [show (s.sluNext l m q).armed = true from (State.bit_of_rd (hnrd _) 1).trans ha, if_pos rfl] at heq
  have ht := u.takeover_takenOver m.idx
  obtain ⟨w, hw⟩ : ∃ w, w = u.takeover m.idx := ⟨_, rfl⟩
  rw [← hw] at ht heq
  have hexec : exec (.sluLaneStopRx l true) s = finish s w := by
    rw [← heq]
    exact congrArg (finish s) (State.sluTake_front h _)
  have hurd : ∀ k, k ≠ R.SLU_STATUS → u.rd k = s.rd k := fun k hk => (hu.rd_other (by simp [hk])).trans (hnrd k)
  have hsrc : u.srcLane = l := (congrArg laneOfBit ((hbit 0 (by decide)).trans (State.bit_of_rd (hnrd _) 0))).trans hl.symm
  refine answers_of_finish hexec ⟨State.rel_ended w ?_, State.sluStopped_ended w ((State.sluStopped_of_links ht.links l).trans hstop), ?_,
    (State.bit_of_rd (State.status_ended w) 1).trans ht.armed, (State.bit_of_rd (State.status_ended w) 2).trans ht.silent,
    (s.ended_rd w (by decide)).trans ht.index, ?_, (s.ended_bit w (by decide) 0).trans ht.told, (s.ended_rd w (by decide)).trans ht.last, ?_⟩
  · rw [ht.lane, hu.lane_of (by cases l <;> decide), s.sluNext_rel]
  · rw [State.srcLane_of_rd (State.status_ended w), ht.source, hsrc]
  · rw [s.ended_rd w (by decide), ht.count, hurd _ (by decide)]
  · rw [s.ended_rd w (by decide), ht.switches, hurd _ (by decide)]
/-- A stop of the source while UNARMED: the arbiter goes SILENT. -/
theorem answers_sluLaneStopRx_silent (h : SluFront s l 7 m q) (hl : l = s.srcLane) (hs : s.silent = false) (ha : s.armed = false) :
    Answers (.sluLaneStopRx l true) s (fun t =>
      (t.lane l).rel = q ∧ t.sluStopped l = true ∧ t.silent = true ∧ t.armed = false ∧ t.bit R.SLU_STATUS 3 = false ∧
      t.pwr.doutPins = 0 ∧ t.pwr.doutArm = false ∧ t.rd R.SLU_STOP_INDEX = m.idx % 4294967296 ∧ t.bit R.SLU_EVENTS 2 = true ∧
      Only (among [R.SLU_STATUS, R.SLU_STOP_INDEX, R.SLU_EVENTS]) [lanePart l, .slu, .pwr] s t) := by
  have hnrd := s.sluNext_rd l m q
  obtain ⟨u, hu, -, hstop, heq⟩ := State.sluStop_source (s := s.sluNext l m q) (l := l) m.idx (by rw [State.srcLane_of_rd (hnrd _)]; exact hl)
    ((State.bit_of_rd (hnrd _) 2).trans hs)
  rw [show (s.sluNext l m q).armed = false from (State.bit_of_rd (hnrd _) 1).trans ha, if_neg (by decide)] at heq
  have ht := u.goSilent_silenced m.idx
  obtain ⟨w, hw⟩ : ∃ w, w = u.goSilent m.idx := ⟨_, rfl⟩
  rw [← hw] at ht heq
  have hexec : exec (.sluLaneStopRx l true) s = finish s w := by
    rw [← heq]
    exact congrArg (finish s) (State.sluTake_front h _)
  obtain ⟨a, b, hpwr⟩ := s.ended_pwr w
  obtain ⟨hpins, harm⟩ := ht.pins
  have hlinks : w.slu.links = u.slu.links := congrArg Sluice.links (ht.changes.2 .slu (by decide))
  refine answers_of_finish hexec ⟨State.rel_ended w ?_, State.sluStopped_ended w ((State.sluStopped_of_links hlinks l).trans hstop),
    (State.bit_of_rd (State.status_ended w) 2).trans ht.silent, (State.bit_of_rd (State.status_ended w) 1).trans ht.armed,
    (State.bit_of_rd (State.status_ended w) 3).trans ht.arm, by rw [hpwr]; exact hpins, by rw [hpwr]; exact harm, (s.ended_rd w (by decide)).trans ht.index,
    (s.ended_bit w (by decide) 2).trans ht.told, ChangesOnly.only ((s.sluNext_changes l m q _ (by simp) (by simp)).trans
      ((hu.mono (by simp) (by simp)).trans (ht.changes.mono (List.Subset.refl _) (by simp)))) (by decide)⟩
  rw [ht.changes.lane_of (by cases l <;> decide), hu.lane_of (by cases l <;> decide), s.sluNext_rel]

theorem answers_sluTrigRx (h : SluFront s l 8 m q) (hl : l = s.srcLane)
    (hlast : s.rcd.lastTrig = none ∨ (∃ k, s.rcd.lastTrig = some k ∧ idxLater m.idx k = true)) (hts : s.trigSilent = false) :
    Answers (.sluTrigRx l true) s (fun t =>
      SluTaken s t l m q ∧ t.rcd = { s.rcd with lastTrig := some m.idx } ∧ t.pwr.trigOut = s.pwr.trigOut ||| (m.pay % 16) ∧
      Only (fun _ => false) [lanePart l, .slu, .rcd, .pwr, .out] s t) := by
  obtain ⟨n, hn⟩ : ∃ n, n = s.sluNext l m q := ⟨_, rfl⟩
  have hnrd : ∀ k, n.rd k = s.rd k := hn ▸ s.sluNext_rd l m q
  have hrcd : n.rcd = s.rcd := by rw [hn]; cases l <;> rfl
  have hpwr : n.pwr = s.pwr := by rw [hn]; cases l <;> rfl
  obtain ⟨u, hu⟩ : ∃ u, u = ({ n with rcd := { n.rcd with lastTrig := some m.idx } } : State) := ⟨_, rfl⟩
  have hcond : (!(l == n.srcLane) || (match n.rcd.lastTrig with | some k => !idxLater m.idx k | none => false)) = false := by
    rw [State.srcLane_of_rd (hnrd _), ← hl, beq_self_eq_true, Bool.not_true, Bool.false_or, hrcd]
    rcases hlast with h0 | ⟨k, h0, hlater⟩
    · rw [h0]
    · rw [h0]; exact congrArg (!·) hlater
  have hsil : u.trigSilent = false := by
    rw [hu, ← hts]
    exact congrArg₂ (· && ·) (State.bit_of_rd (hnrd _) 2) (State.bit_of_rd (hnrd _) 31)
  have hexec : exec (.sluTrigRx l true) s = finish s (u.trigOutSet (u.pwr.trigOut ||| (m.pay % 16))) := by
    refine congrArg (finish s) ((State.sluTake_front h _).trans ?_)
    rw [← hn]
    refine (if_neg (ne_true_of_eq_false hcond)).trans ?_
    rw [← hu]
    dsimp only
    rw [hsil]
    rfl
  obtain ⟨a, b, hend⟩ := s.ended_pwr (u.trigOutSet (u.pwr.trigOut ||| (m.pay % 16)))
  have hchg : ChangesOnly [] [.rcd, .pwr, .out] n (u.trigOutSet (u.pwr.trigOut ||| (m.pay % 16))) :=
    ChangesOnly.trigOutSet (hu ▸ (ChangesOnly.refl _ _ n).with_rcd _ (by simp)) _ (by simp) (by simp)
  refine answers_of_finish hexec ⟨sluTaken_ended ?_ ?_, ?_, ?_,
    ChangesOnly.only ((hn ▸ s.sluNext_changes l m q [] (by simp) (by simp)).trans
      (hchg.mono (List.Subset.refl _) (by simp))) fun _ hk => absurd hk List.not_mem_nil⟩
  · rw [hchg.lane_of (by cases l <;> decide), hn, s.sluNext_rel]
  · rw [State.trigOutSet_slu, hu, hn]
  · rw [s.ended_rcd, State.trigOutSet_rcd, hu, hrcd]
  · rw [hend, State.trigOutSet_pwr, hu, hpwr]

/-- A bad CRC: the lane is stopped, RELEASE_LINK is set and the wardens are told. -/
theorem answers_bad_crc {c : Instr} (hexec : exec c s = finish s ((s.relLeft l q).linkErr l)) : Answers c s (fun t =>
    (t.lane l).rel = q ∧ t.sluStopped l = true ∧ t.bit R.SLU_EVENTS 4 = true ∧ t.bit (R.WDN_HEALTH (laneIx l)) 3 = true) := by
  obtain ⟨u, hu⟩ : ∃ u, u = ((s.relLeft l q).addSatF R.SLU_LINK_ERR (16 * laneIx l + 15) (16 * laneIx l) 1).setB R.SLU_EVENTS 4 true := ⟨_, rfl⟩
  obtain ⟨v, hv⟩ : ∃ v, v = u.sluStop l (u.afterDone l) := ⟨_, rfl⟩
  have herr : (s.relLeft l q).linkErr l = v.healthBit l 3 := by rw [hv, hu]; rfl
  rw [herr] at hexec
  obtain ⟨hlane, hstop, hevent⟩ := hv ▸ u.sluStop_keeps l (u.afterDone l)
  have hslu : (v.healthBit l 3).slu = v.slu := (v.healthBit_changes l 3).2 .slu List.not_mem_nil
  refine answers_of_finish hexec ⟨State.rel_ended _ ?_,
    State.sluStopped_ended _ ((State.sluStopped_of_links (congrArg Sluice.links hslu) l).trans hstop), ?_, ?_⟩
  · rw [State.lane_healthBit, hlane, hu]
    cases l <;> rfl
  · rw [s.ended_bit _ (by decide), (v.healthBit_changes l 3).bit (by cases l <;> decide)]
    exact hevent 4 (by decide) (hu ▸ State.bit_setB_same _ _ _ _ (by decide))
  · rw [s.ended_bit _ (by cases l <;> decide)]
    exact v.bit_healthBit l (by decide)
end

/-- Settles O40: each message is taken from its link, and its own operations, on provisional items, on records, or on the arbiter, do what is said. -/
theorem sluiceMessages : Obligations.SluiceMessages := by
  unfold Obligations.SluiceMessages
  refine ⟨fun s l m q => answers_sluProvRx, fun s l m q => answers_sluFinalRx, fun s l m q items => answers_sluConfirmRx, fun s l m q => answers_sluSquashRx,
    fun s l m q => answers_sluNoneRx, fun s l m q => answers_sluDoneRx, fun s l m q => answers_sluLaneStopRx_other,
    fun s l m q => answers_sluLaneStopRx_takeover, fun s l m q => answers_sluLaneStopRx_silent, fun s l m q => answers_sluTrigRx, ?_⟩
  intro s l m q h c hc htyp
  have hbad : ∀ typ f, m.typ = typ → s.sluTake l typ false f = (s.relLeft l q).linkErr l := fun typ f ht => State.sluTake_bad (ht ▸ h) f
  refine answers_bad_crc ?_
  simp only [List.mem_cons, List.not_mem_nil, or_false] at hc
  rcases hc with rfl | rfl | rfl | rfl | rfl | rfl | rfl | rfl <;> exact congrArg (finish s) (hbad _ _ htyp)

end Sys2Proof.Machine
end

section
/-! SUPPORT. Retransmissions, minimum times of lines, and the comparison's window and latch (R247, R248, R252). -/
namespace Sys2Proof.Machine

theorem bitSum_eq_if (f : Nat → Bool) (n : Nat) :
    (List.range n).foldl (fun a i => if f i then a + 2 ^ i else a) 0 = (List.range n).foldl (fun a i => a + b2n (f i) * 2 ^ i) 0 := by
  refine List.foldl_ext _ _ _ fun a i _ => ?_
  cases f i <;> simp [b2n]
/-- A line is at operate while its state or its minimum time asks for it, where it is enabled and DOUT_ARM is high. -/
def State.atOperate (s : State) (n : Nat) : Bool :=
  s.bit R.SLU_STATUS 3 && (s.fld R.PCM_STATUS 2 0 == 2 || s.fld R.PCM_STATUS 2 0 == 4) &&
    s.bit (R.SLU_DOUT_CFG n) 0 && (s.bit R.SLU_DOUT_STATE n || s.slu.minOn.contains n)
theorem State.testBit_doutDrive (s : State) {n : Nat} (hn : n < 16) : s.doutDrive.pwr.doutPins.testBit n = s.atOperate n :=
  (congrArg (Nat.testBit · n) (bitSum_eq_if s.atOperate 16)).trans (testBit_bitSum s.atOperate hn)

section
variable (s : State)

/-! ### Retransmissions of a GOOSE template (R247) -/

/-- The sequence number of the next transmission: 0 is skipped. -/
def State.nextSq (s : State) (n : Nat) : Nat := if s.rd (R.SLU_TPL_STAT2 n) = 4294967295 then 1 else s.rd (R.SLU_TPL_STAT2 n) + 1
/-- A template's own state after a retransmission `e` ms after the change of state, of the buffer `b`. -/
def State.retransmitted (s : State) (n e : Nat) (b : Bytes) : TplRt :=
  { s.tplRt n with rel := some (s.gooseStamp n (s.rd (R.SLU_TPL_STAT1 n)) (s.nextSq n) (2 * s.retxAfter n e) b),
                   retx := some (min (e + s.retxAfter n e) (2 * s.tMax n)) }
theorem State.gooseRetransmit_some {s : State} {n e : Nat} {b : Bytes} (hx : (s.tplRt n).retx = some e) (hb : (s.tplRt n).rel = some b) :
    SwitchSide ((s.wr (R.SLU_TPL_STAT2 n) (s.nextSq n)).setTpl n (s.retransmitted n e b)) (s.gooseRetransmit n) := by
  unfold State.gooseRetransmit
  rw [hx, hb]
  exact State.tplSend_side _ n _
theorem State.gooseRetransmit_none {s : State} {n : Nat} (h : (s.tplRt n).retx = none ∨ (s.tplRt n).rel = none) : s.gooseRetransmit n = s := by
  unfold State.gooseRetransmit
  rcases h with h | h
  · rw [h]
  · rw [h]
    cases (s.tplRt n).retx <;> rfl
theorem answers_gooseRetransmit {s : State} {n : Tpl} {e : Nat} {b : Bytes} (hx : (s.tplRt n).retx = some e) (hb : (s.tplRt n).rel = some b) :
    Answers (.gooseRetransmit n) s (fun t => t.rd (R.SLU_TPL_STAT2 n) = s.nextSq n % 4294967296 ∧
      t.slu = { s.slu with tpl := mapPut s.slu.tpl n.val (s.retransmitted n e b) }) := by
  have hside := State.gooseRetransmit_some hx hb
  have hn := n.isLt
  refine answers_of_finish rfl ⟨?_, (s.ended_slu _).trans hside.slu⟩
  rw [s.ended_rd _ (settleKey_sluice (by unfold R.SLU_TPL_STAT2; omega) (by unfold R.SLU_TPL_STAT2; omega)), hside.rd _ (by unfold R.SLU_TPL_STAT2; omega)]
  exact s.rd_wr_same _ _

/-! ### Minimum times of lines (R248) -/

theorem answers_doutMinOnEnd (n : Fin 16) : Answers (.doutMinOnEnd n) s (fun t =>
    t.slu = { s.slu with minOn := s.slu.minOn.filter (· != n.val) } ∧
    (∀ m, m < 16 → t.pwr.doutPins.testBit m = (s.bit R.SLU_STATUS 3 && (s.fld R.PCM_STATUS 2 0 == 2 || s.fld R.PCM_STATUS 2 0 == 4) &&
      s.bit (R.SLU_DOUT_CFG m) 0 && (s.bit R.SLU_DOUT_STATE m || t.slu.minOn.contains m))) ∧
    Only (fun _ => false) [.slu, .pwr] s t) := by
  obtain ⟨u, hu⟩ : ∃ u : State, u = { s with slu := { s.slu with minOn := s.slu.minOn.filter (· != n.val) } } := ⟨_, rfl⟩
  have hslu : (s.ended u.doutDrive).slu = u.slu := s.ended_slu u.doutDrive
  obtain ⟨a, b, hpwr⟩ := s.ended_pwr u.doutDrive
  refine answers_of_finish (congrArg (fun u : State => finish s u.doutDrive) hu.symm) ⟨by rw [hslu, hu], fun m hm => ?_, ?_⟩
  · rw [hslu, hpwr]
    refine (u.testBit_doutDrive hm).trans ?_
    rw [hu]
    rfl
  · exact ((hu ▸ (ChangesOnly.refl [] _ s).with_slu _ (by simp)).doutDrive (by simp)).only fun _ hk => absurd hk List.not_mem_nil

/-! ### The comparison's window and latch (R252) -/

/-- The wardens are told of a divergence in registers of their own. -/
theorem State.wdnDiverge_changes : ChangesOnly [R.WDN_EVENTS, R.WDN_HEALTH 0, R.WDN_HEALTH 1] [] s s.wdnDiverge :=
  ((ChangesOnly.refl _ _ s).setB _ _ (by simp) (by decide)).onIf _ fun h => (h.setB _ _ (by simp) (by decide)).setB _ _ (by simp) (by decide)
/-- A difference is counted, and the first one is latched. -/
theorem State.diverge_spec (info k : Nat) : (s.diverge info k).slu = { s.slu with divLatched := true } ∧
    (s.diverge info k).rd R.SLU_DIV_COUNT = min 4294967295 (s.rd R.SLU_DIV_COUNT + 1) ∧ (s.diverge info k).bit R.SLU_EVENTS 3 = true ∧
    (s.slu.divLatched = false → (s.diverge info k).rd R.SLU_DIV_INFO = info % 4294967296 ∧ (s.diverge info k).rd R.SLU_DIV_INDEX = k % 4294967296) ∧
    (s.slu.divLatched = true → (s.diverge info k).rd R.SLU_DIV_INFO = s.rd R.SLU_DIV_INFO ∧ (s.diverge info k).rd R.SLU_DIV_INDEX = s.rd R.SLU_DIV_INDEX) ∧
    ChangesOnly [R.SLU_DIV_COUNT, R.SLU_EVENTS, R.SLU_DIV_INFO, R.SLU_DIV_INDEX, R.WDN_HEALTH 0, R.WDN_HEALTH 1, R.WDN_EVENTS] [.slu] s (s.diverge info k) := by
  obtain ⟨u, hu⟩ : ∃ u, u = (s.addSat R.SLU_DIV_COUNT 1).setB R.SLU_EVENTS 3 true := ⟨_, rfl⟩
  obtain ⟨v, hv⟩ : ∃ v, v = if u.slu.divLatched then u
    else (({ u with slu := { u.slu with divLatched := true } } : State).wr R.SLU_DIV_INFO info).wr R.SLU_DIV_INDEX k := ⟨_, rfl⟩
  have heq : s.diverge info k = v.wdnDiverge := by rw [hv, hu]; rfl
  have hsu : ChangesOnly [R.SLU_DIV_COUNT, R.SLU_EVENTS] [] s u := hu ▸ ((ChangesOnly.refl _ _ s).addSat _ (by simp) (by decide)).setB _ _ (by simp) (by decide)
  have huslu : u.slu = s.slu := by rw [hu]; rfl
  have huv : ChangesOnly [R.SLU_DIV_INFO, R.SLU_DIV_INDEX] [.slu] u v := by
    rw [hv]
    split
    · exact .refl _ _ u
    · exact (((ChangesOnly.refl _ _ u).with_slu _ (by simp)).wr _ (by simp) (by decide)).wr _ (by simp) (by decide)
  have hrd : ∀ j, j ∉ [R.WDN_EVENTS, R.WDN_HEALTH 0, R.WDN_HEALTH 1] → (s.diverge info k).rd j = v.rd j := fun j hj => by
    rw [heq]; exact v.wdnDiverge_changes.rd_other hj
  have hvslu : (s.diverge info k).slu = v.slu := by rw [heq]; exact v.wdnDiverge_changes.2 .slu List.not_mem_nil
  have hchg : ChangesOnly [R.SLU_DIV_COUNT, R.SLU_EVENTS, R.SLU_DIV_INFO, R.SLU_DIV_INDEX, R.WDN_HEALTH 0, R.WDN_HEALTH 1, R.WDN_EVENTS]
      [.slu] s (s.diverge info k) := by
    rw [heq]
    exact ((hsu.mono (by simp) (by simp)).trans (huv.mono (by simp) (by simp))).trans (v.wdnDiverge_changes.mono (by simp) (by simp))
  refine ⟨?_, ?_, ?_, fun hl => ?_, fun hl => ?_, hchg⟩
  · rw [hvslu, hv, huslu]
    cases hl : s.slu.divLatched with
    | false => rw [if_neg (by decide)]; rfl
    | true => rw [if_pos rfl, huslu, ← hl]
  · rw [hrd _ (by decide), huv.rd_other (by decide), hu, State.rd_setB, if_neg (by decide), State.rd_addSat, if_pos rfl]
  · rw [State.bit_of_rd (hrd R.SLU_EVENTS (by decide)), huv.bit (by decide), hu]
    exact State.bit_setB_same _ _ _ _ (by decide)
  · rw [huslu, hl, if_neg (by decide)] at hv
    rw [hrd _ (by decide), hrd _ (by decide), hv]
    exact ⟨(State.rd_wr_other _ _ (by decide)).trans (State.rd_wr_same _ _ _), State.rd_wr_same _ _ _⟩
  · rw [huslu, hl, if_pos rfl] at hv
    rw [hrd _ (by decide), hrd _ (by decide), hv]
    exact ⟨hsu.rd_other (by decide), hsu.rd_other (by decide)⟩
theorem answers_cmpWindowExpire {s : State} {l : Lane} {v : Vi} {k : Word} {r : SluRec}
    (hr : s.slu.recs.find? (fun r => r.lane == l && r.vi == v.val && r.idx == k.toNat) = some r) (hc : s.compared k.toNat = true) :
    Answers (.cmpWindowExpire l v k) s (fun t =>
      t.slu.recs = s.slu.recs.filter (fun q => !(q == r && q.done)) ∧ t.slu.divLatched = true ∧
      t.rd R.SLU_DIV_COUNT = min 4294967295 (s.rd R.SLU_DIV_COUNT + 1) ∧ t.bit R.SLU_EVENTS 3 = true ∧
      (s.slu.divLatched = false → t.rd R.SLU_DIV_INFO = v.val + 3 * 1048576 ∧ t.rd R.SLU_DIV_INDEX = k.toNat) ∧
      (s.slu.divLatched = true → t.rd R.SLU_DIV_INFO = s.rd R.SLU_DIV_INFO ∧ t.rd R.SLU_DIV_INDEX = s.rd R.SLU_DIV_INDEX) ∧
      Only (among [R.SLU_DIV_COUNT, R.SLU_EVENTS, R.SLU_DIV_INFO, R.SLU_DIV_INDEX, R.WDN_HEALTH 0, R.WDN_HEALTH 1]) [.slu] s t) := by
  obtain ⟨u, hu⟩ : ∃ u, u = s.diverge (v.val + 3 * 1048576) k.toNat := ⟨_, rfl⟩
  obtain ⟨hslu, hcount, hevent, hfirst, hlater, hchg⟩ := s.diverge_spec (v.val + 3 * 1048576) k.toNat
  rw [← hu] at hslu hcount hevent hfirst hlater hchg
  have hexec : exec (.cmpWindowExpire l v k) s = finish s { u with slu := { u.slu with recs := u.slu.recs.filter (fun q => !(q == r && q.done)) } } := by
    refine (congrArg (finish s) ?_ : _ = _)
    rw [hr]
    exact (if_pos hc).trans (by rw [hu])
  have hv := v.isLt
  have hk := k.isLt
  refine answers_of_finish hexec ⟨?_, ?_, (s.ended_rd _ (by decide)).trans hcount, (s.ended_bit _ (by decide) 3).trans hevent, fun h => ?_, fun h => ?_,
    (hchg.with_slu _ (by simp)).only (by decide)⟩
  · rw [s.ended_slu, hslu]
  · rw [s.ended_slu, hslu]
  · obtain ⟨hinfo, hindex⟩ := hfirst h
    exact ⟨(s.ended_rd _ (by decide)).trans (hinfo.trans (Nat.mod_eq_of_lt (by omega))), (s.ended_rd _ (by decide)).trans (hindex.trans (Nat.mod_eq_of_lt hk))⟩
  · obtain ⟨hinfo, hindex⟩ := hlater h
    exact ⟨(s.ended_rd _ (by decide)).trans hinfo, (s.ended_rd _ (by decide)).trans hindex⟩
theorem answers_divRearm : Answers .divRearm s (fun t => t.slu = { s.slu with divLatched := false } ∧ Only (fun _ => false) [.slu] s t) :=
  answers_of_finish rfl ⟨s.ended_slu _, ((ChangesOnly.refl [] _ s).with_slu _ (by simp)).only fun _ hk => absurd hk List.not_mem_nil⟩
end

/-- Settles O41: the retransmission enters the switch, which leaves the sluice; each other command writes what it says. -/
theorem sluiceCommands : Obligations.SluiceCommands := by
  unfold Obligations.SluiceCommands
  exact ⟨fun s n e b => answers_gooseRetransmit, fun s n h => answers_nothing (congrArg (finish s) (State.gooseRetransmit_none h)), answers_doutMinOnEnd,
    fun s l v k r => answers_cmpWindowExpire, answers_divRearm⟩

end Sys2Proof.Machine
end
